-- ==== Sys2Proof/Types.lean ====
section
/-!
DEFINITION. The data that commands carry: transaction-layer packets, the functions and fields of the configuration space that hosts
see (R96, R98), initiators and privilege levels (R233), and the small named choices of the commands' operands.
-/

namespace Sys2Proof

/-- The kinds of TLP that the checks and the lookup tell apart (R143, R242). -/
inductive TlpKind where
  | mrd | mwr | atomic | iord | iowr | cfgrd | cfgwr | dmwr | msg | cpl
  deriving DecidableEq, Repr

/-- The functions that hosts see (R96), by virtual switch, and for a member by vDSP slot and presented function. -/
inductive FnId where
  | up (vs : Nat)
  | mgmt
  | vdsp (vs slot : Nat)
  | dmp (vs : Nat)
  | dmf (i : Nat)
  | mem (vs slot f : Nat)
  deriving DecidableEq, Repr

/-- The configuration fields to which the spec gives an effect. The spec states no capability offsets, so a configuration request names
the field that it addresses. Addresses of windows and BARs are kept as whole byte addresses. -/
inductive CfgF where
  | busPri | busSec | busSub
  | memBase | memLimit | prefBase | prefLimit | ioBase | ioLimit
  | bme | mse | mps | mrrs | relaxed | extTag
  | intDisable | intLine | bar (k : Nat)
  | aspmL1 | linkDisable | targetSpeed | slotPower | slotIrqEn | attnInd | pwrInd
  | presence | presenceChanged | attnButton | dllActive | dllChanged
  | dpcEnable | dpcTrigger | dpcReason | dpcIrqEn
  | acsSv | acsTb | acsRedirect | acsEgress | acsEgressVec | acsDirect
  | ecrcCheck | ecrcGen | aerUncMask
  | aerMalformed | aerUr | aerAcs | aerEcrc | aerPoisoned | aerUnexpected | aerInternal | aerSurpriseDown | aerTranslation | aerBadTlp
  | aerUncSeverity
  | vfEnable | numVfs | vfMse | ltr | ltrSent
  | vendorId | deviceId | linkSpeed | linkWidth
  | revision | classCode | subVendor | subDevice | aspmSup | mpsSup
  | totalVfs | initialVfs | vfOffset | vfStride | vfDeviceId | vfPages | vfMigration
  | other (off : Nat)
  deriving DecidableEq, Repr

/-- The routing of a message (R143). -/
inductive MsgRoute where
  | toRoot | byId | broadcast | localTerm
  deriving DecidableEq, Repr

/-- A TLP. `addr` and `len` give the first byte and the number of bytes; `tid` the target of a configuration request or ID-routed
message; `fld` the configuration field addressed; `cfg0` marks a configuration request of Type 0; `carries` says which link mode cannot represent its content (R72): 0 both can, 1 not
Flit Mode, 2 not non-Flit. -/
structure Tlp where
  kind : TlpKind
  rid : Nat := 0
  tag : Nat := 0
  addr : Nat := 0
  len : Nat := 0
  data : List Byte := []
  tc : Nat := 0
  ro : Bool := false
  ido : Bool := false
  at_ : Nat := 0
  poison : Bool := false
  ecrc : Bool := false
  ecrcBad : Bool := false
  idePrefix : Bool := false
  malformed : Bool := false
  carries : Nat := 0
  tid : Nat := 0
  fld : CfgF := .other 0
  route : MsgRoute := .toRoot
  code : Nat := 0
  cid : Nat := 0
  status : Nat := 0
  byteCount : Nat := 0
  mode : Nat := 0
  cfg0 : Bool := false
  deriving DecidableEq, Repr

/-- The outcome of the link integrity check of an arriving TLP (R142, R160, R95). -/
inductive LinkChk where
  | good
  | replayed
  | badTail
  deriving DecidableEq, Repr

/-- What a router finds in the flit that it forwards (R180, R182): nothing, a corrected group, an uncorrectable body group or body
sideband, both header copies or a head's sideband uncorrectable. -/
inductive FlitErr where
  | none | corrected | bodyUe | headUe
  deriving DecidableEq, Repr

/-- What a ledger station finds when it reads the two copies of an entry (R389): both clean and equal, a disagreement while the even slice holds an
unfinished write, one copy with an uncorrectable error, or neither copy readable or a disagreement that nothing resolves. -/
inductive LedChk where
  | clean | resolved | ueEven | ueOdd | lost
  deriving DecidableEq, Repr

/-- The initiators of a register access (R233, R570). `relay` is the Bellwether relay. -/
inductive Init where
  | core (c : Fin 4)
  | owner
  | sideband
  | relay
  | mule (m : Fin 64)
  | tenant (i : Fin 1072)
  | sec
  | tel
  deriving DecidableEq, Repr

/-- The privilege levels (R233). -/
inductive Level where
  | v | o | t
  deriving DecidableEq, Repr

/-- The error triples: each backs one event source, and a Mule's triple backs four (R452, R454). -/
inductive Trip where
  | port (p e : Nat)
  | tile (t r : Nat)
  | mule (m : Nat)
  | router (n : Nat)
  | ssl (k : Nat)
  | lsl (k : Nat)
  | glb | cpw | gsv | mgr | sec | fab | vst | pmg | dmg
  deriving DecidableEq, Repr

/-- What a chunk's reads brought: the bytes of the source (buffer A) and of buffer B, and a failure (status of R382, 0 for none) with the
offset within LEN at which it occurred. -/
structure ChunkGot where
  a : List Byte := []
  b : List Byte := []
  err : Nat := 0
  off : Nat := 0
  deriving DecidableEq, Repr

/-! ### Koryan Fabric Protocol packets (R277, R280) -/

/-- A data packet of a trunk (R277, R278): the fields of its header and trailer, and its TLP. `good` says that its CRC-32C holds. -/
structure KData where
  tseq : Nat
  prev : Nat := 0
  prevV : Bool := false
  resend : Bool := false
  ack : Nat := 0
  sc : Nat := 0
  kind : Nat := 0
  mark : Bool := false
  dst : Nat := 0
  src : Nat := 0
  tlp : Tlp
  good : Bool := true
  stomp : Nat := 0
  deriving DecidableEq, Repr

/-- A HELLO (R280). -/
structure Hello where
  verMaj : Nat := 1
  verMin : Nat := 1
  device : Nat := 0x3F
  trunkPort : Nat := 0
  member : Nat := 0
  width : Nat := 0
  nonce : Nat := 0
  up : Bool := false
  deriving DecidableEq, Repr

/-- What a trunk member sends: a data packet, a control packet of R280 (JOIN: 0 ACCEPT, 1 LEAVE, 2 REQUEST), a wake burst (R52) or a short
retrain (R54). -/
inductive KMsg where
  | data (k : KData)
  | ack (cum xoff : Nat)
  | nak (cum member : Nat) (vals : List Nat)
  | fc (xoff : Nat)
  | echo (sc gpid count : Nat)
  | doze (member : Nat) (reply : Bool)
  | join (member kind : Nat)
  | hello (h : Hello)
  | wake
  | shortRetrain
  deriving DecidableEq, Repr

/-! ### The management command ring (R477 to R484) -/

/-- A BAR of a function group's member: BAR number, bytes, and its address in the shared port's private space (R129). -/
structure BarX where
  k : Nat
  size : Nat
  real : Nat
  deriving DecidableEq, Repr

/-- A function that the firmware found behind a shared port: real requester ID, NumVFs for a physical function, whether it is a virtual
function, and its BARs (R110). -/
structure SharedFn where
  rid : Nat
  numVfs : Nat
  isVf : Bool := false
  bars : List BarX
  deriving DecidableEq, Repr

/-- Who issues an MCR command and its header: ORIG and ORIG_ID of R491, and FLAGS.IRQ, DEV and USER of R480. -/
structure McrCx where
  orig : Nat := 0
  origId : Nat := 0
  dev : Nat := 0x3F
  irq : Bool := false
  user : Nat := 0
  deriving DecidableEq, Repr

/-- What the world answers while a command runs: the bytes of the host buffer (none: the read failed), whether a write of the host buffer,
the fuses or the keys succeeded, the functions that the firmware found behind a shared port (none: they do not fit), the completion
that a configuration request received (status and data; none: a synthetic completion), and the upstream port of a virtual switch of another
device. -/
structure McrEnv where
  buf : Option (List Byte) := none
  ok : Bool := true
  fns : Option (List SharedFn) := none
  cpl : Option (Nat × Nat) := none
  up : Nat := 0
  deriving DecidableEq, Repr

/-- The MCR commands with their parameters (R484). -/
inductive McrOp where
  | nop
  | bankReset (set : Nat)
  | vsCreate (vs port slots : Nat)
  | vsDelete (vs : Nat)
  | vsTcmap (vs map : Nat)
  | bind (vs slot port : Nat)
  | bindGroup (vs slot : Nat) (mem : List (Nat × Nat × Nat))
  | bindRemote (vs slot gpid : Nat)
  | unbind (vs slot mode wait : Nat)
  | errCfg (vs slot synth : Nat)
  | bindRead (vs slot buf : Nat)
  | sharedSet (port buses mps mrrs base limit : Nat) (numVfs : List Nat)
  | sharedClr (port : Nat)
  | fnCfg (port rid off write be data : Nat)
  | dmVf (vs count : Nat)
  | winWrite (bank port entry flags base limit mask dst : Nat)
  | winSwap
  | gateWrite (bank slot part en v o t base limit : Nat)
  | gateSwap
  | reachSet (entry kind flags src tvs tinst base limit : Nat)
  | reachClear (entry : Nat)
  | progLoad (slot addr len mask : Nat)
  | progUnload (slot : Nat)
  | shapeSet (ix : Nat) (cfg lim : W64)
  | ideKey (port op : Nat)
  | statsSnap (group first count buf : Nat)
  | jnlMirror (size en base db : Nat)
  | keyFuse (slot addr : Nat)
  | keyRevoke (kind slot : Nat)
  | svnCommit (kind svn : Nat)
  | mgmtRestart
  deriving DecidableEq, Repr

/-! ### The fabric (chapter 10) -/

/-- One change that a fabric transaction makes on a device: a remote binding of a vDSP (virtual switch, slot, GPID) and its removal, the mark
that a port is remote-bound to an upstream port's GPID and its removal, a route (destination device, egress, next device, hops), and the
clearing of the remote windows that name a port (R317, R329, R332, R334). -/
inductive FabChg where
  | bind (v sl gpid : Nat)
  | unbind (v sl : Nat)
  | rbind (port gpid : Nat)
  | runbind (port : Nat)
  | route (d egress next hops : Nat)
  | rwinClear (gpid : Nat)
  deriving DecidableEq, Repr

/-- The actions of a port control message (R330). -/
inductive PortAct where
  | powerOff | powerOn | linkDisable | linkEnable | retrain | busReset | dpcRelease
  | mps (code : Nat)
  deriving DecidableEq, Repr

/-- What the Bellwether sends to its standby (R321, R336): the devices of a transaction before its first PREPARE, an applied change as its
journal body, or the fabric table (devices and trunks). -/
inductive StdUpd where
  | txn (id : Nat) (devs : List Nat)
  | change (body : List Byte)
  | table (devs : List Nat) (links : List (Nat × Nat × Nat × Nat))
  deriving DecidableEq, Repr

/-- A relay request (R338): an MCR command entry, a register read or write, a change of an inactive bank for a transaction, the device number of the partner on a trunk, or a
non-acting device's wish to remove a remote binding of its own. -/
inductive RelayReq where
  | mcr (entry : List Byte)
  | read (off len : Nat)
  | write (off len : Nat) (v : W64)
  | stage (id : Nat) (chg : FabChg)
  | number (j num : Nat)
  | unbindAsk (dev v sl gpid : Nat)
  deriving DecidableEq, Repr

/-- The management messages between devices. -/
inductive FMsg where
  | relay (r : RelayReq)
  | prepare (id : Nat) (sets : List Nat)
  | answer (id status : Nat)
  | commit (id time : Nat)
  | abort (id : Nat)
  | ack (id : Nat)
  | heartbeat
  | query
  | standby (u : StdUpd)
  | standbyAck
  | epoch (e num : Nat)
  | portCtl (fromGpid port : Nat) (act : PortAct)
  | linkReport (gpid : Nat) (up : Bool) (rate width : Nat)
  deriving DecidableEq, Repr

/-! ### The security station (R496 to R505) -/

/-- What the boot firmware takes from the boot configuration of the flash image, whose layout the spec does not give: the slot count of VS0,
the SMBus address, the cut of each tile, the PP_CTL word of each port, and the operator moduli. -/
structure BootCfg where
  slots : Nat := 8
  smbus : Nat := 0x64
  cuts : List (Fin 36 × Fin 16) := []
  ports : List (Fin 144 × W32) := []
  moduli : List (Fin 4 × List Byte) := []
  subVendor : W16 := 0
  subDevice : W16 := 0
  deriving DecidableEq, Repr

/-- The SPDM requests that the spec's properties bear on (R503); the rest of the protocol is the standard's. -/
inductive SpdmReq where
  | getVersion
  | getCapabilities
  | getCertificate (slot : Nat)
  | challenge (slot : Nat) (nonce : List Byte)
  | getMeasurements (ix : Nat) (nonce : List Byte)
  | keyExchange (pub : List Byte)
  | heartbeat (sess : Nat)
  | endSession (sess : Nat)
  deriving DecidableEq, Repr

/-- The answers of the SPDM responder: supported versions, capability names, a certificate chain by slot, a signature over a transcript,
measurement values, an opened session, an acknowledgement, ERROR Busy, and ERROR for a request that cannot be served. -/
inductive SpdmRsp where
  | version (l : List Nat)
  | capabilities (l : List String)
  | certificate (slot : Nat)
  | signed (ix : Nat) (values : List (Nat × List Byte)) (sig : List Byte)
  | session (id : Nat)
  | ok
  | busy
  | error
  deriving DecidableEq, Repr

end Sys2Proof
end

