-- ==== Sys2Proof/Syntax.lean ====
section
/-!
DEFINITION. The commands of the BF288: one constructor for each row of the spec's table of operations and events, with the row's operands.
Numbers of units (ports, tiles, routers, instances) are bounded by their types; measurements and choices of the outside world that a
command brings are operands.
-/

namespace Sys2Proof

/-- A command. -/
inductive Instr where
  /-- REGISTER_WRITE (R6): A write to a register field that has no row of its own takes effect according to the field's type, with its refusal guards. -/
  | registerWrite (who : Init) (off size : Nat) (v : W64)
  /-- BAR0_UNMAPPED_ACCESS (R543): An access to an unmapped BAR0 address, or of a wrong size or type, receives Unsupported Request and is logged in GLB_UNMAP_LOG. -/
  | bar0UnmappedAccess (who : Init) (off size : Nat) (write plain : Bool)
  /-- TLP_RECEIVED (R18): A TLP that arrives on a PCIe port or trunk passes the ingress checks and the lookup, takes its sequence number and is written into the tile buffer. -/
  | tlpReceived (port : Fin 144) (t : Tlp) (chk : LinkChk) (pick : Fin 16384)
  /-- NP_REQUEST_RESUME (R18): A non-posted request that waited at step 3 takes its sequence number once it holds both a tracker entry and an egress tag. -/
  | npRequestResume (n : Nat) (pick : Fin 16384)
  /-- TAG_WAIT_TIMEOUT (R259): A non-posted request that waited for a tag or tracker entry longer than its egress timeout is answered with Completer Abort. -/
  | tagWaitTimeout (n : Nat)
  /-- FLIT_HOP (R188): A router routes, arbitrates and forwards a flit through its three pipeline stages to the next router. -/
  | flitHop (r : Fin 96) (b : Bool) (out : Fin 5) (err : FlitErr)
  /-- CREDIT_RETURN (R186): A receiver returns one virtual-channel credit to its sender as a flit leaves its FIFO. -/
  | creditReturn (r : Fin 96) (b : Bool) (out : Fin 5) (vc : Fin 10)
  /-- STARVE_LIMIT (R200): A requester's wait counter reaches STARVE and the requester enters the output's pending queue. -/
  | starveLimit (r : Fin 96) (b : Bool) (out inp : Fin 5) (vc : Fin 10)
  /-- KEEPALIVE (R191): A link with no flit to send carries a keep-alive handshake every 1 µs. -/
  | keepalive (r : Fin 96) (d : Fin 4)
  /-- HANDSHAKE_TIMEOUT (R191): A handshake not acknowledged within 100 ns makes the sender declare the link failed. -/
  | handshakeTimeout (r : Fin 96) (d : Fin 4)
  /-- PACKET_EJECTED (R18): A packet's tail reaches its destination station, which places it in its gate queue or consumes it. -/
  | packetEjected (r : Fin 96)
  /-- RESEND_REQUEST (R182): A source receives a resend request and resends its held copy with RESEND set and the same sequence number. -/
  | resendRequest (x : Fin 80)
  /-- TAIL_CONFIRMATION (R18): The ingress tile receives the tail confirmation, frees the buffer space and returns credits. -/
  | tailConfirmation (x : Fin 80)
  /-- SHAPER_GRANT (R438): A shaper's credit reaches 0 or above and it grants the next waiting item, charging its length. -/
  | shaperGrant (x : Fin 1840)
  /-- FLOW_CONTROL_UPDATE (R448): Flow-control credit from the link partner arrives and makes a class eligible again. -/
  | flowControlUpdate (port : Fin 144) (ty : Fin 3) (hdr dat : Nat)
  /-- EGRESS_UNDERRUN (R159): A started TLP whose rest is delayed so long that the link would run dry is nullified and sent again whole. -/
  | egressUnderrun (port : Fin 144)
  /-- BUFFER_UE (R161): An uncorrectable ECC error in a buffered TLP leads to a resend or to loss with synthetic completion or posted-loss indication. -/
  | bufferUe (src : Fin 164) (egress : Fin 144) (sc : Fin 4) (seq : W16)
  /-- GAP_TIMEOUT (R157): A stream's gate has waited GAP_TIMEOUT for a missing sequence number and declares the missing TLPs lost. -/
  | gapTimeout (src : Fin 164) (egress : Fin 144) (sc : Fin 4)
  /-- SWAP_MESSAGE (R146): A checking station receives a forwarding, window or gate swap message, swaps its banks and advances its epoch. -/
  | swapMessage (x : Fin 80)
  /-- SWAP_COMPLETE (R228): Every waited-for checking station has swapped, and the BF288 copies the new active bank and completes the command or host write. -/
  | swapComplete
  /-- DRAIN_COMPLETE (R150): DRAIN reads 0 in every tile for a removal's epoch, and the vDSP index, entries and target port are freed for reuse. -/
  | drainComplete
  /-- TAG_LEASE_REQUEST (R174): An egress tile receives a lease request and grants a lease of free tags if it has one. -/
  | tagLeaseRequest (t : Fin 36)
  /-- TAG_LEASE_GRANT (R174): A source receives a lease of egress tags for a port. -/
  | tagLeaseGrant (x : Fin 80)
  /-- TAG_LEASE_RETURN (R174): A source returns a lease that has been wholly free for 100 µs. -/
  | tagLeaseReturn (x : Fin 80) (egress : Fin 144)
  /-- COMPLETION_TIMEOUT (R247): A tracker entry expires at its timeout and the holder sends the expiry message. -/
  | completionTimeout (x : Fin 80) (trk : Fin 16384)
  /-- EXPIRY_MESSAGE (R249): The egress tile receives an expiry message and, if the tag is Live, tombstones it and makes the synthetic completion. -/
  | expiryMessage (t : Fin 36)
  /-- QUARANTINE_END (R255): A tombstone's quarantine ends and its tag returns to Pool. -/
  | quarantineEnd (port : Fin 144) (tag : Fin 16384)
  /-- EGRESS_STALL (R261): TLPs queued to a port with none sent for STALL contain the port's vDSP or port. -/
  | egressStall (port : Fin 144)
  /-- CONTAINMENT_RELEASE (R263): After the host's release action, no tracker entry or TLP of the binding remains and the vDSP leaves containment. -/
  | containmentRelease (vdsp : Fin 1024)
  /-- TRACKER_ENTRY_UE (R270): An uncorrectable error in a tracker entry frees the entry and sends a tracker-loss message. -/
  | trackerEntryUe (x : Fin 80) (trk : Fin 16384)
  /-- TRACKER_LOSS_MESSAGE (R270): An egress tile receives a tracker-loss message and pins the matching tag in Tomb. -/
  | trackerLossMessage (t : Fin 36)
  /-- PT_CUT_WRITE (R40): A write of PT_CUT changes the tile cut, or is refused while a port is enabled or the code is reserved. -/
  | ptCutWrite (who : Init) (t : Fin 36) (v : W32)
  /-- LANE_READY (R38): The lanes of a new cut have been powered and calibrated and LN_STAT.READY becomes 1. -/
  | laneReady (t : Fin 36)
  /-- PP_CTL_WRITE (R66): A write of PP_CTL sets role, rate limit, Flit Mode and enable, with refusal while enabled; enabling starts Detect. -/
  | ppCtlWrite (who : Init) (port : Fin 144) (v : W32)
  /-- RETRAIN (R77): Writing 1 to PP_CTL.RETRAIN retrains the port from its cut width and RATE_MAX. -/
  | retrain (who : Init) (port : Fin 144)
  /-- LINK_UP (R74): A port completes training to L0 at the highest rate and widest width it can reach. -/
  | linkUp (port : Fin 144) (rate : Fin 7) (width : Fin 17) (flit rev scaled : Bool) (inv : W16)
  /-- TRAINING_RETRY (R75): A port that cannot reach L0 on any lane returns to Detect and retries. -/
  | trainingRetry (port : Fin 144)
  /-- EQUALIZATION_PHASE (R45): The receiver runs its coefficient search of one equalization phase, at most 40 requests within 12 ms. -/
  | equalizationPhase (t : Fin 36) (k : Fin 8) (done : Bool) (pre post score : Nat) (answers : List (Option Nat))
  /-- TXEQ_REQUEST (R44): The transmitter takes or rejects a coefficient request from the partner. -/
  | txeqRequest (t : Fin 36) (k : Fin 8) (pre main post : Fin 64)
  /-- EQ_FAIL (R76): Equalization at a rate fails twice and the port retrains one rate lower, setting DEGRADED. -/
  | eqFail (port : Fin 144)
  /-- LANE_TRAIN_FAIL (R76): A lane fails to train or loses symbol lock in Recovery and the port retrains without it. -/
  | laneTrainFail (t : Fin 36) (k : Fin 8)
  /-- LINK_DOWN (R266): A port's link is lost, and with no alternative path its queues are dropped, tags tombstoned and scopes contained. -/
  | linkDown (port : Fin 144)
  /-- L1_IDLE_TIMEOUT (R83): An upstream port idle for L1_IDLE µs with no due completion initiates ASPM L1. -/
  | l1IdleTimeout (port : Fin 144)
  /-- L1_ENTRY_REQUEST (R82): A downstream port accepts L1 entry requested by its downstream component if L1 is enabled. -/
  | l1EntryRequest (port : Fin 144)
  /-- L1_EXIT (R83): A port leaves L1 when a TLP or DLLP must be sent. -/
  | l1Exit (port : Fin 144)
  /-- L0P_WINDOW (R85): At the end of a 10 µs utilization window, the port requests a halving or the full width under L0p. -/
  | l0pWindow (port : Fin 144) (pct : Fin 101)
  /-- L0P_PARTNER_REQUEST (R86): The port accepts or refuses an L0p width change that the partner requests. -/
  | l0pPartnerRequest (port : Fin 144) (width : Fin 17)
  /-- LTR_RECEIVED (R87): An LTR from a bound device changes the minimum and the upstream port sends a new LTR message. -/
  | ltrReceived (port : Fin 144) (ns : Option Nat)
  /-- PERST_IN_ASSERT (R90): PERST_IN_N asserts on an enabled upstream port and resets its virtual switch's functions, bindings and tracked requests. -/
  | perstInAssert (n : Fin 16)
  /-- PERST_IN_DEASSERT (R90): PERST_IN_N deasserts and the upstream port's link may come up again. -/
  | perstInDeassert (n : Fin 16)
  /-- HOT_RESET_RECEIVED (R90): A hot reset or DL_Down on an upstream port resets its virtual switch's functions except sticky bits. -/
  | hotResetReceived (port : Fin 144)
  /-- SECONDARY_BUS_RESET (R90): Secondary Bus Reset on the upstream port function resets every vDSP and the data mover port. -/
  | secondaryBusReset (vs : Fin 48)
  /-- VDSP_SECONDARY_BUS_RESET (R90): Secondary Bus Reset on one vDSP resets that binding only. -/
  | vdspSecondaryBusReset (vs : Fin 48) (slot : Fin 32)
  /-- PERST_OUT_HOLD_EXPIRY (R89): A PERST# output assertion has lasted its HOLD and may be released. -/
  | perstOutHoldExpiry (port : Fin 144)
  /-- IDE_KM_MESSAGE (R94): The host sets link IDE keys by IDE_KM over SPDM on an upstream port's DOE mailbox. -/
  | ideKmMessage (port : Fin 144) (slot : Fin 2) (ok : Bool)
  /-- KEY_SET_GO (R93): KEY_SET_GO swaps the IDE key slots of a port's stream. -/
  | keySetGo (port : Fin 144) (slot : Fin 2)
  /-- IDE_INTEGRITY_FAIL (R95): A failed IDE integrity check makes the stream Insecure, discards later TLPs and contains the scope. -/
  | ideIntegrityFail (port : Fin 144)
  /-- NOP (R484): The MCR command NOP completes with status OK and changes nothing. -/
  | nop (cx : McrCx)
  /-- BANK_RESET (R484): BANK_RESET copies the active bank of a set into its inactive bank and ends the claim. -/
  | bankReset (cx : McrCx) (set : Fin 256)
  /-- VS_CREATE (R102): VS_CREATE makes a virtual switch Active on an upstream port with its vDSP slots. -/
  | vsCreate (cx : McrCx) (vs port slots : Fin 256)
  /-- VS_DELETE (R106): VS_DELETE resets the virtual switch's instances, synthesizes its tracked requests and frees its slots. -/
  | vsDelete (cx : McrCx) (vs : Fin 256)
  /-- VS_TCMAP (R138): VS_TCMAP changes a virtual switch's TC to service class map by bank swap. -/
  | vsTcmap (cx : McrCx) (vs : Fin 256) (map : W16)
  /-- VDSP_BIND (R117): VDSP_BIND of a physical port writes the binding by bank swap and signals presence to the host. -/
  | vdspBind (cx : McrCx) (vs slot port : Fin 256)
  /-- VDSP_BIND_GROUP (R113): VDSP_BIND of a function group binds 1–8 shared functions to a vDSP. -/
  | vdspBindGroup (cx : McrCx) (vs slot : Fin 256) (mem : List (Fin 256 × W16 × Fin 256))
  /-- VDSP_BIND_REMOTE (R329): VDSP_BIND of a remote port installs the binding on both devices in one fabric transaction. -/
  | vdspBindRemote (cx : McrCx) (vs slot : Fin 256) (gpid : W16) (up : Fin 256)
  /-- VDSP_UNBIND_ORDERLY (R118): An ORDERLY unbind signals the attention button and waits for the host to turn slot power off. -/
  | vdspUnbindOrderly (cx : McrCx) (vs slot wait : Fin 256)
  /-- VDSP_UNBIND_FORCED (R120): A FORCED unbind triggers DPC on the vDSP and removes the binding at once. -/
  | vdspUnbindForced (cx : McrCx) (vs slot : Fin 256)
  /-- UNBIND_WAIT_TIMEOUT (R119): An ORDERLY unbind's wait time ends without slot power off and it completes with TIMEOUT. -/
  | unbindWaitTimeout (vs : Fin 48) (slot : Fin 32)
  /-- VDSP_ERRCFG (R253): VDSP_ERRCFG sets SYNTH_READ of a vDSP. -/
  | vdspErrcfg (cx : McrCx) (vs slot synth : Fin 256)
  /-- BIND_READ (R129): BIND_READ writes the BAR translation entries of a function group into a host buffer. -/
  | bindRead (cx : McrCx) (vs slot : Fin 256) (buf : W64) (ok : Bool)
  /-- SHARED_PORT_SET (R110): SHARED_PORT_SET makes a downstream port shared and has the firmware enumerate and configure its hierarchy. -/
  | sharedPortSet (cx : McrCx) (port buses mps mrrs : Fin 256) (base limit : W64) (nvf : List W16) (fns : Option (List SharedFn))
  /-- SHARED_PORT_CLR (R484): SHARED_PORT_CLR ends the sharing of a port with no bound member. -/
  | sharedPortClr (cx : McrCx) (port : Fin 256)
  /-- SHARED_PORT_RECONFIG (R111): After a shared port's link returns or its device resets, the firmware configures the hierarchy again. -/
  | sharedPortReconfig (port : Fin 144)
  /-- FN_CFG_READ (R112): FN_CFG with WRITE 0 reads configuration space of an unbound function of a shared port. -/
  | fnCfgRead (cx : McrCx) (port : Fin 256) (rid off : W16) (be : Fin 256) (cpl : Option (Fin 8 × W32))
  /-- FN_CFG_WRITE (R112): FN_CFG with WRITE 1 writes configuration space of an unbound function of a shared port. -/
  | fnCfgWrite (cx : McrCx) (port : Fin 256) (rid off : W16) (be : Fin 256) (data : W32) (cpl : Option (Fin 8 × W32))
  /-- DM_VF_SET (R409): DM_VF_SET grants a contiguous range of virtual-function instances to a virtual switch. -/
  | dmVfSet (cx : McrCx) (vs : Fin 256) (count : W16)
  /-- WIN_WRITE (R222): WIN_WRITE writes a local or remote window entry into the inactive window bank. -/
  | winWrite (cx : McrCx) (bank port entry flags : Fin 256) (base limit : W64) (mask : BitVec 48) (dst : W16)
  /-- WIN_SWAP (R228): WIN_SWAP checks the inactive window bank for overlaps and swaps it in at every tile. -/
  | winSwap (cx : McrCx)
  /-- GATE_WRITE (R238): GATE_WRITE writes a slot's base or sub-range permissions into the inactive gate bank. -/
  | gateWrite (cx : McrCx) (bank slot part en v o t : Fin 256) (base limit : W32)
  /-- GATE_SWAP (R228): GATE_SWAP checks the inactive gate bank for overlaps and swaps it in at every checking station. -/
  | gateSwap (cx : McrCx)
  /-- REACH_SET (R374): REACH_SET creates a reach table entry of kind MEM or MSG for one source instance. -/
  | reachSet (cx : McrCx) (entry : W16) (kind flags : Fin 256) (src : W16) (tvs : Fin 256) (tinst : W16) (base limit : W64)
  /-- REACH_CLEAR (R375): REACH_CLEAR advances GEN of an entry and completes once no descriptor uses it. -/
  | reachClear (cx : McrCx) (entry : W16)
  /-- REACH_CLEAR_DONE (R375): DMG_REACH_USE of a cleared entry reaches 0 and the parked REACH_CLEAR completes. -/
  | reachClearDone (entry : Fin 4096)
  /-- PROG_LOAD (R427): PROG_LOAD reads, verifies and installs an operator program into a slot. -/
  | progLoad (cx : McrCx) (slot : Fin 256) (addr : W64) (len : W32) (mask : BitVec 48) (img : Option (List Byte))
  /-- PROG_UNLOAD (R428): PROG_UNLOAD drains a program slot and makes it Empty when its use count reaches 0. -/
  | progUnload (cx : McrCx) (slot : Fin 256)
  /-- SHAPE_SET (R442): SHAPE_SET writes every field of a shaper and resets its credit, rate and timers. -/
  | shapeSet (cx : McrCx) (ix : W16) (cfg lim : W64)
  /-- IDE_KEY_START (R94): IDE_KEY with OP 0 starts link IDE on a downstream port with keys from the security station. -/
  | ideKeyStart (cx : McrCx) (port : Fin 256) (ok : Bool)
  /-- IDE_KEY_NEW (R94): IDE_KEY with OP 1 installs new keys on a downstream port's stream. -/
  | ideKeyNew (cx : McrCx) (port : Fin 256) (ok : Bool)
  /-- IDE_KEY_STOP (R94): IDE_KEY with OP 2 stops link IDE on a downstream port. -/
  | ideKeyStop (cx : McrCx) (port : Fin 256)
  /-- STATS_SNAP (R534): STATS_SNAP writes a header and the counters of a group's elements into a host buffer. -/
  | statsSnap (cx : McrCx) (group : Fin 256) (first count : W16) (buf : W64) (ok : Bool)
  /-- JNL_MIRROR (R492): JNL_MIRROR sets or clears the journal mirror ring in the owner host's memory. -/
  | jnlMirror (cx : McrCx) (size en : Fin 256) (base db : W64)
  /-- KEY_FUSE (R500): KEY_FUSE reads an operator modulus and fuses its hash into an operator key slot. -/
  | keyFuse (cx : McrCx) (slot : Fin 256) (addr : W64) (key : Option (List Byte)) (ok : Bool)
  /-- KEY_REVOKE (R501): KEY_REVOKE blows the revocation fuse of a vendor or operator key slot. -/
  | keyRevoke (cx : McrCx) (kind slot : Fin 256)
  /-- SVN_COMMIT (R502): SVN_COMMIT raises the fused minimum SVN of one kind of image. -/
  | svnCommit (cx : McrCx) (kind svn : Fin 256)
  /-- MGMT_RESTART (R506): The MCR command MGMT_RESTART journals itself, responds and starts a management restart. -/
  | mgmtRestart (cx : McrCx)
  /-- POWER_CONTROLLER_WRITE (R116): A host write of Power Controller Control turns a vDSP slot's emulated power off or on. -/
  | powerControllerWrite (vs : Fin 48) (slot : Fin 32) (off : Bool)
  /-- LINK_DISABLE_WRITE (R109): A host write of Link Disable in a vDSP acts on the bound physical port or releases containment. -/
  | linkDisableWrite (vs : Fin 48) (slot : Fin 32) (dis : Bool)
  /-- RETRAIN_LINK_WRITE (R109): A host write of Retrain Link in a vDSP retrains the bound physical port. -/
  | retrainLinkWrite (vs : Fin 48) (slot : Fin 32)
  /-- DPC_SOFTWARE_TRIGGER (R261): A host write of DPC Software Trigger contains the vDSP with cause 4. -/
  | dpcSoftwareTrigger (vs : Fin 48) (slot : Fin 32)
  /-- DPC_TRIGGER_STATUS_CLEAR (R263): The host clears DPC Trigger Status and the release of the contained vDSP begins. -/
  | dpcTriggerStatusClear (vs : Fin 48) (slot : Fin 32)
  /-- HOST_ROUTING_WRITE (R147): A host configuration write that changes routing is applied by bank swap and completed after every tile swaps. -/
  | hostRoutingWrite (port : Fin 144) (fn : FnId) (t : Tlp)
  /-- MEMBER_CONFIG_REQUEST (R133): A host configuration request to a function-group member is shadowed, emulated or forwarded through the tracker. -/
  | memberConfigRequest (port : Fin 144) (vs : Fin 48) (slot : Fin 32) (f : Fin 8) (t : Tlp) (pick : Fin 16384)
  /-- MEMBER_FLR (R134): A host FLR of a member synthesizes its tracked requests, resets shadows and sends the FLR to the function. -/
  | memberFlr (vs : Fin 48) (slot : Fin 32) (f : Fin 8)
  /-- PT_BUF_CFG_WRITE (R170): A write of PT_BUF_CFG resizes a port's gate queue regions, or is refused. -/
  | ptBufCfgWrite (who : Init) (port : Fin 144) (v : W32)
  /-- LN_CTL_WRITE (R56): A write of LN_CTL sets polarity and loopback, with loopback refused when not permitted. -/
  | lnCtlWrite (who : Init) (t : Fin 36) (k : Fin 8) (v : W32)
  /-- LN_PAT_WRITE (R58): A write of LN_PAT starts or stops the pattern generator and checker, or is refused. -/
  | lnPatWrite (who : Init) (t : Fin 36) (k : Fin 8) (v : W32)
  /-- INJ_ONE (R61): Writing 1 to LN_PAT.INJ_ONE in single mode injects one error. -/
  | injOne (who : Init) (t : Fin 36) (k : Fin 8)
  /-- PERIODIC_INJECTION (R61): In periodic mode, one error is injected every 2^(INJ_RATE+10) UI. -/
  | periodicInjection (t : Fin 36) (k : Fin 8)
  /-- CHK_LOCK (R59): The checker locks after 256 consecutive matching bits and starts counting. -/
  | chkLock (t : Fin 36) (k : Fin 8)
  /-- LOCK_LOSS (R59): The checker loses lock, clears CHK_LOCK, counts the loss and relocks. -/
  | lockLoss (t : Fin 36) (k : Fin 8) (bits errs : Nat)
  /-- MARGIN_COMMAND (R62): A Lane Margining at the Receiver command is carried out on the port's lanes. -/
  | marginCommand (t : Fin 36) (k : Fin 8) (on : Bool) (time volt : Nat)
  /-- EYE_SAMPLE_START (R64): Writing LN_EYE.START starts a 2^20-UI eye sample, or is ignored during a margining command. -/
  | eyeSampleStart (who : Init) (t : Fin 36) (k : Fin 8) (v : W64)
  /-- EYE_START_AFTER_EQ (R64): A START that arrived during equalization begins its sample when equalization ends. -/
  | eyeStartAfterEq (t : Fin 36) (k : Fin 8)
  /-- EYE_SAMPLE_DONE (R64): An eye sample completes, ERRORS is written and START clears. -/
  | eyeSampleDone (t : Fin 36) (k : Fin 8) (errs : Nat)
  /-- LANE_MARKER_RECEIVED (R50): A KFP lane marker is used for deskew, lane order and miswire detection, or counted if its CHECK is bad. -/
  | laneMarkerReceived (t : Fin 36) (k : Fin 8) (lane width dev portNo : Fin 256) (good : Bool)
  /-- DOZE_IDLE_TIMEOUT (R51): A KFP port idle for IDLE_TIME sends its Doze marker to enter Doze. -/
  | dozeIdleTimeout (port : Fin 144)
  /-- DOZE_MARKER (R51): A DOZE control packet or its reply is received and the port enters Doze. -/
  | dozeMarker (port : Fin 144) (reply : Bool)
  /-- WAKE_BURST (R52): A wake burst brings a dozing port back to data within 64 ns. -/
  | wakeBurst (port : Fin 144) (mine : Bool)
  /-- DOZE_MAX_TIME (R54): A port in Doze beyond MAX_TIME exits by a short retrain instead of a wake burst. -/
  | dozeMaxTime (port : Fin 144)
  /-- SHORT_RETRAIN_DONE (R54): A short retrain out of Doze completes and the port carries data again. -/
  | shortRetrainDone (port : Fin 144)
  /-- KFP_FLIT_RECEIVED (R276): A KFP flit is received and its packets extracted, or discarded if its FEC or CRC fails. -/
  | kfpFlitReceived (port : Fin 144) (good badType : Bool)
  /-- KFP_DATA_PACKET (R289): A trunk data packet is stored as new or discarded as duplicate, and released in TSEQ order. -/
  | kfpDataPacket (port : Fin 144) (k : KData) (pick : Fin 16384)
  /-- KFP_ACK (R280): An ACK control packet acknowledges TSEQs and repeats the XOFF state. -/
  | kfpAck (port : Fin 144) (cum : W16) (xoff : Fin 16)
  /-- KFP_NAK (R291): A NAK control packet names missing TSEQs, which the sender resends. -/
  | kfpNak (port : Fin 144) (cum : W16) (mem : Fin 8) (vals : List W16)
  /-- KFP_FC (R294): An FC control packet sets or clears XOFF of service classes. -/
  | kfpFc (port : Fin 144) (xoff : Fin 16)
  /-- KFP_ECHO (R306): An ECHO control packet is forwarded toward its target GPID or delivered to its shaper. -/
  | kfpEcho (port : Fin 144) (sc : Fin 4) (gpid : Fin 16384) (count : Fin 256)
  /-- KFP_HELLO (R282): A HELLO control packet agrees the version and checks the partner's device and trunk. -/
  | kfpHello (port : Fin 144) (h : Hello)
  /-- HELLO_REPEAT (R281): A member repeats an unanswered HELLO, DOZE or JOIN every 1 µs. -/
  | helloRepeat (port : Fin 144)
  /-- KFP_JOIN_ACCEPT (R282): JOIN ACCEPT brings the trunk up or admits a member into the spray set. -/
  | kfpJoinAccept (port : Fin 144)
  /-- KFP_JOIN_REQUEST (R282): JOIN REQUEST from the following end asks the leading end to admit a member. -/
  | kfpJoinRequest (port : Fin 144)
  /-- KFP_JOIN_LEAVE (R298): JOIN LEAVE removes a member from the trunk. -/
  | kfpJoinLeave (port : Fin 144) (mem : Fin 8)
  /-- MEMBER_LEAVE (R298): A member leaves the trunk on a local cause and its unacknowledged packets are resent on the others. -/
  | memberLeave (port : Fin 144)
  /-- RESEND_TIMEOUT (R288): A held trunk packet unacknowledged for RTO is resent, and after RETRY_MAX the trunk is lost. -/
  | resendTimeout (j : Fin 18) (tseq : W16)
  /-- ACK_IDLE_TIMEOUT (R290): CUM advanced without a data header carrying it for ACK_IDLE and the receiver sends an ACK. -/
  | ackIdleTimeout (j : Fin 18)
  /-- TRUNK_LOST (R300): A trunk's last member leaves and the trunk port is contained under R266. -/
  | trunkLost (j : Fin 18)
  /-- FAB_TRK_FC_WRITE (R294): A write of FAB_TRK_FC sets XON/XOFF levels, or is refused as a whole. -/
  | fabTrkFcWrite (who : Init) (j : Fin 18) (v : W64)
  /-- FAB_TRK_CFG_WRITE (R309): A write of FAB_TRK_CFG enables or configures a trunk, refused on a standalone device. -/
  | fabTrkCfgWrite (who : Init) (j : Fin 18) (v : W32)
  /-- DEVICE_DISCOVERY (R312): The Bellwether numbers an unnumbered partner found across a trunk that is up. -/
  | deviceDiscovery (dev : Fin 33) (j pj : Fin 18) (role : Fin 4) (tab : Option (Fin 33)) (links : List (Fin 33 × Fin 18 × Fin 18))
  /-- RELAY_REQUEST (R338): A device accepts a relay request carrying the highest MGR_EPOCH it has seen. -/
  | relayRequest (j : Fin 18) (epoch : W32) (dst : BitVec 14) (r : RelayReq) (env : McrEnv)
  /-- DEVICE_NUMBER_WRITE (R313): FAB_DEV.NUM is written by relay and the device announces its new number in HELLO and markers. -/
  | deviceNumberWrite (num : Fin 33)
  /-- FABRIC_PREPARE (R321): A device checks its inactive banks on PREPARE and answers READY or REFUSE. -/
  | fabricPrepare (id : W16) (sets : List (Fin 4))
  /-- PREPARE_TIMEOUT (R321): Not every device answered within 1 ms and the Bellwether aborts the transaction. -/
  | prepareTimeout
  /-- FABRIC_COMMIT (R322): A device receives COMMIT and schedules its swaps for fabric time T, or swaps at once if late. -/
  | fabricCommit (id : W16) (time : W64)
  /-- COMMIT_TIME_REACHED (R321): Fabric time reaches T and the device sends the swap messages of each bank set. -/
  | commitTimeReached
  /-- FABRIC_ABORT (R321): A device receives ABORT and leaves Prepared without swapping. -/
  | fabricAbort (id : W16)
  /-- TXN_RESEND (R322): The Bellwether resends an unacknowledged COMMIT or ABORT every 100 µs. -/
  | txnResend
  /-- PREPARED_TIMEOUT (R323): A device Prepared for 100 ms without COMMIT or ABORT aborts by itself. -/
  | preparedTimeout
  /-- TIME_SYNC_EXCHANGE (R326): Every 1 ms a worker corrects its fabric time by a two-way exchange on its parent trunk. -/
  | timeSyncExchange (t1 t2 t3 t4 : W64)
  /-- PORT_CONTROL_MESSAGE (R330): A device acts on a port control message for a port remote-bound to the sender. -/
  | portControlMessage (src : BitVec 14) (port : Fin 144) (act : PortAct)
  /-- LINK_REPORT (R330): A device receives a remote port's link status change for its vDSP. -/
  | linkReport (gpid : BitVec 14) (up : Bool) (rate : Fin 8) (width : Fin 17)
  /-- HEARTBEAT (R336): The Bellwether sends a heartbeat to every numbered device every 100 µs. -/
  | heartbeat (links : List (Fin 33 × Fin 18 × Fin 33 × Fin 18))
  /-- STANDBY_UPDATE (R336): The standby receives and acknowledges an applied fabric change. -/
  | standbyUpdate (u : StdUpd)
  /-- STANDBY_ACK_TIMEOUT (R336): The standby did not acknowledge within 1 ms and the Bellwether sets STANDBY_LOST. -/
  | standbyAckTimeout
  /-- HEARTBEAT_LOSS (R337): The standby, with no heartbeat for HB_LOSS and none reported by workers, takes over. -/
  | heartbeatLoss (heard committed : Bool)
  /-- MGR_EPOCH_MESSAGE (R338): A device receives a higher MGR_EPOCH and records the new manager, deposing a former Bellwether. -/
  | mgrEpochMessage (epoch : W32) (num : Fin 64)
  /-- NUDGE (R352): A write to NUDGE(q) issues a doorbell read or schedules one further read. -/
  | nudge (i : Fin 1072) (off : Fin 4096)
  /-- POLL_TIMER (R353): The front end reads a queue pair's doorbell record at the POLL interval under POLL_MODE. -/
  | pollTimer (i : Fin 1072) (q : Fin 8)
  /-- CQ_WAIT_POLL (R357): While acceptance waits for a completion slot, the front end rereads the doorbell record every POLL µs. -/
  | cqWaitPoll (i : Fin 1072) (q : Fin 8)
  /-- DOORBELL_READ_DONE (R354): A doorbell record read completes and the front end reads new descriptors or enters the error state. -/
  | doorbellReadDone (i : Fin 1072) (q : Fin 8) (got : Option (W32 × W32))
  /-- DESCRIPTOR_READ_DONE (R356): A descriptor read completes and each descriptor is checked and accepted with a ledger entry. -/
  | descriptorReadDone (i : Fin 1072) (q : Fin 8) (got : Option (List Byte))
  /-- DM_ACCEPT_WRITE (R344): A write of DM_ACCEPT accepts features, or is refused. -/
  | dmAcceptWrite (i : Fin 1072) (v : W64)
  /-- QP_CFG_WRITE (R347): A write of a queue pair's configuration or address registers, refused while enabled or out of range. -/
  | qpCfgWrite (i : Fin 1072) (q : Fin 8) (r : Fin 4) (v : W64)
  /-- QP_ENABLE (R348): Setting QP_CTL.EN starts a queue pair with counts at 0, refused while not idle. -/
  | qpEnable (i : Fin 1072) (q : Fin 8)
  /-- QP_DISABLE (R349): Clearing QP_CTL.EN stops fetching while accepted descriptors complete. -/
  | qpDisable (i : Fin 1072) (q : Fin 8)
  /-- QP_IRQ_WRITE (R384): A write of QP_IRQ or RX_IRQ sends any pending message and applies the new moderation. -/
  | qpIrqWrite (i : Fin 1072) (q : Fin 9) (v : W32)
  /-- IRQ_MODERATION_TICK (R383): Every 1 µs with interrupts pending, the moderation time limit is evaluated and a message may be sent. -/
  | irqModerationTick (i : Fin 1072) (q : Fin 9)
  /-- RX_CFG_WRITE (R377): A write of RX_CFG configures or enables the receive ring, or is refused. -/
  | rxCfgWrite (i : Fin 1072) (r : Fin 3) (v : W64)
  /-- SERVING_CLUSTER_MOVE (R343): An instance's front end moves to the next cluster in service with its register values kept. -/
  | servingClusterMove (i : Fin 1072)
  /-- FLUSH_READ_DONE (R359): The flush read of a reach descriptor completes and its completion record is written. -/
  | flushReadDone (x : Fin 262144) (ok : Bool)
  /-- LEDGER_WRITE_ACK (R385): Both slices acknowledge a ledger write and the write is complete. -/
  | ledgerWriteAck (x : Fin 262144) (chk : LedChk)
  /-- LEDGER_SLICE_FAILED (R390): A ledger slice is declared failed and its pair's live entries start to move. -/
  | ledgerSliceFailed (k : Fin 8)
  /-- LEDGER_ENTRY_MOVE (R390): A live entry of a failed pair is copied into a free entry of another pair once room exists. -/
  | ledgerEntryMove (x : Fin 262144) (readable : Bool)
  /-- SCHEDULING_EPOCH (R391): Every 10 µs the scheduling epoch advances and the ledger and staging quotas are recomputed if needed. -/
  | schedulingEpoch
  /-- CHUNK_ASSIGN (R393): The scheduler gives a ready chunk of an instance within its quotas to the least loaded thread. -/
  | chunkAssign (x : Fin 262144) (t : Fin 256) (got : Option (List Byte))
  /-- CHUNK_COMMIT (R395): Every write of a chunk is released and the chunk is committed in the ledger entry. -/
  | chunkCommit (x : Fin 262144) (c : Fin 262144) (got : ChunkGot)
  /-- DESCRIPTOR_REREAD_DONE (R397): A resuming front end's reread of a descriptor or list completes and is compared with DESC_CRC. -/
  | descriptorRereadDone (x : Fin 262144) (got lst : Option (List Byte))
  /-- ENTRY_RETIRE (R387): A completion record's write is released and its ledger entry is written Free in both copies. -/
  | entryRetire (x : Fin 262144)
  /-- ATOMIC_COMPLETION (R399): The target tile receives the AtomicOp completion and writes RESULT, STATUS and NI = 2 into the entry. -/
  | atomicCompletion (x : Fin 262144) (ok : Bool) (v : W64)
  /-- RING_RESERVATION_REQUEST (R400): A ring entry's station answers a reservation request with a slot, 0x30 or 0x31, or holds it. -/
  | ringReservationRequest (x : Fin 80)
  /-- RING_RESERVATION_ANSWER (R400): A Mule receives the reservation answer, records it and writes the message slot. -/
  | ringReservationAnswer (x : Fin 80)
  /-- INSTANCE_FLR (R402): An FLR of an instance stops fetching, abandons its entries and expires its requests. -/
  | instanceFlr (i : Fin 1072)
  /-- FLR_COMPLETE (R403): Every step of an instance FLR has completed and the function reports the FLR complete. -/
  | flrComplete (i : Fin 1072)
  /-- DL_SEL_WRITE (R404): A write of DL_SEL selects the logged instance, or is refused. -/
  | dlSelWrite (i : Fin 1072) (v : W32)
  /-- DL_CFG_WRITE (R404): A write of DL_CFG, DL_BASE or DL_DB_ADDR sets the log ring, refused while logging. -/
  | dlCfgWrite (i : Fin 1072) (r : Fin 3) (v : W64)
  /-- DL_LOG_EN (R405): Writing DL_CTL.LOG_EN starts or stops logging of the selected instance. -/
  | dlLogEn (i : Fin 1072) (on : Bool)
  /-- DL_QUIESCE (R406): Writing DL_CTL.QUIESCE stops or resumes fetching for the selected instance. -/
  | dlQuiesce (i : Fin 1072) (on : Bool)
  /-- DL_FLUSH (R406): Writing DL_CTL.FLUSH releases every pending log record and clears when done. -/
  | dlFlush (i : Fin 1072)
  /-- ADD (R417): ADD writes gA + gB into gD. -/
  | mAdd (m : Fin 64)
  /-- SUB (R417): SUB writes gA − gB into gD. -/
  | mSub (m : Fin 64)
  /-- AND (R417): AND writes the bitwise AND of gA and gB into gD. -/
  | mAnd (m : Fin 64)
  /-- OR (R417): OR writes the bitwise OR of gA and gB into gD. -/
  | mOr (m : Fin 64)
  /-- XOR (R417): XOR writes the bitwise XOR of gA and gB into gD. -/
  | mXor (m : Fin 64)
  /-- SLL (R417): SLL shifts gA left by gB[5:0]. -/
  | mSll (m : Fin 64)
  /-- SRL (R417): SRL shifts gA right logically by gB[5:0]. -/
  | mSrl (m : Fin 64)
  /-- SRA (R417): SRA shifts gA right arithmetically by gB[5:0]. -/
  | mSra (m : Fin 64)
  /-- ROTR (R417): ROTR rotates gA right by gB[5:0]. -/
  | mRotr (m : Fin 64)
  /-- SLT (R417): SLT writes 1 if gA is below gB, signed. -/
  | mSlt (m : Fin 64)
  /-- SLTU (R417): SLTU writes 1 if gA is below gB, unsigned. -/
  | mSltu (m : Fin 64)
  /-- MUL (R417): MUL writes the low 64 bits of gA × gB. -/
  | mMul (m : Fin 64)
  /-- MULHU (R417): MULHU writes the high 64 bits of the unsigned product. -/
  | mMulhu (m : Fin 64)
  /-- MINU (R417): MINU writes the unsigned minimum of gA and gB. -/
  | mMinu (m : Fin 64)
  /-- MAXU (R417): MAXU writes the unsigned maximum of gA and gB. -/
  | mMaxu (m : Fin 64)
  /-- CLZ (R417): CLZ writes the count of leading zero bits of gA. -/
  | mClz (m : Fin 64)
  /-- POPC (R417): POPC writes the count of set bits of gA. -/
  | mPopc (m : Fin 64)
  /-- BSWAP (R417): BSWAP writes gA with its bytes reversed. -/
  | mBswap (m : Fin 64)
  /-- CRC (R417): CRC advances the CRC-32C register gA over the 8 bytes of gB. -/
  | mCrc (m : Fin 64)
  /-- ADDI (R417): ADDI writes gA + IMM into gD. -/
  | mAddi (m : Fin 64)
  /-- ANDI (R417): ANDI writes gA AND the zero-extended IMM. -/
  | mAndi (m : Fin 64)
  /-- ORI (R417): ORI writes gA OR the zero-extended IMM. -/
  | mOri (m : Fin 64)
  /-- XORI (R417): XORI writes gA XOR the zero-extended IMM. -/
  | mXori (m : Fin 64)
  /-- SHI (R417): SHI shifts or rotates gA by IMM[5:0] in the mode of IMM[7:6]. -/
  | mShi (m : Fin 64)
  /-- LIH (R417): LIH writes IMM shifted left by 16 into gD. -/
  | mLih (m : Fin 64)
  /-- SLTI (R417): SLTI writes 1 if gA is below IMM, signed. -/
  | mSlti (m : Fin 64)
  /-- LD8U (R417): LD8U loads one byte zero-extended. -/
  | mLd8u (m : Fin 64)
  /-- LD16U (R417): LD16U loads two bytes zero-extended. -/
  | mLd16u (m : Fin 64)
  /-- LD32U (R417): LD32U loads four bytes zero-extended. -/
  | mLd32u (m : Fin 64)
  /-- LD64 (R417): LD64 loads eight bytes. -/
  | mLd64 (m : Fin 64)
  /-- ST8 (R417): ST8 stores the low byte of gS. -/
  | mSt8 (m : Fin 64)
  /-- ST16 (R417): ST16 stores the low two bytes of gS. -/
  | mSt16 (m : Fin 64)
  /-- ST32 (R417): ST32 stores the low four bytes of gS. -/
  | mSt32 (m : Fin 64)
  /-- ST64 (R417): ST64 stores the eight bytes of gS. -/
  | mSt64 (m : Fin 64)
  /-- BEQ (R417): BEQ branches if gA equals gB. -/
  | mBeq (m : Fin 64)
  /-- BNE (R417): BNE branches if gA differs from gB. -/
  | mBne (m : Fin 64)
  /-- BLT (R417): BLT branches if gA is below gB, signed. -/
  | mBlt (m : Fin 64)
  /-- BGE (R417): BGE branches if gA is at least gB, signed. -/
  | mBge (m : Fin 64)
  /-- BLTU (R417): BLTU branches if gA is below gB, unsigned. -/
  | mBltu (m : Fin 64)
  /-- BGEU (R417): BGEU branches if gA is at least gB, unsigned. -/
  | mBgeu (m : Fin 64)
  /-- JAL (R417): JAL writes the return address and jumps by OFF instructions. -/
  | mJal (m : Fin 64)
  /-- JALR (R417): JALR writes the return address and jumps to gA + IMM. -/
  | mJalr (m : Fin 64)
  /-- SRD_S (R417): SRD.S reads gB bytes from a source offset into a local address. -/
  | mSrdS (m : Fin 64)
  /-- SRD_D (R417): SRD.D reads gB bytes from a destination offset into a local address. -/
  | mSrdD (m : Fin 64)
  /-- SWR_D (R418): SWR.D writes gB bytes from local memory to a destination offset, in idempotent programs only. -/
  | mSwrD (m : Fin 64)
  /-- SPUT (R418): SPUT records a step write from the step buffer to a destination offset. -/
  | mSput (m : Fin 64)
  /-- SWAIT (R417): SWAIT waits until every SRD has landed and every SWR.D has been released. -/
  | mSwait (m : Fin 64)
  /-- STREAM_LANDED (R414): A stream unit read lands or a write is released, which may make a waiting thread ready. -/
  | mStreamLanded (t : Fin 256) (wr : Bool) (n : Nat) (got : List Byte) (err : Fin 256)
  /-- STEP (R419): STEP commits the recorded step writes with a checkpoint through the ledger's NI field. -/
  | mStep (m : Fin 64)
  /-- END (R421): END waits for the thread's streams and ends the invocation with its return value. -/
  | mEnd (m : Fin 64)
  /-- ABORT (R421): ABORT waits for the thread's streams and ends the descriptor with status 0x42. -/
  | mAbort (m : Fin 64)
  /-- TIME (R417): TIME writes the device timebase in ns into gD. -/
  | mTime (m : Fin 64)
  /-- RUN_LIMIT_EXCEEDED (R422): An invocation exceeds RUN_LIMIT µs and ends with status 0x43. -/
  | runLimitExceeded (t : Fin 256)
  /-- MULE_MEMORY_UE (R423): An uncorrectable ECC error in Mule or cluster memory declares the Mule or cluster failed. -/
  | muleMemoryUe (k : Fin 16) (m : Option (Fin 4))
  /-- MULE_FIRMWARE_UPDATE (R435): A verified Mule firmware image is installed into the clusters one at a time. -/
  | muleFirmwareUpdate (k : Fin 16) (ok : Bool)
  /-- CLUSTER_DRAIN_TIMEOUT (R435): 20 µs after a cluster stops taking chunks, its uncommitted chunks become unassigned. -/
  | clusterDrainTimeout (k : Fin 16)
  /-- CLUSTER_ISOLATE (R462): Writing MCL_CTL.ISOLATE takes the cluster out of service and the firmware declares it failed. -/
  | clusterIsolate (who : Init) (k : Fin 16)
  /-- MCL_MEM_DATA_ACCESS (R239): An access of MCL_MEM_DATA reads or writes the word at MCL_MEM_ADDR and advances the address. -/
  | mclMemDataAccess (who : Init) (k : Fin 16) (wr : Bool) (v : W64)
  /-- CONGESTION_ECHO (R444): A source station receives an echo, resolves its shaper and applies a decrease if the hold is open. -/
  | congestionEcho (x : Fin 80)
  /-- SHAPER_RECOVERY_TICK (R447): At the end of a HOLD interval without echo, a shaper raises RATE_CUR by AI_STEP. -/
  | shaperRecoveryTick (x : Fin 1840)
  /-- SHAPER_MEAS_WINDOW (R446): A shaper's 1 µs measurement window ends and MEAS is updated. -/
  | shaperMeasWindow (x : Fin 1840)
  /-- PT_SCHED_WRITE (R449): A write of PT_SCHED takes effect at the next round and clears every deficit. -/
  | ptSchedWrite (who : Init) (port : Fin 144) (v : W32)
  /-- ERR_STAT_WRITE (R476): A write to an error triple's ERR_STAT clears bits and sends a message if the source stays raised. -/
  | errStatWrite (who : Init) (x : Trip) (v : W32)
  /-- ERR_MASK_WRITE (R476): A write to ERR_MASK updates ERR_INT and sends a message if the source is raised. -/
  | errMaskWrite (who : Init) (x : Trip) (v : W32)
  /-- ERROR_REGISTER_SCAN (R455): The Goose scans every error and leaky-counter register's parity at least every 10 µs. -/
  | errorRegisterScan (bad : Option (Fin 256))
  /-- LEAKY_COUNT (R456): A counted event advances a unit's leaky counter, which escalates at THRESHOLD. -/
  | leakyCount (blk : Fin 5) (n : Fin 96) (u : Fin 6) (entry : Fin 16384)
  /-- LEAK_TICK (R456): A leak tick lowers a leaky counter by one. -/
  | leakTick (blk : Fin 5) (n : Fin 96) (u : Fin 6)
  /-- LK_CFG_WRITE (R457): A write to LK_CFG sets the counter to 0 and restarts the tick schedule. -/
  | lkCfgWrite (who : Init) (blk : Fin 5) (n : Fin 96) (u : Fin 6) (v : W64)
  /-- LINK_DECLARED_FAILED (R203): A router declares a mesh link failed, discards waiting packets and sets REROUTE. -/
  | linkDeclaredFailed (r : Fin 96) (d : Fin 4)
  /-- ROUTER_DECLARED_FAILED (R202): The management firmware declares a router failed and all its links count as failed. -/
  | routerDeclaredFailed (r : Fin 96)
  /-- ROUTER_ISOLATE (R202): Writing RTR_CTL.ISOLATE takes the router out of service for declaration. -/
  | routerIsolate (who : Init) (r : Fin 96)
  /-- ROUTER_CNT_CLR (R532): Writing RTR_CTL.CNT_CLR clears every counter of the router. -/
  | routerCntClr (who : Init) (r : Fin 96)
  /-- RTR_LOCK (R6): Setting RTR_CTL.LOCK makes RTR_ARB and RTR_QOS read-only. -/
  | rtrLock (who : Init) (r : Fin 96)
  /-- ESC_TABLE_WRITE (R206): A write to an escape table or RTR_ESCV entry is taken in the inactive bank and refused in the active one. -/
  | escTableWrite (who : Init) (r : Fin 96) (vec : Bool) (bank : Fin 2) (ix : Fin 96) (v : W64)
  /-- ESC_FREEZE (R208): Writing RTR_ESC_CTL.FREEZE holds or releases new escape injections at their sources. -/
  | escFreeze (who : Init) (r : Fin 96) (on : Bool)
  /-- ESCAPE_DRAINED (R208): No escape flit remains in a router and ESC_EMPTY becomes 1. -/
  | escapeDrained (r : Fin 96)
  /-- ESC_SWAP (R209): Writing RTR_ESC_CTL.SWAP swaps the escape banks, refused unless frozen and empty. -/
  | escSwap (who : Init) (r : Fin 96)
  /-- REROUTE_CLEAR (R208): Clearing REROUTE everywhere ends the handling of the failure. -/
  | rerouteClear (who : Init)
  /-- ISLAND_FREQ_WRITE (R211): A write of RTR_ISL_CTL.FREQ sets a new island target, or is refused. -/
  | islandFreqWrite (who : Init) (r : Fin 96) (freq : Fin 4096)
  /-- ISLAND_SETTLED (R212): An island's frequency comes within 5 MHz of its target and SETTLED becomes 1. -/
  | islandSettled (r : Fin 96) (meas : Fin 4096)
  /-- FREQ_MEASUREMENT_WINDOW (R213): A 10 µs measurement window ends, MEAS is updated and a deviation sets CLK_DEV. -/
  | freqMeasurementWindow (r : Fin 96) (meas : Fin 4096)
  /-- DEGRADED_HANDLING (R461): The firmware takes the next declared failure from the queue and starts its handling. -/
  | degradedHandling
  /-- DEGRADED_HANDLING_DONE (R461): A part's handling completes and DONE and OUT advance and DEG_DONE is raised. -/
  | degradedHandlingDone
  /-- UNDER_VOLTAGE (R463): A watched supply below its under-voltage trip for 2 µs seals the device. -/
  | underVoltage (rail : Fin 5)
  /-- OVER_VOLTAGE (R463): A watched supply above its over-voltage trip for 2 µs seals the device. -/
  | overVoltage (rail : Fin 5)
  /-- OVER_TEMPERATURE (R463): A sensor above 125 °C for 1 ms seals the device. -/
  | overTemperature (sensor : Fin 16)
  /-- TEMP_WARN (R465): A sensor reaching 110 °C sets TEMP_WARN and raises its event. -/
  | tempWarn (sensor : Fin 16) (temp : Fin 256)
  /-- ALL_TIMEBASES_LOST (R463): Every timebase source lost for 10 µs seals the device. -/
  | allTimebasesLost
  /-- GOOSE_MISMATCH (R463): The two Goose copies disagree and the device is sealed. -/
  | gooseMismatch
  /-- HEARTBEAT_BEAT (R466): A management core writes its GSV_HB.BEAT bit. -/
  | heartbeatBeat (who : Init) (mask : Fin 16)
  /-- CORE_HEARTBEAT_LOSS (R466): One core has not beaten for 10 ms and the Goose resets it. -/
  | coreHeartbeatLoss (core : Fin 4)
  /-- ALL_CORES_HEARTBEAT_LOSS (R466): No core has beaten for 10 ms and the Goose starts a management restart or holds the cores. -/
  | allCoresHeartbeatLoss
  /-- MCR_NUDGE (R478): A write to MGR_NUDGE makes the firmware read the MCR doorbell record. -/
  | mcrNudge (who : Init) (rec : Option (W32 × W32))
  /-- MCR_POLL (R478): The firmware reads the MCR doorbell record every POLL µs. -/
  | mcrPoll (rec : Option (W32 × W32))
  /-- MCR_COMMAND_FETCH (R479): The firmware fetches a command entry and assigns its SEQ. -/
  | mcrCommandFetch (entry : Option (List Byte)) (env : McrEnv)
  /-- MGR_MCR_CFG_WRITE (R478): A write of MGR_MCR_CFG configures or enables the MCR, with refusal under R347 and R348. -/
  | mgrMcrCfgWrite (who : Init) (r : Fin 4) (v : W64)
  /-- PARKED_COMMAND_RESUME (R486): The outside event that a parked command waits for arrives and the command completes. -/
  | parkedCommandResume (n : Nat) (status : Fin 256) (result : List Byte)
  /-- JOURNAL_MIRROR_COPY (R492): A journal entry is copied into the mirror ring, or mirroring pauses when it is full. -/
  | journalMirrorCopy
  /-- MIRROR_DOORBELL_POLL (R492): While mirroring is paused, the mirror's doorbell record is read at least every 100 µs. -/
  | mirrorDoorbellPoll (head : Option W32)
  /-- MCR_SUBMIT (R495): A sideband MCR_SUBMIT request runs one MCR command and answers with its response. -/
  | mcrSubmit (mctp : Bool) (src : Fin 256) (entry : List Byte) (env : McrEnv)
  /-- REG_READ (R494): A sideband REG_READ request reads a BAR0 register. -/
  | regRead (off : W32) (len : Fin 256)
  /-- REG_WRITE (R494): A sideband REG_WRITE request writes a BAR0 register. -/
  | regWrite (off : W32) (len : Fin 256) (v : W64)
  /-- JNL_READ (R494): A sideband JNL_READ request returns up to seven journal entries. -/
  | jnlRead (first : W64) (count : Fin 256)
  /-- SET_ENDPOINT_ID (R493): An MCTP Set Endpoint ID gives the endpoint its EID. -/
  | setEndpointId (eid : Fin 256)
  /-- SPDM_REQUEST (R503): The security station answers an SPDM request over DOE or MCTP. -/
  | spdmRequest (q : SpdmReq)
  /-- REQUEST_UPDATE (R504): A PLDM RequestUpdate starts a firmware transfer of one component. -/
  | requestUpdate (comp : W16)
  /-- FIRMWARE_TRANSFER_DONE (R504): A transferred component is verified and the transfer reported complete. -/
  | firmwareTransferDone (data : List Byte)
  /-- ACTIVATE_FIRMWARE (R505): ActivateFirmware runs the restart on a new boot image or the Mule firmware update. -/
  | activateFirmware
  /-- ACTIVATION_TIMEOUT (R505): A restart on a new boot image that does not reach READY within 200 ms falls back to the old image. -/
  | activationTimeout
  /-- MANAGEMENT_RESTART (R506): The management cores are reset and reload verified firmware while the data plane runs on. -/
  | managementRestart
  /-- MGMT_RESTART_UP (R507): Restarted firmware rebuilds its state and replays or answers commands by the journal and RSP_DONE. -/
  | mgmtRestartUp
  /-- BOOT_ROM (R498): The boot ROM selects and verifies an image, starts the firmware, and the firmware sets READY. -/
  | bootRom (bc : BootCfg) (readErr : List (Fin 2))
  /-- TIMEBASE_SOURCE_LOST (R509): The active timebase source is lost and the PLL falls back to the next READY source. -/
  | timebaseSourceLost (src : Fin 4)
  /-- SOURCE_READY (R508): A timebase source meets its READY condition. -/
  | sourceReady (src : Fin 4) (offset : Fin 256)
  /-- TIMEBASE_SWITCH (R510): A write of CPW_TB_CFG.SEL requests a switch to a READY source, or is refused. -/
  | timebaseSwitch (who : Init) (v : W32)
  /-- TIMEBASE_SWITCH_DONE (R509): A switch or fallback completes and SWITCHING clears. -/
  | timebaseSwitchDone
  /-- TILE_REF_WRITE (R514): A write of CPW_TILE_REF selects a tile's lane reference and clocking mode, or is refused. -/
  | tileRefWrite (who : Init) (t : Fin 36) (v : W32)
  /-- REFOUT_WRITE (R515): A write of CPW_REFOUT starts, stops or changes a reference clock output. -/
  | refoutWrite (who : Init) (n : Fin 24) (v : W32)
  /-- CLKEN_WRITE (R517): A write of CPW_CLKEN sets or clears block clock enables within R516. -/
  | clkenWrite (who : Init) (w : Fin 8) (v : W32)
  /-- PD_ON (R522): Writing CPW_PD.ON starts the exit of a power domain, or is refused. -/
  | pdOn (who : Init) (d : Fin 56) (off : Bool)
  /-- PD_OFF (R521): Writing CPW_PD.OFF starts the entry of a power domain, or is refused. -/
  | pdOff (who : Init) (d : Fin 56)
  /-- PD_ENTRY_DRAIN_TIMEOUT (R521): 20 µs into entry, chunks that still use the domain become unassigned and the domain is turned off. -/
  | pdEntryDrainTimeout (d : Fin 56)
  /-- PD_EXIT_DONE (R522): A domain's exit initialisation completes and it enters service, or fails back to Off. -/
  | pdExitDone (d : Fin 56) (ok : Bool)
  /-- POWER_ON_RESET (R524): VDD_AON passes its reset threshold and the power-up sequence begins. -/
  | powerOnReset
  /-- PWR_OK_RISE (R524): PWR_OK goes high and the straps are sampled and a timebase source sought. -/
  | pwrOkRise (straps : BitVec 14)
  /-- PWR_OK_FALL (R470): PWR_OK goes low, which is a power-on reset outside the safe state and ignored inside it. -/
  | pwrOkFall
  /-- OSC_WAIT_EXPIRY (R512): OSC_WAIT elapses after PWR_OK and the crystal may become READY. -/
  | oscWaitExpiry
  /-- SOURCE_WAIT_TIMEOUT (R524): No source is READY 100 ms after PWR_OK and FAULT_N is asserted. -/
  | sourceWaitTimeout
  /-- PLL_LOCKED (R513): The timebase PLL locks, the timebase starts and every island starts at 2,000 MHz. -/
  | pllLocked
  /-- COLD_RESET (R526): RESET_N low with PWR_OK high starts a cold reset. -/
  | coldReset
  /-- WARM_RESET (R527): Writing CPW_RST.WARM resets the device's blocks and reruns the boot. -/
  | warmReset (who : Init)
  /-- PT_CNT_CLR (R533): Writing PT_CNT_CLR clears a port's or the tile's counter group. -/
  | ptCntClr (who : Init) (t : Fin 36) (v : W32)
  /-- MCL_CNT_CLR (R533): Writing MCL_CNT_CLR clears a Mule's counter group. -/
  | mclCntClr (who : Init) (k : Fin 16) (v : W32)
  /-- FAB_CNT_CLR (R533): Writing FAB_CNT_CLR clears a trunk's counter group. -/
  | fabCntClr (who : Init) (v : W32)
  /-- PMG_CNT_CLR (R533): Writing PMG_CNT_CLR clears the global counter group. -/
  | pmgCntClr (who : Init) (v : W32)
  /-- BW_WINDOW_END (R536): A bandwidth window ends, the counts are latched, SEQ advances and BW_WINDOW is raised. -/
  | bwWindowEnd (port : Fin 144)
  /-- BW_CFG_WRITE (R536): A write of PT_BW_CFG discards the current window and starts at the next boundary. -/
  | bwCfgWrite (who : Init) (port : Fin 144) (v : W32)
  /-- PRECISE_SAMPLE (R538): A Mule retires its 2^PERIOD-th instruction and a precise sampling record is written. -/
  | preciseSample (m : Fin 64)
  /-- SKID_SAMPLE (R538): Every PERIOD µs each selected Mule records the next issuing thread. -/
  | skidSample
  /-- SAMPLE_DOORBELL_READ (R540): With the sampling ring full, the station reads SMP_HEAD at most every 10 µs and drops records meanwhile. -/
  | sampleDoorbellRead (ok : Bool) (head : W32)
  /-- SMP_CFG_WRITE (R540): A write of the sampling registers configures or enables sampling, refused while enabled. -/
  | smpCfgWrite (who : Init) (off : Fin 65536) (v : W64)
  /-- VDD_AON_BELOW_RESET_THRESHOLD (R526): VDD_AON falls below its reset threshold, holding the whole device in power-on reset and clearing the journal. -/
  | vddAonBelowResetThreshold
  /-- RESET_N_RISE (R525): RESET_N rises after a cold reset and the straps are sampled 50 µs after that edge before the boot continues. -/
  | resetNRise (straps : BitVec 14)
  /-- CLKREQ_N_CHANGE (R84): The GPIO that serves as a port's CLKREQ# changes level, moving the L1 link into or out of L1.1 or L1.2. -/
  | clkreqNChange (port : Fin 144) (high l12 : Bool)
  /-- LOOPBACK_ENTRY (R79): A port's training enters the PCIe Loopback state as lead, when LPBK_LEAD is 1, or as follower when the partner leads. -/
  | loopbackEntry (port : Fin 144)
  /-- LOOPBACK_EXIT (R79): A port leaves the PCIe Loopback state and may forward TLPs again. -/
  | loopbackExit (port : Fin 144)
  /-- PREPARE_ANSWER (R321): The Bellwether receives a READY or REFUSE answer to PREPARE, and sends COMMIT or ABORT once every device has answered. -/
  | prepareAnswer (dev : Fin 33) (id : W16) (status : Fin 256)
  /-- COMMIT_ACKNOWLEDGE (R322): The Bellwether receives a device's acknowledgement of COMMIT or ABORT, which stops the resends and, once all devices have acknowledged, lets the next transaction start. -/
  | commitAcknowledge (dev : Fin 33) (id : W16)
  /-- STANDBY_ACKNOWLEDGE (R336): The Bellwether receives the standby's acknowledgement of an applied fabric change and then answers the MCR command. -/
  | standbyAcknowledge
  /-- MEMBER_FLR_RETRY_END (R263): 100 ms after the FLR that releases a contained function group, configuration requests to its members stop receiving Request Retry Status. -/
  | memberFlrRetryEnd (vs : Fin 48) (slot : Fin 32) (f : Fin 8)
  /-- RX_DOORBELL_READ_DONE (R380): The read of a full receive ring's RX doorbell record completes, and the MESSAGE is delivered or completes with status 0x30. -/
  | rxDoorbellReadDone (i : Fin 1072) (got : Option W32)
  deriving DecidableEq, Repr

end Sys2Proof
end

