-- ==== Sys2Proof/WellFormed.lean ====
section
/-!
DEFINITION. Well-formed commands. Numbers of units are bounded by the types of the operands; what is left to check is that the sizes,
offsets and packet fields of a command are ones that a sender can put on its bus.
-/

namespace Sys2Proof

/-- A TLP whose fields fit the fields of a packet on a link: IDs of 16 bits, a tag of 14 bits, a traffic class of 3 bits, at most 4,096 bytes,
and data of the stated length. -/
def Tlp.wf (t : Tlp) : Bool :=
  decide (t.rid < 2 ^ 16) && decide (t.tag < 2 ^ 14) && decide (t.addr < 2 ^ 64) && decide (t.len ≤ 4096) && decide (t.data.length ≤ 4096) &&
  decide (t.tc < 8) && decide (t.at_ < 4) && decide (t.tid < 2 ^ 16) && decide (t.code < 256) && decide (t.cid < 2 ^ 16) && decide (t.status < 8)

end Sys2Proof
end

