-- ==== Sys2Proof/Machine/Crc.lean ====
section
/-!
DEFINITION. CRC-32C (R367) and the insertion sort that orders work by a key.
-/

namespace Sys2Proof.Machine

/-- One bit of the reflected CRC-32C register. -/
def crcBit (r : W32) : W32 := if r.getLsbD 0 then (r >>> 1) ^^^ 0x82F63B78#32 else r >>> 1

/-- `n` bits of the register. -/
def crcBits : Nat → W32 → W32
  | 0, r => r
  | n + 1, r => crcBits n (crcBit r)

/-- The register advanced over bytes in address order, with no inversion (R367, R417). -/
def crcRaw (r : W32) (l : List Byte) : W32 := l.foldl (fun r b => crcBits 8 (r ^^^ b.setWidth 32)) r

/-- The CRC-32C of bytes after a SEED (R367). -/
def crc32c (seed : W32) (l : List Byte) : W32 := crcRaw (seed ^^^ 0xFFFFFFFF#32) l ^^^ 0xFFFFFFFF#32

/-- Insert by a key, after the equal ones. -/
def insertBy {α : Type} (f : α → Nat) (a : α) : List α → List α
  | [] => [a]
  | b :: l => if f b ≤ f a then b :: insertBy f a l else a :: b :: l

/-- Sort by a key. -/
def sortBy {α : Type} (f : α → Nat) (l : List α) : List α := l.foldl (fun acc a => insertBy f a acc) []

end Sys2Proof.Machine
end

