-- ==== Sys2Proof/Config.lean ====
section
/-!
DEFINITION. What the spec leaves to the implementation or does not give: constants without a value, so that nothing proved rests on one.
-/

namespace Sys2Proof.Config

/-- The hash of an egress port that chooses the router of an x16 pair (R16); the spec gives no hash. `true` chooses the odd tile. -/
opaque pairHash : Nat → Bool

/-- The dirty-page log's DL_HEAD as the host's memory holds it when the device reads it, by virtual switch and by the number of records
written so far (R404): host memory is outside the model. -/
opaque dlHead : Nat → Nat → BitVec 32

/-- The NONCE of a HELLO (R282), by trunk and by the number of nonces that the trunk has used: the spec does not say how it is chosen. -/
opaque nonce : Nat → Nat → BitVec 32

/-- SHA-256 (FIPS 180-4): the spec names the function and does not define it. -/
opaque sha256 : List Byte → List Byte

/-- Does an RSASSA-PSS signature with RSA-3072 verify (R426): modulus, message, signature? The spec names the scheme only. -/
opaque rsaVerify : List Byte → List Byte → List Byte → Bool

/-- What a configuration register reads whose value the spec does not give, by kind of function (0 upstream port, 1 management function, 2 vDSP, 3 data mover port,
4 data mover function) and offset. -/
opaque cfgOther : Nat → Nat → BitVec 32

/-- The signature of the device key over a transcript (R503). -/
opaque deviceSign : List Byte → List Byte

/-- The hash of the boot ROM (R503, index 1). -/
opaque romHash : List Byte

/-- The RSA-3072 modulus of a vendor key slot, which a Mule firmware image does not carry (R425, R426): the spec does not say where the station keeps it. -/
opaque vendorModulus : Nat → List Byte

end Sys2Proof.Config
end

