-- ==== Sys2Proof/Machine/AMap.lean ====
section
/-!
DEFINITION. Finite maps held as plain lists of key and value pairs, and the bit-field, byte-order and arithmetic helpers of the
machine. A key that a map does not list has the map's stated default.
-/

namespace Sys2Proof.Machine

/-- A finite map as a list of pairs; the first pair with a key counts, and `put` leaves only one. -/
abbrev AMap (κ α : Type) := List (κ × α)

/-- The value at a key. -/
def AMap.look {κ α : Type} [DecidableEq κ] (m : AMap κ α) (k : κ) : Option α :=
  (m.find? (fun p => decide (p.1 = k))).map (·.2)

/-- The value at a key, or a default. -/
def AMap.lookD {κ α : Type} [DecidableEq κ] (m : AMap κ α) (k : κ) (d : α) : α := (m.look k).getD d

/-- Remove a key. -/
def AMap.del {κ α : Type} [DecidableEq κ] (m : AMap κ α) (k : κ) : AMap κ α :=
  m.filter (fun p => !decide (p.1 = k))

/-- Set the value at a key. -/
def AMap.put {κ α : Type} [DecidableEq κ] (m : AMap κ α) (k : κ) (v : α) : AMap κ α := (k, v) :: m.del k

/-- Change the value at a key, from a default where there is none. -/
def AMap.upd {κ α : Type} [DecidableEq κ] (m : AMap κ α) (k : κ) (d : α) (f : α → α) : AMap κ α :=
  m.put k (f (m.lookD k d))

/-- A field of a word: `w` bits from bit `lo` up, as a number. -/
def fget (v : W64) (lo w : Nat) : Nat := (v.toNat >>> lo) % 2 ^ w

/-- The mask of a field. -/
def fmask (lo w : Nat) : W64 := BitVec.ofNat 64 ((2 ^ w - 1) <<< lo)

/-- A word with one field replaced; the value is taken modulo the field's size. -/
def fset (v : W64) (lo w x : Nat) : W64 :=
  (v &&& ~~~(fmask lo w)) ||| BitVec.ofNat 64 ((x % 2 ^ w) <<< lo)

/-- One bit as a number. -/
def bit (b : Bool) : Nat := if b then 1 else 0

/-- Add with saturation at `2^w - 1` (counts that stay at all-ones). -/
def satAdd (w a b : Nat) : Nat := min (a + b) (2 ^ w - 1)

/-- The little-endian number of a list of bytes (R4). -/
def leNat : List Byte → Nat
  | [] => 0
  | b :: bs => b.toNat + 256 * leNat bs

/-- The `n` little-endian bytes of a number (R4). -/
def leBytes : Nat → Nat → List Byte
  | 0, _ => []
  | n + 1, v => BitVec.ofNat 8 v :: leBytes n (v / 256)

/-- Bytes `[lo, lo+n)` of a list as a little-endian number; bytes beyond the list read 0. -/
def leAt (l : List Byte) (lo n : Nat) : Nat := leNat ((l.drop lo).take n)

/-- A two's complement value of width `w`. -/
def sext (w v : Nat) : Int := if v < 2 ^ (w - 1) then (v : Int) else (v : Int) - (2 : Int) ^ w

/-- The unsigned image of an integer in `w` bits. -/
def unsx (w : Nat) (v : Int) : Nat := (v % (2 : Int) ^ w).toNat

/-- Insert into a list of distinct elements. -/
def addNew {α : Type} [DecidableEq α] (l : List α) (a : α) : List α := if a ∈ l then l else l ++ [a]

/-- The first element of a list that satisfies a test, and the list without it. -/
def takeFirst {α : Type} (p : α → Bool) : List α → Option (α × List α)
  | [] => none
  | a :: l => if p a then some (a, l) else (takeFirst p l).map (fun r => (r.1, a :: r.2))

/-- The numbers below `n` in increasing order that satisfy a test. -/
def below (n : Nat) (p : Nat → Bool) : List Nat := (List.range n).filter p

/-- The low `n` bytes as a list padded with zeros to `n`. -/
def padTo (n : Nat) (l : List Byte) : List Byte := (l ++ List.replicate n 0).take n

end Sys2Proof.Machine
end

