-- ==== Sys2Proof/Machine/Regs.lean ====
section
/-!
DEFINITION. The register maps of the BF288, register by register: the name, the BAR0 address of each register, its width, and
its fields (lowest bit, width, access type R6, reset value). Written from the register maps of the chapters, the block bases of R542,
the set-up page of R548, the triples of R452 and R454 with the event names of R535, the counters of R532 and R533, and the records of
R437 and R459.
-/

namespace Sys2Proof.Machine

/-- The access types of R6. -/
inductive FTy where
  | rw | ro | rw1c | rw1s | wo | rwl | rws
  deriving DecidableEq, Repr

/-- The register names. A register of a repeated unit is `Reg.mk name ix`, `ix` the unit first. -/
inductive RN where
  | PT_CUT | PT_DOZE | LN_CTL | LN_TXEQ | LN_PAT | LN_PAT_USER | LN_PAT_ERR | LN_PAT_BITS | LN_STAT | LN_EYE | PP_CTL 
  | PP_STAT | PP_PM | PP_RST | VST_STAT | VST_TCMAP | VST_SLOT | VST_GLB | VST_EPOCH | VST_FB_A | VST_FB_B | PT_FWD_EPOCH 
  | PT_GATE_CFG | PT_BUF_CFG | PT_CONG | PT_FWD_CTL | PT_GATE_STAT | RTR_ID | RTR_CTL | RTR_ARB | RTR_QOS | RTR_LINK 
  | RTR_ISL_CTL | RTR_ISL_STAT | RTR_ESC_CTL | RTR_ESCV | RTR_CNT | RTR_ESC_TBL | SEC_GATE_CTL | SEC_GATE_LOG | SEC_GATE_BASE 
  | SEC_GATE_SUB | PT_WIN_BANK | PT_WIN_LOG | PT_WIN_ADDR | PT_WIN_E | PT_WIN_BASE | PT_WIN_LIMIT | PT_TRK_STAT 
  | PT_TRK_CFG | PT_CPL_LOG | PT_CONT | VST_CONT | FAB_TRK_CFG | FAB_TRK_FC | FAB_TRK_STAT | FAB_TRK_SEQ | FAB_DEV 
  | FAB_MGR | FAB_TXN | FAB_TIME | FAB_TIME_STAT | FAB_RT | FAB_TRK_NPB | FAB_RWIN_E | FAB_RWIN_BASE | FAB_RWIN_LIMIT 
  | FAB_RWIN_DST | DM_ID | DM_STAT | DM_FEATURES | DM_ACCEPT | RX_CFG | RX_IRQ | RX_STAT | QP_CFG | QP_IRQ | QP_CTL 
  | QP_ERR | QP_STAT | DMG_REACH | DMG_REACH_BASE | DMG_REACH_LIMIT | DMG_REACH_USE | LSL_STAT | DMG_SHARE | DMG_VF 
  | DMG_INST_USE | DL_SEL | DL_CFG | DL_CTL | DL_STAT | MCL_CTL | MCL_STAT | MCL_FW | MCL_PROG | MCL_THR | MCL_FAULT 
  | MCL_FAULT_ADDR | MCL_MEM_ADDR | MCL_MEM_DATA | DMG_PROG | DMG_PROG_MASK | DMG_PROG_LEN | DMG_PROG_USE | PT_SCHED 
  | GSV_STAT | GSV_SEAL | GSV_DEG | GSV_HB | MGR_ABI | MGR_MCR_CFG | MGR_NUDGE | MGR_MCR_STAT | MGR_JNL_STAT | MGR_RESTART 
  | MGR_RSP_DONE | MGR_EVT_MAP | SEC_BOOT | SEC_FUSE | CPW_TB_CFG | CPW_TB_STAT | CPW_TB_MEAS | CPW_TIME | CPW_STRAP 
  | CPW_RST | CPW_GATED_LOG | CPW_TILE_REF | CPW_REFOUT | CPW_CLKEN | CPW_PD | PT_BW_CFG | PT_BW_SEQ | PT_BW_LATCH 
  | PMG_SMP_CFG | GLB_ID | GLB_UID | GLB_CAP | GLB_DEVID | GLB_SCRATCH | GLB_UNMAP_LOG | PT_CNT | PT_TCNT | MCL_CNT 
  | FAB_CNT | DMG_CNT | PMG_SHCNT | PMG_CNT | PT_CNT_CLR | MCL_CNT_CLR | FAB_CNT_CLR | PMG_CNT_CLR | RX_BASE | RX_DB_ADDR 
  | QP_SQ_BASE | QP_CQ_BASE | QP_DB_ADDR | DL_BASE | DL_DB_ADDR | MGR_CMD_BASE | MGR_RSP_BASE | MGR_DB_ADDR | MGR_JNL_SEQ 
  | PMG_SMP_BASE | PMG_SMP_DB | PMG_SMP_MASK | MSIX_ADDR | MSIX_DATA | MSIX_CTRL | MSIX_PBA | IMSIX_ADDR | IMSIX_DATA 
  | IMSIX_CTRL | IMSIX_PBA | PT_TBUF_STAT | PT_TBUF_MASK | PT_TBUF_INT | PT_TTRK_STAT | PT_TTRK_MASK | PT_TTRK_INT 
  | PT_TBANK_STAT | PT_TBANK_MASK | PT_TBANK_INT | PT_TLEAK_STAT | PT_TLEAK_MASK | PT_TLEAK_INT | PT_PLINK_STAT 
  | PT_PLINK_MASK | PT_PLINK_INT | PT_PINTEGRITY_STAT | PT_PINTEGRITY_MASK | PT_PINTEGRITY_INT | PT_PFORWARD_STAT 
  | PT_PFORWARD_MASK | PT_PFORWARD_INT | PT_PCOMPLETION_STAT | PT_PCOMPLETION_MASK | PT_PCOMPLETION_INT | PT_PCONTAIN_STAT 
  | PT_PCONTAIN_MASK | PT_PCONTAIN_INT | PT_PCONGEST_STAT | PT_PCONGEST_MASK | PT_PCONGEST_INT | PT_PTRUNK_STAT 
  | PT_PTRUNK_MASK | PT_PTRUNK_INT | PT_PCOUNT_STAT | PT_PCOUNT_MASK | PT_PCOUNT_INT | RTR_ERR_STAT | RTR_ERR_MASK 
  | RTR_ERR_INT | MCL_ERR_STAT | MCL_ERR_MASK | MCL_ERR_INT | SSL_ERR_STAT | SSL_ERR_MASK | SSL_ERR_INT | LSL_ERR_STAT 
  | LSL_ERR_MASK | LSL_ERR_INT | GLB_ERR_STAT | GLB_ERR_MASK | GLB_ERR_INT | CPW_ERR_STAT | CPW_ERR_MASK | CPW_ERR_INT 
  | GSV_ERR_STAT | GSV_ERR_MASK | GSV_ERR_INT | MGR_ERR_STAT | MGR_ERR_MASK | MGR_ERR_INT | SEC_ERR_STAT | SEC_ERR_MASK 
  | SEC_ERR_INT | FAB_ERR_STAT | FAB_ERR_MASK | FAB_ERR_INT | PMG_ERR_STAT | PMG_ERR_MASK | PMG_ERR_INT | VST_ERR_STAT 
  | VST_ERR_MASK | VST_ERR_INT | DMG_ERR_STAT | DMG_ERR_MASK | DMG_ERR_INT | SH_CFG | SH_LIM | SH_STAT | LK_CFG 
  | LK_STAT | LK_TOTAL 
  deriving DecidableEq, Repr

/-- One register: a name and the indices of its repeated units, in the order of falling stride (the tile, router, cluster, slice,
virtual switch or instance first). -/
structure Reg where
  n : RN
  ix : List Nat
  deriving DecidableEq, Repr

/-- A field of a register map: the register, the lowest bit and the width. -/
structure Fld where
  reg : RN
  lo : Nat
  w : Nat
  deriving DecidableEq, Repr

/-- A field as a map gives it: lowest bit, width, type (R6), reset value. -/
structure FInfo where
  lo : Nat
  w : Nat
  ty : FTy
  rst : Nat
  deriving DecidableEq, Repr

/-- Where a register lies: address of unit 0 in BAR0 (or, above 64 MiB, in the model's numbering of the instance BARs), the strides and
counts of its indices, whether it is 64 bits wide, and for records held in several blocks the block's number, put before the indices. -/
structure Row where
  n : RN
  base : Nat
  dims : List (Nat × Nat)
  w64 : Bool
  pre : List Nat
  deriving DecidableEq, Repr

/-- Register addresses, part 0 (R542, R548). -/
def regRows0 : List Row := [
  ⟨.PT_CUT, 0x1000100, [(0x40000, 36)], false, []⟩,
  ⟨.PT_DOZE, 0x1000120, [(0x40000, 36), (0x4, 4)], false, []⟩,
  ⟨.LN_CTL, 0x1008000, [(0x40000, 36), (0x400, 8)], false, []⟩,
  ⟨.LN_TXEQ, 0x1008010, [(0x40000, 36), (0x400, 8)], false, []⟩,
  ⟨.LN_PAT, 0x1008020, [(0x40000, 36), (0x400, 8)], false, []⟩,
  ⟨.LN_PAT_USER, 0x1008028, [(0x40000, 36), (0x400, 8)], true, []⟩,
  ⟨.LN_PAT_ERR, 0x1008030, [(0x40000, 36), (0x400, 8)], true, []⟩,
  ⟨.LN_PAT_BITS, 0x1008038, [(0x40000, 36), (0x400, 8)], true, []⟩,
  ⟨.LN_STAT, 0x1008040, [(0x40000, 36), (0x400, 8)], false, []⟩,
  ⟨.LN_EYE, 0x1008080, [(0x40000, 36), (0x400, 8)], true, []⟩,
  ⟨.PP_CTL, 0x1000200, [(0x40000, 36), (0x40, 4)], false, []⟩,
  ⟨.PP_STAT, 0x1000204, [(0x40000, 36), (0x40, 4)], false, []⟩,
  ⟨.PP_PM, 0x1000208, [(0x40000, 36), (0x40, 4)], false, []⟩,
  ⟨.PP_RST, 0x100020c, [(0x40000, 36), (0x40, 4)], false, []⟩,
  ⟨.VST_STAT, 0x80000, [(0x1000, 48)], false, []⟩,
  ⟨.VST_TCMAP, 0x80004, [(0x1000, 48)], false, []⟩,
  ⟨.VST_SLOT, 0x80100, [(0x1000, 48), (0x8, 32)], true, []⟩,
  ⟨.VST_GLB, 0xb0000, [], false, []⟩,
  ⟨.VST_EPOCH, 0xb0008, [], true, []⟩,
  ⟨.VST_FB_A, 0xc0000, [(0x10, 4096)], true, []⟩,
  ⟨.VST_FB_B, 0xc0008, [(0x10, 4096)], true, []⟩,
  ⟨.PT_FWD_EPOCH, 0x1000800, [(0x40000, 36)], true, []⟩,
  ⟨.PT_GATE_CFG, 0x1000808, [(0x40000, 36)], false, []⟩,
  ⟨.PT_BUF_CFG, 0x1001000, [(0x40000, 36), (0x80, 4)], false, []⟩,
  ⟨.PT_CONG, 0x1001004, [(0x40000, 36), (0x80, 4)], false, []⟩,
  ⟨.PT_FWD_CTL, 0x1001008, [(0x40000, 36), (0x80, 4)], false, []⟩,
  ⟨.PT_GATE_STAT, 0x100100c, [(0x40000, 36), (0x80, 4)], false, []⟩,
  ⟨.RTR_ID, 0x2000000, [(0x1000, 96)], false, []⟩,
  ⟨.RTR_CTL, 0x2000004, [(0x1000, 96)], false, []⟩,
  ⟨.RTR_ARB, 0x2000010, [(0x1000, 96)], false, []⟩,
  ⟨.RTR_QOS, 0x2000014, [(0x1000, 96)], false, []⟩,
  ⟨.RTR_LINK, 0x2000020, [(0x1000, 96)], false, []⟩,
  ⟨.RTR_ISL_CTL, 0x2000030, [(0x1000, 96)], false, []⟩,
  ⟨.RTR_ISL_STAT, 0x2000034, [(0x1000, 96)], false, []⟩,
  ⟨.RTR_ESC_CTL, 0x2000040, [(0x1000, 96)], false, []⟩,
  ⟨.RTR_ESCV, 0x2000080, [(0x1000, 96), (0x10, 2), (0x8, 2)], true, []⟩,
  ⟨.RTR_CNT, 0x2000200, [(0x1000, 96), (0x8, 16)], true, []⟩,
  ⟨.RTR_ESC_TBL, 0x2000400, [(0x1000, 96), (0x200, 2), (0x4, 96)], false, []⟩,
  ⟨.SEC_GATE_CTL, 0x47000, [], true, []⟩,
  ⟨.SEC_GATE_LOG, 0x47008, [], true, []⟩]

/-- Register addresses, part 1 (R542, R548). -/
def regRows1 : List Row := [
  ⟨.SEC_GATE_BASE, 0x48000, [(0x2000, 2), (0x20, 256)], false, []⟩,
  ⟨.SEC_GATE_SUB, 0x48008, [(0x2000, 2), (0x20, 256), (0x8, 2)], true, []⟩,
  ⟨.PT_WIN_BANK, 0x1000810, [(0x40000, 36)], true, []⟩,
  ⟨.PT_WIN_LOG, 0x1001010, [(0x40000, 36), (0x80, 4)], false, []⟩,
  ⟨.PT_WIN_ADDR, 0x1001018, [(0x40000, 36), (0x80, 4)], true, []⟩,
  ⟨.PT_WIN_E, 0x1010000, [(0x40000, 36), (0x2000, 2), (0x800, 4), (0x20, 64)], true, []⟩,
  ⟨.PT_WIN_BASE, 0x1010008, [(0x40000, 36), (0x2000, 2), (0x800, 4), (0x20, 64)], true, []⟩,
  ⟨.PT_WIN_LIMIT, 0x1010010, [(0x40000, 36), (0x2000, 2), (0x800, 4), (0x20, 64)], true, []⟩,
  ⟨.PT_TRK_STAT, 0x1000818, [(0x40000, 36)], false, []⟩,
  ⟨.PT_TRK_CFG, 0x1001020, [(0x40000, 36), (0x80, 4)], true, []⟩,
  ⟨.PT_CPL_LOG, 0x1001028, [(0x40000, 36), (0x80, 4)], true, []⟩,
  ⟨.PT_CONT, 0x1001038, [(0x40000, 36), (0x80, 4)], false, []⟩,
  ⟨.VST_CONT, 0x80200, [(0x1000, 48), (0x4, 32)], false, []⟩,
  ⟨.FAB_TRK_CFG, 0x51000, [(0x100, 18)], false, []⟩,
  ⟨.FAB_TRK_FC, 0x51008, [(0x100, 18)], true, []⟩,
  ⟨.FAB_TRK_STAT, 0x51010, [(0x100, 18)], true, []⟩,
  ⟨.FAB_TRK_SEQ, 0x51018, [(0x100, 18)], true, []⟩,
  ⟨.FAB_DEV, 0x50000, [], true, []⟩,
  ⟨.FAB_MGR, 0x50008, [], false, []⟩,
  ⟨.FAB_TXN, 0x50010, [], false, []⟩,
  ⟨.FAB_TIME, 0x50018, [], true, []⟩,
  ⟨.FAB_TIME_STAT, 0x50020, [], false, []⟩,
  ⟨.FAB_RT, 0x50400, [(0x100, 2), (0x4, 33)], false, []⟩,
  ⟨.FAB_TRK_NPB, 0x51020, [(0x100, 18)], false, []⟩,
  ⟨.FAB_RWIN_E, 0x54000, [(0x1000, 2), (0x20, 64)], true, []⟩,
  ⟨.FAB_RWIN_BASE, 0x54008, [(0x1000, 2), (0x20, 64)], true, []⟩,
  ⟨.FAB_RWIN_LIMIT, 0x54010, [(0x1000, 2), (0x20, 64)], true, []⟩,
  ⟨.FAB_RWIN_DST, 0x54018, [(0x1000, 2), (0x20, 64)], false, []⟩,
  ⟨.DM_ID, 0x2900000, [(0x1000, 1072)], false, []⟩,
  ⟨.DM_STAT, 0x2900004, [(0x1000, 1072)], false, []⟩,
  ⟨.DM_FEATURES, 0x2900008, [(0x1000, 1072)], true, []⟩,
  ⟨.DM_ACCEPT, 0x2900010, [(0x1000, 1072)], true, []⟩,
  ⟨.RX_CFG, 0x2900050, [(0x1000, 1072)], false, []⟩,
  ⟨.RX_IRQ, 0x2900054, [(0x1000, 1072)], false, []⟩,
  ⟨.RX_STAT, 0x2900058, [(0x1000, 1072)], true, []⟩,
  ⟨.QP_CFG, 0x2900118, [(0x1000, 1072), (0x80, 8)], false, []⟩,
  ⟨.QP_IRQ, 0x290011c, [(0x1000, 1072), (0x80, 8)], false, []⟩,
  ⟨.QP_CTL, 0x2900120, [(0x1000, 1072), (0x80, 8)], false, []⟩,
  ⟨.QP_ERR, 0x2900124, [(0x1000, 1072), (0x80, 8)], false, []⟩,
  ⟨.QP_STAT, 0x2900128, [(0x1000, 1072), (0x80, 8)], true, []⟩]

/-- Register addresses, part 2 (R542, R548). -/
def regRows2 : List Row := [
  ⟨.DMG_REACH, 0x2820000, [(0x20, 4096)], true, []⟩,
  ⟨.DMG_REACH_BASE, 0x2820008, [(0x20, 4096)], true, []⟩,
  ⟨.DMG_REACH_LIMIT, 0x2820010, [(0x20, 4096)], true, []⟩,
  ⟨.DMG_REACH_USE, 0x2820018, [(0x20, 4096)], false, []⟩,
  ⟨.LSL_STAT, 0x2600000, [(0x1000, 8)], false, []⟩,
  ⟨.DMG_SHARE, 0x2800000, [], true, []⟩,
  ⟨.DMG_VF, 0x2801000, [(0x8, 48)], false, []⟩,
  ⟨.DMG_INST_USE, 0x2808000, [(0x8, 1072)], true, []⟩,
  ⟨.DL_SEL, 0x2900600, [(0x1000, 1072)], false, []⟩,
  ⟨.DL_CFG, 0x2900618, [(0x1000, 1072)], false, []⟩,
  ⟨.DL_CTL, 0x290061c, [(0x1000, 1072)], false, []⟩,
  ⟨.DL_STAT, 0x2900620, [(0x1000, 1072)], false, []⟩,
  ⟨.MCL_CTL, 0x2100000, [(0x40000, 16)], false, []⟩,
  ⟨.MCL_STAT, 0x2100004, [(0x40000, 16)], false, []⟩,
  ⟨.MCL_FW, 0x2100008, [(0x40000, 16)], true, []⟩,
  ⟨.MCL_PROG, 0x2100010, [(0x40000, 16), (0x8, 4)], true, []⟩,
  ⟨.MCL_THR, 0x2100100, [(0x40000, 16), (0x8, 16)], true, []⟩,
  ⟨.MCL_FAULT, 0x2100200, [(0x40000, 16)], true, []⟩,
  ⟨.MCL_FAULT_ADDR, 0x2100208, [(0x40000, 16)], true, []⟩,
  ⟨.MCL_MEM_ADDR, 0x2100400, [(0x40000, 16)], false, []⟩,
  ⟨.MCL_MEM_DATA, 0x2100408, [(0x40000, 16)], true, []⟩,
  ⟨.DMG_PROG, 0x2803000, [(0x20, 4)], true, []⟩,
  ⟨.DMG_PROG_MASK, 0x2803008, [(0x20, 4)], true, []⟩,
  ⟨.DMG_PROG_LEN, 0x2803010, [(0x20, 4)], true, []⟩,
  ⟨.DMG_PROG_USE, 0x2803018, [(0x20, 4)], false, []⟩,
  ⟨.PT_SCHED, 0x1002080, [(0x40000, 36), (0x100, 4)], false, []⟩,
  ⟨.GSV_STAT, 0x20000, [], false, []⟩,
  ⟨.GSV_SEAL, 0x20008, [], true, []⟩,
  ⟨.GSV_DEG, 0x20010, [], true, []⟩,
  ⟨.GSV_HB, 0x20018, [], false, []⟩,
  ⟨.MGR_ABI, 0x30000, [], false, []⟩,
  ⟨.MGR_MCR_CFG, 0x30010, [], false, []⟩,
  ⟨.MGR_NUDGE, 0x30030, [], false, []⟩,
  ⟨.MGR_MCR_STAT, 0x30038, [], true, []⟩,
  ⟨.MGR_JNL_STAT, 0x30040, [], true, []⟩,
  ⟨.MGR_RESTART, 0x30050, [], false, []⟩,
  ⟨.MGR_RSP_DONE, 0x30100, [(0x8, 64)], true, []⟩,
  ⟨.MGR_EVT_MAP, 0x34000, [(0x4, 1664)], false, []⟩,
  ⟨.SEC_BOOT, 0x40000, [], true, []⟩,
  ⟨.SEC_FUSE, 0x40010, [], true, []⟩]

/-- Register addresses, part 3 (R542, R548). -/
def regRows3 : List Row := [
  ⟨.CPW_TB_CFG, 0x10000, [], false, []⟩,
  ⟨.CPW_TB_STAT, 0x10004, [], false, []⟩,
  ⟨.CPW_TB_MEAS, 0x10008, [], false, []⟩,
  ⟨.CPW_TIME, 0x10010, [], true, []⟩,
  ⟨.CPW_STRAP, 0x10020, [], false, []⟩,
  ⟨.CPW_RST, 0x10030, [], false, []⟩,
  ⟨.CPW_GATED_LOG, 0x10040, [], true, []⟩,
  ⟨.CPW_TILE_REF, 0x10100, [(0x4, 36)], false, []⟩,
  ⟨.CPW_REFOUT, 0x10200, [(0x4, 24)], false, []⟩,
  ⟨.CPW_CLKEN, 0x10400, [(0x4, 8)], false, []⟩,
  ⟨.CPW_PD, 0x10500, [(0x4, 56)], false, []⟩,
  ⟨.PT_BW_CFG, 0x1004800, [(0x40000, 36), (0x40, 4)], false, []⟩,
  ⟨.PT_BW_SEQ, 0x1004808, [(0x40000, 36), (0x40, 4)], false, []⟩,
  ⟨.PT_BW_LATCH, 0x1004810, [(0x40000, 36), (0x40, 4), (0x8, 4)], true, []⟩,
  ⟨.PMG_SMP_CFG, 0x2700200, [], true, []⟩,
  ⟨.GLB_ID, 0x0, [], true, []⟩,
  ⟨.GLB_UID, 0x8, [], true, []⟩,
  ⟨.GLB_CAP, 0x10, [], true, []⟩,
  ⟨.GLB_DEVID, 0x18, [], true, []⟩,
  ⟨.GLB_SCRATCH, 0x20, [(0x8, 4)], true, []⟩,
  ⟨.GLB_UNMAP_LOG, 0x40, [], true, []⟩,
  ⟨.PT_CNT, 0x1004000, [(0x40000, 36), (0x100, 4), (0x8, 24)], true, []⟩,
  ⟨.PT_TCNT, 0x1004400, [(0x40000, 36), (0x8, 4)], true, []⟩,
  ⟨.MCL_CNT, 0x2100500, [(0x40000, 16), (0x40, 4), (0x8, 8)], true, []⟩,
  ⟨.FAB_CNT, 0x51080, [(0x100, 18), (0x8, 16)], true, []⟩,
  ⟨.DMG_CNT, 0x2850000, [(0x40, 1072), (0x8, 8)], true, []⟩,
  ⟨.PMG_SHCNT, 0x2710000, [(0x20, 1840), (0x8, 3)], true, []⟩,
  ⟨.PMG_CNT, 0x2700100, [(0x8, 5)], true, []⟩,
  ⟨.PT_CNT_CLR, 0x1004600, [(0x40000, 36)], false, []⟩,
  ⟨.MCL_CNT_CLR, 0x2100600, [(0x40000, 16)], false, []⟩,
  ⟨.FAB_CNT_CLR, 0x50030, [], false, []⟩,
  ⟨.PMG_CNT_CLR, 0x2700180, [], false, []⟩,
  ⟨.RX_BASE, 0x2900040, [(0x1000, 1072)], true, []⟩,
  ⟨.RX_DB_ADDR, 0x2900048, [(0x1000, 1072)], true, []⟩,
  ⟨.QP_SQ_BASE, 0x2900100, [(0x1000, 1072), (0x80, 8)], true, []⟩,
  ⟨.QP_CQ_BASE, 0x2900108, [(0x1000, 1072), (0x80, 8)], true, []⟩,
  ⟨.QP_DB_ADDR, 0x2900110, [(0x1000, 1072), (0x80, 8)], true, []⟩,
  ⟨.DL_BASE, 0x2900608, [(0x1000, 1072)], true, []⟩,
  ⟨.DL_DB_ADDR, 0x2900610, [(0x1000, 1072)], true, []⟩,
  ⟨.MGR_CMD_BASE, 0x30018, [], true, []⟩]

/-- Register addresses, part 4 (R542, R548). -/
def regRows4 : List Row := [
  ⟨.MGR_RSP_BASE, 0x30020, [], true, []⟩,
  ⟨.MGR_DB_ADDR, 0x30028, [], true, []⟩,
  ⟨.MGR_JNL_SEQ, 0x30048, [], true, []⟩,
  ⟨.PMG_SMP_BASE, 0x2700208, [], true, []⟩,
  ⟨.PMG_SMP_DB, 0x2700210, [], true, []⟩,
  ⟨.PMG_SMP_MASK, 0x2700218, [], true, []⟩,
  ⟨.MSIX_ADDR, 0x100000, [(0x10, 2048)], true, []⟩,
  ⟨.MSIX_DATA, 0x100008, [(0x10, 2048)], false, []⟩,
  ⟨.MSIX_CTRL, 0x10000c, [(0x10, 2048)], false, []⟩,
  ⟨.MSIX_PBA, 0x108000, [(0x8, 32)], true, []⟩,
  ⟨.IMSIX_ADDR, 0x100002000, [(0x4000, 1072), (0x10, 8)], true, []⟩,
  ⟨.IMSIX_DATA, 0x100002008, [(0x4000, 1072), (0x10, 8)], false, []⟩,
  ⟨.IMSIX_CTRL, 0x10000200c, [(0x4000, 1072), (0x10, 8)], false, []⟩,
  ⟨.IMSIX_PBA, 0x100002800, [(0x4000, 1072)], true, []⟩,
  ⟨.PT_TBUF_STAT, 0x1000c00, [(0x40000, 36)], false, []⟩,
  ⟨.PT_TBUF_MASK, 0x1000c04, [(0x40000, 36)], false, []⟩,
  ⟨.PT_TBUF_INT, 0x1000c08, [(0x40000, 36)], false, []⟩,
  ⟨.PT_TTRK_STAT, 0x1000c10, [(0x40000, 36)], false, []⟩,
  ⟨.PT_TTRK_MASK, 0x1000c14, [(0x40000, 36)], false, []⟩,
  ⟨.PT_TTRK_INT, 0x1000c18, [(0x40000, 36)], false, []⟩,
  ⟨.PT_TBANK_STAT, 0x1000c20, [(0x40000, 36)], false, []⟩,
  ⟨.PT_TBANK_MASK, 0x1000c24, [(0x40000, 36)], false, []⟩,
  ⟨.PT_TBANK_INT, 0x1000c28, [(0x40000, 36)], false, []⟩,
  ⟨.PT_TLEAK_STAT, 0x1000c30, [(0x40000, 36)], false, []⟩,
  ⟨.PT_TLEAK_MASK, 0x1000c34, [(0x40000, 36)], false, []⟩,
  ⟨.PT_TLEAK_INT, 0x1000c38, [(0x40000, 36)], false, []⟩,
  ⟨.PT_PLINK_STAT, 0x1000a00, [(0x40000, 36), (0x80, 4)], false, []⟩,
  ⟨.PT_PLINK_MASK, 0x1000a04, [(0x40000, 36), (0x80, 4)], false, []⟩,
  ⟨.PT_PLINK_INT, 0x1000a08, [(0x40000, 36), (0x80, 4)], false, []⟩,
  ⟨.PT_PINTEGRITY_STAT, 0x1000a10, [(0x40000, 36), (0x80, 4)], false, []⟩,
  ⟨.PT_PINTEGRITY_MASK, 0x1000a14, [(0x40000, 36), (0x80, 4)], false, []⟩,
  ⟨.PT_PINTEGRITY_INT, 0x1000a18, [(0x40000, 36), (0x80, 4)], false, []⟩,
  ⟨.PT_PFORWARD_STAT, 0x1000a20, [(0x40000, 36), (0x80, 4)], false, []⟩,
  ⟨.PT_PFORWARD_MASK, 0x1000a24, [(0x40000, 36), (0x80, 4)], false, []⟩,
  ⟨.PT_PFORWARD_INT, 0x1000a28, [(0x40000, 36), (0x80, 4)], false, []⟩,
  ⟨.PT_PCOMPLETION_STAT, 0x1000a30, [(0x40000, 36), (0x80, 4)], false, []⟩,
  ⟨.PT_PCOMPLETION_MASK, 0x1000a34, [(0x40000, 36), (0x80, 4)], false, []⟩,
  ⟨.PT_PCOMPLETION_INT, 0x1000a38, [(0x40000, 36), (0x80, 4)], false, []⟩,
  ⟨.PT_PCONTAIN_STAT, 0x1000a40, [(0x40000, 36), (0x80, 4)], false, []⟩,
  ⟨.PT_PCONTAIN_MASK, 0x1000a44, [(0x40000, 36), (0x80, 4)], false, []⟩]

/-- Register addresses, part 5 (R542, R548). -/
def regRows5 : List Row := [
  ⟨.PT_PCONTAIN_INT, 0x1000a48, [(0x40000, 36), (0x80, 4)], false, []⟩,
  ⟨.PT_PCONGEST_STAT, 0x1000a50, [(0x40000, 36), (0x80, 4)], false, []⟩,
  ⟨.PT_PCONGEST_MASK, 0x1000a54, [(0x40000, 36), (0x80, 4)], false, []⟩,
  ⟨.PT_PCONGEST_INT, 0x1000a58, [(0x40000, 36), (0x80, 4)], false, []⟩,
  ⟨.PT_PTRUNK_STAT, 0x1000a60, [(0x40000, 36), (0x80, 4)], false, []⟩,
  ⟨.PT_PTRUNK_MASK, 0x1000a64, [(0x40000, 36), (0x80, 4)], false, []⟩,
  ⟨.PT_PTRUNK_INT, 0x1000a68, [(0x40000, 36), (0x80, 4)], false, []⟩,
  ⟨.PT_PCOUNT_STAT, 0x1000a70, [(0x40000, 36), (0x80, 4)], false, []⟩,
  ⟨.PT_PCOUNT_MASK, 0x1000a74, [(0x40000, 36), (0x80, 4)], false, []⟩,
  ⟨.PT_PCOUNT_INT, 0x1000a78, [(0x40000, 36), (0x80, 4)], false, []⟩,
  ⟨.RTR_ERR_STAT, 0x2000100, [(0x1000, 96)], false, []⟩,
  ⟨.RTR_ERR_MASK, 0x2000104, [(0x1000, 96)], false, []⟩,
  ⟨.RTR_ERR_INT, 0x2000108, [(0x1000, 96)], false, []⟩,
  ⟨.MCL_ERR_STAT, 0x2100300, [(0x40000, 16), (0x10, 4)], false, []⟩,
  ⟨.MCL_ERR_MASK, 0x2100304, [(0x40000, 16), (0x10, 4)], false, []⟩,
  ⟨.MCL_ERR_INT, 0x2100308, [(0x40000, 16), (0x10, 4)], false, []⟩,
  ⟨.SSL_ERR_STAT, 0x2500100, [(0x1000, 16)], false, []⟩,
  ⟨.SSL_ERR_MASK, 0x2500104, [(0x1000, 16)], false, []⟩,
  ⟨.SSL_ERR_INT, 0x2500108, [(0x1000, 16)], false, []⟩,
  ⟨.LSL_ERR_STAT, 0x2600100, [(0x1000, 8)], false, []⟩,
  ⟨.LSL_ERR_MASK, 0x2600104, [(0x1000, 8)], false, []⟩,
  ⟨.LSL_ERR_INT, 0x2600108, [(0x1000, 8)], false, []⟩,
  ⟨.GLB_ERR_STAT, 0xf000, [], false, []⟩,
  ⟨.GLB_ERR_MASK, 0xf004, [], false, []⟩,
  ⟨.GLB_ERR_INT, 0xf008, [], false, []⟩,
  ⟨.CPW_ERR_STAT, 0x1f000, [], false, []⟩,
  ⟨.CPW_ERR_MASK, 0x1f004, [], false, []⟩,
  ⟨.CPW_ERR_INT, 0x1f008, [], false, []⟩,
  ⟨.GSV_ERR_STAT, 0x2f000, [], false, []⟩,
  ⟨.GSV_ERR_MASK, 0x2f004, [], false, []⟩,
  ⟨.GSV_ERR_INT, 0x2f008, [], false, []⟩,
  ⟨.MGR_ERR_STAT, 0x3f000, [], false, []⟩,
  ⟨.MGR_ERR_MASK, 0x3f004, [], false, []⟩,
  ⟨.MGR_ERR_INT, 0x3f008, [], false, []⟩,
  ⟨.SEC_ERR_STAT, 0x4f000, [], false, []⟩,
  ⟨.SEC_ERR_MASK, 0x4f004, [], false, []⟩,
  ⟨.SEC_ERR_INT, 0x4f008, [], false, []⟩,
  ⟨.FAB_ERR_STAT, 0x5f000, [], false, []⟩,
  ⟨.FAB_ERR_MASK, 0x5f004, [], false, []⟩,
  ⟨.FAB_ERR_INT, 0x5f008, [], false, []⟩]

/-- Register addresses, part 6 (R542, R548). -/
def regRows6 : List Row := [
  ⟨.PMG_ERR_STAT, 0x270f000, [], false, []⟩,
  ⟨.PMG_ERR_MASK, 0x270f004, [], false, []⟩,
  ⟨.PMG_ERR_INT, 0x270f008, [], false, []⟩,
  ⟨.VST_ERR_STAT, 0xbf000, [], false, []⟩,
  ⟨.VST_ERR_MASK, 0xbf004, [], false, []⟩,
  ⟨.VST_ERR_INT, 0xbf008, [], false, []⟩,
  ⟨.DMG_ERR_STAT, 0x287f000, [], false, []⟩,
  ⟨.DMG_ERR_MASK, 0x287f004, [], false, []⟩,
  ⟨.DMG_ERR_INT, 0x287f008, [], false, []⟩,
  ⟨.SH_CFG, 0x1002000, [(0x40000, 36), (0x100, 4), (0x20, 4)], true, [0]⟩,
  ⟨.SH_CFG, 0x80300, [(0x1000, 48), (0x20, 4)], true, [1]⟩,
  ⟨.SH_CFG, 0x2840000, [(0x20, 1072)], true, [2]⟩,
  ⟨.SH_LIM, 0x1002008, [(0x40000, 36), (0x100, 4), (0x20, 4)], true, [0]⟩,
  ⟨.SH_LIM, 0x80308, [(0x1000, 48), (0x20, 4)], true, [1]⟩,
  ⟨.SH_LIM, 0x2840008, [(0x20, 1072)], true, [2]⟩,
  ⟨.SH_STAT, 0x1002010, [(0x40000, 36), (0x100, 4), (0x20, 4)], true, [0]⟩,
  ⟨.SH_STAT, 0x80310, [(0x1000, 48), (0x20, 4)], true, [1]⟩,
  ⟨.SH_STAT, 0x2840010, [(0x20, 1072)], true, [2]⟩,
  ⟨.LK_CFG, 0x1000e00, [(0x40000, 36), (0x20, 6)], true, [0]⟩,
  ⟨.LK_CFG, 0x2000e00, [(0x1000, 96), (0x20, 5)], true, [1]⟩,
  ⟨.LK_CFG, 0x2100e00, [(0x40000, 16), (0x20, 5)], true, [2]⟩,
  ⟨.LK_CFG, 0x2500e00, [(0x1000, 16), (0x20, 1)], true, [3]⟩,
  ⟨.LK_CFG, 0x2600e00, [(0x1000, 8), (0x20, 1)], true, [4]⟩,
  ⟨.LK_STAT, 0x1000e08, [(0x40000, 36), (0x20, 6)], false, [0]⟩,
  ⟨.LK_STAT, 0x2000e08, [(0x1000, 96), (0x20, 5)], false, [1]⟩,
  ⟨.LK_STAT, 0x2100e08, [(0x40000, 16), (0x20, 5)], false, [2]⟩,
  ⟨.LK_STAT, 0x2500e08, [(0x1000, 16), (0x20, 1)], false, [3]⟩,
  ⟨.LK_STAT, 0x2600e08, [(0x1000, 8), (0x20, 1)], false, [4]⟩,
  ⟨.LK_TOTAL, 0x1000e10, [(0x40000, 36), (0x20, 6)], true, [0]⟩,
  ⟨.LK_TOTAL, 0x2000e10, [(0x1000, 96), (0x20, 5)], true, [1]⟩,
  ⟨.LK_TOTAL, 0x2100e10, [(0x40000, 16), (0x20, 5)], true, [2]⟩,
  ⟨.LK_TOTAL, 0x2500e10, [(0x1000, 16), (0x20, 1)], true, [3]⟩,
  ⟨.LK_TOTAL, 0x2600e10, [(0x1000, 8), (0x20, 1)], true, [4]⟩]

/-- Every register of the device and its address. -/
def regRows : List Row := regRows0 ++ regRows1 ++ regRows2 ++ regRows3 ++ regRows4 ++ regRows5 ++ regRows6

/-- The fields of each register, with their types and reset values (R6). Bits outside every field are reserved and read 0 (R7). -/
def RN.fields : RN → List FInfo
  | .PT_CUT => [⟨0, 4, .rw, 0⟩, ⟨8, 1, .rw1c, 0⟩, ⟨9, 1, .ro, 0⟩]
  | .PT_DOZE => [⟨0, 16, .rw, 0⟩, ⟨16, 14, .rw, 0x3e8⟩]
  | .LN_CTL => [⟨0, 1, .rw, 0⟩, ⟨1, 1, .rw, 0⟩, ⟨2, 1, .rw, 0⟩, ⟨4, 3, .rw, 0⟩]
  | .LN_TXEQ => [⟨0, 5, .rw, 0⟩, ⟨5, 6, .rw, 0x3f⟩, ⟨11, 5, .rw, 0⟩, ⟨16, 1, .rw, 0⟩]
  | .LN_PAT => [⟨0, 1, .rw, 0⟩, ⟨1, 1, .rw, 0⟩, ⟨2, 4, .rw, 0⟩, ⟨6, 2, .rw, 0⟩, ⟨8, 5, .rw, 0⟩, ⟨13, 1, .wo, 0⟩, ⟨14, 1, .ro, 0⟩]
  | .LN_PAT_USER => [⟨0, 64, .rw, 0⟩]
  | .LN_PAT_ERR => [⟨0, 48, .ro, 0⟩, ⟨48, 1, .rw1c, 0⟩, ⟨49, 15, .ro, 0⟩]
  | .LN_PAT_BITS => [⟨0, 48, .ro, 0⟩, ⟨48, 1, .rw1c, 0⟩]
  | .LN_STAT => [⟨0, 3, .ro, 0⟩, ⟨3, 1, .ro, 0⟩, ⟨4, 1, .ro, 0⟩, ⟨5, 1, .ro, 0⟩, ⟨6, 1, .ro, 0⟩, ⟨7, 1, .ro, 0⟩, ⟨8, 1, .ro, 0⟩, ⟨9, 1, .rw1c, 0⟩, ⟨10, 1, .rw1c, 0⟩, ⟨11, 1, .rw1c, 0⟩]
  | .LN_EYE => [⟨0, 7, .rw, 0⟩, ⟨7, 8, .rw, 0⟩, ⟨15, 2, .rw, 0⟩, ⟨17, 1, .rw1s, 0⟩, ⟨32, 16, .ro, 0⟩]
  | .PP_CTL => [⟨0, 1, .rw, 0⟩, ⟨1, 2, .rw, 0⟩, ⟨3, 3, .rw, 6⟩, ⟨6, 1, .rw, 1⟩, ⟨7, 1, .rw, 0⟩, ⟨8, 1, .rw, 1⟩, ⟨9, 1, .wo, 0⟩, ⟨10, 1, .ro, 0⟩]
  | .PP_STAT => [⟨0, 4, .ro, 0⟩, ⟨4, 3, .ro, 7⟩, ⟨7, 5, .ro, 0⟩, ⟨12, 1, .ro, 0⟩, ⟨13, 1, .ro, 0⟩, ⟨14, 1, .ro, 0⟩, ⟨15, 1, .rw1c, 0⟩, ⟨16, 1, .rw1c, 0⟩, ⟨17, 2, .ro, 0⟩, ⟨19, 5, .ro, 0⟩]
  | .PP_PM => [⟨0, 16, .rw, 0x64⟩, ⟨16, 8, .rw, 0xff⟩, ⟨24, 1, .rw, 0⟩, ⟨25, 3, .rw, 0⟩]
  | .PP_RST => [⟨0, 4, .rw, 0⟩, ⟨4, 1, .rw, 0⟩, ⟨5, 1, .rw, 0⟩, ⟨6, 1, .rw, 0⟩, ⟨8, 6, .rw, 0⟩, ⟨16, 16, .rw, 0x64⟩]
  | .VST_STAT => [⟨0, 2, .ro, 0⟩, ⟨2, 8, .ro, 0xff⟩, ⟨10, 6, .ro, 0⟩, ⟨16, 1, .ro, 0⟩, ⟨17, 1, .ro, 0⟩]
  | .VST_TCMAP => [⟨0, 16, .ro, 0x6aaa⟩]
  | .VST_SLOT => [⟨0, 10, .ro, 0⟩, ⟨10, 2, .ro, 0⟩, ⟨12, 1, .ro, 0⟩, ⟨13, 1, .ro, 0⟩, ⟨14, 1, .ro, 0⟩, ⟨15, 1, .ro, 0⟩, ⟨16, 1, .ro, 0⟩, ⟨17, 2, .ro, 3⟩, ⟨19, 2, .ro, 3⟩, ⟨21, 1, .ro, 0⟩, ⟨24, 14, .ro, 0⟩, ⟨38, 4, .ro, 0⟩, ⟨48, 8, .ro, 0⟩]
  | .VST_GLB => [⟨0, 6, .ro, 0x30⟩, ⟨6, 11, .ro, 0x400⟩, ⟨17, 13, .ro, 0x1000⟩]
  | .VST_EPOCH => [⟨0, 32, .ro, 0⟩, ⟨32, 1, .ro, 0⟩]
  | .VST_FB_A => [⟨0, 1, .ro, 0⟩, ⟨1, 6, .ro, 0⟩, ⟨7, 10, .ro, 0⟩, ⟨17, 3, .ro, 0⟩, ⟨20, 1, .ro, 0⟩, ⟨24, 8, .ro, 0⟩, ⟨32, 16, .ro, 0⟩]
  | .VST_FB_B => [⟨0, 1, .ro, 0⟩, ⟨1, 1, .ro, 0⟩, ⟨2, 3, .ro, 0⟩, ⟨5, 3, .ro, 2⟩, ⟨8, 1, .ro, 0⟩, ⟨9, 3, .ro, 0⟩]
  | .PT_FWD_EPOCH => [⟨0, 32, .ro, 0⟩, ⟨32, 1, .ro, 0⟩, ⟨33, 1, .ro, 0⟩]
  | .PT_GATE_CFG => [⟨0, 16, .rw, 0xa⟩]
  | .PT_BUF_CFG => [⟨0, 8, .rw, 0x30⟩, ⟨8, 8, .rw, 0x60⟩, ⟨16, 8, .rw, 0x30⟩, ⟨24, 1, .rw1c, 0⟩]
  | .PT_CONG => [⟨0, 8, .rw, 0xc⟩, ⟨8, 8, .rw, 0x18⟩, ⟨16, 8, .rw, 0xc⟩]
  | .PT_FWD_CTL => [⟨0, 1, .rw, 0⟩, ⟨1, 1, .rw, 0⟩, ⟨2, 2, .ro, 0⟩]
  | .PT_GATE_STAT => [⟨0, 1, .rw1c, 0⟩, ⟨1, 1, .rw1c, 0⟩, ⟨2, 1, .ro, 0⟩]
  | .RTR_ID => [⟨0, 7, .ro, 0⟩, ⟨7, 4, .ro, 0⟩, ⟨11, 3, .ro, 0⟩, ⟨14, 3, .ro, 0⟩, ⟨17, 6, .ro, 0⟩]
  | .RTR_CTL => [⟨0, 1, .rw, 0⟩, ⟨1, 1, .ro, 0⟩, ⟨2, 1, .wo, 0⟩, ⟨3, 1, .rw1s, 0⟩]
  | .RTR_ARB => [⟨0, 4, .rwl, 0xf⟩, ⟨4, 4, .rwl, 0xe⟩, ⟨8, 6, .rwl, 4⟩, ⟨16, 12, .rwl, 0x100⟩]
  | .RTR_QOS => [⟨0, 4, .rwl, 0xc⟩, ⟨4, 4, .rwl, 8⟩, ⟨8, 4, .rwl, 2⟩]
  | .RTR_LINK => [⟨0, 2, .ro, 0⟩, ⟨2, 2, .ro, 0⟩, ⟨4, 2, .ro, 0⟩, ⟨6, 2, .ro, 0⟩]
  | .RTR_ISL_CTL => [⟨0, 12, .rw, 0x7d0⟩, ⟨12, 1, .rw1c, 0⟩]
  | .RTR_ISL_STAT => [⟨0, 12, .ro, 0⟩, ⟨12, 1, .ro, 0⟩]
  | .RTR_ESC_CTL => [⟨0, 1, .ro, 0⟩, ⟨1, 1, .wo, 0⟩, ⟨2, 1, .rw, 0⟩, ⟨3, 1, .ro, 1⟩, ⟨4, 1, .rw, 0⟩, ⟨5, 1, .rw1c, 0⟩]
  | .RTR_ESCV => [⟨0, 64, .rw, 0⟩]
  | .RTR_CNT => [⟨0, 48, .ro, 0⟩, ⟨48, 1, .rw1c, 0⟩]
  | .RTR_ESC_TBL => [⟨0, 3, .rw, 5⟩]
  | .SEC_GATE_CTL => [⟨0, 1, .ro, 0⟩, ⟨1, 1, .ro, 0⟩, ⟨2, 1, .ro, 0⟩, ⟨3, 1, .rw1c, 0⟩, ⟨4, 1, .rw1c, 0⟩, ⟨32, 32, .ro, 0⟩]
  | .SEC_GATE_LOG => [⟨0, 8, .ro, 0⟩, ⟨8, 2, .ro, 0⟩, ⟨10, 2, .ro, 0⟩, ⟨12, 1, .rw1c, 0⟩, ⟨16, 8, .ro, 0⟩, ⟨24, 24, .ro, 0⟩, ⟨48, 11, .ro, 0⟩]
  | .SEC_GATE_BASE => [⟨0, 3, .ro, 0⟩, ⟨4, 3, .ro, 0⟩, ⟨8, 3, .ro, 0⟩]
  | .SEC_GATE_SUB => [⟨0, 1, .ro, 0⟩, ⟨1, 3, .ro, 0⟩, ⟨4, 3, .ro, 0⟩, ⟨7, 3, .ro, 0⟩, ⟨16, 24, .ro, 0⟩, ⟨40, 24, .ro, 0⟩]
  | .PT_WIN_BANK => [⟨0, 32, .ro, 0⟩, ⟨32, 1, .ro, 0⟩, ⟨33, 1, .ro, 0⟩, ⟨34, 1, .ro, 0⟩]
  | .PT_WIN_LOG => [⟨0, 6, .ro, 0⟩, ⟨6, 1, .ro, 0⟩, ⟨7, 1, .rw1c, 0⟩, ⟨8, 2, .ro, 0⟩, ⟨16, 8, .ro, 0⟩]
  | .PT_WIN_ADDR => [⟨0, 64, .ro, 0⟩]
  | .PT_WIN_E => [⟨0, 1, .ro, 0⟩, ⟨1, 1, .ro, 0⟩, ⟨2, 1, .ro, 0⟩, ⟨16, 48, .ro, 0⟩]
  | .PT_WIN_BASE => [⟨0, 64, .ro, 0⟩]
  | .PT_WIN_LIMIT => [⟨0, 64, .ro, 0xfff⟩]
  | .PT_TRK_STAT => [⟨0, 15, .ro, 0⟩, ⟨15, 1, .ro, 0⟩, ⟨16, 1, .rw1c, 0⟩]
  | .PT_TRK_CFG => [⟨0, 16, .rw, 0xa⟩, ⟨16, 1, .rw, 1⟩, ⟨32, 17, .rw, 0⟩, ⟨49, 1, .rw, 1⟩, ⟨50, 10, .rw, 0xa⟩]
  | .PT_CPL_LOG => [⟨0, 16, .ro, 0⟩, ⟨16, 14, .ro, 0⟩, ⟨30, 2, .ro, 0⟩, ⟨32, 1, .rw1c, 0⟩, ⟨33, 3, .ro, 0⟩, ⟨48, 16, .ro, 0⟩]
  | .PT_CONT => [⟨0, 1, .ro, 0⟩, ⟨1, 1, .rw1c, 0⟩, ⟨2, 1, .ro, 0⟩, ⟨3, 1, .ro, 0⟩, ⟨4, 1, .ro, 0⟩, ⟨5, 1, .ro, 0⟩, ⟨6, 1, .ro, 0⟩, ⟨7, 1, .ro, 0⟩, ⟨8, 14, .ro, 0⟩]
  | .VST_CONT => [⟨0, 1, .ro, 0⟩, ⟨1, 1, .ro, 0⟩, ⟨2, 1, .ro, 0⟩, ⟨3, 1, .ro, 0⟩, ⟨4, 4, .ro, 0⟩]
  | .FAB_TRK_CFG => [⟨0, 1, .rw, 0⟩, ⟨3, 1, .rw, 0⟩, ⟨4, 4, .rw, 8⟩, ⟨8, 8, .rw, 4⟩, ⟨16, 10, .rw, 0x40⟩]
  | .FAB_TRK_FC => [⟨0, 8, .rw, 4⟩, ⟨8, 8, .rw, 2⟩, ⟨16, 8, .rw, 8⟩, ⟨24, 8, .rw, 4⟩, ⟨32, 8, .rw, 0x18⟩, ⟨40, 8, .rw, 0xc⟩, ⟨48, 8, .rw, 8⟩, ⟨56, 8, .rw, 4⟩]
  | .FAB_TRK_STAT => [⟨0, 1, .ro, 0⟩, ⟨1, 3, .ro, 0⟩, ⟨4, 8, .ro, 0⟩, ⟨12, 8, .ro, 0⟩, ⟨20, 1, .rw1c, 0⟩, ⟨21, 1, .rw1c, 0⟩, ⟨22, 1, .rw1c, 0⟩, ⟨23, 1, .rw1c, 0⟩, ⟨24, 4, .ro, 0⟩, ⟨28, 4, .ro, 0⟩, ⟨32, 16, .ro, 0⟩, ⟨48, 6, .ro, 0x3f⟩, ⟨54, 1, .rw1c, 0⟩]
  | .FAB_TRK_SEQ => [⟨0, 16, .ro, 0⟩, ⟨16, 16, .ro, 0⟩, ⟨32, 16, .ro, 0⟩, ⟨48, 4, .ro, 0⟩]
  | .FAB_DEV => [⟨0, 2, .ro, 0⟩, ⟨2, 6, .ro, 0x3f⟩, ⟨8, 6, .ro, 0x3f⟩, ⟨14, 1, .ro, 0⟩, ⟨15, 1, .ro, 0⟩, ⟨16, 1, .rw1c, 0⟩, ⟨17, 1, .rw1c, 0⟩, ⟨18, 1, .rw1c, 0⟩, ⟨19, 1, .rw1c, 0⟩, ⟨32, 32, .ro, 0⟩]
  | .FAB_MGR => [⟨0, 10, .rw, 0x64⟩, ⟨10, 10, .rw, 0x32⟩, ⟨20, 1, .rw1c, 0⟩]
  | .FAB_TXN => [⟨0, 16, .ro, 0⟩, ⟨16, 2, .ro, 0⟩, ⟨18, 1, .rw1c, 0⟩, ⟨19, 1, .rw1c, 0⟩]
  | .FAB_TIME => [⟨0, 64, .ro, 0⟩]
  | .FAB_TIME_STAT => [⟨0, 1, .ro, 0⟩, ⟨1, 5, .ro, 0⟩, ⟨16, 16, .ro, 0⟩]
  | .FAB_RT => [⟨0, 8, .ro, 0xff⟩, ⟨8, 6, .ro, 0x3f⟩, ⟨14, 2, .ro, 0⟩]
  | .FAB_TRK_NPB => [⟨0, 8, .rw, 2⟩, ⟨8, 8, .rw, 4⟩, ⟨16, 8, .rw, 0xc⟩, ⟨24, 8, .rw, 4⟩]
  | .FAB_RWIN_E => [⟨0, 1, .ro, 0⟩, ⟨1, 1, .ro, 0⟩, ⟨2, 1, .ro, 0⟩, ⟨16, 48, .ro, 0⟩]
  | .FAB_RWIN_BASE => [⟨0, 64, .ro, 0⟩]
  | .FAB_RWIN_LIMIT => [⟨0, 64, .ro, 0xfff⟩]
  | .FAB_RWIN_DST => [⟨0, 14, .ro, 0⟩]
  | .DM_ID => [⟨0, 11, .ro, 0⟩, ⟨11, 6, .ro, 0⟩, ⟨17, 1, .ro, 0⟩, ⟨24, 8, .ro, 2⟩]
  | .DM_STAT => [⟨0, 1, .rw1c, 0⟩, ⟨1, 1, .ro, 0⟩, ⟨2, 4, .ro, 0⟩]
  | .DM_FEATURES => [⟨0, 6, .ro, 0x3f⟩]
  | .DM_ACCEPT => [⟨0, 6, .rw, 0⟩]
  | .RX_CFG => [⟨0, 1, .rw, 0⟩, ⟨1, 5, .rw, 4⟩, ⟨6, 1, .rw1c, 0⟩, ⟨7, 1, .ro, 1⟩]
  | .RX_IRQ => [⟨0, 1, .rw, 0⟩, ⟨1, 3, .rw, 0⟩, ⟨8, 8, .rw, 1⟩, ⟨16, 10, .rw, 0⟩]
  | .RX_STAT => [⟨0, 32, .ro, 0⟩, ⟨32, 1, .rw1c, 0⟩, ⟨33, 1, .rw1c, 0⟩]
  | .QP_CFG => [⟨0, 5, .rw, 4⟩, ⟨5, 5, .rw, 4⟩, ⟨10, 3, .rw, 0⟩, ⟨13, 2, .rw, 0⟩, ⟨15, 1, .rw1c, 0⟩, ⟨16, 10, .rw, 0xa⟩]
  | .QP_IRQ => [⟨0, 1, .rw, 0⟩, ⟨1, 3, .rw, 0⟩, ⟨4, 1, .rw, 1⟩, ⟨8, 8, .rw, 1⟩, ⟨16, 10, .rw, 0⟩]
  | .QP_CTL => [⟨0, 1, .rw, 0⟩]
  | .QP_ERR => [⟨0, 1, .rw1c, 0⟩, ⟨1, 1, .rw1c, 0⟩, ⟨2, 1, .rw1c, 0⟩, ⟨3, 1, .rw1c, 0⟩, ⟨4, 1, .rw1c, 0⟩]
  | .QP_STAT => [⟨0, 32, .ro, 0⟩, ⟨32, 1, .ro, 1⟩, ⟨33, 1, .ro, 0⟩, ⟨34, 1, .ro, 0⟩, ⟨35, 1, .ro, 0⟩, ⟨36, 1, .ro, 0⟩]
  | .DMG_REACH => [⟨0, 1, .ro, 0⟩, ⟨1, 4, .ro, 0⟩, ⟨5, 1, .ro, 0⟩, ⟨6, 1, .ro, 0⟩, ⟨7, 1, .ro, 0⟩, ⟨8, 1, .ro, 0⟩, ⟨16, 11, .ro, 0⟩, ⟨32, 6, .ro, 0⟩, ⟨48, 11, .ro, 0⟩]
  | .DMG_REACH_BASE => [⟨0, 64, .ro, 0⟩]
  | .DMG_REACH_LIMIT => [⟨0, 64, .ro, 0xfff⟩]
  | .DMG_REACH_USE => [⟨0, 24, .ro, 0⟩]
  | .LSL_STAT => [⟨0, 17, .ro, 0⟩, ⟨17, 1, .ro, 0⟩, ⟨18, 1, .ro, 0⟩, ⟨19, 1, .rw1c, 0⟩]
  | .DMG_SHARE => [⟨0, 11, .ro, 1⟩, ⟨11, 18, .ro, 0x3ef40⟩, ⟨29, 15, .ro, 0x4000⟩, ⟨44, 20, .ro, 0⟩]
  | .DMG_VF => [⟨0, 11, .ro, 0⟩, ⟨11, 10, .ro, 0⟩]
  | .DMG_INST_USE => [⟨0, 18, .ro, 0⟩, ⟨18, 15, .ro, 0⟩, ⟨33, 1, .ro, 0⟩]
  | .DL_SEL => [⟨0, 11, .rw, 0⟩]
  | .DL_CFG => [⟨0, 5, .rw, 9⟩]
  | .DL_CTL => [⟨0, 1, .rw, 0⟩, ⟨1, 1, .rw, 0⟩, ⟨2, 1, .rw1s, 0⟩]
  | .DL_STAT => [⟨0, 1, .ro, 0⟩, ⟨1, 1, .ro, 0⟩, ⟨2, 1, .rw1c, 0⟩, ⟨3, 1, .rw1c, 0⟩]
  | .MCL_CTL => [⟨0, 1, .rw, 0⟩]
  | .MCL_STAT => [⟨0, 2, .ro, 0⟩, ⟨2, 4, .ro, 0xf⟩, ⟨6, 16, .ro, 0⟩, ⟨22, 1, .rw1c, 0⟩]
  | .MCL_FW => [⟨0, 32, .ro, 0⟩, ⟨32, 32, .ro, 0⟩]
  | .MCL_PROG => [⟨0, 1, .ro, 0⟩, ⟨32, 32, .ro, 0⟩]
  | .MCL_THR => [⟨0, 3, .ro, 0⟩, ⟨3, 1, .ro, 0⟩, ⟨4, 2, .ro, 0⟩, ⟨8, 11, .ro, 0⟩, ⟨32, 17, .ro, 0⟩]
  | .MCL_FAULT => [⟨0, 4, .ro, 0⟩, ⟨4, 4, .ro, 0⟩, ⟨8, 1, .rw1c, 0⟩, ⟨9, 11, .ro, 0⟩, ⟨20, 2, .ro, 0⟩, ⟨32, 17, .ro, 0⟩]
  | .MCL_FAULT_ADDR => [⟨0, 64, .ro, 0⟩]
  | .MCL_MEM_ADDR => [⟨0, 20, .rw, 0⟩, ⟨20, 1, .rw, 0⟩, ⟨21, 2, .rw, 0⟩]
  | .MCL_MEM_DATA => [⟨0, 64, .rw, 0⟩]
  | .DMG_PROG => [⟨0, 2, .ro, 0⟩, ⟨2, 1, .ro, 0⟩, ⟨3, 1, .ro, 0⟩, ⟨4, 20, .ro, 0⟩, ⟨32, 32, .ro, 0⟩]
  | .DMG_PROG_MASK => [⟨0, 48, .ro, 0⟩]
  | .DMG_PROG_LEN => [⟨0, 31, .ro, 0⟩, ⟨32, 32, .ro, 0⟩]
  | .DMG_PROG_USE => [⟨0, 24, .ro, 0⟩]
  | .PT_SCHED => [⟨0, 1, .rw, 1⟩, ⟨8, 8, .rw, 4⟩, ⟨16, 8, .rw, 8⟩, ⟨24, 8, .rw, 1⟩]
  | .GSV_STAT => [⟨0, 1, .ro, 0⟩, ⟨1, 1, .ro, 0⟩, ⟨2, 1, .rw1c, 0⟩, ⟨4, 8, .ro, 0⟩, ⟨12, 4, .ro, 0⟩, ⟨16, 5, .ro, 0⟩]
  | .GSV_SEAL => [⟨0, 4, .ro, 0⟩, ⟨4, 1, .ro, 0⟩, ⟨8, 16, .ro, 0⟩, ⟨24, 40, .ro, 0⟩]
  | .GSV_DEG => [⟨0, 1, .ro, 0⟩, ⟨1, 7, .ro, 0⟩, ⟨8, 8, .ro, 0⟩, ⟨16, 4, .ro, 0⟩, ⟨20, 12, .ro, 0⟩, ⟨32, 32, .ro, 0⟩]
  | .GSV_HB => [⟨0, 4, .wo, 0⟩, ⟨4, 4, .rw1c, 0⟩, ⟨8, 8, .ro, 0⟩]
  | .MGR_ABI => [⟨0, 8, .ro, 0⟩, ⟨8, 8, .ro, 1⟩]
  | .MGR_MCR_CFG => [⟨0, 1, .rw, 0⟩, ⟨1, 4, .rw, 4⟩, ⟨5, 4, .rw, 4⟩, ⟨9, 1, .rw1c, 0⟩, ⟨10, 10, .rw, 0⟩, ⟨21, 11, .rw, 0⟩]
  | .MGR_NUDGE => [⟨0, 32, .wo, 0⟩]
  | .MGR_MCR_STAT => [⟨0, 32, .ro, 0⟩, ⟨32, 1, .ro, 1⟩, ⟨33, 1, .ro, 0⟩, ⟨34, 1, .rw1c, 0⟩, ⟨35, 1, .rw1c, 0⟩, ⟨36, 1, .rw1c, 0⟩, ⟨37, 8, .ro, 0⟩]
  | .MGR_JNL_STAT => [⟨0, 1, .ro, 0⟩, ⟨1, 1, .rw1c, 0⟩, ⟨2, 1, .rw1c, 0⟩, ⟨32, 32, .ro, 0⟩]
  | .MGR_RESTART => [⟨0, 1, .ro, 0⟩, ⟨8, 8, .ro, 0⟩, ⟨16, 16, .ro, 0⟩]
  | .MGR_RSP_DONE => [⟨0, 64, .ro, 0⟩]
  | .MGR_EVT_MAP => [⟨0, 11, .rw, 0⟩, ⟨31, 1, .rw, 1⟩]
  | .SEC_BOOT => [⟨0, 1, .ro, 0⟩, ⟨1, 1, .ro, 0⟩, ⟨2, 1, .ro, 0⟩, ⟨3, 1, .ro, 0⟩, ⟨4, 1, .ro, 0⟩, ⟨5, 3, .ro, 0⟩, ⟨8, 8, .ro, 0⟩, ⟨16, 32, .ro, 0⟩]
  | .SEC_FUSE => [⟨0, 7, .ro, 0⟩, ⟨8, 7, .ro, 0⟩, ⟨16, 7, .ro, 0⟩, ⟨24, 4, .ro, 0⟩, ⟨28, 4, .ro, 0⟩, ⟨32, 4, .ro, 0⟩]
  | .CPW_TB_CFG => [⟨0, 2, .rws, 0⟩, ⟨2, 8, .rws, 0xb4⟩, ⟨10, 5, .rws, 0⟩, ⟨15, 1, .rw1c, 0⟩]
  | .CPW_TB_STAT => [⟨0, 4, .ro, 0⟩, ⟨4, 2, .ro, 0⟩, ⟨6, 1, .ro, 0⟩, ⟨7, 1, .ro, 0⟩, ⟨8, 1, .ro, 0⟩, ⟨16, 8, .ro, 0⟩]
  | .CPW_TB_MEAS => [⟨0, 8, .ro, 0⟩, ⟨8, 8, .ro, 0⟩, ⟨16, 8, .ro, 0⟩, ⟨24, 8, .ro, 0⟩]
  | .CPW_TIME => [⟨0, 64, .ro, 0⟩]
  | .CPW_STRAP => [⟨0, 2, .ro, 0⟩, ⟨2, 3, .ro, 0⟩, ⟨5, 1, .ro, 0⟩, ⟨6, 8, .ro, 0⟩]
  | .CPW_RST => [⟨0, 1, .wo, 0⟩, ⟨1, 2, .ro, 0⟩, ⟨8, 8, .ro, 0⟩]
  | .CPW_GATED_LOG => [⟨0, 8, .ro, 0⟩, ⟨8, 8, .ro, 0⟩, ⟨16, 1, .rw1c, 0⟩, ⟨24, 24, .ro, 0⟩]
  | .CPW_TILE_REF => [⟨0, 2, .rws, 0⟩, ⟨2, 2, .rws, 0⟩, ⟨4, 1, .rw1c, 0⟩]
  | .CPW_REFOUT => [⟨0, 1, .rws, 0⟩, ⟨1, 2, .rws, 2⟩, ⟨3, 4, .rws, 0⟩, ⟨7, 3, .rws, 0⟩, ⟨10, 1, .rw1c, 0⟩, ⟨11, 1, .ro, 0⟩]
  | .CPW_CLKEN => [⟨0, 32, .rw, 0⟩]
  | .CPW_PD => [⟨0, 1, .wo, 0⟩, ⟨1, 1, .wo, 0⟩, ⟨2, 2, .ro, 0⟩, ⟨4, 1, .rw1c, 0⟩, ⟨5, 3, .ro, 0⟩]
  | .PT_BW_CFG => [⟨0, 14, .rw, 0x3e8⟩]
  | .PT_BW_SEQ => [⟨0, 32, .ro, 0⟩]
  | .PT_BW_LATCH => [⟨0, 48, .ro, 0⟩]
  | .PMG_SMP_CFG => [⟨0, 1, .rw, 0⟩, ⟨1, 1, .rw, 0⟩, ⟨2, 5, .rw, 8⟩, ⟨7, 1, .rw1c, 0⟩, ⟨8, 1, .ro, 0⟩, ⟨16, 10, .rw, 0x10⟩]
  | .GLB_ID => [⟨0, 16, .ro, 0x1f2b⟩, ⟨16, 16, .ro, 0x288⟩, ⟨32, 8, .ro, 0xa1⟩, ⟨40, 4, .ro, 0xe⟩]
  | .GLB_UID => [⟨0, 64, .ro, 0⟩]
  | .GLB_CAP => [⟨0, 9, .ro, 0x120⟩, ⟨9, 6, .ro, 0x24⟩, ⟨15, 6, .ro, 0x30⟩, ⟨21, 7, .ro, 0x40⟩, ⟨28, 7, .ro, 0x60⟩, ⟨35, 11, .ro, 0x430⟩]
  | .GLB_DEVID => [⟨0, 16, .ro, 0x280⟩, ⟨16, 16, .ro, 0x281⟩, ⟨32, 16, .ro, 0x288⟩, ⟨48, 16, .ro, 0x290⟩]
  | .GLB_SCRATCH => [⟨0, 64, .rws, 0⟩]
  | .GLB_UNMAP_LOG => [⟨0, 26, .ro, 0⟩, ⟨26, 1, .rw1c, 0⟩, ⟨27, 1, .ro, 0⟩, ⟨28, 8, .ro, 0⟩, ⟨36, 2, .ro, 0⟩]
  | .PT_CNT => [⟨0, 48, .ro, 0⟩, ⟨48, 1, .rw1c, 0⟩]
  | .PT_TCNT => [⟨0, 48, .ro, 0⟩, ⟨48, 1, .rw1c, 0⟩]
  | .MCL_CNT => [⟨0, 48, .ro, 0⟩, ⟨48, 1, .rw1c, 0⟩]
  | .FAB_CNT => [⟨0, 48, .ro, 0⟩, ⟨48, 1, .rw1c, 0⟩]
  | .DMG_CNT => [⟨0, 48, .ro, 0⟩, ⟨48, 1, .rw1c, 0⟩]
  | .PMG_SHCNT => [⟨0, 48, .ro, 0⟩, ⟨48, 1, .rw1c, 0⟩]
  | .PMG_CNT => [⟨0, 48, .ro, 0⟩, ⟨48, 1, .rw1c, 0⟩]
  | .PT_CNT_CLR => [⟨0, 5, .wo, 0⟩]
  | .MCL_CNT_CLR => [⟨0, 4, .wo, 0⟩]
  | .FAB_CNT_CLR => [⟨0, 18, .wo, 0⟩]
  | .PMG_CNT_CLR => [⟨0, 1, .wo, 0⟩]
  | .RX_BASE => [⟨12, 52, .rw, 0⟩]
  | .RX_DB_ADDR => [⟨4, 60, .rw, 0⟩]
  | .QP_SQ_BASE => [⟨12, 52, .rw, 0⟩]
  | .QP_CQ_BASE => [⟨12, 52, .rw, 0⟩]
  | .QP_DB_ADDR => [⟨4, 60, .rw, 0⟩]
  | .DL_BASE => [⟨12, 52, .rw, 0⟩]
  | .DL_DB_ADDR => [⟨4, 60, .rw, 0⟩]
  | .MGR_CMD_BASE => [⟨12, 52, .rw, 0⟩]
  | .MGR_RSP_BASE => [⟨12, 52, .rw, 0⟩]
  | .MGR_DB_ADDR => [⟨4, 60, .rw, 0⟩]
  | .MGR_JNL_SEQ => [⟨0, 64, .ro, 0⟩]
  | .PMG_SMP_BASE => [⟨12, 52, .rw, 0⟩]
  | .PMG_SMP_DB => [⟨4, 60, .rw, 0⟩]
  | .PMG_SMP_MASK => [⟨0, 64, .rw, 0⟩]
  | .MSIX_ADDR => [⟨0, 64, .rw, 0⟩]
  | .MSIX_DATA => [⟨0, 32, .rw, 0⟩]
  | .MSIX_CTRL => [⟨0, 1, .rw, 1⟩]
  | .MSIX_PBA => [⟨0, 64, .ro, 0⟩]
  | .IMSIX_ADDR => [⟨0, 64, .rw, 0⟩]
  | .IMSIX_DATA => [⟨0, 32, .rw, 0⟩]
  | .IMSIX_CTRL => [⟨0, 1, .rw, 1⟩]
  | .IMSIX_PBA => [⟨0, 8, .ro, 0⟩]
  | .PT_TBUF_STAT => [⟨0, 1, .rw1c, 0⟩, ⟨1, 1, .rw1c, 0⟩, ⟨2, 1, .rw1c, 0⟩]
  | .PT_TBUF_MASK => [⟨0, 1, .rw, 0⟩, ⟨1, 1, .rw, 0⟩, ⟨2, 1, .rw, 0⟩]
  | .PT_TBUF_INT => [⟨0, 1, .ro, 0⟩, ⟨1, 1, .ro, 0⟩, ⟨2, 1, .ro, 0⟩]
  | .PT_TTRK_STAT => [⟨0, 1, .rw1c, 0⟩, ⟨1, 1, .rw1c, 0⟩, ⟨2, 1, .rw1c, 0⟩]
  | .PT_TTRK_MASK => [⟨0, 1, .rw, 0⟩, ⟨1, 1, .rw, 0⟩, ⟨2, 1, .rw, 0⟩]
  | .PT_TTRK_INT => [⟨0, 1, .ro, 0⟩, ⟨1, 1, .ro, 0⟩, ⟨2, 1, .ro, 0⟩]
  | .PT_TBANK_STAT => [⟨0, 1, .rw1c, 0⟩, ⟨1, 1, .rw1c, 0⟩]
  | .PT_TBANK_MASK => [⟨0, 1, .rw, 0⟩, ⟨1, 1, .rw, 0⟩]
  | .PT_TBANK_INT => [⟨0, 1, .ro, 0⟩, ⟨1, 1, .ro, 0⟩]
  | .PT_TLEAK_STAT => [⟨0, 1, .rw1c, 0⟩, ⟨1, 1, .rw1c, 0⟩]
  | .PT_TLEAK_MASK => [⟨0, 1, .rw, 0⟩, ⟨1, 1, .rw, 0⟩]
  | .PT_TLEAK_INT => [⟨0, 1, .ro, 0⟩, ⟨1, 1, .ro, 0⟩]
  | .PT_PLINK_STAT => [⟨0, 1, .rw1c, 0⟩, ⟨1, 1, .rw1c, 0⟩, ⟨2, 1, .rw1c, 0⟩, ⟨3, 1, .rw1c, 0⟩, ⟨4, 1, .rw1c, 0⟩, ⟨5, 1, .rw1c, 0⟩, ⟨6, 1, .rw1c, 0⟩, ⟨7, 1, .rw1c, 0⟩]
  | .PT_PLINK_MASK => [⟨0, 1, .rw, 0⟩, ⟨1, 1, .rw, 0⟩, ⟨2, 1, .rw, 0⟩, ⟨3, 1, .rw, 0⟩, ⟨4, 1, .rw, 0⟩, ⟨5, 1, .rw, 0⟩, ⟨6, 1, .rw, 0⟩, ⟨7, 1, .rw, 0⟩]
  | .PT_PLINK_INT => [⟨0, 1, .ro, 0⟩, ⟨1, 1, .ro, 0⟩, ⟨2, 1, .ro, 0⟩, ⟨3, 1, .ro, 0⟩, ⟨4, 1, .ro, 0⟩, ⟨5, 1, .ro, 0⟩, ⟨6, 1, .ro, 0⟩, ⟨7, 1, .ro, 0⟩]
  | .PT_PINTEGRITY_STAT => [⟨0, 1, .rw1c, 0⟩, ⟨1, 1, .rw1c, 0⟩, ⟨2, 1, .rw1c, 0⟩, ⟨3, 1, .rw1c, 0⟩]
  | .PT_PINTEGRITY_MASK => [⟨0, 1, .rw, 0⟩, ⟨1, 1, .rw, 0⟩, ⟨2, 1, .rw, 0⟩, ⟨3, 1, .rw, 0⟩]
  | .PT_PINTEGRITY_INT => [⟨0, 1, .ro, 0⟩, ⟨1, 1, .ro, 0⟩, ⟨2, 1, .ro, 0⟩, ⟨3, 1, .ro, 0⟩]
  | .PT_PFORWARD_STAT => [⟨0, 1, .rw1c, 0⟩, ⟨1, 1, .rw1c, 0⟩, ⟨2, 1, .rw1c, 0⟩, ⟨3, 1, .rw1c, 0⟩, ⟨4, 1, .rw1c, 0⟩]
  | .PT_PFORWARD_MASK => [⟨0, 1, .rw, 0⟩, ⟨1, 1, .rw, 0⟩, ⟨2, 1, .rw, 0⟩, ⟨3, 1, .rw, 0⟩, ⟨4, 1, .rw, 0⟩]
  | .PT_PFORWARD_INT => [⟨0, 1, .ro, 0⟩, ⟨1, 1, .ro, 0⟩, ⟨2, 1, .ro, 0⟩, ⟨3, 1, .ro, 0⟩, ⟨4, 1, .ro, 0⟩]
  | .PT_PCOMPLETION_STAT => [⟨0, 1, .rw1c, 0⟩, ⟨1, 1, .rw1c, 0⟩, ⟨2, 1, .rw1c, 0⟩, ⟨3, 1, .rw1c, 0⟩]
  | .PT_PCOMPLETION_MASK => [⟨0, 1, .rw, 0⟩, ⟨1, 1, .rw, 0⟩, ⟨2, 1, .rw, 0⟩, ⟨3, 1, .rw, 0⟩]
  | .PT_PCOMPLETION_INT => [⟨0, 1, .ro, 0⟩, ⟨1, 1, .ro, 0⟩, ⟨2, 1, .ro, 0⟩, ⟨3, 1, .ro, 0⟩]
  | .PT_PCONTAIN_STAT => [⟨0, 1, .rw1c, 0⟩, ⟨1, 1, .rw1c, 0⟩, ⟨2, 1, .rw1c, 0⟩]
  | .PT_PCONTAIN_MASK => [⟨0, 1, .rw, 0⟩, ⟨1, 1, .rw, 0⟩, ⟨2, 1, .rw, 0⟩]
  | .PT_PCONTAIN_INT => [⟨0, 1, .ro, 0⟩, ⟨1, 1, .ro, 0⟩, ⟨2, 1, .ro, 0⟩]
  | .PT_PCONGEST_STAT => [⟨0, 1, .rw1c, 0⟩, ⟨1, 1, .rw1c, 0⟩, ⟨2, 1, .rw1c, 0⟩]
  | .PT_PCONGEST_MASK => [⟨0, 1, .rw, 0⟩, ⟨1, 1, .rw, 0⟩, ⟨2, 1, .rw, 0⟩]
  | .PT_PCONGEST_INT => [⟨0, 1, .ro, 0⟩, ⟨1, 1, .ro, 0⟩, ⟨2, 1, .ro, 0⟩]
  | .PT_PTRUNK_STAT => [⟨0, 1, .rw1c, 0⟩, ⟨1, 1, .rw1c, 0⟩, ⟨2, 1, .rw1c, 0⟩, ⟨3, 1, .rw1c, 0⟩, ⟨4, 1, .rw1c, 0⟩, ⟨5, 1, .rw1c, 0⟩, ⟨6, 1, .rw1c, 0⟩, ⟨7, 1, .rw1c, 0⟩, ⟨8, 1, .rw1c, 0⟩, ⟨9, 1, .rw1c, 0⟩]
  | .PT_PTRUNK_MASK => [⟨0, 1, .rw, 0⟩, ⟨1, 1, .rw, 0⟩, ⟨2, 1, .rw, 0⟩, ⟨3, 1, .rw, 0⟩, ⟨4, 1, .rw, 0⟩, ⟨5, 1, .rw, 0⟩, ⟨6, 1, .rw, 0⟩, ⟨7, 1, .rw, 0⟩, ⟨8, 1, .rw, 0⟩, ⟨9, 1, .rw, 0⟩]
  | .PT_PTRUNK_INT => [⟨0, 1, .ro, 0⟩, ⟨1, 1, .ro, 0⟩, ⟨2, 1, .ro, 0⟩, ⟨3, 1, .ro, 0⟩, ⟨4, 1, .ro, 0⟩, ⟨5, 1, .ro, 0⟩, ⟨6, 1, .ro, 0⟩, ⟨7, 1, .ro, 0⟩, ⟨8, 1, .ro, 0⟩, ⟨9, 1, .ro, 0⟩]
  | .PT_PCOUNT_STAT => [⟨0, 1, .rw1c, 0⟩, ⟨1, 1, .rw1c, 0⟩]
  | .PT_PCOUNT_MASK => [⟨0, 1, .rw, 0⟩, ⟨1, 1, .rw, 0⟩]
  | .PT_PCOUNT_INT => [⟨0, 1, .ro, 0⟩, ⟨1, 1, .ro, 0⟩]
  | .RTR_ERR_STAT => [⟨0, 1, .rw1c, 0⟩, ⟨1, 1, .rw1c, 0⟩, ⟨2, 1, .rw1c, 0⟩, ⟨3, 1, .rw1c, 0⟩, ⟨4, 1, .rw1c, 0⟩, ⟨5, 1, .rw1c, 0⟩, ⟨6, 1, .rw1c, 0⟩, ⟨7, 1, .rw1c, 0⟩, ⟨8, 1, .rw1c, 0⟩]
  | .RTR_ERR_MASK => [⟨0, 1, .rw, 0⟩, ⟨1, 1, .rw, 0⟩, ⟨2, 1, .rw, 0⟩, ⟨3, 1, .rw, 0⟩, ⟨4, 1, .rw, 0⟩, ⟨5, 1, .rw, 0⟩, ⟨6, 1, .rw, 0⟩, ⟨7, 1, .rw, 0⟩, ⟨8, 1, .rw, 0⟩]
  | .RTR_ERR_INT => [⟨0, 1, .ro, 0⟩, ⟨1, 1, .ro, 0⟩, ⟨2, 1, .ro, 0⟩, ⟨3, 1, .ro, 0⟩, ⟨4, 1, .ro, 0⟩, ⟨5, 1, .ro, 0⟩, ⟨6, 1, .ro, 0⟩, ⟨7, 1, .ro, 0⟩, ⟨8, 1, .ro, 0⟩]
  | .MCL_ERR_STAT => [⟨0, 1, .rw1c, 0⟩, ⟨1, 1, .rw1c, 0⟩, ⟨2, 1, .rw1c, 0⟩, ⟨3, 1, .rw1c, 0⟩]
  | .MCL_ERR_MASK => [⟨0, 1, .rw, 0⟩, ⟨1, 1, .rw, 0⟩, ⟨2, 1, .rw, 0⟩, ⟨3, 1, .rw, 0⟩]
  | .MCL_ERR_INT => [⟨0, 1, .ro, 0⟩, ⟨1, 1, .ro, 0⟩, ⟨2, 1, .ro, 0⟩, ⟨3, 1, .ro, 0⟩]
  | .SSL_ERR_STAT => [⟨0, 1, .rw1c, 0⟩, ⟨1, 1, .rw1c, 0⟩, ⟨2, 1, .rw1c, 0⟩]
  | .SSL_ERR_MASK => [⟨0, 1, .rw, 0⟩, ⟨1, 1, .rw, 0⟩, ⟨2, 1, .rw, 0⟩]
  | .SSL_ERR_INT => [⟨0, 1, .ro, 0⟩, ⟨1, 1, .ro, 0⟩, ⟨2, 1, .ro, 0⟩]
  | .LSL_ERR_STAT => [⟨0, 1, .rw1c, 0⟩, ⟨1, 1, .rw1c, 0⟩, ⟨2, 1, .rw1c, 0⟩, ⟨3, 1, .rw1c, 0⟩]
  | .LSL_ERR_MASK => [⟨0, 1, .rw, 0⟩, ⟨1, 1, .rw, 0⟩, ⟨2, 1, .rw, 0⟩, ⟨3, 1, .rw, 0⟩]
  | .LSL_ERR_INT => [⟨0, 1, .ro, 0⟩, ⟨1, 1, .ro, 0⟩, ⟨2, 1, .ro, 0⟩, ⟨3, 1, .ro, 0⟩]
  | .GLB_ERR_STAT => [⟨0, 1, .rw1c, 0⟩]
  | .GLB_ERR_MASK => [⟨0, 1, .rw, 0⟩]
  | .GLB_ERR_INT => [⟨0, 1, .ro, 0⟩]
  | .CPW_ERR_STAT => [⟨0, 1, .rw1c, 0⟩, ⟨1, 1, .rw1c, 0⟩, ⟨2, 1, .rw1c, 0⟩, ⟨3, 1, .rw1c, 0⟩, ⟨4, 1, .rw1c, 0⟩, ⟨5, 1, .rw1c, 0⟩, ⟨6, 1, .rw1c, 0⟩]
  | .CPW_ERR_MASK => [⟨0, 1, .rw, 0⟩, ⟨1, 1, .rw, 0⟩, ⟨2, 1, .rw, 0⟩, ⟨3, 1, .rw, 0⟩, ⟨4, 1, .rw, 0⟩, ⟨5, 1, .rw, 0⟩, ⟨6, 1, .rw, 0⟩]
  | .CPW_ERR_INT => [⟨0, 1, .ro, 0⟩, ⟨1, 1, .ro, 0⟩, ⟨2, 1, .ro, 0⟩, ⟨3, 1, .ro, 0⟩, ⟨4, 1, .ro, 0⟩, ⟨5, 1, .ro, 0⟩, ⟨6, 1, .ro, 0⟩]
  | .GSV_ERR_STAT => [⟨0, 1, .rw1c, 0⟩, ⟨1, 1, .rw1c, 0⟩, ⟨2, 1, .rw1c, 0⟩, ⟨3, 1, .rw1c, 0⟩]
  | .GSV_ERR_MASK => [⟨0, 1, .rw, 0⟩, ⟨1, 1, .rw, 0⟩, ⟨2, 1, .rw, 0⟩, ⟨3, 1, .rw, 0⟩]
  | .GSV_ERR_INT => [⟨0, 1, .ro, 0⟩, ⟨1, 1, .ro, 0⟩, ⟨2, 1, .ro, 0⟩, ⟨3, 1, .ro, 0⟩]
  | .MGR_ERR_STAT => [⟨0, 1, .rw1c, 0⟩, ⟨1, 1, .rw1c, 0⟩, ⟨2, 1, .rw1c, 0⟩, ⟨3, 1, .rw1c, 0⟩]
  | .MGR_ERR_MASK => [⟨0, 1, .rw, 0⟩, ⟨1, 1, .rw, 0⟩, ⟨2, 1, .rw, 0⟩, ⟨3, 1, .rw, 0⟩]
  | .MGR_ERR_INT => [⟨0, 1, .ro, 0⟩, ⟨1, 1, .ro, 0⟩, ⟨2, 1, .ro, 0⟩, ⟨3, 1, .ro, 0⟩]
  | .SEC_ERR_STAT => [⟨0, 1, .rw1c, 0⟩, ⟨1, 1, .rw1c, 0⟩, ⟨2, 1, .rw1c, 0⟩, ⟨3, 1, .rw1c, 0⟩, ⟨4, 1, .rw1c, 0⟩]
  | .SEC_ERR_MASK => [⟨0, 1, .rw, 0⟩, ⟨1, 1, .rw, 0⟩, ⟨2, 1, .rw, 0⟩, ⟨3, 1, .rw, 0⟩, ⟨4, 1, .rw, 0⟩]
  | .SEC_ERR_INT => [⟨0, 1, .ro, 0⟩, ⟨1, 1, .ro, 0⟩, ⟨2, 1, .ro, 0⟩, ⟨3, 1, .ro, 0⟩, ⟨4, 1, .ro, 0⟩]
  | .FAB_ERR_STAT => [⟨0, 1, .rw1c, 0⟩, ⟨1, 1, .rw1c, 0⟩, ⟨2, 1, .rw1c, 0⟩, ⟨3, 1, .rw1c, 0⟩, ⟨4, 1, .rw1c, 0⟩, ⟨5, 1, .rw1c, 0⟩, ⟨6, 1, .rw1c, 0⟩, ⟨7, 1, .rw1c, 0⟩, ⟨8, 1, .rw1c, 0⟩]
  | .FAB_ERR_MASK => [⟨0, 1, .rw, 0⟩, ⟨1, 1, .rw, 0⟩, ⟨2, 1, .rw, 0⟩, ⟨3, 1, .rw, 0⟩, ⟨4, 1, .rw, 0⟩, ⟨5, 1, .rw, 0⟩, ⟨6, 1, .rw, 0⟩, ⟨7, 1, .rw, 0⟩, ⟨8, 1, .rw, 0⟩]
  | .FAB_ERR_INT => [⟨0, 1, .ro, 0⟩, ⟨1, 1, .ro, 0⟩, ⟨2, 1, .ro, 0⟩, ⟨3, 1, .ro, 0⟩, ⟨4, 1, .ro, 0⟩, ⟨5, 1, .ro, 0⟩, ⟨6, 1, .ro, 0⟩, ⟨7, 1, .ro, 0⟩, ⟨8, 1, .ro, 0⟩]
  | .PMG_ERR_STAT => [⟨0, 1, .rw1c, 0⟩, ⟨1, 1, .rw1c, 0⟩]
  | .PMG_ERR_MASK => [⟨0, 1, .rw, 0⟩, ⟨1, 1, .rw, 0⟩]
  | .PMG_ERR_INT => [⟨0, 1, .ro, 0⟩, ⟨1, 1, .ro, 0⟩]
  | .VST_ERR_STAT => [⟨0, 1, .rw1c, 0⟩, ⟨1, 1, .rw1c, 0⟩, ⟨2, 1, .rw1c, 0⟩]
  | .VST_ERR_MASK => [⟨0, 1, .rw, 0⟩, ⟨1, 1, .rw, 0⟩, ⟨2, 1, .rw, 0⟩]
  | .VST_ERR_INT => [⟨0, 1, .ro, 0⟩, ⟨1, 1, .ro, 0⟩, ⟨2, 1, .ro, 0⟩]
  | .DMG_ERR_STAT => [⟨0, 1, .rw1c, 0⟩, ⟨1, 1, .rw1c, 0⟩, ⟨2, 1, .rw1c, 0⟩, ⟨3, 1, .rw1c, 0⟩]
  | .DMG_ERR_MASK => [⟨0, 1, .rw, 0⟩, ⟨1, 1, .rw, 0⟩, ⟨2, 1, .rw, 0⟩, ⟨3, 1, .rw, 0⟩]
  | .DMG_ERR_INT => [⟨0, 1, .ro, 0⟩, ⟨1, 1, .ro, 0⟩, ⟨2, 1, .ro, 0⟩, ⟨3, 1, .ro, 0⟩]
  | .SH_CFG => [⟨0, 1, .ro, 0⟩, ⟨1, 1, .ro, 0⟩, ⟨2, 1, .ro, 0⟩, ⟨8, 8, .ro, 0⟩, ⟨16, 16, .ro, 0xffff⟩, ⟨32, 16, .ro, 0x64⟩, ⟨48, 3, .ro, 3⟩, ⟨56, 8, .ro, 0x10⟩]
  | .SH_LIM => [⟨0, 21, .ro, 0x10000⟩, ⟨32, 21, .ro, 0x2000⟩, ⟨56, 8, .ro, 8⟩]
  | .SH_STAT => [⟨0, 32, .ro, 0x10000⟩, ⟨32, 16, .ro, 0xffff⟩, ⟨48, 1, .ro, 0⟩]
  | .LK_CFG => [⟨0, 16, .rw, 0⟩, ⟨16, 24, .rw, 0⟩]
  | .LK_STAT => [⟨0, 16, .ro, 0⟩, ⟨16, 1, .ro, 0⟩]
  | .LK_TOTAL => [⟨0, 48, .ro, 0⟩, ⟨48, 1, .rw1c, 0⟩]

/-- Is the register 64 bits wide? -/
def RN.w64 : RN → Bool
  | .LN_PAT_USER | .LN_PAT_ERR | .LN_PAT_BITS | .LN_EYE | .VST_SLOT | .VST_EPOCH | .VST_FB_A | .VST_FB_B 
  | .PT_FWD_EPOCH | .RTR_ESCV | .RTR_CNT | .SEC_GATE_CTL | .SEC_GATE_LOG | .SEC_GATE_SUB | .PT_WIN_BANK 
  | .PT_WIN_ADDR | .PT_WIN_E | .PT_WIN_BASE | .PT_WIN_LIMIT | .PT_TRK_CFG | .PT_CPL_LOG | .FAB_TRK_FC 
  | .FAB_TRK_STAT | .FAB_TRK_SEQ | .FAB_DEV | .FAB_TIME | .FAB_RWIN_E | .FAB_RWIN_BASE | .FAB_RWIN_LIMIT 
  | .DM_FEATURES | .DM_ACCEPT | .RX_STAT | .QP_STAT | .DMG_REACH | .DMG_REACH_BASE | .DMG_REACH_LIMIT 
  | .DMG_SHARE | .DMG_INST_USE | .MCL_FW | .MCL_PROG | .MCL_THR | .MCL_FAULT | .MCL_FAULT_ADDR | .MCL_MEM_DATA 
  | .DMG_PROG | .DMG_PROG_MASK | .DMG_PROG_LEN | .GSV_SEAL | .GSV_DEG | .MGR_MCR_STAT | .MGR_JNL_STAT 
  | .MGR_RSP_DONE | .SEC_BOOT | .SEC_FUSE | .CPW_TIME | .CPW_GATED_LOG | .PT_BW_LATCH | .PMG_SMP_CFG 
  | .GLB_ID | .GLB_UID | .GLB_CAP | .GLB_DEVID | .GLB_SCRATCH | .GLB_UNMAP_LOG | .PT_CNT | .PT_TCNT | .MCL_CNT 
  | .FAB_CNT | .DMG_CNT | .PMG_SHCNT | .PMG_CNT | .RX_BASE | .RX_DB_ADDR | .QP_SQ_BASE | .QP_CQ_BASE 
  | .QP_DB_ADDR | .DL_BASE | .DL_DB_ADDR | .MGR_CMD_BASE | .MGR_RSP_BASE | .MGR_DB_ADDR | .MGR_JNL_SEQ 
  | .PMG_SMP_BASE | .PMG_SMP_DB | .PMG_SMP_MASK | .MSIX_ADDR | .MSIX_PBA | .IMSIX_ADDR | .IMSIX_PBA | .SH_CFG 
  | .SH_LIM | .SH_STAT | .LK_CFG | .LK_TOTAL => true
  | .PT_CUT | .PT_DOZE | .LN_CTL | .LN_TXEQ | .LN_PAT | .LN_STAT | .PP_CTL | .PP_STAT | .PP_PM | .PP_RST 
  | .VST_STAT | .VST_TCMAP | .VST_GLB | .PT_GATE_CFG | .PT_BUF_CFG | .PT_CONG | .PT_FWD_CTL | .PT_GATE_STAT 
  | .RTR_ID | .RTR_CTL | .RTR_ARB | .RTR_QOS | .RTR_LINK | .RTR_ISL_CTL | .RTR_ISL_STAT | .RTR_ESC_CTL 
  | .RTR_ESC_TBL | .SEC_GATE_BASE | .PT_WIN_LOG | .PT_TRK_STAT | .PT_CONT | .VST_CONT | .FAB_TRK_CFG 
  | .FAB_MGR | .FAB_TXN | .FAB_TIME_STAT | .FAB_RT | .FAB_TRK_NPB | .FAB_RWIN_DST | .DM_ID | .DM_STAT 
  | .RX_CFG | .RX_IRQ | .QP_CFG | .QP_IRQ | .QP_CTL | .QP_ERR | .DMG_REACH_USE | .LSL_STAT | .DMG_VF 
  | .DL_SEL | .DL_CFG | .DL_CTL | .DL_STAT | .MCL_CTL | .MCL_STAT | .MCL_MEM_ADDR | .DMG_PROG_USE | .PT_SCHED 
  | .GSV_STAT | .GSV_HB | .MGR_ABI | .MGR_MCR_CFG | .MGR_NUDGE | .MGR_RESTART | .MGR_EVT_MAP | .CPW_TB_CFG 
  | .CPW_TB_STAT | .CPW_TB_MEAS | .CPW_STRAP | .CPW_RST | .CPW_TILE_REF | .CPW_REFOUT | .CPW_CLKEN | .CPW_PD 
  | .PT_BW_CFG | .PT_BW_SEQ | .PT_CNT_CLR | .MCL_CNT_CLR | .FAB_CNT_CLR | .PMG_CNT_CLR | .MSIX_DATA | .MSIX_CTRL 
  | .IMSIX_DATA | .IMSIX_CTRL | .PT_TBUF_STAT | .PT_TBUF_MASK | .PT_TBUF_INT | .PT_TTRK_STAT | .PT_TTRK_MASK 
  | .PT_TTRK_INT | .PT_TBANK_STAT | .PT_TBANK_MASK | .PT_TBANK_INT | .PT_TLEAK_STAT | .PT_TLEAK_MASK 
  | .PT_TLEAK_INT | .PT_PLINK_STAT | .PT_PLINK_MASK | .PT_PLINK_INT | .PT_PINTEGRITY_STAT | .PT_PINTEGRITY_MASK 
  | .PT_PINTEGRITY_INT | .PT_PFORWARD_STAT | .PT_PFORWARD_MASK | .PT_PFORWARD_INT | .PT_PCOMPLETION_STAT 
  | .PT_PCOMPLETION_MASK | .PT_PCOMPLETION_INT | .PT_PCONTAIN_STAT | .PT_PCONTAIN_MASK | .PT_PCONTAIN_INT 
  | .PT_PCONGEST_STAT | .PT_PCONGEST_MASK | .PT_PCONGEST_INT | .PT_PTRUNK_STAT | .PT_PTRUNK_MASK | .PT_PTRUNK_INT 
  | .PT_PCOUNT_STAT | .PT_PCOUNT_MASK | .PT_PCOUNT_INT | .RTR_ERR_STAT | .RTR_ERR_MASK | .RTR_ERR_INT 
  | .MCL_ERR_STAT | .MCL_ERR_MASK | .MCL_ERR_INT | .SSL_ERR_STAT | .SSL_ERR_MASK | .SSL_ERR_INT | .LSL_ERR_STAT 
  | .LSL_ERR_MASK | .LSL_ERR_INT | .GLB_ERR_STAT | .GLB_ERR_MASK | .GLB_ERR_INT | .CPW_ERR_STAT | .CPW_ERR_MASK 
  | .CPW_ERR_INT | .GSV_ERR_STAT | .GSV_ERR_MASK | .GSV_ERR_INT | .MGR_ERR_STAT | .MGR_ERR_MASK | .MGR_ERR_INT 
  | .SEC_ERR_STAT | .SEC_ERR_MASK | .SEC_ERR_INT | .FAB_ERR_STAT | .FAB_ERR_MASK | .FAB_ERR_INT | .PMG_ERR_STAT 
  | .PMG_ERR_MASK | .PMG_ERR_INT | .VST_ERR_STAT | .VST_ERR_MASK | .VST_ERR_INT | .DMG_ERR_STAT | .DMG_ERR_MASK 
  | .DMG_ERR_INT | .LK_STAT => false

namespace F

abbrev PT_CUT_CUT : Fld := ⟨.PT_CUT, 0, 4⟩
abbrev PT_CUT_CUT_REFUSED : Fld := ⟨.PT_CUT, 8, 1⟩
abbrev PT_CUT_PAIR_MISMATCH : Fld := ⟨.PT_CUT, 9, 1⟩
abbrev PT_DOZE_IDLE_TIME : Fld := ⟨.PT_DOZE, 0, 16⟩
abbrev PT_DOZE_MAX_TIME : Fld := ⟨.PT_DOZE, 16, 14⟩
abbrev LN_CTL_TX_POL : Fld := ⟨.LN_CTL, 0, 1⟩
abbrev LN_CTL_RX_POL_OVR : Fld := ⟨.LN_CTL, 1, 1⟩
abbrev LN_CTL_RX_POL_VAL : Fld := ⟨.LN_CTL, 2, 1⟩
abbrev LN_CTL_LPBK : Fld := ⟨.LN_CTL, 4, 3⟩
abbrev LN_TXEQ_C_PRE : Fld := ⟨.LN_TXEQ, 0, 5⟩
abbrev LN_TXEQ_C_MAIN : Fld := ⟨.LN_TXEQ, 5, 6⟩
abbrev LN_TXEQ_C_POST : Fld := ⟨.LN_TXEQ, 11, 5⟩
abbrev LN_TXEQ_OVR : Fld := ⟨.LN_TXEQ, 16, 1⟩
abbrev LN_PAT_GEN_EN : Fld := ⟨.LN_PAT, 0, 1⟩
abbrev LN_PAT_CHK_EN : Fld := ⟨.LN_PAT, 1, 1⟩
abbrev LN_PAT_PATTERN : Fld := ⟨.LN_PAT, 2, 4⟩
abbrev LN_PAT_INJ_MODE : Fld := ⟨.LN_PAT, 6, 2⟩
abbrev LN_PAT_INJ_RATE : Fld := ⟨.LN_PAT, 8, 5⟩
abbrev LN_PAT_INJ_ONE : Fld := ⟨.LN_PAT, 13, 1⟩
abbrev LN_PAT_CHK_LOCK : Fld := ⟨.LN_PAT, 14, 1⟩
abbrev LN_PAT_USER_PATTERN : Fld := ⟨.LN_PAT_USER, 0, 64⟩
abbrev LN_PAT_ERR_COUNT : Fld := ⟨.LN_PAT_ERR, 0, 48⟩
abbrev LN_PAT_ERR_OVF : Fld := ⟨.LN_PAT_ERR, 48, 1⟩
abbrev LN_PAT_ERR_LOCK_LOSS : Fld := ⟨.LN_PAT_ERR, 49, 15⟩
abbrev LN_PAT_BITS_COUNT : Fld := ⟨.LN_PAT_BITS, 0, 48⟩
abbrev LN_PAT_BITS_OVF : Fld := ⟨.LN_PAT_BITS, 48, 1⟩
abbrev LN_STAT_RATE : Fld := ⟨.LN_STAT, 0, 3⟩
abbrev LN_STAT_READY : Fld := ⟨.LN_STAT, 3, 1⟩
abbrev LN_STAT_SIGNAL_DET : Fld := ⟨.LN_STAT, 4, 1⟩
abbrev LN_STAT_CDR_LOCK : Fld := ⟨.LN_STAT, 5, 1⟩
abbrev LN_STAT_RX_POL : Fld := ⟨.LN_STAT, 6, 1⟩
abbrev LN_STAT_REVERSED : Fld := ⟨.LN_STAT, 7, 1⟩
abbrev LN_STAT_DOZE : Fld := ⟨.LN_STAT, 8, 1⟩
abbrev LN_STAT_MISWIRE : Fld := ⟨.LN_STAT, 9, 1⟩
abbrev LN_STAT_LPBK_REFUSED : Fld := ⟨.LN_STAT, 10, 1⟩
abbrev LN_STAT_PAT_REFUSED : Fld := ⟨.LN_STAT, 11, 1⟩
abbrev LN_EYE_T_STEP : Fld := ⟨.LN_EYE, 0, 7⟩
abbrev LN_EYE_V_STEP : Fld := ⟨.LN_EYE, 7, 8⟩
abbrev LN_EYE_EYE_SEL : Fld := ⟨.LN_EYE, 15, 2⟩
abbrev LN_EYE_START : Fld := ⟨.LN_EYE, 17, 1⟩
abbrev LN_EYE_ERRORS : Fld := ⟨.LN_EYE, 32, 16⟩
abbrev PP_CTL_ENABLE : Fld := ⟨.PP_CTL, 0, 1⟩
abbrev PP_CTL_ROLE : Fld := ⟨.PP_CTL, 1, 2⟩
abbrev PP_CTL_RATE_MAX : Fld := ⟨.PP_CTL, 3, 3⟩
abbrev PP_CTL_FLIT_EN : Fld := ⟨.PP_CTL, 6, 1⟩
abbrev PP_CTL_LPBK_LEAD : Fld := ⟨.PP_CTL, 7, 1⟩
abbrev PP_CTL_DEGRADE_EN : Fld := ⟨.PP_CTL, 8, 1⟩
abbrev PP_CTL_RETRAIN : Fld := ⟨.PP_CTL, 9, 1⟩
abbrev PP_CTL_SAF : Fld := ⟨.PP_CTL, 10, 1⟩
abbrev PP_STAT_LINK_STATE : Fld := ⟨.PP_STAT, 0, 4⟩
abbrev PP_STAT_RATE : Fld := ⟨.PP_STAT, 4, 3⟩
abbrev PP_STAT_WIDTH : Fld := ⟨.PP_STAT, 7, 5⟩
abbrev PP_STAT_FLIT : Fld := ⟨.PP_STAT, 12, 1⟩
abbrev PP_STAT_DEGRADED : Fld := ⟨.PP_STAT, 13, 1⟩
abbrev PP_STAT_IDE_SECURE : Fld := ⟨.PP_STAT, 14, 1⟩
abbrev PP_STAT_IDE_FAIL : Fld := ⟨.PP_STAT, 15, 1⟩
abbrev PP_STAT_CFG_REFUSED : Fld := ⟨.PP_STAT, 16, 1⟩
abbrev PP_STAT_L1_SUB : Fld := ⟨.PP_STAT, 17, 2⟩
abbrev PP_STAT_L0P_WIDTH : Fld := ⟨.PP_STAT, 19, 5⟩
abbrev PP_PM_L1_IDLE : Fld := ⟨.PP_PM, 0, 16⟩
abbrev PP_PM_CLKREQ_GPIO : Fld := ⟨.PP_PM, 16, 8⟩
abbrev PP_PM_L0P_EN : Fld := ⟨.PP_PM, 24, 1⟩
abbrev PP_PM_L0P_MIN : Fld := ⟨.PP_PM, 25, 3⟩
abbrev PP_RST_PERST_IN_SEL : Fld := ⟨.PP_RST, 0, 4⟩
abbrev PP_RST_PERST_IN_EN : Fld := ⟨.PP_RST, 4, 1⟩
abbrev PP_RST_PERST_OUT_EN : Fld := ⟨.PP_RST, 5, 1⟩
abbrev PP_RST_PERST_ASSERT : Fld := ⟨.PP_RST, 6, 1⟩
abbrev PP_RST_PERST_OUT_GPIO : Fld := ⟨.PP_RST, 8, 6⟩
abbrev PP_RST_HOLD : Fld := ⟨.PP_RST, 16, 16⟩
abbrev VST_STAT_STATE : Fld := ⟨.VST_STAT, 0, 2⟩
abbrev VST_STAT_UP_PORT : Fld := ⟨.VST_STAT, 2, 8⟩
abbrev VST_STAT_SLOTS : Fld := ⟨.VST_STAT, 10, 6⟩
abbrev VST_STAT_MGMT : Fld := ⟨.VST_STAT, 16, 1⟩
abbrev VST_STAT_UP_L0 : Fld := ⟨.VST_STAT, 17, 1⟩
abbrev VST_TCMAP_MAP : Fld := ⟨.VST_TCMAP, 0, 16⟩
abbrev VST_SLOT_VDSP : Fld := ⟨.VST_SLOT, 0, 10⟩
abbrev VST_SLOT_KIND : Fld := ⟨.VST_SLOT, 10, 2⟩
abbrev VST_SLOT_ALLOC : Fld := ⟨.VST_SLOT, 12, 1⟩
abbrev VST_SLOT_PRESENT : Fld := ⟨.VST_SLOT, 13, 1⟩
abbrev VST_SLOT_LINK_ACTIVE : Fld := ⟨.VST_SLOT, 14, 1⟩
abbrev VST_SLOT_PWR_OFF : Fld := ⟨.VST_SLOT, 15, 1⟩
abbrev VST_SLOT_UNBIND_PEND : Fld := ⟨.VST_SLOT, 16, 1⟩
abbrev VST_SLOT_ATTN_IND : Fld := ⟨.VST_SLOT, 17, 2⟩
abbrev VST_SLOT_PWR_IND : Fld := ⟨.VST_SLOT, 19, 2⟩
abbrev VST_SLOT_CONTAINED : Fld := ⟨.VST_SLOT, 21, 1⟩
abbrev VST_SLOT_TARGET : Fld := ⟨.VST_SLOT, 24, 14⟩
abbrev VST_SLOT_NFUNC : Fld := ⟨.VST_SLOT, 38, 4⟩
abbrev VST_SLOT_SEC_BUS : Fld := ⟨.VST_SLOT, 48, 8⟩
abbrev VST_GLB_FREE_VS : Fld := ⟨.VST_GLB, 0, 6⟩
abbrev VST_GLB_FREE_SLOTS : Fld := ⟨.VST_GLB, 6, 11⟩
abbrev VST_GLB_FREE_FB : Fld := ⟨.VST_GLB, 17, 13⟩
abbrev VST_EPOCH_EPOCH : Fld := ⟨.VST_EPOCH, 0, 32⟩
abbrev VST_EPOCH_DRAIN : Fld := ⟨.VST_EPOCH, 32, 1⟩
abbrev VST_FB_A_VALID : Fld := ⟨.VST_FB_A, 0, 1⟩
abbrev VST_FB_A_VS : Fld := ⟨.VST_FB_A, 1, 6⟩
abbrev VST_FB_A_VDSP : Fld := ⟨.VST_FB_A, 7, 10⟩
abbrev VST_FB_A_PFUNC : Fld := ⟨.VST_FB_A, 17, 3⟩
abbrev VST_FB_A_IS_VF : Fld := ⟨.VST_FB_A, 20, 1⟩
abbrev VST_FB_A_SHARED_PORT : Fld := ⟨.VST_FB_A, 24, 8⟩
abbrev VST_FB_A_REAL_RID : Fld := ⟨.VST_FB_A, 32, 16⟩
abbrev VST_FB_B_BME : Fld := ⟨.VST_FB_B, 0, 1⟩
abbrev VST_FB_B_MSE : Fld := ⟨.VST_FB_B, 1, 1⟩
abbrev VST_FB_B_MPS : Fld := ⟨.VST_FB_B, 2, 3⟩
abbrev VST_FB_B_MRRS : Fld := ⟨.VST_FB_B, 5, 3⟩
abbrev VST_FB_B_FLR_PEND : Fld := ⟨.VST_FB_B, 8, 1⟩
abbrev VST_FB_B_NBAR : Fld := ⟨.VST_FB_B, 9, 3⟩
abbrev PT_FWD_EPOCH_EPOCH : Fld := ⟨.PT_FWD_EPOCH, 0, 32⟩
abbrev PT_FWD_EPOCH_DRAIN : Fld := ⟨.PT_FWD_EPOCH, 32, 1⟩
abbrev PT_FWD_EPOCH_SWAP_PEND : Fld := ⟨.PT_FWD_EPOCH, 33, 1⟩
abbrev PT_GATE_CFG_GAP_TIMEOUT : Fld := ⟨.PT_GATE_CFG, 0, 16⟩
abbrev PT_BUF_CFG_SC1 : Fld := ⟨.PT_BUF_CFG, 0, 8⟩
abbrev PT_BUF_CFG_SC2 : Fld := ⟨.PT_BUF_CFG, 8, 8⟩
abbrev PT_BUF_CFG_SC3 : Fld := ⟨.PT_BUF_CFG, 16, 8⟩
abbrev PT_BUF_CFG_REFUSED : Fld := ⟨.PT_BUF_CFG, 24, 1⟩
abbrev PT_CONG_MARK_SC1 : Fld := ⟨.PT_CONG, 0, 8⟩
abbrev PT_CONG_MARK_SC2 : Fld := ⟨.PT_CONG, 8, 8⟩
abbrev PT_CONG_MARK_SC3 : Fld := ⟨.PT_CONG, 16, 8⟩
abbrev PT_FWD_CTL_FORCE_SAF : Fld := ⟨.PT_FWD_CTL, 0, 1⟩
abbrev PT_FWD_CTL_TAG8 : Fld := ⟨.PT_FWD_CTL, 1, 1⟩
abbrev PT_FWD_CTL_TAG_MODE : Fld := ⟨.PT_FWD_CTL, 2, 2⟩
abbrev PT_GATE_STAT_GAP_LOSS : Fld := ⟨.PT_GATE_STAT, 0, 1⟩
abbrev PT_GATE_STAT_UNDERRUN : Fld := ⟨.PT_GATE_STAT, 1, 1⟩
abbrev PT_GATE_STAT_TAG_WAIT : Fld := ⟨.PT_GATE_STAT, 2, 1⟩
abbrev RTR_ID_ID : Fld := ⟨.RTR_ID, 0, 7⟩
abbrev RTR_ID_X : Fld := ⟨.RTR_ID, 7, 4⟩
abbrev RTR_ID_Y : Fld := ⟨.RTR_ID, 11, 3⟩
abbrev RTR_ID_STATION : Fld := ⟨.RTR_ID, 14, 3⟩
abbrev RTR_ID_INDEX : Fld := ⟨.RTR_ID, 17, 6⟩
abbrev RTR_CTL_ISOLATE : Fld := ⟨.RTR_CTL, 0, 1⟩
abbrev RTR_CTL_FAILED : Fld := ⟨.RTR_CTL, 1, 1⟩
abbrev RTR_CTL_CNT_CLR : Fld := ⟨.RTR_CTL, 2, 1⟩
abbrev RTR_CTL_LOCK : Fld := ⟨.RTR_CTL, 3, 1⟩
abbrev RTR_ARB_PRIO_SC0 : Fld := ⟨.RTR_ARB, 0, 4⟩
abbrev RTR_ARB_PRIO_ESC : Fld := ⟨.RTR_ARB, 4, 4⟩
abbrev RTR_ARB_BREAK : Fld := ⟨.RTR_ARB, 8, 6⟩
abbrev RTR_ARB_STARVE : Fld := ⟨.RTR_ARB, 16, 12⟩
abbrev RTR_QOS_QOS_SC1 : Fld := ⟨.RTR_QOS, 0, 4⟩
abbrev RTR_QOS_QOS_SC2 : Fld := ⟨.RTR_QOS, 4, 4⟩
abbrev RTR_QOS_QOS_SC3 : Fld := ⟨.RTR_QOS, 8, 4⟩
abbrev RTR_LINK_NORTH : Fld := ⟨.RTR_LINK, 0, 2⟩
abbrev RTR_LINK_EAST : Fld := ⟨.RTR_LINK, 2, 2⟩
abbrev RTR_LINK_SOUTH : Fld := ⟨.RTR_LINK, 4, 2⟩
abbrev RTR_LINK_WEST : Fld := ⟨.RTR_LINK, 6, 2⟩
abbrev RTR_ISL_CTL_FREQ : Fld := ⟨.RTR_ISL_CTL, 0, 12⟩
abbrev RTR_ISL_CTL_REFUSED : Fld := ⟨.RTR_ISL_CTL, 12, 1⟩
abbrev RTR_ISL_STAT_MEAS : Fld := ⟨.RTR_ISL_STAT, 0, 12⟩
abbrev RTR_ISL_STAT_SETTLED : Fld := ⟨.RTR_ISL_STAT, 12, 1⟩
abbrev RTR_ESC_CTL_ACTIVE : Fld := ⟨.RTR_ESC_CTL, 0, 1⟩
abbrev RTR_ESC_CTL_SWAP : Fld := ⟨.RTR_ESC_CTL, 1, 1⟩
abbrev RTR_ESC_CTL_FREEZE : Fld := ⟨.RTR_ESC_CTL, 2, 1⟩
abbrev RTR_ESC_CTL_ESC_EMPTY : Fld := ⟨.RTR_ESC_CTL, 3, 1⟩
abbrev RTR_ESC_CTL_REROUTE : Fld := ⟨.RTR_ESC_CTL, 4, 1⟩
abbrev RTR_ESC_CTL_REFUSED : Fld := ⟨.RTR_ESC_CTL, 5, 1⟩
abbrev RTR_ESCV_DEST : Fld := ⟨.RTR_ESCV, 0, 64⟩
abbrev RTR_CNT_COUNT : Fld := ⟨.RTR_CNT, 0, 48⟩
abbrev RTR_CNT_OVF : Fld := ⟨.RTR_CNT, 48, 1⟩
abbrev RTR_ESC_TBL_NEXT : Fld := ⟨.RTR_ESC_TBL, 0, 3⟩
abbrev SEC_GATE_CTL_ACTIVE : Fld := ⟨.SEC_GATE_CTL, 0, 1⟩
abbrev SEC_GATE_CTL_SWAP_PEND : Fld := ⟨.SEC_GATE_CTL, 1, 1⟩
abbrev SEC_GATE_CTL_DRAIN : Fld := ⟨.SEC_GATE_CTL, 2, 1⟩
abbrev SEC_GATE_CTL_GATE_OVERLAP : Fld := ⟨.SEC_GATE_CTL, 3, 1⟩
abbrev SEC_GATE_CTL_WIN_OVERLAP : Fld := ⟨.SEC_GATE_CTL, 4, 1⟩
abbrev SEC_GATE_CTL_EPOCH : Fld := ⟨.SEC_GATE_CTL, 32, 32⟩
abbrev SEC_GATE_LOG_SLOT : Fld := ⟨.SEC_GATE_LOG, 0, 8⟩
abbrev SEC_GATE_LOG_LEVEL : Fld := ⟨.SEC_GATE_LOG, 8, 2⟩
abbrev SEC_GATE_LOG_KIND : Fld := ⟨.SEC_GATE_LOG, 10, 2⟩
abbrev SEC_GATE_LOG_VALID : Fld := ⟨.SEC_GATE_LOG, 12, 1⟩
abbrev SEC_GATE_LOG_INIT : Fld := ⟨.SEC_GATE_LOG, 16, 8⟩
abbrev SEC_GATE_LOG_OFFSET : Fld := ⟨.SEC_GATE_LOG, 24, 24⟩
abbrev SEC_GATE_LOG_INST : Fld := ⟨.SEC_GATE_LOG, 48, 11⟩
abbrev SEC_GATE_BASE_V_PERM : Fld := ⟨.SEC_GATE_BASE, 0, 3⟩
abbrev SEC_GATE_BASE_O_PERM : Fld := ⟨.SEC_GATE_BASE, 4, 3⟩
abbrev SEC_GATE_BASE_T_PERM : Fld := ⟨.SEC_GATE_BASE, 8, 3⟩
abbrev SEC_GATE_SUB_EN : Fld := ⟨.SEC_GATE_SUB, 0, 1⟩
abbrev SEC_GATE_SUB_V_PERM : Fld := ⟨.SEC_GATE_SUB, 1, 3⟩
abbrev SEC_GATE_SUB_O_PERM : Fld := ⟨.SEC_GATE_SUB, 4, 3⟩
abbrev SEC_GATE_SUB_T_PERM : Fld := ⟨.SEC_GATE_SUB, 7, 3⟩
abbrev SEC_GATE_SUB_BASE : Fld := ⟨.SEC_GATE_SUB, 16, 24⟩
abbrev SEC_GATE_SUB_LIMIT : Fld := ⟨.SEC_GATE_SUB, 40, 24⟩
abbrev PT_WIN_BANK_EPOCH : Fld := ⟨.PT_WIN_BANK, 0, 32⟩
abbrev PT_WIN_BANK_ACTIVE : Fld := ⟨.PT_WIN_BANK, 32, 1⟩
abbrev PT_WIN_BANK_DRAIN : Fld := ⟨.PT_WIN_BANK, 33, 1⟩
abbrev PT_WIN_BANK_SWAP_PEND : Fld := ⟨.PT_WIN_BANK, 34, 1⟩
abbrev PT_WIN_LOG_VS : Fld := ⟨.PT_WIN_LOG, 0, 6⟩
abbrev PT_WIN_LOG_KIND : Fld := ⟨.PT_WIN_LOG, 6, 1⟩
abbrev PT_WIN_LOG_VALID : Fld := ⟨.PT_WIN_LOG, 7, 1⟩
abbrev PT_WIN_LOG_CAUSE : Fld := ⟨.PT_WIN_LOG, 8, 2⟩
abbrev PT_WIN_LOG_EGRESS : Fld := ⟨.PT_WIN_LOG, 16, 8⟩
abbrev PT_WIN_ADDR_ADDR : Fld := ⟨.PT_WIN_ADDR, 0, 64⟩
abbrev PT_WIN_E_EN : Fld := ⟨.PT_WIN_E, 0, 1⟩
abbrev PT_WIN_E_RD : Fld := ⟨.PT_WIN_E, 1, 1⟩
abbrev PT_WIN_E_WR : Fld := ⟨.PT_WIN_E, 2, 1⟩
abbrev PT_WIN_E_SRC_MASK : Fld := ⟨.PT_WIN_E, 16, 48⟩
abbrev PT_WIN_BASE_BASE : Fld := ⟨.PT_WIN_BASE, 0, 64⟩
abbrev PT_WIN_LIMIT_LIMIT : Fld := ⟨.PT_WIN_LIMIT, 0, 64⟩
abbrev PT_TRK_STAT_LIVE : Fld := ⟨.PT_TRK_STAT, 0, 15⟩
abbrev PT_TRK_STAT_FULL : Fld := ⟨.PT_TRK_STAT, 15, 1⟩
abbrev PT_TRK_STAT_ENTRY_UE : Fld := ⟨.PT_TRK_STAT, 16, 1⟩
abbrev PT_TRK_CFG_TO_VAL : Fld := ⟨.PT_TRK_CFG, 0, 16⟩
abbrev PT_TRK_CFG_TO_UNIT : Fld := ⟨.PT_TRK_CFG, 16, 1⟩
abbrev PT_TRK_CFG_Q_VAL : Fld := ⟨.PT_TRK_CFG, 32, 17⟩
abbrev PT_TRK_CFG_Q_UNIT : Fld := ⟨.PT_TRK_CFG, 49, 1⟩
abbrev PT_TRK_CFG_STALL : Fld := ⟨.PT_TRK_CFG, 50, 10⟩
abbrev PT_CPL_LOG_RID : Fld := ⟨.PT_CPL_LOG, 0, 16⟩
abbrev PT_CPL_LOG_ETAG : Fld := ⟨.PT_CPL_LOG, 16, 14⟩
abbrev PT_CPL_LOG_CAUSE : Fld := ⟨.PT_CPL_LOG, 30, 2⟩
abbrev PT_CPL_LOG_VALID : Fld := ⟨.PT_CPL_LOG, 32, 1⟩
abbrev PT_CPL_LOG_STATUS : Fld := ⟨.PT_CPL_LOG, 33, 3⟩
abbrev PT_CPL_LOG_CPL_ID : Fld := ⟨.PT_CPL_LOG, 48, 16⟩
abbrev PT_CONT_CONTAINED : Fld := ⟨.PT_CONT, 0, 1⟩
abbrev PT_CONT_POSTED_LOSS : Fld := ⟨.PT_CONT, 1, 1⟩
abbrev PT_CONT_C_LINK : Fld := ⟨.PT_CONT, 2, 1⟩
abbrev PT_CONT_C_STALL : Fld := ⟨.PT_CONT, 3, 1⟩
abbrev PT_CONT_C_IDE : Fld := ⟨.PT_CONT, 4, 1⟩
abbrev PT_CONT_C_VDSP : Fld := ⟨.PT_CONT, 5, 1⟩
abbrev PT_CONT_C_ROUTE : Fld := ⟨.PT_CONT, 6, 1⟩
abbrev PT_CONT_C_MESH : Fld := ⟨.PT_CONT, 7, 1⟩
abbrev PT_CONT_TOMBS : Fld := ⟨.PT_CONT, 8, 14⟩
abbrev VST_CONT_SYNTH_READ : Fld := ⟨.VST_CONT, 0, 1⟩
abbrev VST_CONT_CONTAINED : Fld := ⟨.VST_CONT, 1, 1⟩
abbrev VST_CONT_POSTED_LOSS : Fld := ⟨.VST_CONT, 2, 1⟩
abbrev VST_CONT_DPC_HOST : Fld := ⟨.VST_CONT, 3, 1⟩
abbrev VST_CONT_CAUSE : Fld := ⟨.VST_CONT, 4, 4⟩
abbrev FAB_TRK_CFG_EN : Fld := ⟨.FAB_TRK_CFG, 0, 1⟩
abbrev FAB_TRK_CFG_OFFER_10 : Fld := ⟨.FAB_TRK_CFG, 3, 1⟩
abbrev FAB_TRK_CFG_RETRY_MAX : Fld := ⟨.FAB_TRK_CFG, 4, 4⟩
abbrev FAB_TRK_CFG_RTO : Fld := ⟨.FAB_TRK_CFG, 8, 8⟩
abbrev FAB_TRK_CFG_ACK_IDLE : Fld := ⟨.FAB_TRK_CFG, 16, 10⟩
abbrev FAB_TRK_FC_XOFF_SC0 : Fld := ⟨.FAB_TRK_FC, 0, 8⟩
abbrev FAB_TRK_FC_XON_SC0 : Fld := ⟨.FAB_TRK_FC, 8, 8⟩
abbrev FAB_TRK_FC_XOFF_SC1 : Fld := ⟨.FAB_TRK_FC, 16, 8⟩
abbrev FAB_TRK_FC_XON_SC1 : Fld := ⟨.FAB_TRK_FC, 24, 8⟩
abbrev FAB_TRK_FC_XOFF_SC2 : Fld := ⟨.FAB_TRK_FC, 32, 8⟩
abbrev FAB_TRK_FC_XON_SC2 : Fld := ⟨.FAB_TRK_FC, 40, 8⟩
abbrev FAB_TRK_FC_XOFF_SC3 : Fld := ⟨.FAB_TRK_FC, 48, 8⟩
abbrev FAB_TRK_FC_XON_SC3 : Fld := ⟨.FAB_TRK_FC, 56, 8⟩
abbrev FAB_TRK_STAT_UP : Fld := ⟨.FAB_TRK_STAT, 0, 1⟩
abbrev FAB_TRK_STAT_VER_MIN : Fld := ⟨.FAB_TRK_STAT, 1, 3⟩
abbrev FAB_TRK_STAT_MEMBERS : Fld := ⟨.FAB_TRK_STAT, 4, 8⟩
abbrev FAB_TRK_STAT_PRESENT : Fld := ⟨.FAB_TRK_STAT, 12, 8⟩
abbrev FAB_TRK_STAT_WIDTH_MISMATCH : Fld := ⟨.FAB_TRK_STAT, 20, 1⟩
abbrev FAB_TRK_STAT_PEER_MISMATCH : Fld := ⟨.FAB_TRK_STAT, 21, 1⟩
abbrev FAB_TRK_STAT_VER_FAIL : Fld := ⟨.FAB_TRK_STAT, 22, 1⟩
abbrev FAB_TRK_STAT_FC_REFUSED : Fld := ⟨.FAB_TRK_STAT, 23, 1⟩
abbrev FAB_TRK_STAT_XOFF_RX : Fld := ⟨.FAB_TRK_STAT, 24, 4⟩
abbrev FAB_TRK_STAT_XOFF_TX : Fld := ⟨.FAB_TRK_STAT, 28, 4⟩
abbrev FAB_TRK_STAT_RTT : Fld := ⟨.FAB_TRK_STAT, 32, 16⟩
abbrev FAB_TRK_STAT_PEER_DEV : Fld := ⟨.FAB_TRK_STAT, 48, 6⟩
abbrev FAB_TRK_STAT_TRUNK_LOST : Fld := ⟨.FAB_TRK_STAT, 54, 1⟩
abbrev FAB_TRK_SEQ_TX_NEXT : Fld := ⟨.FAB_TRK_SEQ, 0, 16⟩
abbrev FAB_TRK_SEQ_TX_UNACK : Fld := ⟨.FAB_TRK_SEQ, 16, 16⟩
abbrev FAB_TRK_SEQ_RX_CUM : Fld := ⟨.FAB_TRK_SEQ, 32, 16⟩
abbrev FAB_TRK_SEQ_NAK_OUT : Fld := ⟨.FAB_TRK_SEQ, 48, 4⟩
abbrev FAB_DEV_ROLE : Fld := ⟨.FAB_DEV, 0, 2⟩
abbrev FAB_DEV_NUM : Fld := ⟨.FAB_DEV, 2, 6⟩
abbrev FAB_DEV_MGR : Fld := ⟨.FAB_DEV, 8, 6⟩
abbrev FAB_DEV_ACTING : Fld := ⟨.FAB_DEV, 14, 1⟩
abbrev FAB_DEV_DEPOSED : Fld := ⟨.FAB_DEV, 15, 1⟩
abbrev FAB_DEV_REFUSED : Fld := ⟨.FAB_DEV, 16, 1⟩
abbrev FAB_DEV_DUAL_MGR : Fld := ⟨.FAB_DEV, 17, 1⟩
abbrev FAB_DEV_STANDBY_DUP : Fld := ⟨.FAB_DEV, 18, 1⟩
abbrev FAB_DEV_TOPO_REFUSED : Fld := ⟨.FAB_DEV, 19, 1⟩
abbrev FAB_DEV_MGR_EPOCH : Fld := ⟨.FAB_DEV, 32, 32⟩
abbrev FAB_MGR_MARGIN : Fld := ⟨.FAB_MGR, 0, 10⟩
abbrev FAB_MGR_HB_LOSS : Fld := ⟨.FAB_MGR, 10, 10⟩
abbrev FAB_MGR_STANDBY_LOST : Fld := ⟨.FAB_MGR, 20, 1⟩
abbrev FAB_TXN_TXN_ID : Fld := ⟨.FAB_TXN, 0, 16⟩
abbrev FAB_TXN_STATE : Fld := ⟨.FAB_TXN, 16, 2⟩
abbrev FAB_TXN_LATE : Fld := ⟨.FAB_TXN, 18, 1⟩
abbrev FAB_TXN_SELF_ABORT : Fld := ⟨.FAB_TXN, 19, 1⟩
abbrev FAB_TIME_TIME : Fld := ⟨.FAB_TIME, 0, 64⟩
abbrev FAB_TIME_STAT_SYNC : Fld := ⟨.FAB_TIME_STAT, 0, 1⟩
abbrev FAB_TIME_STAT_PARENT : Fld := ⟨.FAB_TIME_STAT, 1, 5⟩
abbrev FAB_TIME_STAT_OFFSET : Fld := ⟨.FAB_TIME_STAT, 16, 16⟩
abbrev FAB_RT_EGRESS : Fld := ⟨.FAB_RT, 0, 8⟩
abbrev FAB_RT_NEXT_DEV : Fld := ⟨.FAB_RT, 8, 6⟩
abbrev FAB_RT_HOPS : Fld := ⟨.FAB_RT, 14, 2⟩
abbrev FAB_TRK_NPB_NPB_SC0 : Fld := ⟨.FAB_TRK_NPB, 0, 8⟩
abbrev FAB_TRK_NPB_NPB_SC1 : Fld := ⟨.FAB_TRK_NPB, 8, 8⟩
abbrev FAB_TRK_NPB_NPB_SC2 : Fld := ⟨.FAB_TRK_NPB, 16, 8⟩
abbrev FAB_TRK_NPB_NPB_SC3 : Fld := ⟨.FAB_TRK_NPB, 24, 8⟩
abbrev FAB_RWIN_E_EN : Fld := ⟨.FAB_RWIN_E, 0, 1⟩
abbrev FAB_RWIN_E_RD : Fld := ⟨.FAB_RWIN_E, 1, 1⟩
abbrev FAB_RWIN_E_WR : Fld := ⟨.FAB_RWIN_E, 2, 1⟩
abbrev FAB_RWIN_E_SRC_MASK : Fld := ⟨.FAB_RWIN_E, 16, 48⟩
abbrev FAB_RWIN_BASE_BASE : Fld := ⟨.FAB_RWIN_BASE, 0, 64⟩
abbrev FAB_RWIN_LIMIT_LIMIT : Fld := ⟨.FAB_RWIN_LIMIT, 0, 64⟩
abbrev FAB_RWIN_DST_DST_GPID : Fld := ⟨.FAB_RWIN_DST, 0, 14⟩
abbrev DM_ID_INST : Fld := ⟨.DM_ID, 0, 11⟩
abbrev DM_ID_VS : Fld := ⟨.DM_ID, 11, 6⟩
abbrev DM_ID_VF : Fld := ⟨.DM_ID, 17, 1⟩
abbrev DM_ID_FORMATS : Fld := ⟨.DM_ID, 24, 8⟩
abbrev DM_STAT_ACCEPT_REFUSED : Fld := ⟨.DM_STAT, 0, 1⟩
abbrev DM_STAT_MOVING : Fld := ⟨.DM_STAT, 1, 1⟩
abbrev DM_STAT_SERVING : Fld := ⟨.DM_STAT, 2, 4⟩
abbrev DM_FEATURES_OFFER : Fld := ⟨.DM_FEATURES, 0, 6⟩
abbrev DM_ACCEPT_ACCEPT : Fld := ⟨.DM_ACCEPT, 0, 6⟩
abbrev RX_CFG_EN : Fld := ⟨.RX_CFG, 0, 1⟩
abbrev RX_CFG_SIZE : Fld := ⟨.RX_CFG, 1, 5⟩
abbrev RX_CFG_CFG_REFUSED : Fld := ⟨.RX_CFG, 6, 1⟩
abbrev RX_CFG_IDLE : Fld := ⟨.RX_CFG, 7, 1⟩
abbrev RX_IRQ_EN : Fld := ⟨.RX_IRQ, 0, 1⟩
abbrev RX_IRQ_VEC : Fld := ⟨.RX_IRQ, 1, 3⟩
abbrev RX_IRQ_COUNT : Fld := ⟨.RX_IRQ, 8, 8⟩
abbrev RX_IRQ_TIME : Fld := ⟨.RX_IRQ, 16, 10⟩
abbrev RX_STAT_DELIVERED : Fld := ⟨.RX_STAT, 0, 32⟩
abbrev RX_STAT_DB_READ : Fld := ⟨.RX_STAT, 32, 1⟩
abbrev RX_STAT_DB_RANGE : Fld := ⟨.RX_STAT, 33, 1⟩
abbrev QP_CFG_SQ_SIZE : Fld := ⟨.QP_CFG, 0, 5⟩
abbrev QP_CFG_CQ_SIZE : Fld := ⟨.QP_CFG, 5, 5⟩
abbrev QP_CFG_TC : Fld := ⟨.QP_CFG, 10, 3⟩
abbrev QP_CFG_POLL_MODE : Fld := ⟨.QP_CFG, 13, 2⟩
abbrev QP_CFG_CFG_REFUSED : Fld := ⟨.QP_CFG, 15, 1⟩
abbrev QP_CFG_POLL : Fld := ⟨.QP_CFG, 16, 10⟩
abbrev QP_IRQ_EN : Fld := ⟨.QP_IRQ, 0, 1⟩
abbrev QP_IRQ_VEC : Fld := ⟨.QP_IRQ, 1, 3⟩
abbrev QP_IRQ_ERR_IRQ : Fld := ⟨.QP_IRQ, 4, 1⟩
abbrev QP_IRQ_COUNT : Fld := ⟨.QP_IRQ, 8, 8⟩
abbrev QP_IRQ_TIME : Fld := ⟨.QP_IRQ, 16, 10⟩
abbrev QP_CTL_EN : Fld := ⟨.QP_CTL, 0, 1⟩
abbrev QP_ERR_DB_READ : Fld := ⟨.QP_ERR, 0, 1⟩
abbrev QP_ERR_DB_RANGE : Fld := ⟨.QP_ERR, 1, 1⟩
abbrev QP_ERR_CQ_RANGE : Fld := ⟨.QP_ERR, 2, 1⟩
abbrev QP_ERR_DESC_READ : Fld := ⟨.QP_ERR, 3, 1⟩
abbrev QP_ERR_ENABLE_REFUSED : Fld := ⟨.QP_ERR, 4, 1⟩
abbrev QP_STAT_ACCEPTED : Fld := ⟨.QP_STAT, 0, 32⟩
abbrev QP_STAT_IDLE : Fld := ⟨.QP_STAT, 32, 1⟩
abbrev QP_STAT_ERROR : Fld := ⟨.QP_STAT, 33, 1⟩
abbrev QP_STAT_CQ_WAIT : Fld := ⟨.QP_STAT, 34, 1⟩
abbrev QP_STAT_LEDGER_WAIT : Fld := ⟨.QP_STAT, 35, 1⟩
abbrev QP_STAT_FENCE_WAIT : Fld := ⟨.QP_STAT, 36, 1⟩
abbrev DMG_REACH_VALID : Fld := ⟨.DMG_REACH, 0, 1⟩
abbrev DMG_REACH_GEN : Fld := ⟨.DMG_REACH, 1, 4⟩
abbrev DMG_REACH_KIND : Fld := ⟨.DMG_REACH, 5, 1⟩
abbrev DMG_REACH_RD : Fld := ⟨.DMG_REACH, 6, 1⟩
abbrev DMG_REACH_WR : Fld := ⟨.DMG_REACH, 7, 1⟩
abbrev DMG_REACH_AT : Fld := ⟨.DMG_REACH, 8, 1⟩
abbrev DMG_REACH_SRC_INST : Fld := ⟨.DMG_REACH, 16, 11⟩
abbrev DMG_REACH_TARGET_VS : Fld := ⟨.DMG_REACH, 32, 6⟩
abbrev DMG_REACH_TARGET_INST : Fld := ⟨.DMG_REACH, 48, 11⟩
abbrev DMG_REACH_BASE_BASE : Fld := ⟨.DMG_REACH_BASE, 0, 64⟩
abbrev DMG_REACH_LIMIT_LIMIT : Fld := ⟨.DMG_REACH_LIMIT, 0, 64⟩
abbrev DMG_REACH_USE_USE : Fld := ⟨.DMG_REACH_USE, 0, 24⟩
abbrev LSL_STAT_LIVE : Fld := ⟨.LSL_STAT, 0, 17⟩
abbrev LSL_STAT_PAIR_OUT : Fld := ⟨.LSL_STAT, 17, 1⟩
abbrev LSL_STAT_MOVING : Fld := ⟨.LSL_STAT, 18, 1⟩
abbrev LSL_STAT_RESOLVED : Fld := ⟨.LSL_STAT, 19, 1⟩
abbrev DMG_SHARE_N : Fld := ⟨.DMG_SHARE, 0, 11⟩
abbrev DMG_SHARE_LQUOTA : Fld := ⟨.DMG_SHARE, 11, 18⟩
abbrev DMG_SHARE_SQUOTA : Fld := ⟨.DMG_SHARE, 29, 15⟩
abbrev DMG_SHARE_EPOCH : Fld := ⟨.DMG_SHARE, 44, 20⟩
abbrev DMG_VF_COUNT : Fld := ⟨.DMG_VF, 0, 11⟩
abbrev DMG_VF_FIRST : Fld := ⟨.DMG_VF, 11, 10⟩
abbrev DMG_INST_USE_ENTRIES : Fld := ⟨.DMG_INST_USE, 0, 18⟩
abbrev DMG_INST_USE_BUFFERS : Fld := ⟨.DMG_INST_USE, 18, 15⟩
abbrev DMG_INST_USE_ENABLED : Fld := ⟨.DMG_INST_USE, 33, 1⟩
abbrev DL_SEL_INST : Fld := ⟨.DL_SEL, 0, 11⟩
abbrev DL_CFG_SIZE : Fld := ⟨.DL_CFG, 0, 5⟩
abbrev DL_CTL_LOG_EN : Fld := ⟨.DL_CTL, 0, 1⟩
abbrev DL_CTL_QUIESCE : Fld := ⟨.DL_CTL, 1, 1⟩
abbrev DL_CTL_FLUSH : Fld := ⟨.DL_CTL, 2, 1⟩
abbrev DL_STAT_LOGGING : Fld := ⟨.DL_STAT, 0, 1⟩
abbrev DL_STAT_QUIESCED : Fld := ⟨.DL_STAT, 1, 1⟩
abbrev DL_STAT_OVERFLOW : Fld := ⟨.DL_STAT, 2, 1⟩
abbrev DL_STAT_REFUSED : Fld := ⟨.DL_STAT, 3, 1⟩
abbrev MCL_CTL_ISOLATE : Fld := ⟨.MCL_CTL, 0, 1⟩
abbrev MCL_STAT_STATE : Fld := ⟨.MCL_STAT, 0, 2⟩
abbrev MCL_STAT_MULE_OK : Fld := ⟨.MCL_STAT, 2, 4⟩
abbrev MCL_STAT_THR_BUSY : Fld := ⟨.MCL_STAT, 6, 16⟩
abbrev MCL_STAT_FW_FAIL : Fld := ⟨.MCL_STAT, 22, 1⟩
abbrev MCL_FW_VERSION : Fld := ⟨.MCL_FW, 0, 32⟩
abbrev MCL_FW_SVN : Fld := ⟨.MCL_FW, 32, 32⟩
abbrev MCL_PROG_LOADED : Fld := ⟨.MCL_PROG, 0, 1⟩
abbrev MCL_PROG_IMAGE_VERSION : Fld := ⟨.MCL_PROG, 32, 32⟩
abbrev MCL_THR_STATE : Fld := ⟨.MCL_THR, 0, 3⟩
abbrev MCL_THR_LEVEL : Fld := ⟨.MCL_THR, 3, 1⟩
abbrev MCL_THR_PROG : Fld := ⟨.MCL_THR, 4, 2⟩
abbrev MCL_THR_INST : Fld := ⟨.MCL_THR, 8, 11⟩
abbrev MCL_THR_PC : Fld := ⟨.MCL_THR, 32, 17⟩
abbrev MCL_FAULT_CAUSE : Fld := ⟨.MCL_FAULT, 0, 4⟩
abbrev MCL_FAULT_THREAD : Fld := ⟨.MCL_FAULT, 4, 4⟩
abbrev MCL_FAULT_VALID : Fld := ⟨.MCL_FAULT, 8, 1⟩
abbrev MCL_FAULT_INST : Fld := ⟨.MCL_FAULT, 9, 11⟩
abbrev MCL_FAULT_PROG : Fld := ⟨.MCL_FAULT, 20, 2⟩
abbrev MCL_FAULT_PC : Fld := ⟨.MCL_FAULT, 32, 17⟩
abbrev MCL_FAULT_ADDR_ADDR : Fld := ⟨.MCL_FAULT_ADDR, 0, 64⟩
abbrev MCL_MEM_ADDR_ADDR : Fld := ⟨.MCL_MEM_ADDR, 0, 20⟩
abbrev MCL_MEM_ADDR_IMEM : Fld := ⟨.MCL_MEM_ADDR, 20, 1⟩
abbrev MCL_MEM_ADDR_MULE : Fld := ⟨.MCL_MEM_ADDR, 21, 2⟩
abbrev MCL_MEM_DATA_DATA : Fld := ⟨.MCL_MEM_DATA, 0, 64⟩
abbrev DMG_PROG_STATE : Fld := ⟨.DMG_PROG, 0, 2⟩
abbrev DMG_PROG_IDEMPOTENT : Fld := ⟨.DMG_PROG, 2, 1⟩
abbrev DMG_PROG_CHUNKED : Fld := ⟨.DMG_PROG, 3, 1⟩
abbrev DMG_PROG_RUN_LIMIT : Fld := ⟨.DMG_PROG, 4, 20⟩
abbrev DMG_PROG_IMAGE_VERSION : Fld := ⟨.DMG_PROG, 32, 32⟩
abbrev DMG_PROG_MASK_VS_MASK : Fld := ⟨.DMG_PROG_MASK, 0, 48⟩
abbrev DMG_PROG_LEN_LEN_MAX : Fld := ⟨.DMG_PROG_LEN, 0, 31⟩
abbrev DMG_PROG_LEN_SVN : Fld := ⟨.DMG_PROG_LEN, 32, 32⟩
abbrev DMG_PROG_USE_USE : Fld := ⟨.DMG_PROG_USE, 0, 24⟩
abbrev PT_SCHED_STRICT1 : Fld := ⟨.PT_SCHED, 0, 1⟩
abbrev PT_SCHED_W1 : Fld := ⟨.PT_SCHED, 8, 8⟩
abbrev PT_SCHED_W2 : Fld := ⟨.PT_SCHED, 16, 8⟩
abbrev PT_SCHED_W3 : Fld := ⟨.PT_SCHED, 24, 8⟩
abbrev GSV_STAT_SAFE : Fld := ⟨.GSV_STAT, 0, 1⟩
abbrev GSV_STAT_MGMT_DOWN : Fld := ⟨.GSV_STAT, 1, 1⟩
abbrev GSV_STAT_TEMP_WARN : Fld := ⟨.GSV_STAT, 2, 1⟩
abbrev GSV_STAT_TEMP_MAX : Fld := ⟨.GSV_STAT, 4, 8⟩
abbrev GSV_STAT_TEMP_SENSOR : Fld := ⟨.GSV_STAT, 12, 4⟩
abbrev GSV_STAT_SUP_OK : Fld := ⟨.GSV_STAT, 16, 5⟩
abbrev GSV_SEAL_CAUSE : Fld := ⟨.GSV_SEAL, 0, 4⟩
abbrev GSV_SEAL_MORE : Fld := ⟨.GSV_SEAL, 4, 1⟩
abbrev GSV_SEAL_DETAIL : Fld := ⟨.GSV_SEAL, 8, 16⟩
abbrev GSV_SEAL_TIME : Fld := ⟨.GSV_SEAL, 24, 40⟩
abbrev GSV_DEG_BUSY : Fld := ⟨.GSV_DEG, 0, 1⟩
abbrev GSV_DEG_QUEUED : Fld := ⟨.GSV_DEG, 1, 7⟩
abbrev GSV_DEG_OUT : Fld := ⟨.GSV_DEG, 8, 8⟩
abbrev GSV_DEG_LAST_TYPE : Fld := ⟨.GSV_DEG, 16, 4⟩
abbrev GSV_DEG_LAST_INDEX : Fld := ⟨.GSV_DEG, 20, 12⟩
abbrev GSV_DEG_DONE : Fld := ⟨.GSV_DEG, 32, 32⟩
abbrev GSV_HB_BEAT : Fld := ⟨.GSV_HB, 0, 4⟩
abbrev GSV_HB_LOST : Fld := ⟨.GSV_HB, 4, 4⟩
abbrev GSV_HB_RESTARTS : Fld := ⟨.GSV_HB, 8, 8⟩
abbrev MGR_ABI_MINOR : Fld := ⟨.MGR_ABI, 0, 8⟩
abbrev MGR_ABI_MAJOR : Fld := ⟨.MGR_ABI, 8, 8⟩
abbrev MGR_MCR_CFG_EN : Fld := ⟨.MGR_MCR_CFG, 0, 1⟩
abbrev MGR_MCR_CFG_CMD_SIZE : Fld := ⟨.MGR_MCR_CFG, 1, 4⟩
abbrev MGR_MCR_CFG_RSP_SIZE : Fld := ⟨.MGR_MCR_CFG, 5, 4⟩
abbrev MGR_MCR_CFG_CFG_REFUSED : Fld := ⟨.MGR_MCR_CFG, 9, 1⟩
abbrev MGR_MCR_CFG_POLL : Fld := ⟨.MGR_MCR_CFG, 10, 10⟩
abbrev MGR_MCR_CFG_VEC : Fld := ⟨.MGR_MCR_CFG, 21, 11⟩
abbrev MGR_NUDGE_NUDGE : Fld := ⟨.MGR_NUDGE, 0, 32⟩
abbrev MGR_MCR_STAT_RSP_WRITTEN : Fld := ⟨.MGR_MCR_STAT, 0, 32⟩
abbrev MGR_MCR_STAT_IDLE : Fld := ⟨.MGR_MCR_STAT, 32, 1⟩
abbrev MGR_MCR_STAT_ERROR : Fld := ⟨.MGR_MCR_STAT, 33, 1⟩
abbrev MGR_MCR_STAT_DB_READ : Fld := ⟨.MGR_MCR_STAT, 34, 1⟩
abbrev MGR_MCR_STAT_RANGE : Fld := ⟨.MGR_MCR_STAT, 35, 1⟩
abbrev MGR_MCR_STAT_CMD_READ : Fld := ⟨.MGR_MCR_STAT, 36, 1⟩
abbrev MGR_MCR_STAT_PARKED : Fld := ⟨.MGR_MCR_STAT, 37, 8⟩
abbrev MGR_JNL_STAT_MIRROR_EN : Fld := ⟨.MGR_JNL_STAT, 0, 1⟩
abbrev MGR_JNL_STAT_MIRROR_LOST : Fld := ⟨.MGR_JNL_STAT, 1, 1⟩
abbrev MGR_JNL_STAT_GAP : Fld := ⟨.MGR_JNL_STAT, 2, 1⟩
abbrev MGR_JNL_STAT_MIRRORED : Fld := ⟨.MGR_JNL_STAT, 32, 32⟩
abbrev MGR_RESTART_ACTIVE : Fld := ⟨.MGR_RESTART, 0, 1⟩
abbrev MGR_RESTART_COUNT : Fld := ⟨.MGR_RESTART, 8, 8⟩
abbrev MGR_RESTART_LAST_US : Fld := ⟨.MGR_RESTART, 16, 16⟩
abbrev MGR_RSP_DONE_DONE : Fld := ⟨.MGR_RSP_DONE, 0, 64⟩
abbrev MGR_EVT_MAP_VEC : Fld := ⟨.MGR_EVT_MAP, 0, 11⟩
abbrev MGR_EVT_MAP_EN : Fld := ⟨.MGR_EVT_MAP, 31, 1⟩
abbrev SEC_BOOT_IMAGE : Fld := ⟨.SEC_BOOT, 0, 1⟩
abbrev SEC_BOOT_FALLBACK : Fld := ⟨.SEC_BOOT, 1, 1⟩
abbrev SEC_BOOT_RECOVERY : Fld := ⟨.SEC_BOOT, 2, 1⟩
abbrev SEC_BOOT_READY : Fld := ⟨.SEC_BOOT, 3, 1⟩
abbrev SEC_BOOT_MGMT_BAD : Fld := ⟨.SEC_BOOT, 4, 1⟩
abbrev SEC_BOOT_FAIL_CAUSE : Fld := ⟨.SEC_BOOT, 5, 3⟩
abbrev SEC_BOOT_SVN : Fld := ⟨.SEC_BOOT, 8, 8⟩
abbrev SEC_BOOT_VERSION : Fld := ⟨.SEC_BOOT, 16, 32⟩
abbrev SEC_FUSE_MIN_BOOT : Fld := ⟨.SEC_FUSE, 0, 7⟩
abbrev SEC_FUSE_MIN_MULE : Fld := ⟨.SEC_FUSE, 8, 7⟩
abbrev SEC_FUSE_MIN_PROG : Fld := ⟨.SEC_FUSE, 16, 7⟩
abbrev SEC_FUSE_V_REVOKED : Fld := ⟨.SEC_FUSE, 24, 4⟩
abbrev SEC_FUSE_O_REVOKED : Fld := ⟨.SEC_FUSE, 28, 4⟩
abbrev SEC_FUSE_O_FUSED : Fld := ⟨.SEC_FUSE, 32, 4⟩
abbrev CPW_TB_CFG_SEL : Fld := ⟨.CPW_TB_CFG, 0, 2⟩
abbrev CPW_TB_CFG_PRIO : Fld := ⟨.CPW_TB_CFG, 2, 8⟩
abbrev CPW_TB_CFG_RECOV_TRK : Fld := ⟨.CPW_TB_CFG, 10, 5⟩
abbrev CPW_TB_CFG_REFUSED : Fld := ⟨.CPW_TB_CFG, 15, 1⟩
abbrev CPW_TB_STAT_READY : Fld := ⟨.CPW_TB_STAT, 0, 4⟩
abbrev CPW_TB_STAT_ACTIVE : Fld := ⟨.CPW_TB_STAT, 4, 2⟩
abbrev CPW_TB_STAT_LOCKED : Fld := ⟨.CPW_TB_STAT, 6, 1⟩
abbrev CPW_TB_STAT_SWITCHING : Fld := ⟨.CPW_TB_STAT, 7, 1⟩
abbrev CPW_TB_STAT_XTAL_ABSENT : Fld := ⟨.CPW_TB_STAT, 8, 1⟩
abbrev CPW_TB_STAT_FALLBACKS : Fld := ⟨.CPW_TB_STAT, 16, 8⟩
abbrev CPW_TB_MEAS_SRC0 : Fld := ⟨.CPW_TB_MEAS, 0, 8⟩
abbrev CPW_TB_MEAS_SRC1 : Fld := ⟨.CPW_TB_MEAS, 8, 8⟩
abbrev CPW_TB_MEAS_SRC2 : Fld := ⟨.CPW_TB_MEAS, 16, 8⟩
abbrev CPW_TB_MEAS_SRC3 : Fld := ⟨.CPW_TB_MEAS, 24, 8⟩
abbrev CPW_TIME_TIME : Fld := ⟨.CPW_TIME, 0, 64⟩
abbrev CPW_STRAP_ROLE : Fld := ⟨.CPW_STRAP, 0, 2⟩
abbrev CPW_STRAP_OSC_WAIT : Fld := ⟨.CPW_STRAP, 2, 3⟩
abbrev CPW_STRAP_BOOT_SEL : Fld := ⟨.CPW_STRAP, 5, 1⟩
abbrev CPW_STRAP_MGMT_PORT : Fld := ⟨.CPW_STRAP, 6, 8⟩
abbrev CPW_RST_WARM : Fld := ⟨.CPW_RST, 0, 1⟩
abbrev CPW_RST_LAST : Fld := ⟨.CPW_RST, 1, 2⟩
abbrev CPW_RST_WARMS : Fld := ⟨.CPW_RST, 8, 8⟩
abbrev CPW_GATED_LOG_SLOT : Fld := ⟨.CPW_GATED_LOG, 0, 8⟩
abbrev CPW_GATED_LOG_INIT : Fld := ⟨.CPW_GATED_LOG, 8, 8⟩
abbrev CPW_GATED_LOG_VALID : Fld := ⟨.CPW_GATED_LOG, 16, 1⟩
abbrev CPW_GATED_LOG_OFFSET : Fld := ⟨.CPW_GATED_LOG, 24, 24⟩
abbrev CPW_TILE_REF_SRC : Fld := ⟨.CPW_TILE_REF, 0, 2⟩
abbrev CPW_TILE_REF_MODE : Fld := ⟨.CPW_TILE_REF, 2, 2⟩
abbrev CPW_TILE_REF_REFUSED : Fld := ⟨.CPW_TILE_REF, 4, 1⟩
abbrev CPW_REFOUT_EN : Fld := ⟨.CPW_REFOUT, 0, 1⟩
abbrev CPW_REFOUT_SRC : Fld := ⟨.CPW_REFOUT, 1, 2⟩
abbrev CPW_REFOUT_SSC_DEPTH : Fld := ⟨.CPW_REFOUT, 3, 4⟩
abbrev CPW_REFOUT_SSC_RATE : Fld := ⟨.CPW_REFOUT, 7, 3⟩
abbrev CPW_REFOUT_REFUSED : Fld := ⟨.CPW_REFOUT, 10, 1⟩
abbrev CPW_REFOUT_RUNNING : Fld := ⟨.CPW_REFOUT, 11, 1⟩
abbrev CPW_CLKEN_EN : Fld := ⟨.CPW_CLKEN, 0, 32⟩
abbrev CPW_PD_ON : Fld := ⟨.CPW_PD, 0, 1⟩
abbrev CPW_PD_OFF : Fld := ⟨.CPW_PD, 1, 1⟩
abbrev CPW_PD_STATE : Fld := ⟨.CPW_PD, 2, 2⟩
abbrev CPW_PD_REFUSED : Fld := ⟨.CPW_PD, 4, 1⟩
abbrev CPW_PD_CAUSE : Fld := ⟨.CPW_PD, 5, 3⟩
abbrev PT_BW_CFG_WINDOW : Fld := ⟨.PT_BW_CFG, 0, 14⟩
abbrev PT_BW_SEQ_SEQ : Fld := ⟨.PT_BW_SEQ, 0, 32⟩
abbrev PT_BW_LATCH_COUNT : Fld := ⟨.PT_BW_LATCH, 0, 48⟩
abbrev PMG_SMP_CFG_EN : Fld := ⟨.PMG_SMP_CFG, 0, 1⟩
abbrev PMG_SMP_CFG_MODE : Fld := ⟨.PMG_SMP_CFG, 1, 1⟩
abbrev PMG_SMP_CFG_SIZE : Fld := ⟨.PMG_SMP_CFG, 2, 5⟩
abbrev PMG_SMP_CFG_REFUSED : Fld := ⟨.PMG_SMP_CFG, 7, 1⟩
abbrev PMG_SMP_CFG_ERROR : Fld := ⟨.PMG_SMP_CFG, 8, 1⟩
abbrev PMG_SMP_CFG_PERIOD : Fld := ⟨.PMG_SMP_CFG, 16, 10⟩
abbrev GLB_ID_VENDOR : Fld := ⟨.GLB_ID, 0, 16⟩
abbrev GLB_ID_PART : Fld := ⟨.GLB_ID, 16, 16⟩
abbrev GLB_ID_STEPPING : Fld := ⟨.GLB_ID, 32, 8⟩
abbrev GLB_ID_GRADE : Fld := ⟨.GLB_ID, 40, 4⟩
abbrev GLB_UID_UID : Fld := ⟨.GLB_UID, 0, 64⟩
abbrev GLB_CAP_LANES : Fld := ⟨.GLB_CAP, 0, 9⟩
abbrev GLB_CAP_TILES : Fld := ⟨.GLB_CAP, 9, 6⟩
abbrev GLB_CAP_VS : Fld := ⟨.GLB_CAP, 15, 6⟩
abbrev GLB_CAP_MULES : Fld := ⟨.GLB_CAP, 21, 7⟩
abbrev GLB_CAP_ROUTERS : Fld := ⟨.GLB_CAP, 28, 7⟩
abbrev GLB_CAP_INSTANCES : Fld := ⟨.GLB_CAP, 35, 11⟩
abbrev GLB_DEVID_USP : Fld := ⟨.GLB_DEVID, 0, 16⟩
abbrev GLB_DEVID_DSP : Fld := ⟨.GLB_DEVID, 16, 16⟩
abbrev GLB_DEVID_MGMT : Fld := ⟨.GLB_DEVID, 32, 16⟩
abbrev GLB_DEVID_DM_PF : Fld := ⟨.GLB_DEVID, 48, 16⟩
abbrev GLB_SCRATCH_DATA : Fld := ⟨.GLB_SCRATCH, 0, 64⟩
abbrev GLB_UNMAP_LOG_OFFSET : Fld := ⟨.GLB_UNMAP_LOG, 0, 26⟩
abbrev GLB_UNMAP_LOG_VALID : Fld := ⟨.GLB_UNMAP_LOG, 26, 1⟩
abbrev GLB_UNMAP_LOG_WRITE : Fld := ⟨.GLB_UNMAP_LOG, 27, 1⟩
abbrev GLB_UNMAP_LOG_INIT : Fld := ⟨.GLB_UNMAP_LOG, 28, 8⟩
abbrev GLB_UNMAP_LOG_CAUSE : Fld := ⟨.GLB_UNMAP_LOG, 36, 2⟩
abbrev PT_CNT_COUNT : Fld := ⟨.PT_CNT, 0, 48⟩
abbrev PT_CNT_OVF : Fld := ⟨.PT_CNT, 48, 1⟩
abbrev PT_TCNT_COUNT : Fld := ⟨.PT_TCNT, 0, 48⟩
abbrev PT_TCNT_OVF : Fld := ⟨.PT_TCNT, 48, 1⟩
abbrev MCL_CNT_COUNT : Fld := ⟨.MCL_CNT, 0, 48⟩
abbrev MCL_CNT_OVF : Fld := ⟨.MCL_CNT, 48, 1⟩
abbrev FAB_CNT_COUNT : Fld := ⟨.FAB_CNT, 0, 48⟩
abbrev FAB_CNT_OVF : Fld := ⟨.FAB_CNT, 48, 1⟩
abbrev DMG_CNT_COUNT : Fld := ⟨.DMG_CNT, 0, 48⟩
abbrev DMG_CNT_OVF : Fld := ⟨.DMG_CNT, 48, 1⟩
abbrev PMG_SHCNT_COUNT : Fld := ⟨.PMG_SHCNT, 0, 48⟩
abbrev PMG_SHCNT_OVF : Fld := ⟨.PMG_SHCNT, 48, 1⟩
abbrev PMG_CNT_COUNT : Fld := ⟨.PMG_CNT, 0, 48⟩
abbrev PMG_CNT_OVF : Fld := ⟨.PMG_CNT, 48, 1⟩
abbrev PT_CNT_CLR_CLR : Fld := ⟨.PT_CNT_CLR, 0, 5⟩
abbrev MCL_CNT_CLR_CLR : Fld := ⟨.MCL_CNT_CLR, 0, 4⟩
abbrev FAB_CNT_CLR_CLR : Fld := ⟨.FAB_CNT_CLR, 0, 18⟩
abbrev PMG_CNT_CLR_CLR : Fld := ⟨.PMG_CNT_CLR, 0, 1⟩
abbrev RX_BASE_ADDR : Fld := ⟨.RX_BASE, 12, 52⟩
abbrev RX_DB_ADDR_ADDR : Fld := ⟨.RX_DB_ADDR, 4, 60⟩
abbrev QP_SQ_BASE_ADDR : Fld := ⟨.QP_SQ_BASE, 12, 52⟩
abbrev QP_CQ_BASE_ADDR : Fld := ⟨.QP_CQ_BASE, 12, 52⟩
abbrev QP_DB_ADDR_ADDR : Fld := ⟨.QP_DB_ADDR, 4, 60⟩
abbrev DL_BASE_ADDR : Fld := ⟨.DL_BASE, 12, 52⟩
abbrev DL_DB_ADDR_ADDR : Fld := ⟨.DL_DB_ADDR, 4, 60⟩
abbrev MGR_CMD_BASE_ADDR : Fld := ⟨.MGR_CMD_BASE, 12, 52⟩
abbrev MGR_RSP_BASE_ADDR : Fld := ⟨.MGR_RSP_BASE, 12, 52⟩
abbrev MGR_DB_ADDR_ADDR : Fld := ⟨.MGR_DB_ADDR, 4, 60⟩
abbrev MGR_JNL_SEQ_SEQ : Fld := ⟨.MGR_JNL_SEQ, 0, 64⟩
abbrev PMG_SMP_BASE_ADDR : Fld := ⟨.PMG_SMP_BASE, 12, 52⟩
abbrev PMG_SMP_DB_ADDR : Fld := ⟨.PMG_SMP_DB, 4, 60⟩
abbrev PMG_SMP_MASK_MASK : Fld := ⟨.PMG_SMP_MASK, 0, 64⟩
abbrev MSIX_ADDR_ADDR : Fld := ⟨.MSIX_ADDR, 0, 64⟩
abbrev MSIX_DATA_DATA : Fld := ⟨.MSIX_DATA, 0, 32⟩
abbrev MSIX_CTRL_MASK : Fld := ⟨.MSIX_CTRL, 0, 1⟩
abbrev MSIX_PBA_PBA : Fld := ⟨.MSIX_PBA, 0, 64⟩
abbrev IMSIX_ADDR_ADDR : Fld := ⟨.IMSIX_ADDR, 0, 64⟩
abbrev IMSIX_DATA_DATA : Fld := ⟨.IMSIX_DATA, 0, 32⟩
abbrev IMSIX_CTRL_MASK : Fld := ⟨.IMSIX_CTRL, 0, 1⟩
abbrev IMSIX_PBA_PBA : Fld := ⟨.IMSIX_PBA, 0, 8⟩
abbrev PT_TBUF_STAT_BUF_CE : Fld := ⟨.PT_TBUF_STAT, 0, 1⟩
abbrev PT_TBUF_STAT_BUF_UE : Fld := ⟨.PT_TBUF_STAT, 1, 1⟩
abbrev PT_TBUF_STAT_SPARE_OUT : Fld := ⟨.PT_TBUF_STAT, 2, 1⟩
abbrev PT_TBUF_MASK_BUF_CE : Fld := ⟨.PT_TBUF_MASK, 0, 1⟩
abbrev PT_TBUF_MASK_BUF_UE : Fld := ⟨.PT_TBUF_MASK, 1, 1⟩
abbrev PT_TBUF_MASK_SPARE_OUT : Fld := ⟨.PT_TBUF_MASK, 2, 1⟩
abbrev PT_TBUF_INT_BUF_CE : Fld := ⟨.PT_TBUF_INT, 0, 1⟩
abbrev PT_TBUF_INT_BUF_UE : Fld := ⟨.PT_TBUF_INT, 1, 1⟩
abbrev PT_TBUF_INT_SPARE_OUT : Fld := ⟨.PT_TBUF_INT, 2, 1⟩
abbrev PT_TTRK_STAT_TRK_CE : Fld := ⟨.PT_TTRK_STAT, 0, 1⟩
abbrev PT_TTRK_STAT_ENTRY_UE : Fld := ⟨.PT_TTRK_STAT, 1, 1⟩
abbrev PT_TTRK_STAT_TRK_FULL : Fld := ⟨.PT_TTRK_STAT, 2, 1⟩
abbrev PT_TTRK_MASK_TRK_CE : Fld := ⟨.PT_TTRK_MASK, 0, 1⟩
abbrev PT_TTRK_MASK_ENTRY_UE : Fld := ⟨.PT_TTRK_MASK, 1, 1⟩
abbrev PT_TTRK_MASK_TRK_FULL : Fld := ⟨.PT_TTRK_MASK, 2, 1⟩
abbrev PT_TTRK_INT_TRK_CE : Fld := ⟨.PT_TTRK_INT, 0, 1⟩
abbrev PT_TTRK_INT_ENTRY_UE : Fld := ⟨.PT_TTRK_INT, 1, 1⟩
abbrev PT_TTRK_INT_TRK_FULL : Fld := ⟨.PT_TTRK_INT, 2, 1⟩
abbrev PT_TBANK_STAT_SWAP_DONE : Fld := ⟨.PT_TBANK_STAT, 0, 1⟩
abbrev PT_TBANK_STAT_DRAIN_DONE : Fld := ⟨.PT_TBANK_STAT, 1, 1⟩
abbrev PT_TBANK_MASK_SWAP_DONE : Fld := ⟨.PT_TBANK_MASK, 0, 1⟩
abbrev PT_TBANK_MASK_DRAIN_DONE : Fld := ⟨.PT_TBANK_MASK, 1, 1⟩
abbrev PT_TBANK_INT_SWAP_DONE : Fld := ⟨.PT_TBANK_INT, 0, 1⟩
abbrev PT_TBANK_INT_DRAIN_DONE : Fld := ⟨.PT_TBANK_INT, 1, 1⟩
abbrev PT_TLEAK_STAT_LASTING : Fld := ⟨.PT_TLEAK_STAT, 0, 1⟩
abbrev PT_TLEAK_STAT_CNT_OVF : Fld := ⟨.PT_TLEAK_STAT, 1, 1⟩
abbrev PT_TLEAK_MASK_LASTING : Fld := ⟨.PT_TLEAK_MASK, 0, 1⟩
abbrev PT_TLEAK_MASK_CNT_OVF : Fld := ⟨.PT_TLEAK_MASK, 1, 1⟩
abbrev PT_TLEAK_INT_LASTING : Fld := ⟨.PT_TLEAK_INT, 0, 1⟩
abbrev PT_TLEAK_INT_CNT_OVF : Fld := ⟨.PT_TLEAK_INT, 1, 1⟩
abbrev PT_PLINK_STAT_LINK_UP : Fld := ⟨.PT_PLINK_STAT, 0, 1⟩
abbrev PT_PLINK_STAT_LINK_DOWN : Fld := ⟨.PT_PLINK_STAT, 1, 1⟩
abbrev PT_PLINK_STAT_LINK_DEGRADED : Fld := ⟨.PT_PLINK_STAT, 2, 1⟩
abbrev PT_PLINK_STAT_CFG_REFUSED : Fld := ⟨.PT_PLINK_STAT, 3, 1⟩
abbrev PT_PLINK_STAT_MISWIRE : Fld := ⟨.PT_PLINK_STAT, 4, 1⟩
abbrev PT_PLINK_STAT_PAT_REFUSED : Fld := ⟨.PT_PLINK_STAT, 5, 1⟩
abbrev PT_PLINK_STAT_LPBK_REFUSED : Fld := ⟨.PT_PLINK_STAT, 6, 1⟩
abbrev PT_PLINK_STAT_PAT_OVF : Fld := ⟨.PT_PLINK_STAT, 7, 1⟩
abbrev PT_PLINK_MASK_LINK_UP : Fld := ⟨.PT_PLINK_MASK, 0, 1⟩
abbrev PT_PLINK_MASK_LINK_DOWN : Fld := ⟨.PT_PLINK_MASK, 1, 1⟩
abbrev PT_PLINK_MASK_LINK_DEGRADED : Fld := ⟨.PT_PLINK_MASK, 2, 1⟩
abbrev PT_PLINK_MASK_CFG_REFUSED : Fld := ⟨.PT_PLINK_MASK, 3, 1⟩
abbrev PT_PLINK_MASK_MISWIRE : Fld := ⟨.PT_PLINK_MASK, 4, 1⟩
abbrev PT_PLINK_MASK_PAT_REFUSED : Fld := ⟨.PT_PLINK_MASK, 5, 1⟩
abbrev PT_PLINK_MASK_LPBK_REFUSED : Fld := ⟨.PT_PLINK_MASK, 6, 1⟩
abbrev PT_PLINK_MASK_PAT_OVF : Fld := ⟨.PT_PLINK_MASK, 7, 1⟩
abbrev PT_PLINK_INT_LINK_UP : Fld := ⟨.PT_PLINK_INT, 0, 1⟩
abbrev PT_PLINK_INT_LINK_DOWN : Fld := ⟨.PT_PLINK_INT, 1, 1⟩
abbrev PT_PLINK_INT_LINK_DEGRADED : Fld := ⟨.PT_PLINK_INT, 2, 1⟩
abbrev PT_PLINK_INT_CFG_REFUSED : Fld := ⟨.PT_PLINK_INT, 3, 1⟩
abbrev PT_PLINK_INT_MISWIRE : Fld := ⟨.PT_PLINK_INT, 4, 1⟩
abbrev PT_PLINK_INT_PAT_REFUSED : Fld := ⟨.PT_PLINK_INT, 5, 1⟩
abbrev PT_PLINK_INT_LPBK_REFUSED : Fld := ⟨.PT_PLINK_INT, 6, 1⟩
abbrev PT_PLINK_INT_PAT_OVF : Fld := ⟨.PT_PLINK_INT, 7, 1⟩
abbrev PT_PINTEGRITY_STAT_IDE_FAIL : Fld := ⟨.PT_PINTEGRITY_STAT, 0, 1⟩
abbrev PT_PINTEGRITY_STAT_ECRC_ERR : Fld := ⟨.PT_PINTEGRITY_STAT, 1, 1⟩
abbrev PT_PINTEGRITY_STAT_POISONED : Fld := ⟨.PT_PINTEGRITY_STAT, 2, 1⟩
abbrev PT_PINTEGRITY_STAT_MALFORMED : Fld := ⟨.PT_PINTEGRITY_STAT, 3, 1⟩
abbrev PT_PINTEGRITY_MASK_IDE_FAIL : Fld := ⟨.PT_PINTEGRITY_MASK, 0, 1⟩
abbrev PT_PINTEGRITY_MASK_ECRC_ERR : Fld := ⟨.PT_PINTEGRITY_MASK, 1, 1⟩
abbrev PT_PINTEGRITY_MASK_POISONED : Fld := ⟨.PT_PINTEGRITY_MASK, 2, 1⟩
abbrev PT_PINTEGRITY_MASK_MALFORMED : Fld := ⟨.PT_PINTEGRITY_MASK, 3, 1⟩
abbrev PT_PINTEGRITY_INT_IDE_FAIL : Fld := ⟨.PT_PINTEGRITY_INT, 0, 1⟩
abbrev PT_PINTEGRITY_INT_ECRC_ERR : Fld := ⟨.PT_PINTEGRITY_INT, 1, 1⟩
abbrev PT_PINTEGRITY_INT_POISONED : Fld := ⟨.PT_PINTEGRITY_INT, 2, 1⟩
abbrev PT_PINTEGRITY_INT_MALFORMED : Fld := ⟨.PT_PINTEGRITY_INT, 3, 1⟩
abbrev PT_PFORWARD_STAT_GAP_LOSS : Fld := ⟨.PT_PFORWARD_STAT, 0, 1⟩
abbrev PT_PFORWARD_STAT_UNDERRUN : Fld := ⟨.PT_PFORWARD_STAT, 1, 1⟩
abbrev PT_PFORWARD_STAT_DUPLICATE : Fld := ⟨.PT_PFORWARD_STAT, 2, 1⟩
abbrev PT_PFORWARD_STAT_WIN_REFUSED : Fld := ⟨.PT_PFORWARD_STAT, 3, 1⟩
abbrev PT_PFORWARD_STAT_MSG_DROPPED : Fld := ⟨.PT_PFORWARD_STAT, 4, 1⟩
abbrev PT_PFORWARD_MASK_GAP_LOSS : Fld := ⟨.PT_PFORWARD_MASK, 0, 1⟩
abbrev PT_PFORWARD_MASK_UNDERRUN : Fld := ⟨.PT_PFORWARD_MASK, 1, 1⟩
abbrev PT_PFORWARD_MASK_DUPLICATE : Fld := ⟨.PT_PFORWARD_MASK, 2, 1⟩
abbrev PT_PFORWARD_MASK_WIN_REFUSED : Fld := ⟨.PT_PFORWARD_MASK, 3, 1⟩
abbrev PT_PFORWARD_MASK_MSG_DROPPED : Fld := ⟨.PT_PFORWARD_MASK, 4, 1⟩
abbrev PT_PFORWARD_INT_GAP_LOSS : Fld := ⟨.PT_PFORWARD_INT, 0, 1⟩
abbrev PT_PFORWARD_INT_UNDERRUN : Fld := ⟨.PT_PFORWARD_INT, 1, 1⟩
abbrev PT_PFORWARD_INT_DUPLICATE : Fld := ⟨.PT_PFORWARD_INT, 2, 1⟩
abbrev PT_PFORWARD_INT_WIN_REFUSED : Fld := ⟨.PT_PFORWARD_INT, 3, 1⟩
abbrev PT_PFORWARD_INT_MSG_DROPPED : Fld := ⟨.PT_PFORWARD_INT, 4, 1⟩
abbrev PT_PCOMPLETION_STAT_CPL_LATE : Fld := ⟨.PT_PCOMPLETION_STAT, 0, 1⟩
abbrev PT_PCOMPLETION_STAT_CPL_UNEXP : Fld := ⟨.PT_PCOMPLETION_STAT, 1, 1⟩
abbrev PT_PCOMPLETION_STAT_CPL_TIMEOUT : Fld := ⟨.PT_PCOMPLETION_STAT, 2, 1⟩
abbrev PT_PCOMPLETION_STAT_TAG_STARVE : Fld := ⟨.PT_PCOMPLETION_STAT, 3, 1⟩
abbrev PT_PCOMPLETION_MASK_CPL_LATE : Fld := ⟨.PT_PCOMPLETION_MASK, 0, 1⟩
abbrev PT_PCOMPLETION_MASK_CPL_UNEXP : Fld := ⟨.PT_PCOMPLETION_MASK, 1, 1⟩
abbrev PT_PCOMPLETION_MASK_CPL_TIMEOUT : Fld := ⟨.PT_PCOMPLETION_MASK, 2, 1⟩
abbrev PT_PCOMPLETION_MASK_TAG_STARVE : Fld := ⟨.PT_PCOMPLETION_MASK, 3, 1⟩
abbrev PT_PCOMPLETION_INT_CPL_LATE : Fld := ⟨.PT_PCOMPLETION_INT, 0, 1⟩
abbrev PT_PCOMPLETION_INT_CPL_UNEXP : Fld := ⟨.PT_PCOMPLETION_INT, 1, 1⟩
abbrev PT_PCOMPLETION_INT_CPL_TIMEOUT : Fld := ⟨.PT_PCOMPLETION_INT, 2, 1⟩
abbrev PT_PCOMPLETION_INT_TAG_STARVE : Fld := ⟨.PT_PCOMPLETION_INT, 3, 1⟩
abbrev PT_PCONTAIN_STAT_CONTAINED : Fld := ⟨.PT_PCONTAIN_STAT, 0, 1⟩
abbrev PT_PCONTAIN_STAT_POSTED_LOSS : Fld := ⟨.PT_PCONTAIN_STAT, 1, 1⟩
abbrev PT_PCONTAIN_STAT_RELEASED : Fld := ⟨.PT_PCONTAIN_STAT, 2, 1⟩
abbrev PT_PCONTAIN_MASK_CONTAINED : Fld := ⟨.PT_PCONTAIN_MASK, 0, 1⟩
abbrev PT_PCONTAIN_MASK_POSTED_LOSS : Fld := ⟨.PT_PCONTAIN_MASK, 1, 1⟩
abbrev PT_PCONTAIN_MASK_RELEASED : Fld := ⟨.PT_PCONTAIN_MASK, 2, 1⟩
abbrev PT_PCONTAIN_INT_CONTAINED : Fld := ⟨.PT_PCONTAIN_INT, 0, 1⟩
abbrev PT_PCONTAIN_INT_POSTED_LOSS : Fld := ⟨.PT_PCONTAIN_INT, 1, 1⟩
abbrev PT_PCONTAIN_INT_RELEASED : Fld := ⟨.PT_PCONTAIN_INT, 2, 1⟩
abbrev PT_PCONGEST_STAT_MARK : Fld := ⟨.PT_PCONGEST_STAT, 0, 1⟩
abbrev PT_PCONGEST_STAT_ECHO_DISCARD : Fld := ⟨.PT_PCONGEST_STAT, 1, 1⟩
abbrev PT_PCONGEST_STAT_BUF_REFUSED : Fld := ⟨.PT_PCONGEST_STAT, 2, 1⟩
abbrev PT_PCONGEST_MASK_MARK : Fld := ⟨.PT_PCONGEST_MASK, 0, 1⟩
abbrev PT_PCONGEST_MASK_ECHO_DISCARD : Fld := ⟨.PT_PCONGEST_MASK, 1, 1⟩
abbrev PT_PCONGEST_MASK_BUF_REFUSED : Fld := ⟨.PT_PCONGEST_MASK, 2, 1⟩
abbrev PT_PCONGEST_INT_MARK : Fld := ⟨.PT_PCONGEST_INT, 0, 1⟩
abbrev PT_PCONGEST_INT_ECHO_DISCARD : Fld := ⟨.PT_PCONGEST_INT, 1, 1⟩
abbrev PT_PCONGEST_INT_BUF_REFUSED : Fld := ⟨.PT_PCONGEST_INT, 2, 1⟩
abbrev PT_PTRUNK_STAT_TRUNK_UP : Fld := ⟨.PT_PTRUNK_STAT, 0, 1⟩
abbrev PT_PTRUNK_STAT_TRUNK_LOST : Fld := ⟨.PT_PTRUNK_STAT, 1, 1⟩
abbrev PT_PTRUNK_STAT_MEMBER_LEAVE : Fld := ⟨.PT_PTRUNK_STAT, 2, 1⟩
abbrev PT_PTRUNK_STAT_MEMBER_JOIN : Fld := ⟨.PT_PTRUNK_STAT, 3, 1⟩
abbrev PT_PTRUNK_STAT_VER_FAIL : Fld := ⟨.PT_PTRUNK_STAT, 4, 1⟩
abbrev PT_PTRUNK_STAT_PEER_MISMATCH : Fld := ⟨.PT_PTRUNK_STAT, 5, 1⟩
abbrev PT_PTRUNK_STAT_WIDTH_MISMATCH : Fld := ⟨.PT_PTRUNK_STAT, 6, 1⟩
abbrev PT_PTRUNK_STAT_RX_OVERFLOW : Fld := ⟨.PT_PTRUNK_STAT, 7, 1⟩
abbrev PT_PTRUNK_STAT_SEQ_STALL : Fld := ⟨.PT_PTRUNK_STAT, 8, 1⟩
abbrev PT_PTRUNK_STAT_FC_REFUSED : Fld := ⟨.PT_PTRUNK_STAT, 9, 1⟩
abbrev PT_PTRUNK_MASK_TRUNK_UP : Fld := ⟨.PT_PTRUNK_MASK, 0, 1⟩
abbrev PT_PTRUNK_MASK_TRUNK_LOST : Fld := ⟨.PT_PTRUNK_MASK, 1, 1⟩
abbrev PT_PTRUNK_MASK_MEMBER_LEAVE : Fld := ⟨.PT_PTRUNK_MASK, 2, 1⟩
abbrev PT_PTRUNK_MASK_MEMBER_JOIN : Fld := ⟨.PT_PTRUNK_MASK, 3, 1⟩
abbrev PT_PTRUNK_MASK_VER_FAIL : Fld := ⟨.PT_PTRUNK_MASK, 4, 1⟩
abbrev PT_PTRUNK_MASK_PEER_MISMATCH : Fld := ⟨.PT_PTRUNK_MASK, 5, 1⟩
abbrev PT_PTRUNK_MASK_WIDTH_MISMATCH : Fld := ⟨.PT_PTRUNK_MASK, 6, 1⟩
abbrev PT_PTRUNK_MASK_RX_OVERFLOW : Fld := ⟨.PT_PTRUNK_MASK, 7, 1⟩
abbrev PT_PTRUNK_MASK_SEQ_STALL : Fld := ⟨.PT_PTRUNK_MASK, 8, 1⟩
abbrev PT_PTRUNK_MASK_FC_REFUSED : Fld := ⟨.PT_PTRUNK_MASK, 9, 1⟩
abbrev PT_PTRUNK_INT_TRUNK_UP : Fld := ⟨.PT_PTRUNK_INT, 0, 1⟩
abbrev PT_PTRUNK_INT_TRUNK_LOST : Fld := ⟨.PT_PTRUNK_INT, 1, 1⟩
abbrev PT_PTRUNK_INT_MEMBER_LEAVE : Fld := ⟨.PT_PTRUNK_INT, 2, 1⟩
abbrev PT_PTRUNK_INT_MEMBER_JOIN : Fld := ⟨.PT_PTRUNK_INT, 3, 1⟩
abbrev PT_PTRUNK_INT_VER_FAIL : Fld := ⟨.PT_PTRUNK_INT, 4, 1⟩
abbrev PT_PTRUNK_INT_PEER_MISMATCH : Fld := ⟨.PT_PTRUNK_INT, 5, 1⟩
abbrev PT_PTRUNK_INT_WIDTH_MISMATCH : Fld := ⟨.PT_PTRUNK_INT, 6, 1⟩
abbrev PT_PTRUNK_INT_RX_OVERFLOW : Fld := ⟨.PT_PTRUNK_INT, 7, 1⟩
abbrev PT_PTRUNK_INT_SEQ_STALL : Fld := ⟨.PT_PTRUNK_INT, 8, 1⟩
abbrev PT_PTRUNK_INT_FC_REFUSED : Fld := ⟨.PT_PTRUNK_INT, 9, 1⟩
abbrev PT_PCOUNT_STAT_CNT_OVF : Fld := ⟨.PT_PCOUNT_STAT, 0, 1⟩
abbrev PT_PCOUNT_STAT_BW_WINDOW : Fld := ⟨.PT_PCOUNT_STAT, 1, 1⟩
abbrev PT_PCOUNT_MASK_CNT_OVF : Fld := ⟨.PT_PCOUNT_MASK, 0, 1⟩
abbrev PT_PCOUNT_MASK_BW_WINDOW : Fld := ⟨.PT_PCOUNT_MASK, 1, 1⟩
abbrev PT_PCOUNT_INT_CNT_OVF : Fld := ⟨.PT_PCOUNT_INT, 0, 1⟩
abbrev PT_PCOUNT_INT_BW_WINDOW : Fld := ⟨.PT_PCOUNT_INT, 1, 1⟩
abbrev RTR_ERR_STAT_LINK_FAIL : Fld := ⟨.RTR_ERR_STAT, 0, 1⟩
abbrev RTR_ERR_STAT_HDR_UE : Fld := ⟨.RTR_ERR_STAT, 1, 1⟩
abbrev RTR_ERR_STAT_FLIT_UE : Fld := ⟨.RTR_ERR_STAT, 2, 1⟩
abbrev RTR_ERR_STAT_FLIT_CE : Fld := ⟨.RTR_ERR_STAT, 3, 1⟩
abbrev RTR_ERR_STAT_STATE_UE : Fld := ⟨.RTR_ERR_STAT, 4, 1⟩
abbrev RTR_ERR_STAT_CLK_DEV : Fld := ⟨.RTR_ERR_STAT, 5, 1⟩
abbrev RTR_ERR_STAT_STARVE : Fld := ⟨.RTR_ERR_STAT, 6, 1⟩
abbrev RTR_ERR_STAT_ESC_UNREACH : Fld := ⟨.RTR_ERR_STAT, 7, 1⟩
abbrev RTR_ERR_STAT_CNT_OVF : Fld := ⟨.RTR_ERR_STAT, 8, 1⟩
abbrev RTR_ERR_MASK_LINK_FAIL : Fld := ⟨.RTR_ERR_MASK, 0, 1⟩
abbrev RTR_ERR_MASK_HDR_UE : Fld := ⟨.RTR_ERR_MASK, 1, 1⟩
abbrev RTR_ERR_MASK_FLIT_UE : Fld := ⟨.RTR_ERR_MASK, 2, 1⟩
abbrev RTR_ERR_MASK_FLIT_CE : Fld := ⟨.RTR_ERR_MASK, 3, 1⟩
abbrev RTR_ERR_MASK_STATE_UE : Fld := ⟨.RTR_ERR_MASK, 4, 1⟩
abbrev RTR_ERR_MASK_CLK_DEV : Fld := ⟨.RTR_ERR_MASK, 5, 1⟩
abbrev RTR_ERR_MASK_STARVE : Fld := ⟨.RTR_ERR_MASK, 6, 1⟩
abbrev RTR_ERR_MASK_ESC_UNREACH : Fld := ⟨.RTR_ERR_MASK, 7, 1⟩
abbrev RTR_ERR_MASK_CNT_OVF : Fld := ⟨.RTR_ERR_MASK, 8, 1⟩
abbrev RTR_ERR_INT_LINK_FAIL : Fld := ⟨.RTR_ERR_INT, 0, 1⟩
abbrev RTR_ERR_INT_HDR_UE : Fld := ⟨.RTR_ERR_INT, 1, 1⟩
abbrev RTR_ERR_INT_FLIT_UE : Fld := ⟨.RTR_ERR_INT, 2, 1⟩
abbrev RTR_ERR_INT_FLIT_CE : Fld := ⟨.RTR_ERR_INT, 3, 1⟩
abbrev RTR_ERR_INT_STATE_UE : Fld := ⟨.RTR_ERR_INT, 4, 1⟩
abbrev RTR_ERR_INT_CLK_DEV : Fld := ⟨.RTR_ERR_INT, 5, 1⟩
abbrev RTR_ERR_INT_STARVE : Fld := ⟨.RTR_ERR_INT, 6, 1⟩
abbrev RTR_ERR_INT_ESC_UNREACH : Fld := ⟨.RTR_ERR_INT, 7, 1⟩
abbrev RTR_ERR_INT_CNT_OVF : Fld := ⟨.RTR_ERR_INT, 8, 1⟩
abbrev MCL_ERR_STAT_PROG_FAULT : Fld := ⟨.MCL_ERR_STAT, 0, 1⟩
abbrev MCL_ERR_STAT_PROG_TIMEOUT : Fld := ⟨.MCL_ERR_STAT, 1, 1⟩
abbrev MCL_ERR_STAT_MEM_CE : Fld := ⟨.MCL_ERR_STAT, 2, 1⟩
abbrev MCL_ERR_STAT_MEM_UE : Fld := ⟨.MCL_ERR_STAT, 3, 1⟩
abbrev MCL_ERR_MASK_PROG_FAULT : Fld := ⟨.MCL_ERR_MASK, 0, 1⟩
abbrev MCL_ERR_MASK_PROG_TIMEOUT : Fld := ⟨.MCL_ERR_MASK, 1, 1⟩
abbrev MCL_ERR_MASK_MEM_CE : Fld := ⟨.MCL_ERR_MASK, 2, 1⟩
abbrev MCL_ERR_MASK_MEM_UE : Fld := ⟨.MCL_ERR_MASK, 3, 1⟩
abbrev MCL_ERR_INT_PROG_FAULT : Fld := ⟨.MCL_ERR_INT, 0, 1⟩
abbrev MCL_ERR_INT_PROG_TIMEOUT : Fld := ⟨.MCL_ERR_INT, 1, 1⟩
abbrev MCL_ERR_INT_MEM_CE : Fld := ⟨.MCL_ERR_INT, 2, 1⟩
abbrev MCL_ERR_INT_MEM_UE : Fld := ⟨.MCL_ERR_INT, 3, 1⟩
abbrev SSL_ERR_STAT_SLICE_CE : Fld := ⟨.SSL_ERR_STAT, 0, 1⟩
abbrev SSL_ERR_STAT_SLICE_UE : Fld := ⟨.SSL_ERR_STAT, 1, 1⟩
abbrev SSL_ERR_STAT_LASTING : Fld := ⟨.SSL_ERR_STAT, 2, 1⟩
abbrev SSL_ERR_MASK_SLICE_CE : Fld := ⟨.SSL_ERR_MASK, 0, 1⟩
abbrev SSL_ERR_MASK_SLICE_UE : Fld := ⟨.SSL_ERR_MASK, 1, 1⟩
abbrev SSL_ERR_MASK_LASTING : Fld := ⟨.SSL_ERR_MASK, 2, 1⟩
abbrev SSL_ERR_INT_SLICE_CE : Fld := ⟨.SSL_ERR_INT, 0, 1⟩
abbrev SSL_ERR_INT_SLICE_UE : Fld := ⟨.SSL_ERR_INT, 1, 1⟩
abbrev SSL_ERR_INT_LASTING : Fld := ⟨.SSL_ERR_INT, 2, 1⟩
abbrev LSL_ERR_STAT_LEDGER_CE : Fld := ⟨.LSL_ERR_STAT, 0, 1⟩
abbrev LSL_ERR_STAT_LEDGER_UE : Fld := ⟨.LSL_ERR_STAT, 1, 1⟩
abbrev LSL_ERR_STAT_RESOLVED : Fld := ⟨.LSL_ERR_STAT, 2, 1⟩
abbrev LSL_ERR_STAT_PAIR_OUT : Fld := ⟨.LSL_ERR_STAT, 3, 1⟩
abbrev LSL_ERR_MASK_LEDGER_CE : Fld := ⟨.LSL_ERR_MASK, 0, 1⟩
abbrev LSL_ERR_MASK_LEDGER_UE : Fld := ⟨.LSL_ERR_MASK, 1, 1⟩
abbrev LSL_ERR_MASK_RESOLVED : Fld := ⟨.LSL_ERR_MASK, 2, 1⟩
abbrev LSL_ERR_MASK_PAIR_OUT : Fld := ⟨.LSL_ERR_MASK, 3, 1⟩
abbrev LSL_ERR_INT_LEDGER_CE : Fld := ⟨.LSL_ERR_INT, 0, 1⟩
abbrev LSL_ERR_INT_LEDGER_UE : Fld := ⟨.LSL_ERR_INT, 1, 1⟩
abbrev LSL_ERR_INT_RESOLVED : Fld := ⟨.LSL_ERR_INT, 2, 1⟩
abbrev LSL_ERR_INT_PAIR_OUT : Fld := ⟨.LSL_ERR_INT, 3, 1⟩
abbrev GLB_ERR_STAT_ACCESS_UNMAPPED : Fld := ⟨.GLB_ERR_STAT, 0, 1⟩
abbrev GLB_ERR_MASK_ACCESS_UNMAPPED : Fld := ⟨.GLB_ERR_MASK, 0, 1⟩
abbrev GLB_ERR_INT_ACCESS_UNMAPPED : Fld := ⟨.GLB_ERR_INT, 0, 1⟩
abbrev CPW_ERR_STAT_GATED_ACCESS : Fld := ⟨.CPW_ERR_STAT, 0, 1⟩
abbrev CPW_ERR_STAT_TB_FALLBACK : Fld := ⟨.CPW_ERR_STAT, 1, 1⟩
abbrev CPW_ERR_STAT_TB_REFUSED : Fld := ⟨.CPW_ERR_STAT, 2, 1⟩
abbrev CPW_ERR_STAT_TB_LOST : Fld := ⟨.CPW_ERR_STAT, 3, 1⟩
abbrev CPW_ERR_STAT_PD_REFUSED : Fld := ⟨.CPW_ERR_STAT, 4, 1⟩
abbrev CPW_ERR_STAT_EXIT_FAIL : Fld := ⟨.CPW_ERR_STAT, 5, 1⟩
abbrev CPW_ERR_STAT_CLKEN_REFUSED : Fld := ⟨.CPW_ERR_STAT, 6, 1⟩
abbrev CPW_ERR_MASK_GATED_ACCESS : Fld := ⟨.CPW_ERR_MASK, 0, 1⟩
abbrev CPW_ERR_MASK_TB_FALLBACK : Fld := ⟨.CPW_ERR_MASK, 1, 1⟩
abbrev CPW_ERR_MASK_TB_REFUSED : Fld := ⟨.CPW_ERR_MASK, 2, 1⟩
abbrev CPW_ERR_MASK_TB_LOST : Fld := ⟨.CPW_ERR_MASK, 3, 1⟩
abbrev CPW_ERR_MASK_PD_REFUSED : Fld := ⟨.CPW_ERR_MASK, 4, 1⟩
abbrev CPW_ERR_MASK_EXIT_FAIL : Fld := ⟨.CPW_ERR_MASK, 5, 1⟩
abbrev CPW_ERR_MASK_CLKEN_REFUSED : Fld := ⟨.CPW_ERR_MASK, 6, 1⟩
abbrev CPW_ERR_INT_GATED_ACCESS : Fld := ⟨.CPW_ERR_INT, 0, 1⟩
abbrev CPW_ERR_INT_TB_FALLBACK : Fld := ⟨.CPW_ERR_INT, 1, 1⟩
abbrev CPW_ERR_INT_TB_REFUSED : Fld := ⟨.CPW_ERR_INT, 2, 1⟩
abbrev CPW_ERR_INT_TB_LOST : Fld := ⟨.CPW_ERR_INT, 3, 1⟩
abbrev CPW_ERR_INT_PD_REFUSED : Fld := ⟨.CPW_ERR_INT, 4, 1⟩
abbrev CPW_ERR_INT_EXIT_FAIL : Fld := ⟨.CPW_ERR_INT, 5, 1⟩
abbrev CPW_ERR_INT_CLKEN_REFUSED : Fld := ⟨.CPW_ERR_INT, 6, 1⟩
abbrev GSV_ERR_STAT_TEMP_WARN : Fld := ⟨.GSV_ERR_STAT, 0, 1⟩
abbrev GSV_ERR_STAT_DEG_DONE : Fld := ⟨.GSV_ERR_STAT, 1, 1⟩
abbrev GSV_ERR_STAT_CORE_LOST : Fld := ⟨.GSV_ERR_STAT, 2, 1⟩
abbrev GSV_ERR_STAT_MGMT_DOWN : Fld := ⟨.GSV_ERR_STAT, 3, 1⟩
abbrev GSV_ERR_MASK_TEMP_WARN : Fld := ⟨.GSV_ERR_MASK, 0, 1⟩
abbrev GSV_ERR_MASK_DEG_DONE : Fld := ⟨.GSV_ERR_MASK, 1, 1⟩
abbrev GSV_ERR_MASK_CORE_LOST : Fld := ⟨.GSV_ERR_MASK, 2, 1⟩
abbrev GSV_ERR_MASK_MGMT_DOWN : Fld := ⟨.GSV_ERR_MASK, 3, 1⟩
abbrev GSV_ERR_INT_TEMP_WARN : Fld := ⟨.GSV_ERR_INT, 0, 1⟩
abbrev GSV_ERR_INT_DEG_DONE : Fld := ⟨.GSV_ERR_INT, 1, 1⟩
abbrev GSV_ERR_INT_CORE_LOST : Fld := ⟨.GSV_ERR_INT, 2, 1⟩
abbrev GSV_ERR_INT_MGMT_DOWN : Fld := ⟨.GSV_ERR_INT, 3, 1⟩
abbrev MGR_ERR_STAT_MCR_ERROR : Fld := ⟨.MGR_ERR_STAT, 0, 1⟩
abbrev MGR_ERR_STAT_MIRROR_LOST : Fld := ⟨.MGR_ERR_STAT, 1, 1⟩
abbrev MGR_ERR_STAT_JNL_GAP : Fld := ⟨.MGR_ERR_STAT, 2, 1⟩
abbrev MGR_ERR_STAT_RESTART_DONE : Fld := ⟨.MGR_ERR_STAT, 3, 1⟩
abbrev MGR_ERR_MASK_MCR_ERROR : Fld := ⟨.MGR_ERR_MASK, 0, 1⟩
abbrev MGR_ERR_MASK_MIRROR_LOST : Fld := ⟨.MGR_ERR_MASK, 1, 1⟩
abbrev MGR_ERR_MASK_JNL_GAP : Fld := ⟨.MGR_ERR_MASK, 2, 1⟩
abbrev MGR_ERR_MASK_RESTART_DONE : Fld := ⟨.MGR_ERR_MASK, 3, 1⟩
abbrev MGR_ERR_INT_MCR_ERROR : Fld := ⟨.MGR_ERR_INT, 0, 1⟩
abbrev MGR_ERR_INT_MIRROR_LOST : Fld := ⟨.MGR_ERR_INT, 1, 1⟩
abbrev MGR_ERR_INT_JNL_GAP : Fld := ⟨.MGR_ERR_INT, 2, 1⟩
abbrev MGR_ERR_INT_RESTART_DONE : Fld := ⟨.MGR_ERR_INT, 3, 1⟩
abbrev SEC_ERR_STAT_GATE_DENY : Fld := ⟨.SEC_ERR_STAT, 0, 1⟩
abbrev SEC_ERR_STAT_GATE_OVERLAP : Fld := ⟨.SEC_ERR_STAT, 1, 1⟩
abbrev SEC_ERR_STAT_WIN_OVERLAP : Fld := ⟨.SEC_ERR_STAT, 2, 1⟩
abbrev SEC_ERR_STAT_BOOT_FALLBACK : Fld := ⟨.SEC_ERR_STAT, 3, 1⟩
abbrev SEC_ERR_STAT_AUTH_FAIL : Fld := ⟨.SEC_ERR_STAT, 4, 1⟩
abbrev SEC_ERR_MASK_GATE_DENY : Fld := ⟨.SEC_ERR_MASK, 0, 1⟩
abbrev SEC_ERR_MASK_GATE_OVERLAP : Fld := ⟨.SEC_ERR_MASK, 1, 1⟩
abbrev SEC_ERR_MASK_WIN_OVERLAP : Fld := ⟨.SEC_ERR_MASK, 2, 1⟩
abbrev SEC_ERR_MASK_BOOT_FALLBACK : Fld := ⟨.SEC_ERR_MASK, 3, 1⟩
abbrev SEC_ERR_MASK_AUTH_FAIL : Fld := ⟨.SEC_ERR_MASK, 4, 1⟩
abbrev SEC_ERR_INT_GATE_DENY : Fld := ⟨.SEC_ERR_INT, 0, 1⟩
abbrev SEC_ERR_INT_GATE_OVERLAP : Fld := ⟨.SEC_ERR_INT, 1, 1⟩
abbrev SEC_ERR_INT_WIN_OVERLAP : Fld := ⟨.SEC_ERR_INT, 2, 1⟩
abbrev SEC_ERR_INT_BOOT_FALLBACK : Fld := ⟨.SEC_ERR_INT, 3, 1⟩
abbrev SEC_ERR_INT_AUTH_FAIL : Fld := ⟨.SEC_ERR_INT, 4, 1⟩
abbrev FAB_ERR_STAT_DUAL_MGR : Fld := ⟨.FAB_ERR_STAT, 0, 1⟩
abbrev FAB_ERR_STAT_STANDBY_DUP : Fld := ⟨.FAB_ERR_STAT, 1, 1⟩
abbrev FAB_ERR_STAT_TOPO_REFUSED : Fld := ⟨.FAB_ERR_STAT, 2, 1⟩
abbrev FAB_ERR_STAT_STANDBY_LOST : Fld := ⟨.FAB_ERR_STAT, 3, 1⟩
abbrev FAB_ERR_STAT_TXN_LATE : Fld := ⟨.FAB_ERR_STAT, 4, 1⟩
abbrev FAB_ERR_STAT_SELF_ABORT : Fld := ⟨.FAB_ERR_STAT, 5, 1⟩
abbrev FAB_ERR_STAT_SYNC_LOST : Fld := ⟨.FAB_ERR_STAT, 6, 1⟩
abbrev FAB_ERR_STAT_DEPOSED : Fld := ⟨.FAB_ERR_STAT, 7, 1⟩
abbrev FAB_ERR_STAT_TRK_REFUSED : Fld := ⟨.FAB_ERR_STAT, 8, 1⟩
abbrev FAB_ERR_MASK_DUAL_MGR : Fld := ⟨.FAB_ERR_MASK, 0, 1⟩
abbrev FAB_ERR_MASK_STANDBY_DUP : Fld := ⟨.FAB_ERR_MASK, 1, 1⟩
abbrev FAB_ERR_MASK_TOPO_REFUSED : Fld := ⟨.FAB_ERR_MASK, 2, 1⟩
abbrev FAB_ERR_MASK_STANDBY_LOST : Fld := ⟨.FAB_ERR_MASK, 3, 1⟩
abbrev FAB_ERR_MASK_TXN_LATE : Fld := ⟨.FAB_ERR_MASK, 4, 1⟩
abbrev FAB_ERR_MASK_SELF_ABORT : Fld := ⟨.FAB_ERR_MASK, 5, 1⟩
abbrev FAB_ERR_MASK_SYNC_LOST : Fld := ⟨.FAB_ERR_MASK, 6, 1⟩
abbrev FAB_ERR_MASK_DEPOSED : Fld := ⟨.FAB_ERR_MASK, 7, 1⟩
abbrev FAB_ERR_MASK_TRK_REFUSED : Fld := ⟨.FAB_ERR_MASK, 8, 1⟩
abbrev FAB_ERR_INT_DUAL_MGR : Fld := ⟨.FAB_ERR_INT, 0, 1⟩
abbrev FAB_ERR_INT_STANDBY_DUP : Fld := ⟨.FAB_ERR_INT, 1, 1⟩
abbrev FAB_ERR_INT_TOPO_REFUSED : Fld := ⟨.FAB_ERR_INT, 2, 1⟩
abbrev FAB_ERR_INT_STANDBY_LOST : Fld := ⟨.FAB_ERR_INT, 3, 1⟩
abbrev FAB_ERR_INT_TXN_LATE : Fld := ⟨.FAB_ERR_INT, 4, 1⟩
abbrev FAB_ERR_INT_SELF_ABORT : Fld := ⟨.FAB_ERR_INT, 5, 1⟩
abbrev FAB_ERR_INT_SYNC_LOST : Fld := ⟨.FAB_ERR_INT, 6, 1⟩
abbrev FAB_ERR_INT_DEPOSED : Fld := ⟨.FAB_ERR_INT, 7, 1⟩
abbrev FAB_ERR_INT_TRK_REFUSED : Fld := ⟨.FAB_ERR_INT, 8, 1⟩
abbrev PMG_ERR_STAT_CNT_OVF : Fld := ⟨.PMG_ERR_STAT, 0, 1⟩
abbrev PMG_ERR_STAT_SAMPLE_OVERFLOW : Fld := ⟨.PMG_ERR_STAT, 1, 1⟩
abbrev PMG_ERR_MASK_CNT_OVF : Fld := ⟨.PMG_ERR_MASK, 0, 1⟩
abbrev PMG_ERR_MASK_SAMPLE_OVERFLOW : Fld := ⟨.PMG_ERR_MASK, 1, 1⟩
abbrev PMG_ERR_INT_CNT_OVF : Fld := ⟨.PMG_ERR_INT, 0, 1⟩
abbrev PMG_ERR_INT_SAMPLE_OVERFLOW : Fld := ⟨.PMG_ERR_INT, 1, 1⟩
abbrev VST_ERR_STAT_BIND_DONE : Fld := ⟨.VST_ERR_STAT, 0, 1⟩
abbrev VST_ERR_STAT_UNBIND_TIMEOUT : Fld := ⟨.VST_ERR_STAT, 1, 1⟩
abbrev VST_ERR_STAT_VDSP_CONTAINED : Fld := ⟨.VST_ERR_STAT, 2, 1⟩
abbrev VST_ERR_MASK_BIND_DONE : Fld := ⟨.VST_ERR_MASK, 0, 1⟩
abbrev VST_ERR_MASK_UNBIND_TIMEOUT : Fld := ⟨.VST_ERR_MASK, 1, 1⟩
abbrev VST_ERR_MASK_VDSP_CONTAINED : Fld := ⟨.VST_ERR_MASK, 2, 1⟩
abbrev VST_ERR_INT_BIND_DONE : Fld := ⟨.VST_ERR_INT, 0, 1⟩
abbrev VST_ERR_INT_UNBIND_TIMEOUT : Fld := ⟨.VST_ERR_INT, 1, 1⟩
abbrev VST_ERR_INT_VDSP_CONTAINED : Fld := ⟨.VST_ERR_INT, 2, 1⟩
abbrev DMG_ERR_STAT_REACH_CLEARED : Fld := ⟨.DMG_ERR_STAT, 0, 1⟩
abbrev DMG_ERR_STAT_PROG_STATE : Fld := ⟨.DMG_ERR_STAT, 1, 1⟩
abbrev DMG_ERR_STAT_SHARE_CHANGE : Fld := ⟨.DMG_ERR_STAT, 2, 1⟩
abbrev DMG_ERR_STAT_CNT_OVF : Fld := ⟨.DMG_ERR_STAT, 3, 1⟩
abbrev DMG_ERR_MASK_REACH_CLEARED : Fld := ⟨.DMG_ERR_MASK, 0, 1⟩
abbrev DMG_ERR_MASK_PROG_STATE : Fld := ⟨.DMG_ERR_MASK, 1, 1⟩
abbrev DMG_ERR_MASK_SHARE_CHANGE : Fld := ⟨.DMG_ERR_MASK, 2, 1⟩
abbrev DMG_ERR_MASK_CNT_OVF : Fld := ⟨.DMG_ERR_MASK, 3, 1⟩
abbrev DMG_ERR_INT_REACH_CLEARED : Fld := ⟨.DMG_ERR_INT, 0, 1⟩
abbrev DMG_ERR_INT_PROG_STATE : Fld := ⟨.DMG_ERR_INT, 1, 1⟩
abbrev DMG_ERR_INT_SHARE_CHANGE : Fld := ⟨.DMG_ERR_INT, 2, 1⟩
abbrev DMG_ERR_INT_CNT_OVF : Fld := ⟨.DMG_ERR_INT, 3, 1⟩
abbrev SH_CFG_EN : Fld := ⟨.SH_CFG, 0, 1⟩
abbrev SH_CFG_RESET_POLICY : Fld := ⟨.SH_CFG, 1, 1⟩
abbrev SH_CFG_ECHO_EN : Fld := ⟨.SH_CFG, 2, 1⟩
abbrev SH_CFG_OVERHEAD : Fld := ⟨.SH_CFG, 8, 8⟩
abbrev SH_CFG_RATE : Fld := ⟨.SH_CFG, 16, 16⟩
abbrev SH_CFG_RATE_MIN : Fld := ⟨.SH_CFG, 32, 16⟩
abbrev SH_CFG_DEC_SHIFT : Fld := ⟨.SH_CFG, 48, 3⟩
abbrev SH_CFG_AI_STEP : Fld := ⟨.SH_CFG, 56, 8⟩
abbrev SH_LIM_HI : Fld := ⟨.SH_LIM, 0, 21⟩
abbrev SH_LIM_LO_MAG : Fld := ⟨.SH_LIM, 32, 21⟩
abbrev SH_LIM_HOLD : Fld := ⟨.SH_LIM, 56, 8⟩
abbrev SH_STAT_CREDIT : Fld := ⟨.SH_STAT, 0, 32⟩
abbrev SH_STAT_RATE_CUR : Fld := ⟨.SH_STAT, 32, 16⟩
abbrev SH_STAT_WAIT : Fld := ⟨.SH_STAT, 48, 1⟩
abbrev LK_CFG_THRESHOLD : Fld := ⟨.LK_CFG, 0, 16⟩
abbrev LK_CFG_WINDOW : Fld := ⟨.LK_CFG, 16, 24⟩
abbrev LK_STAT_COUNT : Fld := ⟨.LK_STAT, 0, 16⟩
abbrev LK_STAT_LASTING : Fld := ⟨.LK_STAT, 16, 1⟩
abbrev LK_TOTAL_TOTAL : Fld := ⟨.LK_TOTAL, 0, 48⟩
abbrev LK_TOTAL_OVF : Fld := ⟨.LK_TOTAL, 48, 1⟩

end F

end Sys2Proof.Machine
end

