-- ==== Sys2Proof/Machine/Maps.lean ====
section
/-!
DEFINITION. The map of the stations (R14, R15), the reset values of the registers, the decoding of BAR0 offsets into registers and
gate slots (R542), and the event sources (R452, R454, R475).
-/

namespace Sys2Proof.Machine

/-! ### Stations on the mesh (R14) -/

/-- Router id of a port tile (R14). -/
def routerOfTile (t : Nat) : Nat :=
  if t ≤ 11 then t
  else if t ≤ 18 then (t - 11) * 12 + 11
  else if t ≤ 29 then 7 * 12 + (29 - t)
  else (36 - t) * 12

/-- The row of the four clusters and slices of a group (R14). -/
def groupRow (g : Nat) : Nat := [1, 2, 5, 6].getD g 0
/-- Router id of Mule cluster `k` (R14). -/
def routerOfMc (k : Nat) : Nat := groupRow (k / 4) * 12 + [1, 3, 8, 10].getD (k % 4) 0
/-- Router id of staging slice `k` (R14). -/
def routerOfSs (k : Nat) : Nat := groupRow (k / 4) * 12 + [2, 4, 7, 9].getD (k % 4) 0
/-- Router id of ledger slice `k` (R14). -/
def routerOfLs (k : Nat) : Nat := (3 + k % 2) * 12 + [2, 3, 8, 9].getD (k / 2) 0

/-- The stations, numbered: tiles 0–35, clusters 36–51, staging slices 52–67, ledger slices 68–75, MGT0 76, MGT1 77, SEC 78, TEL 79,
and 80 for a transit-only router (R14). -/
def routerOfStn (x : Nat) : Nat :=
  if x < 36 then routerOfTile x
  else if x < 52 then routerOfMc (x - 36)
  else if x < 68 then routerOfSs (x - 52)
  else if x < 76 then routerOfLs (x - 68)
  else [41, 53, 42, 54].getD (x - 76) 0

/-- The station of a router (R14). -/
def stnOfRouter (n : Nat) : Nat := ((List.range 80).find? (fun x => routerOfStn x == n)).getD 80

/-- Station numbers of the management, security and telemetry stations. -/
def stnMc (k : Nat) : Nat := 36 + k
def stnMgt0 : Nat := 76
def stnMgt1 : Nat := 77
def stnSec : Nat := 78
def stnTel : Nat := 79

/-- The station that a stream source number names (R179: SRC_ID). -/
def stnOfSrc (src : Nat) : Nat :=
  if src < 144 then src / 4 else if src < 160 then 36 + (src - 144) else [76, 77, 78, 79].getD (src - 160) 80

/-- The stream source number of an internal station (R179). -/
def srcOfStn (x : Nat) : Nat := if 36 ≤ x ∧ x < 52 then 144 + (x - 36) else 160 + (x - 76)

/-- The router at distance one in a direction: north 0, east 1, south 2, west 3 (R188). -/
def neighbour (n d : Nat) : Option Nat :=
  match d with
  | 0 => if n / 12 < 7 then some (n + 12) else none
  | 1 => if n % 12 < 11 then some (n + 1) else none
  | 2 => if 0 < n / 12 then some (n - 12) else none
  | 3 => if 0 < n % 12 then some (n - 1) else none
  | _ => none

/-- The opposite direction. -/
def oppDir (d : Nat) : Nat := [2, 3, 0, 1, 4].getD d 4

/-- The dimension-order output at router `n` toward `d`: X first, then Y, then local 4 (R193). -/
def dorOut (n d : Nat) : Nat :=
  if n % 12 < d % 12 then 1 else if d % 12 < n % 12 then 3
  else if n / 12 < d / 12 then 0 else if d / 12 < n / 12 then 2 else 4

/-- The routers that a dimension-order path visits from `n` on, `n` first, in at most `fuel` hops. -/
def dorWalk : Nat → Nat → Nat → List Nat
  | 0, n, _ => [n]
  | fuel + 1, n, d =>
    if n = d then [n] else
      match neighbour n (dorOut n d) with
      | some m => n :: dorWalk fuel m d
      | none => [n]

/-- The routers of the dimension-order path from `n` to `d`, both included: the longest has 18 hops (R14, R193). -/
def dorPath (n d : Nat) : List Nat := dorWalk 18 n d

/-- STATION code of RTR_ID (R14). -/
def stnType (x : Nat) : Nat :=
  if x < 36 then 0 else if x < 52 then 1 else if x < 68 then 2 else if x < 76 then 3 else if x < 78 then 4
  else if x = 78 then 5 else if x = 79 then 6 else 7

/-- INDEX of RTR_ID (R14). -/
def stnIndex (x : Nat) : Nat :=
  if x < 36 then x else if x < 52 then x - 36 else if x < 68 then x - 52 else if x < 76 then x - 68 else if x < 78 then x - 76 else 0

/-! ### Reset values -/

/-- The reset word that the map gives when it does not depend on the index. -/
def RN.rstWord (n : RN) : W64 := n.fields.foldl (fun v f => fset v f.lo f.w f.rst) 0

/-- Write fields into a word, lowest bit, width and value each. -/
def packW (l : List (Nat × Nat × Nat)) : W64 := l.foldl (fun v f => fset v f.1 f.2.1 f.2.2) 0

/-- Base permissions (RD 1, WR 2, EX 4) that the boot firmware installs for a slot: V, O, T (R241). -/
def gateReset (slot : Nat) : Nat × Nat × Nat :=
  if slot = 2 ∨ slot = 4 ∨ slot = 6 ∨ (192 ≤ slot ∧ slot ≤ 199) then (3, 1, 0)
  else if slot ≤ 7 ∨ (16 ≤ slot ∧ slot ≤ 51) ∨ (64 ≤ slot ∧ slot ≤ 159) ∨ (176 ≤ slot ∧ slot ≤ 191) ∨ slot = 200 then (3, 3, 0)
  else if 160 ≤ slot ∧ slot ≤ 175 then (7, 7, 0)
  else if slot = 201 then (3, 3, 3)
  else (0, 0, 0)

/-- Defaults of the leaky counters: block 0 PT, 1 RTR, 2 MCL, 3 SSL, 4 LSL (R459). -/
def leakyReset (blk u : Nat) : Nat × Nat :=
  if blk = 0 ∧ u < 4 then (16, 1000)
  else if blk = 1 ∧ u < 4 then (32, 1000)
  else if blk = 1 then (4, 3600000)
  else (8, 3600000)

/-- The reset word of a register. -/
def Reg.rst (r : Reg) : W64 :=
  match r.n, r.ix with
  | .RTR_ID, [n] => packW [(0, 7, n), (7, 4, n % 12), (11, 3, n / 12), (14, 3, stnType (stnOfRouter n)), (17, 6, stnIndex (stnOfRouter n))]
  | .RTR_LINK, [n] => packW [(0, 2, bit (neighbour n 0).isSome), (2, 2, bit (neighbour n 1).isSome),
      (4, 2, bit (neighbour n 2).isSome), (6, 2, bit (neighbour n 3).isSome)]
  | .SEC_GATE_BASE, [_, slot] => let g := gateReset slot; packW [(0, 3, g.1), (4, 3, g.2.1), (8, 3, g.2.2)]
  | .DM_ID, [i] => packW [(0, 11, i), (11, 6, if i < 48 then i else 0), (17, 1, bit (decide (48 ≤ i))), (24, 8, 2)]
  | .DM_STAT, [i] => packW [(2, 4, i % 16)]
  | .DL_SEL, [i] => packW [(0, 11, i)]
  | .MGR_EVT_MAP, [s] => packW [(0, 11, s), (31, 1, 1)]
  | .SH_CFG, [x] =>
      let on := if x < 576 then 0 else if x < 768 then bit (decide (x % 4 ≠ 0)) else 1
      packW [(0, 1, on), (2, 1, on), (16, 16, 0xFFFF), (32, 16, 100), (48, 3, 3), (56, 8, 16)]
  | .LK_CFG, [blk, _, u] => let d := leakyReset blk u; packW [(0, 16, d.1), (16, 24, d.2)]
  | n, _ => n.rstWord

/-! ### Addresses (R542) -/

/-- Indices of an offset within strides, each below its count, with what is left over. -/
def ixOf : List (Nat × Nat) → Nat → Option (List Nat × Nat)
  | [], o => some ([], o)
  | (st, n) :: ds, o =>
    if o / st < n then (ixOf ds (o % st)).map (fun r => (o / st :: r.1, r.2)) else none

/-- The shaper of an address row's indices (R437), and otherwise the indices with the row's block number before them. -/
def Row.fix (r : Row) (ix : List Nat) : Reg :=
  match r.n, r.pre, ix with
  | .SH_CFG, [0], [t, s, c] => ⟨r.n, [16 * t + 4 * s + c]⟩
  | .SH_LIM, [0], [t, s, c] => ⟨r.n, [16 * t + 4 * s + c]⟩
  | .SH_STAT, [0], [t, s, c] => ⟨r.n, [16 * t + 4 * s + c]⟩
  | .SH_CFG, [1], [v, c] => ⟨r.n, [576 + 4 * v + c]⟩
  | .SH_LIM, [1], [v, c] => ⟨r.n, [576 + 4 * v + c]⟩
  | .SH_STAT, [1], [v, c] => ⟨r.n, [576 + 4 * v + c]⟩
  | .SH_CFG, [2], [i] => ⟨r.n, [768 + i]⟩
  | .SH_LIM, [2], [i] => ⟨r.n, [768 + i]⟩
  | .SH_STAT, [2], [i] => ⟨r.n, [768 + i]⟩
  | n, [b], [u, k] => if n = .LK_CFG ∨ n = .LK_STAT ∨ n = .LK_TOTAL then ⟨n, [b, u, k]⟩ else ⟨n, [u, k]⟩
  | n, _, _ => ⟨n, ix⟩

/-- The indices under which a row holds a register, if it does. -/
def Row.unfix (row : Row) (r : Reg) : Option (List Nat) :=
  if row.n ≠ r.n then none
  else
    match row.pre, r.ix with
    | [], ix => some ix
    | [k], x :: rest =>
      if r.n = .SH_CFG ∨ r.n = .SH_LIM ∨ r.n = .SH_STAT then
        match k with
        | 0 => if x < 576 then some [x / 16, x / 4 % 4, x % 4] else none
        | 1 => if 576 ≤ x ∧ x < 768 then some [(x - 576) / 4, (x - 576) % 4] else none
        | _ => if 768 ≤ x then some [x - 768] else none
      else if x = k then some rest else none
    | _, _ => none

/-- The register at an offset of one row, and the byte within it. -/
def Row.hit (r : Row) (off : Nat) : Option (Reg × Nat) :=
  if r.base ≤ off then
    match ixOf r.dims (off - r.base) with
    | some (ix, rem) => if rem < (if r.w64 then 8 else 4) then some (r.fix ix, rem) else none
    | none => none
  else none

/-- The register that holds a BAR0 offset and the byte within it; none where the block holds no register there. -/
def Reg.ofOffset (off : Nat) : Option (Reg × Nat) := regRows.findSome? (·.hit off)

/-- The extents of R542: base, last byte, unit stride (0 for one unit or one slot), first gate slot. -/
def blockRows : List (Nat × Nat × Nat × Nat) :=
  [(0x0000000, 0x000FFFF, 0, 0), (0x0010000, 0x001FFFF, 0, 1), (0x0020000, 0x002FFFF, 0, 2), (0x0030000, 0x003FFFF, 0, 3),
   (0x0040000, 0x004FFFF, 0, 4), (0x0050000, 0x005FFFF, 0, 5), (0x0080000, 0x00FFFFF, 0, 6), (0x0100000, 0x010FFFF, 0, 7),
   (0x1000000, 0x18FFFFF, 0x40000, 16), (0x2000000, 0x205FFFF, 0x1000, 64), (0x2100000, 0x24FFFFF, 0x40000, 160),
   (0x2500000, 0x250FFFF, 0x1000, 176), (0x2600000, 0x2607FFF, 0x1000, 192), (0x2700000, 0x271FFFF, 0, 200),
   (0x2800000, 0x2D2FFFF, 0, 201)]

/-- The block of a BAR0 offset: gate slot and the offset within the slot's page; none if the address is unmapped (R542). -/
def slotOf (off : Nat) : Option (Nat × Nat) :=
  blockRows.findSome? (fun b =>
    if b.1 ≤ off ∧ off ≤ b.2.1 then
      if b.2.2.1 = 0 then some (b.2.2.2, off - b.1) else some (b.2.2.2 + (off - b.1) / b.2.2.1, (off - b.1) % b.2.2.1)
    else none)

/-- Bytes of a slot's page (R229, R542). -/
def slotSize (slot : Nat) : Nat :=
  if slot = 6 then 0x80000 else if slot ≤ 7 then 0x10000 else if 16 ≤ slot ∧ slot ≤ 51 then 0x40000
  else if 160 ≤ slot ∧ slot ≤ 175 then 0x40000
  else if 64 ≤ slot ∧ slot ≤ 199 ∧ slot ≠ 52 then 0x1000
  else if slot = 200 then 0x20000 else if slot = 201 then 0x530000 else 0

end Sys2Proof.Machine

namespace Sys2Proof

open Machine

/-! ### Event sources (R452, R475) -/

/-- The ERR_STAT register of a triple (R454). -/
def Trip.stat : Trip → Reg
  | .port p e => ⟨[RN.PT_PLINK_STAT, .PT_PINTEGRITY_STAT, .PT_PFORWARD_STAT, .PT_PCOMPLETION_STAT, .PT_PCONTAIN_STAT,
      .PT_PCONGEST_STAT, .PT_PTRUNK_STAT, .PT_PCOUNT_STAT].getD e .PT_PLINK_STAT, [p / 4, p % 4]⟩
  | .tile t r => ⟨[RN.PT_TBUF_STAT, .PT_TTRK_STAT, .PT_TBANK_STAT, .PT_TLEAK_STAT].getD r .PT_TBUF_STAT, [t]⟩
  | .mule m => ⟨.MCL_ERR_STAT, [m / 4, m % 4]⟩
  | .router n => ⟨.RTR_ERR_STAT, [n]⟩
  | .ssl k => ⟨.SSL_ERR_STAT, [k]⟩
  | .lsl k => ⟨.LSL_ERR_STAT, [k]⟩
  | .glb => ⟨.GLB_ERR_STAT, []⟩
  | .cpw => ⟨.CPW_ERR_STAT, []⟩
  | .gsv => ⟨.GSV_ERR_STAT, []⟩
  | .mgr => ⟨.MGR_ERR_STAT, []⟩
  | .sec => ⟨.SEC_ERR_STAT, []⟩
  | .fab => ⟨.FAB_ERR_STAT, []⟩
  | .vst => ⟨.VST_ERR_STAT, []⟩
  | .pmg => ⟨.PMG_ERR_STAT, []⟩
  | .dmg => ⟨.DMG_ERR_STAT, []⟩

/-- The ERR_MASK register of a triple. -/
def Trip.mask (x : Trip) : Reg :=
  ⟨match x with
    | .port _ e => [RN.PT_PLINK_MASK, .PT_PINTEGRITY_MASK, .PT_PFORWARD_MASK, .PT_PCOMPLETION_MASK, .PT_PCONTAIN_MASK,
        .PT_PCONGEST_MASK, .PT_PTRUNK_MASK, .PT_PCOUNT_MASK].getD e .PT_PLINK_MASK
    | .tile _ r => [RN.PT_TBUF_MASK, .PT_TTRK_MASK, .PT_TBANK_MASK, .PT_TLEAK_MASK].getD r .PT_TBUF_MASK
    | .mule _ => .MCL_ERR_MASK | .router _ => .RTR_ERR_MASK | .ssl _ => .SSL_ERR_MASK | .lsl _ => .LSL_ERR_MASK
    | .glb => .GLB_ERR_MASK | .cpw => .CPW_ERR_MASK | .gsv => .GSV_ERR_MASK | .mgr => .MGR_ERR_MASK | .sec => .SEC_ERR_MASK
    | .fab => .FAB_ERR_MASK | .vst => .VST_ERR_MASK | .pmg => .PMG_ERR_MASK | .dmg => .DMG_ERR_MASK, x.stat.ix⟩

/-- The ERR_INT register of a triple. -/
def Trip.int (x : Trip) : Reg :=
  ⟨match x with
    | .port _ e => [RN.PT_PLINK_INT, .PT_PINTEGRITY_INT, .PT_PFORWARD_INT, .PT_PCOMPLETION_INT, .PT_PCONTAIN_INT,
        .PT_PCONGEST_INT, .PT_PTRUNK_INT, .PT_PCOUNT_INT].getD e .PT_PLINK_INT
    | .tile _ r => [RN.PT_TBUF_INT, .PT_TTRK_INT, .PT_TBANK_INT, .PT_TLEAK_INT].getD r .PT_TBUF_INT
    | .mule _ => .MCL_ERR_INT | .router _ => .RTR_ERR_INT | .ssl _ => .SSL_ERR_INT | .lsl _ => .LSL_ERR_INT
    | .glb => .GLB_ERR_INT | .cpw => .CPW_ERR_INT | .gsv => .GSV_ERR_INT | .mgr => .MGR_ERR_INT | .sec => .SEC_ERR_INT
    | .fab => .FAB_ERR_INT | .vst => .VST_ERR_INT | .pmg => .PMG_ERR_INT | .dmg => .DMG_ERR_INT, x.stat.ix⟩

/-- The event source of bit `b` of a triple (R475). -/
def Trip.source (x : Trip) (b : Nat) : Nat :=
  match x with
  | .port p e => 8 * p + e
  | .tile t r => 1152 + 4 * t + r
  | .mule m => 1296 + 4 * m + b
  | .router n => 1552 + n
  | .ssl k => 1648 + 9 + k / 4
  | .lsl k => 1648 + 13 + k / 4
  | .glb => 1648 | .cpw => 1649 | .gsv => 1650 | .mgr => 1651 | .sec => 1652 | .fab => 1653 | .vst => 1654 | .pmg => 1655
  | .dmg => 1656

end Sys2Proof

namespace Sys2Proof.Machine

/-- The triple that a register belongs to, with 0 for its ERR_STAT, 1 for its ERR_MASK. -/
def tripOf (r : Reg) : Option (Trip × Nat) :=
  let port := fun (e : Nat) (w : Nat) => match r.ix with | [t, s] => some (Trip.port (4 * t + s) e, w) | _ => none
  let tile := fun (e : Nat) (w : Nat) => match r.ix with | [t] => some (Trip.tile t e, w) | _ => none
  match r.n, r.ix with
  | .PT_PLINK_STAT, _ => port 0 0 | .PT_PLINK_MASK, _ => port 0 1
  | .PT_PINTEGRITY_STAT, _ => port 1 0 | .PT_PINTEGRITY_MASK, _ => port 1 1
  | .PT_PFORWARD_STAT, _ => port 2 0 | .PT_PFORWARD_MASK, _ => port 2 1
  | .PT_PCOMPLETION_STAT, _ => port 3 0 | .PT_PCOMPLETION_MASK, _ => port 3 1
  | .PT_PCONTAIN_STAT, _ => port 4 0 | .PT_PCONTAIN_MASK, _ => port 4 1
  | .PT_PCONGEST_STAT, _ => port 5 0 | .PT_PCONGEST_MASK, _ => port 5 1
  | .PT_PTRUNK_STAT, _ => port 6 0 | .PT_PTRUNK_MASK, _ => port 6 1
  | .PT_PCOUNT_STAT, _ => port 7 0 | .PT_PCOUNT_MASK, _ => port 7 1
  | .PT_TBUF_STAT, _ => tile 0 0 | .PT_TBUF_MASK, _ => tile 0 1
  | .PT_TTRK_STAT, _ => tile 1 0 | .PT_TTRK_MASK, _ => tile 1 1
  | .PT_TBANK_STAT, _ => tile 2 0 | .PT_TBANK_MASK, _ => tile 2 1
  | .PT_TLEAK_STAT, _ => tile 3 0 | .PT_TLEAK_MASK, _ => tile 3 1
  | .MCL_ERR_STAT, [k, j] => some (.mule (4 * k + j), 0) | .MCL_ERR_MASK, [k, j] => some (.mule (4 * k + j), 1)
  | .RTR_ERR_STAT, [n] => some (.router n, 0) | .RTR_ERR_MASK, [n] => some (.router n, 1)
  | .SSL_ERR_STAT, [k] => some (.ssl k, 0) | .SSL_ERR_MASK, [k] => some (.ssl k, 1)
  | .LSL_ERR_STAT, [k] => some (.lsl k, 0) | .LSL_ERR_MASK, [k] => some (.lsl k, 1)
  | .GLB_ERR_STAT, _ => some (.glb, 0) | .GLB_ERR_MASK, _ => some (.glb, 1)
  | .CPW_ERR_STAT, _ => some (.cpw, 0) | .CPW_ERR_MASK, _ => some (.cpw, 1)
  | .GSV_ERR_STAT, _ => some (.gsv, 0) | .GSV_ERR_MASK, _ => some (.gsv, 1)
  | .MGR_ERR_STAT, _ => some (.mgr, 0) | .MGR_ERR_MASK, _ => some (.mgr, 1)
  | .SEC_ERR_STAT, _ => some (.sec, 0) | .SEC_ERR_MASK, _ => some (.sec, 1)
  | .FAB_ERR_STAT, _ => some (.fab, 0) | .FAB_ERR_MASK, _ => some (.fab, 1)
  | .VST_ERR_STAT, _ => some (.vst, 0) | .VST_ERR_MASK, _ => some (.vst, 1)
  | .PMG_ERR_STAT, _ => some (.pmg, 0) | .PMG_ERR_MASK, _ => some (.pmg, 1)
  | .DMG_ERR_STAT, _ => some (.dmg, 0) | .DMG_ERR_MASK, _ => some (.dmg, 1)
  | _, _ => none

end Sys2Proof.Machine
end

