-- ==== Sys2Proof/Machine/State.lean ====
section
/-!
DEFINITION. The state of the BF288 as plain data: the registers, the configuration space that hosts see, and the state that the spec
gives to the mesh, the forwarding path, the trackers, the trunks, the data mover, the Mules, the management plane, the clocks and the
pins. A field that only the model has says so.
-/

namespace Sys2Proof.Machine

/-- The registers: a register that the map does not list reads its reset value. -/
abbrev RegMap := AMap Reg W64

/-- The configuration space that hosts see: a field that the map does not list reads its reset value. -/
abbrev CfgMap := AMap (FnId × CfgF) Nat

/-- A byte memory in canonical form: addresses strictly rising, no entry 0; an unlisted address reads 0. -/
abbrev Memory := List Host.Cell

/-! ### Virtual switches and forwarding tables (chapters 04 and 05) -/

/-- One copy of the forwarding tables: the VST registers, the host-visible configuration fields, the owner of each allocated vDSP index
(virtual switch and slot), the virtual switches that are not Free, the BAR entries of members, and the ports that are remote-bound with the
GPID of their upstream port (R146, R147, R329). -/
structure FwdTable where
  regs : RegMap := []
  cfg : CfgMap := []
  own : AMap Nat (Nat × Nat) := []
  act : List Nat := []
  bars : AMap (Nat × Nat × Nat) (List BarX) := []
  rbound : AMap Nat Nat := []
  deriving DecidableEq, Repr

/-- What a swap message swaps: the forwarding tables, the windows, the gates (R146, R228), the route and remote-window banks (R321). -/
inductive BankSet where
  | fwd | win | gate
  deriving DecidableEq, Repr

/-- What completes when a swap has completed: an MCR command, a fabric transaction (R321), or a host's configuration write on a port (R147,
R228). -/
inductive After where
  | none
  | mcr
  | fab
  | cpl (port : Nat) (t : Tlp)
  deriving DecidableEq, Repr

/-- A bank swap: the set, the epoch it makes, the stations that have not swapped, whether its messages are sent, and what follows. -/
structure Swap where
  set : BankSet
  epoch : Nat
  left : List Nat
  sent : Bool
  after : After
  deriving DecidableEq, Repr

/-- Resources of a removed binding that wait for DRAIN (R150): the epoch of the removal, freed vDSP indices, freed function binding
entries and the target port, and the virtual switch and slot that held them. -/
structure Drain where
  epoch : Nat
  vdsps : List Nat
  fbs : List Nat
  port : Option Nat
  vs : Nat := 0
  slot : Nat := 0
  deriving DecidableEq, Repr

/-! ### Packets (R177 to R183) -/

/-- The internal messages (R183). -/
inductive IMsg where
  | tailConf (src egress sc seq : Nat)
  | resend (src egress sc seq : Nat)
  | leaseReq (stn egress : Nat)
  | leaseGrant (egress : Nat) (tags : List Nat)
  | leaseReturn (stn egress : Nat) (tags : List Nat)
  | expiry (egress etag : Nat)
  | trkLoss (holder trk : Nat)
  | swap (set : BankSet) (epoch : Nat)
  | swapAck (set : BankSet) (stn : Nat)
  | echo (src egress sc seq count : Nat)
  | ringReq (target entry thread : Nat)
  | ringAns (thread ans : Nat)
  deriving DecidableEq, Repr

/-- What a packet carries: one TLP or one internal message (R178). -/
inductive Body where
  | tlp (t : Tlp)
  | msg (m : IMsg)
  deriving DecidableEq, Repr

/-- A packet: the mesh header of R179 and its body. `vdsp` is the index of the vDSP that the lookup bound the TLP to, 0x3FF for none,
`dst` the GPID of a KFP route and `gsrc` the GPID that a TLP from another device came from;
`made` marks a TLP that the tile itself made, which holds no receive credit. -/
structure Pkt where
  dest : Nat
  src : Nat
  srcId : Nat
  egress : Nat
  sc : Nat
  kind : Nat
  qos : Nat := 0
  esc : Bool := false
  mark : Bool := false
  resend : Bool := false
  flits : Nat := 1
  bytes : Nat := 0
  seq : Nat := 0
  epoch : Nat := 0
  winEpoch : Nat := 0
  trk : Nat := 0
  stomp : Nat := 0
  vdsp : Nat := 0x3FF
  dst : Nat := 0
  gsrc : Option Nat := none
  made : Bool := false
  body : Body
  deriving DecidableEq, Repr

/-- A flit in a FIFO: the packet's number in the packet table, its place in the packet, and whether it is the tail (R177). -/
structure Flit where
  pid : Nat
  idx : Nat
  tail : Bool
  deriving DecidableEq, Repr

/-- A virtual channel of a router port: router, port (north 0, east 1, south 2, west 3, local 4), plane B, channel (R184). -/
structure VcId where
  r : Nat
  p : Nat
  b : Bool
  vc : Nat
  deriving DecidableEq, Repr

/-- An output's arbitration state: the holder and the flits left of its grant, the parked input, the previous winner, the pending
queue (R196 to R200); inputs are (port, vc). -/
structure OutArb where
  holder : Option (Nat × Nat) := none
  left : Nat := 0
  parked : Option (Nat × Nat) := none
  last : Nat := 0
  pend : List (Nat × Nat) := []
  deriving DecidableEq, Repr

/-- The mesh: the packets in flight, the input FIFOs, the flits that wait for injection, the credits held and owed per output channel,
the packet that holds each output channel, the output arbiters, the wait counters, the packets landed at each router's station, the internal
messages that wait at each station (by station), when a link's handshake was last seen (R191), the times of the link failures at each router, and the
frequency windows in a row that were off (R213). -/
structure Mesh where
  pkts : AMap Nat Pkt := []
  nextPid : Nat := 0
  fifos : AMap VcId (List Flit) := []
  injq : AMap VcId (List Flit) := []
  cred : AMap VcId Nat := []
  owed : AMap VcId Nat := []
  hold : AMap VcId Nat := []
  outs : AMap (Nat × Nat × Bool) OutArb := []
  waits : AMap (Nat × Nat × Bool × Nat × Nat) Nat := []
  landed : List (Nat × Nat) := []
  inbox : AMap Nat (List IMsg) := []
  linkAt : AMap (Nat × Nat) Nat := []
  failAt : AMap Nat (List Nat) := []
  clkBad : AMap Nat Nat := []
  deriving DecidableEq, Repr

/-! ### The forwarding path (chapters 05 and 08) -/

/-- A stream: source number, egress port, service class (R151). -/
abbrev SKey := Nat × Nat × Nat

/-- The order gate's record of a stream: the number below which every TLP has been released, the numbers from it on that have arrived,
and since when it has waited for a missing number (R153, R157). -/
structure GateSt where
  base : Nat := 0
  got : List Nat := []
  since : Option Nat := none
  deriving DecidableEq, Repr

/-- The decision of a lookup (R143, R148): egress port, class, governing vDSP (0x3FF for none), member, destination GPID (0 for this
device's ports), the TLP as it is forwarded, a mark that came with it (R306), and the epochs it is bound to. -/
structure Dec where
  egress : Nat
  sc : Nat
  vdsp : Nat := 0x3FF
  bvdsp : Nat := 0x3FF
  mbr : Option Nat := none
  dst : Nat := 0
  gsrc : Option Nat := none
  mark : Bool := false
  tlp : Tlp
  epoch : Nat := 0
  winEpoch : Nat := 0
  deriving DecidableEq, Repr

/-- A non-posted request that waits at step 3: source number, arrival port (0xFF for none), decision, and since when (R18, R259). -/
structure WaitNp where
  src : Nat
  port : Nat
  dec : Dec
  req : Tlp
  since : Nat
  deriving DecidableEq, Repr

/-- A tracker or request-table entry (R242), with the timeout in force when it was allocated (R247) and the class and attributes that its
completion takes, the next byte due (R253, R254) and the request's TLP bytes (R320). -/
structure TrkE where
  reqId : Nat
  tag : Nat
  egress : Nat
  etag : Nat
  expired : Bool := false
  slot : Nat
  kind : TlpKind
  confirmed : Bool := false
  sc : Nat
  vdsp : Nat
  remain : Nat
  tAlloc : Nat
  mbr : Option Nat := none
  to_ : Nat
  tc : Nat := 0
  ro : Bool := false
  ido : Bool := false
  addr : Nat := 0
  bytes : Nat := 0
  deriving DecidableEq, Repr

/-- The state of an egress tag (R244): `leased` and `live` name the holding station, `live` also the tracker index, `tomb` when the
quarantine ends (none: pinned under R270). -/
inductive TagSt where
  | pool
  | leased (stn : Nat)
  | live (stn trk : Nat)
  | tomb (till : Option Nat)
  deriving DecidableEq, Repr

/-- The forwarding path: forwarding tables by epoch, swaps and drains under way, streams, held copies, order gates, gate queues, shaper
queues, requests that wait for an ingress shaper, requests at step 3, trackers, retired entries, tag maps, leases, ingress credits in
use, the time since when a queued port has sent nothing, echo timers, contained vDSPs whose host has released them, the round-robin places of shapers and
schedulers, spare rows in use by tile, each station's active gate bank and its epoch (R228), the credits that a link partner has granted (R448), packets of
lost links that settle next, the time of a member's FLR and the members that answer Request Retry Status after it (R263), ports that wait to end a
containment, bindings made on a contained slot, whose presence waits, packets that wait for their trunk, deficits of the schedulers (R449), the last epoch
of each bank set, and the requester ID of the requests sent on a port by tag. -/
structure FwdSt where
  own : AMap Nat (Nat × Nat) := []
  act : List Nat := []
  bars : AMap (Nat × Nat × Nat) (List BarX) := []
  rbound : AMap Nat Nat := []
  tabs : AMap Nat FwdTable := []
  swaps : List Swap := []
  drains : List Drain := []
  streams : AMap SKey Nat := []
  held : AMap (SKey × Nat) Pkt := []
  gates : AMap SKey GateSt := []
  gateq : AMap (Nat × Nat) (List Pkt) := []
  shq : AMap (Nat × Nat) (List Pkt) := []
  ingq : AMap Nat (List Pkt) := []
  waits : List WaitNp := []
  trk : AMap (Nat × Nat) TrkE := []
  retired : List (Nat × Nat) := []
  tags : AMap (Nat × Nat) TagSt := []
  leases : AMap (Nat × Nat) (List Nat) := []
  leaseAsk : List (Nat × Nat) := []
  leaseIdle : AMap (Nat × Nat) Nat := []
  credit : AMap (Nat × Nat) (Nat × Nat) := []
  stallAt : AMap Nat Nat := []
  echoAt : AMap SKey (Nat × Nat × Nat) := []
  releasing : List Nat := []
  rrs : AMap (Nat × Nat) Nat := []
  rowsUsed : AMap Nat Nat := []
  gateBank : AMap Nat (Nat × Nat) := []
  fc : AMap (Nat × Nat) (Nat × Nat) := []
  lostQ : List Pkt := []
  flrAt : AMap (Nat × Nat × Nat) Nat := []
  flrRrs : List (Nat × Nat × Nat) := []
  relWait : List Nat := []
  bindWait : List (Nat × Nat) := []
  trunkq : AMap Nat (List Pkt) := []
  deficit : AMap (Nat × Nat) Nat := []
  epochs : AMap Nat Nat := []
  sentRid : AMap (Nat × Nat) Nat := []
  deriving DecidableEq, Repr

/-- A shaper's running state (R438, R446, R447): credit in hundredths of a byte at time `at_`, the last decrease, the start of the
recovery interval and whether an echo spoiled it, the start of the measurement window, the bytes charged in it, and MEAS. -/
structure ShSt where
  credit : Int
  at_ : Nat
  lastDec : Option Nat := none
  ivStart : Nat := 0
  ivEcho : Bool := false
  winStart : Nat := 0
  winBytes : Nat := 0
  meas : Option Nat := none
  deriving DecidableEq, Repr

/-- A shared port's parameters (R110): private buses, private memory range, real Max_Payload_Size and Max_Read_Request_Size codes, and the
functions that the firmware found. -/
structure SharedPort where
  port : Nat
  buses : Nat
  memBase : Nat
  memSize : Nat
  mps : Nat
  mrrs : Nat
  fns : List SharedFn
  deriving DecidableEq, Repr

/-- An ORDERLY unbind under way: slot, the MCR command's SEQ, and when its wait ends (R118, R119). -/
structure UnbindWait where
  vs : Nat
  slot : Nat
  seq : Nat
  till : Nat
  deriving DecidableEq, Repr

/-- Virtual-switch state beside the registers: shared ports, ORDERLY unbinds under way, remote bindings whose link is up, ports that answered
Request Retry Status before VS_CREATE (R105), ports that wait for the firmware to configure their hierarchy again (R111), remote bindings whose port their host
has told to reset, and the rate and width that a remote port last reported (R330). -/
structure VsxSt where
  shared : List SharedPort := []
  unbinds : List UnbindWait := []
  remoteUp : List (Nat × Nat) := []
  reconfig : List Nat := []
  remoteRst : List (Nat × Nat) := []
  remoteLink : AMap (Nat × Nat) (Nat × Nat) := []
  deriving DecidableEq, Repr

/-! ### Commands on their way (R480 to R495) -/

/-- An MCR command on its way: its header, its number among all commands, SEQ, the ring that it came from (R489), its operation (none: the status in `bad`), whether its reserved
bytes are 0, the 64-byte entry, what the world answers, and whether the originator has been answered (R495). -/
structure McrJob where
  cx : McrCx
  id : Nat := 0
  seq : Nat := 0
  gen : Nat := 0
  op : Option McrOp := none
  bad : Nat := 0
  rsv : Bool := true
  entry : List Byte := []
  env : McrEnv := {}
  answered : Bool := false
  deriving DecidableEq, Repr

/-- A response that waits to be written (R481, R574). -/
structure McrRsp where
  job : McrJob
  status : Nat
  jseq : Nat
  result : List Byte
  deriving DecidableEq, Repr

/-! ### The fabric (chapter 10) -/

/-- A fabric transaction that the Bellwether runs (R321, R336, R337): its number, the devices with their changes, the devices concerned, the bank sets (0 forwarding, 1 windows, 2 gates,
3 routes), the devices that have not answered, its phase (0 waits for the standby, 1 prepared, 2 committed, 3 aborted, 4 applied and waits for the standby), the fabric time of the commit, when the
phase began, when a message was last sent, the status that a refusal gave, the number of the command that it carries out, and the step of a
takeover that it is (2 or 3; 0 for none). -/
structure FabTxn where
  id : Nat := 0
  chg : List (Nat × FabChg) := []
  devs : List Nat := []
  sets : List Nat := []
  left : List Nat := []
  phase : Nat := 0
  time : Nat := 0
  at_ : Nat := 0
  sent : Nat := 0
  status : Nat := 0
  job : Option Nat := none
  take : Nat := 0
  deriving DecidableEq, Repr

/-- Fabric state (chapter 10): the active bank of the route table, the Max_Payload_Size codes of remote-bound ports (R573), the changes written
through the relay with their transaction, the prepared transaction's bank sets, the time of its commit, when READY was sent, and the changes being
applied; on the Bellwether the numbered devices, the trunks between
them (device and trunk of each end), the bank sets written on devices since their last swap, the open transaction, the transactions that wait, the last TXN_ID, a change that waits for the
standby's acknowledgement since, and the responses that wait for it; on a standby the mirrored transaction, the changes received and the last heartbeat; the
offset still to be slewed and the number of exchanges since SYNC was lost. -/
structure FabSt where
  rtBank : Nat := 0
  mps : AMap Nat Nat := []
  staged : List (Nat × FabChg) := []
  sets : List Nat := []
  due : Option Nat := none
  readyAt : Nat := 0
  applied : List FabChg := []
  devs : List Nat := []
  links : List (Nat × Nat × Nat × Nat) := []
  written : List (Nat × Nat) := []
  txn : Option FabTxn := none
  waiting : List FabTxn := []
  lastTxn : Nat := 0
  ackWait : Option Nat := none
  owed : List McrRsp := []
  mirTxn : Option (Nat × List Nat) := none
  mirror : List (List Byte) := []
  hbAt : Nat := 0
  slew : Int := 0
  syncs : Nat := 0
  deriving DecidableEq, Repr

/-! ### Management, security, clocks (chapters 16 and 17) -/

/-- What a parked command waits for (R486, R574): the host's slot power, the drain of an epoch, a program slot's or a reach entry's use, the resets of
a virtual switch's instances, a fabric transaction, another device, or Bus Master Enable of the management function. -/
inductive ParkK where
  | unbind (vs slot : Nat)
  | drain (epoch : Nat)
  | prog (slot : Nat)
  | reach (entry : Nat)
  | delete (vs : Nat)
  | txn
  | remote (dev : Nat)
  | hostIo
  deriving DecidableEq, Repr

/-- The management firmware's state: the number of commands that have arrived, the command whose swap is under way, the commands that have arrived, the parked commands, the number of
commands fetched since EN, the copies of CMD_TAIL and RSP_HEAD, a doorbell read that waits, the last poll, the ring's number (R489), responses that wait for Bus Master Enable, the claims of
the inactive banks (R488), the journal mirror (base, doorbell, size, next SEQ to copy, copies consumed, paused, last read), the endpoint's EID and
whether an MCR_SUBMIT runs, a restart that is wanted (reason), when the restart under way began and its reason. -/
structure MgrSt where
  jobs : Nat := 0
  run : Option McrJob := none
  queue : List McrJob := []
  parked : List (McrJob × ParkK) := []
  fetched : Nat := 0
  tail : Nat := 0
  rspHead : Nat := 0
  want : Bool := false
  pollAt : Nat := 0
  gen : Nat := 0
  rsps : List McrRsp := []
  winClaim : Option (Nat × Nat) := none
  gateClaim : Option (Nat × Nat) := none
  mirBase : Nat := 0
  mirDb : Nat := 0
  mirSize : Nat := 0
  mirNext : Nat := 0
  mirHead : Nat := 0
  mirPause : Bool := false
  mirReadAt : Nat := 0
  eid : Nat := 0
  subBusy : Bool := false
  restart : Option Nat := none
  restartAt : Nat := 0
  reason : Nat := 0
  deriving DecidableEq, Repr

/-- The security station: the fused hashes of the vendor and operator slots, the operator moduli, the flash images and the image that the boot record
names (none: both copies are bad), the running image's number and key slot, the boot configuration, the SVN of the running Mule firmware and the
station's copy of it, measurements by index, SPDM sessions, the update under way (component), a verified component that waits for activation, and an activation under way
(the old image and since when). -/
structure SecSt where
  vendor : AMap Nat (List Byte) := []
  oper : AMap Nat (List Byte) := []
  moduli : AMap Nat (List Byte) := []
  flash : AMap Nat (List Byte) := []
  record : Option Nat := none
  running : Nat := 0
  keyId : Nat := 0
  boot : BootCfg := {}
  muleSvn : Nat := 0
  muleFw : List Byte := []
  meas : AMap Nat (List Byte) := []
  sess : List Nat := []
  upd : Option Nat := none
  ready : Option (Nat × List Byte) := none
  activating : Option (Nat × Nat) := none
  failedAct : Bool := false
  deriving DecidableEq, Repr

/-- Clocks, power and pins: VDD_AON above its reset threshold, PWR_OK and RESET_N, whether the straps are latched, a source is selected and the source wait
has passed without one, OSC_WAIT has elapsed, the target of a switch under way (source, whether it is a fallback), the time at which each
domain's sequence began, and the CLKREQ# levels. -/
structure CpwSt where
  aon : Bool := true
  pwrOk : Bool := false
  resetN : Bool := true
  latched : Bool := false
  chosen : Bool := false
  noSource : Bool := false
  oscDone : Bool := false
  switch : Option (Nat × Bool) := none
  pdAt : AMap Nat Nat := []
  clkreq : AMap Nat Bool := []
  deriving DecidableEq, Repr

/-! ### Ports and links (chapters 02 and 03) -/

/-- Port and lane state beside the registers. Ports: IDE failed and waiting for keys (R95), IDE key sets held per slot and the active slot (R93),
the rate cap and the lanes left out by R76 and whether a cause of R76 acted in this training, the width kept in L1, last TLP, last
utilization (R85), PERST inputs asserted, when each PERST# output was asserted and the GPIOs displaced (R89, R99), the ports that a remote host has powered off (1) or whose link it has
disabled (0) (R330), Doze entry times, the ports that wait for the partner's Doze marker, ports in a short retrain (R54), the device and port that a port's
lane markers name. Lanes: equalization under way, eye samples that wait, margining, the partner's coefficients, bad markers in a row, injected errors. -/
structure LnkSt where
  ideBad : List Nat := []
  ideKeys : List (Nat × Nat) := []
  ideSlot : AMap Nat Nat := []
  rateCap : AMap Nat Nat := []
  badLanes : List (Nat × Nat) := []
  degraded : List Nat := []
  l1Width : AMap Nat Nat := []
  lastTlp : AMap Nat Nat := []
  util : AMap Nat Nat := []
  perstIn : List Nat := []
  perstOut : AMap Nat Nat := []
  displaced : List (Nat × Bool) := []
  remoteOff : List (Nat × Nat) := []
  doze : AMap Nat Nat := []
  dozeAsk : List Nat := []
  shortRetrain : List Nat := []
  mark : AMap Nat (Nat × Nat) := []
  eqRun : List (Nat × Nat) := []
  eyeWait : List (Nat × Nat) := []
  margin : List (Nat × Nat) := []
  partner : AMap (Nat × Nat) (Nat × Nat) := []
  badMarks : AMap (Nat × Nat) Nat := []
  injected : AMap (Nat × Nat) Nat := []
  deriving DecidableEq, Repr

/-! ### Koryan trunks (chapter 09) -/

/-- A held copy of a data packet (R287): its packet as the gate released it, the member it was last sent on, when, how often it was resent,
and its member sequence number under KFP 1.0. -/
structure KCopy where
  tseq : Nat
  mem : Nat
  at_ : Nat
  tries : Nat := 0
  mseq : Nat := 0
  pkt : Pkt
  deriving DecidableEq, Repr

/-- A trunk's running state beside the registers: HELLOs received by member, members that have asked to join, the peer named on the first
member (device and trunk port), the last TSEQ sent on each member, member sequence numbers sent and expected (KFP 1.0), held copies, the
receive store, the values with a reserved slot, bad packets that the next NAK names, the CUM last sent and when CUM last advanced, flits
failed in a row by member, bytes queued on a member (in eighths) and when they were counted, and samples of the round-trip time. -/
structure TrunkSt where
  nonces : Nat := 0
  hello : AMap Nat Hello := []
  asked : List Nat := []
  peer : Option (Nat × Nat) := none
  prevTx : AMap Nat Nat := []
  mseqTx : AMap Nat Nat := []
  mseqRx : AMap Nat Nat := []
  copies : List KCopy := []
  store : AMap Nat KData := []
  naks : List Nat := []
  bad : List Nat := []
  cumSent : Nat := 0
  cumAt : Nat := 0
  badFlits : AMap Nat Nat := []
  mq : AMap Nat (Nat × Nat) := []
  rtts : List (Nat × Nat) := []
  deriving DecidableEq, Repr

/-! ### The data mover and the work ledger (chapters 11 and 12) -/

/-- One copy of a ledger entry (R385), or of a ring entry (KIND 1, R388). -/
structure LedE where
  state : Nat := 0
  resumed : Bool := false
  kind : Nat := 0
  inst : Nat := 0
  qp : Nat := 0
  opcode : Nat := 0
  status : Nat := 0
  cdone : Nat := 0
  cwin : Nat := 0
  seq : Nat := 0
  user : Nat := 0
  result : Nat := 0
  crc : Nat := 0
  ni : Nat := 0
  delivered : Nat := 0
  resIdx : Nat := 0
  resV : Bool := false
  resSlot : Nat := 0
  deriving DecidableEq, Repr

/-- One side of an accepted descriptor: the instance whose requester ID its requests carry, the host address of offset 0, the last byte of the
reach range (none for own memory), the access kinds granted, the reach entry, and the target instance of a MSG handle (R360, R374, R375). -/
structure Side where
  fn : Nat
  base : Nat := 0
  lim : Option Nat := none
  perm : Nat := 7
  ent : Option Nat := none
  tinst : Nat := 0
  deriving DecidableEq, Repr

/-- An accepted descriptor as its front end holds it: the 64 bytes, whether they are held (a front end that takes an instance over reads them
again, R397), and its sides as checked. -/
structure Acpt where
  d : List Byte
  held : Bool := true
  src : Side
  dst : Side
  deriving DecidableEq, Repr

/-- A chunk in flight: its number, its thread, its staging buffer, and what it read if it finished early (R394, R395). -/
structure Chk where
  c : Nat
  thr : Nat
  buf : Option Nat := none
  got : Option ChunkGot := none
  deriving DecidableEq, Repr

/-- A queue pair's running state beside its registers: a doorbell read wanted, one under way, whether that read is a poll, the copies of SQ_TAIL
and CQ_HEAD, a descriptor read under way, the descriptor read but not yet accepted, the ledger entry being written for it, polling (last read, active, empty
polls), FENCE state (a failure since the last FENCE, skipping), records written, interrupts pending and since when. -/
structure QpSt where
  want : Bool := false
  busy : Bool := false
  isPoll : Bool := false
  tail : Nat := 0
  head : Nat := 0
  reading : Bool := false
  got : Option (List Byte) := none
  offer : Option Nat := none
  pollAt : Nat := 0
  active : Bool := false
  empty : Nat := 0
  failed : Bool := false
  skip : Bool := false
  written : Nat := 0
  irq : Nat := 0
  irqAt : Nat := 0
  deriving DecidableEq, Repr

/-- A receive ring's running state: the copy of RX_HEAD, the request that waits for the RX doorbell read, a failed or ill record, interrupts pending and since when. -/
structure RxSt where
  head : Nat := 0
  waiting : Option (Nat × Nat) := none
  bad : Bool := false
  irq : Nat := 0
  irqAt : Nat := 0
  deriving DecidableEq, Repr

/-- A dirty-page log: records written, the copy of DL_HEAD, and whether it overflowed. -/
structure LogSt where
  n : Nat := 0
  head : Nat := 0
  overflowed : Bool := false
  deriving DecidableEq, Repr

/-- The data mover: the two copies of each ledger entry, the entries whose write has not reached both, the pairs that move (with the
surviving slice), accepted descriptors, lists read, chunks in flight, the thread that closes an entry, records written and not yet released, flush reads
under way and done, the last DWORD written through a reach handle, queue pairs, receive rings, held reservation requests, occupied receive slots
(entry and SEQ), message counts, the instance served last, resets under way, entries to read again, logs, logged and quiesced instances,
staging buffers in use and their instance, chunks charged at the instance shaper, programs begun, what follows an entry's write (1 the FetchAdd, 2 the
reservation request, 3 the message, 4 and 5 the steps 3 and 5 of a STEP), quota inputs of the
last epoch, and enabled instances. -/
structure DmSt where
  even : AMap Nat LedE := []
  odd : AMap Nat LedE := []
  pend : List Nat := []
  mv : AMap Nat Nat := []
  acc : AMap Nat Acpt := []
  lists : AMap Nat (List (Nat × Nat)) := []
  chunks : AMap Nat (List Chk) := []
  closer : AMap Nat Nat := []
  recs : List Nat := []
  flush : List Nat := []
  flushed : List Nat := []
  last : AMap Nat (Nat × Nat) := []
  qp : AMap (Nat × Nat) QpSt := []
  rx : AMap Nat RxSt := []
  ringWait : List (Nat × Nat × Nat) := []
  occ : AMap (Nat × Nat) (Nat × Nat) := []
  msgSeq : AMap (Nat × Nat × Nat) Nat := []
  rr : Nat := 0
  flr : AMap Nat Nat := []
  reread : List Nat := []
  logs : AMap Nat LogSt := []
  logged : List Nat := []
  quiesced : List Nat := []
  bufs : AMap Nat Nat := []
  charged : List (Nat × Nat) := []
  begun : List Nat := []
  todo : AMap Nat Nat := []
  epochOf : Nat × Nat × Nat := (1, 4, 16)
  nEn : Nat := 0
  deriving DecidableEq, Repr

/-! ### The Mules (chapter 13) -/

/-- A stream read of a thread that has not landed: the destination side, offset, length and local address (R414, R417). -/
structure SRead where
  dst : Bool
  off : Nat
  len : Nat
  loc : Nat
  deriving DecidableEq, Repr

/-- A thread: registers g1 to g31 (a register that the map does not list holds 0), the program counter as an instruction memory offset, the
ledger entry, chunk and instance of its invocation, level O, program slot, start time, reads and writes under way, SPUT records, a SWAIT, the end that waits
for its streams (status and RESULT), the staging buffer, the step and mirror buffers, the checkpoint of a STEP under way, and whether the
program restarts after it (R433). -/
structure Thr where
  regs : AMap Nat Nat := []
  pc : Nat := 0
  idx : Nat := 0
  c : Nat := 0
  inst : Nat := 0
  o : Bool := false
  slot : Nat := 0
  t0 : Nat := 0
  reads : List SRead := []
  writes : List (Nat × Nat) := []
  sputs : List (Nat × Nat × Nat) := []
  waiting : Bool := false
  fin : Option (Nat × Nat) := none
  buf : Option Nat := none
  stepBuf : Option Nat := none
  mirror : Option Nat := none
  step : Option Nat := none
  again : Bool := false
  deriving DecidableEq, Repr

/-- The Mules: the invocations by thread (4 × Mule + thread), the thread that issued last on each Mule, the data memories (0x80000 bytes each
cluster), the instruction memories (0x20000 bytes each Mule), the staging memory (4 KiB each buffer), the images held by the
security station for each slot, and the clusters whose firmware update is under way with its start. -/
structure MuleSt where
  thr : AMap Nat Thr := []
  last : AMap Nat Nat := []
  dmem : Memory := []
  imem : Memory := []
  stg : Memory := []
  images : AMap Nat (List Byte) := []
  fw : Option (List Byte) := none
  updating : Option (Nat × Nat) := none
  updQueue : List Nat := []
  deriving DecidableEq, Repr

/-! ### Faults and the journal (chapters 15 and 16) -/

/-- A journal entry (R491): the CHECK field is computed when the entry is read. -/
structure JEntry where
  seq : Nat
  time : Nat
  kind : Nat
  orig : Nat
  origId : Nat := 0
  dev : Nat := 0x3F
  cmdSeq : Nat := 0
  body : List Byte := []
  result : List Byte := []
  deriving DecidableEq, Repr

/-- Fault handling: declared failures that wait (TYPE and INDEX of R462), the one being handled, when each core last beat, when the Goose
started full restarts, when the seal was confirmed, and the last tick, or the start, of the leak schedule of each leaky counter, which is `leakFrom` for a counter that
the map does not list (R456, R461, R466, R467). -/
structure FltSt where
  queue : List (Nat × Nat) := []
  cur : Option (Nat × Nat) := none
  failed : List (Nat × Nat) := []
  beat : AMap Nat Nat := []
  restarts : List Nat := []
  sealAt : Nat := 0
  leakAt : AMap (Nat × Nat × Nat) Nat := []
  leakFrom : Nat := 0
  deriving DecidableEq, Repr

/-- Performance state: the counts of each port's bandwidth window and where the window began (R536), instructions retired toward the next
precise sample, records written and dropped, the copy of SMP_HEAD and when the record was last read (R538, R540),
what a precise sample caught (thread, PC, address, time, and instance with level and slot), and for skid samples the last tick and the
instructions retired since a tick that waits for its capture. -/
structure PerfSt where
  bw : AMap (Nat × Nat) Nat := []
  bwFrom : AMap Nat Nat := []
  retired : AMap Nat Nat := []
  written : Nat := 0
  lost : Nat := 0
  head : Nat := 0
  readAt : Nat := 0
  skidAt : Nat := 0
  caught : AMap Nat (Nat × Nat × Nat × Nat × Nat) := []
  skidRun : AMap Nat Nat := []
  deriving DecidableEq, Repr

/-! ### The outside world -/

/-- What the device sends: the model's own record of every transmission, newest last. -/
inductive Out where
  | tlp (port : Nat) (t : Tlp)
  | nullified (port : Nat) (t : Tlp)
  | credits (port ty hdr dat : Nat)
  | msix (vec : Nat)
  | imsix (i vec : Nat)
  | hotReset (port : Nat)
  | txeq (tile lane : Nat) (accepted : Bool)
  | eqAsk (tile lane pre post : Nat)
  | flr (port rid : Nat)
  | slotIrq (vs slot : Nat)
  | dpcIrq (vs slot : Nat)
  | hostWrite (fn : FnId) (addr : Nat) (data : List Byte) (tc : Nat := 0) (ns ro : Bool := false)
  | hostRead (fn : FnId) (addr len : Nat) (tc : Nat := 0) (ns : Bool := false)
  | fetchAdd (fn : FnId) (addr addend tc : Nat)
  | kfp (port : Nat) (m : KMsg)
  | fab (dev : Nat) (m : FMsg)
  | spdm (r : SpdmRsp)
  | answer (who : Init) (code : Nat) (data : List Byte)
  deriving DecidableEq, Repr

/-- No instruction of the part ends in a fault of the model: the type has no constructor that a meaning uses; `unreachable` is kept so that
the type is inhabited and no command answers it (safe). -/
inductive Fault where
  | unreachable
  deriving DecidableEq, Repr

/-- `notModelled` is answered by the dispatch alone, for a command that has no meaning yet (safe: the model stops). -/
inductive Refusal where
  | notModelled (mnemonic : String)
  deriving DecidableEq, Repr

/-- The state of the machine. `sent` and `pending` are the model's own: what has been sent, and the commands that wait, first in first
out. -/
structure State where
  regs : RegMap := []
  cfg : CfgMap := []
  mesh : Mesh := {}
  fwd : FwdSt := {}
  shp : AMap Nat ShSt := []
  vsx : VsxSt := {}
  lnk : LnkSt := {}
  trunk : AMap Nat TrunkSt := []
  fab : FabSt := {}
  mgr : MgrSt := {}
  sec : SecSt := {}
  cpw : CpwSt := {}
  dm : DmSt := {}
  mule : MuleSt := {}
  flt : FltSt := {}
  perf : PerfSt := {}
  journal : List JEntry := []
  msiWait : List Nat := []
  sent : List Out := []
  pending : List Instr := []
  deriving DecidableEq, Repr

/-- The machine right after reset (R528: a power-on reset, before the boot): every register at its reset value, every table, queue and
memory empty. -/
def State.reset : State := {}

end Sys2Proof.Machine
end

