-- ==== Sys2Proof/Machine/Ops.lean ====
section
/-!
DEFINITION. The named operations over the state that every family uses: registers and fields, the host-visible configuration space, time,
events and interrupts (R452, R475, R476), counters (R530, R531), logs that keep their first entry, and the gate and clock checks of a
register access (R234, R236, R518, R543 to R546).
-/

namespace Sys2Proof.Machine

/-! ### Registers -/

/-- Read a register's word from a register map. -/
def rmRd (m : RegMap) (r : Reg) : W64 := m.lookD r r.rst

/-- Read a field from a register map. -/
def rmGet (m : RegMap) (f : Fld) (ix : List Nat) : Nat := fget (rmRd m ⟨f.reg, ix⟩) f.lo f.w

/-- A register's word. -/
def State.rd (s : State) (r : Reg) : W64 := rmRd s.regs r

/-- Replace a register's word. -/
def State.wr (s : State) (r : Reg) (v : W64) : State := { s with regs := s.regs.put r v }

/-- A field of a register. -/
def State.get (s : State) (f : Fld) (ix : List Nat) : Nat := rmGet s.regs f ix

/-- Replace a field of a register. -/
def State.set (s : State) (f : Fld) (ix : List Nat) (v : Nat) : State :=
  s.wr ⟨f.reg, ix⟩ (fset (s.rd ⟨f.reg, ix⟩) f.lo f.w v)

/-- Is a one-bit field 1? -/
def State.on (s : State) (f : Fld) (ix : List Nat) : Bool := s.get f ix == 1

/-- Set a one-bit field. -/
def State.setB (s : State) (f : Fld) (ix : List Nat) (b : Bool) : State := s.set f ix (bit b)

/-- Add to a field, with saturation at all-ones. -/
def State.bump (s : State) (f : Fld) (ix : List Nat) (n : Nat := 1) : State := s.set f ix (satAdd f.w (s.get f ix) n)

/-- Add to a field, wrapping. -/
def State.incr (s : State) (f : Fld) (ix : List Nat) (n : Nat := 1) : State := s.set f ix (s.get f ix + n)

/-- Reset a register to its reset value. -/
def State.resetReg (s : State) (r : Reg) : State := { s with regs := s.regs.del r }

/-- The device timebase in ns (CPW_TIME). -/
def State.now (s : State) : Nat := s.get F.CPW_TIME_TIME []

/-- Is the device in the safe state? -/
def State.sealed (s : State) : Bool := s.on F.GSV_STAT_SAFE []

/-- A meaning: outside the safe state the effect happens; in the safe state the device does nothing (R467, R468). -/
def State.live (s : State) (f : State → State) : Host.Outcome State Fault Refusal := .next (if s.sealed then s else f s)

/-- Do something to the state when a condition holds. -/
def State.when (s : State) (c : Bool) (f : State → State) : State := if c then f s else s

/-- Record a transmission. -/
def State.emit (s : State) (o : Out) : State := { s with sent := s.sent ++ [o] }

/-! ### Configuration space that hosts see -/

/-- Reset values of the configuration fields: windows start disabled (base above limit), Max_Read_Request_Size 512 bytes, the indicators
off, the AER mask and severity as PCI Express gives them (assumption 12), the rest 0. -/
def cfRst : CfgF → Nat
  | .memBase | .prefBase | .ioBase => 1
  | .mrrs => 2
  | .attnInd | .pwrInd => 3
  | .aerUncMask => 0x400000
  | .aerUncSeverity => 0x462030
  | _ => 0

/-- A configuration field of a configuration map. -/
def cfGet (m : CfgMap) (fn : FnId) (f : CfgF) : Nat := m.lookD (fn, f) (cfRst f)

/-- A configuration field that hosts see. -/
def State.cf (s : State) (fn : FnId) (f : CfgF) : Nat := cfGet s.cfg fn f

/-- Set a configuration field. -/
def State.cfSet (s : State) (fn : FnId) (f : CfgF) (v : Nat) : State := { s with cfg := s.cfg.put (fn, f) v }

/-- The fields that PCI Express marks sticky: the AER status, mask and severity fields (assumption 12). -/
def cfSticky : CfgF → Bool
  | .aerUncMask | .aerMalformed | .aerUr | .aerAcs | .aerEcrc | .aerPoisoned | .aerUnexpected | .aerInternal | .aerSurpriseDown
  | .aerTranslation | .aerBadTlp | .aerUncSeverity | .ecrcCheck | .ecrcGen => true
  | _ => false

/-- Return a function's configuration space to reset values; sticky fields are kept if asked (R575). -/
def State.cfReset (s : State) (p : FnId → Bool) (keepSticky : Bool) : State :=
  { s with cfg := s.cfg.filter (fun e => !(p e.1.1) || (keepSticky && cfSticky e.1.2)) }

/-! ### Events and interrupts -/

/-- Send a management MSI-X message on a vector; a masked vector sets its PBA bit (R476, R547). Messages wait while Bus Master Enable of
the management function is 0 (R574). -/
def State.sendMsix (s : State) (v : Nat) : State :=
  if s.on F.MSIX_CTRL_MASK [v] then
    s.set F.MSIX_PBA_PBA [v / 64] (s.get F.MSIX_PBA_PBA [v / 64] ||| (1 <<< (v % 64)))
  else if s.cf .mgmt .bme = 1 then s.emit (.msix v)
  else { s with msiWait := s.msiWait ++ [v] }

/-- Send the message of a source if its map entry is enabled (R476). -/
def State.sendSource (s : State) (src : Nat) : State :=
  s.when (s.on F.MGR_EVT_MAP_EN [src]) (fun s => s.sendMsix (s.get F.MGR_EVT_MAP_VEC [src]))

/-- The word of ERR_INT as ERR_STAT and ERR_MASK give it (R452). -/
def State.errInt (s : State) (x : Trip) : W64 := s.rd x.stat &&& ~~~(s.rd x.mask)

/-- Is the source of bit `b` of a triple raised? A Mule's bits back a source each (R452). -/
def State.raised (s : State) (x : Trip) (b : Nat) : Bool :=
  match x with
  | .mule _ => (s.rd x.int).getLsbD b
  | _ => s.rd x.int != 0

/-- Recompute ERR_INT of a triple (R452). -/
def State.updInt (s : State) (x : Trip) : State := s.wr x.int (s.errInt x)

/-- Raise event bit `b` of a triple: set ERR_STAT, recompute ERR_INT, and send the source's message if it becomes raised (R452, R453,
R476). -/
def State.event (s : State) (x : Trip) (b : Nat) : State :=
  let s' := (s.wr x.stat (s.rd x.stat ||| BitVec.ofNat 64 (1 <<< b))).updInt x
  s'.when (!s.raised x b && s'.raised x b) (·.sendSource (x.source b))

/-- Event bits of the port triples, by triple number and bit (R535). -/
def State.portEvent (s : State) (p e b : Nat) : State := s.event (.port p e) b

/-! ### Counters (R530, R531) -/

/-- Count `n` in a counter register; at all-ones it stays there, sets OVF and raises CNT_OVF of its block (R531). -/
def State.count (s : State) (r : Reg) (n : Nat) (ov : Option (Trip × Nat)) : State :=
  let v := s.rd r
  let c := satAdd 48 (fget v 0 48) n
  if c = 2 ^ 48 - 1 then
    let s' := s.wr r (fset (fset v 0 48 c) 48 1 1)
    match ov with
    | some (x, b) => s'.event x b
    | none => s'
  else s.wr r (fset v 0 48 c)

/-- Count in a port counter (R532, R533). -/
def State.portCount (s : State) (p c : Nat) (n : Nat := 1) : State :=
  s.count ⟨.PT_CNT, [p / 4, p % 4, c]⟩ n (some (.port p 7, 0))

/-- Count in a tile counter. -/
def State.tileCount (s : State) (t c : Nat) (n : Nat := 1) : State := s.count ⟨.PT_TCNT, [t, c]⟩ n (some (.tile t 3, 1))

/-- Count in a router counter. -/
def State.rtrCount (s : State) (r c : Nat) (n : Nat := 1) : State := s.count ⟨.RTR_CNT, [r, c]⟩ n (some (.router r, 8))

/-- Count in a Mule counter; the map of the Mule's triple has no overflow event (R535). -/
def State.muleCount (s : State) (m c : Nat) (n : Nat := 1) : State := s.count ⟨.MCL_CNT, [m / 4, m % 4, c]⟩ n none

/-- Count in a trunk counter; the trunk's overflow is the CNT_OVF of the trunk's port (assumption 13). -/
def State.trunkCount (s : State) (j c : Nat) (n : Nat := 1) : State := s.count ⟨.FAB_CNT, [j, c]⟩ n (some (.port (8 * j) 7, 0))

/-- Count in an instance counter. -/
def State.instCount (s : State) (i c : Nat) (n : Nat := 1) : State := s.count ⟨.DMG_CNT, [i, c]⟩ n (some (.dmg, 3))

/-- Count in a shaper counter. -/
def State.shCount (s : State) (x c : Nat) (n : Nat := 1) : State := s.count ⟨.PMG_SHCNT, [x, c]⟩ n (some (.pmg, 0))

/-- Count in a global counter. -/
def State.glbCount (s : State) (c : Nat) (n : Nat := 1) : State := s.count ⟨.PMG_CNT, [c]⟩ n (some (.pmg, 0))

/-- Count a TLP of a port in its bandwidth window, once the window has begun, and keep the time of its last TLP: counts `k` and `k + 1` are bytes and TLPs (R536). -/
def State.bwAdd (s0 : State) (p k bytes : Nat) : State :=
  let s : State := { s0 with lnk := { s0.lnk with lastTlp := s0.lnk.lastTlp.put p s0.now } }
  if s.perf.bwFrom.lookD p 0 ≤ s.now then
    { s with perf := { s.perf with bw := AMap.upd (AMap.upd s.perf.bw (p, k) 0 (· + bytes)) (p, k + 1) 0 (· + 1) } }
  else s

/-- Clear registers to their reset values. -/
def State.clearRegs (s : State) (p : Reg → Bool) : State := { s with regs := s.regs.filter (fun e => !p e.1) }

/-! ### The tile and slot of a port, and its cut (R16, R65) -/

/-- A field of a port's registers, at its tile and slot. -/
def State.pget (s : State) (f : Fld) (p : Nat) : Nat := s.get f [p / 4, p % 4]
/-- Replace a field of a port's registers. -/
def State.pset (s : State) (f : Fld) (p v : Nat) : State := s.set f [p / 4, p % 4] v
/-- Is a one-bit field of a port's registers 1? -/
def State.pon (s : State) (f : Fld) (p : Nat) : Bool := s.pget f p == 1

/-- Roles (PP_CTL.ROLE): 0 upstream, 1 downstream, 2 KFP, 3 acts as downstream (R65). -/
def State.role (s : State) (p : Nat) : Nat := let r := s.pget F.PP_CTL_ROLE p; if r = 3 then 1 else r

/-- Is the link in L0, at full or reduced width? -/
def State.inL0 (s : State) (p : Nat) : Bool := s.pget F.PP_STAT_LINK_STATE p == 3 || s.pget F.PP_STAT_LINK_STATE p == 4

/-! ### Initiators and gates (chapter 07) -/

/-- The port of the owner host's upstream port: the MGMT_PORT strap; 0xFF for none (R473). -/
def State.mgmtPort (s : State) : Nat := if s.on F.SEC_BOOT_MGMT_BAD [] then 0xFF else s.get F.CPW_STRAP_MGMT_PORT []

/-- The privilege level of an initiator's direct accesses (R233). -/
def State.levelOf (_s : State) : Init → Level
  | .core _ | .sec | .tel => .v
  | .owner | .sideband | .relay | .mule _ => .o
  | .tenant _ => .t

/-- The checking station of an initiator (R570). While the security station serves the sideband (R495), it checks. -/
def State.checkStn (s : State) : Init → Nat
  | .core c => if c.val < 2 then stnMgt0 else stnMgt1
  | .owner => s.mgmtPort / 4
  | .sideband =>
    if s.sealed || s.on F.MGR_RESTART_ACTIVE [] || s.on F.GSV_STAT_MGMT_DOWN [] then stnSec else stnMgt0
  | .relay => stnMgt0
  | .mule m => stnMc (m.val / 4)
  | .tenant i => s.get F.VST_STAT_UP_PORT [s.get F.DM_ID_VS [i.val]] / 4
  | .sec => stnSec
  | .tel => stnTel

/-- The initiator's code in the logs (SEC_GATE_LOG.INIT: SRC_ID of R179, 0xFE sideband, 0xFD relay). -/
def State.initCode (s : State) : Init → Nat
  | .core c => if c.val < 2 then 160 else 161
  | .owner => s.mgmtPort
  | .sideband => 0xFE
  | .relay => 0xFD
  | .mule m => 144 + m.val / 4
  | .tenant i => s.get F.VST_STAT_UP_PORT [s.get F.DM_ID_VS [i.val]]
  | .sec => 162
  | .tel => 163

/-- The active gate bank of a station (R228, R570). -/
def State.gateBankOf (s : State) (stn : Nat) : Nat := (s.fwd.gateBank.lookD stn (0, 0)).1

/-- The permissions of a level on one byte of a slot: RD 1, WR 2, EX 4 (R234). -/
def State.gatePerm (s : State) (b slot : Nat) (l : Level) (off : Nat) : Nat :=
  let sub := (List.range 2).find? (fun k => s.on F.SEC_GATE_SUB_EN [b, slot, k] &&
    decide (s.get F.SEC_GATE_SUB_BASE [b, slot, k] ≤ off) && decide (off ≤ s.get F.SEC_GATE_SUB_LIMIT [b, slot, k]))
  match sub, l with
  | some k, .v => s.get F.SEC_GATE_SUB_V_PERM [b, slot, k]
  | some k, .o => s.get F.SEC_GATE_SUB_O_PERM [b, slot, k]
  | some k, .t => s.get F.SEC_GATE_SUB_T_PERM [b, slot, k]
  | none, .v => s.get F.SEC_GATE_BASE_V_PERM [b, slot]
  | none, .o => s.get F.SEC_GATE_BASE_O_PERM [b, slot]
  | none, .t => s.get F.SEC_GATE_BASE_T_PERM [b, slot]

/-- Access kinds: read 0, write 1, execute 2. The first byte that the gate refuses, if any (R234). -/
def State.gateRefused (s : State) (b slot : Nat) (l : Level) (kind off size : Nat) : Option Nat :=
  ((List.range size).map (off + ·)).find? (fun o => !(s.gatePerm b slot l o).testBit kind)

/-- The clock enable of a gate slot (R516). -/
def State.clkEn (s : State) (slot : Nat) : Bool := (s.get F.CPW_CLKEN_EN [slot / 32]).testBit (slot % 32)

/-- The result of an access to a register: done, unmapped or ill-formed (R543, R544), refused by the gate (R236), or reaching a block
whose clock enable is 0 (R518). -/
inductive Acc where
  | ok | unmapped | denied | gated
  deriving DecidableEq, Repr

/-- Log an access refused under R543 in GLB_UNMAP_LOG if it is free, and raise ACCESS_UNMAPPED. -/
def State.unmapped (s : State) (who : Init) (off : Nat) (write : Bool) (cause : Nat) : State :=
  (s.when (!s.on F.GLB_UNMAP_LOG_VALID []) (fun s =>
    s.wr ⟨.GLB_UNMAP_LOG, []⟩ (packW [(0, 26, off), (26, 1, 1), (27, 1, bit write), (28, 8, s.initCode who), (36, 2, cause)]))).event .glb 0

/-- The level's code in SEC_GATE_LOG. -/
def levelCode : Level → Nat
  | .v => 0 | .o => 1 | .t => 2

/-- The instance of a level T access. -/
def initInst : Init → Nat
  | .tenant i => i.val
  | _ => 0

/-- Log an access that the gate refused, count it and raise GATE_DENY (R236). -/
def State.gateDeny (s : State) (who : Init) (slot off kind : Nat) : State :=
  ((s.when (!s.on F.SEC_GATE_LOG_VALID []) (fun s =>
    s.wr ⟨.SEC_GATE_LOG, []⟩ (packW [(0, 8, slot), (8, 2, levelCode (s.levelOf who)), (10, 2, kind), (12, 1, 1), (16, 8, s.initCode who),
      (24, 24, off), (48, 11, initInst who)]))).glbCount 2).event .sec 0

/-- Log an access to a block whose clock is off and raise GATED_ACCESS (R518). -/
def State.clockGated (s : State) (who : Init) (slot off : Nat) : State :=
  (s.when (!s.on F.CPW_GATED_LOG_VALID []) (fun s =>
    s.wr ⟨.CPW_GATED_LOG, []⟩ (packW [(0, 8, slot), (8, 8, s.initCode who), (16, 1, 1), (24, 24, off)]))).event .cpw 0

/-- The checks of an access to a mapped block, gate first, then clock enable (R237, R546). -/
def State.checkSlot (s : State) (who : Init) (write : Bool) (slot off size : Nat) : State × Acc :=
  match s.gateRefused (s.gateBankOf (s.checkStn who)) slot (s.levelOf who) (bit write) off size with
  | some o => (s.gateDeny who slot o (bit write), .denied)
  | none => if s.clkEn slot then (s, .ok) else (s.clockGated who slot off, .gated)

/-- The checks of a BAR0 access: a mapped address and an aligned access of 4 or 8 bytes that is a plain read or write, then the gate, then
the clock enable (R543 to R546). -/
def State.checkAcc (s : State) (who : Init) (write plain : Bool) (off size : Nat) : State × Acc :=
  match slotOf off with
  | none => (s.unmapped who off write 0, .unmapped)
  | some (slot, o) =>
    if (size = 4 ∨ size = 8) ∧ off % size = 0 ∧ plain then s.checkSlot who write slot o size
    else (s.unmapped who off write 1, .unmapped)

/-- The answer to an initiator that is not a host writing: completion codes 0x00 done, 0x01 unmapped, 0x80 denied, 0x81 clock off (R236,
R494, R518, R543). -/
def Acc.code : Acc → Nat
  | .ok => 0 | .unmapped => 1 | .denied => 0x80 | .gated => 0x81

/-- Answer a write access; a host's posted write has no answer. -/
def State.answerWrite (s : State) (who : Init) (a : Acc) : State :=
  match who with
  | .owner | .tenant _ => s
  | w => s.emit (.answer w a.code [])

/-- The address of a register in BAR0. -/
def Reg.slotOff (r : Reg) : Nat × Nat :=
  match regRows.findSome? (fun row =>
    (row.unfix r).map (fun ix => row.base + ((row.dims.zip ix).map (fun p => p.1.1 * p.2)).sum)) with
  | some a => (slotOf a).getD (255, 0)
  | none => (255, 0)

/-- A write that a command row makes to one register: the checks of R546, then its effect. -/
def State.writeReg (s : State) (who : Init) (r : Reg) (size : Nat) (f : State → State) : State :=
  let so := r.slotOff
  match s.checkSlot who true so.1 so.2 size with
  | (s', .ok) => (f s').answerWrite who .ok
  | (s', a) => s'.answerWrite who a

/-! ### Writing a word by the types of its fields (R6, R7) -/

/-- The new value of one field under a write: `locked` says that the block's LOCK bit is set. -/
def FTy.write (ty : FTy) (locked : Bool) (old new w : Nat) : Nat :=
  match ty with
  | .rw | .rws => new
  | .ro | .wo => old
  | .rw1c => old &&& ((2 ^ w - 1) ^^^ new)
  | .rw1s => old ||| new
  | .rwl => if locked then old else new

/-- The new word of a register under a write of `v`, on the bytes that the mask covers (R6, R7, R544). -/
def writeWord (fs : List FInfo) (locked : Bool) (old v mask : W64) : W64 :=
  fs.foldl (fun acc f =>
    let o := fget old f.lo f.w
    let m := fget mask f.lo f.w
    let one := match f.ty with
      | .rw1c | .rw1s => fget (v &&& mask) f.lo f.w
      | _ => (fget v f.lo f.w &&& m) ||| (o &&& ((2 ^ f.w - 1) ^^^ m))
    fset acc f.lo f.w (f.ty.write locked o one f.w)) old

/-- Write a register's word by the types of its fields (R6). -/
def State.writeTyped (s : State) (r : Reg) (locked : Bool) (v : W64) : State :=
  s.wr r (writeWord r.n.fields locked (s.rd r) v (BitVec.allOnes 64))

/-- What a read returns: WO fields read 0, reserved bits 0 (R6, R7). -/
def readWord (fs : List FInfo) (v : W64) : W64 :=
  fs.foldl (fun acc f => match f.ty with
    | .wo => acc
    | _ => fset acc f.lo f.w (fget v f.lo f.w)) 0

end Sys2Proof.Machine
end

