-- ==== Sys2Proof/Machine/Faults.lean ====
section
/-!
DEFINITION. The shared operations of fault handling: the journal (R490, R491), declarations of failed parts (R461), and the safe state
(R467, R468).
-/

namespace Sys2Proof.Machine

/-- Device number in journal entries: FAB_DEV.NUM, 0x3F if not numbered (R491). -/
def State.devNum (s : State) : Nat := s.get F.FAB_DEV_NUM []

/-- Time of application: fabric time, or the device timebase on a standalone device (R491). -/
def State.jTime (s : State) : Nat := if s.get F.FAB_DEV_ROLE [] = 0 then s.now else s.get F.FAB_TIME_TIME []

/-- Write a journal entry: it takes the next SEQ, and the store keeps the newest 32,768 (R490, R491). -/
def State.journalAdd (s : State) (kind orig cmdSeq origId : Nat) (body result : List Byte) : State :=
  let q := s.get F.MGR_JNL_SEQ_SEQ []
  let e : JEntry := { seq := q, time := s.jTime, kind := kind, orig := orig, origId := origId, dev := s.devNum, cmdSeq := cmdSeq,
                      body := body, result := result }
  let j := s.journal ++ [e]
  { s with journal := j.drop (j.length - 32768) }.set F.MGR_JNL_SEQ_SEQ [] (q + 1)

/-- A change that the device makes without a command: KIND 3 with the rule's number and the parameters (R490, R491). -/
def State.journalChange (s : State) (rule : Nat) (params : List Byte) : State :=
  s.journalAdd 3 4 0 0 (padTo 64 (leBytes 2 rule ++ params)) []

/-- Declare a part failed (R461 step 1): a journal entry, and the declaration waits in the queue, which GSV_DEG.QUEUED counts. A part that
is already out of service is declared without effect (R451). -/
def State.declare (s : State) (ty ix : Nat) : State :=
  if (ty, ix) ∈ s.flt.failed then s
  else
    let s1 := s.journalAdd 1 4 0 0 (padTo 64 [BitVec.ofNat 8 ty, 0, BitVec.ofNat 8 ix, BitVec.ofNat 8 (ix / 256)]) []
    ({ s1 with flt := { s1.flt with queue := s1.flt.queue ++ [(ty, ix)], failed := s1.flt.failed ++ [(ty, ix)] } }).bump F.GSV_DEG_QUEUED []

/-- Is a part declared failed? -/
def State.isFailed (s : State) (ty ix : Nat) : Bool := decide ((ty, ix) ∈ s.flt.failed)

/-- Is the security station out of service: SPDM, PROG_LOAD and link IDE keying have ended (R462, type 12)? -/
def State.secDown (s : State) : Bool := s.isFailed 12 (routerOfStn stnSec)

/-- Does sampling run: enabled, not stopped by an error, and the telemetry station in service (R462, R540)? -/
def State.smpOn (s : State) : Bool :=
  s.on F.PMG_SMP_CFG_EN [] && !s.on F.PMG_SMP_CFG_ERROR [] && !s.isFailed 12 (routerOfStn stnTel)

/-- The interval of skid samples in ns: 1 to 1,000 µs (R538, PMG_SMP_CFG). -/
def State.skidNs (s : State) : Nat := 1000 * min 1000 (max 1 (s.get F.PMG_SMP_CFG_PERIOD []))

/-- Enter the safe state with a cause (R467). In the safe state a further cause within the 10 µs of entry sets MORE and nothing else. -/
def State.sealDev (s : State) (cause detail : Nat) : State :=
  if s.sealed then
    if s.now < s.flt.sealAt + 10000 then s.setB F.GSV_SEAL_MORE [] true else s
  else
    let w := packW [(0, 4, cause), (8, 16, detail), (24, 40, s.now / 1000)]
    let s1 := ((s.wr ⟨.GSV_SEAL, []⟩ w).setB F.GSV_STAT_SAFE [] true)
    let s2 := s1.journalAdd 2 5 0 0 (padTo 64 (leBytes 8 w.toNat)) []
    { s2 with flt := { s2.flt with sealAt := s.now } }

/-- Power domain of a station: tiles 0–35, clusters 36–51, staging groups 52–55; none for the always-on core (R12, R519). -/
def domainOfStn (x : Nat) : Option Nat :=
  if x < 52 then some x else if x < 68 then some (52 + (x - 52) / 4) else none

/-- Is a station's power domain On (or the station in the always-on core)? -/
def State.powered (s : State) (x : Nat) : Bool :=
  match domainOfStn x with
  | some d => s.get F.CPW_PD_STATE [d] == 1
  | none => true

/-- The overflow event of a block's leaky counters, where its triples have one (R531, R535). -/
def leakOvf (blk n : Nat) : Option (Trip × Nat) :=
  match blk with
  | 0 => some (.tile n 3, 1)
  | 1 => some (.router n, 8)
  | _ => none

/-- Raise LASTING in the blocks whose triples have it (R535). -/
def State.lastingEvent (s : State) (blk n : Nat) : State :=
  match blk with
  | 0 => s.event (.tile n 3) 0
  | 3 => s.event (.ssl n) 2
  | _ => s

/-- Advance a leaky counter by one event (R456). Blocks: 0 PT, 1 RTR, 2 MCL, 3 SSL, 4 LSL. Answers whether the fault becomes lasting. -/
def State.leakyEvent (s : State) (blk n u : Nat) : State × Bool :=
  let ix := [blk, n, u]
  let th := s.get F.LK_CFG_THRESHOLD ix
  let s1 := s.count ⟨.LK_TOTAL, ix⟩ 1 (leakOvf blk n)
  let c := s1.get F.LK_STAT_COUNT ix
  let c' := if c < th then c + 1 else c
  let s2 := s1.set F.LK_STAT_COUNT ix c'
  if th ≠ 0 ∧ c' = th ∧ s2.on F.LK_STAT_LASTING ix = false then ((s2.setB F.LK_STAT_LASTING ix true).lastingEvent blk n, true) else (s2, false)

/-- The leak interval in ns: max(1, ⌊WINDOW × 1,000 / THRESHOLD⌋) µs; WINDOW 0 acts as 1 (R456, LK_CFG). With THRESHOLD 0 the interval is
the whole window (assumption 21). -/
def State.leakNs (s : State) (blk n u : Nat) : Nat :=
  let w := max 1 (s.get F.LK_CFG_WINDOW [blk, n, u])
  let th := s.get F.LK_CFG_THRESHOLD [blk, n, u]
  1000 * max 1 (if th = 0 then w * 1000 else w * 1000 / th)

end Sys2Proof.Machine
end

