-- ==== Sys2Proof/Machine/Mesh.lean ====
section
/-!
DEFINITION. The Goette mesh (chapter 06): packets and channels (R178 to R186), injection with QOS and ESC (R199, R207), output arbitration
(R196 to R200), the hop (R188, R190), failed links (R202, R203) and the escape banks (R206 to R209).
-/

namespace Sys2Proof.Machine

/-- Plane B carries completions and internal messages (R183). -/
def Pkt.planeB (p : Pkt) : Bool := decide (2 ≤ p.kind)

/-- The virtual channel of a packet (R184). -/
def Pkt.vc (p : Pkt) : Nat :=
  if p.planeB then (if p.esc then 4 else if p.kind = 3 then 0 else p.sc)
  else if p.esc then 8 + p.kind else 2 * p.sc + p.kind

/-- Flits of a packet of `l` bytes: 1 + ⌈(l − 64) / 128⌉ (R178). -/
def flitsOf (l : Nat) : Nat := if l ≤ 64 then 1 else 1 + (l - 64 + 127) / 128

/-- The flits of a packet, head first, the last with TAIL (R178). -/
def flitList (pid n : Nat) : List Flit := (List.range n).map (fun i => ⟨pid, i, i + 1 == n⟩)

/-- Link states: 0 absent, 1 up, 2 failed (RTR_LINK). -/
def State.linkState (s : State) (r d : Nat) : Nat :=
  match d with
  | 0 => s.get F.RTR_LINK_NORTH [r]
  | 1 => s.get F.RTR_LINK_EAST [r]
  | 2 => s.get F.RTR_LINK_SOUTH [r]
  | _ => s.get F.RTR_LINK_WEST [r]

/-- Write a link state. -/
def State.setLinkState (s : State) (r d v : Nat) : State :=
  match d with
  | 0 => s.set F.RTR_LINK_NORTH [r] v
  | 1 => s.set F.RTR_LINK_EAST [r] v
  | 2 => s.set F.RTR_LINK_SOUTH [r] v
  | _ => s.set F.RTR_LINK_WEST [r] v

/-- Is a router in service? -/
def State.rtrOk (s : State) (r : Nat) : Bool := !s.on F.RTR_CTL_FAILED [r] && !s.on F.RTR_CTL_ISOLATE [r]

/-- The active escape next hop at a router; 5 for none (R194, RTR_ESC_TBL). -/
def State.escNext (s : State) (r d : Nat) : Nat :=
  let n := s.get F.RTR_ESC_TBL_NEXT [r, s.get F.RTR_ESC_CTL_ACTIVE [r], d]
  if n ≤ 4 then n else 5

/-- Does a router's active RTR_ESCV send packets for `d` to the escape channels (R207)? -/
def State.escVec (s : State) (r d : Nat) : Bool :=
  (s.get F.RTR_ESCV_DEST [r, s.get F.RTR_ESC_CTL_ACTIVE [r], d / 64]).testBit (d % 64)

/-- The output of a packet at a router (R193, R194). -/
def State.routeAt (s : State) (r : Nat) (p : Pkt) : Nat := if p.esc then s.escNext r p.dest else dorOut r p.dest

/-- A FIFO's flits. -/
def State.fifo (s : State) (k : VcId) : List Flit := s.mesh.fifos.lookD k []

/-- Credits that the sender holds for a channel, 8 when the link comes up (R186). A channel is named by its receiving FIFO. -/
def State.cred (s : State) (k : VcId) : Nat := s.mesh.cred.lookD k 8

/-- Replace the mesh. -/
def State.meshUp (s : State) (f : Mesh → Mesh) : State := { s with mesh := f s.mesh }

/-- Move flits from the injection queue of a local channel into its FIFO while there is room; FREEZE holds new escape packets back at
their sources (R208): a packet whose head has entered goes on. -/
def State.fillLocal (s : State) : Nat → VcId → State
  | 0, _ => s
  | n + 1, k =>
    match s.mesh.injq.lookD k [] with
    | [] => s
    | f :: fs =>
      let frozen := ((k.b && k.vc == 4) || (!k.b && decide (8 ≤ k.vc))) && f.idx == 0 && s.on F.RTR_ESC_CTL_FREEZE [k.r]
      if (s.fifo k).length < 8 && !frozen then
        (s.meshUp (fun m => { m with injq := m.injq.put k fs, fifos := m.fifos.put k (m.fifos.lookD k [] ++ [f]) })).fillLocal n k
      else s

/-- Inject a packet at a router: the router writes QOS by class and ESC by the active RTR_ESCV (R199, R207). A packet whose escape next hop
is NONE is not injected and raises ESC_UNREACH; the answer says whether it was injected. -/
def State.injectAt (s : State) (r : Nat) (p : Pkt) : State × Bool :=
  let qos := match p.sc with
    | 0 => 0
    | 1 => s.get F.RTR_QOS_QOS_SC1 [r]
    | 2 => s.get F.RTR_QOS_QOS_SC2 [r]
    | _ => s.get F.RTR_QOS_QOS_SC3 [r]
  let esc := s.escVec r p.dest
  if esc ∧ s.escNext r p.dest = 5 then (s.event (.router r) 7, false)
  else
    let q : Pkt := { p with src := r, qos := qos, esc := esc }
    let pid := s.mesh.nextPid
    let k : VcId := ⟨r, 4, q.planeB, q.vc⟩
    let s1 := s.meshUp (fun m => { m with
      pkts := m.pkts.put pid q, nextPid := pid + 1,
      injq := m.injq.put k (m.injq.lookD k [] ++ flitList pid q.flits) })
    ((s1.fillLocal 8 k).when q.esc (fun s => s.setB F.RTR_ESC_CTL_ESC_EMPTY [r] false), true)

/-- The tile of an even pair that holds an x16 cut with a matching odd tile (R39). -/
def State.isX16 (s : State) (t : Nat) : Bool :=
  s.get F.PT_CUT_CUT [t / 2 * 2] == 6 && s.get F.PT_CUT_CUT [t / 2 * 2 + 1] == 7

/-- The router by which a station injects toward an egress port: an x16 pair uses the router that the hash of the egress port chooses, and
the surviving one if one has failed (R16, R17). -/
def State.exitRouter (s : State) (x egress : Nat) : Nat :=
  if x < 36 ∧ s.isX16 x then
    let e := routerOfTile (x / 2 * 2)
    let o := routerOfTile (x / 2 * 2 + 1)
    if !s.rtrOk e then o else if !s.rtrOk o then e else if Config.pairHash egress then o else e
  else routerOfStn x

/-- The router at which a station receives: an x16 pair's even tile, or the odd one if the even router has failed (R17, R156). -/
def State.entryRouter (s : State) (x : Nat) : Nat :=
  if x < 36 ∧ s.isX16 x ∧ !s.rtrOk (routerOfTile (x / 2 * 2)) then routerOfTile (x / 2 * 2 + 1) else routerOfStn x

/-- Send an internal message from one station to another on plane B in SC0 (R183). A message to the own station is delivered at once. -/
def State.sendMsg (s : State) (fromStn toStn : Nat) (m : IMsg) : State :=
  if fromStn = toStn then s.meshUp (fun x => { x with inbox := x.inbox.upd toStn [] (· ++ [m]) })
  else
    let src := if fromStn < 36 then 4 * fromStn else srcOfStn fromStn
    (s.injectAt (s.exitRouter fromStn 0xFF)
      { dest := s.entryRouter toStn, src := 0, srcId := src, egress := 0xFF, sc := 0, kind := 3, bytes := 32, body := .msg m }).1

/-! ### Output arbitration and the hop -/

/-- Input channels of a plane: 10 on plane A, 5 on plane B, for each of five ports (R184). -/
def inputVcs (b : Bool) : List (Nat × Nat) := (List.range 5).flatMap (fun i => (List.range (if b then 5 else 10)).map (fun v => (i, v)))

/-- The channel that an output feeds, named by the receiving FIFO; none at the local output. -/
def outChan (r out : Nat) (b : Bool) (vc : Nat) : Option VcId := (neighbour r out).map (fun n => ⟨n, oppDir out, b, vc⟩)

/-- The packet at the head of an input channel, with its head flit, if it wants the output. -/
def State.wants (s : State) (r : Nat) (b : Bool) (out : Nat) (iv : Nat × Nat) : Option (Flit × Pkt) :=
  match s.fifo ⟨r, iv.1, b, iv.2⟩ with
  | [] => none
  | f :: _ =>
    match s.mesh.pkts.look f.pid with
    | some p => if s.routeAt r p = out then some (f, p) else none
    | none => none

/-- May a flit take the output channel: a credit is held, and the channel is free for a head flit or held by its packet (R185, R186)? -/
def State.chanFree (s : State) (r : Nat) (b : Bool) (out vc : Nat) (f : Flit) : Bool :=
  match outChan r out b vc with
  | none => true
  | some k => decide (0 < s.cred k) &&
      (match s.mesh.hold.look k with
        | none => true
        | some pid => pid == f.pid)

/-- A requester of an output (R196): its input channel, flit and packet. `room` says whether the station takes the packet's class at the
local output (R167). -/
def State.requesters (s : State) (room : Pkt → Bool) (r : Nat) (b : Bool) (out : Nat) : List ((Nat × Nat) × Flit × Pkt) :=
  if out < 4 ∧ s.linkState r out ≠ 1 then []
  else (inputVcs b).filterMap (fun iv =>
    match s.wants r b out iv with
    | some (f, p) => if s.chanFree r b out iv.2 f && (out != 4 || f.idx != 0 || room p) then some (iv, f, p) else none
    | none => none)

/-- A requester's arbitration value (R196). -/
def State.arbValue (s : State) (r : Nat) (p : Pkt) : Nat :=
  if p.esc then s.get F.RTR_ARB_PRIO_ESC [r] else if p.sc = 0 then s.get F.RTR_ARB_PRIO_SC0 [r] else p.qos

/-- Place of an input channel in round-robin order. -/
def ivIndex (iv : Nat × Nat) : Nat := iv.1 * 10 + iv.2

/-- Distance after the previous winner in round-robin order. -/
def rrDist (last : Nat) (iv : Nat × Nat) : Nat := (ivIndex iv + 50 - last - 1) % 50

/-- The better of two requesters: the higher value, then the first in round-robin order after the previous winner (R196). -/
def State.better (s : State) (r last : Nat) (x y : (Nat × Nat) × Flit × Pkt) : Bool :=
  let vx := s.arbValue r x.2.2
  let vy := s.arbValue r y.2.2
  decide (vy < vx) || (vx == vy && decide (rrDist last x.1 ≤ rrDist last y.1))

/-- The winner of an arbitration (R196). -/
def State.pickWinner (s : State) (r last : Nat) : List ((Nat × Nat) × Flit × Pkt) → Option ((Nat × Nat) × Flit × Pkt)
  | [] => none
  | x :: xs =>
    match s.pickWinner r last xs with
    | none => some x
    | some y => if s.better r last x y then some x else some y

/-- The requester that an output serves now: its holder until its break point; then the head of the pending queue; then the winner
(R196, R198, R200). A holder that cannot send keeps the output. -/
def State.served (s : State) (r : Nat) (a : OutArb) (rq : List ((Nat × Nat) × Flit × Pkt)) : Option ((Nat × Nat) × Flit × Pkt) :=
  match a.holder with
  | some h => rq.find? (fun x => x.1 == h)
  | none =>
    match a.pend.findSome? (fun h => rq.find? (fun x => x.1 == h)) with
    | some x => some x
    | none => s.pickWinner r a.last rq

/-- Flits of a grant (RTR_ARB.BREAK): 0 means the whole packet, above 33 acts as 33 (R198). -/
def State.breakLen (s : State) (r : Nat) : Nat :=
  let b := s.get F.RTR_ARB_BREAK [r]
  if b = 0 ∨ 33 < b then 33 else b

/-- STARVE; values below 16 act as 16 (R200). -/
def State.starve (s : State) (r : Nat) : Nat := max 16 (s.get F.RTR_ARB_STARVE [r])

/-- Remove every flit and the packet from the mesh; each flit that leaves a FIFO owes its credit (R186). -/
def State.dropPkt (s : State) (pid : Nat) : State :=
  s.meshUp (fun m => { m with
    owed := m.fifos.foldl (fun o e =>
      let n := (e.2.filter (fun f => f.pid == pid)).length
      if n = 0 ∨ e.1.p = 4 then o else AMap.upd o e.1 0 (· + n)) m.owed,
    pkts := m.pkts.del pid, fifos := m.fifos.map (fun e => (e.1, e.2.filter (fun f => f.pid != pid))),
    injq := m.injq.map (fun e => (e.1, e.2.filter (fun f => f.pid != pid))), hold := m.hold.filter (fun e => e.2 != pid) })

/-- Change a packet in the packet table. -/
def State.updPkt (s : State) (pid : Nat) (f : Pkt → Pkt) : State :=
  s.meshUp (fun m => match m.pkts.look pid with
    | some p => { m with pkts := m.pkts.put pid (f p) }
    | none => m)

/-- One direction of a failed link (R203): packets that wait for it and have not started are discarded; of packets that have started the
rest is discarded, and the part already sent is completed with STOMP 0b10 in the next router. -/
def State.cutHalf (s : State) (r d : Nat) : State :=
  match neighbour r d with
  | none => s
  | some n =>
    let started := (s.mesh.hold.filter (fun e => e.1.r == n && e.1.p == oppDir d)).map (fun e => (e.1, e.2))
    let waiting := (s.mesh.fifos.filter (fun e => e.1.r == r)).flatMap (fun e => e.2.filterMap (fun f =>
      match s.mesh.pkts.look f.pid with
      | some p => if s.routeAt r p = d ∧ ¬ (started.any (fun x => x.2 == f.pid)) then some f.pid else none
      | none => none))
    let s1 := waiting.eraseDups.foldl (fun s pid => s.dropPkt pid) s
    let s2 := s1.rtrCount r 12 waiting.eraseDups.length
    started.foldl (fun s x =>
      let s3 := s.updPkt x.2 (fun p => { p with stomp := 2 })
      s3.meshUp (fun m => { m with
        fifos := AMap.upd (m.fifos.map (fun e => (e.1, if e.1.r == r then e.2.filter (fun f => f.pid != x.2) else e.2))) x.1 []
          (fun l => l ++ [⟨x.2, 33, true⟩]),
        injq := m.injq.map (fun e => (e.1, if e.1.r == r then e.2.filter (fun f => f.pid != x.2) else e.2)),
        hold := m.hold.del x.1 })) s2

/-- A router declares a link failed: the link fails as a whole, the router sets LINK_FAIL and REROUTE, and the declaration is journaled
and queued as type 1 (R202, R203, R461). A link that is not up is left as it is. -/
def State.failLink (s : State) (r d : Nat) : State :=
  match neighbour r d with
  | none => s
  | some n =>
    if s.linkState r d ≠ 1 then s
    else
      let s1 := ((s.setLinkState r d 2).setLinkState n (oppDir d) 2)
      let s2 := ((s1.cutHalf r d).cutHalf n (oppDir d)).event (.router r) 0
      let s3 := (s2.setB F.RTR_ESC_CTL_REROUTE [r] true).meshUp (fun m => { m with
        failAt := (m.failAt.upd r [] (s.now :: ·)).upd n [] (s.now :: ·) })
      s3.declare 1 (4 * r + d)

/-- A flit error on an input link of a router is counted in its leaky counter; at THRESHOLD the link is declared failed (R182, R202, R459). -/
def State.linkLeak (s : State) (r d : Nat) : State :=
  match s.leakyEvent 1 r d with
  | (s1, true) => s1.failLink r d
  | (s1, false) => s1

/-- The effect of a hop on the winner's flit (R188): the flit leaves its FIFO, the credit of its input channel is owed, and the flit enters
the next FIFO or the station. -/
def State.moveFlit (s : State) (r : Nat) (b : Bool) (out : Nat) (iv : Nat × Nat) (f : Flit) (p : Pkt) : State :=
  let kin : VcId := ⟨r, iv.1, b, iv.2⟩
  let s1 := s.meshUp (fun m => { m with fifos := m.fifos.put kin ((m.fifos.lookD kin []).drop 1) })
  let s2 := if iv.1 < 4 then s1.meshUp (fun m => { m with owed := m.owed.upd kin 0 (· + 1) }) else s1.fillLocal 8 kin
  let s3 := match outChan r out b iv.2 with
    | some k => s2.meshUp (fun m => { m with
        fifos := m.fifos.upd k [] (· ++ [f]), cred := m.cred.upd k 8 (· - 1),
        hold := if f.tail then m.hold.del k else m.hold.put k f.pid })
    | none => if f.tail then s2.meshUp (fun m => { m with landed := m.landed ++ [(r, f.pid)] }) else s2
  let s4 := s3.rtrCount r ((if b then 5 else 0) + out)
  let s5 := s4.when p.esc (·.rtrCount r 10)
  match outChan r out b iv.2 with
  | some k => s5.when p.esc (·.setB F.RTR_ESC_CTL_ESC_EMPTY [k.r] false)
  | none => s5

/-- The output's arbitration state after a flit of the winner (R197, R198). -/
def OutArb.after (a : OutArb) (brk : Nat) (iv : Nat × Nat) (tail alone : Bool) : OutArb :=
  let left := (if a.holder.isSome then a.left else brk) - 1
  let pend := a.pend.filter (· != iv)
  if tail then { holder := none, left := 0, parked := if alone then some iv else none, last := ivIndex iv, pend := pend }
  else if left = 0 then { holder := none, left := 0, parked := none, last := ivIndex iv, pend := pend }
  else { holder := some iv, left := left, parked := none, last := ivIndex iv, pend := pend }

/-- The wait counters of an output after a grant: the winner's clears, the losers' advance (R200). -/
def State.waitsAfter (s : State) (r : Nat) (b : Bool) (out : Nat) (win : Nat × Nat) (rq : List ((Nat × Nat) × Flit × Pkt)) : State :=
  s.meshUp (fun m => { m with waits := rq.foldl (fun w x =>
    if x.1 == win then w.put (r, out, b, x.1.1, x.1.2) 0 else w.upd (r, out, b, x.1.1, x.1.2) 0 (· + 1)) m.waits })

/-- Discard a packet whose header cannot be read at a router: HDR_UE, and its input link is declared failed (R180). -/
def State.headerUe (s : State) (r inp : Nat) (f : Flit) : State :=
  let s1 := ((s.dropPkt f.pid).rtrCount r 12).event (.router r) 1
  if inp < 4 then s1.failLink r inp else s1

/-- FLIT_HOP: one flit of an output's served requester moves on; the router meanwhile finds what `err` says in it (R180, R182). -/
def State.hop (s : State) (room : Pkt → Bool) (r : Nat) (b : Bool) (out : Nat) (err : FlitErr) : State :=
  let rq := s.requesters room r b out
  let a := s.mesh.outs.lookD (r, out, b) {}
  let blocked := (inputVcs b).any (fun iv => match s.wants r b out iv with
    | some (f, _) => out != 4 && !s.chanFree r b out iv.2 f
    | none => false)
  let s0 := s.when blocked (·.rtrCount r (if b then 15 else 14))
  match s.served r a rq with
  | none => s0
  | some (iv, f, p) =>
    if err = .headUe ∧ f.idx = 0 then s0.headerUe r iv.1 f
    else
      let s1 := match err with
        | .none => s0
        | .corrected => (s0.rtrCount r 11).event (.router r) 3
        | _ => ((s0.updPkt f.pid (fun p => { p with stomp := 2 })).rtrCount r 12).event (.router r) 2
      let s2 := (s1.moveFlit r b out iv f p).waitsAfter r b out iv rq
      let s3 := s2.meshUp (fun m => { m with outs := m.outs.put (r, out, b) (a.after (s.breakLen r) iv f.tail (rq.length == 1)) })
      s3.when (decide (err ≠ .none) && decide (iv.1 < 4)) (·.linkLeak r iv.1)

/-! ### Escape -/

/-- Escape flits in a router: in its FIFOs or waiting to enter them behind their head (R208). -/
def State.escFlits (s : State) (r : Nat) : Bool :=
  (s.mesh.fifos.any (fun e => e.1.r == r && ((e.1.b && e.1.vc == 4) || (!e.1.b && decide (8 ≤ e.1.vc))) && !e.2.isEmpty)) ||
  (s.mesh.injq.any (fun e => e.1.r == r && ((e.1.b && e.1.vc == 4) || (!e.1.b && decide (8 ≤ e.1.vc))) &&
    (match e.2 with | f :: _ => f.idx != 0 | [] => false)))

/-- Is the dimension-order path from `a` to `d` free of failed routers and links (R207)? -/
def State.dorOk (s : State) : List Nat → Bool
  | [] => true
  | [n] => s.rtrOk n
  | n :: m :: rest => s.rtrOk n && (s.linkState n (dorOut n m) == 1) && s.dorOk (m :: rest)

end Sys2Proof.Machine
end

