-- ==== Sys2Proof/Machine/Lookup.lean ====
section
/-!
DEFINITION. What a lookup reads (R143, R214, R215): the forwarding table of a tile's epoch, bindings, members, address maps, peer windows
(R221 to R224), ACS (R218) and the decision for a request. Nothing here changes the state.
-/

namespace Sys2Proof.Machine

/-! ### Cuts (R38, R39) -/

/-- The cut that a tile behaves as: 0 where the pair does not match (R39). -/
def State.cutOf (s : State) (t : Nat) : Nat :=
  let c := s.get F.PT_CUT_CUT [t]
  if c = 6 ∨ c = 7 ∨ s.get F.PT_CUT_CUT [t / 2 * 2] = 6 ∨ s.get F.PT_CUT_CUT [t / 2 * 2 + 1] = 7 then
    if s.isX16 t then c else 0
  else c

/-- The cut width of the port in a slot under a cut; 0 where no port exists (R38). -/
def slotWidth (cut slot : Nat) : Nat :=
  match cut, slot with
  | 1, _ => 2
  | 2, 0 => 4 | 2, 2 => 2 | 2, 3 => 2
  | 3, 0 => 2 | 3, 1 => 2 | 3, 2 => 4
  | 4, 0 => 4 | 4, 2 => 4
  | 5, 0 => 8
  | 6, 0 => 16
  | _, _ => 0

/-- The cut width of a port; 0 if the port does not exist. -/
def State.portWidth (s : State) (p : Nat) : Nat := slotWidth (s.cutOf (p / 4)) (p % 4)

/-! ### Trunk ports (R271 to R273) -/

/-- The members of trunk `j`: the ports of its pair that have the KFP role, as indices. -/
def State.kfpPorts (s : State) (j : Nat) : List Nat :=
  below 8 (fun i => decide (s.portWidth (8 * j + i) ≠ 0) && s.role (8 * j + i) == 2)

/-- Is a port number the port of a trunk (R273)? Port 8j names the trunk where its pair has a KFP port, unless port 8j itself is an enabled
PCIe port (assumption 15). -/
def State.isTrunk (s : State) (p : Nat) : Bool :=
  p % 8 == 0 && decide (p < 144) && (s.role p == 2 || !(s.pon F.PP_CTL_ENABLE p && decide (s.portWidth p ≠ 0))) && !(s.kfpPorts (p / 8)).isEmpty

/-- Lanes of a trunk: the sum over its members. -/
def State.trunkLanes (s : State) (j : Nat) : Nat := ((s.kfpPorts j).map (fun i => s.portWidth (8 * j + i))).sum

/-- The lanes that an egress port's regions scale with. -/
def State.egressLanes (s : State) (p : Nat) : Nat := if s.isTrunk p then s.trunkLanes (p / 8) else s.portWidth p

/-- A trunk's running state. -/
def State.tk (s : State) (j : Nat) : TrunkSt := s.trunk.lookD j {}

/-- Change a trunk's running state. -/
def State.tkUp (s : State) (j : Nat) (f : TrunkSt → TrunkSt) : State := { s with trunk := s.trunk.put j (f (s.tk j)) }

/-- Is a trunk up? -/
def State.tkOn (s : State) (j : Nat) : Bool := s.on F.FAB_TRK_STAT_UP [j]

/-! ### Forwarding tables (R146, R147) -/

/-- The present tables: what the next swap installs. -/
def State.snap (s : State) : FwdTable :=
  { regs := s.regs.filter (fun e => e.1.n == .VST_STAT || e.1.n == .VST_TCMAP || e.1.n == .VST_SLOT || e.1.n == .VST_FB_A || e.1.n == .VST_FB_B),
    cfg := s.cfg, own := s.fwd.own, act := s.fwd.act, bars := s.fwd.bars,
    rbound := s.fwd.rbound }

/-- The configuration fields that change routing: bus numbers, windows, enables and BARs, which change by bank swap (R147). -/
def routing : CfgF → Bool
  | .busPri | .busSec | .busSub | .memBase | .memLimit | .prefBase | .prefLimit | .ioBase | .ioLimit | .bme | .mse | .bar _
  | .vfEnable | .numVfs | .vfMse => true
  | _ => false

/-- The forwarding epoch of a tile's active bank. -/
def State.epochOf (s : State) (t : Nat) : Nat := s.get F.PT_FWD_EPOCH_EPOCH [t]

/-- The table that a tile looks up in: that of its epoch (R146, R148), with the present values of the fields that change no routing. -/
def State.tableOf (s : State) (t : Nat) : FwdTable :=
  let T : FwdTable := s.fwd.tabs.lookD (s.epochOf t) {}
  { T with cfg := T.cfg.filter (fun e => routing e.1.2) ++ s.cfg.filter (fun e => !routing e.1.2) }

/-- A field of a forwarding table. -/
def FwdTable.get (T : FwdTable) (f : Fld) (ix : List Nat) : Nat := rmGet T.regs f ix
/-- A configuration field of a forwarding table. -/
def FwdTable.cf (T : FwdTable) (fn : FnId) (f : CfgF) : Nat := cfGet T.cfg fn f

/-- The Active virtual switch whose upstream port is `p`. -/
def FwdTable.vsOf (T : FwdTable) (p : Nat) : Option Nat :=
  T.act.find? (fun v => T.get F.VST_STAT_STATE [v] == 1 && T.get F.VST_STAT_UP_PORT [v] == p)

/-- The allocated slots of a virtual switch. -/
def FwdTable.slots (T : FwdTable) (v : Nat) : List Nat := T.own.filterMap (fun e => if e.2.1 = v then some e.2.2 else none)

/-- The vDSP (index, virtual switch, slot) with a binding of a kind and target. -/
def FwdTable.boundTo (T : FwdTable) (kind target : Nat) : Option (Nat × Nat × Nat) :=
  T.own.find? (fun e => T.get F.VST_SLOT_KIND [e.2.1, e.2.2] == kind && T.get F.VST_SLOT_TARGET [e.2.1, e.2.2] == target)

/-- The valid function binding entries that the table lists. -/
def FwdTable.fbs (T : FwdTable) : List Nat :=
  T.regs.filterMap (fun e => match e.1.n, e.1.ix with
    | .VST_FB_A, [k] => if fget e.2 0 1 = 1 then some k else none
    | _, _ => none)

/-- The entry of a member that sends from a shared port with a real requester ID (R126). -/
def FwdTable.fbByRid (T : FwdTable) (p rid : Nat) : Option Nat :=
  T.fbs.find? (fun k => T.get F.VST_FB_A_SHARED_PORT [k] == p && T.get F.VST_FB_A_REAL_RID [k] == rid)

/-- The entry of presented function `f` of a vDSP. -/
def FwdTable.fbOf (T : FwdTable) (vdsp f : Nat) : Option Nat :=
  T.fbs.find? (fun k => T.get F.VST_FB_A_VDSP [k] == vdsp && T.get F.VST_FB_A_PFUNC [k] == f)

/-- The presented requester ID of a member: secondary bus of the vDSP, device 0, function F (R125). -/
def FwdTable.presentedRid (T : FwdTable) (v sl f : Nat) : Nat := T.get F.VST_SLOT_SEC_BUS [v, sl] * 256 + f

/-- The index of a slot's vDSP. -/
def FwdTable.vdspOf (T : FwdTable) (v sl : Nat) : Nat := T.get F.VST_SLOT_VDSP [v, sl]

/-- The virtual switch and slot of a vDSP index. -/
def State.slotOfVdsp (s : State) (x : Nat) : Option (Nat × Nat) := s.fwd.own.look x

/-- Is the vDSP contained (R262)? -/
def State.contained (s : State) (v sl : Nat) : Bool := s.on F.VST_CONT_CONTAINED [v, sl]

/-- A vDSP of an empty binding, or none. -/
def noVdsp : Nat := 0x3FF

/-! ### Service classes (R137, R143) -/

/-- The class of a TLP by the map of a virtual switch: configuration requests and messages in SC0, the rest by TC (R137). -/
def FwdTable.classOf (T : FwdTable) (v : Nat) (t : Tlp) : Nat :=
  match t.kind with
  | .cfgrd | .cfgwr | .msg => 0
  | _ => (T.get F.VST_TCMAP_MAP [v] >>> (2 * t.tc)) % 4

/-! ### Peer windows (R221 to R224) -/

/-- Does the request write, read, or both? -/
def TlpKindAdmit (k : TlpKind) (rd wr : Bool) : Bool :=
  match k with
  | .mrd => rd
  | .mwr | .dmwr => wr
  | .atomic => rd && wr
  | _ => false

/-- The last byte of a memory request. -/
def tlpLast (t : Tlp) : Nat := t.addr + (max 1 t.len) - 1

/-- The outcome of the window check: admitted to an egress port (with the GPID of a remote window, else 0), refused with a PT_WIN_LOG cause
and the window's egress, or no window. -/
inductive WinRes where
  | pass (egress dst : Nat)
  | refuse (cause egress : Nat)
  | miss
  deriving DecidableEq, Repr

/-- A window as the check reads it: egress port (0xFF for a remote window), GPID of a remote window, first and last byte, RD and WR. -/
structure Win where
  egress : Nat
  dst : Nat
  lo : Nat
  hi : Nat
  rd : Bool
  wr : Bool
  deriving DecidableEq, Repr

/-- The enabled windows of a bank that grant a virtual switch: the local ones (R222), then the remote ones (R333). -/
def State.winGrants (s : State) (b v : Nat) : List Win :=
  s.regs.filterMap (fun (e : Reg × W64) => match e.1.n, e.1.ix with
    | .PT_WIN_E, [t, b', sl, w] =>
      if b' = b ∧ fget e.2 0 1 = 1 ∧ (s.get F.PT_WIN_E_SRC_MASK [t, b, sl, w]).testBit v then
        some { egress := 4 * t + sl, dst := 0, lo := s.get F.PT_WIN_BASE_BASE [t, b, sl, w], hi := s.get F.PT_WIN_LIMIT_LIMIT [t, b, sl, w],
               rd := s.on F.PT_WIN_E_RD [t, b, sl, w], wr := s.on F.PT_WIN_E_WR [t, b, sl, w] }
      else none
    | .FAB_RWIN_E, [b', w] =>
      if b' = b ∧ fget e.2 0 1 = 1 ∧ (s.get F.FAB_RWIN_E_SRC_MASK [b, w]).testBit v then
        some { egress := 0xFF, dst := s.get F.FAB_RWIN_DST_DST_GPID [b, w], lo := s.get F.FAB_RWIN_BASE_BASE [b, w],
               hi := s.get F.FAB_RWIN_LIMIT_LIMIT [b, w], rd := s.on F.FAB_RWIN_E_RD [b, w], wr := s.on F.FAB_RWIN_E_WR [b, w] }
      else none
    | _, _ => none)

/-- Does a window hold a byte? -/
def Win.holds (w : Win) (a : Nat) : Bool := decide (w.lo ≤ a) && decide (a ≤ w.hi)

/-- Does a window share a byte with a request? -/
def Win.touches (w : Win) (q : Tlp) : Bool := decide (w.lo ≤ tlpLast q) && decide (q.addr ≤ w.hi)

/-- The window check of a request of virtual switch `v` at a tile: it must lie wholly in one granting window that admits its kind; it is
refused if only some of its bytes do (R223, R224). `remote` gives the trunk port toward a GPID. -/
def State.winCheck (s : State) (t : Nat) (v : Nat) (q : Tlp) (remote : Nat → Option Nat) : WinRes :=
  let g := s.winGrants (s.get F.PT_WIN_BANK_ACTIVE [t]) v
  match g.find? (fun w => w.holds q.addr && w.holds (tlpLast q)) with
  | some w =>
    if TlpKindAdmit q.kind w.rd w.wr then
      if w.egress ≠ 0xFF then .pass w.egress 0
      else match remote w.dst with
        | some p => .pass p w.dst
        | none => .refuse 0 0xFF
    else .refuse 2 w.egress
  | none =>
    match g.find? (fun w => w.touches q) with
    | some w => .refuse 1 w.egress
    | none => .miss

/-! ### Address and bus ranges of a vDSP (R130, R143) -/

/-- Does an address lie in the memory windows of a function's Type 1 header? -/
def FwdTable.inMem (T : FwdTable) (fn : FnId) (a : Nat) : Bool :=
  (decide (T.cf fn .memBase ≤ a) && decide (a ≤ T.cf fn .memLimit)) || (decide (T.cf fn .prefBase ≤ a) && decide (a ≤ T.cf fn .prefLimit))

/-- Does an address lie in the I/O window? -/
def FwdTable.inIo (T : FwdTable) (fn : FnId) (a : Nat) : Bool := decide (T.cf fn .ioBase ≤ a) && decide (a ≤ T.cf fn .ioLimit)

/-- Does a bus lie in the secondary to subordinate range? -/
def FwdTable.inBus (T : FwdTable) (fn : FnId) (bus : Nat) : Bool :=
  decide (T.cf fn .busSec ≤ bus) && decide (bus ≤ T.cf fn .busSub) && T.cf fn .busSec != 0

/-- The slot whose memory windows hold an address. -/
def FwdTable.slotByMem (T : FwdTable) (v a : Nat) : Option Nat :=
  (T.slots v).find? (fun sl => T.cf (.vdsp v sl) .mse == 1 && T.inMem (.vdsp v sl) a)

/-- The instances of a virtual switch: its physical function and the virtual functions granted to it (R409). -/
def State.instOfVs (s : State) (v : Nat) : List Nat :=
  v :: (List.range (s.get F.DMG_VF_COUNT [v])).map (fun k => 48 + s.get F.DMG_VF_FIRST [v] + k)

/-- The number k of the virtual function that an instance is of its virtual switch (R408). -/
def State.vfNum (s : State) (v i : Nat) : Nat := i - (47 + s.get F.DMG_VF_FIRST [v])

/-- The instance of virtual function k, if it is enabled: k is at most NumVFs and in the range (R408, R409). -/
def State.vfInst (s : State) (T : FwdTable) (v k : Nat) : Option Nat :=
  if T.cf (.dmf v) .vfEnable = 1 ∧ 1 ≤ k ∧ k ≤ T.cf (.dmf v) .numVfs ∧ k ≤ s.get F.DMG_VF_COUNT [v] then some (47 + s.get F.DMG_VF_FIRST [v] + k)
  else none

/-- Where an instance's BAR0 lies, if it decodes: the physical function's own BAR0, and the place of a virtual function in VF BAR0, which the field BAR6 of
the physical function holds (R340, R408). -/
def State.instBar (s : State) (T : FwdTable) (v i : Nat) : Option Nat :=
  if i = v then (if T.cf (.dmf v) .mse = 1 ∧ T.cf (.dmf v) (.bar 0) ≠ 0 then some (T.cf (.dmf v) (.bar 0)) else none)
  else
    let k := s.vfNum v i
    if T.cf (.dmf v) .vfMse = 1 ∧ T.cf (.dmf v) (.bar 6) ≠ 0 ∧ (s.vfInst T v k).isSome then some (T.cf (.dmf v) (.bar 6) + 0x4000 * (k - 1)) else none

/-- The instance of a virtual switch whose BAR0 holds an address, and the offset. -/
def State.instAt (s : State) (T : FwdTable) (v a : Nat) : Option (Nat × Nat) :=
  (s.instOfVs v).findSome? (fun i => match s.instBar T v i with
    | some b => if b ≤ a ∧ a < b + 0x4000 then some (i, a - b) else none
    | none => none)

/-- What a request meets after its lookup. -/
inductive Route where
  | fwd (d : Dec)
  | bar0 (off : Nat)
  | inst (i off : Nat)
  | fn (f : FnId)
  | member (v sl f : Nat)
  | retry
  | consume
  | refuse (cause egress : Nat)
  | refuseContained (port : Nat)
  | refuseEmpty
  | refuseBme
  | drop
  deriving DecidableEq, Repr

/-- The presented BAR of a member that holds the request's first byte (R129, R130). -/
def FwdTable.barOf (T : FwdTable) (v sl : Nat) (q : Tlp) : Option (Nat × BarX) :=
  (List.range 8).findSome? (fun f => (T.bars.lookD (v, sl, f) []).findSome? (fun b =>
    let a := T.cf (.mem v sl f) (.bar b.k)
    if a ≤ q.addr ∧ q.addr < a + b.size ∧ a ≠ 0 then some (f, b) else none))

/-- A request as a vDSP forwards it: a configuration request for its secondary bus becomes Type 0 (R109). -/
def FwdTable.downType (T : FwdTable) (v sl : Nat) (q : Tlp) : Tlp :=
  if q.kind = .cfgrd ∨ q.kind = .cfgwr then { q with cfg0 := decide (q.tid / 256 = T.cf (.vdsp v sl) .busSec) } else q

/-- A request to the binding of a slot: the empty binding refuses (R576), a contained vDSP refuses (R262), a physical port takes it
unchanged, a remote port takes it toward its GPID, a function group translates it (R107, R109, R126, R127, R130). -/
def State.toBinding (s : State) (T : FwdTable) (v sl : Nat) (q : Tlp) (sc : Nat) (host : Bool) (remote : Nat → Option Nat) : Route :=
  let x := T.vdspOf v sl
  let tgt := T.get F.VST_SLOT_TARGET [v, sl]
  if s.contained v sl then .refuseContained x
  else match T.get F.VST_SLOT_KIND [v, sl] with
  | 0 => .refuseEmpty
  | 1 => .fwd { egress := tgt % 256, sc := sc, vdsp := if host then x else noVdsp, bvdsp := x, tlp := T.downType v sl q }
  | 3 =>
    match remote tgt with
    | some p => .fwd { egress := p, sc := sc, vdsp := if host then x else noVdsp, bvdsp := x, dst := tgt, tlp := T.downType v sl q }
    | none => .refuse 0 0xFF
  | _ =>
    match T.barOf v sl q with
    | none => .refuse 0 0xFF
    | some (f, b) =>
      let a := T.cf (.mem v sl f) (.bar b.k)
      if tlpLast q < a + b.size ∧ T.cf (.mem v sl f) .mse = 1 then
        match T.fbOf x f with
        | some k => .fwd {
            egress := T.get F.VST_FB_A_SHARED_PORT [k], sc := sc, vdsp := if host then x else noVdsp, bvdsp := x,
            mbr := some f, tlp := { q with addr := b.real + (q.addr - a), rid := v } }
        | none => .refuse 0 0xFF
      else .refuse 0 0xFF

/-- The lookup of a request that arrives on the upstream port of virtual switch `v` (R143, R144, R214, R140). A configuration request of Type 0, or one
for the upstream port's bus, is for the functions of that bus (R96). -/
def State.routeHost (s : State) (T : FwdTable) (t v : Nat) (q : Tlp) (remote : Nat → Option Nat) : Route :=
  let sc := T.classOf v q
  match q.kind with
  | .mrd | .mwr | .atomic | .dmwr =>
    match T.slotByMem v q.addr with
    | some sl => s.toBinding T v sl q sc true remote
    | none =>
      match s.instAt T v q.addr with
      | some (i, o) => .inst i o
      | none =>
        if v = 0 ∧ T.get F.VST_STAT_MGMT [0] = 1 ∧ T.cf .mgmt .mse = 1 ∧ T.cf .mgmt (.bar 0) ≠ 0 ∧ T.cf .mgmt (.bar 0) ≤ q.addr ∧
            q.addr < T.cf .mgmt (.bar 0) + 0x4000000 then .bar0 (q.addr - T.cf .mgmt (.bar 0))
        else
          match s.winCheck t v q remote with
          | .pass e d => .fwd { egress := e, sc := sc, dst := d, tlp := q }
          | .refuse c e => .refuse c e
          | .miss => .refuse 0 0xFF
  | .iord | .iowr =>
    match (T.slots v).find? (fun sl => T.inIo (.vdsp v sl) q.addr) with
    | some sl => if T.get F.VST_SLOT_KIND [v, sl] = 2 then .refuse 0 0xFF else s.toBinding T v sl q sc true remote
    | none => .refuse 0 0xFF
  | .cfgrd | .cfgwr =>
    let bus := q.tid / 256
    let dev := q.tid / 8 % 32
    let fn := q.tid % 8
    let n := T.cf (.up v) .busPri
    let n1 := T.cf (.up v) .busSec
    if q.cfg0 ∨ bus = n then
      if dev = 0 ∧ fn = 0 then .fn (.up v)
      else if dev = 0 ∧ fn = 1 ∧ v = 0 ∧ T.get F.VST_STAT_MGMT [0] = 1 then .fn .mgmt else .refuse 0 0xFF
    else if bus = n1 then
      if dev = 0 ∧ fn = 1 then .fn (.dmp v)
      else if fn = 0 ∧ dev ∈ T.slots v then .fn (.vdsp v dev) else .refuse 0 0xFF
    else if T.inBus (.dmp v) bus then
      let k := (bus - T.cf (.dmp v) .busSec) * 256 + q.tid % 256
      if k = 0 then .fn (.dmf v)
      else
        match s.vfInst T v k with
        | some i => .fn (.dmf i)
        | none => .refuse 0 0xFF
    else
      match (T.slots v).find? (fun sl => T.inBus (.vdsp v sl) bus) with
      | none => .refuse 0 0xFF
      | some sl =>
        if T.get F.VST_SLOT_KIND [v, sl] = 2 then
          if s.contained v sl then .refuseContained (T.vdspOf v sl)
          else if bus = T.cf (.vdsp v sl) .busSec ∧ dev = 0 ∧ (T.fbOf (T.vdspOf v sl) fn).isSome then .member v sl fn else .refuse 0 0xFF
        else s.toBinding T v sl q 0 true remote
  | .msg =>
    match q.route with
    | .localTerm => .consume
    | .toRoot => .consume
    | .byId =>
      match (T.slots v).find? (fun sl => T.inBus (.vdsp v sl) (q.tid / 256)) with
      | some sl => if T.get F.VST_SLOT_KIND [v, sl] = 2 then .consume else s.toBinding T v sl q 0 true remote
      | none => .drop
    | .broadcast => .consume
  | .cpl => .drop

/-- Is the request within what ACS lets through (R218, R219)? Source validation by the vDSP's bus range, translation blocking by AT. -/
def FwdTable.acsRefuses (T : FwdTable) (v sl : Nat) (group : Bool) (q : Tlp) : Bool :=
  (T.cf (.vdsp v sl) .acsSv == 1 && !group && !T.inBus (.vdsp v sl) (q.rid / 256)) ||
  (T.cf (.vdsp v sl) .acsTb == 1 && q.at_ != 0)

/-- The lookup of a request from the device behind slot `sl` of virtual switch `v` (R131, R215, R218). -/
def State.routeDevice (s : State) (T : FwdTable) (t v sl : Nat) (q : Tlp) (remote : Nat → Option Nat) : Route :=
  let sc := T.classOf v q
  let x := T.vdspOf v sl
  let group := T.get F.VST_SLOT_KIND [v, sl] == 2
  let upstream : Route := .fwd { egress := T.get F.VST_STAT_UP_PORT [v], sc := sc, vdsp := x, tlp := q }
  if s.contained v sl then .refuseContained x
  else match q.kind with
  | .mrd | .mwr | .atomic | .dmwr =>
    if T.acsRefuses v sl group q then .refuse 3 0xFF
    else if T.cf (.vdsp v sl) .bme = 0 then .refuse 0 0xFF
    else if T.cf (.vdsp v sl) .acsRedirect = 1 ∧ ¬ (T.cf (.vdsp v sl) .acsDirect = 1 ∧ q.at_ = 2) then upstream
    else
      match T.slotByMem v q.addr with
      | some d =>
        if T.cf (.vdsp v sl) .acsEgress = 1 ∧ (T.cf (.vdsp v sl) .acsEgressVec).testBit d then .refuse 3 0xFF
        else match s.toBinding T v d q sc false remote with
          | .fwd dd => .fwd { dd with vdsp := x }
          | r => r
      | none =>
        match s.winCheck t v q remote with
        | .pass e d => .fwd { egress := e, sc := sc, vdsp := x, dst := d, tlp := q }
        | .refuse c e => .refuse c e
        | .miss => upstream
  | .msg =>
    match q.route with
    | .toRoot => if group ∧ 0x20 ≤ q.code ∧ q.code ≤ 0x27 then .drop else .fwd { egress := T.get F.VST_STAT_UP_PORT [v], sc := 0, vdsp := x, tlp := q }
    | .byId =>
      match (T.slots v).find? (fun d => T.inBus (.vdsp v d) (q.tid / 256)) with
      | some d => if T.get F.VST_SLOT_KIND [v, d] = 2 then .consume else
          (match s.toBinding T v d q 0 false remote with
            | .fwd dd => .fwd { dd with vdsp := x }
            | r => r)
      | none => if q.tid / 256 = T.cf (.up v) .busPri then .fwd { egress := T.get F.VST_STAT_UP_PORT [v], sc := 0, vdsp := x, tlp := q } else .drop
    | .localTerm => .consume
    | .broadcast => .drop
  | _ => .refuse 0 0xFF

end Sys2Proof.Machine
end

