-- ==== Sys2Proof/Machine/Shaper.lean ====
section
/-!
DEFINITION. The shapers (chapter 14): credit, grants and charges (R438, R439), loading a configuration (R442, R443), echoes (R445, R446)
and recovery (R447). Credit is kept in hundredths of a byte: a rate of 1 unit (10 MB/s) is one hundredth of a byte in each ns.
-/

namespace Sys2Proof.Machine

/-- The high limit in bytes; values above 1,048,576 act as 1,048,576 (SH_LIM). -/
def State.shHi (s : State) (x : Nat) : Nat := min (s.get F.SH_LIM_HI [x]) 1048576
/-- The magnitude of the low limit in bytes (SH_LIM). -/
def State.shLo (s : State) (x : Nat) : Nat := min (s.get F.SH_LIM_LO_MAG [x]) 1048576
/-- HOLD in ns; 0 acts as 1 µs. -/
def State.shHold (s : State) (x : Nat) : Nat := max 1 (s.get F.SH_LIM_HOLD [x]) * 1000
/-- RATE; 0 acts as 1. -/
def State.shRate (s : State) (x : Nat) : Nat := max 1 (s.get F.SH_CFG_RATE [x])
/-- RATE_MIN; 0 acts as 1, above RATE acts as RATE. -/
def State.shRateMin (s : State) (x : Nat) : Nat := min (max 1 (s.get F.SH_CFG_RATE_MIN [x])) (s.shRate x)
/-- DEC_SHIFT; 0 acts as 1. -/
def State.shDec (s : State) (x : Nat) : Nat := max 1 (s.get F.SH_CFG_DEC_SHIFT [x])
/-- AI_STEP; 0 acts as 1. -/
def State.shAi (s : State) (x : Nat) : Nat := max 1 (s.get F.SH_CFG_AI_STEP [x])
/-- Does the shaper meter? -/
def State.shEn (s : State) (x : Nat) : Bool := s.on F.SH_CFG_EN [x]

/-- A shaper's running state; after reset the credit is HI and the windows start at time 0. -/
def State.sh (s : State) (x : Nat) : ShSt := s.shp.lookD x { credit := (s.shHi x : Int) * 100, at_ := 0 }

/-- The credit now: it rises at RATE_CUR at all times while EN is 1, never above HI (R438). -/
def State.shCredit (s : State) (x : Nat) : Int :=
  let st := s.sh x
  if s.shEn x then min ((s.shHi x : Int) * 100) (st.credit + (s.get F.SH_STAT_RATE_CUR [x] * (s.now - st.at_) : Nat)) else st.credit

/-- Store a shaper's running state, with SH_STAT.CREDIT in whole bytes. -/
def State.shPut (s : State) (x : Nat) (st : ShSt) : State :=
  { s with shp := s.shp.put x st }.set F.SH_STAT_CREDIT [x] (unsx 32 (st.credit / 100))

/-- Does the shaper grant now? EN = 0 grants at once; otherwise the credit must be 0 or above (R438). -/
def State.shGrants (s : State) (x : Nat) : Bool := !s.shEn x || decide (0 ≤ s.shCredit x)

/-- Charge a granted item of a length: the credit falls by length plus OVERHEAD, never below −LO_MAG (R438, R439). -/
def State.shCharge (s : State) (x len : Nat) : State :=
  if s.shEn x then
    let c := len + s.get F.SH_CFG_OVERHEAD [x]
    let st := s.sh x
    s.shPut x { st with credit := max (-((s.shLo x : Int) * 100)) (s.shCredit x - (c : Int) * 100), at_ := s.now, winBytes := st.winBytes + c }
  else s

/-- The credit, rate and timer effects of R442: credit HI or 0 by RESET_POLICY, RATE_CUR = RATE, windows and interval restart, hold open. -/
def State.shLoad (s : State) (x : Nat) : State :=
  (s.set F.SH_STAT_RATE_CUR [x] (s.shRate x)).shPut x
    { credit := if s.on F.SH_CFG_RESET_POLICY [x] then 0 else (s.shHi x : Int) * 100, at_ := s.now, ivStart := s.now, winStart := s.now }

/-- Restore a shaper's defaults (R443). -/
def State.shDefault (s : State) (x : Nat) : State :=
  ((s.resetReg ⟨.SH_CFG, [x]⟩).resetReg ⟨.SH_LIM, [x]⟩).shLoad x

/-- May the shaper take an echo: EN and ECHO_EN are 1 (R445). -/
def State.shTakes (s : State) (x : Nat) : Bool := s.shEn x && s.on F.SH_CFG_ECHO_EN [x]

/-- Is the hold open: no decrease since the last load, or HOLD has passed (R446)? -/
def State.shOpen (s : State) (x : Nat) : Bool :=
  match (s.sh x).lastDec with
  | none => true
  | some t => decide (t + s.shHold x ≤ s.now)

/-- The rate after a decrease: max(RATE_MIN, m − m >> DEC_SHIFT), m the lower of RATE_CUR and MEAS (R446). -/
def State.shDecreased (s : State) (x : Nat) : Nat :=
  let cur := s.get F.SH_STAT_RATE_CUR [x]
  let m := match (s.sh x).meas with
    | none => cur
    | some v => min cur v
  max (s.shRateMin x) (m - m >>> s.shDec x)

/-- A shaper takes an echo: a decrease if the hold is open, otherwise the echo is counted and spoils the interval (R446, R447). -/
def State.shEcho (s : State) (x : Nat) : State :=
  let st := s.sh x
  if s.shOpen x then
    let s1 := (s.set F.SH_STAT_RATE_CUR [x] (s.shDecreased x)).shCount x 0
    s1.shPut x { st with credit := s.shCredit x, at_ := s.now, lastDec := some s.now, ivStart := s.now, ivEcho := false }
  else (s.shCount x 1).shPut x { st with ivEcho := true }

/-- SHAPER_RECOVERY_TICK (R447): at the end of a HOLD interval without echo RATE_CUR rises by AI_STEP, never above RATE; a spoiled
interval ends without increase. Before the interval's end nothing happens. -/
def State.shRecover (s : State) (x : Nat) : State :=
  let st := s.sh x
  let e := st.ivStart + s.shHold x
  if s.now < e ∨ s.shEn x = false then s
  else if st.ivEcho then s.shPut x { st with ivEcho := false, ivStart := e }
  else
    (s.set F.SH_STAT_RATE_CUR [x] (max (s.get F.SH_STAT_RATE_CUR [x]) (min (s.shRate x) (s.get F.SH_STAT_RATE_CUR [x] + s.shAi x)))).shPut x
      { st with credit := s.shCredit x, at_ := s.now, ivStart := e }

/-- The end of a 1 µs measurement window: MEAS becomes the rate charged in it, in units of 10 MB/s (R446). -/
def State.shWindow (s : State) (x : Nat) : State :=
  let st := s.sh x
  if st.winStart + 1000 ≤ s.now then
    s.shPut x { st with meas := some (st.winBytes / 10), winBytes := 0, winStart := st.winStart + 1000 }
  else s

/-- The SH_STAT.WAIT bit and the count of items that waited (R532). -/
def State.shWait (s : State) (x : Nat) (w : Bool) : State :=
  (s.when (w && !s.on F.SH_STAT_WAIT [x]) (·.shCount x 2)).setB F.SH_STAT_WAIT [x] w

end Sys2Proof.Machine
end

