-- ==== Sys2Proof/Machine/Forward.lean ====
section
/-!
DEFINITION. The forwarding path (chapters 05 and 08): lengths and credits, tracker entries and tags (R173 to R176, R242 to R245), sending a
TLP into its stream (R151, R440), the egress order gate (R153 to R157, R166 to R168, R577), and the egress scheduler (R448).
-/

namespace Sys2Proof.Machine

/-! ### Lengths and kinds -/

/-- Does the TLP carry data on the link? -/
def tlpPayload (t : Tlp) : Nat :=
  match t.kind with
  | .mwr | .atomic | .dmwr => t.len
  | .iowr | .cfgwr => 4
  | .msg | .cpl => t.data.length
  | _ => 0

/-- Header bytes: 16 for a 64-bit address or a message, otherwise 12 (PRESUMED from PCI Express; assumption 14). -/
def tlpHeader (t : Tlp) : Nat :=
  match t.kind with
  | .msg => 16
  | .mrd | .mwr | .atomic | .dmwr => if 2 ^ 32 ≤ t.addr then 16 else 12
  | _ => 12

/-- TLP bytes, as BYTES of the mesh header (R179). -/
def tlpBytes (t : Tlp) : Nat := tlpHeader t + tlpPayload t

/-- Mesh KIND of a TLP: 0 posted, 1 non-posted, 2 completion (R179). -/
def tlpClass (t : Tlp) : Nat :=
  match t.kind with
  | .mwr | .msg => 0
  | .cpl => 2
  | _ => 1

/-- Length charged at an ingress shaper (R439). -/
def ingressLen (t : Tlp) : Nat := if t.kind = .mrd then tlpHeader t + t.len else tlpBytes t

/-- Data credits of a TLP, 16 bytes each (R80). -/
def tlpDataCredits (t : Tlp) : Nat := (tlpPayload t + 15) / 16

/-- Bytes that the completions of a request return (R242: REMAIN). -/
def tlpRemain (t : Tlp) : Nat :=
  match t.kind with
  | .mrd => max 1 t.len
  | .atomic => t.len
  | .iord | .cfgrd => 4
  | _ => 0

/-- Is a completion the last of its request (R245)? -/
def cplLast (t : Tlp) : Bool :=
  t.status != 0 || t.data.isEmpty || decide (t.byteCount ≤ t.data.length)

/-! ### Tags and tracker entries -/

/-- The state of an egress tag (R244). -/
def State.tagSt (s : State) (p tag : Nat) : TagSt := s.fwd.tags.lookD (p, tag) .pool

/-- Change the forwarding path's state. -/
def State.fwdUp (s : State) (f : FwdSt → FwdSt) : State := { s with fwd := f s.fwd }

/-- Count a port's tombstones in PT_CONT.TOMBS. -/
def State.updTombs (s : State) (p : Nat) : State :=
  s.pset F.PT_CONT_TOMBS p (s.fwd.tags.filter (fun e => e.1.1 == p && (match e.2 with | .tomb _ => true | _ => false))).length

/-- Set the state of an egress tag. -/
def State.setTag (s : State) (p tag : Nat) (st : TagSt) : State :=
  (s.fwdUp (fun f => { f with tags := match st with | .pool => f.tags.del (p, tag) | _ => f.tags.put (p, tag) st })).updTombs p

/-- The tags in use on a port: first tag, count and lease size by the mode in force, a trunk in the Flit Mode row (R173, R273). -/
def State.tagRange (s : State) (p : Nat) : Nat × Nat × Nat :=
  match (if s.isTrunk p then 3 else s.pget F.PT_FWD_CTL_TAG_MODE p) with
  | 1 => (0, 256, 4)
  | 2 => (0x100, 768, 8)
  | 3 => (0x100, 16128, 16)
  | _ => (0, 0, 0)

/-- Up to `n` tags in Pool from `tag` on, at most `fuel` tags looked at (R174). -/
def State.poolTags (s : State) (p : Nat) : Nat → Nat → Nat → List Nat
  | 0, _, _ => []
  | fuel + 1, tag, n =>
    if n = 0 then []
    else if s.tagSt p tag = .pool then tag :: s.poolTags p fuel (tag + 1) (n - 1)
    else s.poolTags p fuel (tag + 1) n

/-- Entries of a holder: tiles 16,384, clusters 1,024, management stations 512, security 64, telemetry 16 (R175, R246). -/
def trkSize (x : Nat) : Nat :=
  if x < 36 then 16384 else if x < 52 then 1024 else if x = 76 ∨ x = 77 then 512 else if x = 78 then 64 else if x = 79 then 16 else 0

/-- A tracker entry. -/
def State.trkOf (s : State) (x i : Nat) : Option TrkE := s.fwd.trk.look (x, i)

/-- The first free entry of a holder, from `i` upward, with `fuel` entries looked at; a retired entry is never allocated (R459). -/
def State.freeTrk (s : State) (x : Nat) : Nat → Nat → Option Nat
  | 0, _ => none
  | fuel + 1, i =>
    let j := i % (trkSize x)
    if (s.trkOf x j).isNone ∧ (x, j) ∉ s.fwd.retired then some j else s.freeTrk x fuel (i + 1)

/-- PT_TRK_STAT of a tile: LIVE and FULL; TRK_FULL is raised when the tracker becomes full (R175). -/
def State.updTrkStat (s : State) (x : Nat) : State :=
  if x < 36 then
    let n := (s.fwd.trk.filter (fun e => e.1.1 == x)).length
    let r := (s.fwd.retired.filter (fun e => e.1 == x)).length
    let full := decide (16384 ≤ n + r)
    let was := s.on F.PT_TRK_STAT_FULL [x]
    ((s.set F.PT_TRK_STAT_LIVE [x] n).setB F.PT_TRK_STAT_FULL [x] full).when (full && !was) (·.event (.tile x 1) 2)
  else s

/-- Write or free a tracker entry. -/
def State.putTrk (s : State) (x i : Nat) (e : Option TrkE) : State :=
  (s.fwdUp (fun f => { f with trk := match e with
    | some e => f.trk.put (x, i) e
    | none => f.trk.del (x, i) })).updTrkStat x

/-- The completion timeout of a port in ns: TO_VAL in µs or ms; 0 acts as 1; in ms above 64,000 acts as 64,000 (R247). -/
def State.timeoutNs (s : State) (p : Nat) : Nat :=
  let v := max 1 (s.pget F.PT_TRK_CFG_TO_VAL p)
  if s.pon F.PT_TRK_CFG_TO_UNIT p then min v 64000 * 1000000 else v * 1000

/-- The quarantine of a port in ns: Q_VAL; 0 means twice the timeout, at most 128 s (R255). -/
def State.quarantineNs (s : State) (p : Nat) : Nat :=
  let v := s.pget F.PT_TRK_CFG_Q_VAL p
  if v = 0 then min (2 * s.timeoutNs p) 128000000000
  else if s.pon F.PT_TRK_CFG_Q_UNIT p then min v 128000 * 1000000 else v * 1000

/-- The free tags that a source holds for a port. -/
def State.leaseOf (s : State) (x p : Nat) : List Nat := s.fwd.leases.lookD (x, p) []

/-- Replace the free tags that a source holds for a port; the time at which the lease became free is kept for its return (R174). -/
def State.setLease (s : State) (x p : Nat) (l : List Nat) : State :=
  s.fwdUp (fun f => { f with leases := f.leases.put (x, p) l, leaseIdle := f.leaseIdle.put (x, p) s.now })

/-- A source asks for a lease when it holds fewer than a quarter of a lease of free tags and has not asked already (R174, R183). -/
def State.askLease (s : State) (x p : Nat) : State :=
  let sz := (s.tagRange p).2.2
  if 4 * (s.leaseOf x p).length < sz ∧ (x, p) ∉ s.fwd.leaseAsk then
    (s.fwdUp (fun f => { f with leaseAsk := f.leaseAsk ++ [(x, p)] })).sendMsg x (p / 4) (.leaseReq x p)
  else s

/-! ### Streams and held copies -/

/-- The next sequence number of a stream (R151). -/
def State.nextSeq (s : State) (k : SKey) : Nat := s.fwd.streams.lookD k 0

/-- The station that sends a stream. -/
def pktStn (p : Pkt) : Nat := stnOfSrc p.srcId

/-- Put a packet on the mesh at its source; a packet that cannot be injected is kept for the handling of a lost path (R207). -/
def State.launch (s : State) (p : Pkt) : State :=
  match s.injectAt (s.exitRouter (pktStn p) p.egress) p with
  | (s', true) => s'
  | (s', false) => s'.fwdUp (fun f => { f with lostQ := f.lostQ ++ [p] })

/-- The ingress shaper of a request from an upstream port in a class (R437, R440). -/
def State.ingShaper (s : State) (p : Pkt) : Option Nat :=
  if p.srcId < 144 ∧ s.role p.srcId = 0 ∧ p.kind < 2 then ((s.tableOf (p.srcId / 4)).vsOf p.srcId).map (fun v => 576 + 4 * v + p.sc) else none

/-- Length that an ingress shaper charges for a packet. -/
def pktIngressLen (p : Pkt) : Nat :=
  match p.body with
  | .tlp t => ingressLen t
  | .msg _ => p.bytes

/-- Step 3 and step 4 of R18: take the next sequence number, keep a copy, pass the ingress shaper or wait for it, and enter the mesh. -/
def State.sendPkt (s : State) (p0 : Pkt) : State :=
  let k : SKey := (p0.srcId, p0.egress, p0.sc)
  let q := s.nextSeq k
  let p : Pkt := { p0 with seq := q, dest := s.entryRouter (p0.egress / 4), flits := flitsOf p0.bytes }
  let s1 := s.fwdUp (fun f => { f with
    streams := f.streams.put k ((q + 1) % 65536),
    held := if p.stomp = 0 then f.held.put (k, q) p else f.held })
  match s1.ingShaper p with
  | some x =>
    if (s1.fwd.ingq.lookD x []).isEmpty ∧ s1.shGrants x then (s1.shCharge x (pktIngressLen p)).launch p
    else (s1.fwdUp (fun f => { f with ingq := f.ingq.upd x [] (· ++ [p]) })).shWait x true
  | none => s1.launch p

/-- The packet of a decided TLP from a source (R179). -/
def Dec.pkt (d : Dec) (src trk stomp : Nat) : Pkt :=
  { dest := 0, src := 0, srcId := src, egress := d.egress, sc := d.sc, kind := tlpClass d.tlp, bytes := tlpBytes d.tlp, epoch := d.epoch,
    winEpoch := d.winEpoch, mark := d.mark, trk := trk, stomp := stomp, vdsp := d.bvdsp, dst := d.dst, gsrc := d.gsrc, body := .tlp d.tlp }

/-- Can a non-posted request take a tracker entry and an egress tag now? The entry searched from `pick` on, the first tag of the lease. -/
def State.canTrack (s : State) (x : Nat) (d : Dec) (pick : Nat) : Option (Nat × Nat) :=
  match s.freeTrk x (trkSize x) pick, s.leaseOf x d.egress with
  | some i, tag :: _ => some (i, tag)
  | _, _ => none

/-- Allocate the entry and tag of a request, and send it with the egress tag (R151, R175, R242). -/
def State.trackSend (s : State) (src slot : Nat) (d : Dec) (req : Tlp) (i tag stomp : Nat) : State :=
  let x := stnOfSrc src
  if stomp ≠ 0 then s.sendPkt ({ d with tlp := { d.tlp with tag := tag } }.pkt src i stomp)
  else
    let e : TrkE := { reqId := req.rid, tag := req.tag, egress := d.egress, etag := tag, slot := slot, kind := req.kind, sc := d.sc,
                      vdsp := d.vdsp, remain := tlpRemain req, tAlloc := s.now / 1000 % 2 ^ 32, mbr := d.mbr, to_ := s.timeoutNs d.egress,
                      tc := req.tc, ro := req.ro, ido := req.ido, addr := req.addr,
                      bytes := tlpBytes d.tlp }
    let s1 := (s.setLease x d.egress ((s.leaseOf x d.egress).drop 1)).putTrk x i (some e)
    (s1.sendPkt ({ d with tlp := { d.tlp with tag := tag } }.pkt src i 0)).askLease x d.egress

/-! ### The egress side -/

/-- The queued packets of a port's class at the order gate, and at the shaper. -/
def State.gq (s : State) (p c : Nat) : List Pkt := s.fwd.gateq.lookD (p, c) []
def State.sq (s : State) (p c : Nat) : List Pkt := s.fwd.shq.lookD (p, c) []

/-- Bytes of a list of packets. -/
def bytesOf (l : List Pkt) : Nat := (l.map (·.bytes)).sum

/-- A class region of a port's gate queue, in bytes (R164, R169, R170). -/
def State.region (s : State) (p c : Nat) : Nat :=
  1024 * s.egressLanes p * (match c with
    | 0 => 8
    | 1 => s.pget F.PT_BUF_CFG_SC1 p
    | 2 => s.pget F.PT_BUF_CFG_SC2 p
    | _ => s.pget F.PT_BUF_CFG_SC3 p)

/-- Bytes of a trunk's class that its link layer holds: TLPs that wait for a member, and replay copies (R287). -/
def State.replayBytes (s : State) (p c : Nat) : Nat :=
  if s.isTrunk p then
    bytesOf ((s.fwd.trunkq.lookD (p / 8) []).filter (fun x => x.sc == c)) +
    bytesOf (((s.tk (p / 8)).copies.map (·.pkt)).filter (fun x => x.sc == c))
  else 0

/-- Has a port's gate queue room for a packet: completions use the whole region, requests three quarters of it (R166, R167)? A trunk's replay
copies take room too (R287). -/
def State.gateRoom (s : State) (p : Pkt) : Bool :=
  match p.body, decide (p.egress < 144) with
  | .msg _, _ => true
  | .tlp _, false => true
  | .tlp _, true =>
    let q := s.gq p.egress p.sc
    let rg := s.region p.egress p.sc
    let used := s.replayBytes p.egress p.sc
    decide (bytesOf q + used + p.bytes ≤ rg) &&
      (p.kind == 2 || decide (4 * (bytesOf (q.filter (fun x => decide (x.kind < 2))) + used + p.bytes) ≤ 3 * rg))

/-- The marking threshold of a class in bytes; 0 disables marking (R171). -/
def State.markAt (s : State) (p c : Nat) : Nat :=
  1024 * s.egressLanes p * (match c with
    | 1 => s.pget F.PT_CONG_MARK_SC1 p
    | 2 => s.pget F.PT_CONG_MARK_SC2 p
    | 3 => s.pget F.PT_CONG_MARK_SC3 p
    | _ => 0)

/-- The order gate's record of a stream. -/
def State.gate (s : State) (k : SKey) : GateSt := s.fwd.gates.lookD k {}

/-- Distance of a sequence number from the gate's base, modulo 2^16. -/
def seqDist (base q : Nat) : Nat := (q + 65536 - base % 65536) % 65536

/-- Is a number below the base or already recorded (R153)? -/
def GateSt.dup (g : GateSt) (q : Nat) : Bool := decide (32768 ≤ seqDist g.base q) || g.got.contains q

/-- The 4-bit fold of an ID (R155). -/
def foldId (x : Nat) : Nat := (x ^^^ (x >>> 4) ^^^ (x >>> 8) ^^^ (x >>> 12)) % 16

/-- The stream of a packet. -/
def Pkt.key (p : Pkt) : SKey := (p.srcId, p.egress, p.sc)

/-- The TLP of a packet. -/
def Pkt.tlp? (p : Pkt) : Option Tlp :=
  match p.body with
  | .tlp t => some t
  | .msg _ => none

/-- Does an earlier packet hold a later one of its stream back (R154, R155)? -/
def holdsBack (earlier later : Pkt) : Bool :=
  match earlier.tlp?, later.tlp? with
  | some e, some l =>
    match earlier.kind, later.kind with
    | 0, 0 => !l.ro
    | 0, 1 => !(l.ido && foldId l.rid != foldId e.rid)
    | 0, 2 => !(l.ro || (l.ido && foldId l.cid != foldId e.rid))
    | 2, 2 => decide (foldId l.rid = foldId e.rid) && decide (l.tag = e.tag)
    | _, _ => false
  | _, _ => false

/-- Does a missing number hold a packet back: everything but a posted request with Relaxed Ordering waits (R577)? -/
def missHolds (l : Pkt) : Bool :=
  match l.tlp? with
  | some t => !(l.kind == 0 && t.ro)
  | none => false

/-- Is a number missing between the base and a packet's number? -/
def GateSt.missingBelow (g : GateSt) (q : Nat) : Bool :=
  (List.range (min (seqDist g.base q) 4096)).any (fun i => !g.got.contains ((g.base + i) % 65536))

/-- May the gate release a packet of its queue (R154, R168, R577)? -/
def State.releasable (s : State) (p : Pkt) : Bool :=
  let g := s.gate p.key
  let d := seqDist g.base p.seq
  let earlier := (s.gq p.egress p.sc).filter (fun x => x.key == p.key && decide (seqDist g.base x.seq < d))
  !(earlier.any (fun x => holdsBack x p)) && !(g.missingBelow p.seq && missHolds p) &&
    decide (bytesOf (s.sq p.egress p.sc) + p.bytes ≤ 5120)

/-- Move the base of a stream over the released numbers (R153). -/
def advanceBase (queued : List Nat) : Nat → GateSt → GateSt
  | 0, g => g
  | n + 1, g =>
    if g.got.contains g.base ∧ ¬ queued.contains g.base then
      advanceBase queued n { g with base := (g.base + 1) % 65536, got := g.got.filter (· != g.base) }
    else g

/-- Refresh a stream's record after an arrival or a release: move the base, and start or stop the gap timer (R153, R157). -/
def State.gateRefresh (s : State) (k : SKey) : State :=
  let queued := ((s.gq k.2.1 k.2.2).filter (fun x => x.key == k)).map (·.seq)
  let g := advanceBase queued 4096 (s.gate k)
  let waiting := !g.got.isEmpty && !g.got.contains g.base
  let g' := { g with since := if waiting then (match g.since with | some t => some t | none => some s.now) else none }
  s.fwdUp (fun f => { f with gates := f.gates.put k g' })

/-- The number of the releasing port's tag map in which a released non-posted request becomes Live (R244). -/
def State.goLive (s : State) (p : Pkt) : State :=
  match p.tlp? with
  | some t => if p.kind = 1 then s.setTag p.egress t.tag (.live (pktStn p) p.trk) else s
  | none => s

/-- The holder handles a completion that its gate releases: it restores the requester's ID and tag from the entry, counts REMAIN down, and
at the last completion frees the entry and returns the tag to its lease (R126, R176, R245). A completion whose entry is gone is dropped;
the last of them still returns its tag. -/
def State.holderCpl (s : State) (p : Pkt) : State × Option Pkt :=
  match p.tlp? with
  | none => (s, some p)
  | some t =>
    if p.kind ≠ 2 then (s, some p)
    else
      let x := p.egress / 4
      match s.trkOf x p.trk with
      | none =>
        let back := cplLast t && decide (s.tagSt p.srcId t.tag = .leased x) && !(s.leaseOf x p.srcId).contains t.tag
        (s.when back (fun s => s.setLease x p.srcId (s.leaseOf x p.srcId ++ [t.tag])), none)
      | some e =>
        let cid := match e.mbr, s.slotOfVdsp e.vdsp with
          | some f, some (v, sl) => (s.tableOf x).presentedRid v sl f
          | _, _ => t.cid
        let t' := { t with rid := e.reqId, tag := e.tag, cid := cid }
        let p' := { p with body := .tlp t' }
        if cplLast t then
          let s1 := s.putTrk x p.trk none
          let s2 := match s1.tagSt e.egress e.etag with
            | .leased _ => s1.setLease x e.egress (s1.leaseOf x e.egress ++ [e.etag])
            | _ => s1
          (s2, some p')
        else (s.putTrk x p.trk (some { e with remain := e.remain - t.data.length, addr := e.addr + t.data.length }), some p')

/-- A completion for a trunk that is lost is discarded, and the holder's entry is freed (R300). -/
def State.lostTrunkCpl (s : State) (p : Pkt) : Bool := p.kind == 2 && s.isTrunk p.egress && !s.tkOn (p.egress / 8)

/-- Release one packet from the gate to the shaper queue: the tail confirmation goes to its source (R18 step 6, R154, R168). -/
def State.releaseOne (s : State) (p : Pkt) : State :=
  let s1 := s.fwdUp (fun f => { f with gateq := f.gateq.put (p.egress, p.sc) ((f.gateq.lookD (p.egress, p.sc) []).filter (fun x => !(x.key == p.key && x.seq == p.seq))) })
  let s2 := (s1.goLive p).gateRefresh p.key
  let s3 := match s2.holderCpl p with
    | (s', some q) => if s.lostTrunkCpl q then s'.putTrk (q.egress / 4) q.trk none else s'.fwdUp (fun f => { f with
        shq := f.shq.upd (p.egress, p.sc) [] (· ++ [q]),
        stallAt := if (List.range 4).all (fun c => (f.shq.lookD (p.egress, c) []).isEmpty) then f.stallAt.put p.egress s.now else f.stallAt })
    | (s', none) => s'
  s3.sendMsg (p.egress / 4) (pktStn p) (.tailConf p.srcId p.egress p.sc p.seq)

/-- Release every packet of a port's class that may pass, in queue order, again until none may (R154). -/
def State.releaseAll (s : State) (p c : Nat) : Nat → State
  | 0 => s
  | n + 1 =>
    match (s.gq p c).find? (fun x => s.releasable x) with
    | some x => (s.releaseOne x).releaseAll p c n
    | none => s

/-- Release what may pass at a port's class. -/
def State.gateRun (s : State) (p c : Nat) : State := s.releaseAll p c (s.gq p c).length

/-! ### Egress scheduling (R448) -/

/-- Flow-control type of a packet: posted 0, non-posted 1, completion 2 (R80). -/
def Pkt.fcType (p : Pkt) : Nat := min p.kind 2

/-- Has the link partner credit for a packet? A trunk port asks instead whether the class is in XOFF (R294, R448). -/
def State.fcOk (s : State) (port : Nat) (p : Pkt) : Bool :=
  if s.isTrunk port then
    !(s.get F.FAB_TRK_STAT_XOFF_RX [port / 8]).testBit p.sc && s.tkOn (port / 8) && (s.fwd.trunkq.lookD (port / 8) []).isEmpty
  else
    let c := s.fwd.fc.lookD (port, p.fcType) (0, 0)
    match p.tlp? with
    | some t => decide (1 ≤ c.1) && decide (tlpDataCredits t ≤ c.2)
    | none => true

/-- Is a class eligible to send (R448)? -/
def State.eligible (s : State) (port c : Nat) : Bool :=
  match s.sq port c with
  | [] => false
  | p :: _ => s.shGrants (4 * port + c) && s.fcOk port p && (s.inL0 port || s.isTrunk port)

/-- The weight of a class in the round, in units of 256 bytes. -/
def State.weight (s : State) (port c : Nat) : Nat :=
  match c with
  | 1 => s.pget F.PT_SCHED_W1 port
  | 2 => s.pget F.PT_SCHED_W2 port
  | _ => s.pget F.PT_SCHED_W3 port

/-- The deficit of a class, and the length of its head. -/
def State.deficitOf (s : State) (port c : Nat) : Nat := s.fwd.deficit.lookD (port, c) 0
def State.headLen (s : State) (port c : Nat) : Nat := match s.sq port c with | [] => 0 | p :: _ => p.bytes

/-- Set a deficit. -/
def State.setDeficit (s : State) (port c v : Nat) : State := s.fwdUp (fun f => { f with deficit := f.deficit.put (port, c) v })

/-- The deficit round robin of R448 over the classes of the round: the class being visited sends while its head fits its deficit; otherwise
its visit ends and the next class gains its weight. The number of visits looked at is bounded by `fuel`. -/
def State.drr (s : State) (port : Nat) (rnd : List Nat) : Nat → Nat → State × Option Nat
  | 0, _ => (s, none)
  | fuel + 1, c =>
    if rnd.contains c ∧ s.eligible port c ∧ s.headLen port c ≤ s.deficitOf port c ∧ 0 < s.weight port c then
      ((s.setDeficit port c (s.deficitOf port c - s.headLen port c)).fwdUp (fun f => { f with rrs := f.rrs.put (port, 0) c }), some c)
    else
      let d := if (s.sq port c).isEmpty then 0 else s.deficitOf port c
      let s1 := s.setDeficit port c (min d (s.weight port c * 256 + 4160))
      let n := if c = 3 then 1 else c + 1
      let s2 := if rnd.contains n then s1.setDeficit port n (s1.deficitOf port n + s1.weight port n * 256) else s1
      s2.drr port rnd fuel n

/-- The class that a port serves next: SC0, then SC1 if strict, then the round; a class of weight 0 only when no other of the round is
eligible (R448). -/
def State.pickClass (s : State) (port : Nat) : State × Option Nat :=
  if s.eligible port 0 then (s, some 0)
  else if s.pon F.PT_SCHED_STRICT1 port ∧ s.eligible port 1 then (s, some 1)
  else
    let rnd := (if s.pon F.PT_SCHED_STRICT1 port then [2, 3] else [1, 2, 3]).filter (fun c => s.eligible port c)
    let weighted := rnd.filter (fun c => 0 < s.weight port c)
    match weighted, rnd with
    | [], c :: _ => (s, some c)
    | [], [] => (s, none)
    | _, _ => s.drr port weighted 64 (s.fwd.rrs.lookD (port, 0) 1)

/-- Count a sent TLP in the port's counters and bandwidth window (R532, R536). -/
def State.countSent (s : State) (port bytes : Nat) : State :=
  ((s.portCount port 2).portCount port 3 bytes).bwAdd port 2 bytes

/-- Transmit the head of a class: the shaper is charged, the partner's credit is used, and the TLP leaves on the link with its mark cleared;
on a trunk it goes to the trunk's sender (R18 step 8, R172). -/
def State.transmit (s : State) (port c : Nat) : State :=
  match s.sq port c with
  | [] => s
  | p :: rest =>
    let s1 := (s.fwdUp (fun f => { f with shq := f.shq.put (port, c) rest, stallAt := f.stallAt.put port s.now })).shCharge (4 * port + c) p.bytes
    let s2 := (s1.countSent port p.bytes).shWait (4 * port + c) (!rest.isEmpty)
    let s3 := if s2.isTrunk port then s2.fwdUp (fun f => { f with trunkq := f.trunkq.upd (port / 8) [] (· ++ [p]) })
      else match p.tlp? with
        | some t => (s2.fwdUp (fun f => { f with
            fc := f.fc.upd (port, p.fcType) (0, 0) (fun q => (q.1 - 1, q.2 - tlpDataCredits t)),
            sentRid := if p.kind = 1 then f.sentRid.put (port, t.tag) t.rid else f.sentRid })).emit (.tlp port t)
        | none => s2
    s3.gateRun port c

/-- The scheduler of a port sends one TLP if a class is eligible (R448). -/
def State.schedule (s : State) (port : Nat) : State :=
  match s.pickClass port with
  | (s', some c) => s'.transmit port c
  | (s', none) => s'

/-- Put a TLP that the tile itself makes into a port's shaper queue: an answer of the ingress tile to its own port (R19). -/
def State.answerTlp (s : State) (port sc : Nat) (t : Tlp) : State :=
  s.fwdUp (fun f => { f with shq := f.shq.upd (port, sc) [] (· ++ [{
    dest := 0, src := 0, srcId := port, egress := port, sc := sc, kind := tlpClass t, bytes := tlpBytes t, body := .tlp t }]) })

/-- A completion without data for a request. -/
def cplFor (t : Tlp) (status cid : Nat) : Tlp :=
  { kind := .cpl, rid := t.rid, tag := t.tag, tc := t.tc, ro := t.ro, ido := t.ido, status := status, cid := cid,
    byteCount := tlpRemain t }

/-- A Successful Completion with data. -/
def cplData (t : Tlp) (cid : Nat) (d : List Byte) : Tlp := { cplFor t 0 cid with data := d, byteCount := d.length }

/-- Refuse a request at its port: a non-posted request receives Unsupported Request; a posted one is dropped and counted (port counter 14). -/
def State.refuseTlp (s : State) (port : Nat) (t : Tlp) (status cid : Nat) : State :=
  if tlpClass t = 1 then s.answerTlp port 0 (cplFor t status cid) else s.portCount port 14

end Sys2Proof.Machine
end

