-- ==== Sys2Proof/Machine/Contain.lean ====
section
/-!
DEFINITION. Synthetic completions (R250, R253, R254), posted-loss indications (R260), containment of vDSPs and ports (R261, R262, R265,
R266) and its release (R263).
-/

namespace Sys2Proof.Machine

/-! ### Synthetic completions -/

/-- The upstream port of a virtual switch. -/
def State.upPort (s : State) (v : Nat) : Nat := s.get F.VST_STAT_UP_PORT [v]

/-- The virtual switch of an upstream port, by the present tables. -/
def State.vsOfPort (s : State) (p : Nat) : Option Nat :=
  s.fwd.act.find? (fun v => s.get F.VST_STAT_STATE [v] != 0 && s.upPort v == p)

/-- Completer ID of a synthetic completion: the vDSP's ID as its host sees it, or the upstream port function's where the egress is an
upstream port (R254). -/
def State.synthCid (s : State) (vdsp egress : Nat) : Nat :=
  match s.vsOfPort egress with
  | some v => s.cf (.up v) .busPri * 256
  | none =>
    match s.slotOfVdsp vdsp with
    | some (v, sl) => s.cf (.up v) .busSec * 256 + sl * 8
    | none => 0

/-- All-ones completions for `n` bytes from address `a`, split at every 128-byte boundary (R253). -/
def splitOnes (base : Tlp) : Nat → Nat → Nat → List Tlp
  | 0, _, _ => []
  | fuel + 1, a, n =>
    if n = 0 then []
    else
      let m := min n (128 - a % 128)
      { base with status := 0, byteCount := n, data := List.replicate m 0xFF } :: splitOnes base fuel (a + m) (n - m)

/-- The synthetic completions of an entry (R253). -/
def synthTlps (e : TrkE) (cid : Nat) (ones : Bool) : List Tlp :=
  let base : Tlp := { kind := .cpl, rid := e.reqId, tag := e.tag, tc := e.tc, ro := e.ro, ido := e.ido, cid := cid, status := 4,
                      byteCount := e.remain }
  if ones then
    match e.kind with
    | .mrd => splitOnes base 4096 e.addr (max 1 e.remain)
    | .iord | .cfgrd => [{ base with status := 0, byteCount := 4, data := List.replicate 4 0xFF }]
    | _ => [base]
  else [base]

/-- SYNTH_READ of the vDSP that an entry names (R253). -/
def State.synthRead (s : State) (e : TrkE) : Bool :=
  match s.slotOfVdsp e.vdsp with
  | some (v, sl) => s.on F.VST_CONT_SYNTH_READ [v, sl]
  | none => false

/-- The egress tile of port `p` makes the synthetic completion of a holder's entry and sends it toward the holder in its own stream (R250).
At a station without ports the completion is the engine's status, and the entry is freed (R246). -/
def State.synthAt (s : State) (p x trk : Nat) : State :=
  match s.trkOf x trk with
  | none => s
  | some e =>
    let s1 := s.portCount p 10
    if x < 36 then
      (synthTlps e (s.synthCid e.vdsp e.egress) (s.synthRead e)).foldl (fun s t =>
        s.sendPkt { dest := 0, src := 0, srcId := p, egress := 4 * x + e.slot, sc := e.sc, kind := 2, bytes := tlpBytes t,
                    epoch := s.epochOf (p / 4), trk := trk, made := true, body := .tlp t }) s1
    else s1.putTrk x trk none

/-- The holder makes the synthetic completion itself, from its entry, at the port on which the request arrived (R248, R254). -/
def State.synthSelf (s : State) (x trk : Nat) : State :=
  match s.trkOf x trk with
  | none => s
  | some e =>
    let s1 := s.putTrk x trk none
    if x < 36 then
      (synthTlps e (s.synthCid e.vdsp e.egress) (s.synthRead e)).foldl (fun s t => s.answerTlp (4 * x + e.slot) e.sc t)
        (s1.portCount (4 * x + e.slot) 10)
    else s1

/-- Set a tag to Tomb for the port's quarantine (R255). -/
def State.tomb (s : State) (p tag : Nat) : State := s.setTag p tag (.tomb (some (s.now + s.quarantineNs p)))

/-- The Live tags of a port that satisfy a test: tag, holder, entry. -/
def State.liveTags (s : State) (p : Nat) (q : Nat → Nat → Bool) : List (Nat × Nat × Nat) :=
  s.fwd.tags.filterMap (fun e => match e.1.1 == p, e.2 with
    | true, .live x t => if q x t then some (e.1.2, x, t) else none
    | _, _ => none)

/-- Tombstone and answer Live tags of a port (R262, R266 step 2). -/
def State.tombLive (s : State) (p : Nat) (q : Nat → Nat → Bool) : State :=
  (s.liveTags p q).foldl (fun s l => (s.synthAt p l.2.1 l.2.2).tomb p l.1) s

/-! ### Dropping queued TLPs -/

/-- Drop one queued packet: its source's copy is freed by the tail confirmation; a non-posted request that the gate holds has its tag
tombstoned and is answered; a completion is taken off its entry; a posted request is lost (R262, R266). -/
def State.dropOne (s : State) (atGate : Bool) (p : Pkt) : State :=
  let s1 := if atGate then s.sendMsg (p.egress / 4) (pktStn p) (.tailConf p.srcId p.egress p.sc p.seq) else s
  match p.kind, p.tlp? with
  | 0, _ => (s1.portCount p.egress 14).fwdUp (fun f => { f with lostQ := f.lostQ ++ [p] })
  | 1, some t => if atGate then (s1.synthAt p.egress (pktStn p) p.trk).tomb p.egress t.tag else s1
  | 2, _ => if atGate then (s1.holderCpl p).1 else s1
  | _, _ => s1

/-- Drop the packets of a port's gate and shaper queues that satisfy a test. -/
def State.dropQueued (s : State) (port : Nat) (q : Pkt → Bool) : State :=
  (List.range 4).foldl (fun s c =>
    let g := (s.gq port c).filter q
    let h := (s.sq port c).filter q
    let s1 := s.fwdUp (fun f => { f with
      gateq := f.gateq.put (port, c) ((f.gateq.lookD (port, c) []).filter (fun x => !q x)),
      shq := f.shq.put (port, c) ((f.shq.lookD (port, c) []).filter (fun x => !q x)) })
    let s2 := g.foldl (fun s p => (s.dropOne true p).gateRefresh p.key) s1
    h.foldl (fun s p => s.dropOne false p) s2) s

/-! ### Containment of a vDSP -/

/-- DPC Trigger Reason with its extension above it, as PCI Express codes them (PRESUMED codes): 0 unmasked uncorrectable error, 1 ERR_NONFATAL,
2 ERR_FATAL, 7 software trigger (R261). -/
def dpcReasonOf (cause : Nat) : Nat :=
  match cause with
  | 1 => 2 | 2 => 1 | 4 => 7 | _ => 0

/-- The AER bit that a cause sets in the vDSP: Surprise Down for a lost link, Uncorrectable Internal Error for the causes that R261 reports so. -/
def causeAer (cause : Nat) : Option CfgF :=
  match cause with
  | 5 | 11 => some .aerSurpriseDown
  | 6 | 7 | 8 | 9 | 10 | 12 => some .aerInternal
  | _ => none

/-- UP_L0 of the virtual switch that a port carries. -/
def State.updUpL0 (s : State) (p : Nat) : State :=
  match s.vsOfPort p with
  | some v => s.setB F.VST_STAT_UP_L0 [v] (s.inL0 p)
  | none => s

/-- The fields of a link that is no longer up, and its next state; a link that was up reports LINK_DOWN. -/
def State.linkGone (s : State) (p next : Nat) : State :=
  let st := s.pget F.PP_STAT_LINK_STATE p
  let s1 := (((s.pset F.PP_STAT_LINK_STATE p next).pset F.PP_STAT_WIDTH p 0).pset F.PP_STAT_RATE p 7).pset F.PP_STAT_FLIT p 0
  let s2 := (((s1.pset F.PP_STAT_L0P_WIDTH p 0).pset F.PP_STAT_L1_SUB p 0).pset F.PP_STAT_IDE_SECURE p 0).pset F.PT_FWD_CTL_TAG_MODE p 0
  let s3 : State := { s2 with
    fwd := { s2.fwd with fc := s2.fwd.fc.filter (fun e => e.1.1 != p) },
    lnk := { s2.lnk with l1Width := s2.lnk.l1Width.del p, util := s2.lnk.util.del p } }
  (s3.updUpL0 p).when (decide (3 ≤ st ∧ st ≤ 6)) (·.portEvent p 0 1)

/-- Every tombstone of a port ends (R258). -/
def State.endTombs (s : State) (p : Nat) : State :=
  (s.fwdUp (fun f => { f with tags := f.tags.filter (fun e => !(e.1.1 == p && (match e.2 with | .tomb _ => true | _ => false))) })).updTombs p

/-- Send the slot interrupt of a vDSP if its host has enabled it (R117). -/
def State.slotIrq (s : State) (v sl : Nat) : State := s.when (s.cf (.vdsp v sl) .slotIrqEn == 1) (·.emit (.slotIrq v sl))

/-- Write Data Link Layer Link Active of a vDSP; a change sets Data Link Layer State Changed and interrupts (R117, R124). -/
def State.setDll (s : State) (v sl : Nat) (on : Bool) : State :=
  if s.cf (.vdsp v sl) .dllActive = bit on then s
  else (((s.cfSet (.vdsp v sl) .dllActive (bit on)).cfSet (.vdsp v sl) .dllChanged 1).setB F.VST_SLOT_LINK_ACTIVE [v, sl] on).slotIrq v sl

/-- The ports of a vDSP's function group, and its target port or trunk egress otherwise. -/
def State.portsOfVdsp (s : State) (v sl : Nat) (remote : Nat → Option Nat) : List Nat :=
  let tgt := s.get F.VST_SLOT_TARGET [v, sl]
  match s.get F.VST_SLOT_KIND [v, sl] with
  | 1 => [tgt % 256]
  | 2 => ((s.snap.fbs.filter (fun k => s.get F.VST_FB_A_VDSP [k] == s.get F.VST_SLOT_VDSP [v, sl])).map
      (fun k => s.get F.VST_FB_A_SHARED_PORT [k])).eraseDups
  | 3 => (remote tgt).toList
  | _ => []

/-- The trunk port toward a GPID by the active route table: the egress of the device's route (R316). -/
def State.routePort (s : State) (gpid : Nat) : Option Nat :=
  let e := s.get F.FAB_RT_EGRESS [s.fab.rtBank, gpid / 256]
  if e = 0xFF then none else some e

/-- Contain a vDSP for a cause (R261, R262): it records the first cause, its host sees the link inactive and DPC triggered where it has
enabled DPC, Live tags are answered and tombstoned, queued requests are dropped, and the port of a physical binding is held Disabled.
A cause that arrives while it is contained changes nothing here (R264). -/
def State.containVdsp (s : State) (v sl cause : Nat) : State :=
  if s.contained v sl then s
  else
    let x := s.get F.VST_SLOT_VDSP [v, sl]
    let s1 := (((s.setB F.VST_CONT_CONTAINED [v, sl] true).set F.VST_CONT_CAUSE [v, sl] cause).setB F.VST_SLOT_CONTAINED [v, sl] true).setDll v sl false
    let s2 := s1.when (s.cf (.vdsp v sl) .dpcEnable != 0) (fun s =>
      ((s.cfSet (.vdsp v sl) .dpcTrigger 1).cfSet (.vdsp v sl) .dpcReason (dpcReasonOf cause)).when (s.cf (.vdsp v sl) .dpcIrqEn == 1)
        (·.emit (.dpcIrq v sl)))
    let s3 := match causeAer cause with
      | some f => s2.cfSet (.vdsp v sl) f 1
      | none => s2
    let whole := s.get F.VST_SLOT_KIND [v, sl] == 1
    let s4 := (s.portsOfVdsp v sl s.routePort).foldl (fun s p =>
      (s.tombLive p (fun h i => whole || (match s.trkOf h i with | some e => e.vdsp == x | none => false))).dropQueued p
        (fun k => decide (k.kind < 2) && (whole || k.vdsp == x))) s3
    let s5 := if whole then
        let p := s.get F.VST_SLOT_TARGET [v, sl] % 256
        ((s4.endTombs p).linkGone p (if s4.pon F.PP_CTL_ENABLE p then 9 else 0)).pset F.PT_CONT_C_VDSP p 1
      else s4
    s5.event .vst 2

/-- The posted-loss indication of a dropped posted request (R260), by its stream: the scope, the AER bit, POSTED_LOSS and its event. A TLP
that entered the fabric at another device is indicated there. -/
def State.postedLoss (s : State) (p : Pkt) : State :=
  let forVdsp := fun (s : State) (v sl : Nat) =>
    let s1 := (s.cfSet (.vdsp v sl) .aerInternal 1).containVdsp v sl 9
    (s1.setB F.VST_CONT_POSTED_LOSS [v, sl] true).portEvent (s.upPort v) 4 1
  if 144 ≤ p.srcId ∨ p.gsrc.isSome then s
  else
    match s.vsOfPort p.srcId with
    | some v =>
      match s.slotOfVdsp p.vdsp with
      | some (v', sl) => forVdsp s v' sl
      | none => ((s.cfSet (.up v) .aerInternal 1).pset F.PT_CONT_POSTED_LOSS p.srcId 1).portEvent p.srcId 4 1
    | none =>
      match s.snap.boundTo 1 p.srcId with
      | some (_, v, sl) => forVdsp s v sl
      | none =>
        match p.tlp? with
        | some t =>
          match s.snap.fbs.findSome? (fun k => if s.get F.VST_FB_A_SHARED_PORT [k] = p.srcId ∧
              s.snap.presentedRid (s.get F.VST_FB_A_VS [k]) ((s.slotOfVdsp (s.get F.VST_FB_A_VDSP [k])).getD (0, 0)).2
                (s.get F.VST_FB_A_PFUNC [k]) = t.rid then s.slotOfVdsp (s.get F.VST_FB_A_VDSP [k]) else none) with
          | some (v, sl) => forVdsp s v sl
          | none => (s.pset F.PT_CONT_POSTED_LOSS p.srcId 1).portEvent p.srcId 4 1
        | none => s

/-- Handle the packets that were lost, oldest first: posted requests give their indication, a non-posted request that could not be injected
is answered by its holder, a completion ends there (R207, R248, R260). -/
def State.settle : Nat → State → State
  | 0, s => s
  | n + 1, s =>
    match s.fwd.lostQ with
    | [] => s
    | p :: ps =>
      let s1 := (s.fwdUp (fun f => { f with lostQ := ps, held := f.held.del (p.key, p.seq) }))
      let s2 := match p.kind with
        | 0 => s1.postedLoss p
        | 1 => s1.synthSelf (pktStn p) p.trk
        | _ => s1
      State.settle n s2

/-- Handle every lost packet; a containment drops each queue once, so the bound is never reached. -/
def State.settled (s : State) : State := State.settle 65536 s

/-! ### Containment of a port and loss of a link -/

/-- The vDSPs that hold members on a shared port. -/
def State.vdspsOnShared (s : State) (p : Nat) : List (Nat × Nat) :=
  ((s.snap.fbs.filter (fun k => s.get F.VST_FB_A_SHARED_PORT [k] == p)).filterMap (fun k => s.slotOfVdsp (s.get F.VST_FB_A_VDSP [k]))).eraseDups

/-- Is a port shared (R110)? -/
def State.shared (s : State) (p : Nat) : Bool := decide (p ∈ s.vsx.shared.map (·.port))

/-- The C_ bit of PT_CONT for a cause (R265). -/
def State.contBit (s : State) (p cause : Nat) : State :=
  match cause with
  | 6 => s.pset F.PT_CONT_C_STALL p 1
  | 7 => s.pset F.PT_CONT_C_IDE p 1
  | 10 => s.pset F.PT_CONT_C_ROUTE p 1
  | 12 => s.pset F.PT_CONT_C_MESH p 1
  | _ => s.pset F.PT_CONT_C_LINK p 1

/-- A downstream port loses its link, stalls, fails IDE or loses its path (R261, R265, R266): its queues are dropped, its Live tags are
answered, and the vDSP of its binding, every vDSP with a member on it, or else the port itself is contained. Every tombstone ends when the
Data Link Layer goes down (R258). -/
def State.downPort (s : State) (p cause : Nat) (dlDown : Bool) : State :=
  let s1 := (s.tombLive p (fun _ _ => true)).dropQueued p (fun _ => true)
  let s2 := match s1.snap.boundTo 1 p with
    | some (_, v, sl) => s1.containVdsp v sl cause
    | none =>
      let vs : List (Nat × Nat) := s1.vdspsOnShared p
      let s3 := vs.foldl (fun (s : State) (x : Nat × Nat) => s.containVdsp x.1 x.2 (if cause = 5 then 11 else cause)) s1
      (((s3.pset F.PT_CONT_CONTAINED p 1).contBit p cause).fwdUp (fun f => { f with relWait := f.relWait.filter (· != p) })).portEvent p 4 0
  (if dlDown then s2.endTombs p else s2).settled

/-! ### Release (R263, R265) -/

/-- Does a TLP to a port remain in the device, so that its containment stays (R265)? -/
def State.toPort (s : State) (p : Nat) : Bool :=
  (List.range 4).any (fun c => !(s.gq p c).isEmpty || !(s.sq p c).isEmpty) || s.fwd.held.any (fun e => e.2.egress == p) ||
  s.mesh.pkts.any (fun e => match e.2.body with | .tlp _ => e.2.egress == p | .msg _ => false)

/-- A port contained in PT_CONT whose link has reached L0 since is released once no TLP to it remains (R265). -/
def State.releasePort (s : State) (p : Nat) : State :=
  if s.fwd.relWait.contains p && s.inL0 p && !s.toPort p then
    (([F.PT_CONT_CONTAINED, F.PT_CONT_C_LINK, F.PT_CONT_C_STALL, F.PT_CONT_C_IDE, F.PT_CONT_C_MESH].foldl (fun (s : State) (f : Fld) =>
      s.pset f p 0) s).fwdUp (fun f => { f with relWait := f.relWait.filter (· != p) })).portEvent p 4 2
  else s

/-- Does anything still hold a contained vDSP: an entry with it, or a TLP looked up to its binding? -/
def State.vdspBusy (s : State) (x : Nat) : Bool :=
  s.fwd.trk.any (fun e => e.2.vdsp == x) || s.fwd.held.any (fun e => e.2.vdsp == x) ||
  s.fwd.shq.any (fun e => e.2.any (fun p => p.vdsp == x)) || s.fwd.gateq.any (fun e => e.2.any (fun p => p.vdsp == x)) ||
  s.mesh.pkts.any (fun e => match e.2.body with | .tlp _ => e.2.vdsp == x | .msg _ => false)

/-- Has a remote-port binding a route, its trunk up (R331)? Other bindings need none. -/
def State.routeThere (s : State) (v sl : Nat) : Bool :=
  s.get F.VST_SLOT_KIND [v, sl] != 3 ||
  (match s.routePort (s.get F.VST_SLOT_TARGET [v, sl]) with
    | some p => s.tkOn (p / 8)
    | none => false)

/-- A host's release action: the vDSP waits for its release (R263). -/
def State.startRelease (s : State) (v sl : Nat) : State :=
  if s.contained v sl then s.fwdUp (fun f => { f with releasing := addNew f.releasing (s.get F.VST_SLOT_VDSP [v, sl]) }) else s

/-- The members of a vDSP's group: presented function, shared port and real requester ID. -/
def State.membersOf (s : State) (x : Nat) : List (Nat × Nat × Nat) :=
  (s.snap.fbs.filter (fun k => s.get F.VST_FB_A_VDSP [k] == x)).map (fun k =>
    (s.get F.VST_FB_A_PFUNC [k], s.get F.VST_FB_A_SHARED_PORT [k], s.get F.VST_FB_A_REAL_RID [k]))

/-- VST_FB_B of a member shows its shadows (R133). -/
def State.memSync (s : State) (v sl f : Nat) : State :=
  match s.snap.fbOf (s.get F.VST_SLOT_VDSP [v, sl]) f with
  | none => s
  | some k =>
    let fn : FnId := .mem v sl f
    (((((s.set F.VST_FB_B_BME [k] (s.cf fn .bme)).set F.VST_FB_B_MSE [k] (s.cf fn .mse)).set F.VST_FB_B_MPS [k] (s.cf fn .mps)).set
      F.VST_FB_B_MRRS [k] (s.cf fn .mrrs)).setB F.VST_FB_B_FLR_PEND [k] (s.fwd.flrAt.look (v, sl, f)).isSome).set F.VST_FB_B_NBAR [k]
        (s.fwd.bars.lookD (v, sl, f) []).length

/-- Send an FLR to a member's real function and reset its shadows (R133, R134). -/
def State.flrMember (s : State) (v sl : Nat) (m : Nat × Nat × Nat) : State :=
  (((s.cfReset (fun g => g == .mem v sl m.1) false).emit (.flr m.2.1 m.2.2)).fwdUp (fun f => { f with flrAt := f.flrAt.put (v, sl, m.1) s.now })).memSync
    v sl m.1

/-- Presence of a card in a slot, with its change bit and interrupt (R117). -/
def State.setPresent (s : State) (v sl : Nat) (on : Bool) : State :=
  (((s.setB F.VST_SLOT_PRESENT [v, sl] on).cfSet (.vdsp v sl) .presence (bit on)).cfSet (.vdsp v sl) .presenceChanged 1).slotIrq v sl

/-- The binding's link as the host sees it: a physical port's is up in L0, a function group's is up while its shared ports are, both only
with slot power on and no containment (R117, R262, R264). -/
def State.refreshDll (s : State) (v sl : Nat) : State :=
  let up := match s.get F.VST_SLOT_KIND [v, sl] with
    | 1 => s.inL0 (s.get F.VST_SLOT_TARGET [v, sl] % 256)
    | 2 => (s.portsOfVdsp v sl s.routePort).all (fun p => s.inL0 p && !s.vsx.reconfig.contains p)
    | 3 => decide ((v, sl) ∈ s.vsx.remoteUp)
    | _ => false
  s.setDll v sl (up && !s.contained v sl && s.cf (.vdsp v sl) .slotPower == 0 && s.cf (.vdsp v sl) .linkDisable == 0)

/-- What the target of a released binding sees: a physical port leaves Disabled for Detect, the members receive an FLR, the worker of a
remote binding is told (R263, R320). -/
def State.releaseTarget (s : State) (v sl : Nat) : State :=
  match s.get F.VST_SLOT_KIND [v, sl] with
  | 1 =>
    let p := s.get F.VST_SLOT_TARGET [v, sl] % 256
    (s.pset F.PT_CONT_C_VDSP p 0).pset F.PP_STAT_LINK_STATE p (if s.pon F.PP_CTL_ENABLE p then 1 else 0)
  | 2 => (s.membersOf (s.get F.VST_SLOT_VDSP [v, sl])).foldl (fun (s : State) m =>
      (s.flrMember v sl m).fwdUp (fun f => { f with flrRrs := addNew f.flrRrs (v, sl, m.1) })) s
  | 3 =>
    let g := s.get F.VST_SLOT_TARGET [v, sl]
    s.emit (.fab (g / 256) (.portCtl (s.get F.FAB_DEV_NUM [] * 256 + s.upPort v) (g % 256) .dpcRelease))
  | _ => s

/-- Clear a vDSP's containment. -/
def State.clearCont (s : State) (v sl x : Nat) : State :=
  let s1 : State := (s.setB F.VST_CONT_CONTAINED [v, sl] false).setB F.VST_CONT_POSTED_LOSS [v, sl] false
  let s2 : State := (s1.set F.VST_CONT_CAUSE [v, sl] 0).setB F.VST_SLOT_CONTAINED [v, sl] false
  s2.fwdUp (fun f => { f with releasing := f.releasing.filter (· != x) })

/-- A binding made while its slot was contained becomes visible (R117). -/
def State.showBinding (s : State) (v sl : Nat) : State :=
  if (v, sl) ∈ s.fwd.bindWait then
    (s.fwdUp (fun f => { f with bindWait := f.bindWait.filter (· != (v, sl)) })).setPresent v sl true
  else s

/-- CONTAINMENT_RELEASE: once nothing of the binding remains, CONTAINED and POSTED_LOSS clear, the port enters Detect, members receive an
FLR, and a binding made meanwhile becomes visible (R117, R263). -/
def State.release (s : State) (x : Nat) : State :=
  match s.slotOfVdsp x with
  | none => s
  | some (v, sl) =>
    if x ∈ s.fwd.releasing ∧ s.vdspBusy x = false ∧ s.routeThere v sl then
      ((((s.clearCont v sl x).releaseTarget v sl).showBinding v sl).refreshDll v sl).portEvent (s.upPort v) 4 2
    else s

end Sys2Proof.Machine
end

