-- ==== Sys2Proof/Machine/Ingress.lean ====
section
/-!
DEFINITION. What an ingress tile does with a TLP that arrives on a PCIe port (R141 to R144, R160, R176, R245, R256, R257, R267 to R270), and
requests that wait at step 3 (R151, R152, R174, R175, R259).
-/

namespace Sys2Proof.Machine

/-! ### The source of a TLP -/

/-- Who sends on a port: the host of a virtual switch, a device behind a slot, a member (its binding and presented function), a port that
is remote-bound, or nobody that a table knows. -/
inductive Sender where
  | host (v : Nat)
  | device (v sl : Nat)
  | member (v sl f : Nat)
  | rbound (gpid : Nat)
  | nobody
  deriving DecidableEq, Repr

/-- The sender of a TLP, by the table of the tile (R126, R143, R329). -/
def State.senderOf (_s : State) (T : FwdTable) (p : Nat) (t : Tlp) : Sender :=
  match T.vsOf p with
  | some v => .host v
  | none =>
    match T.boundTo 1 p with
    | some (_, v, sl) => .device v sl
    | none =>
      match T.fbByRid p t.rid with
      | some k =>
        match T.own.look (T.get F.VST_FB_A_VDSP [k]) with
        | some (v, sl) => .member v sl (T.get F.VST_FB_A_PFUNC [k])
        | none => .nobody
      | none =>
        match T.rbound.look p with
        | some g => .rbound g
        | none => .nobody

/-- The function that reports an error of an arriving TLP in AER: the upstream port function, or the vDSP of the binding (R257, R270). -/
def Sender.fn : Sender → Option FnId
  | .host v => some (.up v)
  | .device v sl | .member v sl _ => some (.vdsp v sl)
  | .rbound _ | .nobody => none

/-- The bit of an uncorrectable error in the AER mask and severity registers (PRESUMED: the places of PCI Express). -/
def aerBit : CfgF → Nat
  | .aerPoisoned => 12 | .aerUnexpected => 16 | .aerMalformed => 18 | .aerEcrc => 19 | .aerUr => 20 | .aerAcs => 21 | .aerInternal => 22
  | .aerSurpriseDown => 5 | .aerTranslation => 31 | _ => 32

/-- Does an error that a vDSP detects contain it under cause 3 of R261: an uncorrectable error, not masked, DPC enabled? PCI Express excepts the
non-fatal errors that it reports as advisory (`adv`). -/
def State.cause3 (s : State) (v sl : Nat) (f : CfgF) (adv : Bool) : Bool :=
  decide (aerBit f < 32) && s.cf (.vdsp v sl) .dpcEnable != 0 && !(s.cf (.vdsp v sl) .aerUncMask).testBit (aerBit f) &&
    !(adv && !(s.cf (.vdsp v sl) .aerUncSeverity).testBit (aerBit f))

/-- Set an AER status bit of the sender's function; an error at a vDSP may contain it (R261). -/
def State.aer (s : State) (x : Sender) (f : CfgF) (adv : Bool := false) : State :=
  match x with
  | .host v => s.cfSet (.up v) f 1
  | .device v sl | .member v sl _ =>
    let s1 := s.cfSet (.vdsp v sl) f 1
    if s1.cause3 v sl f adv then s1.containVdsp v sl 3 else s1
  | _ => s

/-- Bytes of a Max_Payload_Size code. -/
def mpsBytes (c : Nat) : Nat := 128 <<< min c 5

/-- The Max_Payload_Size in force on a port (R573). -/
def State.mpsOf (s : State) (T : FwdTable) (p : Nat) (x : Sender) : Nat :=
  match x with
  | .host v => mpsBytes (T.cf (.up v) .mps)
  | .device v sl => mpsBytes (T.cf (.vdsp v sl) .mps)
  | .member v sl f => mpsBytes (T.cf (.mem v sl f) .mps)
  | .rbound _ => mpsBytes (s.fab.mps.lookD p 5)
  | .nobody => 4096

/-! ### Receive credits (R80, R165) -/

/-- Credits in use on a port: headers and data of a type. -/
def State.useCredit (s : State) (p : Nat) (t : Tlp) : State :=
  s.fwdUp (fun f => { f with credit := f.credit.upd (p, tlpClass t) (0, 0) (fun c => (c.1 + 1, c.2 + tlpDataCredits t)) })

/-- Bytes of a TLP's data packet on a trunk: 16 bytes of header and 8 of trailer (R277). -/
def kBytes (t : Tlp) : Nat := tlpBytes t + 24

/-- Occupancy of a class region of a trunk's receive store: stored packets, and TLPs released from it whose space is not yet confirmed
(R290, R293). -/
def State.rxOcc (s : State) (j c : Nat) : Nat :=
  (((s.tk j).store.filter (fun e => e.2.sc == c && e.2.stomp == 0)).map (fun e => kBytes e.2.tlp)).sum +
  ((s.fwd.held.filter (fun e => e.2.srcId == 8 * j && e.2.sc == c && !e.2.made)).map (fun e => e.2.bytes + 24)).sum +
  ((s.fwd.waits.filter (fun w => w.src == 8 * j && w.dec.sc == c)).map (fun w => kBytes w.req)).sum

/-- The XOFF and XON levels of a class in units of 256 bytes per lane (FAB_TRK_FC). -/
def State.xoffLevel (s : State) (j c : Nat) : Nat :=
  s.get ([F.FAB_TRK_FC_XOFF_SC0, F.FAB_TRK_FC_XOFF_SC1, F.FAB_TRK_FC_XOFF_SC2, F.FAB_TRK_FC_XOFF_SC3].getD c F.FAB_TRK_FC_XOFF_SC0) [j]
def State.xonLevel (s : State) (j c : Nat) : Nat :=
  s.get ([F.FAB_TRK_FC_XON_SC0, F.FAB_TRK_FC_XON_SC1, F.FAB_TRK_FC_XON_SC2, F.FAB_TRK_FC_XON_SC3].getD c F.FAB_TRK_FC_XON_SC0) [j]

/-- A class region of the receive store in units of 256 bytes per lane (R293, FAB_TRK_FC). -/
def rxUnits (c : Nat) : Nat := [8, 32, 64, 32].getD c 0

/-- The anchor of a trunk: its lowest-index member in the spray set (R301). -/
def State.anchor (s : State) (j : Nat) : Option Nat := (List.range 8).find? (fun i => (s.get F.FAB_TRK_STAT_MEMBERS [j]).testBit i)

/-- Send a control packet on a trunk's anchor. -/
def State.tkSend (s : State) (j : Nat) (m : KMsg) : State :=
  match s.anchor j with
  | some i => { s with lnk := { s.lnk with lastTlp := s.lnk.lastTlp.put (8 * j + i) s.now } }.emit (.kfp (8 * j + i) m)
  | none => s

/-- XON and XOFF of a trunk's receive regions: an FC goes out at every change (R294). -/
def State.tkFc (s : State) (j : Nat) : State :=
  if s.tkOn j then
    let old := s.get F.FAB_TRK_STAT_XOFF_TX [j]
    let unit := 256 * s.trunkLanes j
    let new := (List.range 4).foldl (fun (v c : Nat) =>
      let o := s.rxOcc j c
      let b := if old.testBit c then decide (s.xonLevel j c * unit < o) else decide (s.xoffLevel j c * unit ≤ o)
      v + (if b then 1 <<< c else 0)) 0
    if new = old then s else (s.set F.FAB_TRK_STAT_XOFF_TX [j] new).tkSend j (.fc new)
  else s

/-- Return the credits of a TLP whose space is free (R165); on a trunk the space of its receive store is free (R293). -/
def State.freeCredit (s : State) (p : Nat) (t : Tlp) : State :=
  if s.isTrunk p then s.tkFc (p / 8) else
  (s.fwdUp (fun f => { f with credit := f.credit.upd (p, tlpClass t) (0, 0) (fun c => (c.1 - 1, c.2 - tlpDataCredits t)) })).emit
    (.credits p (tlpClass t) 1 (tlpDataCredits t))

/-! ### Completions -/

/-- Log a completion or timeout in PT_CPL_LOG if the log is free (R249, R256, R257). -/
def State.cplLog (s : State) (p rid etag cause status cid : Nat) : State :=
  if s.pon F.PT_CPL_LOG_VALID p then s
  else s.wr ⟨.PT_CPL_LOG, [p / 4, p % 4]⟩ (packW [(0, 16, rid), (16, 14, etag), (30, 2, cause), (32, 1, 1), (33, 3, status), (48, 16, cid)])

/-- A completion that arrives on a port, by the state of its tag (R160, R176, R245, R256, R257). -/
def State.cplArrive (s : State) (p : Nat) (x : Sender) (t : Tlp) (stomp : Bool) (mark : Bool := false) (gsrc : Option Nat := none) : State :=
  match s.tagSt p t.tag with
  | .live stn trk =>
    let e := s.trkOf stn trk
    let pk : Pkt := { dest := 0, src := 0, srcId := p, egress := 4 * stn + (e.map (·.slot)).getD 0, sc := (e.map (·.sc)).getD 0, kind := 2,
                      bytes := tlpBytes t, epoch := s.epochOf (p / 4), trk := trk, mark := mark, gsrc := gsrc,
                      stomp := if stomp then 1 else 0, body := .tlp t }
    let s1 := s.sendPkt pk
    if !stomp && cplLast t then s1.setTag p t.tag (.leased stn) else s1
  | .tomb _ =>
    (((s.cplLog p t.rid t.tag 0 t.status t.cid).portCount p 11).portEvent p 3 0).freeCredit p t
  | _ =>
    ((((s.cplLog p t.rid t.tag 1 t.status t.cid).portCount p 12).portEvent p 3 1).aer x .aerUnexpected true).freeCredit p t

/-! ### Refusals -/

/-- The completer ID of the ingress port's own answers: the upstream port function, or the vDSP. -/
def State.ownCid (s : State) (x : Sender) : Nat :=
  match x with
  | .host v => s.cf (.up v) .busPri * 256
  | .device v sl | .member v sl _ => s.cf (.up v) .busSec * 256 + sl * 8
  | _ => 0

/-- Refuse a request with a completion status, or drop and count it if posted; its credits are free. -/
def State.refuse (s : State) (p : Nat) (x : Sender) (t : Tlp) (status : Nat) : State :=
  (s.refuseTlp p t status (s.ownCid x)).freeCredit p t

/-- A refusal by window, ACS or R140: PT_WIN_LOG, port counter 15, WIN_REFUSED and AER (R219, R224). -/
def State.refuseWin (s : State) (p : Nat) (x : Sender) (t : Tlp) (cause egress : Nat) : State :=
  let v := match x with
    | .host v | .device v _ | .member v _ _ => v
    | _ => 0
  let mem := t.kind = .mrd ∨ t.kind = .mwr ∨ t.kind = .atomic ∨ t.kind = .dmwr
  let s1 := s.when (decide mem && !s.pon F.PT_WIN_LOG_VALID p) (fun (s : State) =>
    s.wr ⟨.PT_WIN_LOG, [p / 4, p % 4]⟩ (packW [(0, 6, v), (6, 1, bit (t.kind != .mrd)), (7, 1, 1), (8, 2, cause), (16, 8, egress)])
      |>.wr ⟨.PT_WIN_ADDR, [p / 4, p % 4]⟩ (BitVec.ofNat 64 t.addr))
  let s2 := s1.when (decide mem) (fun (s : State) => (s.portCount p 15).portEvent p 2 3)
  (s2.aer x (if cause = 3 then .aerAcs else .aerUr) (tlpClass t == 1)).refuse p x t 1

/-- Drop a message: port counter 19 and MSG_DROPPED (R136, R140). -/
def State.dropMsg (s : State) (p : Nat) (t : Tlp) : State := ((s.portCount p 19).portEvent p 2 4).freeCredit p t

/-! ### Step 3 -/

/-- A class's TLPs of one source and egress between step 3 and release (R152). -/
def State.streamLoad (s : State) (k : SKey) : Nat := (s.fwd.held.filter (fun e => e.1.1 == k)).length

/-- PT_GATE_STAT.TAG_WAIT of an egress port: a source now waits for a lease of its tags. -/
def State.updTagWait (s : State) (e : Nat) : State :=
  if e < 144 then
    s.pset F.PT_GATE_STAT_TAG_WAIT e (bit (s.fwd.waits.any (fun w => w.dec.egress == e && (s.leaseOf (stnOfSrc w.src) e).isEmpty)))
  else s

/-- Bytes of a class that a trunk sender counts against its non-posted budget: the requests whose tag of the trunk port is Live (R320). -/
def State.npLoad (s : State) (port sc : Nat) : Nat :=
  ((s.fwd.tags.filter (fun e => e.1.1 == port)).map (fun e => match e.2 with
    | .live x i => (match s.trkOf x i with
      | some e => if e.sc = sc then e.bytes + 24 else 0
      | none => 0)
    | _ => 0)).sum

/-- The non-posted budget of a trunk class in bytes: min(FAB_TRK_NPB, XOFF level − 1) units of 256 bytes per lane (R320). -/
def State.npBudget (s : State) (port sc : Nat) : Nat :=
  let j := port / 8
  let b := match sc with
    | 0 => s.get F.FAB_TRK_NPB_NPB_SC0 [j] | 1 => s.get F.FAB_TRK_NPB_NPB_SC1 [j]
    | 2 => s.get F.FAB_TRK_NPB_NPB_SC2 [j] | _ => s.get F.FAB_TRK_NPB_NPB_SC3 [j]
  min b (s.xoffLevel j sc - 1) * 256 * s.trunkLanes j

/-- May a non-posted request go on: an entry, a tag, room in its stream (R152), and the budget of a trunk (R320)? -/
def State.npReady (s : State) (src : Nat) (d : Dec) (pick : Nat) : Option (Nat × Nat) :=
  if 4096 ≤ s.streamLoad (src, d.egress, d.sc) then none
  else if s.isTrunk d.egress ∧ s.npBudget d.egress d.sc < s.npLoad d.egress d.sc + kBytes d.tlp then none
  else s.canTrack (stnOfSrc src) d pick

/-- Step 3 of a decided TLP (R151, R152): a posted request or completion goes on unless its stream is full or an earlier one of it waits;
a non-posted request goes on if it finds an entry and a tag, and otherwise waits, and its source asks for a lease. -/
def State.step3 (s : State) (src port : Nat) (d : Dec) (req : Tlp) (pick stomp : Nat) : State :=
  let k : SKey := (src, d.egress, d.sc)
  if tlpClass req = 1 then
    match s.npReady src d pick with
    | some (i, tag) => s.trackSend src (port % 4) d req i tag stomp
    | none =>
      if stomp ≠ 0 then s
      else
        ((s.fwdUp (fun f => { f with waits := f.waits ++ [{ src := src, port := port, dec := d, req := req, since := s.now }] })).askLease
          (stnOfSrc src) d.egress).updTagWait d.egress
  else if s.streamLoad k < 4096 ∧ ¬ (s.fwd.waits.any (fun w => tlpClass w.req != 1 && w.src == src && w.dec.egress == d.egress && w.dec.sc == d.sc)) then
    s.sendPkt (d.pkt src 0 stomp)
  else s.fwdUp (fun f => { f with waits := f.waits ++ [{ src := src, port := port, dec := d, req := req, since := s.now }] })

/-- Let the first posted request or completion of a stream that waits go on once the stream has room (R152). -/
def State.resumeStream (s : State) (k : SKey) : State :=
  if s.streamLoad k < 4096 then
    match takeFirst (fun w => tlpClass w.req != 1 && (w.src, w.dec.egress, w.dec.sc) == k) s.fwd.waits with
    | some (w, rest) => (s.fwdUp (fun f => { f with waits := rest })).sendPkt (w.dec.pkt w.src 0 0)
    | none => s
  else s

/-- NP_REQUEST_RESUME: the `n`-th waiting request takes an entry and a tag if it now finds both (R18, R151). -/
def State.npResume (s : State) (n pick : Nat) : State :=
  match s.fwd.waits[n]? with
  | none => s
  | some w =>
    if tlpClass w.req = 1 then
      match s.npReady w.src w.dec pick with
      | some (i, tag) =>
        ((s.fwdUp (fun f => { f with waits := f.waits.eraseIdx n })).trackSend w.src (w.port % 4) w.dec w.req i tag 0).updTagWait w.dec.egress
      | none => s
    else s

/-- TAG_WAIT_TIMEOUT: a request that has waited longer than its egress timeout is answered with Completer Abort, counted and raised at the
port it arrived on; a station's request that waited for tags is counted at the egress port (R259). -/
def State.npTimeout (s : State) (n : Nat) : State :=
  match s.fwd.waits[n]? with
  | none => s
  | some w =>
    if tlpClass w.req = 1 ∧ w.since + s.timeoutNs w.dec.egress < s.now then
      let s1 := (s.fwdUp (fun f => { f with waits := f.waits.eraseIdx n })).updTagWait w.dec.egress
      if w.src < 144 then
        ((((s1.portCount w.src 13).portEvent w.src 3 3).answerTlp w.src w.dec.sc (cplFor w.req 4 (s.synthCid w.dec.vdsp w.dec.egress)))).freeCredit
          w.src w.req
      else if (s.leaseOf (stnOfSrc w.src) w.dec.egress).isEmpty ∧ w.dec.egress < 144 then
        (s1.portCount w.dec.egress 13).portEvent w.dec.egress 3 3
      else s1
    else s

/-! ### The ingress checks -/

/-- What a lookup decided, bound to the tile's epochs (R148, R228). -/
def State.bindDec (s : State) (tile : Nat) (d : Dec) : Dec :=
  { d with epoch := s.epochOf tile, winEpoch := s.get F.PT_WIN_BANK_EPOCH [tile] }

/-- Does the BF288 rewrite the requester ID, completer ID or address of a TLP (R269)? -/
def rewrites (x : Sender) (p : Nat) (d : Option Dec) (s : State) : Bool :=
  (match x with | .member _ _ _ => true | _ => false) || s.shared p || (match d with | some d => d.mbr.isSome | none => false)

/-- The error messages of a device that contain its vDSP (R261): ERR_NONFATAL 0x31, ERR_FATAL 0x33 (PRESUMED codes of PCI Express). -/
def State.errMsgCause (s : State) (v sl code : Nat) : Option Nat :=
  let en := s.cf (.vdsp v sl) .dpcEnable
  if code = 0x33 ∧ (en = 1 ∨ en = 2) then some 1 else if code = 0x31 ∧ en = 2 then some 2 else none

/-- The route of a request or message by its sender (R143, R214, R215, R330). -/
def State.routeFrom (s : State) (T : FwdTable) (tile : Nat) (x : Sender) (t : Tlp) : Route :=
  match x with
  | .host v => s.routeHost T tile v t s.routePort
  | .device v sl => s.routeDevice T tile v sl t s.routePort
  | .member v sl f =>
    if T.cf (.mem v sl f) .bme = 0 then .refuseBme
    else s.routeDevice T tile v sl { t with rid := T.presentedRid v sl f } s.routePort
  | .rbound g =>
    match s.routePort g with
    | some p => .fwd { egress := p, sc := (match t.kind with
        | .msg => 0
        | _ => (0x6AAA >>> (2 * t.tc)) % 4), dst := g, tlp := t }
    | none => .refuse 0 0xFF
  | .nobody => .refuse 0 0xFF

/-- A broadcast message of a host goes to every physical-port and remote-port binding of its virtual switch; for a function group the
device absorbs it and answers PME_Turn_Off (0x19) with PME_TO_Ack (0x1B) (R140; PRESUMED codes). -/
def State.broadcast (s : State) (T : FwdTable) (tile p v : Nat) (t : Tlp) : State :=
  (T.slots v).foldl (fun (s : State) (sl : Nat) =>
    match T.get F.VST_SLOT_KIND [v, sl] with
    | 2 => if t.code = 0x19 then s.answerTlp p 0 { kind := .msg, code := 0x1B, rid := s.cf (.up v) .busSec * 256 + sl * 8 } else s
    | _ => match s.toBinding T v sl t 0 true s.routePort with
      | .fwd d => s.step3 p p (s.bindDec tile d) t 0 0
      | _ => s) s

/-- Can the egress link mode represent the TLP's content (R72)? -/
def State.representable (s : State) (egress : Nat) (t : Tlp) : Bool :=
  if s.isTrunk egress then true
  else if s.pon F.PP_STAT_FLIT egress then t.carries != 1 else t.carries != 2

/-- A decided TLP at the ingress tile: the ECRC check before a rewrite (R268, R269), a contained egress port (R265, R266), the
untranslatable content (R72), then step 3. -/
def State.decided (s : State) (p : Nat) (x : Sender) (t : Tlp) (d : Dec) (pick stomp : Nat) : State :=
  if t.ecrcBad ∧ rewrites x p (some d) s then (((s.portCount p 17).portEvent p 1 1).aer x .aerEcrc).refuse p x t 1
  else if d.egress < 144 ∧ s.pon F.PT_CONT_CONTAINED d.egress then (s.portCount p 23).refuse p x t 1
  else if ¬ s.representable d.egress t then (s.aer x .aerTranslation (tlpClass t == 1)).refuse p x t 1
  else s.step3 p p (s.bindDec (p / 4) d) t pick stomp

/-- Everything after the integrity checks: lookup and action. An upstream port without a virtual switch answers configuration requests with
Request Retry Status (R68). `k` handles what the device itself answers: its own functions, the BAR0 of the
management function, the instance BARs and the members' configuration space. -/
def State.lookupTlp (s : State) (k : State → Nat → Nat → Route → Tlp → State) (p : Nat) (x : Sender) (T : FwdTable) (t : Tlp)
    (pick stomp : Nat) : State :=
  match (if x = .nobody ∧ s.role p = 0 ∧ (t.kind = .cfgrd ∨ t.kind = .cfgwr) then .retry else s.routeFrom T (p / 4) x t) with
  | .fwd d => s.decided p x t d pick stomp
  | .refuse c e => s.refuseWin p x t c e
  | .refuseEmpty => (s.aer x .aerUr (tlpClass t == 1)).refuse p x t 1
  | .refuseBme => (s.aer x .aerUr (tlpClass t == 1)).refuse p x t 1
  | .refuseContained _ => (s.portCount p 23).refuse p x t 1
  | .drop => s.dropMsg p t
  | .retry => s.refuse p x t 2
  | .consume =>
    match x, t.route with
    | .host v, .broadcast => (s.broadcast T (p / 4) p v t).freeCredit p t
    | _, _ => s.freeCredit p t
  | r => if stomp ≠ 0 then s else (k s p pick r t).freeCredit p t

/-- A message from a device: an error message may contain the vDSP and is absorbed (R261). -/
def State.deviceMsg (s : State) (k : State → Nat → Nat → Route → Tlp → State) (p : Nat) (x : Sender) (T : FwdTable) (t : Tlp)
    (pick : Nat) : State :=
  match x with
  | .device v sl | .member v sl _ =>
    match s.errMsgCause v sl t.code with
    | some c => (s.containVdsp v sl c).freeCredit p t
    | none => s.lookupTlp k p x T t pick 0
  | _ => s.lookupTlp k p x T t pick 0

/-- A TLP whose link integrity check passed: malformed TLPs and bad ECRC end here; a poisoned TLP is reported and goes on (R141, R267,
R268). -/
def State.checkedTlp (s : State) (k : State → Nat → Nat → Route → Tlp → State) (p : Nat) (t : Tlp) (pick stomp : Nat) : State :=
  let T := s.tableOf (p / 4)
  let x := s.senderOf T p t
  let s0 := (s.useCredit p t)
  if t.malformed ∨ (t.idePrefix ∧ ¬ s.pon F.PP_STAT_IDE_SECURE p) ∨ s.mpsOf T p x < tlpPayload t then
    ((((s0.portCount p 18).portEvent p 1 3).aer x .aerMalformed).freeCredit p t)
  else if t.ecrc && t.ecrcBad && (s.shared p || (x.fn.map (fun f => s.cf f .ecrcCheck == 1)).getD false) then
    let s1 := ((s0.portCount p 17).portEvent p 1 1).aer x .aerEcrc
    if t.kind = .cpl then s1.freeCredit p t else s1.refuse p x t 1
  else
    let s1 := s0.when t.poison (fun (s : State) => ((s.portCount p 16).portEvent p 1 2).aer x .aerPoisoned true)
    if t.kind = .cpl then s1.cplArrive p x t (stomp != 0)
    else if t.kind = .msg then s1.deviceMsg k p x T t pick
    else s1.lookupTlp k p x T t pick stomp

/-- Count a TLP received (R533, R536). -/
def State.countRecv (s : State) (p : Nat) (t : Tlp) : State :=
  ((s.portCount p 0).portCount p 1 (tlpBytes t)).bwAdd p 0 (tlpBytes t)

/-- TLP_RECEIVED on a PCIe port in L0 (R141, R142, R160): a TLP whose check failed is replayed and does not enter; in non-Flit operation a
started frame with a bad tail is stomped. A port whose IDE stream has failed accepts no TLP until new keys (R95). -/
def State.ingress (s : State) (k : State → Nat → Nat → Route → Tlp → State) (p : Nat) (t : Tlp) (chk : LinkChk) (pick : Nat) : State :=
  if s.portWidth p = 0 ∨ ¬ s.inL0 p ∨ s.role p = 2 ∨ p ∈ s.lnk.ideBad then s
  else
    let x := s.senderOf (s.tableOf (p / 4)) p t
    match chk with
    | .good => ((s.countRecv p t).checkedTlp k p t pick 0).settled
    | .replayed => s.aer x .aerBadTlp
    | .badTail =>
      if s.pon F.PP_STAT_FLIT p then s.aer x .aerBadTlp
      else (((s.portCount p 5).aer x .aerBadTlp).checkedTlp k p t pick 1).settled

end Sys2Proof.Machine
end

