-- ==== Sys2Proof/Machine/Path.lean ====
section
/-!
DEFINITION. The commands of the forwarding path behind the ingress checks: ejection, resends and confirmations (R18, R153, R181, R182),
shaper grants and scheduling (R438, R448), gap timeouts (R157), tag leases (R174), completion timeouts (R247 to R252), quarantines (R255),
egress stall (R261), tracker loss (R270), and the table swaps of R146 and R228 up to their completion.
-/

namespace Sys2Proof.Machine

/-! ### Bank swaps (R146, R228, R571) -/

/-- Code of a bank set in the record of the last epoch. -/
def BankSet.code : BankSet → Nat
  | .fwd => 0 | .win => 1 | .gate => 2

/-- The checking stations of a bank set (R146, R228). -/
def BankSet.stations : BankSet → List Nat
  | .gate => List.range 52 ++ [stnMgt0, stnMgt1, stnSec, stnTel]
  | _ => List.range 36

/-- Is a station waited for: in service, its router working (or the pair router of an x16 tile), and reachable (R571)? -/
def State.waitsFor (s : State) (x : Nat) : Bool :=
  let r := s.entryRouter x
  let m := routerOfStn stnMgt0
  s.powered x && (s.rtrOk r) && !(s.escVec m r && s.escNext m r == 5)

/-- SWAP_PEND of a bank set (R228). -/
def State.swapPend (s : State) (b : BankSet) (on : Bool) : State :=
  match b with
  | .fwd => (List.range 36).foldl (fun (s : State) (t : Nat) => s.setB F.PT_FWD_EPOCH_SWAP_PEND [t] on) s
  | .win => (List.range 36).foldl (fun (s : State) (t : Nat) => s.setB F.PT_WIN_BANK_SWAP_PEND [t] on) s
  | .gate => s.setB F.SEC_GATE_CTL_SWAP_PEND [] on

/-- Send the messages of the first swap of the queue if it has not been sent (R146). -/
def State.startSwap (s : State) : State :=
  match s.fwd.swaps with
  | [] => s
  | w :: rest =>
    if w.sent then s
    else
      let l := w.set.stations.filter (fun x => s.waitsFor x)
      let s1 := s.fwdUp (fun f => { f with swaps := { w with sent := true, left := l } :: rest })
      l.foldl (fun (s : State) (x : Nat) => s.sendMsg stnMgt0 x (.swap w.set w.epoch)) (s1.swapPend w.set true)

/-- Queue a swap of a bank set; a forwarding swap installs the present tables under its epoch (R146). -/
def State.queueSwap (s : State) (b : BankSet) (after : After) : State :=
  let e := (s.fwd.epochs.lookD b.code 0 + 1) % 2 ^ 32
  let s1 := s.fwdUp (fun f => { f with
    epochs := f.epochs.put b.code e,
    tabs := match b with
      | .fwd => f.tabs.put e s.snap
      | _ => f.tabs,
    swaps := f.swaps ++ [{ set := b, epoch := e, left := [], sent := false, after := after }] })
  s1.startSwap

/-- A station swaps its copy and advances its epoch by one (R146, R228). -/
def State.swapAt (s : State) (x : Nat) (b : BankSet) (e : Nat) : State :=
  match b with
  | .fwd => ((s.set F.PT_FWD_EPOCH_EPOCH [x] e).event (.tile x 2) 0)
  | .win => ((s.set F.PT_WIN_BANK_EPOCH [x] e).set F.PT_WIN_BANK_ACTIVE [x] (1 - s.get F.PT_WIN_BANK_ACTIVE [x])).event (.tile x 2) 0
  | .gate => s.fwdUp (fun f => { f with gateBank := f.gateBank.put x (1 - (s.gateBankOf x), e) })

/-! ### Inboxes -/

/-- The first message of a station's inbox that a test picks, and the state without it. -/
def State.popMsg (s : State) (x : Nat) (q : IMsg → Bool) : Option (IMsg × State) :=
  (takeFirst q (s.mesh.inbox.lookD x [])).map (fun r => (r.1, s.meshUp (fun m => { m with inbox := m.inbox.put x r.2 })))

/-- SWAP_MESSAGE at a station: it swaps and acknowledges (R146, R228). -/
def State.swapMessage (s : State) (x : Nat) : State :=
  match s.popMsg x (fun m => match m with | .swap _ _ => true | _ => false) with
  | some (.swap b e, s1) => (s1.swapAt x b e).sendMsg x stnMgt0 (.swapAck b x)
  | _ => s

/-- The management station takes an acknowledgement off a swap. -/
def State.swapAck (s : State) (b : BankSet) (x : Nat) : State :=
  s.fwdUp (fun f => { f with swaps := match f.swaps with
    | w :: rest => if w.set = b ∧ w.sent then { w with left := w.left.filter (· != x) } :: rest else w :: rest
    | [] => [] })

/-! ### Congestion marks and echoes (R171, R444) -/

/-- Echo a marked packet to its source: at most one echo per stream in 1 µs; further marks add to the next COUNT, at most 255. On a
KFP 1.1 egress the mark crosses the trunk instead (R306, R307). -/
def State.echoMark (s : State) (p : Pkt) : State :=
  if s.isTrunk p.egress ∧ s.get F.FAB_TRK_STAT_VER_MIN [p.egress / 8] ≠ 0 then s
  else
    let e : Nat × Nat × Nat := s.fwd.echoAt.lookD p.key (0, 0, 1)
    let n := min 255 (e.2.1 + 1)
    if e.2.2 = 1 ∨ e.1 + 1000 ≤ s.now then
      ((s.fwdUp (fun f => { f with echoAt := f.echoAt.put p.key (s.now, 0, 0) })).portCount p.egress 21).sendMsg (p.egress / 4) (pktStn p)
        (.echo p.srcId p.egress p.sc p.seq n)
    else s.fwdUp (fun f => { f with echoAt := f.echoAt.put p.key (e.1, n, 0) })

/-! ### Ejection -/

/-- Record a sequence number at the gate as arrived (R153). -/
def State.gateGot (s : State) (k : SKey) (q : Nat) : State :=
  (s.fwdUp (fun f => { f with gates := f.gates.put k { s.gate k with got := addNew (s.gate k).got q } })).gateRefresh k

/-- Does the gate drop a request that arrives for a contained port, or of a contained vDSP's binding (R262, R265, R266)? -/
def State.scopeDrops (s : State) (p : Pkt) : Bool :=
  decide (p.kind < 2) && decide (p.egress < 144) &&
  (s.pon F.PT_CONT_CONTAINED p.egress || (match s.slotOfVdsp p.vdsp with | some (v, sl) => s.contained v sl | none => false))

/-- A TLP arrives at its egress tile: a duplicate is discarded; a request to a contained scope is dropped; otherwise it is marked if its class is at the threshold, enters the gate
queue, and the gate releases what may pass (R153, R154, R171). -/
def State.gateArrive (s : State) (p0 : Pkt) : State :=
  if (s.gate p0.key).dup p0.seq then (s.portCount p0.egress 4).portEvent p0.egress 2 2
  else if s.scopeDrops p0 then (((s.gateGot p0.key p0.seq).portCount p0.egress 23).dropOne true p0).gateRun p0.egress p0.sc
  else
    let th := s.markAt p0.egress p0.sc
    let mark := p0.mark || (decide (0 < p0.sc ∧ th ≠ 0) && decide (th ≤ bytesOf (s.gq p0.egress p0.sc)))
    let p := { p0 with mark := mark }
    let s1 := s.when (mark && !p0.mark) (fun (s : State) => (s.portCount p.egress 7).portEvent p.egress 5 0)
    let s2 := ((s1.when mark (·.echoMark p)).fwdUp (fun f => { f with gateq := f.gateq.upd (p.egress, p.sc) [] (· ++ [p]) })).gateGot p.key p.seq
    (s2.when (!s2.releasable p) (·.portCount p.egress 8)).gateRun p.egress p.sc

/-- A completion reaches a station without ports: the holder handles it and confirms it (R176, R246). -/
def State.stationCpl (s : State) (x : Nat) (p : Pkt) : State :=
  ((s.holderCpl p).1).sendMsg x (pktStn p) (.tailConf p.srcId p.egress p.sc p.seq)

/-- What a destination station does with a whole packet (R18, R181, R192). -/
def State.deliver (s : State) (r : Nat) (p : Pkt) : State :=
  let x := if p.egress < 144 then p.egress / 4 else stnOfRouter r
  if !s.powered x then s.rtrCount r 12
  else
    match p.body with
    | .msg m =>
      if p.stomp ≠ 0 then s
      else match m with
        | .swapAck b y => s.swapAck b y
        | .leaseReturn stn e tags =>
          tags.foldl (fun (s : State) (tag : Nat) => match s.tagSt e tag with
            | .leased y => if y = stn then s.setTag e tag .pool else s
            | _ => s) s
        | m => s.meshUp (fun w => { w with inbox := w.inbox.upd x [] (· ++ [m]) })
    | .tlp _ =>
      if p.stomp = 1 then (if x < 36 then (s.gateGot p.key p.seq).gateRun p.egress p.sc else s)
      else if p.stomp ≠ 0 then s.sendMsg x (pktStn p) (.resend p.srcId p.egress p.sc p.seq)
      else if x < 36 then s.gateArrive p else s.stationCpl x p

/-- PACKET_EJECTED at a router: the oldest packet whose tail has landed there is handed to its station. -/
def State.eject (s : State) (r : Nat) : State :=
  match takeFirst (fun (e : Nat × Nat) => e.1 == r) s.mesh.landed with
  | none => s
  | some ((_, pid), rest) =>
    let s1 := s.meshUp (fun m => { m with landed := rest, pkts := m.pkts.del pid })
    match s.mesh.pkts.look pid with
    | some p => (s1.deliver r p).settled
    | none => s1

/-! ### Resend and confirmation -/

/-- A held copy (R20). -/
def State.heldOf (s : State) (k : SKey) (q : Nat) : Option Pkt := s.fwd.held.look (k, q)

/-- Resend a held copy with RESEND set and its own number (R20, R182). -/
def State.resendHeld (s : State) (k : SKey) (q : Nat) : State :=
  match s.heldOf k q with
  | some p => s.launch { p with resend := true, stomp := 0 }
  | none => s

/-- RESEND_REQUEST at a source station (R182). -/
def State.resendRequest (s : State) (x : Nat) : State :=
  match s.popMsg x (fun m => match m with | .resend _ _ _ _ => true | _ => false) with
  | some (.resend a e c q, s1) => (s1.resendHeld (a, e, c) q).settled
  | _ => s

/-- Send the expiry message of an entry to its egress tile (R248). -/
def State.sendExpiry (s : State) (x : Nat) (e : TrkE) : State := s.sendMsg x (e.egress / 4) (.expiry e.egress e.etag)

/-- The tail confirmation of a non-posted request sets CONFIRMED; an Expired entry now sends its expiry message (R18, R248). -/
def State.confirmTrk (s : State) (p : Pkt) : State :=
  if p.kind ≠ 1 then s
  else
    let x := pktStn p
    match s.trkOf x p.trk with
    | some e =>
      let s1 := s.putTrk x p.trk (some { e with confirmed := true })
      if e.expired ∧ ¬ e.confirmed then s1.sendExpiry x e else s1
    | none => s

/-- TAIL_CONFIRMATION at a source: the copy is freed and its receive credits return; the next TLP of a full stream goes on (R18, R152,
R165). -/
def State.tailConfirm (s : State) (x : Nat) : State :=
  match s.popMsg x (fun m => match m with | .tailConf _ _ _ _ => true | _ => false) with
  | some (.tailConf a e c q, s1) =>
    match s1.heldOf (a, e, c) q with
    | some p =>
      let s2 := (s1.fwdUp (fun f => { f with held := f.held.del ((a, e, c), q) })).confirmTrk p
      let s3 := match p.tlp? with
        | some t => if a < 144 ∧ ¬ p.made then s2.freeCredit a t else s2
        | none => s2
      (s3.resumeStream (a, e, c)).releasePort e
    | none => s1
  | _ => s

/-! ### Shapers and the scheduler -/

/-- The waiting requests of an ingress shaper pass in arrival order while it grants (R438, R440). -/
def State.ingressGrant (s : State) (x : Nat) : Nat → State
  | 0 => s
  | n + 1 =>
    match s.fwd.ingq.lookD x [] with
    | [] => s
    | p :: rest =>
      if s.shGrants x then
        ((((s.fwdUp (fun f => { f with ingq := f.ingq.put x rest })).shCharge x (pktIngressLen p)).shWait x (!rest.isEmpty)).launch p).ingressGrant x n
      else s

/-! ### Losses -/

/-- Is a reroute in progress anywhere in the mesh (R157)? -/
def State.rerouting (s : State) : Bool := (List.range 96).any (fun r => s.on F.RTR_ESC_CTL_REROUTE [r])

/-- The numbers missing between the base and the first number that has arrived. -/
def GateSt.missing (g : GateSt) : List Nat :=
  ((List.range 4096).takeWhile (fun i => !g.got.contains ((g.base + i) % 65536))).map (fun i => (g.base + i) % 65536)

/-- GAP_TIMEOUT (R157): after the wait, with no reroute in progress, the missing TLPs are declared lost, the TLPs they held back are
released, GAP_LOSS is set, and the source has its posted-loss indication. -/
def State.gapTimeout (s : State) (src egress sc : Nat) : State :=
  let k : SKey := (src, egress, sc)
  let g := s.gate k
  match g.since with
  | none => s
  | some t =>
    let wait := max 1 (s.get F.PT_GATE_CFG_GAP_TIMEOUT [egress / 4]) * 1000000
    if s.rerouting ∨ s.now < t + wait then s
    else
      let miss := g.missing
      let vd := match (s.gq egress sc).find? (fun p => p.key == k) with
        | some p => p.vdsp
        | none => noVdsp
      let lost : Pkt := { dest := 0, src := 0, srcId := src, egress := egress, sc := sc, kind := 0, vdsp := vd, made := true,
                          body := .tlp { kind := .mwr } }
      let s1 := s.fwdUp (fun f => { f with
        gates := f.gates.put k { g with got := g.got ++ miss, since := none },
        lostQ := f.lostQ ++ [match miss with
          | q :: _ => (match s.heldOf k q with
            | some p => { p with kind := 0 }
            | none => lost)
          | [] => lost] })
      let s2 := ((s1.gateRefresh k).pset F.PT_GATE_STAT_GAP_LOSS egress 1).portEvent egress 2 0
      (s2.gateRun egress sc).settled

/-- The failing row of a tile's buffer is mapped to one of its 64 spare rows, a part of type 8; with no spare row left SPARE_OUT is set
(R459, R460, R462). -/
def State.spareRow (s : State) (t : Nat) : State :=
  if 64 ≤ s.fwd.rowsUsed.lookD t 0 then s.event (.tile t 0) 2
  else (s.fwdUp (fun f => { f with rowsUsed := f.rowsUsed.upd t 0 (· + 1) })).declare 8 t

/-- An ECC error in a tile's packet buffer is counted in its leaky counter (R459). -/
def State.rowLeak (s : State) (t : Nat) : State :=
  match s.leakyEvent 0 t 4 with
  | (s1, true) => s1.spareRow t
  | (s1, false) => s1

/-- A tracker entry is retired, a part of type 9, unless fewer than 15,360 entries would remain (R459, R460, R462). -/
def State.retireTrk (s : State) (x i : Nat) : State :=
  if 1024 ≤ (s.fwd.retired.filter (fun e => e.1 == x)).length then s.event (.tile x 0) 2
  else (((s.fwdUp (fun f => { f with retired := addNew f.retired (x, i) })).updTrkStat x).tileCount x 3).declare 9 x

/-- An ECC error in an entry of a tile's tracker or tag map is counted in its leaky counter (R459). -/
def State.trkLeak (s : State) (x i : Nat) : State :=
  match s.leakyEvent 0 x 5 with
  | (s1, true) => s1.retireTrk x i
  | (s1, false) => s1

/-- The tile counts an uncorrectable error of its buffer: tile counter 1 and BUF_UE (R270, R535). -/
def State.bufUe (s : State) (t : Nat) : State := if t < 36 then ((s.tileCount t 1).event (.tile t 0) 1).rowLeak t else s

/-- BUFFER_UE in the buffered TLP of a stream's number (R161): before the tail confirmation the source resends its copy and the damaged one
is discarded; after it, the TLP is lost. -/
def State.bufferUe (s : State) (src egress sc q : Nat) : State :=
  let k : SKey := (src, egress, sc)
  match (s.sq egress sc).find? (fun p => p.key == k && p.seq == q && !p.made) with
  | some p =>
    let s1 := (s.fwdUp (fun f => { f with shq := f.shq.put (egress, sc) ((s.sq egress sc).filter (fun x => !(x.key == k && x.seq == q))) })).bufUe (egress / 4)
    match p.kind, p.tlp? with
    | 0, _ => ((s1.portCount egress 14).fwdUp (fun f => { f with lostQ := f.lostQ ++ [p] })).settled
    | 1, some t => (s1.synthAt egress (pktStn p) p.trk).tomb egress t.tag
    | _, _ => s1
  | none =>
    match s.heldOf k q with
    | some _ =>
      let s1 := s.bufUe (stnOfSrc src)
      let s2 := s1.fwdUp (fun f => { f with
        gateq := f.gateq.put (egress, sc) ((s.gq egress sc).filter (fun x => !(x.key == k && x.seq == q))),
        gates := if (s.gq egress sc).any (fun x => x.key == k && x.seq == q) then f.gates.put k { s.gate k with got := (s.gate k).got.filter (· != q) } else f.gates })
      let s3 := s2.meshUp (fun m => { m with pkts := m.pkts.map (fun (e : Nat × Pkt) =>
        if e.2.key == k && e.2.seq == q && decide (e.2.kind < 3) then (e.1, { e.2 with stomp := 2 }) else e) })
      ((s3.gateRefresh k).resendHeld k q).settled
    | none => s

/-! ### Tag leases (R174) -/

/-- TAG_LEASE_REQUEST at an egress tile: it grants a lease of tags in Pool if it has one; otherwise the request waits in its inbox. -/
def State.leaseRequest (s : State) (t : Nat) : State :=
  match s.popMsg t (fun m => match m with
      | .leaseReq _ e => !(s.poolTags e (s.tagRange e).2.1 (s.tagRange e).1 (s.tagRange e).2.2).isEmpty
      | _ => false) with
  | some (.leaseReq stn e, s1) =>
    let r := s.tagRange e
    let tags := s.poolTags e r.2.1 r.1 r.2.2
    (tags.foldl (fun (s : State) (tag : Nat) => s.setTag e tag (.leased stn)) s1).sendMsg t stn (.leaseGrant e tags)
  | _ => s

/-- TAG_LEASE_GRANT at a source. -/
def State.leaseGrant (s : State) (x : Nat) : State :=
  match s.popMsg x (fun m => match m with | .leaseGrant _ _ => true | _ => false) with
  | some (.leaseGrant e tags, s1) =>
    ((s1.setLease x e (s1.leaseOf x e ++ tags)).fwdUp (fun f => { f with leaseAsk := f.leaseAsk.filter (· != (x, e)) })).updTagWait e
  | _ => s

/-- TAG_LEASE_RETURN: a lease that has been wholly free for 100 µs goes back (R174). -/
def State.leaseReturn (s : State) (x e : Nat) : State :=
  let l := s.leaseOf x e
  let sz := (s.tagRange e).2.2
  if 0 < sz ∧ sz ≤ l.length ∧ s.fwd.leaseIdle.lookD (x, e) s.now + 100000 ≤ s.now ∧ e < 144 then
    let back := l.take sz
    ((s.setLease x e (l.drop sz)).sendMsg x (e / 4) (.leaseReturn x e back)).updTagWait e
  else s

/-! ### Timeouts -/

/-- Expire an entry: STATE becomes Expired, and the expiry message goes once CONFIRMED is 1; if the egress cannot be reached the holder
answers itself, and that timeout is counted, raised and logged at the port on which the request arrived (R207, R248, R249). -/
def State.expire (s : State) (x trk : Nat) : State :=
  match s.trkOf x trk with
  | none => s
  | some e =>
    if e.expired then s
    else
      let r := s.entryRouter (e.egress / 4)
      let me := s.exitRouter x e.egress
      if s.escVec me r && s.escNext me r == 5 then
        if x < 36 then
          let p := 4 * x + e.slot
          (((s.portCount p 9).portEvent p 3 2).cplLog p e.reqId e.etag 2 0 0).synthSelf x trk
        else s.synthSelf x trk
      else
        let s1 := s.putTrk x trk (some { e with expired := true })
        if e.confirmed then s1.sendExpiry x e else s1

/-- COMPLETION_TIMEOUT: an entry expires no earlier than its timeout after T_ALLOC (R247). -/
def State.completionTimeout (s : State) (x trk : Nat) : State :=
  match s.trkOf x trk with
  | some e =>
    let age := ((s.now / 1000 + 2 ^ 32 - e.tAlloc) % 2 ^ 32) * 1000
    if e.to_ ≤ age then s.expire x trk else s
  | none => s

/-- The requester ID of a released request as it was sent on the link (R249). -/
def State.sentRid (s : State) (p tag x trk : Nat) : Nat :=
  match (List.range 4).findSome? (fun c => (s.sq p c).find? (fun k => k.kind == 1 && (k.tlp?.map (·.tag)) == some tag)) with
  | some k => (k.tlp?.map (·.rid)).getD 0
  | none =>
    match s.fwd.sentRid.look (p, tag) with
    | some r => r
    | none => ((s.trkOf x trk).map (·.reqId)).getD 0

/-- Is a queued packet the non-posted request with a tag? -/
def isReqTag (tag : Nat) (k : Pkt) : Bool := k.kind == 1 && (k.tlp?.map (·.tag)) == some tag

/-- Remove a request with a tag from a port's shaper queues: it has not been sent (R249). -/
def State.unsend (s : State) (p tag : Nat) : State :=
  s.fwdUp (fun f => { f with shq := f.shq.map (fun (e : (Nat × Nat) × List Pkt) =>
    if e.1.1 == p then (e.1, e.2.filter (fun k => !isReqTag tag k)) else e) })

/-- EXPIRY_MESSAGE at an egress tile: a Live tag becomes Tomb, an unsent request is removed, the synthetic completion goes out, and the
timeout is counted, raised and logged at the egress port; otherwise the message is ignored (R249). -/
def State.expiryMessage (s : State) (t : Nat) : State :=
  match s.popMsg t (fun m => match m with | .expiry _ _ => true | _ => false) with
  | some (.expiry p tag, s1) =>
    match s1.tagSt p tag with
    | .live x trk =>
      let rid := s1.sentRid p tag x trk
      let s2 := ((s1.unsend p tag).tomb p tag).synthAt p x trk
      (((s2.portCount p 9).portEvent p 3 2).cplLog p rid tag 2 0 0).settled
    | _ => s1
  | _ => s

/-- QUARANTINE_END: a tag whose quarantine is over returns to Pool (R255, R258). -/
def State.quarantineEnd (s : State) (p tag : Nat) : State :=
  match s.tagSt p tag with
  | .tomb (some t) => if t ≤ s.now then s.setTag p tag .pool else s
  | _ => s

/-- EGRESS_STALL: TLPs queued to a port and none sent for STALL (R261, R265). An upstream port's link goes down instead, by the row of R90
for DL_Down, which the caller gives. -/
def State.egressStall (s : State) (dlDown : State → Nat → State) (p : Nat) : State :=
  let st := min 1000 (max 1 (s.pget F.PT_TRK_CFG_STALL p)) * 1000000
  let queued := (List.range 4).any (fun c => !(s.sq p c).isEmpty)
  match s.fwd.stallAt.look p with
  | some t =>
    if queued ∧ t + st ≤ s.now ∧ ¬ s.pon F.PT_CONT_CONTAINED p then
      if s.role p = 0 then (match s.vsOfPort p with
        | some _ => dlDown s p
        | none => s)
      else s.downPort p 6 false
    else s
  | none => s

/-! ### Loss of a tracker entry (R270) -/

/-- TRACKER_ENTRY_UE: the entry is freed without an answer, ENTRY_UE is set and raised, and every tile is told. -/
def State.trackerUe (s : State) (x trk : Nat) : State :=
  match s.trkOf x trk with
  | none => s
  | some _ =>
    let s1 := s.putTrk x trk none
    let s2 := s1.when (decide (x < 36)) (fun (s : State) => ((s.setB F.PT_TRK_STAT_ENTRY_UE [x] true).event (.tile x 1) 1).trkLeak x trk)
    (List.range 36).foldl (fun (s : State) (t : Nat) => s.when (s.waitsFor t) (·.sendMsg x t (.trkLoss x trk))) s2

/-- TRACKER_LOSS_MESSAGE at a tile: the tag that records the holder and entry is pinned in Tomb, and its unsent request is removed. -/
def State.trackerLoss (s : State) (t : Nat) : State :=
  match s.popMsg t (fun m => match m with | .trkLoss _ _ => true | _ => false) with
  | some (.trkLoss x trk, s1) =>
    (List.range 4).foldl (fun (s : State) (k : Nat) =>
      (s.liveTags (4 * t + k) (fun h i => h == x && i == trk)).foldl (fun (s : State) (l : Nat × Nat × Nat) =>
        (s.unsend (4 * t + k) l.1).setTag (4 * t + k) l.1 (.tomb none)) s) s1
  | _ => s

end Sys2Proof.Machine
end

