-- ==== Sys2Proof/Machine/Dm.lean ====
section
/-!
DEFINITION. The data mover's shared operations: the ledger and its two copies (R385 to R391), requests to hosts (R359 to R361), the dirty-page
log (R404 to R406), interrupts (R383), the checks of a descriptor (R356, R362 to R372, R430), completion records (R381), and the
progress of a queue pair's entries.
-/

namespace Sys2Proof.Machine

/-! ### Parts in service -/

/-- Is a cluster in service (MCL_STAT.STATE 0)? -/
def State.mcIn (s : State) (k : Nat) : Bool := s.get F.MCL_STAT_STATE [k] == 0
/-- Is a Mule in service? -/
def State.muleIn (s : State) (m : Nat) : Bool := s.mcIn (m / 4) && (s.get F.MCL_STAT_MULE_OK [m / 4]).testBit (m % 4)
/-- Is a staging slice in service and powered? -/
def State.ssIn (s : State) (k : Nat) : Bool := !s.isFailed 4 k && s.powered (52 + k)
/-- Is a ledger pair in service (R390)? -/
def State.pairIn (s : State) (k : Nat) : Bool := !s.on F.LSL_STAT_PAIR_OUT [2 * k]
/-- Does a pair accept entries: in service and not moving? -/
def State.pairOpen (s : State) (k : Nat) : Bool := s.pairIn k && (s.dm.mv.look k).isNone

/-- The next cluster in service from `k` on, in increasing order mod 16 (R343). -/
def State.nextMc (s : State) (k : Nat) : Option Nat := ((List.range 16).map (fun j => (k + j) % 16)).find? (fun j => s.mcIn j)

/-! ### Queue pairs and entries -/

def State.dmUp (s : State) (f : DmSt → DmSt) : State := { s with dm := f s.dm }
def State.qps (s : State) (i q : Nat) : QpSt := s.dm.qp.lookD (i, q) {}
def State.qpUp (s : State) (i q : Nat) (f : QpSt → QpSt) : State := s.dmUp (fun d => { d with qp := AMap.upd d.qp (i, q) {} f })
def State.rxs (s : State) (i : Nat) : RxSt := s.dm.rx.lookD i {}
def State.rxUp (s : State) (i : Nat) (f : RxSt → RxSt) : State := s.dmUp (fun d => { d with rx := AMap.upd d.rx i {} f })

/-- Is the odd copy of a pair the one that serves it (its even slice has failed, R390)? -/
def State.oddServes (s : State) (k : Nat) : Bool := s.dm.mv.look k == some (2 * k + 1)

/-- An entry as the slice that orders its accesses holds it (R389). -/
def State.led (s : State) (x : Nat) : LedE := (if s.oddServes (x / 65536) then s.dm.odd else s.dm.even).lookD x {}

/-- The indices of the entries that are not Free in both copies: an entry leaves the lists when its write of Free is complete (R387). -/
def State.ledKeys (s : State) : List Nat :=
  ((s.dm.even.filter (fun e => !s.oddServes (e.1 / 65536))) ++ (s.dm.odd.filter (fun e => s.oddServes (e.1 / 65536)))).map (·.1)

/-- LSL_STAT.LIVE of the two slices of a pair. -/
def State.updLive (s : State) (k : Nat) : State :=
  (s.set F.LSL_STAT_LIVE [2 * k] ((s.dm.even.filter (fun e => decide (e.1 / 65536 = k) && e.2.state != 0)).length)).set F.LSL_STAT_LIVE
    [2 * k + 1] ((s.dm.odd.filter (fun e => decide (e.1 / 65536 = k) && e.2.state != 0)).length)

/-- Write an entry: the even slice first, the odd slice with the acknowledgement; until then the write is unfinished (R385, R389). -/
def State.ledPut (s : State) (x : Nat) (e : LedE) : State :=
  (s.dmUp (fun d => if s.oddServes (x / 65536) then { d with odd := d.odd.put x e, pend := addNew d.pend x }
    else { d with even := d.even.put x e, pend := addNew d.pend x })).updLive (x / 65536)

/-- Write an entry, and what follows when both copies are written. -/
def State.ledThen (s : State) (x : Nat) (e : LedE) (k : Nat) : State := (s.ledPut x e).dmUp (fun d => { d with todo := d.todo.put x k })

/-- Is no write of an entry unfinished? -/
def State.settledX (s : State) (x : Nat) : Bool := !s.dm.pend.contains x

/-- Write both copies at once, or remove a Free entry from both. -/
def State.ledBoth (s : State) (x : Nat) (e : LedE) : State :=
  (s.dmUp (fun d => { d with
    even := if e.state = 0 then d.even.del x else if s.oddServes (x / 65536) then d.even else d.even.put x e,
    odd := if e.state = 0 then d.odd.del x
      else if s.dm.mv.look (x / 65536) = some (2 * (x / 65536)) then d.odd else d.odd.put x e,
    pend := d.pend.filter (· != x) })).updLive (x / 65536)

/-- The first free place below a limit in a pair, from place `n` on. -/
def firstFree (used : List Nat) : Nat → Nat → Nat
  | 0, n => n
  | f + 1, n => if used.contains n then firstFree used f (n + 1) else n

/-- A free descriptor entry in a pair (R388: below 64,464). -/
def State.freeIn (s : State) (k : Nat) : Option Nat :=
  let used := (s.ledKeys.filter (fun x => decide (x / 65536 = k))).map (· % 65536)
  let n := firstFree used used.length 0
  if n < 64464 then some (65536 * k + n) else none

/-- Does an entry of a failed pair wait for room, so that no pair accepts (R390)? -/
def State.moveStuck (s : State) : Bool :=
  !s.dm.mv.isEmpty && (List.range 4).all (fun k => !s.pairOpen k || (s.freeIn k).isNone)

/-- A free entry for a descriptor of instance `i`, in the first open pair from i mod 4 on (the spec gives no order, see the log). -/
def State.freeEntry (s : State) (i : Nat) : Option Nat :=
  if s.moveStuck then none
  else (List.range 4).findSome? (fun j => let k := (i + j) % 4; if s.pairOpen k then s.freeIn k else none)

/-- The place of the ring entry of an instance by the pairs that are open (R388). -/
def State.ringPlace (s : State) (i : Nat) : Option Nat :=
  (List.range 4).findSome? (fun r =>
    let k := (i + r) % 4
    if s.pairOpen k then some (65536 * k + 64464 + 268 * r + i / 4) else none)

/-- The ring entry of an instance. -/
def State.ringOf (s : State) (i : Nat) : Option Nat := s.ledKeys.find? (fun x => (s.led x).kind == 1 && (s.led x).inst == i)

/-- The descriptor entries of an instance, and of a queue pair. -/
def State.entriesOf (s : State) (i : Nat) : List Nat := s.ledKeys.filter (fun x => (s.led x).kind == 0 && (s.led x).inst == i)
def State.qpEntries (s : State) (i q : Nat) : List Nat := (s.entriesOf i).filter (fun x => (s.led x).qp == q)

/-- Is a count before another, modulo 2^32? -/
def seqBefore (a b : Nat) : Bool := let d := (b + 2 ^ 32 - a % 2 ^ 32) % 2 ^ 32; decide (0 < d) && decide (d < 2 ^ 31)

/-- PHASE of the n-th record or message of a ring of 2^size slots (R379). -/
def phase (n size : Nat) : Nat := if n / 2 ^ size % 2 = 0 then 1 else 0

/-- The chunks of an entry in flight. -/
def State.chunksOf (s : State) (x : Nat) : List Chk := s.dm.chunks.lookD x []
def State.setChunks (s : State) (x : Nat) (l : List Chk) : State :=
  s.dmUp (fun d => { d with chunks := if l.isEmpty then d.chunks.del x else d.chunks.put x l })

/-! ### Requests to hosts (R360, R361) -/

/-- May the instance issue requests: Bus Master Enable, a bus behind its data mover port, no FLR (R361, R402, R408)? -/
def State.dmIssue (s : State) (i : Nat) : Bool :=
  s.cf (.dmf i) .bme == 1 && s.cf (.dmp (s.get F.DM_ID_VS [i])) .busSec != 0 && (s.dm.flr.look i).isNone

/-- May the front end fetch: it issues, does not move, and is not quiesced (R343, R406)? -/
def State.dmFetches (s : State) (i : Nat) : Bool := s.dmIssue i && !s.on F.DM_STAT_MOVING [i] && !s.dm.quiesced.contains i

/-- Cut a byte list into pieces of at most `n` bytes. -/
def pieces (n : Nat) : Nat → Nat → List Byte → List (Nat × List Byte)
  | 0, _, _ => []
  | f + 1, a, l => if l.isEmpty then [] else (a, l.take n) :: pieces n f (a + n) (l.drop n)

/-- The 4 KiB pages of a byte range. -/
def pagesOf (a n : Nat) : List Nat := (List.range (if n = 0 then 0 else (a + n - 1) / 4096 - a / 4096 + 1)).map (a / 4096 + ·)

/-- Write one dirty-page record if the log has room; otherwise the log overflows (R404, R406). -/
def State.logPage (s : State) (v i page : Nat) : State :=
  let l := s.dm.logs.lookD v {}
  if l.overflowed then s
  else
    let sz := s.get F.DL_CFG_SIZE [v]
    let h := if (l.n + 2 ^ 32 - l.head) % 2 ^ 32 < 2 ^ sz then l.head else (Config.dlHead v l.n).toNat
    if (l.n + 2 ^ 32 - h) % 2 ^ 32 < 2 ^ sz then
      let rec' := phase l.n sz + 2 * i + 4096 * page
      (s.emit (.hostWrite (.dmf v) ((s.rd ⟨.DL_BASE, [v]⟩).toNat + 8 * (l.n % 2 ^ sz)) (leBytes 8 rec'))).dmUp (fun d => { d with
        logs := d.logs.put v { n := (l.n + 1) % 2 ^ 32, head := h } })
    else (s.dmUp (fun d => { d with logs := d.logs.put v { l with head := h, overflowed := true } })).setB F.DL_STAT_OVERFLOW [v] true

/-- Log the pages that an instance writes, if its logging is enabled (R405). -/
def State.logWrite (s : State) (fn addr n : Nat) : State :=
  if s.dm.logged.contains fn then
    (pagesOf addr n).foldl (fun (s : State) (p : Nat) => s.logPage (s.get F.DM_ID_VS [fn]) fn p) s
  else s

/-- A write to a host with an instance's requester ID, in pieces of at most Max_Payload_Size, and its log records (R360, R405). -/
def State.dmWrite (s : State) (fn addr : Nat) (data : List Byte) (tc : Nat) (ns ro : Bool) : State :=
  let m := 128 <<< min 5 (s.cf (.dmf fn) .mps)
  ((pieces m data.length addr data).foldl (fun (s : State) (p : Nat × List Byte) => s.emit (.hostWrite (.dmf fn) p.1 p.2 tc ns ro)) s).logWrite fn
    addr data.length

/-- A read from a host, in requests of at most Max_Read_Request_Size (R360). -/
def State.dmRead (s : State) (fn addr n tc : Nat) (ns : Bool) : State :=
  let m := 128 <<< min 5 (s.cf (.dmf fn) .mrrs)
  (List.range ((n + m - 1) / m)).foldl (fun (s : State) (k : Nat) => s.emit (.hostRead (.dmf fn) (addr + m * k) (min m (n - m * k)) tc ns)) s

/-- TC of a queue pair. -/
def State.qpTc (s : State) (i q : Nat) : Nat := s.get F.QP_CFG_TC [i, q]

/-! ### Interrupts (R383, R384) -/

/-- Send an instance's MSI-X message; a masked vector, or a function that may not issue, sets the PBA bit (R383, R361). -/
def State.sendImsix (s : State) (i v : Nat) : State :=
  if s.on F.IMSIX_CTRL_MASK [i, v] ∨ s.dmIssue i = false then
    s.set F.IMSIX_PBA_PBA [i] (s.get F.IMSIX_PBA_PBA [i] ||| (1 <<< v))
  else (s.emit (.imsix i v)).instCount i 5

/-- Messages that wait in the PBA of an instance are sent once the function may issue and the vector is not masked. -/
def State.flushImsix (s : State) (i : Nat) : State :=
  if s.dmIssue i then
    (below 8 (fun v => (s.get F.IMSIX_PBA_PBA [i]).testBit v && !s.on F.IMSIX_CTRL_MASK [i, v])).foldl (fun (s : State) (v : Nat) =>
      (s.set F.IMSIX_PBA_PBA [i] (s.get F.IMSIX_PBA_PBA [i] ^^^ (1 <<< v))).sendImsix i v) s
  else s

/-- IDLE of a queue pair: every accepted descriptor has its record and no interrupt is pending (R349). -/
def State.updIdle (s : State) (i q : Nat) : State :=
  let busy := (s.qpEntries i q).any (fun x => decide ((s.led x).state < 4) && !s.dm.recs.contains x && (s.qps i q).offer != some x)
  s.setB F.QP_STAT_IDLE [i, q] (!busy && (s.qps i q).irq == 0)

/-- IDLE of a receive ring: no delivery and no interrupt pending (RX_CFG.IDLE). -/
def State.updRxIdle (s : State) (i : Nat) : State :=
  let busy := (match s.ringOf i with | some x => (s.led x).resV || !s.settledX x | none => false) || (s.rxs i).waiting.isSome ||
    s.dm.occ.any (fun e => e.1.1 == i && !(s.chunksOf e.2.1).isEmpty)
  s.setB F.RX_CFG_IDLE [i] (!busy && (s.rxs i).irq == 0)

/-- The moderation rule of R383: send once `count` requests are pending or the oldest is `time` µs old. -/
def irqDue (pending count time first now : Nat) : Bool :=
  decide (0 < pending) && (decide (max count 1 ≤ pending) || decide (first + min time 1000 * 1000 ≤ now))

/-- Evaluate the moderation of a queue pair. -/
def State.qpModerate (s : State) (i q : Nat) : State :=
  let p := s.qps i q
  if s.on F.QP_IRQ_EN [i, q] ∧ irqDue p.irq (s.get F.QP_IRQ_COUNT [i, q]) (s.get F.QP_IRQ_TIME [i, q]) p.irqAt s.now = true then
    ((s.qpUp i q (fun p => { p with irq := 0 })).sendImsix i (s.get F.QP_IRQ_VEC [i, q])).updIdle i q
  else s

/-- Evaluate the moderation of a receive ring. -/
def State.rxModerate (s : State) (i : Nat) : State :=
  let p := s.rxs i
  if s.on F.RX_IRQ_EN [i] ∧ irqDue p.irq (s.get F.RX_IRQ_COUNT [i]) (s.get F.RX_IRQ_TIME [i]) p.irqAt s.now = true then
    ((s.rxUp i (fun p => { p with irq := 0 })).sendImsix i (s.get F.RX_IRQ_VEC [i])).updRxIdle i
  else s

/-- A record of a queue pair requests an interrupt. -/
def State.qpIrqAdd (s : State) (i q : Nat) : State :=
  if s.on F.QP_IRQ_EN [i, q] then
    (s.qpUp i q (fun p => { p with irq := p.irq + 1, irqAt := if p.irq = 0 then s.now else p.irqAt })).qpModerate i q
  else s

/-- A delivery into a receive ring requests an interrupt (R384). -/
def State.rxIrqAdd (s : State) (i : Nat) : State :=
  if s.on F.RX_IRQ_EN [i] then
    (s.rxUp i (fun p => { p with irq := p.irq + 1, irqAt := if p.irq = 0 then s.now else p.irqAt })).rxModerate i
  else s

/-! ### Descriptors (R362 to R372) -/

def dVersion (d : List Byte) : Nat := leAt d 0 1
def dOp (d : List Byte) : Nat := leAt d 1 1
def dFlags (d : List Byte) : Nat := leAt d 2 2
def dUser (d : List Byte) : Nat := leAt d 4 4
def dLen (d : List Byte) : Nat := leAt d 8 4
def dSrcRh (d : List Byte) : Nat := leAt d 12 2
def dDstRh (d : List Byte) : Nat := leAt d 14 2
def dSrc (d : List Byte) : Nat := leAt d 16 8
def dDst (d : List Byte) : Nat := leAt d 24 8
def dFlag (d : List Byte) (b : Nat) : Bool := (dFlags d).testBit b

/-- The feature that a descriptor needs, by the bits of DM_ACCEPT (R344). -/
def dNeeds (d : List Byte) : Nat :=
  (match dOp d with | 7 => 1 | 8 => 4 | 0xA => 8 | _ => 0) ||| (if dFlag d 1 || dFlag d 2 then 2 else 0)

/-- Does the opcode use a side: source reach allowed, destination reach allowed (R363)? -/
def opSides (op : Nat) : Bool × Bool :=
  match op with
  | 1 | 3 | 5 | 6 | 0xA => (true, true)
  | 2 | 7 | 8 => (false, true)
  | 4 => (true, false)
  | _ => (false, false)

/-- LEN of an opcode (R363, R372, R430); `m` is the largest LEN of the named program slot. -/
def lenOk (op len m : Nat) : Bool :=
  match op with
  | 0 | 9 => len == 0
  | 7 => decide (1 ≤ len) && decide (len ≤ 48)
  | 8 => len == 8
  | 0xA => decide (len ≤ m)
  | _ => decide (1 ≤ len) && decide (len ≤ 2 ^ 30)

/-- The OPERAND bytes that the opcode does not define are 0, and those that it defines are in range (R363, R368, R430). -/
def operandOk (op : Nat) (d : List Byte) : Bool :=
  match op with
  | 2 | 8 => leAt d 40 24 == 0
  | 4 => leAt d 36 28 == 0
  | 5 | 6 => leAt d 36 28 == 0 && decide (1 ≤ leAt d 32 4) && decide (leAt d 32 4 ≤ 4096)
  | 9 => decide (leAt d 32 1 ≤ 1) && leAt d 33 31 == 0
  | 0xA => decide (leAt d 32 2 ≤ 3) && leAt d 34 2 == 0
  | 7 => true
  | _ => leAt d 32 32 == 0

/-- A range that does not wrap past 2^64. -/
def noWrap (a n : Nat) : Bool := decide (a + n ≤ 2 ^ 64)

/-- SRC and DST where the opcode gives a value or a range (R363, R368, R369). -/
def addrOk (op : Nat) (d : List Byte) : Bool :=
  match op with
  | 0 | 9 => dSrc d == 0 && dDst d == 0
  | 2 => dSrc d == 0 && noWrap (dDst d) (dLen d)
  | 4 => noWrap (dSrc d) (dLen d) && dDst d == 0
  | 5 => noWrap (dSrc d) (dLen d) && dDst d % 16 == 0 && noWrap (dDst d) (16 * leAt d 32 4)
  | 6 => noWrap (dDst d) (dLen d) && dSrc d % 16 == 0 && noWrap (dSrc d) (16 * leAt d 32 4)
  | 7 => true
  | 8 => dSrc d == 0 && dDst d % 8 == 0 && noWrap (dDst d) 8
  | _ => noWrap (dSrc d) (dLen d) && noWrap (dDst d) (dLen d)

/-- The reach entry of a handle as a side. -/
def State.reachSide (s : State) (rh : Nat) : Side :=
  let e := rh % 4096
  let perm := s.get F.DMG_REACH_RD [e] + 2 * s.get F.DMG_REACH_WR [e] + 4 * s.get F.DMG_REACH_AT [e]
  let tin := s.get F.DMG_REACH_TARGET_INST [e]
  { fn := if s.get F.DMG_REACH_KIND [e] = 1 then s.get F.DM_ID_VS [tin] else s.get F.DMG_REACH_TARGET_VS [e],
    base := s.get F.DMG_REACH_BASE_BASE [e], lim := some (s.get F.DMG_REACH_LIMIT_LIMIT [e]), perm := perm, ent := some e, tinst := tin }

/-- The sides of a descriptor of instance `i`. -/
def State.sidesOf (s : State) (i : Nat) (d : List Byte) : Side × Side :=
  (if dFlag d 1 then s.reachSide (dSrcRh d) else { fn := i }, if dFlag d 2 then s.reachSide (dDstRh d) else { fn := i })

/-- Does a handle name a valid entry of a kind, with the current GEN, for this source instance (check 5)? -/
def State.handleOk (s : State) (i rh kind : Nat) : Bool :=
  let e := rh % 4096
  s.on F.DMG_REACH_VALID [e] && s.get F.DMG_REACH_KIND [e] == kind && s.get F.DMG_REACH_GEN [e] == rh / 4096 &&
  s.get F.DMG_REACH_SRC_INST [e] == i

/-- The access kinds that an opcode makes on its contiguous sides: source, destination (RD 1, WR 2, AT 4). List sides are checked by
element (R368, R375). -/
def opAccess (op : Nat) : Nat × Nat :=
  match op with
  | 1 => (1, 2) | 2 => (0, 2) | 3 => (1, 1) | 4 => (1, 0) | 5 => (1, 0) | 6 => (0, 2) | 8 => (0, 4) | 0xA => (1, 3)
  | _ => (0, 0)

/-- Does a side hold every byte of a range (check 7)? -/
def Side.holds (x : Side) (a n : Nat) : Bool :=
  match x.lim with
  | none => true
  | some l => n == 0 || decide (x.base + a + n - 1 ≤ l)

/-- Do two byte ranges overlap? -/
def overlap (a n b m : Nat) : Bool := decide (a < b + m) && decide (b < a + n)

/-- COPY's ranges may not overlap in one address space: own memory, or the range of one target virtual switch (R364). -/
def copyOverlap (d : List Byte) (x y : Side) : Bool :=
  dOp d == 1 && (match x.lim, y.lim with
    | none, none => overlap (dSrc d) (dLen d) (dDst d) (dLen d)
    | some _, some _ => x.fn == y.fn && overlap (x.base + dSrc d) (dLen d) (y.base + dDst d) (dLen d)
    | _, _ => false)

/-- The largest LEN of the program slot that a descriptor names (R430). -/
def State.progLenMax (s : State) (d : List Byte) : Nat :=
  let p := leAt d 32 2
  if p ≤ 3 ∧ s.get F.DMG_PROG_STATE [p] = 2 then s.get F.DMG_PROG_LEN_LEN_MAX [p] else 2 ^ 30

/-- Check 4 of R356. -/
def State.fieldsOk (s : State) (i : Nat) (d : List Byte) : Bool :=
  let op := dOp d
  let sd := s.sidesOf i d
  decide (dFlags d < 32) && (opSides op).1 >= dFlag d 1 && (opSides op).2 >= dFlag d 2 && (dFlag d 1 || dSrcRh d == 0) &&
  (dFlag d 2 || dDstRh d == 0) && (op != 7 || dFlag d 2) && lenOk op (dLen d) (s.progLenMax d) && operandOk op d && addrOk op d &&
  !copyOverlap d sd.1 sd.2

/-- The checks of R356 in order: the status of the first that fails, or 0. -/
def State.dmCheck (s : State) (i : Nat) (d : List Byte) : Nat :=
  let op := dOp d
  let sd := s.sidesOf i d
  let skip := op == 0xA && dLen d == 0
  let acc := opAccess op
  if dVersion d ≠ 1 then 0x21
  else if 0xA < op then 0x20
  else if dNeeds d &&& s.get F.DM_ACCEPT_ACCEPT [i] ≠ dNeeds d then 0x27
  else if s.fieldsOk i d = false then 0x22
  else if skip then 0
  else if (dFlag d 1 ∧ s.handleOk i (dSrcRh d) 0 = false) ∨ (dFlag d 2 ∧ s.handleOk i (dDstRh d) (if op = 7 then 1 else 0) = false) then 0x23
  else if sd.1.perm &&& acc.1 ≠ acc.1 ∨ sd.2.perm &&& acc.2 ≠ acc.2 then 0x25
  else if (acc.1 ≠ 0 ∧ sd.1.holds (dSrc d) (dLen d) = false) ∨ (acc.2 ≠ 0 ∧ sd.2.holds (dDst d) (dLen d) = false) then 0x24
  else 0

/-! ### Completion records (R381, R383) -/

/-- The 16 bytes of an entry's completion record. -/
def recBytes (e : LedE) (cq : Nat) : List Byte :=
  leBytes 4 e.user ++ [BitVec.ofNat 8 e.status, BitVec.ofNat 8 (phase e.seq cq + 2 * bit e.resumed)] ++ leBytes 2 e.seq ++ leBytes 8 e.result

/-- The reach entries that a descriptor names: DMG_REACH_USE counts it from acceptance to its record (R375). -/
def State.reachUse (s : State) (a : Acpt) (up : Bool) : State :=
  ((a.src.ent.toList ++ a.dst.ent.toList)).foldl (fun (s : State) (e : Nat) =>
    s.set F.DMG_REACH_USE_USE [e] (if up then s.get F.DMG_REACH_USE_USE [e] + 1 else s.get F.DMG_REACH_USE_USE [e] - 1)) s

/-- Write the completion record of a Closing entry (R359, R381, R383). -/
def State.writeRec (s : State) (x : Nat) : State :=
  let e := s.led x
  let cq := s.get F.QP_CFG_CQ_SIZE [e.inst, e.qp]
  let a := (s.rd ⟨.QP_CQ_BASE, [e.inst, e.qp]⟩).toNat + 16 * (e.seq % 2 ^ cq)
  let ok := decide (e.status < 2)
  let s1 := (s.dmWrite e.inst a (recBytes e cq) (s.qpTc e.inst e.qp) false false).dmUp (fun d => { d with recs := addNew d.recs x })
  let s2 := ((s1.instCount e.inst (if ok then 1 else 2)).when e.resumed (·.instCount e.inst 7)).qpUp e.inst e.qp (fun p => { p with
    written := p.written + 1, failed := p.failed || !ok })
  let s3 := match s2.dm.acc.look x with
    | some ac => s2.reachUse ac false
    | none => s2
  let irq := (match s.dm.acc.look x with | some ac => dFlag ac.d 0 | none => false) || (!ok && s.on F.QP_IRQ_ERR_IRQ [e.inst, e.qp])
  (s3.when irq (·.qpIrqAdd e.inst e.qp)).updIdle e.inst e.qp

/-! ### Progress of entries -/

/-- Is an earlier descriptor of the queue pair without its record? `fences` asks for FENCEs only (R370). -/
def State.earlierOpen (s : State) (x : Nat) (fences : Bool) : Bool :=
  let e := s.led x
  (s.qpEntries e.inst e.qp).any (fun y => let f := s.led y
    y != x && seqBefore f.seq e.seq && decide (f.state < 4) && !s.dm.recs.contains y && (!fences || (f.opcode == 9 && (f.status == 0 || decide (0x50 ≤ f.status)))))

/-- Write an entry Closing with a status and RESULT. -/
def State.closeX (s : State) (x st r : Nat) : State := s.ledPut x { s.led x with state := 3, status := st, result := r }

/-- The flush read of a descriptor that wrote through a reach handle: a zero-length read of the last DWORD written (R359). -/
def State.flushX (s : State) (x : Nat) (t : Nat × Nat) : State :=
  (s.emit (.hostRead (.dmf t.1) t.2 0 (s.qpTc (s.led x).inst (s.led x).qp))).dmUp (fun d => { d with flush := addNew d.flush x })

/-- One entry's next step that needs no Mule: NOP, FENCE and skipped descriptors close (R370, R386); a Closing entry is flushed and gets its
record (R359). Nothing happens while a write of the entry is unfinished, behind a FENCE, or while the instance issues nothing. -/
def State.entryRun (s : State) (x : Nat) : State :=
  let e := s.led x
  let p := s.qps e.inst e.qp
  if s.settledX x = false ∨ p.offer = some x ∨ e.kind = 1 ∨ s.earlierOpen x true then s
  else if e.state = 1 then
    if p.skip then
      (s.closeX x 0x51 0).when (e.opcode == 9) (·.qpUp e.inst e.qp (fun p => { p with skip := false, failed := false }))
    else if e.opcode = 0 then s.closeX x 0 0
    else if e.opcode = 9 then
      if s.earlierOpen x false then s
      else
        let chk := match s.dm.acc.look x with | some a => decide (leAt a.d 32 1 = 1) | none => false
        if chk && p.failed then (s.closeX x 0x50 0).qpUp e.inst e.qp (fun p => { p with skip := true, failed := false })
        else (s.closeX x 0 0).qpUp e.inst e.qp (fun p => { p with failed := false })
    else s
  else if e.state = 3 ∧ ¬ s.dm.recs.contains x ∧ ¬ s.dm.flush.contains x ∧ s.dmIssue e.inst then
    match s.dm.last.look x with
    | some t => if s.dm.flushed.contains x then s.writeRec x else s.flushX x t
    | none => s.writeRec x
  else s

/-! ### Acceptance (R354 to R357) -/

/-- Issue a wanted doorbell read of a queue pair (R352). -/
def State.dmDoor (s : State) (i q : Nat) : State :=
  let p := s.qps i q
  if p.want ∧ p.busy = false ∧ s.on F.QP_CTL_EN [i, q] ∧ s.on F.QP_STAT_ERROR [i, q] = false ∧ s.dmFetches i then
    (s.emit (.hostRead (.dmf i) (s.rd ⟨.QP_DB_ADDR, [i, q]⟩).toNat 16 (s.qpTc i q))).qpUp i q (fun p => { p with want := false, busy := true, pollAt := s.now })
  else s

/-- Read the next descriptor, one at a time (R346, R355). -/
def State.dmFetch (s : State) (i q : Nat) : State :=
  let p := s.qps i q
  let n := s.get F.QP_STAT_ACCEPTED [i, q]
  if p.reading = false ∧ p.got.isNone ∧ p.offer.isNone ∧ p.tail ≠ n ∧ s.on F.QP_CTL_EN [i, q] ∧ s.on F.QP_STAT_ERROR [i, q] = false ∧ s.dmFetches i then
    (s.emit (.hostRead (.dmf i) ((s.rd ⟨.QP_SQ_BASE, [i, q]⟩).toNat + 64 * (n % 2 ^ s.get F.QP_CFG_SQ_SIZE [i, q])) 64 (s.qpTc i q))).qpUp i q
      (fun p => { p with reading := true })
  else s

/-- Is the completion slot of the next descriptor free, and its previous occupant retired (R357)? -/
def State.cqFree (s : State) (i q : Nat) : Bool :=
  let n := s.get F.QP_STAT_ACCEPTED [i, q]
  let cq := s.get F.QP_CFG_CQ_SIZE [i, q]
  decide ((n + 2 ^ 32 - (s.qps i q).head) % 2 ^ 32 < 2 ^ cq) &&
  !((s.qpEntries i q).any (fun x => decide ((s.led x).seq % 2 ^ cq = n % 2 ^ cq)))

/-- Is the instance within its ledger share (R392)? -/
def State.ledgerShare (s : State) (i : Nat) : Bool := decide (s.get F.DMG_INST_USE_ENTRIES [i] < s.get F.DMG_SHARE_LQUOTA [])

/-- The new ledger entry of a descriptor: Queued, or Closing with the status of the check that failed (R386). -/
def newEntry (i q n st : Nat) (d : List Byte) : LedE :=
  { state := if st = 0 then 1 else 3, inst := i, qp := q, opcode := dOp d, status := st, seq := n, user := dUser d,
    result := if st = 0 ∧ dOp d = 4 then leAt d 32 4 else 0, crc := (crc32c 0 d).toNat }

/-- Accept the descriptor that was read, if R357 allows: its entry is written, and it is accepted when both copies are (R24). -/
def State.dmAccept (s : State) (i q : Nat) : State :=
  let p := s.qps i q
  match p.got, p.offer with
  | some d, none =>
    if s.on F.QP_CTL_EN [i, q] = false ∨ s.on F.QP_STAT_ERROR [i, q] then s
    else
      let cq := s.cqFree i q
      let fe := s.freeEntry i
      let lg := s.ledgerShare i && fe.isSome
      let s1 := (s.setB F.QP_STAT_CQ_WAIT [i, q] (!cq)).setB F.QP_STAT_LEDGER_WAIT [i, q] (cq && !lg)
      match fe with
      | some x =>
        if cq && lg then
          let n := s.get F.QP_STAT_ACCEPTED [i, q]
          let st := s.dmCheck i d
          let sd := s.sidesOf i d
          let a : Acpt := if st = 0 then { d := d, src := sd.1, dst := sd.2 } else { d := d, src := { fn := i }, dst := { fn := i } }
          let s2 := ((s1.ledPut x (newEntry i q n st d)).dmUp (fun m => { m with acc := m.acc.put x a })).incr F.DMG_INST_USE_ENTRIES [i]
          s2.qpUp i q (fun p => { p with offer := some x })
        else s1
      | none => s1
  | _, _ => s

/-- Run the entries of a queue pair in acceptance order, then accept and fetch. -/
def State.qpRun (s : State) (i q : Nat) : State :=
  let n := s.get F.QP_STAT_ACCEPTED [i, q]
  let xs := sortBy (fun x => ((s.led x).seq + 2 ^ 33 - n - 2 ^ 31) % 2 ^ 32) (s.qpEntries i q)
  let s1 := xs.foldl (fun (s : State) (x : Nat) => s.entryRun x) s
  let s2 := ((s1.dmAccept i q).dmFetch i q).dmDoor i q
  let fw := (s2.qpEntries i q).any (fun x => (s2.led x).state == 1 && s2.earlierOpen x true)
  (s2.setB F.QP_STAT_FENCE_WAIT [i, q] fw).updIdle i q

/-- Run every queue pair of an instance. -/
def State.instRun (s : State) (i : Nat) : State := (List.range 8).foldl (fun (s : State) (q : Nat) => s.qpRun i q) s

/-- A queue pair enters the error state: the error bit, no more fetching, the descriptor read but not accepted is discarded, and a message
goes out (R354). -/
def State.qpError (s : State) (i q : Nat) (f : Fld) : State :=
  let s1 := ((s.setB f [i, q] true).setB F.QP_STAT_ERROR [i, q] true).qpUp i q (fun p => { p with got := if p.offer.isSome then p.got else none, want := false })
  s1.when (s.on F.QP_IRQ_EN [i, q]) (·.sendImsix i (s.get F.QP_IRQ_VEC [i, q]))

/-! ### The dirty-log view (DL_CTL and DL_STAT address the instance that DL_SEL names) -/

/-- Recompute the view of a physical function's log registers. -/
def State.dlView (s : State) (v : Nat) : State :=
  let i := s.get F.DL_SEL_INST [v]
  let done := (s.entriesOf i).all (fun x => s.dm.recs.contains x || decide ((s.led x).state = 4))
  ((((s.setB F.DL_CTL_LOG_EN [v] (s.dm.logged.contains i)).setB F.DL_STAT_LOGGING [v] (s.dm.logged.contains i)).setB F.DL_CTL_QUIESCE [v]
    (s.dm.quiesced.contains i)).setB F.DL_STAT_QUIESCED [v] (s.dm.quiesced.contains i && done))

/-- Enabled instances: at least one EN (R391). -/
def State.updEnabled (s : State) (i : Nat) : State :=
  let on := (List.range 8).any (fun q => s.on F.QP_CTL_EN [i, q]) || s.on F.RX_CFG_EN [i]
  if on = s.on F.DMG_INST_USE_ENABLED [i] then s
  else
    let n := if on then s.dm.nEn + 1 else s.dm.nEn - 1
    ((s.dmUp (fun d => { d with nEn := n })).setB F.DMG_INST_USE_ENABLED [i] on).set F.DMG_SHARE_N [] (max 1 n)

end Sys2Proof.Machine
end

