-- ==== Sys2Proof/Machine/Chunk.lean ====
section
/-!
DEFINITION. Chunks: threads and staging buffers (R392, R393, R410, R411), what a chunk reads and writes (R364 to R369), its commit (R395),
failures after acceptance (R373), ATOMIC_ADD and MESSAGE (R399, R400), retirement (R387) and the loss of a part (R396).
-/

namespace Sys2Proof.Machine

/-! ### Threads and buffers -/

def State.muleUp (s : State) (f : MuleSt → MuleSt) : State := { s with mule := f s.mule }

/-- Does a thread hold an invocation (MCL_STAT.THR_BUSY)? Threads are numbered 4 × Mule + thread. -/
def State.thrBusy (s : State) (t : Nat) : Bool := (s.get F.MCL_STAT_THR_BUSY [t / 16]).testBit (t % 16)

/-- Write the bit of a thread in a 16-bit map. -/
def setBitN (w b : Nat) (on : Bool) : Nat := if on then w ||| (1 <<< b) else w &&& (0xFFFF ^^^ (1 <<< b))

/-- A thread starts an invocation: level V for built-in opcodes, level O with its slot for programs (R411). -/
def State.takeThr (s : State) (t i : Nat) (o : Bool) (slot : Nat) : State :=
  (s.set F.MCL_STAT_THR_BUSY [t / 16] (setBitN (s.get F.MCL_STAT_THR_BUSY [t / 16]) (t % 16) true)).wr ⟨.MCL_THR, [t / 16, t % 16]⟩
    (packW [(0, 3, 1), (3, 1, bit o), (4, 2, slot), (8, 11, i)])

/-- Take a free staging buffer for an instance in a slice that satisfies a test: buffers are numbered 1,024 × slice + place. -/
def State.takeBuf (s : State) (i : Nat) (q : Nat → Bool) : Option (Nat × State) :=
  (below 16 (fun k => s.ssIn k && q k)).findSome? (fun k =>
    let used := (s.dm.bufs.filter (fun e => decide (e.1 / 1024 = k))).map (fun e => e.1 % 1024)
    let n := firstFree used used.length 0
    if n < 1024 then some (1024 * k + n, (s.dmUp (fun d => { d with bufs := d.bufs.put (1024 * k + n) i })).incr F.DMG_INST_USE_BUFFERS [i])
    else none)

/-- Release a staging buffer. -/
def State.freeBuf (s : State) (b : Nat) : State :=
  match s.dm.bufs.look b with
  | some i => (s.dmUp (fun d => { d with bufs := d.bufs.del b })).set F.DMG_INST_USE_BUFFERS [i] (s.get F.DMG_INST_USE_BUFFERS [i] - 1)
  | none => s

/-- Free a thread: its invocation ends (R411). The step and mirror buffers of a program go with it, unless its STEP is between intent and
commit (NI = 1): a resuming Mule reads them (R433). -/
def State.freeThr (s : State) (t : Nat) : State :=
  let s1 := match s.mule.thr.look t with
    | some h => if (s.led h.idx).ni = 1 then s else (h.stepBuf.toList ++ h.mirror.toList).foldl (fun (s : State) (b : Nat) => s.freeBuf b) s
    | none => s
  ((s1.set F.MCL_STAT_THR_BUSY [t / 16] (setBitN (s.get F.MCL_STAT_THR_BUSY [t / 16]) (t % 16) false)).resetReg ⟨.MCL_THR, [t / 16, t % 16]⟩).muleUp
    (fun m => { m with thr := m.thr.del t })

/-- May an instance take another buffer (R392)? -/
def State.stagingShare (s : State) (i : Nat) : Bool := decide (s.get F.DMG_INST_USE_BUFFERS [i] < s.get F.DMG_SHARE_SQUOTA [])

/-- Does a cluster share a row group with a staging slice in service (R393)? -/
def State.nearStaging (s : State) (k : Nat) : Bool := (List.range 16).any (fun j => decide (j / 4 = k / 4) && s.ssIn j)

/-- Is a thread in service and idle? -/
def State.thrFree (s : State) (t : Nat) : Bool := s.muleIn (t / 4) && !s.thrBusy t

/-! ### Chunks of an entry (R394) -/

/-- The descriptor of an entry. -/
def State.descOf (s : State) (x : Nat) : List Byte := match s.dm.acc.look x with | some a => a.d | none => []

/-- Slot of a PROGRAM, and its flags. -/
def progSlot (d : List Byte) : Nat := leAt d 32 2 % 4
def State.progChunked (s : State) (d : List Byte) : Bool := s.on F.DMG_PROG_CHUNKED [progSlot d]
def State.progIdem (s : State) (d : List Byte) : Bool := s.on F.DMG_PROG_IDEMPOTENT [progSlot d]

/-- Number of chunks: one for MESSAGE, ATOMIC_ADD and a program that does not run as CHUNKED (R394, R432); a CHUNKED program with LEN 0
runs once (a choice of the model). -/
def State.nChunks (s : State) (d : List Byte) : Nat :=
  match dOp d with
  | 7 | 8 => 1
  | 0xA => if s.progChunked d then max 1 ((dLen d + 4095) / 4096) else 1
  | _ => (dLen d + 4095) / 4096

/-- Bytes of chunk `c`. -/
def chunkBytes (d : List Byte) (c : Nat) : Nat := min 4096 (dLen d - 4096 * c)

/-- The charge of a chunk at the instance shaper, and whether it holds a staging buffer (R394, R439). A FILL chunk reads nothing; it holds none. -/
def chunkCharge (d : List Byte) (c : Nat) : Nat := match dOp d with | 7 => 64 | 8 => 8 | _ => chunkBytes d c
def chunkStaged (d : List Byte) : Bool := match dOp d with | 2 | 7 | 8 => false | _ => true

/-- MESSAGEs of one queue pair into one ring run one at a time, in acceptance order (R379). -/
def State.msgWaits (s : State) (x : Nat) : Bool :=
  let e := s.led x
  let t := match s.dm.acc.look x with | some a => a.dst.tinst | none => 0
  (s.qpEntries e.inst e.qp).any (fun y => let f := s.led y
    y != x && f.opcode == 7 && (f.state == 1 || f.state == 2) && seqBefore f.seq e.seq &&
    (match s.dm.acc.look y with | some a => a.dst.tinst == t | none => false))

/-- The next chunk of an entry that may be assigned: within the window CDONE to CDONE + 31, not committed and not in flight (R394); none
behind a FENCE, while skipping, after a failure, while a write is unfinished, or while the ATOMIC_ADD waits for its completion (R399). -/
def State.readyChunk (s : State) (x : Nat) : Option Nat :=
  let e := s.led x
  let d := s.descOf x
  let held := match s.dm.acc.look x with | some a => a.held | none => false
  if e.kind = 1 ∨ (e.state ≠ 1 ∧ e.state ≠ 2) ∨ (e.status ≠ 0 ∧ ¬ (e.opcode = 8 ∧ e.ni = 2)) ∨ held = false ∨ s.settledX x = false ∨ (s.qps e.inst e.qp).offer = some x ∨
      s.earlierOpen x true ∨ (s.qps e.inst e.qp).skip ∨ e.opcode = 0 ∨ e.opcode = 9 ∨ s.dm.reread.contains x ∨
      (e.opcode = 8 ∧ e.ni = 1) ∨ (e.opcode = 7 ∧ s.msgWaits x) then none
  else
    (List.range 32).findSome? (fun b => let c := e.cdone + b
      if c < s.nChunks d ∧ ¬ (e.opcode ≠ 7 ∧ e.cwin.testBit b) ∧ ¬ ((s.chunksOf x).any (fun k => k.c == c)) then some c else none)

/-- Has an instance a chunk ready, apart from its shaper? -/
def State.instReady (s : State) (i : Nat) : Bool :=
  s.dmIssue i && s.stagingShare i && (s.entriesOf i).any (fun x => (s.readyChunk x).isSome)

/-- The instances that the ledger names. -/
def State.ledInsts (s : State) : List Nat := (s.ledKeys.map (fun x => (s.led x).inst)).eraseDups

/-- Does round robin give instance `i` the next turn: no ready instance whose shaper grants lies between the last one served and it (R393,
R441)? -/
def State.myTurn (s : State) (i : Nat) : Bool :=
  let dist := fun j => (j + 1072 - s.dm.rr - 1) % 1072
  s.instReady i && s.shGrants (768 + i) &&
  !(s.ledInsts.any (fun j => decide (dist j < dist i) && s.instReady j && s.shGrants (768 + j)))

/-! ### What a chunk reads and writes -/

/-- Host address of an offset on a side. -/
def Side.at_ (x : Side) (a : Nat) : Nat := x.base + a

/-- The pieces of the list side that chunk bytes [lo, lo + n) cover: offset in the chunk, address, bytes (R368). -/
def listPieces (lo n : Nat) : Nat → List (Nat × Nat) → List (Nat × Nat × Nat)
  | _, [] => []
  | pos, (a, l) :: es =>
    let b := max lo pos
    let e := min (lo + n) (pos + l)
    (if b < e then [(b - lo, a + (b - pos), e - b)] else []) ++ listPieces lo n (pos + l) es

/-- Issue the reads of a chunk. -/
def State.chunkReads (s : State) (x c : Nat) : State :=
  match s.dm.acc.look x with
  | none => s
  | some a =>
    let d := a.d
    let e := s.led x
    let tc := s.qpTc e.inst e.qp
    let n := chunkBytes d c
    let ns := dFlag d 3
    let src := fun (s : State) => s.dmRead a.src.fn (a.src.at_ (dSrc d + 4096 * c)) n tc ns
    match dOp d with
    | 1 | 4 | 5 => src s
    | 3 => (src s).dmRead a.dst.fn (a.dst.at_ (dDst d + 4096 * c)) n tc ns
    | 6 => (listPieces (4096 * c) n 0 (s.dm.lists.lookD x [])).foldl (fun (s : State) (p : Nat × Nat × Nat) =>
        s.dmRead a.src.fn (a.src.at_ p.2.1) p.2.2 tc ns) s
    | _ => s

/-- Write bytes to a side at an offset, count them, and remember the last DWORD if it is a reach range (R359, R532). -/
def State.sideWrite (s : State) (x : Nat) (sd : Side) (off : Nat) (data : List Byte) : State :=
  match s.dm.acc.look x with
  | none => s
  | some a =>
    let e := s.led x
    let ad := sd.at_ off
    let s1 := (s.dmWrite sd.fn ad data (s.qpTc e.inst e.qp) (dFlag a.d 3) (dFlag a.d 4)).instCount e.inst 4 data.length
    s1.when (sd.lim.isSome && !data.isEmpty) (·.dmUp (fun d => { d with last := d.last.put x (sd.fn, (ad + data.length - 1) / 4 * 4) }))

/-- The pattern of FILL (R365). -/
def fillBytes (pat : List Byte) (lo n : Nat) : List Byte := (List.range n).map (fun k => pat.getD ((lo + k) % 8) 0)

/-- Make the data writes of a chunk from what it read. -/
def State.chunkWrites (s : State) (x c : Nat) (g : ChunkGot) : State :=
  match s.dm.acc.look x with
  | none => s
  | some a =>
    let d := a.d
    let n := chunkBytes d c
    let data := padTo n g.a
    match dOp d with
    | 1 | 6 => s.sideWrite x a.dst (dDst d + 4096 * c) data
    | 2 => s.sideWrite x a.dst (dDst d + 4096 * c) (fillBytes ((d.drop 32).take 8) (4096 * c) n)
    | 5 => (listPieces (4096 * c) n 0 (s.dm.lists.lookD x [])).foldl (fun (s : State) (p : Nat × Nat × Nat) =>
        s.sideWrite x a.dst p.2.1 ((data.drop p.1).take p.2.2)) s
    | _ => s

/-- The lowest place where two byte lists differ (R366). -/
def firstDiff : List Byte → List Byte → Option Nat
  | a :: as, b :: bs => if a = b then (firstDiff as bs).map (· + 1) else some 0
  | _, _ => none

/-! ### Commit (R395) -/

/-- Move CDONE past the committed chunks. -/
def LedE.slide (e : LedE) : Nat → LedE
  | 0 => e
  | n + 1 => if e.cwin.testBit 0 then ({ e with cdone := e.cdone + 1, cwin := e.cwin / 2 } : LedE).slide n else e

/-- The entry after the commit of chunk `c`. -/
def LedE.commit (e : LedE) (c : Nat) : LedE :=
  if c = e.cdone then ({ e with cdone := e.cdone + 1, cwin := e.cwin / 2 } : LedE).slide 32
  else { e with cwin := e.cwin ||| (1 <<< (c - e.cdone)) }

/-- End a chunk: its buffer and, if it still holds one, its thread are free. -/
def State.endChunk (s : State) (x c : Nat) : State :=
  match (s.chunksOf x).find? (fun k => k.c == c) with
  | none => s
  | some k =>
    let s1 := s.setChunks x ((s.chunksOf x).filter (fun j => j.c != c))
    let s2 := match k.buf with
      | some b => s1.freeBuf b
      | none => s1
    if k.got.isNone then s2.freeThr k.thr else s2

/-- Status and RESULT of a descriptor whose every chunk has committed (R363). -/
def okResult (e : LedE) (d : List Byte) : Nat :=
  match dOp d with
  | 1 | 2 | 3 | 5 | 6 => dLen d
  | 7 => 0
  | _ => e.result

/-- The entry `e` with its chunks done: Closing when none is left (R386). -/
def State.putOrClose (s : State) (x : Nat) (e : LedE) : State :=
  let d := s.descOf x
  if e.status ≠ 0 then
    if (s.chunksOf x).isEmpty then s.ledPut x { e with state := 3 } else s.ledPut x e
  else if e.cdone = s.nChunks d then s.ledPut x { e with state := 3, result := okResult e d }
  else s.ledPut x e

/-- Fail a descriptor after acceptance: the first status found, the lowest offset; chunks not started are abandoned (R373). -/
def State.failX (s : State) (x st off : Nat) : State :=
  let e := s.led x
  if e.state = 3 ∨ e.state = 4 ∨ e.state = 0 then s
  else s.putOrClose x (if e.status = 0 then { e with status := st, result := off } else { e with result := min e.result off })

/-- Commit a COMPARE or CRC32C chunk: it folds into RESULT, and a difference ends the descriptor with MISMATCH (R366, R367, R395). -/
def foldChunk (e : LedE) (d : List Byte) (c : Nat) (g : ChunkGot) : LedE × Bool :=
  let n := chunkBytes d c
  if dOp d = 4 then ({ e.commit c with result := (crc32c (BitVec.ofNat 32 e.result) (padTo n g.a)).toNat }, false)
  else
    match firstDiff (padTo n g.a) (padTo n g.b) with
    | some k => ({ e with status := 1, result := 4096 * c + k }, true)
    | none => (e.commit c, false)

/-- Drop the chunks of an entry that are still in flight, with their threads and buffers. -/
def State.dropChunks (s : State) (x : Nat) : State := (s.chunksOf x).foldl (fun (s : State) (k : Chk) => s.endChunk x k.c) s

/-- Commit in chunk order what has finished early (R395). -/
def State.foldEarly (s : State) (x : Nat) (d : List Byte) : Nat → LedE → State × LedE
  | 0, e => (s, e)
  | n + 1, e =>
    match (s.chunksOf x).find? (fun k => k.c == e.cdone && k.got.isSome) with
    | some k =>
      let r := foldChunk e d k.c (k.got.getD {})
      let s1 := s.endChunk x k.c
      if r.2 then (s1, r.1) else s1.foldEarly x d n r.1
    | none => (s, e)

/-- CHUNK_COMMIT (R373, R395): a failed chunk ends the descriptor; COMPARE and CRC32C commit in order; the others write their data and
commit. -/
def State.commitChunk (s : State) (x c : Nat) (g : ChunkGot) : State :=
  match (s.chunksOf x).find? (fun k => k.c == c && k.got.isNone) with
  | none => s
  | some k =>
    let e := s.led x
    let d := s.descOf x
    let m := k.thr / 4
    if s.settledX x = false then s
    else if g.err ≠ 0 then (s.endChunk x c).failX x g.err g.off
    else
      let s0 := ((s.instCount e.inst 3 (if chunkStaged d then chunkBytes d c else 0)).muleCount m 4)
      if dOp d = 3 ∨ dOp d = 4 then
        if c = e.cdone then
          let r := foldChunk e d c g
          let s1 := s0.endChunk x c
          let r2 := if r.2 then (s1, r.1) else s1.foldEarly x d 32 r.1
          if r2.2.status = 1 then (r2.1.dropChunks x).putOrClose x r2.2 else r2.1.putOrClose x r2.2
        else
          (s0.freeThr k.thr).setChunks x ((s.chunksOf x).map (fun j => if j.c = c then { j with got := some g } else j))
      else
        let s1 := (s0.chunkWrites x c g).endChunk x c
        s1.putOrClose x ((s1.led x).commit c)

/-! ### Lists (R368) -/

/-- The elements of a list. -/
def listElems : Nat → List Byte → List (Nat × Nat × Nat)
  | 0, _ => []
  | n + 1, l => (leAt l 0 8, leAt l 8 4, leAt l 12 4) :: listElems n (l.drop 16)

/-- Check a list: the status of R368, or 0. -/
def listCheck (d : List Byte) (sd : Side) (need : Nat) (es : List (Nat × Nat × Nat)) : Nat :=
  if es.any (fun e => e.2.2 != 0 || e.2.1 == 0 || decide (2 ^ 30 < e.2.1)) ∨ (es.map (·.2.1)).sum ≠ dLen d then 0x26
  else if sd.perm &&& need ≠ need then 0x25
  else if es.any (fun e => !sd.holds e.1 e.2.1 || !noWrap e.1 e.2.1) then 0x24
  else 0

/-- The list of a SCATTER or GATHER has been read: it is kept, or the descriptor ends with the status (R368). -/
def State.listRead (s : State) (x : Nat) (bytes : Option (List Byte)) : State × Bool :=
  match s.dm.acc.look x, bytes with
  | some a, some b =>
    let es := listElems (leAt a.d 32 4) (padTo (16 * leAt a.d 32 4) b)
    let st := if dOp a.d = 5 then listCheck a.d a.dst 2 es else listCheck a.d a.src 1 es
    if st = 0 then (s.dmUp (fun d => { d with lists := d.lists.put x (es.map (fun e => (e.1, e.2.1))) }), true)
    else (s.failX x st 0, false)
  | _, _ => (s.failX x 0x12 (4096 * (s.led x).cdone), false)

/-! ### The ring entries (R380, R388, R400) -/

/-- The station that orders a pair's accesses: its even slice, or the survivor (R389, R390). -/
def State.ledStn (s : State) (x : Nat) : Nat := 68 + 2 * (x / 65536) + bit (s.oddServes (x / 65536))

/-- Answer a reservation request: a slot, or 2^16 plus the status (R400 step 3). -/
def State.ringAnswer (s : State) (target thread ans : Nat) : State :=
  s.sendMsg (match s.ringOf target with | some r => s.ledStn r | none => 68) (stnMc (thread / 16)) (.ringAns thread ans)

/-- Hold a reservation request. -/
def State.ringHold (s : State) (t e th : Nat) : State := s.dmUp (fun d => { d with ringWait := d.ringWait ++ [(t, e, th)] })

/-- Step 3 of R400 at the ring entry's station, with the checks of R380. `again` says that the RX doorbell record has been read. -/
def State.ringServe (s : State) (t e th : Nat) (again : Bool) : State :=
  match s.ringOf t with
  | none => s.ringAnswer t th (65536 + 0x31)
  | some r =>
    let g := s.led r
    let sz := s.get F.RX_CFG_SIZE [t]
    let slot := g.delivered % 2 ^ sz
    if s.settledX r = false then s.ringHold t e th
    else if g.resV then (if g.resIdx = e then s.ringAnswer t th g.resSlot else s.ringHold t e th)
    else if s.on F.RX_CFG_EN [t] = false ∨ (s.rxs t).bad then s.ringAnswer t th (65536 + 0x31)
    else if 2 ^ sz ≤ (g.delivered + 2 ^ 32 - (s.rxs t).head) % 2 ^ 32 then
      if again then s.ringAnswer t th (65536 + 0x30)
      else if (s.rxs t).waiting.isSome then s.ringHold t e th
      else (s.emit (.hostRead (.dmf t) (s.rd ⟨.RX_DB_ADDR, [t]⟩).toNat 16)).rxUp t (fun x => { x with waiting := some (e, th) })
    else if (s.dm.occ.look (t, slot)).isSome then s.ringHold t e th
    else
      let f := s.led e
      let k := (f.inst, f.qp, t)
      let n := s.dm.msgSeq.lookD k 0
      ((s.ledPut r { g with delivered := (g.delivered + 1) % 2 ^ 32, resIdx := e, resV := true, resSlot := slot }).dmUp (fun d => { d with
        occ := d.occ.put (t, slot) (e, n), msgSeq := d.msgSeq.put k (n + 1) })).set F.RX_STAT_DELIVERED [t] (g.delivered + 1)

/-- Serve the requests held for a ring, in order. -/
def State.ringWake (s : State) (t : Nat) : State :=
  match takeFirst (fun w => w.1 == t) s.dm.ringWait with
  | some (w, rest) => (s.dmUp (fun d => { d with ringWait := rest })).ringServe t w.2.1 w.2.2 false
  | none => s

/-- The 64 bytes of a message slot (R378). -/
def msgBytes (d : List Byte) (inst qp ph seq : Nat) : List Byte :=
  padTo 48 ((d.drop 16).take (dLen d)) ++ leBytes 4 0 ++ leBytes 2 inst ++
  [BitVec.ofNat 8 (dLen d), BitVec.ofNat 8 (ph + 2 * qp)] ++ leBytes 4 seq ++ leBytes 4 (dUser d)

/-- Step 5 of R400: RES_V is cleared and the message slot written; the delivery requests an interrupt (R378, R384). -/
def State.msgDeliver (s : State) (x : Nat) : State :=
  match s.dm.acc.look x with
  | none => s
  | some a =>
    let e := s.led x
    let t := a.dst.tinst
    let slot := e.cwin
    match s.ringOf t with
    | none => s
    | some r =>
      let g := s.led r
      let sz := s.get F.RX_CFG_SIZE [t]
      let n := g.delivered + 2 ^ 32 - 1 - (g.delivered + 2 ^ 32 - 1 - slot) % 2 ^ sz
      let q := (s.dm.occ.lookD (t, slot) (x, 0)).2
      let s1 := if g.resV ∧ g.resIdx = x then s.ledPut r { g with resV := false } else s
      let s2 := s1.dmWrite a.dst.fn ((s.rd ⟨.RX_BASE, [t]⟩).toNat + 64 * slot) (msgBytes a.d e.inst e.qp (phase (n % 2 ^ 32) sz) q)
        (s.qpTc e.inst e.qp) false false
      ((s2.dmUp (fun d => { d with last := d.last.put x (a.dst.fn, (s.rd ⟨.RX_BASE, [t]⟩).toNat + 64 * slot + 60) })).instCount t 6).rxIrqAdd t

/-! ### Assignment (R393, R399, R400, R431) -/

/-- Does the slot of a PROGRAM hold a program that this instance's virtual switch may run (R431)? -/
def State.progRuns (s : State) (i : Nat) (d : List Byte) : Bool :=
  s.get F.DMG_PROG_STATE [progSlot d] == 2 && (s.get F.DMG_PROG_MASK_VS_MASK [progSlot d]).testBit (s.get F.DM_ID_VS [i])

/-- ATOMIC_ADD and MESSAGE at assignment, by how far the step has come (R399, R400). -/
def State.onceStart (s : State) (x : Nat) : State :=
  let e := s.led x
  let e2 : LedE := { e with state := 2 }
  match e.opcode, e.ni with
  | 8, 0 => s.ledThen x { e2 with ni := 1 } 1
  | 8, _ => s.ledPut x { e2 with state := 3 }
  | _, 0 => s.ledThen x { e2 with ni := 1 } 2
  | _, 1 => s.ledThen x e2 2
  | _, _ => s.ledThen x e2 3

/-- Give chunk `c` of an entry to a thread with a buffer. -/
def State.giveChunk (s : State) (x c t : Nat) (buf : Option Nat) : State :=
  let e := s.led x
  let d := s.descOf x
  let o := decide (dOp d = 0xA)
  let s1 := ((s.takeThr t e.inst o (if o then progSlot d else 0)).setChunks x (s.chunksOf x ++ [{ c := c, thr := t, buf := buf }])).dmUp
    (fun m => { m with rr := e.inst, charged := addNew m.charged (x, c), closer := m.closer.put x t })
  let s2 := if s.dm.charged.contains (x, c) then s1 else s1.shCharge (768 + e.inst) (chunkCharge d c)
  match dOp d with
  | 7 | 8 => s2.onceStart x
  | _ => (s2.when (e.state == 1) (·.ledPut x { e with state := 2 })).chunkReads x c

/-! ### Release of a descriptor's resources (R387) -/

/-- Forget what the front end holds about an entry. -/
def State.forgetX (s : State) (x : Nat) : State :=
  let e := s.led x
  let s0 := if e.opcode = 0xA ∧ e.ni = 1 then ((s.dropChunks x).freeBuf (e.cwin % 2 ^ 14)).freeBuf (e.cwin / 2 ^ 14 % 2 ^ 14) else s.dropChunks x
  let s1 := s0.when (s.dm.begun.contains x) (fun (s : State) =>
    s.set F.DMG_PROG_USE_USE [progSlot (s.descOf x)] (s.get F.DMG_PROG_USE_USE [progSlot (s.descOf x)] - 1))
  (s1.dmUp (fun d => { d with
    acc := d.acc.del x, lists := d.lists.del x, closer := d.closer.del x, recs := d.recs.filter (· != x),
    flush := d.flush.filter (· != x), flushed := d.flushed.filter (· != x), last := d.last.del x, occ := d.occ.filter (fun p => p.2.1 != x),
    charged := d.charged.filter (fun p => p.1 != x), begun := d.begun.filter (· != x),
    todo := d.todo.del x, reread := d.reread.filter (· != x) })).set F.DMG_INST_USE_ENTRIES [e.inst]
      (s.get F.DMG_INST_USE_ENTRIES [e.inst] - 1)

/-! ### Loss of a part (R396, R376) -/

/-- Mark an entry RESUMED. -/
def State.markResumed (s : State) (x : Nat) : State := s.ledPut x { s.led x with resumed := true }

/-- A part is lost: the uncommitted chunks whose thread or buffer it held become unassigned and RESUMED is set; an entry in Closing whose
record the lost Mule was writing is taken up again (R396). A chunk of a program whose step or mirror buffer is lost restarts as well. -/
def State.partLost (s : State) (thr buf : Nat → Bool) : State :=
  s.ledKeys.foldl (fun (s : State) (x : Nat) =>
    let hit := (s.chunksOf x).filter (fun k => thr k.thr || (k.buf.toList).any buf ||
      (match s.mule.thr.look k.thr with | some h => (h.stepBuf.toList ++ h.mirror.toList).any buf | none => false))
    if hit.isEmpty then
      if (s.led x).state = 3 ∧ thr (s.dm.closer.lookD x 256) then
        ((s.dmUp (fun d => { d with
          recs := d.recs.filter (· != x), flush := d.flush.filter (· != x), flushed := d.flushed.filter (· != x),
          closer := d.closer.del x }))).entryRun x
      else s
    else
      let s1 := hit.foldl (fun (s : State) (k : Chk) => s.endChunk x k.c) s
      let s2 := s1.dmUp (fun d => { d with todo := d.todo.del x })
      if (s2.led x).state = 1 ∨ (s2.led x).state = 2 then
        let s3 := s2.markResumed x
        if (s3.led x).status ≠ 0 then s3.putOrClose x (s3.led x) else s3
      else s2) s

/-- The target of reach handles is gone: every accepted descriptor that still accesses it ends with TARGET_LOST (R376). -/
def State.targetLost (s : State) (v : Nat) : State :=
  s.ledKeys.foldl (fun (s : State) (x : Nat) =>
    match s.dm.acc.look x with
    | some a =>
      if (a.src.ent.isSome && a.src.fn == v) || (a.dst.ent.isSome && a.dst.fn == v) then
        (s.failX x 0x32 (4096 * (s.led x).cdone)).when (s.dm.flush.contains x) (fun (s : State) =>
          (s.dmUp (fun d => { d with flush := d.flush.filter (· != x), last := d.last.del x })).closeX x 0x32 (s.led x).result)
      else s
    | none => s) s

/-! ### FLR of an instance (R402, R403) -/

/-- Step 3: once no Mule holds a chunk of the instance, every entry is Abandoned, and senders that wait for its ring get 0x31. -/
def State.flrAbandon (s : State) (i : Nat) : State :=
  if (s.dm.flr.look i).isNone ∨ (s.entriesOf i).any (fun x => (s.chunksOf x).any (fun k => k.got.isNone && s.muleIn (k.thr / 4))) then s
  else
    let s1 := (s.entriesOf i).foldl (fun (s : State) (x : Nat) => (s.dropChunks x).ledBoth x { s.led x with state := 4 }) s
    let ws := s1.dm.ringWait.filter (fun w => w.1 == i)
    let s2 := ws.foldl (fun (s : State) (w : Nat × Nat × Nat) => s.ringAnswer i w.2.2 (65536 + 0x31)) s1
    let s3 := match (s2.rxs i).waiting with
      | some w => (s2.rxUp i (fun r => { r with waiting := none })).ringAnswer i w.2 (65536 + 0x31)
      | none => s2
    s3.dmUp (fun d => { d with ringWait := d.ringWait.filter (fun w => w.1 != i) })

/-- Step 1 of an FLR: the front end stops, every EN, DM_ACCEPT and QP_IRQ is cleared; program invocations stop (R402). -/
def State.flrStart1 (s : State) (i : Nat) : State :=
  if (s.dm.flr.look i).isSome then s
  else
    let s1 := (List.range 8).foldl (fun (s : State) (q : Nat) =>
      (((s.setB F.QP_CTL_EN [i, q] false).resetReg ⟨.QP_IRQ, [i, q]⟩).qpUp i q (fun p => { p with
        want := false, busy := false, reading := false, got := if p.offer.isSome then p.got else none, irq := 0 }))) s
    let s2 := (((s1.setB F.RX_CFG_EN [i] false).resetReg ⟨.DM_ACCEPT, [i]⟩).updEnabled i).dmUp (fun d => { d with flr := d.flr.put i s.now })
    let s3 := (s2.entriesOf i).foldl (fun (s : State) (x : Nat) => if (s.led x).opcode = 0xA then s.dropChunks x else s) s2
    s3.flrAbandon i

/-- The virtual functions granted to a physical function. -/
def State.vfsOf (s : State) (v : Nat) : List Nat := (List.range (s.get F.DMG_VF_COUNT [v])).map (fun k => 48 + s.get F.DMG_VF_FIRST [v] + k)

/-- INSTANCE_FLR: of a physical function also its virtual functions, and VF Enable clears (R402). -/
def State.instFlr (s : State) (i : Nat) : State :=
  if i < 48 then (s.vfsOf i).foldl (fun (s : State) (j : Nat) => s.flrStart1 j) ((s.flrStart1 i).cfSet (.dmf i) .vfEnable 0)
  else s.flrStart1 i

/-- Is a register one of the set-up page of an instance? -/
def setupReg (i : Nat) (r : Reg) : Bool :=
  match r.n, r.ix with
  | .DM_STAT, [j] | .DM_ACCEPT, [j] | .RX_CFG, [j] | .RX_IRQ, [j] | .RX_STAT, [j] | .RX_BASE, [j] | .RX_DB_ADDR, [j] | .DL_SEL, [j]
  | .DL_CFG, [j] | .DL_CTL, [j] | .DL_STAT, [j] | .DL_BASE, [j] | .DL_DB_ADDR, [j] | .IMSIX_PBA, [j] => j == i
  | .QP_CFG, [j, _] | .QP_IRQ, [j, _] | .QP_CTL, [j, _] | .QP_ERR, [j, _] | .QP_STAT, [j, _] | .QP_SQ_BASE, [j, _] | .QP_CQ_BASE, [j, _]
  | .QP_DB_ADDR, [j, _] | .IMSIX_ADDR, [j, _] | .IMSIX_DATA, [j, _] | .IMSIX_CTRL, [j, _] => j == i
  | .DMG_CNT, [j, _] => j == i
  | _, _ => false

/-- FLR_COMPLETE (R402 steps 4 to 6, R443, R532): once every entry is Abandoned, the entries and the ring entry are freed, the set-up
registers, counters and configuration are reset, and the instance shaper takes the credit and rate effects of R442. The serving cluster stays. -/
def State.flrDone (s0 : State) (i : Nat) : State :=
  let s := s0.flrAbandon i
  if (s.dm.flr.look i).isNone ∨ (s.entriesOf i).any (fun x => (s.led x).state != 4) then s
  else
    let sv := s.get F.DM_STAT_SERVING [i]
    let s1 := (s.entriesOf i).foldl (fun (s : State) (x : Nat) =>
      let s' := match s.dm.acc.look x with
        | some a => if s.dm.recs.contains x then s else s.reachUse a false
        | none => s
      (s'.forgetX x).ledBoth x {}) s
    let s2 := match s1.ringOf i with
      | some r => s1.ledBoth r {}
      | none => s1
    let s3 := (s2.clearRegs (setupReg i)).set F.DM_STAT_SERVING [i] sv
    let s4 := s3.dmUp (fun d => { d with
      flr := d.flr.del i, qp := d.qp.filter (fun e => e.1.1 != i), rx := d.rx.del i,
      logged := if i < 48 then d.logged.filter (fun j => !(s.vfsOf i).contains j && j != i) else d.logged.filter (· != i),
      quiesced := d.quiesced.filter (· != i), logs := d.logs.del i })
    ((s4.cfReset (fun f => f == .dmf i) false).shLoad (768 + i)).dlView (s.get F.DM_ID_VS [i])

end Sys2Proof.Machine
end

