-- ==== Sys2Proof/Machine/Mem.lean ====
section
/-!
DEFINITION. Byte memories in canonical form: addresses strictly rising and no entry 0; an unlisted address reads 0.
-/

namespace Sys2Proof.Machine

/-- Read a byte. -/
def memGet : Memory → Nat → Byte
  | [], _ => 0
  | (b, w) :: t, a => if a = b then w else memGet t a

/-- Write a byte. -/
def memSet : Memory → Nat → Byte → Memory
  | [], a, v => if v = 0 then [] else [(a, v)]
  | (b, w) :: t, a, v =>
    if a < b then (if v = 0 then (b, w) :: t else (a, v) :: (b, w) :: t)
    else if a = b then (if v = 0 then t else (a, v) :: t)
    else (b, w) :: memSet t a v

/-- Read `n` bytes from an address on. -/
def memRead (m : Memory) (a n : Nat) : List Byte := (List.range n).map (fun k => memGet m (a + k))

/-- Write bytes from an address on. -/
def memWrite : Memory → Nat → List Byte → Memory
  | m, _, [] => m
  | m, a, v :: vs => memWrite (memSet m a v) (a + 1) vs

/-- A memory whose entries lie at or above `lo`, strictly rising, none 0. -/
def Memory.from (lo : Nat) : Memory → Bool
  | [] => true
  | (b, w) :: t => decide (lo ≤ b) && w != 0 && Memory.from (b + 1) t

/-- The canonical form. -/
def Memory.wf (m : Memory) : Bool := Memory.from 0 m

end Sys2Proof.Machine
end

