-- ==== Sys2Proof/Machine/MuleDec.lean ====
section
/-!
DEFINITION. The encoding of the Mule instruction set (R416, R417): mnemonics, classes, the decoder and the encoder.
-/

namespace Sys2Proof.Machine

/-- The mnemonics of R417. -/
inductive Mn where
  | add | sub | and | or | xor | sll | srl | sra | rotr | slt | sltu | mul | mulhu | minu | maxu | clz | popc | bswap | crc
  | addi | andi | ori | xori | shi | lih | slti
  | ld8u | ld16u | ld32u | ld64 | st8 | st16 | st32 | st64
  | beq | bne | blt | bge | bltu | bgeu | jal | jalr
  | srdS | srdD | swrD | sput | swait | step | end_ | abort | time
  deriving DecidableEq, Repr

/-- The classes of R416; loads and stores share the field places of class I. -/
inductive MCls where
  | r | i | b | j
  deriving DecidableEq, Repr

/-- Every mnemonic, in the table's order. -/
def Mn.all : List Mn :=
  [.add, .sub, .and, .or, .xor, .sll, .srl, .sra, .rotr, .slt, .sltu, .mul, .mulhu, .minu, .maxu, .clz, .popc, .bswap, .crc] ++
  [.addi, .andi, .ori, .xori, .shi, .lih, .slti, .ld8u, .ld16u, .ld32u, .ld64, .st8, .st16, .st32, .st64] ++
  [.beq, .bne, .blt, .bge, .bltu, .bgeu, .jal, .jalr, .srdS, .srdD, .swrD, .sput, .swait, .step, .end_, .abort, .time]

/-- Class, OP and FN of a mnemonic (R417); FN 0 outside class R. -/
def Mn.enc : Mn → MCls × Nat × Nat
  | .add => (.r, 1, 0) | .sub => (.r, 1, 1) | .and => (.r, 1, 2) | .or => (.r, 1, 3) | .xor => (.r, 1, 4) | .sll => (.r, 1, 5)
  | .srl => (.r, 1, 6) | .sra => (.r, 1, 7) | .rotr => (.r, 1, 8) | .slt => (.r, 1, 9) | .sltu => (.r, 1, 0xA) | .mul => (.r, 1, 0xB)
  | .mulhu => (.r, 1, 0xC) | .minu => (.r, 1, 0xD) | .maxu => (.r, 1, 0xE) | .clz => (.r, 1, 0xF) | .popc => (.r, 1, 0x10)
  | .bswap => (.r, 1, 0x11) | .crc => (.r, 1, 0x12)
  | .addi => (.i, 2, 0) | .andi => (.i, 3, 0) | .ori => (.i, 4, 0) | .xori => (.i, 5, 0) | .shi => (.i, 6, 0) | .lih => (.i, 7, 0)
  | .slti => (.i, 8, 0)
  | .ld8u => (.i, 0x10, 0) | .ld16u => (.i, 0x11, 0) | .ld32u => (.i, 0x12, 0) | .ld64 => (.i, 0x13, 0)
  | .st8 => (.i, 0x14, 0) | .st16 => (.i, 0x15, 0) | .st32 => (.i, 0x16, 0) | .st64 => (.i, 0x17, 0)
  | .beq => (.b, 0x20, 0) | .bne => (.b, 0x21, 0) | .blt => (.b, 0x22, 0) | .bge => (.b, 0x23, 0) | .bltu => (.b, 0x24, 0)
  | .bgeu => (.b, 0x25, 0) | .jal => (.j, 0x26, 0) | .jalr => (.i, 0x27, 0)
  | .srdS => (.r, 0x30, 0) | .srdD => (.r, 0x30, 1) | .swrD => (.r, 0x30, 2) | .sput => (.r, 0x30, 3) | .swait => (.r, 0x30, 4)
  | .step => (.r, 0x31, 0) | .end_ => (.r, 0x32, 0) | .abort => (.r, 0x32, 1) | .time => (.r, 0x32, 2)

/-- An instruction: RD (or RS), RA, RB, and IMM or OFF as the unsigned value of its field (16 bits; 21 for JAL). -/
structure MIns where
  mn : Mn
  d : Nat := 0
  a : Nat := 0
  b : Nat := 0
  imm : Nat := 0
  deriving DecidableEq, Repr

/-- Which of RD, RA, RB a class R mnemonic uses, as 1 and 0 (R417). -/
def Mn.uses : Mn → Nat × Nat × Nat
  | .clz | .popc | .bswap => (1, 1, 0)
  | .swait => (0, 0, 0)
  | .step | .end_ | .abort => (0, 1, 0)
  | .time => (1, 0, 0)
  | .lih => (1, 0, 0)
  | _ => (1, 1, 1)

/-- A field that the instruction does not use is 0 (R417): RD, RA, RB of class R, RA of LIH, IMM[15:8] of SHI. -/
def MIns.unusedZero (i : MIns) : Bool :=
  let u := i.mn.uses
  match i.mn.enc.1 with
  | .r => (u.1 == 1 || i.d == 0) && (u.2.1 == 1 || i.a == 0) && (u.2.2 == 1 || i.b == 0) && i.imm == 0
  | .i => (u.2.1 == 1 || i.a == 0) && i.b == 0 && (i.mn != .shi || decide (i.imm < 256))
  | .b => i.d == 0
  | .j => i.a == 0 && i.b == 0

/-- Well-formed: every field in its width and the unused ones 0. -/
def MIns.wf (i : MIns) : Bool :=
  decide (i.d < 32) && decide (i.a < 32) && decide (i.b < 32) && decide (i.imm < (if i.mn.enc.1 = .j then 2 ^ 21 else 2 ^ 16)) && i.unusedZero

/-- The word of an instruction (R416). -/
def mEncode (i : MIns) : Nat :=
  let e := i.mn.enc
  match e.1 with
  | .r => e.2.1 + 2 ^ 6 * i.d + 2 ^ 11 * i.a + 2 ^ 16 * i.b + 2 ^ 21 * e.2.2
  | .i => e.2.1 + 2 ^ 6 * i.d + 2 ^ 11 * i.a + 2 ^ 16 * i.imm
  | .b => e.2.1 + 2 ^ 6 * i.a + 2 ^ 11 * i.b + 2 ^ 16 * i.imm
  | .j => e.2.1 + 2 ^ 6 * i.d + 2 ^ 11 * (i.imm % 32) + 2 ^ 16 * (i.imm / 32)

/-- The fields of a word for a mnemonic. -/
def mFields (m : Mn) (w : Nat) : MIns :=
  match m.enc.1 with
  | .r => { mn := m, d := w / 2 ^ 6 % 32, a := w / 2 ^ 11 % 32, b := w / 2 ^ 16 % 32 }
  | .i => { mn := m, d := w / 2 ^ 6 % 32, a := w / 2 ^ 11 % 32, imm := w / 2 ^ 16 % 2 ^ 16 }
  | .b => { mn := m, a := w / 2 ^ 6 % 32, b := w / 2 ^ 11 % 32, imm := w / 2 ^ 16 % 2 ^ 16 }
  | .j => { mn := m, d := w / 2 ^ 6 % 32, imm := w / 2 ^ 11 % 32 + 32 * (w / 2 ^ 16 % 2 ^ 16) }

/-- Does a word carry a mnemonic's OP and, in class R, its FN? -/
def Mn.hits (m : Mn) (w : Nat) : Bool :=
  m.enc.2.1 == w % 64 && (m.enc.1 != .r || m.enc.2.2 == w / 2 ^ 21 % 2 ^ 11)

/-- Decode a 32-bit word; `none` is an illegal instruction (R417). -/
def mDecode (w : Nat) : Option MIns :=
  match Mn.all.find? (fun m => m.hits w) with
  | some m => if (mFields m w).unusedZero then some (mFields m w) else none
  | none => none

end Sys2Proof.Machine
end

