-- ==== Sys2Proof/Machine/Mule.lean ====
section
/-!
DEFINITION. The Mule threads: registers, the local address space (R412, R413), the start and end of program invocations (R411, R415, R421, R432,
R433), faults (R420), the stream unit (R414), STEP (R419), and the effect of each instruction (R417, R418).
-/

namespace Sys2Proof.Machine

/-! ### Threads -/

/-- The invocation of a thread. -/
def State.thr (s : State) (t : Nat) : Option Thr := s.mule.thr.look t

/-- Instruction memory offset of the code that a thread runs: its slot at level O, vendor firmware at level V (R412). -/
def Thr.codeBase (h : Thr) : Nat := if h.o then 0x10000 + 0x4000 * h.slot else 0

/-- Store a thread, with the PC of MCL_THR. -/
def State.putThr (s : State) (t : Nat) (h : Thr) : State :=
  (s.muleUp (fun m => { m with thr := m.thr.put t h })).set F.MCL_THR_PC [t / 16, t % 16] (h.codeBase + h.pc)

/-- MCL_THR.STATE: 1 Running, 2 Stream wait, 3 Step. -/
def State.setThrState (s : State) (t v : Nat) : State := s.set F.MCL_THR_STATE [t / 16, t % 16] v

/-- Read a register of 64 bits: g0 reads 0 (R415). -/
def Thr.g (h : Thr) (r : Nat) : Nat := if r = 0 then 0 else h.regs.lookD r 0 % 2 ^ 64

/-- Write a register: writes to g0 are discarded (R415). -/
def Thr.setG (h : Thr) (r v : Nat) : Thr := if r = 0 then h else { h with regs := h.regs.put r (v % 2 ^ 64) }

/-- The next instruction (R417). -/
def Thr.next (h : Thr) : Thr := { h with pc := (h.pc + 4) % 2 ^ 64 }

/-! ### The local address space (R413) -/

/-- Where a local address lies: data memory (cluster address), a staging buffer (buffer and offset). -/
inductive Loc where
  | dmem (a : Nat)
  | buf (b off : Nat)
  deriving DecidableEq, Repr

/-- The regions of R413 that a thread may access: first address, size, read, write. -/
def State.regions (s : State) (t : Nat) (h : Thr) : List (Nat × Nat × Bool × Bool) :=
  let own := [(0x60000 + 0x2000 * (t % 16), 0x2000, true, true)]
  let win := if h.buf.isSome then [(0x100000, 0x1000, true, true)] else []
  if h.o then
    let idem := s.progIdem (s.descOf h.idx)
    [(0x40000 + 0x2000 * h.slot, 0x2000, true, false)] ++ own ++ win ++
      (if idem || h.stepBuf.isNone then [] else [(0x101000, 0xE00, true, true), (0x101E00, 0x200, true, false)])
  else
    [(0, 0x40000, true, true)] ++ (List.range 4).map (fun p => (0x40000 + 0x2000 * p, 0x2000, true, true)) ++ [(0x48000, 0x18000, true, true)] ++
      (List.range 16).map (fun u => (0x60000 + 0x2000 * u, 0x2000, true, true)) ++ win

/-- Do the regions permit an access of `n` bytes? It lies in one region that permits the direction; the step buffer's two parts are one region to
a read. -/
def State.localOk (s : State) (t : Nat) (h : Thr) (a n : Nat) (write : Bool) : Bool :=
  (s.regions t h).any (fun r => decide (r.1 ≤ a) && decide (a + n ≤ r.1 + r.2.1) && (if write then r.2.2.2 else r.2.2.1)) ||
  (!write && h.o && !s.progIdem (s.descOf h.idx) && h.stepBuf.isSome && decide (0x101000 ≤ a) && decide (a + n ≤ 0x102000))

/-- The first byte that the gate refuses to a level O thread: slot 160 + k at level O, by the bank of its cluster (R413, R570). -/
def State.thrGate (s : State) (t : Nat) (h : Thr) (kind a n : Nat) : Option Nat :=
  if h.o then s.gateRefused (s.gateBankOf (stnMc (t / 16))) (160 + t / 16) .o kind a n else none

/-- The memory behind a local address. -/
def Thr.locOf (t : Nat) (h : Thr) (a : Nat) : Loc :=
  if a < 0x80000 then .dmem (0x80000 * (t / 16) + a)
  else if a < 0x101000 then .buf (h.buf.getD 0) (a - 0x100000)
  else .buf (h.stepBuf.getD 0) (a - 0x101000)

/-- Read `n` bytes of local memory. -/
def State.locRead (s : State) (t : Nat) (h : Thr) (a n : Nat) : List Byte :=
  match h.locOf t a with
  | .dmem x => memRead s.mule.dmem x n
  | .buf b o => memRead s.mule.stg (4096 * b + o) n

/-- Write bytes of local memory. -/
def State.locWrite (s : State) (t : Nat) (h : Thr) (a : Nat) (l : List Byte) : State :=
  match h.locOf t a with
  | .dmem x => s.muleUp (fun m => { m with dmem := memWrite m.dmem x l })
  | .buf b o => s.muleUp (fun m => { m with stg := memWrite m.stg (4096 * b + o) l })

/-! ### Ends of an invocation (R420 to R422) -/

/-- The chunk offset that RESULT takes where a status leaves it to R373 (R421). -/
def State.chunkOff (s : State) (h : Thr) : Nat := if s.progChunked (s.descOf h.idx) then 4096 * h.c else 0

/-- End the invocation of a thread with a failure of its descriptor. -/
def State.endFail (s : State) (t : Nat) (h : Thr) (st r : Nat) : State := ((s.freeThr t).endChunk h.idx h.c).failX h.idx st r

/-- A thread takes a fault: the cluster's log if it is free, the event, the counter, and the end of the invocation (R420, R421). -/
def State.thrFault (s : State) (t cause addr : Nat) : State :=
  match s.thr t with
  | none => s
  | some h =>
    let k := t / 16
    let s1 := s.when (!s.on F.MCL_FAULT_VALID [k]) (fun (s : State) =>
      (s.wr ⟨.MCL_FAULT, [k]⟩ (packW [(0, 4, cause), (4, 4, t % 16), (8, 1, 1), (9, 11, h.inst), (20, 2, h.slot), (32, 17, h.codeBase + h.pc)])).wr
        ⟨.MCL_FAULT_ADDR, [k]⟩ (BitVec.ofNat 64 addr))
    let s2 := (s1.muleCount (t / 4) 6).event (.mule (t / 4)) (if cause = 7 then 1 else 0)
    s2.endFail t h (if cause = 7 then 0x43 else 0x41) (s.chunkOff h)

/-- An access that the gate refuses is logged as such, and is a fault (R236, R420). -/
def State.thrDeny (s : State) (t cause kind a : Nat) : State := (s.gateDeny (.mule ⟨t / 4 % 64, by omega⟩) (160 + t / 16) a kind).thrFault t cause a

/-- A program invocation has ended: 0 END, 1 ABORT, with a value (R421). -/
def State.thrEnd (s : State) (t : Nat) (h : Thr) (f : Nat × Nat) : State :=
  if f.1 = 1 then s.endFail t h 0x42 f.2
  else
    let d := s.descOf h.idx
    let s1 := ((s.muleCount (t / 4) 4).freeThr t).endChunk h.idx h.c
    let e := (s1.led h.idx).commit h.c
    s1.putOrClose h.idx (if h.c + 1 = s.nChunks d then { e with result := f.2 } else e)

/-! ### The start of a program (R415, R432, R433) -/

/-- Byte offset of the first instruction (R425). -/
def State.progEntry (s : State) (slot : Nat) : Nat := leAt (s.mule.images.lookD slot []) 16 4

/-- The registers at entry: `r8` and `r9` are the checkpoint and the resumption mark (R415). -/
def State.entryRegs (s : State) (t : Nat) (h : Thr) (r8 r9 : Nat) : AMap Nat Nat :=
  let d := s.descOf h.idx
  let ch := s.progChunked d
  [(1, dLen d), (2, if ch then 4096 * h.c else 0), (3, if ch then chunkBytes d h.c else dLen d), (4, leAt d 36 8), (5, leAt d 44 8), (6, leAt d 52 8),
   (7, leAt d 60 4), (8, r8), (9, r9), (10, h.inst), (11, 0x60000 + 0x2000 * (t % 16)), (12, 0x40000 + 0x2000 * h.slot), (13, dSrc d), (14, dDst d)]

/-- Put a thread at ENTRY with its registers. -/
def State.restart (s : State) (t : Nat) (h : Thr) (r8 r9 : Nat) : State :=
  (s.putThr t { h with regs := s.entryRegs t h r8 r9, pc := s.progEntry h.slot, step := none, again := false, sputs := [] }).setThrState t 1

/-- The step buffer's records (R419): checkpoint, and buffer offset, length and destination offset of each. -/
def stepHeader (b : List Byte) : Nat × List (Nat × Nat × Nat) :=
  (leAt b 0xE00 8, (List.range (min 62 (leAt b 0xE08 8))).map (fun k => let r := leAt b (0xE10 + 8 * k) 8
    (r % 2 ^ 12, r / 2 ^ 12 % 2 ^ 13, r / 2 ^ 25 % 2 ^ 31)))

/-- Step 3 of R419: the destination writes of every record, in record order. -/
def State.stepWrites (s : State) (t : Nat) (h : Thr) : State :=
  match s.dm.acc.look h.idx with
  | none => s
  | some a =>
    let s1 := h.sputs.foldl (fun (s : State) (r : Nat × Nat × Nat) =>
      (s.sideWrite h.idx a.dst (dDst a.d + r.2.2) (memRead s.mule.stg (4096 * h.stepBuf.getD 0 + r.1) r.2.1)).muleCount (t / 4) 3 r.2.1) s
    s1.putThr t { h with writes := h.sputs.map (fun r => (r.2.2, r.2.1)) }

/-- Step 4 of R419. -/
def State.stepCommit (s : State) (h : Thr) : State :=
  s.ledThen h.idx { s.led h.idx with result := h.step.getD 0, ni := 2 } 5

/-- Steps 3 and 4: the writes, and at once the commit if there are none. -/
def State.stepGo (s : State) (t : Nat) (h : Thr) : State :=
  let s1 := s.stepWrites t h
  if h.sputs.isEmpty then s1.stepCommit h else s1

/-- Step 5 of R419: the mirror is released and the record list emptied; a resumed program restarts with the checkpoint (R433). -/
def State.stepEnd (s : State) (t : Nat) (h : Thr) : State :=
  let s1 := (match h.mirror with | some b => s.freeBuf b | none => s).muleCount (t / 4) 7
  let h1 : Thr := { h with mirror := none, sputs := [], step := none }
  if h.again then s1.restart t h1 (s1.led h.idx).result 1 else (s1.putThr t h1).setThrState t 1

/-- What follows a ledger write of a program's STEP: 4 the writes, 5 the end. -/
def State.stepAck (s : State) (x code : Nat) : State :=
  match (s.chunksOf x).findSome? (fun k => (s.thr k.thr).map (fun h => (k.thr, h))) with
  | some (t, h) => if code = 4 then s.stepGo t h else s.stepEnd t h
  | none => s

/-- Start a program invocation on a thread (R411, R431 to R433). A non-idempotent program that resumes with NI = 1 repeats steps 3 to 5
of its STEP from whichever of its two buffers is in service. `sb` is its step buffer. -/
def State.progStart (s : State) (x c t : Nat) (buf sb : Option Nat) : State :=
  let e := s.led x
  let d := s.descOf x
  let h : Thr := { idx := x, c := c, inst := e.inst, o := true, slot := progSlot d, t0 := s.now, buf := buf, stepBuf := sb }
  let s1 := s.muleCount (t / 4) 5
  if s.progIdem d ∨ e.ni = 0 then s1.restart t h 0 0
  else if e.ni = 2 then s1.restart t h e.result 1
  else
    let b0 := e.cwin % 2 ^ 14
    let b1 := e.cwin / 2 ^ 14 % 2 ^ 14
    let use := if s.ssIn (b0 / 1024) then b0 else b1
    let other := if use = b0 then b1 else b0
    let s2 := match sb with | some b => s1.freeBuf b | none => s1
    let hd := stepHeader (memRead s.mule.stg (4096 * use) 4096)
    let h2 : Thr := { h with stepBuf := some use, mirror := some other, step := some hd.1, sputs := hd.2, again := true }
    ((s2.putThr t h2).setThrState t 3).stepGo t h2

/-! ### Instructions (R417, R418) -/

/-- The value of a register-register or register-immediate instruction, if it is one that only computes. -/
def mAlu (i : MIns) (x y now : Nat) : Option Nat :=
  let M := 2 ^ 64
  let sh := y % 64
  let im := unsx 64 (sext 16 i.imm)
  let shift := fun (mode n v : Nat) =>
    match mode with
    | 0 => v * 2 ^ n % M
    | 1 => v / 2 ^ n
    | 2 => unsx 64 (sext 64 v / (2 : Int) ^ n)
    | _ => (v / 2 ^ n + v * 2 ^ (64 - n)) % M
  match i.mn with
  | .add => some ((x + y) % M)
  | .sub => some ((x + M - y) % M)
  | .and => some (x &&& y)
  | .or => some (x ||| y)
  | .xor => some (x ^^^ y)
  | .sll => some (shift 0 sh x)
  | .srl => some (shift 1 sh x)
  | .sra => some (shift 2 sh x)
  | .rotr => some (shift 3 sh x)
  | .slt => some (bit (decide (sext 64 x < sext 64 y)))
  | .sltu => some (bit (decide (x < y)))
  | .mul => some (x * y % M)
  | .mulhu => some (x * y / M)
  | .minu => some (min x y)
  | .maxu => some (max x y)
  | .clz => some (if x = 0 then 64 else 63 - Nat.log2 x)
  | .popc => some ((List.range 64).map (fun k => bit (x.testBit k))).sum
  | .bswap => some (leNat (leBytes 8 x).reverse)
  | .crc => some (crcRaw (BitVec.ofNat 32 x) (leBytes 8 y)).toNat
  | .addi => some ((x + im) % M)
  | .andi => some (x &&& i.imm)
  | .ori => some (x ||| i.imm)
  | .xori => some (x ^^^ i.imm)
  | .shi => some (shift (i.imm / 64 % 4) (i.imm % 64) x)
  | .lih => some (unsx 64 (sext 16 i.imm * 2 ^ 16))
  | .slti => some (bit (decide (sext 64 x < sext 16 i.imm)))
  | .time => some (now % M)
  | _ => none

/-- Is a branch taken? -/
def mTaken (m : Mn) (x y : Nat) : Bool :=
  match m with
  | .beq => x == y
  | .bne => x != y
  | .blt => decide (sext 64 x < sext 64 y)
  | .bge => decide (sext 64 y ≤ sext 64 x)
  | .bltu => decide (x < y)
  | .bgeu => decide (y ≤ x)
  | _ => false

/-- The target of a PC-relative transfer: OFF counts instructions from the instruction itself (R417). -/
def mTarget (pc w off : Nat) : Nat := unsx 64 ((pc : Int) + 4 * sext w off)

/-- Bytes of a load or store. -/
def mSize (m : Mn) : Nat := match m with | .ld8u | .st8 => 1 | .ld16u | .st16 => 2 | .ld32u | .st32 => 4 | _ => 8

/-- An instruction has retired: the Mule's counter, and the sampling counts of R538. A precise sample catches the 2^PERIOD-th instruction. -/
def State.retire (s : State) (t : Nat) (h : Thr) (addr : Nat) : State :=
  let m := t / 4
  let s1 := s.muleCount m 0
  if s.smpOn ∧ (s.get F.PMG_SMP_MASK_MASK []).testBit m then
    if s.on F.PMG_SMP_CFG_MODE [] then
      if s.perf.skidAt + s.skidNs ≤ s.now then { s1 with perf := { s1.perf with skidRun := AMap.upd s1.perf.skidRun m 0 (· + 1) } } else s1
    else
      let n := s.perf.retired.lookD m 0 + 1
      let per := min 24 (max 10 (s.get F.PMG_SMP_CFG_PERIOD []))
      if n = 2 ^ per then
        { s1 with perf := { s1.perf with retired := s1.perf.retired.put m 0,
                                         caught := s1.perf.caught.put m (t, h.codeBase + h.pc, addr, s.now, h.inst * 8 + h.slot * 2 + bit h.o) } }
      else { s1 with perf := { s1.perf with retired := s1.perf.retired.put m n } }
  else s1

/-- Complete an instruction of a thread: the thread after it is stored and the instruction retires. -/
def State.done (s : State) (t : Nat) (h h' : Thr) : State := (s.putThr t h').retire t h 0

/-- Loads (R413, R417): natural alignment, the regions and the gate. -/
def State.mLoad (s : State) (t : Nat) (h : Thr) (i : MIns) : State :=
  let a := unsx 64 ((h.g i.a : Int) + sext 16 i.imm)
  let n := mSize i.mn
  if a % n ≠ 0 then s.thrFault t 3 a
  else if s.localOk t h a n false = false then s.thrFault t 4 a
  else match s.thrGate t h 0 a n with
    | some o => s.thrDeny t 4 0 o
    | none => (s.putThr t (h.setG i.d (leNat (s.locRead t h a n))).next).retire t h a

/-- Stores. -/
def State.mStore (s : State) (t : Nat) (h : Thr) (i : MIns) : State :=
  let a := unsx 64 ((h.g i.a : Int) + sext 16 i.imm)
  let n := mSize i.mn
  if a % n ≠ 0 then s.thrFault t 3 a
  else if s.localOk t h a n true = false then s.thrFault t 4 a
  else match s.thrGate t h 1 a n with
    | some o => s.thrDeny t 4 1 o
    | none => ((s.locWrite t h a (leBytes n (h.g i.d))).putThr t h.next).retire t h a

/-- Requests of a Mule that its stream unit has outstanding (R414). -/
def State.streamOut (s : State) (m : Nat) : Nat :=
  ((List.range 4).map (fun j => match s.thr (4 * m + j) with
    | some h =>
      let rq := 128 <<< min 5 (s.cf (.dmf h.inst) .mrrs)
      let wq := 128 <<< min 5 (s.cf (.dmf h.inst) .mps)
      (h.reads.map (fun r => (r.len + rq - 1) / rq)).sum + (h.writes.map (fun w => (w.2 + wq - 1) / wq)).sum
    | none => 0)).sum

/-- The range checks of a stream operation: length 1 to 4,096 and the host range within LEN (R417, R420 cause 5). -/
def streamRangeOk (d : List Byte) (off n : Nat) : Bool := decide (1 ≤ n) && decide (n ≤ 4096) && decide (off + n ≤ dLen d)

/-- SRD.S and SRD.D: the read is issued, and lands later (R414, R417). -/
def State.mSrd (s : State) (t : Nat) (h : Thr) (i : MIns) (dst : Bool) : State :=
  match s.dm.acc.look h.idx with
  | none => s
  | some a =>
    let off := h.g i.a
    let n := h.g i.b
    let loc := h.g i.d
    if streamRangeOk a.d off n = false ∨ s.localOk t h loc n true = false then s.thrFault t 5 off
    else match s.thrGate t h 1 loc n with
      | some o => s.thrDeny t 4 1 o
      | none =>
        if 64 ≤ s.streamOut (t / 4) then s
        else
          let sd := if dst then a.dst else a.src
          let base := if dst then dDst a.d else dSrc a.d
          let e := s.led h.idx
          ((s.dmRead sd.fn (sd.at_ (base + off)) n (s.qpTc e.inst e.qp) (dFlag a.d 3)).done t h
            { h.next with reads := h.reads ++ [{ dst := dst, off := off, len := n, loc := loc }] })

/-- SWR.D, in idempotent programs only (R418). -/
def State.mSwr (s : State) (t : Nat) (h : Thr) (i : MIns) : State :=
  match s.dm.acc.look h.idx with
  | none => s
  | some a =>
    let off := h.g i.a
    let n := h.g i.b
    let loc := h.g i.d
    if h.o ∧ s.progIdem a.d = false then s.thrFault t 6 0
    else if streamRangeOk a.d off n = false ∨ s.localOk t h loc n false = false then s.thrFault t 5 off
    else match s.thrGate t h 0 loc n with
      | some o => s.thrDeny t 4 0 o
      | none =>
        if 64 ≤ s.streamOut (t / 4) then s
        else ((s.sideWrite h.idx a.dst (dDst a.d + off) (s.locRead t h loc n)).muleCount (t / 4) 3 n).done t h { h.next with writes := h.writes ++ [(off, n)] }

/-- SPUT, in non-idempotent programs only: a record of the step (R418). -/
def State.mSput (s : State) (t : Nat) (h : Thr) (i : MIns) : State :=
  let d := s.descOf h.idx
  let off := h.g i.a
  let n := h.g i.b
  let loc := h.g i.d
  if h.o = false ∨ s.progIdem d ∨ 62 ≤ h.sputs.length then s.thrFault t 6 0
  else if streamRangeOk d off n = false ∨ loc < 0x101000 ∨ 0x101E00 < loc + n then s.thrFault t 5 off
  else s.done t h { h.next with sputs := h.sputs ++ [(loc - 0x101000, n, off)] }

/-- The step header of R419. -/
def stepBytes (ckpt : Nat) (rs : List (Nat × Nat × Nat)) : List Byte :=
  padTo 512 (leBytes 8 ckpt ++ leBytes 8 rs.length ++ rs.flatMap (fun r => leBytes 8 (r.1 + 2 ^ 12 * r.2.1 + 2 ^ 25 * r.2.2)))

/-- STEP, in non-idempotent programs only: steps 1 and 2 of R419. It waits while the quota has no room for the mirror buffer, no slice of
another row group has one, or a ledger write is unfinished. -/
def State.mStep (s : State) (t : Nat) (h : Thr) (i : MIns) : State :=
  if h.o = false ∨ s.progIdem (s.descOf h.idx) then s.thrFault t 6 0
  else
    let b := h.stepBuf.getD 0
    if h.stepBuf = none ∨ s.stagingShare h.inst = false ∨ s.settledX h.idx = false then s
    else match s.takeBuf h.inst (fun k => decide (k / 4 ≠ b / 1024 / 4)) with
      | none => s
      | some (mb, s1) =>
        let ck := h.g i.a
        let s2 := s1.muleUp (fun m => { m with stg := memWrite m.stg (4096 * b + 0xE00) (stepBytes ck h.sputs) })
        let s3 := s2.muleUp (fun m => { m with stg := memWrite m.stg (4096 * mb) (memRead m.stg (4096 * b) 4096) })
        let h' : Thr := { h.next with mirror := some mb, step := some ck }
        ((s3.done t h h').setThrState t 3).ledThen h.idx { s3.led h.idx with ni := 1, cwin := b + 2 ^ 14 * mb } 4

/-- SWAIT, END and ABORT wait for the thread's streams (R417). -/
def State.mWait (s : State) (t : Nat) (h : Thr) (fin : Option (Nat × Nat)) : State :=
  if h.reads.isEmpty ∧ h.writes.isEmpty then
    match fin with
    | some f => (s.retire t h 0).thrEnd t h f
    | none => s.done t h h.next
  else (s.done t h { h.next with waiting := true, fin := fin }).setThrState t 2

/-- The effect of a decoded instruction on its thread. -/
def State.mEffect (s : State) (t : Nat) (h : Thr) (i : MIns) : State :=
  match i.mn with
  | .ld8u | .ld16u | .ld32u | .ld64 => s.mLoad t h i
  | .st8 | .st16 | .st32 | .st64 => s.mStore t h i
  | .beq | .bne | .blt | .bge | .bltu | .bgeu =>
    if mTaken i.mn (h.g i.a) (h.g i.b) then s.done t h { h with pc := mTarget h.pc 16 i.imm } else s.done t h h.next
  | .jal => s.done t h { h.setG i.d ((h.pc + 4) % 2 ^ 64) with pc := mTarget h.pc 21 i.imm }
  | .jalr =>
    let a := unsx 64 ((h.g i.a : Int) + sext 16 i.imm)
    if a % 4 ≠ 0 then s.thrFault t 3 0 else s.done t h { h.setG i.d ((h.pc + 4) % 2 ^ 64) with pc := a }
  | .srdS => s.mSrd t h i false
  | .srdD => s.mSrd t h i true
  | .swrD => s.mSwr t h i
  | .sput => s.mSput t h i
  | .swait => s.mWait t h none
  | .step => s.mStep t h i
  | .end_ => s.mWait t h (some (0, h.g i.a))
  | .abort => s.mWait t h (some (1, h.g i.a))
  | _ =>
    match mAlu i (h.g i.a) (h.g i.b) s.now with
    | some v => s.done t h (h.setG i.d v).next
    | none => s

/-! ### Issue (R410) -/

/-- Is a thread ready: it holds an invocation and is Running? -/
def State.thrReady (s : State) (t : Nat) : Bool := (s.thr t).isSome && s.get F.MCL_THR_STATE [t / 16, t % 16] == 1

/-- The next ready thread of a Mule in round-robin order (R410). -/
def State.nextThr (s : State) (m : Nat) : Option Nat :=
  ((List.range 4).map (fun j => 4 * m + (s.mule.last.lookD m 3 + 1 + j) % 4)).find? (fun t => s.thrReady t)

/-- Size of the code that a thread may fetch: its slot at level O, vendor firmware at level V (R412). -/
def Thr.codeSize (h : Thr) : Nat := if h.o then 0x4000 else 0x10000

/-- What a thread's fetch finds: the decoded instruction, or the fault's cause and the offset that the gate refused (R420). -/
def State.fetch (s : State) (t : Nat) (h : Thr) : Except (Nat × Option Nat) MIns :=
  if h.codeSize < h.pc + 4 then .error (2, none)
  else if h.pc % 4 ≠ 0 then .error (3, none)
  else match s.thrGate t h 2 (h.codeBase + h.pc) 4 with
    | some o => .error (2, some o)
    | none =>
      match mDecode (leNat (memRead s.mule.imem (0x20000 * (t / 4) + h.codeBase + h.pc) 4)) with
      | some i => .ok i
      | none => .error (1, none)

/-- A Mule in service issues the next ready thread's instruction. A command names a mnemonic: it takes effect if that thread's instruction is
it, or if the fetch faults; any other instruction is not this command's event. -/
def State.mIssue (s : State) (m : Nat) (mn : Mn) : State :=
  if s.muleIn m = false then s
  else
  match s.nextThr m with
  | none => s
  | some t =>
    match s.thr t with
    | none => s
    | some h =>
      let s1 := s.muleUp (fun u => { u with last := u.last.put m (t % 4) })
      match s.fetch t h with
      | .error (c, none) => s1.thrFault t c 0
      | .error (c, some o) => s1.thrDeny t c 2 o
      | .ok i => if i.mn = mn then s1.mEffect t h i else s

/-! ### Streams (R414) and memories -/

/-- A thread whose streams have ended goes on (R417, R419). -/
def State.streamsDone (s : State) (t : Nat) (h : Thr) : State :=
  if h.reads.isEmpty ∧ h.writes.isEmpty then
    if h.step.isSome then s.stepCommit h
    else if h.waiting then
      let h1 : Thr := { h with waiting := false, fin := none }
      match h.fin with
      | some f => (s.putThr t h1).thrEnd t h1 f
      | none => (s.putThr t h1).setThrState t 1
    else s
  else s

/-- STREAM_LANDED: the n-th read lands its bytes, or the n-th write is released; a failure ends the invocation with its status (R414, R421). -/
def State.streamLanded (s : State) (t : Nat) (wr : Bool) (n : Nat) (data : List Byte) (err : Nat) : State :=
  match s.thr t with
  | none => s
  | some h =>
    if wr then
      match h.writes[n]? with
      | none => s
      | some w =>
        if err ≠ 0 then s.endFail t h err w.1
        else
          let h1 : Thr := { h with writes := h.writes.eraseIdx n }
          (s.putThr t h1).streamsDone t h1
    else
      match h.reads[n]? with
      | none => s
      | some r =>
        if err ≠ 0 then s.endFail t h err r.off
        else
          let h1 : Thr := { h with reads := h.reads.eraseIdx n }
          ((((s.locWrite t h r.loc (padTo r.len data)).muleCount (t / 4) 2 r.len).instCount h.inst 3 r.len).putThr t h1).streamsDone t h1

/-- RUN_LIMIT_EXCEEDED: the limit is measured from the start or resumption, waits included, except inside a STEP after its step 2 (R422). -/
def State.runLimit (s : State) (t : Nat) : State :=
  match s.thr t with
  | none => s
  | some h =>
    if h.o ∧ h.t0 + s.get F.DMG_PROG_RUN_LIMIT [h.slot] * 1000 < s.now ∧ ¬ (h.step.isSome ∧ s.settledX h.idx ∧ (s.led h.idx).ni = 1) ∧
        ¬ (h.step.isSome ∧ (s.led h.idx).ni = 2) then s.thrFault t 7 0
    else s

end Sys2Proof.Machine
end

