-- ==== Sys2Proof/Machine/CmdDm.lean ====
section
/-!
DEFINITION. The commands of the data mover: doorbells, descriptors, queue pairs, the receive ring, the ledger, chunks, FLR and the dirty-page log
(chapters 11 and 12).
-/

namespace Sys2Proof.Machine

/-! ### Doorbells and fetching -/

/-- A nudge or a poll wants a doorbell read: one further read if one is under way (R352). -/
def State.wantDoor (s : State) (i q : Nat) (poll : Bool) : State := (s.qpUp i q (fun p => { p with want := true, isPoll := poll })).dmDoor i q

/-- A write to the nudge page; a disabled queue pair or any other offset ignores it (R352). -/
def State.nudgeWrite (s : State) (i off : Nat) : State :=
  if off % 0x40 = 0 ∧ off < 0x200 ∧ s.on F.QP_CTL_EN [i, off / 0x40] then s.wantDoor i (off / 0x40) false else s

/-- NUDGE (R352). -/
def execNudge (i : Fin 1072) (off : Fin 4096) (s : State) : Host.Outcome State Fault Refusal :=
  s.live (fun s => match s.checkSlot (.tenant i) true 201 off.val 4 with
    | (s', .ok) => s'.nudgeWrite i.val off.val
    | (s', _) => s')

/-- The poll interval in ns: POLL 0 acts as 1, above 1,000 as 1,000 (QP_CFG). -/
def State.pollNs (s : State) (i q : Nat) : Nat := 1000 * min 1000 (max 1 (s.get F.QP_CFG_POLL [i, q]))

/-- POLL_TIMER: POLL µs after the previous read, in the modes that poll (R353). -/
def execPollTimer (i : Fin 1072) (q : Fin 8) (s : State) : Host.Outcome State Fault Refusal :=
  s.live (fun s =>
    let p := s.qps i.val q.val
    let m := s.get F.QP_CFG_POLL_MODE [i.val, q.val]
    if s.on F.QP_CTL_EN [i.val, q.val] ∧ (m = 1 ∨ (m = 2 ∧ p.active)) ∧ p.busy = false ∧ p.pollAt + s.pollNs i.val q.val ≤ s.now then
      s.wantDoor i.val q.val true
    else s)

/-- CQ_WAIT_POLL: while acceptance waits for a completion slot the record is read every POLL µs (R357). -/
def execCqWaitPoll (i : Fin 1072) (q : Fin 8) (s : State) : Host.Outcome State Fault Refusal :=
  s.live (fun s =>
    let p := s.qps i.val q.val
    if s.on F.QP_STAT_CQ_WAIT [i.val, q.val] ∧ s.on F.QP_CTL_EN [i.val, q.val] ∧ p.busy = false ∧ p.pollAt + s.pollNs i.val q.val ≤ s.now then
      s.wantDoor i.val q.val false
    else s)

/-- A doorbell record arrived: the range checks of R354, polling in mode 0b10 (R353), and the fetch of new descriptors. -/
def State.doorbell (s : State) (i q tail head : Nat) : State :=
  let n := s.get F.QP_STAT_ACCEPTED [i, q]
  let badT := decide (2 ^ s.get F.QP_CFG_SQ_SIZE [i, q] < (tail + 2 ^ 32 - n) % 2 ^ 32)
  let badH := decide (2 ^ s.get F.QP_CFG_CQ_SIZE [i, q] < (n + 2 ^ 32 - head) % 2 ^ 32)
  let s1 := s.when badT (fun s => s.qpError i q F.QP_ERR_DB_RANGE)
  let s2 := if badH then (if badT then s1.setB F.QP_ERR_CQ_RANGE [i, q] true else s1.qpError i q F.QP_ERR_CQ_RANGE) else s1
  if badT || badH then s2
  else
    (s2.qpUp i q (fun p =>
      let new := p.tail != tail
      let em := if new then 0 else if p.isPoll then p.empty + 1 else p.empty
      { p with tail := tail, head := head, empty := if em = 64 then 0 else em, active := if new then true else p.active && em != 64 })).qpRun i q

/-- DOORBELL_READ_DONE. -/
def execDoorbellReadDone (i : Fin 1072) (q : Fin 8) (got : Option (W32 × W32)) (s : State) : Host.Outcome State Fault Refusal :=
  s.live (fun s =>
    if (s.qps i.val q.val).busy = false then s
    else
      let s1 := s.qpUp i.val q.val (fun p => { p with busy := false })
      if s.on F.QP_CTL_EN [i.val, q.val] = false ∨ s.on F.QP_STAT_ERROR [i.val, q.val] then s1
      else match got with
        | none => s1.qpError i.val q.val F.QP_ERR_DB_READ
        | some (t, h) => (s1.doorbell i.val q.val t.toNat h.toNat).dmDoor i.val q.val)

/-- DESCRIPTOR_READ_DONE: the descriptor is offered to the ledger, or the queue pair enters the error state (R354, R356). -/
def execDescriptorReadDone (i : Fin 1072) (q : Fin 8) (got : Option (List Byte)) (s : State) : Host.Outcome State Fault Refusal :=
  s.live (fun s =>
    if (s.qps i.val q.val).reading = false then s
    else
      let s1 := s.qpUp i.val q.val (fun p => { p with reading := false })
      if s.on F.QP_CTL_EN [i.val, q.val] = false ∨ s.on F.QP_STAT_ERROR [i.val, q.val] then s1
      else match got with
        | none => s1.qpError i.val q.val F.QP_ERR_DESC_READ
        | some d => (s1.qpUp i.val q.val (fun p => { p with got := some (padTo 64 d) })).qpRun i.val q.val)

/-! ### Set-up registers -/

/-- A tenant's write to its set-up page; during an FLR it has no effect. -/
def State.dmWriteReg (s : State) (i : Fin 1072) (r : Reg) (size : Nat) (f : State → State) : State :=
  s.writeReg (.tenant i) r size (fun s => if (s.dm.flr.look i.val).isSome then s else f s)

/-- Is any queue pair or the receive ring enabled or not idle (R344)? -/
def State.instBusy (s : State) (i : Nat) : Bool :=
  (List.range 8).any (fun q => s.on F.QP_CTL_EN [i, q] || !s.on F.QP_STAT_IDLE [i, q]) || s.on F.RX_CFG_EN [i] || !s.on F.RX_CFG_IDLE [i]

/-- A write of DM_ACCEPT (R344). -/
def State.acceptWrite (s : State) (i : Nat) (v : W64) : State :=
  if v &&& ~~~(s.rd ⟨.DM_FEATURES, [i]⟩) ≠ 0 ∨ s.instBusy i then s.setB F.DM_STAT_ACCEPT_REFUSED [i] true
  else s.set F.DM_ACCEPT_ACCEPT [i] v.toNat

/-- DM_ACCEPT_WRITE (R344). -/
def execDmAcceptWrite (i : Fin 1072) (v : W64) (s : State) : Host.Outcome State Fault Refusal :=
  s.live (fun s => s.dmWriteReg i ⟨.DM_ACCEPT, [i.val]⟩ 8 (·.acceptWrite i.val v))

/-- Sizes within 4 to 16. -/
def sizeOk (n : Nat) : Bool := decide (4 ≤ n) && decide (n ≤ 16)

/-- A write of a queue pair's configuration: registers 0 QP_SQ_BASE, 1 QP_CQ_BASE, 2 QP_DB_ADDR, 3 QP_CFG (R347, R569). -/
def State.qpCfg (s : State) (i q r : Nat) (v : W64) : State :=
  let reg : Reg := ⟨[RN.QP_SQ_BASE, .QP_CQ_BASE, .QP_DB_ADDR, .QP_CFG].getD r .QP_CFG, [i, q]⟩
  let refusedBit : W64 := 0x8000
  let new := if r = 3 then writeWord reg.n.fields false (s.rd reg) v (BitVec.allOnes 64) else v
  let changes := decide (new ||| refusedBit ≠ s.rd reg ||| refusedBit)
  let bad := if r = 3 then !(sizeOk (fget v 0 5) && sizeOk (fget v 5 5)) else if r = 2 then v.toNat % 16 != 0 else v.toNat % 4096 != 0
  if (s.on F.QP_CTL_EN [i, q] ∧ (if r = 3 then changes else decide (v ≠ s.rd reg)) = true) ∨ bad = true then
    s.setB F.QP_CFG_CFG_REFUSED [i, q] true
  else s.wr reg new

/-- QP_CFG_WRITE (R347, R569). -/
def execQpCfgWrite (i : Fin 1072) (q : Fin 8) (r : Fin 4) (v : W64) (s : State) : Host.Outcome State Fault Refusal :=
  s.live (fun s => s.dmWriteReg i ⟨[RN.QP_SQ_BASE, .QP_CQ_BASE, .QP_DB_ADDR, .QP_CFG].getD r.val .QP_CFG, [i.val, q.val]⟩ (if r = 3 then 4 else 8)
    (·.qpCfg i.val q.val r.val v))

/-- EN of a queue pair is written 1: the counts start at 0; refused while not idle (R348). -/
def State.qpEnable (s : State) (i q : Nat) : State :=
  if s.on F.QP_CTL_EN [i, q] then s
  else if s.on F.QP_STAT_IDLE [i, q] = false then s.setB F.QP_ERR_ENABLE_REFUSED [i, q] true
  else
    let s1 := ((s.setB F.QP_CTL_EN [i, q] true).set F.QP_STAT_ACCEPTED [i, q] 0).setB F.QP_STAT_ERROR [i, q] false
    let s2 := (s1.setB F.QP_STAT_CQ_WAIT [i, q] false).setB F.QP_STAT_LEDGER_WAIT [i, q] false
    (s2.qpUp i q (fun p => { busy := p.busy, reading := p.reading, pollAt := s.now })).updEnabled i

/-- QP_ENABLE (R348). -/
def execQpEnable (i : Fin 1072) (q : Fin 8) (s : State) : Host.Outcome State Fault Refusal :=
  s.live (fun s => s.dmWriteReg i ⟨.QP_CTL, [i.val, q.val]⟩ 4 (·.qpEnable i.val q.val))

/-- EN of a queue pair is written 0: the front end fetches nothing more; accepted descriptors complete (R349). -/
def State.qpDisable (s : State) (i q : Nat) : State :=
  let s1 := ((s.setB F.QP_CTL_EN [i, q] false).setB F.QP_STAT_CQ_WAIT [i, q] false).setB F.QP_STAT_LEDGER_WAIT [i, q] false
  (s1.qpUp i q (fun p => { p with want := false, got := if p.offer.isSome then p.got else none })).updEnabled i

/-- QP_DISABLE (R349). -/
def execQpDisable (i : Fin 1072) (q : Fin 8) (s : State) : Host.Outcome State Fault Refusal :=
  s.live (fun s => s.dmWriteReg i ⟨.QP_CTL, [i.val, q.val]⟩ 4 (·.qpDisable i.val q.val))

/-- A write of RX_IRQ: a pending message is sent at once, then the new values apply (R384). -/
def State.rxIrq (s : State) (i : Nat) (v : W64) : State :=
  let s1 := s.when (decide (0 < (s.rxs i).irq)) (fun s => (s.rxUp i (fun p => { p with irq := 0 })).sendImsix i (s.get F.RX_IRQ_VEC [i]))
  (s1.writeTyped ⟨.RX_IRQ, [i]⟩ false v).updRxIdle i

/-- A write of QP_IRQ: a pending message is sent at once, then the new values apply (R384). -/
def State.qpIrq (s : State) (i q : Nat) (v : W64) : State :=
  let s1 := s.when (decide (0 < (s.qps i q).irq)) (fun s => (s.qpUp i q (fun p => { p with irq := 0 })).sendImsix i (s.get F.QP_IRQ_VEC [i, q]))
  (s1.writeTyped ⟨.QP_IRQ, [i, q]⟩ false v).updIdle i q

/-- QP_IRQ_WRITE: queue pair 0 to 7, or 8 for RX_IRQ (R384). -/
def execQpIrqWrite (i : Fin 1072) (q : Fin 9) (v : W32) (s : State) : Host.Outcome State Fault Refusal :=
  s.live (fun s =>
    if q.val = 8 then s.dmWriteReg i ⟨.RX_IRQ, [i.val]⟩ 4 (·.rxIrq i.val (v.setWidth 64))
    else s.dmWriteReg i ⟨.QP_IRQ, [i.val, q.val]⟩ 4 (·.qpIrq i.val q.val (v.setWidth 64)))

/-- IRQ_MODERATION_TICK: every 1 µs with interrupts pending (R383). -/
def execIrqModerationTick (i : Fin 1072) (q : Fin 9) (s : State) : Host.Outcome State Fault Refusal :=
  s.live (fun s => if q.val = 8 then s.rxModerate i.val else s.qpModerate i.val q.val)

/-! ### The receive ring (R377, R388) -/

/-- Enable the receive ring: the delivered count starts at 0 and the ring entry is written Running. -/
def State.rxEnable (s : State) (i : Nat) : State :=
  let s1 := ((s.setB F.RX_CFG_EN [i] true).set F.RX_STAT_DELIVERED [i] 0).rxUp i (fun _ => {})
  let s2 := match s1.ringOf i with
    | some r => s1.ledBoth r {}
    | none => s1
  (match s2.ringPlace i with
    | some r => s2.ledPut r { state := 2, kind := 1, inst := i }
    | none => s2).updEnabled i

/-- Disable the receive ring: its ring entry is Free, and requests held for it get 0x31. -/
def State.rxDisable (s : State) (i : Nat) : State :=
  let ws := s.dm.ringWait.filter (fun w => w.1 == i)
  let s1 := ws.foldl (fun (s : State) (w : Nat × Nat × Nat) => s.ringAnswer i w.2.2 (65536 + 0x31)) (s.setB F.RX_CFG_EN [i] false)
  let s2 := s1.dmUp (fun d => { d with ringWait := d.ringWait.filter (fun w => w.1 != i) })
  (match s2.ringOf i with
    | some r => s2.ledPut r { s2.led r with state := 0 }
    | none => s2).updEnabled i

/-- A write of a receive ring's configuration: registers 0 RX_BASE, 1 RX_DB_ADDR, 2 RX_CFG (R347, R348, R377). -/
def State.rxCfg (s : State) (i r : Nat) (v : W64) : State :=
  let reg : Reg := ⟨[RN.RX_BASE, .RX_DB_ADDR, .RX_CFG].getD r .RX_CFG, [i]⟩
  let en := s.on F.RX_CFG_EN [i]
  let refuse := s.setB F.RX_CFG_CFG_REFUSED [i] true
  if r = 2 then
    let sz := fget v 1 5
    let set := fget v 0 1 == 1
    let s1 := (s.set F.RX_CFG_SIZE [i] sz).setB F.RX_CFG_CFG_REFUSED [i] (s.on F.RX_CFG_CFG_REFUSED [i] && fget v 6 1 == 0)
    if sizeOk sz = false ∨ (en ∧ sz ≠ s.get F.RX_CFG_SIZE [i]) then refuse
    else if set ∧ en = false then
      if s.on F.RX_CFG_IDLE [i] = false ∨ (s.get F.DM_ACCEPT_ACCEPT [i]).testBit 0 = false then refuse else s1.rxEnable i
    else if set = false ∧ en then s1.rxDisable i
    else s1
  else if (en ∧ v ≠ s.rd reg) ∨ v.toNat % (if r = 0 then 4096 else 16) ≠ 0 then refuse
  else s.wr reg v

/-- RX_CFG_WRITE (R347, R348, R377). -/
def execRxCfgWrite (i : Fin 1072) (r : Fin 3) (v : W64) (s : State) : Host.Outcome State Fault Refusal :=
  s.live (fun s => s.dmWriteReg i ⟨[RN.RX_BASE, .RX_DB_ADDR, .RX_CFG].getD r.val .RX_CFG, [i.val]⟩ (if r = 2 then 4 else 8) (·.rxCfg i.val r.val v))

/-- RX_DOORBELL_READ_DONE: the ring's RX_HEAD, and the request that waited for it (R380; a failed read or a bad count ends deliveries until EN
is set again, RX_STAT). -/
def execRxDoorbellReadDone (i : Fin 1072) (got : Option W32) (s : State) : Host.Outcome State Fault Refusal :=
  s.live (fun s =>
    match (s.rxs i.val).waiting with
    | none => s
    | some (e, th) =>
      let del := s.get F.RX_STAT_DELIVERED [i.val]
      let s1 := s.rxUp i.val (fun r => { r with waiting := none })
      let s2 := match got with
        | none => (s1.setB F.RX_STAT_DB_READ [i.val] true).rxUp i.val (fun r => { r with bad := true })
        | some h =>
          if 2 ^ s.get F.RX_CFG_SIZE [i.val] < (del + 2 ^ 32 - h.toNat) % 2 ^ 32 then
            (s1.setB F.RX_STAT_DB_RANGE [i.val] true).rxUp i.val (fun r => { r with bad := true })
          else s1.rxUp i.val (fun r => { r with head := h.toNat })
      ((s2.ringServe i.val e th true).ringWake i.val).updRxIdle i.val)

/-! ### The serving cluster (R343, R397) -/

/-- SERVING_CLUSTER_MOVE: the front end moves to the cluster that R343 names. If the old cluster failed, Queued and Running entries are read
again. -/
def State.moveServing (s : State) (i : Nat) : State :=
  match s.nextMc (i % 16) with
  | none => s
  | some k =>
    let old := s.get F.DM_STAT_SERVING [i]
    if k = old then s
    else
      let s1 := s.set F.DM_STAT_SERVING [i] k
      if s.get F.MCL_STAT_STATE [old] ≠ 2 then s1.instRun i
      else
        let xs := (s.entriesOf i).filter (fun x => ((s.led x).state == 1 || (s.led x).state == 2) && (s.qps i (s.led x).qp).offer != some x)
        let s2 := xs.foldl (fun (s : State) (x : Nat) =>
          let e := s.led x
          let a := (s.rd ⟨.QP_SQ_BASE, [i, e.qp]⟩).toNat + 64 * (e.seq % 2 ^ s.get F.QP_CFG_SQ_SIZE [i, e.qp])
          (s.emit (.hostRead (.dmf i) a 64 (s.qpTc i e.qp))).dmUp (fun d => { d with
            reread := addNew d.reread x, lists := d.lists.del x,
            acc := match d.acc.look x with | some a => d.acc.put x { a with held := false } | none => d.acc })) s1
        let s3 := (List.range 8).foldl (fun (s : State) (q : Nat) => s.qpUp i q (fun p => { p with
          want := p.want || p.busy, busy := false, reading := false, got := if p.offer.isSome then p.got else none })) s2
        (s3.setB F.DM_STAT_MOVING [i] (!xs.isEmpty)).instRun i

def execServingClusterMove (i : Fin 1072) (s : State) : Host.Outcome State Fault Refusal := s.live (fun s => s.moveServing i.val)

/-- DESCRIPTOR_REREAD_DONE: the 64 bytes are compared with DESC_CRC, and a list is read again (R397). -/
def execDescriptorRereadDone (x : Fin 262144) (got lst : Option (List Byte)) (s : State) : Host.Outcome State Fault Refusal :=
  s.live (fun s =>
    if ¬ s.dm.reread.contains x.val ∨ s.settledX x.val = false then s
    else
      let e := s.led x.val
      let s1 := s.dmUp (fun d => { d with reread := d.reread.filter (· != x.val) })
      let s2 := match got, s.dm.acc.look x.val with
        | some b, some a =>
          let d := padTo 64 b
          if (crc32c 0 d).toNat ≠ e.crc then s1.failX x.val 0x22 (4096 * e.cdone)
          else
            let s3 := s1.dmUp (fun m => { m with acc := m.acc.put x.val { a with d := d, held := true } })
            if e.opcode = 5 ∨ e.opcode = 6 then (s3.listRead x.val lst).1 else s3
        | _, _ => s1.failX x.val 0x10 (4096 * e.cdone)
      let more := s2.dm.reread.any (fun y => (s2.led y).inst == e.inst)
      (s2.setB F.DM_STAT_MOVING [e.inst] more).instRun e.inst)

/-! ### The ledger -/

/-- An offered descriptor is accepted when both copies of its entry are written (R24, R356). -/
def State.accepted (s : State) (x : Nat) (e : LedE) : State :=
  if (s.qps e.inst e.qp).offer = some x then
    let s1 := ((s.incr F.QP_STAT_ACCEPTED [e.inst, e.qp]).instCount e.inst 0).qpUp e.inst e.qp (fun p => { p with offer := none, got := none })
    match s.dm.acc.look x with
    | some a => s1.reachUse a true
    | none => s1
  else s

/-- What follows the completed write of a descriptor entry (R387, R399, R400, R419). -/
def State.ackNext (s : State) (x : Nat) (e : LedE) : State :=
  match s.dm.todo.look x with
  | none => s
  | some k =>
    let s1 := s.dmUp (fun d => { d with todo := d.todo.del x })
    let th := match s.chunksOf x with | c :: _ => c.thr | [] => 0
    match s.dm.acc.look x with
    | none => s1
    | some a =>
      match k with
      | 1 => s1.emit (.fetchAdd (.dmf a.dst.fn) (a.dst.at_ (dDst a.d)) (leAt a.d 32 8) (s.qpTc e.inst e.qp))
      | 2 => s1.sendMsg (stnMc (th / 16)) (match s.ringOf a.dst.tinst with | some r => s.ledStn r | none => 68) (.ringReq a.dst.tinst x th)
      | 3 => s1.msgDeliver x
      | 6 => (s1.dropChunks x).ledPut x { e with state := 3 }
      | k => s1.stepAck x k

/-- LEDGER_WRITE_ACK: both slices have acknowledged the write; what waited for it goes on (R385). -/
def State.ledAck (s : State) (x : Nat) : State :=
  if s.settledX x then s
  else
    let e := s.led x
    if e.state = 0 then
      let t := match s.dm.acc.look x with | some a => a.dst.tinst | none => e.inst
      if e.kind = 1 then (s.ledBoth x {}).updRxIdle e.inst
      else (((s.forgetX x).ledBoth x {}).ringWake t).qpRun e.inst e.qp
    else
      let s1 := s.ledBoth x e
      if e.kind = 1 then
        if e.resV then
          match s.chunksOf e.resIdx with
          | c :: _ => s1.ringAnswer e.inst c.thr e.resSlot
          | [] => s1
        else (s1.ringWake e.inst).updRxIdle e.inst
      else
        let s2 := (s1.accepted x e).ackNext x e
        let s3 := s2.when (e.state == 3 && (e.opcode == 7 || e.opcode == 8)) (·.dropChunks x)
        ((s3.qpRun e.inst e.qp).flrAbandon e.inst).dlView (s.get F.DM_ID_VS [e.inst])

/-- What the read of both copies that ends a write does (R389): a disagreement that the even slice's write resolves sets RESOLVED, an unreadable copy is
rewritten from the other, and a live entry that no copy gives seals the device (R463). The DETAIL of 16 bits is the entry's index in its pair. -/
def State.ledRead (s : State) (x : Nat) (chk : LedChk) : State :=
  let j := 2 * (x / 65536)
  match chk with
  | .clean => s
  | .resolved => (s.setB F.LSL_STAT_RESOLVED [j] true).event (.lsl j) 2
  | .ueEven => s.event (.lsl j) 1
  | .ueOdd => s.event (.lsl (j + 1)) 1
  | .lost => if (s.led x).state = 0 then s else s.sealDev 6 (x % 65536)

/-- LEDGER_WRITE_ACK (R385, R389). -/
def execLedgerWriteAck (x : Fin 262144) (chk : LedChk) (s : State) : Host.Outcome State Fault Refusal :=
  s.live (fun s =>
    let s1 := if s.dm.pend.contains x.val then s.ledRead x.val chk else s
    if s1.sealed then s1 else s1.ledAck x.val)

/-- A pair whose survivor holds no live entry leaves service (R390 step 3). -/
def State.pairDone (s : State) (k : Nat) : State :=
  if (s.dm.mv.look k).isSome ∧ ¬ s.ledKeys.any (fun x => decide (x / 65536 = k)) then
    let s1 := s.dmUp (fun d => { d with mv := d.mv.del k, even := d.even.filter (fun e => decide (e.1 / 65536 ≠ k)), odd := d.odd.filter (fun e => decide (e.1 / 65536 ≠ k)) })
    let out := fun (s : State) (j : Nat) => ((s.setB F.LSL_STAT_PAIR_OUT [j] true).setB F.LSL_STAT_MOVING [j] false).event (.lsl j) 3
    (out (out s1 (2 * k)) (2 * k + 1)).updLive k
  else s

/-- A ledger slice is declared failed (R390): the writes that reached one copy are finished on the survivor, a descriptor without a complete
entry is offered again, and the pair's entries start to move. A pair that is out or moving already is only declared. -/
def State.sliceFailed (s0 : State) (k : Nat) : State :=
  let p := k / 2
  let s := s0.declare 5 p
  if s.pairIn p = false ∨ (s.dm.mv.look p).isSome then s
  else
    let offered := s.ledKeys.filter (fun x => decide (x / 65536 = p) && (s.qps (s.led x).inst (s.led x).qp).offer == some x)
    let s1 := offered.foldl (fun (s : State) (x : Nat) =>
      let e := s.led x
      ((s.forgetX x).ledBoth x {}).qpUp e.inst e.qp (fun q => { q with offer := none })) s
    let surv := if k % 2 = 0 then k + 1 else k - 1
    let s2 := s1.dmUp (fun d => { d with
      odd := if k % 2 = 0 then d.pend.foldl (fun o x => if x / 65536 = p then (match d.even.look x with | some e => AMap.put o x e | none => o) else o) d.odd
        else d.odd.filter (fun e => decide (e.1 / 65536 ≠ p)),
      even := if k % 2 = 0 then d.even.filter (fun e => decide (e.1 / 65536 ≠ p)) else d.even,
      mv := d.mv.put p surv })
    let s3 := ((s2.setB F.LSL_STAT_MOVING [2 * p] true).setB F.LSL_STAT_MOVING [2 * p + 1] true).updLive p
    (offered.foldl (fun (s : State) (x : Nat) => s.qpRun (s0.led x).inst (s0.led x).qp) s3).pairDone p

/-- LEDGER_SLICE_FAILED (R390, R462): an uncorrectable error in the slice's state. -/
def execLedgerSliceFailed (k : Fin 8) (s : State) : Host.Outcome State Fault Refusal := s.live (fun s => (s.event (.lsl k.val) 1).sliceFailed k.val)

/-- A key renamed in a map, and in a list. -/
def renK {α : Type} (m : AMap Nat α) (x y : Nat) : AMap Nat α := m.map (fun p => (if p.1 = x then y else p.1, p.2))
def renL (l : List Nat) (x y : Nat) : List Nat := l.map (fun z => if z = x then y else z)

/-- LEDGER_ENTRY_MOVE: a live entry of a failed pair is copied into both copies of another pair, and every RES_IDX follows (R388, R390). -/
def State.entryMove (s : State) (x : Nat) : State :=
  let p := x / 65536
  if (s.dm.mv.look p).isNone ∨ ¬ s.ledKeys.contains x ∨ s.settledX x = false then s
  else
    let e := s.led x
    let tgt := if e.kind = 1 then s.ringPlace e.inst
      else (List.range 4).findSome? (fun j => if s.pairOpen j then s.freeIn j else none)
    match tgt with
    | none => s
    | some y =>
      let fix := fun (l : LedE) => if l.kind = 1 ∧ l.resV ∧ l.resIdx = x then { l with resIdx := y } else l
      let s1 := s.dmUp (fun d => { d with
        even := (d.even.del x).map (fun z => (z.1, fix z.2)), odd := (d.odd.del x).map (fun z => (z.1, fix z.2)),
        acc := renK d.acc x y, lists := renK d.lists x y, chunks := renK d.chunks x y, closer := renK d.closer x y, recs := renL d.recs x y,
        flush := renL d.flush x y, flushed := renL d.flushed x y, last := renK d.last x y, occ := d.occ.map (fun z => (z.1, (if z.2.1 = x then y else z.2.1, z.2.2))),
        ringWait := d.ringWait.map (fun w => (w.1, (if w.2.1 = x then y else w.2.1), w.2.2)), charged := d.charged.map (fun c => (if c.1 = x then y else c.1, c.2)),
        begun := renL d.begun x y, reread := renL d.reread x y, todo := renK d.todo x y })
      let s2 := s1.muleUp (fun m => { m with thr := m.thr.map (fun h => (h.1, { h.2 with idx := if h.2.idx = x then y else h.2.idx })) })
      (((s2.ledBoth y e).updLive p).pairDone p)

/-- LEDGER_ENTRY_MOVE (R390): a live entry whose surviving copy cannot be read seals the device (R463). -/
def execLedgerEntryMove (x : Fin 262144) (readable : Bool) (s : State) : Host.Outcome State Fault Refusal :=
  s.live (fun s =>
    if (s.dm.mv.look (x.val / 65536)).isSome ∧ s.ledKeys.contains x.val ∧ readable = false then s.sealDev 6 (x.val % 65536) else s.entryMove x.val)

/-- SCHEDULING_EPOCH: EPOCH advances, and the quotas are recomputed if N, the pairs or the staging buffers changed (R391). -/
def execSchedulingEpoch (s : State) : Host.Outcome State Fault Refusal :=
  s.live (fun s =>
    let n := max 1 s.dm.nEn
    let pr := (below 4 (fun k => s.pairIn k)).length
    let st := (below 16 (fun k => s.ssIn k)).length
    let s1 := s.incr F.DMG_SHARE_EPOCH []
    if s.dm.epochOf = (n, pr, st) then s1
    else (((s1.dmUp (fun d => { d with epochOf := (n, pr, st) })).set F.DMG_SHARE_LQUOTA [] (64464 * pr / n)).set F.DMG_SHARE_SQUOTA []
      (1024 * st / n)).event .dmg 2)

/-! ### Chunks -/

/-- The buffers of a new invocation or chunk: a staging buffer if it stages, and a step buffer for a non-idempotent program (R394, R432). -/
def State.chunkBufs (s : State) (x : Nat) : Option (Option Nat × Option Nat × State) :=
  let d := s.descOf x
  let i := (s.led x).inst
  let any := fun (_ : Nat) => true
  if chunkStaged d = false then some (none, none, s)
  else match s.takeBuf i any with
    | none => none
    | some (b, s1) =>
      if dOp d = 0xA ∧ s.progIdem d = false then
        if s1.stagingShare i then (s1.takeBuf i any).map (fun r => (some b, some r.1, r.2)) else none
      else some (some b, none, s1)

/-- CHUNK_ASSIGN: the scheduler's turn of the entry's instance (R392, R393, R431, R441). -/
def State.chunkAssign (s : State) (x t : Nat) (got : Option (List Byte)) : State :=
  match s.readyChunk x with
  | none => s
  | some c =>
    let i := (s.led x).inst
    let d := s.descOf x
    let better := !s.nearStaging (t / 16) && (List.range 256).any (fun u => s.thrFree u && s.nearStaging (u / 16))
    if s.thrFree t = false ∨ better = true ∨ s.instReady i = false then s
    else if s.shGrants (768 + i) = false then s.shWait (768 + i) true
    else if s.myTurn i = false then s
    else
      let s0 := s.shWait (768 + i) false
      let ls := if (dOp d = 5 ∨ dOp d = 6) ∧ (s.dm.lists.look x).isNone then s0.listRead x got else (s0, true)
      if ls.2 = false then ls.1
      else if dOp d = 0xA ∧ ¬ s.dm.begun.contains x ∧ s.progRuns i d = false then ls.1.closeX x 0x40 0
      else
        let s1 := if dOp d = 0xA ∧ ¬ s.dm.begun.contains x then
            (ls.1.dmUp (fun m => { m with begun := addNew m.begun x })).incr F.DMG_PROG_USE_USE [progSlot d]
          else ls.1
        match s1.chunkBufs x with
        | none => s
        | some (b, sb, s2) =>
          let s3 := s2.giveChunk x c t b
          if dOp d = 0xA then s3.progStart x c t b sb else s3

def execChunkAssign (x : Fin 262144) (t : Fin 256) (got : Option (List Byte)) (s : State) : Host.Outcome State Fault Refusal :=
  s.live (fun s => s.chunkAssign x.val t.val got)

/-- CHUNK_COMMIT: of a built-in opcode; a program's invocation commits with its END. The chunk of a MESSAGE commits once its slot is written
(R395, R400). -/
def execChunkCommit (x c : Fin 262144) (got : ChunkGot) (s : State) : Host.Outcome State Fault Refusal :=
  s.live (fun s =>
    let e := s.led x.val
    let d := s.descOf x.val
    if e.opcode = 0xA ∨ e.opcode = 8 ∨ (e.opcode = 7 ∧ (e.ni ≠ 2 ∨ s.settledX x.val = false)) then s
    else
      let s1 := s.commitChunk x.val c.val (if e.opcode = 7 then {} else got)
      (s1.qpRun e.inst e.qp).flrAbandon e.inst |>.when (dOp d == 7) (fun s => match s.dm.acc.look x.val with
        | some a => s.updRxIdle a.dst.tinst
        | none => s))

/-- FLUSH_READ_DONE: the record follows; a failed flush read gives status 0x14 (R359). -/
def execFlushReadDone (x : Fin 262144) (ok : Bool) (s : State) : Host.Outcome State Fault Refusal :=
  s.live (fun s =>
    if ¬ s.dm.flush.contains x.val then s
    else
      let e := s.led x.val
      let s1 := s.dmUp (fun d => { d with flush := d.flush.filter (· != x.val), flushed := addNew d.flushed x.val })
      (if ok ∨ e.status ≠ 0 then s1 else s1.closeX x.val 0x14 0).qpRun e.inst e.qp)

/-- ENTRY_RETIRE: the gate has released the record's write, and the entry is written Free (R387). -/
def execEntryRetire (x : Fin 262144) (s : State) : Host.Outcome State Fault Refusal :=
  s.live (fun s =>
    if s.dm.recs.contains x.val ∧ s.settledX x.val then s.ledPut x.val { s.led x.val with state := 0 } else s)

/-- ATOMIC_COMPLETION: the tile of the target's upstream port writes RESULT, STATUS and NI = 2 (R399 step 3). -/
def execAtomicCompletion (x : Fin 262144) (ok : Bool) (v : W64) (s : State) : Host.Outcome State Fault Refusal :=
  s.live (fun s =>
    let e := s.led x.val
    if e.kind = 0 ∧ e.opcode = 8 ∧ e.ni = 1 ∧ e.state = 2 ∧ s.settledX x.val then
      s.ledThen x.val { e with result := if ok then v.toNat else 0, status := if ok then 0 else 0x13, ni := 2 } 6
    else s)

/-- RING_RESERVATION_REQUEST: a ledger station serves the next request (R400 step 3). -/
def execRingReservationRequest (x : Fin 80) (s : State) : Host.Outcome State Fault Refusal :=
  s.live (fun s => match s.popMsg x.val (fun m => match m with | .ringReq _ _ _ => true | _ => false) with
    | some (.ringReq t e th, s1) => s1.ringServe t e th false
    | _ => s)

/-- A Mule's answer: a slot is recorded with NI = 2, a status ends the descriptor (R400 step 4). -/
def State.ringAnswered (s : State) (th ans : Nat) : State :=
  match s.ledKeys.find? (fun x => (s.led x).kind == 0 && (s.led x).opcode == 7 && (s.led x).ni == 1 && (s.chunksOf x).any (fun c => c.thr == th)) with
  | none => s
  | some x =>
    let e := s.led x
    if ans < 65536 then s.ledThen x { e with cwin := ans, ni := 2 } 3
    else (s.dropChunks x).ledPut x { e with state := 3, status := ans - 65536 }

/-- RING_RESERVATION_ANSWER. -/
def execRingReservationAnswer (x : Fin 80) (s : State) : Host.Outcome State Fault Refusal :=
  s.live (fun s => match s.popMsg x.val (fun m => match m with | .ringAns _ _ => true | _ => false) with
    | some (.ringAns th a, s1) => s1.ringAnswered th a
    | _ => s)

/-! ### FLR -/

def execInstanceFlr (i : Fin 1072) (s : State) : Host.Outcome State Fault Refusal := s.live (fun s => s.instFlr i.val)

def execFlrComplete (i : Fin 1072) (s : State) : Host.Outcome State Fault Refusal := s.live (fun s => s.flrDone i.val)

/-! ### The dirty-page log -/

/-- Refuse a log write. -/
def State.dlRefuse (s : State) (v : Nat) : State := s.setB F.DL_STAT_REFUSED [v] true

/-- A write of DL_SEL: the function itself or one of its granted virtual functions; a virtual function ignores writes (R404, R548). -/
def State.dlSel (s : State) (i j : Nat) : State :=
  if 48 ≤ i then s
  else if j = i ∨ (s.vfsOf i).contains j then (s.set F.DL_SEL_INST [i] j).dlView i
  else s.dlRefuse i

/-- DL_SEL_WRITE (R404, R548). -/
def execDlSelWrite (i : Fin 1072) (v : W32) (s : State) : Host.Outcome State Fault Refusal :=
  s.live (fun s => s.dmWriteReg i ⟨.DL_SEL, [i.val]⟩ 4 (·.dlSel i.val (v.toNat % 2048)))

/-- A write of DL_BASE, DL_DB_ADDR or DL_CFG (0, 1, 2); refused while an instance is logged. -/
def State.dlCfg (s : State) (i r : Nat) (v : W64) : State :=
  if 48 ≤ i then s
  else if (i :: s.vfsOf i).any (fun j => s.dm.logged.contains j) then s.dlRefuse i
  else s.writeTyped ⟨[RN.DL_BASE, .DL_DB_ADDR, .DL_CFG].getD r .DL_CFG, [i]⟩ false v

/-- DL_CFG_WRITE (R404). -/
def execDlCfgWrite (i : Fin 1072) (r : Fin 3) (v : W64) (s : State) : Host.Outcome State Fault Refusal :=
  s.live (fun s => s.dmWriteReg i ⟨[RN.DL_BASE, .DL_DB_ADDR, .DL_CFG].getD r.val .DL_CFG, [i.val]⟩ (if r = 2 then 4 else 8) (·.dlCfg i.val r.val v))

/-- LOG_EN is written: logging of the selected instance; it needs DIRTY_LOG accepted, and setting it again after an overflow resumes the log (R344,
R405, R406). -/
def State.dlLogEn (s : State) (i : Nat) (on : Bool) : State :=
  let j := s.get F.DL_SEL_INST [i]
  if 48 ≤ i then s
  else if on then
    if (s.get F.DM_ACCEPT_ACCEPT [i]).testBit 4 = false then s.dlRefuse i
    else if s.dm.logged.contains j then s
    else
      let fresh := !(i :: s.vfsOf i).any (fun k => s.dm.logged.contains k)
      (s.dmUp (fun d => { d with
        logged := addNew d.logged j,
        logs := AMap.upd d.logs i {} (fun l => if fresh then {} else { l with overflowed := false }) })).dlView i
  else (s.dmUp (fun d => { d with logged := d.logged.filter (· != j) })).dlView i

/-- DL_LOG_EN (R405). -/
def execDlLogEn (i : Fin 1072) (on : Bool) (s : State) : Host.Outcome State Fault Refusal :=
  s.live (fun s => s.dmWriteReg i ⟨.DL_CTL, [i.val]⟩ 4 (·.dlLogEn i.val on))

/-- QUIESCE is written: the selected instance stops fetching; clearing it resumes (R406). -/
def State.dlQuiesce (s : State) (i : Nat) (on : Bool) : State :=
  let j := s.get F.DL_SEL_INST [i]
  if 48 ≤ i ∨ s.dm.quiesced.contains j = on then s
  else
    let s1 := s.dmUp (fun d => { d with quiesced := if on then addNew d.quiesced j else d.quiesced.filter (· != j) })
    (if on then s1 else s1.instRun j).dlView i

/-- DL_QUIESCE (R406). -/
def execDlQuiesce (i : Fin 1072) (on : Bool) (s : State) : Host.Outcome State Fault Refusal :=
  s.live (fun s => s.dmWriteReg i ⟨.DL_CTL, [i.val]⟩ 4 (·.dlQuiesce i.val on))

/-- FLUSH is written 1: every record is sent when it is made, so none is pending, and FLUSH reads 0 (R406). -/
def State.dlFlush (s : State) (i : Nat) : State := if 48 ≤ i then s else s.setB F.DL_CTL_FLUSH [i] false

/-- DL_FLUSH (R406). -/
def execDlFlush (i : Fin 1072) (s : State) : Host.Outcome State Fault Refusal :=
  s.live (fun s => s.dmWriteReg i ⟨.DL_CTL, [i.val]⟩ 4 (·.dlFlush i.val))

end Sys2Proof.Machine
end

