-- ==== Sys2Proof/Machine/CmdEvents.lean ====
section
/-!
DEFINITION. The meanings of the commands on error triples (R452, R453, R476), on parity scans and supplies (R455, R463 to R467), on heartbeats
(R466), on counters (R532) and on bandwidth windows (R536).
-/

namespace Sys2Proof.Machine

/-- A write to ERR_STAT or ERR_MASK that leaves a source raised sends its message (R476); a Mule's triple backs a source per bit. -/
def State.sendRaised (s : State) (x : Trip) : State :=
  match x with
  | .mule _ => (List.range 4).foldl (fun (s : State) (b : Nat) => s.when (s.raised x b) (·.sendSource (x.source b))) s
  | _ => s.when (s.raised x 0) (·.sendSource (x.source 0))

/-- Write an ERR_STAT: bits written 1 clear (R452, R453). -/
def State.errStatWrite (s : State) (x : Trip) (v : W64) : State :=
  (((s.wr x.stat (s.rd x.stat &&& ~~~v))).updInt x).sendRaised x

/-- Write an ERR_MASK (R452, R453). -/
def State.errMaskWrite (s : State) (x : Trip) (v : W64) : State := ((s.writeTyped x.mask false v).updInt x).sendRaised x

/-- ERR_STAT_WRITE (R452, R476). -/
def execErrStatWrite (who : Init) (x : Trip) (v : W32) (s : State) : Host.Outcome State Fault Refusal :=
  s.live (fun s => s.writeReg who x.stat 4 (·.errStatWrite x (v.zeroExtend 64)))

/-- ERR_MASK_WRITE (R452, R476). -/
def execErrMaskWrite (who : Init) (x : Trip) (v : W32) (s : State) : Host.Outcome State Fault Refusal :=
  s.live (fun s => s.writeReg who x.mask 4 (·.errMaskWrite x (v.zeroExtend 64)))

/-- ERROR_REGISTER_SCAN (R455): a parity mismatch in a block, named by its gate slot, seals the device. -/
def execErrorRegisterScan (bad : Option (Fin 256)) (s : State) : Host.Outcome State Fault Refusal :=
  .next (match bad with
    | some slot => s.sealDev 1 slot.val
    | none => s)

/-- UNDER_VOLTAGE (R463, R464). -/
def execUnderVoltage (rail : Fin 5) (s : State) : Host.Outcome State Fault Refusal :=
  .next ((s.set F.GSV_STAT_SUP_OK [] (s.get F.GSV_STAT_SUP_OK [] &&& (31 ^^^ (1 <<< rail.val)))).sealDev 2 rail.val)

/-- OVER_VOLTAGE (R463, R464). -/
def execOverVoltage (rail : Fin 5) (s : State) : Host.Outcome State Fault Refusal :=
  .next ((s.set F.GSV_STAT_SUP_OK [] (s.get F.GSV_STAT_SUP_OK [] &&& (31 ^^^ (1 <<< rail.val)))).sealDev 3 rail.val)

/-- OVER_TEMPERATURE (R463). -/
def execOverTemperature (sensor : Fin 16) (s : State) : Host.Outcome State Fault Refusal := .next (s.sealDev 4 sensor.val)

/-- TEMP_WARN (R465): the highest sensor and its reading; 110 °C or more sets TEMP_WARN and raises its event. -/
def execTempWarn (sensor : Fin 16) (temp : Fin 256) (s : State) : Host.Outcome State Fault Refusal :=
  s.live (fun s =>
    ((s.set F.GSV_STAT_TEMP_MAX [] temp.val).set F.GSV_STAT_TEMP_SENSOR [] sensor.val).when (decide (110 ≤ sext 8 temp.val)) (fun s =>
      (s.setB F.GSV_STAT_TEMP_WARN [] true).event .gsv 0))

/-- ALL_TIMEBASES_LOST (R463). -/
def execAllTimebasesLost (s : State) : Host.Outcome State Fault Refusal := .next (s.sealDev 5 0)

/-- GOOSE_MISMATCH (R463). -/
def execGooseMismatch (s : State) : Host.Outcome State Fault Refusal := .next (s.sealDev 7 0)

/-- Record beats of the cores of a mask (R466). -/
def State.beats (s : State) (mask : Nat) : State :=
  { s with flt := { s.flt with beat := (List.range 4).foldl (fun (b : AMap Nat Nat) (c : Nat) => if mask.testBit c then b.put c s.now else b) s.flt.beat } }

/-- HEARTBEAT_BEAT (R466). -/
def execHeartbeatBeat (who : Init) (mask : Fin 16) (s : State) : Host.Outcome State Fault Refusal :=
  s.live (fun s => s.writeReg who ⟨.GSV_HB, []⟩ 4 (·.beats mask.val))

/-- Has a core not beaten for 10 ms? -/
def State.beatLost (s : State) (c : Nat) : Bool := decide (s.flt.beat.lookD c 0 + 10000000 ≤ s.now)

/-- CORE_HEARTBEAT_LOSS (R466): the Goose resets the core, sets LOST, raises CORE_LOST and declares a part of type 10. -/
def execCoreHeartbeatLoss (core : Fin 4) (s : State) : Host.Outcome State Fault Refusal :=
  s.live (fun s =>
    if s.beatLost core.val ∧ ¬ ((List.range 4).all (fun c => s.beatLost c)) ∧ ¬ s.on F.GSV_STAT_MGMT_DOWN [] then
      let s1 := (s.set F.GSV_HB_LOST [] (s.get F.GSV_HB_LOST [] ||| (1 <<< core.val))).event .gsv 2
      ({ s1 with flt := { s1.flt with beat := s1.flt.beat.put core.val s.now } }).declare 10 core.val
    else s)

/-! ### Counter clears (R532, R533) -/

/-- PT_CNT_CLR: bit s clears the port counters of slot s, bit 4 the tile counters. -/
def State.ptCntClr (s : State) (t : Nat) (v : Nat) : State :=
  s.clearRegs (fun k => match k.n, k.ix with
    | .PT_CNT, [a, b, _] => a == t && v.testBit b
    | .PT_TCNT, [a, _] => a == t && v.testBit 4
    | _, _ => false)

/-- PT_CNT_CLR (R532). -/
def execPtCntClr (who : Init) (t : Fin 36) (v : W32) (s : State) : Host.Outcome State Fault Refusal :=
  s.live (fun s => s.writeReg who ⟨.PT_CNT_CLR, [t.val]⟩ 4 (·.ptCntClr t.val v.toNat))

/-- MCL_CNT_CLR: bit j clears the counters of Mule j of the cluster. -/
def State.mclCntClr (s : State) (k : Nat) (v : Nat) : State :=
  s.clearRegs (fun r => match r.n, r.ix with
    | .MCL_CNT, [a, j, _] => a == k && v.testBit j
    | _, _ => false)

/-- MCL_CNT_CLR (R532). -/
def execMclCntClr (who : Init) (k : Fin 16) (v : W32) (s : State) : Host.Outcome State Fault Refusal :=
  s.live (fun s => s.writeReg who ⟨.MCL_CNT_CLR, [k.val]⟩ 4 (·.mclCntClr k.val v.toNat))

/-- FAB_CNT_CLR: bit j clears the counters of trunk j. -/
def State.fabCntClr (s : State) (v : Nat) : State :=
  s.clearRegs (fun r => match r.n, r.ix with
    | .FAB_CNT, [j, _] => v.testBit j
    | _, _ => false)

/-- FAB_CNT_CLR (R532). -/
def execFabCntClr (who : Init) (v : W32) (s : State) : Host.Outcome State Fault Refusal :=
  s.live (fun s => s.writeReg who ⟨.FAB_CNT_CLR, []⟩ 4 (·.fabCntClr v.toNat))

/-- PMG_CNT_CLR: bit 0 clears the global counters. -/
def State.pmgCntClr (s : State) (v : Nat) : State := s.clearRegs (fun r => r.n == .PMG_CNT && v.testBit 0)

/-- PMG_CNT_CLR (R532). -/
def execPmgCntClr (who : Init) (v : W32) (s : State) : Host.Outcome State Fault Refusal :=
  s.live (fun s => s.writeReg who ⟨.PMG_CNT_CLR, []⟩ 4 (·.pmgCntClr v.toNat))

/-! ### Bandwidth windows (R536) -/

/-- The window of a port in ns. -/
def State.bwNs (s : State) (p : Nat) : Nat := min 10000 (max 1 (s.pget F.PT_BW_CFG_WINDOW p)) * 1000000

/-- BW_WINDOW_END: at a multiple of WINDOW the counts are latched, SEQ advances, the counts restart and BW_WINDOW is raised. -/
def State.bwEnd (s : State) (p : Nat) : State :=
  let w := s.bwNs p
  let start := s.perf.bwFrom.lookD p 0
  if start < s.now / w * w then
    let s1 := (List.range 4).foldl (fun (s : State) (c : Nat) =>
      s.set F.PT_BW_LATCH_COUNT [p / 4, p % 4, c] (s.perf.bw.lookD (p, c) 0)) s
    let s2 := (s1.incr F.PT_BW_SEQ_SEQ [p / 4, p % 4]).portEvent p 7 1
    { s2 with perf := { s2.perf with bw := s2.perf.bw.filter (fun e => e.1.1 != p), bwFrom := s2.perf.bwFrom.put p (s.now / w * w) } }
  else s

/-- BW_WINDOW_END (R536). -/
def execBwWindowEnd (port : Fin 144) (s : State) : Host.Outcome State Fault Refusal := s.live (·.bwEnd port.val)

/-- A write to PT_BW_CFG discards the window under way; counting starts at the next boundary of the new WINDOW (R536). -/
def State.bwCfg (s : State) (p : Nat) (v : W64) : State :=
  let s1 := s.writeTyped ⟨.PT_BW_CFG, [p / 4, p % 4]⟩ false v
  { s1 with perf := { s1.perf with bw := s1.perf.bw.filter (fun e => e.1.1 != p), bwFrom := s1.perf.bwFrom.put p ((s.now / s1.bwNs p + 1) * s1.bwNs p) } }

/-- BW_CFG_WRITE (R536). -/
def execBwCfgWrite (who : Init) (port : Fin 144) (v : W32) (s : State) : Host.Outcome State Fault Refusal :=
  s.live (fun s => s.writeReg who ⟨.PT_BW_CFG, [port.val / 4, port.val % 4]⟩ 4 (·.bwCfg port.val (v.zeroExtend 64)))

end Sys2Proof.Machine
end

