-- ==== Sys2Proof/Machine/CmdMule.lean ====
section
/-!
DEFINITION. The commands of the Mules: one for each instruction (R417), streams, the run limit, memory errors, firmware, isolation and the
indirect access to the memories (chapter 13).
-/

namespace Sys2Proof.Machine

/-! ### Instructions: a Mule issues its next ready thread's instruction (R410, R417) -/

def execMAdd (m : Fin 64) (s : State) : Host.Outcome State Fault Refusal := s.live (fun s => s.mIssue m.val .add)
def execMSub (m : Fin 64) (s : State) : Host.Outcome State Fault Refusal := s.live (fun s => s.mIssue m.val .sub)
def execMAnd (m : Fin 64) (s : State) : Host.Outcome State Fault Refusal := s.live (fun s => s.mIssue m.val .and)
def execMOr (m : Fin 64) (s : State) : Host.Outcome State Fault Refusal := s.live (fun s => s.mIssue m.val .or)
def execMXor (m : Fin 64) (s : State) : Host.Outcome State Fault Refusal := s.live (fun s => s.mIssue m.val .xor)
def execMSll (m : Fin 64) (s : State) : Host.Outcome State Fault Refusal := s.live (fun s => s.mIssue m.val .sll)
def execMSrl (m : Fin 64) (s : State) : Host.Outcome State Fault Refusal := s.live (fun s => s.mIssue m.val .srl)
def execMSra (m : Fin 64) (s : State) : Host.Outcome State Fault Refusal := s.live (fun s => s.mIssue m.val .sra)
def execMRotr (m : Fin 64) (s : State) : Host.Outcome State Fault Refusal := s.live (fun s => s.mIssue m.val .rotr)
def execMSlt (m : Fin 64) (s : State) : Host.Outcome State Fault Refusal := s.live (fun s => s.mIssue m.val .slt)
def execMSltu (m : Fin 64) (s : State) : Host.Outcome State Fault Refusal := s.live (fun s => s.mIssue m.val .sltu)
def execMMul (m : Fin 64) (s : State) : Host.Outcome State Fault Refusal := s.live (fun s => s.mIssue m.val .mul)
def execMMulhu (m : Fin 64) (s : State) : Host.Outcome State Fault Refusal := s.live (fun s => s.mIssue m.val .mulhu)
def execMMinu (m : Fin 64) (s : State) : Host.Outcome State Fault Refusal := s.live (fun s => s.mIssue m.val .minu)
def execMMaxu (m : Fin 64) (s : State) : Host.Outcome State Fault Refusal := s.live (fun s => s.mIssue m.val .maxu)
def execMClz (m : Fin 64) (s : State) : Host.Outcome State Fault Refusal := s.live (fun s => s.mIssue m.val .clz)
def execMPopc (m : Fin 64) (s : State) : Host.Outcome State Fault Refusal := s.live (fun s => s.mIssue m.val .popc)
def execMBswap (m : Fin 64) (s : State) : Host.Outcome State Fault Refusal := s.live (fun s => s.mIssue m.val .bswap)
def execMCrc (m : Fin 64) (s : State) : Host.Outcome State Fault Refusal := s.live (fun s => s.mIssue m.val .crc)
def execMAddi (m : Fin 64) (s : State) : Host.Outcome State Fault Refusal := s.live (fun s => s.mIssue m.val .addi)
def execMAndi (m : Fin 64) (s : State) : Host.Outcome State Fault Refusal := s.live (fun s => s.mIssue m.val .andi)
def execMOri (m : Fin 64) (s : State) : Host.Outcome State Fault Refusal := s.live (fun s => s.mIssue m.val .ori)
def execMXori (m : Fin 64) (s : State) : Host.Outcome State Fault Refusal := s.live (fun s => s.mIssue m.val .xori)
def execMShi (m : Fin 64) (s : State) : Host.Outcome State Fault Refusal := s.live (fun s => s.mIssue m.val .shi)
def execMLih (m : Fin 64) (s : State) : Host.Outcome State Fault Refusal := s.live (fun s => s.mIssue m.val .lih)
def execMSlti (m : Fin 64) (s : State) : Host.Outcome State Fault Refusal := s.live (fun s => s.mIssue m.val .slti)
def execMLd8u (m : Fin 64) (s : State) : Host.Outcome State Fault Refusal := s.live (fun s => s.mIssue m.val .ld8u)
def execMLd16u (m : Fin 64) (s : State) : Host.Outcome State Fault Refusal := s.live (fun s => s.mIssue m.val .ld16u)
def execMLd32u (m : Fin 64) (s : State) : Host.Outcome State Fault Refusal := s.live (fun s => s.mIssue m.val .ld32u)
def execMLd64 (m : Fin 64) (s : State) : Host.Outcome State Fault Refusal := s.live (fun s => s.mIssue m.val .ld64)
def execMSt8 (m : Fin 64) (s : State) : Host.Outcome State Fault Refusal := s.live (fun s => s.mIssue m.val .st8)
def execMSt16 (m : Fin 64) (s : State) : Host.Outcome State Fault Refusal := s.live (fun s => s.mIssue m.val .st16)
def execMSt32 (m : Fin 64) (s : State) : Host.Outcome State Fault Refusal := s.live (fun s => s.mIssue m.val .st32)
def execMSt64 (m : Fin 64) (s : State) : Host.Outcome State Fault Refusal := s.live (fun s => s.mIssue m.val .st64)
def execMBeq (m : Fin 64) (s : State) : Host.Outcome State Fault Refusal := s.live (fun s => s.mIssue m.val .beq)
def execMBne (m : Fin 64) (s : State) : Host.Outcome State Fault Refusal := s.live (fun s => s.mIssue m.val .bne)
def execMBlt (m : Fin 64) (s : State) : Host.Outcome State Fault Refusal := s.live (fun s => s.mIssue m.val .blt)
def execMBge (m : Fin 64) (s : State) : Host.Outcome State Fault Refusal := s.live (fun s => s.mIssue m.val .bge)
def execMBltu (m : Fin 64) (s : State) : Host.Outcome State Fault Refusal := s.live (fun s => s.mIssue m.val .bltu)
def execMBgeu (m : Fin 64) (s : State) : Host.Outcome State Fault Refusal := s.live (fun s => s.mIssue m.val .bgeu)
def execMJal (m : Fin 64) (s : State) : Host.Outcome State Fault Refusal := s.live (fun s => s.mIssue m.val .jal)
def execMJalr (m : Fin 64) (s : State) : Host.Outcome State Fault Refusal := s.live (fun s => s.mIssue m.val .jalr)
def execMSrdS (m : Fin 64) (s : State) : Host.Outcome State Fault Refusal := s.live (fun s => s.mIssue m.val .srdS)
def execMSrdD (m : Fin 64) (s : State) : Host.Outcome State Fault Refusal := s.live (fun s => s.mIssue m.val .srdD)
def execMSwrD (m : Fin 64) (s : State) : Host.Outcome State Fault Refusal := s.live (fun s => s.mIssue m.val .swrD)
def execMSput (m : Fin 64) (s : State) : Host.Outcome State Fault Refusal := s.live (fun s => s.mIssue m.val .sput)
def execMSwait (m : Fin 64) (s : State) : Host.Outcome State Fault Refusal := s.live (fun s => s.mIssue m.val .swait)
def execMStep (m : Fin 64) (s : State) : Host.Outcome State Fault Refusal := s.live (fun s => s.mIssue m.val .step)
def execMEnd (m : Fin 64) (s : State) : Host.Outcome State Fault Refusal := s.live (fun s => s.mIssue m.val .end_)
def execMAbort (m : Fin 64) (s : State) : Host.Outcome State Fault Refusal := s.live (fun s => s.mIssue m.val .abort)
def execMTime (m : Fin 64) (s : State) : Host.Outcome State Fault Refusal := s.live (fun s => s.mIssue m.val .time)

/-! ### Streams and limits -/

def execMStreamLanded (t : Fin 256) (wr : Bool) (n : Nat) (got : List Byte) (err : Fin 256) (s : State) : Host.Outcome State Fault Refusal :=
  s.live (fun s => s.streamLanded t.val wr n got err.val)

def execRunLimitExceeded (t : Fin 256) (s : State) : Host.Outcome State Fault Refusal := s.live (fun s => s.runLimit t.val)

/-! ### Failed Mules and clusters (R343, R396, R423, R461) -/

/-- A Mule is declared failed: it leaves service and its chunks resume elsewhere. -/
def State.muleFail (s : State) (m : Nat) : State :=
  if s.isFailed 2 m then s.declare 2 m
  else
    let s1 := (s.declare 2 m).set F.MCL_STAT_MULE_OK [m / 4] (setBitN (s.get F.MCL_STAT_MULE_OK [m / 4]) (m % 4) false)
    s1.partLost (fun t => t / 4 == m) (fun _ => false)

/-- A cluster is declared failed: it is out of service, its chunks resume elsewhere, and its front ends move. -/
def State.clusterFail (s : State) (k : Nat) : State :=
  if s.isFailed 3 k then s.declare 3 k
  else ((s.declare 3 k).set F.MCL_STAT_STATE [k] 2).partLost (fun t => t / 16 == k) (fun _ => false)

/-- MULE_MEMORY_UE: in a Mule's instruction memory or thread state, or (none) in the cluster's data memory, whose event is raised at the
cluster's first Mule (R423; a choice of the model). -/
def execMuleMemoryUe (k : Fin 16) (m : Option (Fin 4)) (s : State) : Host.Outcome State Fault Refusal :=
  s.live (fun s => match m with
    | some j => (s.event (.mule (4 * k.val + j.val)) 3).muleFail (4 * k.val + j.val)
    | none => (s.event (.mule (4 * k.val)) 3).clusterFail k.val)

/-- A write of MCL_CTL: ISOLATE set takes the cluster out of service (R462). -/
def State.mclCtl (s : State) (k : Nat) (on : Bool) : State :=
  if s.on F.MCL_CTL_ISOLATE [k] = on then s
  else (s.setB F.MCL_CTL_ISOLATE [k] on).when on (·.clusterFail k)

/-- CLUSTER_ISOLATE (MCL_CTL.ISOLATE, R462). -/
def execClusterIsolate (who : Init) (k : Fin 16) (s : State) : Host.Outcome State Fault Refusal :=
  s.live (fun s => s.writeReg who ⟨.MCL_CTL, [k.val]⟩ 4 (·.mclCtl k.val true))

/-! ### Firmware (R435, R436) -/

/-- Install an image into a cluster: code into its Mules, data into its data memory, and every Loaded program slot again. -/
def State.installImage (s : State) (k : Nat) (img : List Byte) : State :=
  let cl := leAt img 8 4
  let dl := leAt img 12 4
  let code := (img.drop 64).take cl
  let data := (img.drop (64 + cl)).take dl
  (s.muleUp (fun u => { u with
    imem := (List.range 4).foldl (fun (m : Memory) (j : Nat) => memWrite m (0x20000 * (4 * k + j)) code) u.imem,
    dmem := memWrite u.dmem (0x80000 * k) data })).wr ⟨.MCL_FW, [k]⟩ (packW [(0, 32, leAt img 28 4), (32, 32, leAt img 32 4)])

/-- Write a program image into its slot in one cluster (R427 step 4). -/
def State.installProg (s : State) (k p : Nat) (img : List Byte) : State :=
  let cl := leAt img 8 4
  let dl := leAt img 12 4
  let code := padTo 0x4000 ((img.drop 64).take cl)
  let data := padTo 0x2000 ((img.drop (64 + cl)).take dl)
  (s.muleUp (fun u => { u with
    imem := (List.range 4).foldl (fun (m : Memory) (j : Nat) => memWrite m (0x20000 * (4 * k + j) + 0x10000 + 0x4000 * p) code) u.imem,
    dmem := memWrite u.dmem (0x80000 * k + 0x40000 + 0x2000 * p) data })).wr ⟨.MCL_PROG, [k, p]⟩ (packW [(0, 1, 1), (32, 32, leAt img 28 4)])

/-- Does no thread of a cluster hold an invocation, and does it serve no instance? -/
def State.mcEmpty (s : State) (k : Nat) : Bool :=
  s.get F.MCL_STAT_THR_BUSY [k] == 0 && !((List.range 1072).any (fun i => s.get F.DM_STAT_SERVING [i] == k || s.on F.DM_STAT_MOVING [i]))

/-- MULE_FIRMWARE_UPDATE: the next cluster in order is taken, unless a declared failure is being handled; once it is empty it is written, tested and
returned, or it stays out of service and the update stops. -/
def State.fwUpdate (s : State) (k : Nat) (ok : Bool) : State :=
  match s.mule.fw, s.mule.updating, s.mule.updQueue with
  | some _, none, j :: rest =>
    if j ≠ k ∨ s.on F.GSV_DEG_BUSY [] ∨ s.get F.GSV_DEG_QUEUED [] ≠ 0 then s
    else if s.mcIn k then (s.set F.MCL_STAT_STATE [k] 1).muleUp (fun u => { u with updating := some (k, s.now) })
    else s.muleUp (fun u => { u with updQueue := rest })
  | some img, some (j, _), q =>
    if j ≠ k ∨ s.mcEmpty k = false then s
    else if ok then
      let s1 := (s.installImage k img).set F.MCL_STAT_STATE [k] 0
      let s2 := (below 4 (fun p => s.get F.DMG_PROG_STATE [p] == 2)).foldl (fun (s : State) (p : Nat) =>
        s.installProg k p (s.mule.images.lookD p [])) s1
      let s3 := s2.muleUp (fun u => { u with updating := none, updQueue := q.drop 1, fw := if q.length ≤ 1 then none else u.fw })
      s3.when (decide (q.length ≤ 1)) (fun s => ({ s with sec := { s.sec with
        muleSvn := leAt img 32 4, muleFw := img, meas := s.sec.meas.put 4 (Config.sha256 img) } }).journalAdd 5 4 0 0
        (padTo 64 (leBytes 4 2 ++ leBytes 4 (leAt img 28 4) ++ leBytes 1 (leAt img 32 4))) [])
    else ((s.set F.MCL_STAT_STATE [k] 2).setB F.MCL_STAT_FW_FAIL [k] true).muleUp (fun u => { u with updating := none, updQueue := [], fw := none })
  | _, _, _ => s

def execMuleFirmwareUpdate (k : Fin 16) (ok : Bool) (s : State) : Host.Outcome State Fault Refusal := s.live (fun s => s.fwUpdate k.val ok)

/-- CLUSTER_DRAIN_TIMEOUT: 20 µs after the cluster stopped taking chunks (R435 step 2). -/
def execClusterDrainTimeout (k : Fin 16) (s : State) : Host.Outcome State Fault Refusal :=
  s.live (fun s => match s.mule.updating with
    | some (j, t) => if j = k.val ∧ t + 20000 ≤ s.now then s.partLost (fun u => u / 16 == k.val) (fun _ => false) else s
    | none => s)

/-! ### MCL_MEM_DATA (R239, R412) -/

/-- The word at MCL_MEM_ADDR: memory and address, if the offset lies in the memory (R412, R413). -/
def State.memWord (s : State) (k : Nat) : Option (Bool × Nat) :=
  let a := s.get F.MCL_MEM_ADDR_ADDR [k] / 8 * 8
  if s.on F.MCL_MEM_ADDR_IMEM [k] then
    if a < 0x20000 then some (true, 0x20000 * (4 * k + s.get F.MCL_MEM_ADDR_MULE [k]) + a) else none
  else if a < 0x80000 then some (false, 0x80000 * k + a) else none

/-- The access itself: a read answers the word and keeps it in MCL_MEM_DATA; either way the address advances by 8. -/
def State.memData (s : State) (k : Nat) (wr : Bool) (v : W64) : State :=
  let s1 := match s.memWord k, wr with
    | some (true, a), true => s.muleUp (fun u => { u with imem := memWrite u.imem a (leBytes 8 v.toNat) })
    | some (false, a), true => s.muleUp (fun u => { u with dmem := memWrite u.dmem a (leBytes 8 v.toNat) })
    | _, _ => s
  let w := match s1.memWord k with
    | some (true, a) => leNat (memRead s1.mule.imem a 8)
    | some (false, a) => leNat (memRead s1.mule.dmem a 8)
    | none => 0
  (s1.wr ⟨.MCL_MEM_DATA, [k]⟩ (BitVec.ofNat 64 w)).set F.MCL_MEM_ADDR_ADDR [k] (s.get F.MCL_MEM_ADDR_ADDR [k] + 8)

/-- MCL_MEM_DATA_ACCESS: a write at level O or T into instruction memory is refused whatever the gate holds (R239). -/
def State.memAccess (s : State) (who : Init) (k : Nat) (wr : Bool) (v : W64) : State :=
  let so := Reg.slotOff ⟨.MCL_MEM_DATA, [k]⟩
  match s.checkSlot who wr so.1 so.2 8 with
  | (s', .ok) =>
    if wr ∧ s.on F.MCL_MEM_ADDR_IMEM [k] ∧ s.levelOf who ≠ .v then (s.gateDeny who so.1 so.2 1).answerWrite who .denied
    else
      let s1 := s'.memData k wr v
      if wr then s1.answerWrite who .ok else s1.emit (.answer who 0 (leBytes 8 (s1.rd ⟨.MCL_MEM_DATA, [k]⟩).toNat))
  | (s', a) => s'.answerWrite who a

def execMclMemDataAccess (who : Init) (k : Fin 16) (wr : Bool) (v : W64) (s : State) : Host.Outcome State Fault Refusal :=
  s.live (fun s => s.memAccess who k.val wr v)

end Sys2Proof.Machine
end

