-- ==== Sys2Proof/Machine/Lanes.lean ====
section
/-!
DEFINITION. Serial lanes (chapter 02): which port a lane carries, cuts (R38 to R40), loopback, patterns and error injection (R55 to R61),
equalization (R44 to R47), margining and eye samples (R62 to R64), lane markers (R49, R50), and the meanings of their commands.
-/

namespace Sys2Proof.Machine

/-- Change the port and lane state. -/
def State.lnkUp (s : State) (f : LnkSt → LnkSt) : State := { s with lnk := f s.lnk }

/-- The port that a lane of a tile carries under a cut (R38); none without a port. -/
def portOfCut (cut t k : Nat) : Option Nat :=
  match cut with
  | 1 => some (4 * t + k / 2)
  | 2 => some (if k < 4 then 4 * t else 4 * t + k / 2)
  | 3 => some (if k < 4 then 4 * t + k / 2 else 4 * t + 2)
  | 4 => some (if k < 4 then 4 * t else 4 * t + 2)
  | 5 => some (4 * t)
  | 6 | 7 => some (4 * (t / 2 * 2))
  | _ => none

/-- The port that a lane carries. -/
def State.portOfLane (s : State) (t k : Nat) : Option Nat := portOfCut (s.cutOf t) t k

/-- The lanes of a port, lowest first. -/
def State.lanesOf (s : State) (p : Nat) : List (Nat × Nat) :=
  ((List.range 16).map (fun i => (p / 4 + i / 8, i % 8))).filter (fun l => s.portOfLane l.1 l.2 == some p)

/-- The port whose LINK triple reports a lane: the lane's port, or the slot of the lane's pair. -/
def State.laneTriple (s : State) (t k : Nat) : Nat := (s.portOfLane t k).getD (4 * t + k / 2)

/-- Is the lane out of service: without a port, or its port disabled? -/
def State.laneIdle (s : State) (t k : Nat) : Bool :=
  match s.portOfLane t k with
  | none => true
  | some p => !s.pon F.PP_CTL_ENABLE p

/-! ### Cuts (R38 to R40) -/

/-- Is a port of the tile enabled, the x16 port of a pair counting for both its tiles (R40)? -/
def State.tileEnabled (s : State) (t : Nat) : Bool :=
  let c := s.get F.PT_CUT_CUT [t]
  (List.range 4).any (fun k => 0 < slotWidth (s.cutOf t) k && s.pon F.PP_CTL_ENABLE (4 * t + k)) ||
  ((c == 6 || c == 7) && s.pon F.PP_CTL_ENABLE (4 * (t / 2 * 2)))

/-- PAIR_MISMATCH of a pair of tiles (R39). -/
def State.updPair (s : State) (t : Nat) : State :=
  let e := t / 2 * 2
  let a := s.get F.PT_CUT_CUT [e]
  let b := s.get F.PT_CUT_CUT [e + 1]
  let bad := (a == 6 || a == 7 || b == 6 || b == 7) && !(a == 6 && b == 7)
  (s.setB F.PT_CUT_PAIR_MISMATCH [e] bad).setB F.PT_CUT_PAIR_MISMATCH [e + 1] bad

/-- Lane state after a change of cut: lanes of a port are reset and powered up, the others powered down (RATE 7). -/
def State.resetLanes (s : State) (t : Nat) : State :=
  (List.range 8).foldl (fun (s : State) (k : Nat) =>
    s.wr ⟨.LN_STAT, [t, k]⟩ (packW [(0, 3, if (s.portOfLane t k).isSome then 0 else 7)])) s

/-- A write of PT_CUT (R40): refused for a reserved code, or for another code while a port of the tile is enabled. A port that the new cut makes and
whose ENABLE is 1 enters Detect (R67). -/
def State.cutWrite (s : State) (t : Nat) (v : W64) : State :=
  let c := fget v 0 4
  let s1 := s.when (v.getLsbD 8) (·.setB F.PT_CUT_CUT_REFUSED [t] false)
  if c = s.get F.PT_CUT_CUT [t] then s1
  else if 8 ≤ c ∨ s.tileEnabled t then (s1.setB F.PT_CUT_CUT_REFUSED [t] true).portEvent (4 * t) 0 3
  else
    let s2 := (s1.set F.PT_CUT_CUT [t] c).updPair t
    let s3 := (s2.resetLanes t).resetLanes (if t % 2 = 0 then t + 1 else t - 1)
    (List.range 8).foldl (fun (s : State) (i : Nat) =>
      let p := 4 * (t / 2 * 2) + i
      if decide (s2.portWidth p ≠ 0) && s2.pon F.PP_CTL_ENABLE p then
        (if s.pget F.PP_STAT_LINK_STATE p = 0 then s.pset F.PP_STAT_LINK_STATE p 1 else s)
      else s.pset F.PP_STAT_LINK_STATE p 0) s3

/-- PT_CUT_WRITE (R39, R40). -/
def execPtCutWrite (who : Init) (t : Fin 36) (v : W32) (s : State) : Host.Outcome State Fault Refusal :=
  s.live (fun s => s.writeReg who ⟨.PT_CUT, [t.val]⟩ 4 (·.cutWrite t.val (v.zeroExtend 64)))

/-- LANE_READY (R38): the lanes of the tile's ports are powered and calibrated. -/
def execLaneReady (t : Fin 36) (s : State) : Host.Outcome State Fault Refusal :=
  s.live (fun s => (List.range 8).foldl (fun (s : State) (k : Nat) =>
    s.when (s.portOfLane t.val k).isSome (·.setB F.LN_STAT_READY [t.val, k] true)) s)

/-! ### Loopback and patterns -/

/-- Is a loopback mode permitted on a lane (R55)? -/
def State.lpbkOk (s : State) (t k m : Nat) : Bool :=
  m == 0 || ((m == 1 || m == 2) && s.laneIdle t k) || (m == 3 && s.laneIdle t k && s.on F.LN_PAT_CHK_LOCK [t, k])

/-- A write of LN_CTL: a loopback mode that is not permitted is ignored and LPBK_REFUSED set (R56). A
forced receive polarity applies at once (R41). -/
def State.lnCtl (s : State) (t k : Nat) (v : W64) : State :=
  let old := s.get F.LN_CTL_LPBK [t, k]
  let s0 := s.writeTyped ⟨.LN_CTL, [t, k]⟩ false v
  let s1 := s0.when (s0.on F.LN_CTL_RX_POL_OVR [t, k]) (fun s => s.setB F.LN_STAT_RX_POL [t, k] (s.on F.LN_CTL_RX_POL_VAL [t, k]))
  if s.lpbkOk t k (fget v 4 3) then s1
  else ((s1.set F.LN_CTL_LPBK [t, k] old).setB F.LN_STAT_LPBK_REFUSED [t, k] true).portEvent (s.laneTriple t k) 0 6

/-- LN_CTL_WRITE (R55, R56). -/
def execLnCtlWrite (who : Init) (t : Fin 36) (k : Fin 8) (v : W32) (s : State) : Host.Outcome State Fault Refusal :=
  s.live (fun s => s.writeReg who ⟨.LN_CTL, [t.val, k.val]⟩ 4 (·.lnCtl t.val k.val (v.zeroExtend 64)))

/-- May a lane run a pattern: idle or in the PCIe Loopback state, and the pattern allowed at its rate (R57, R58)? -/
def State.patOk (s : State) (t k pat : Nat) : Bool :=
  (s.laneIdle t k || (match s.portOfLane t k with | some p => s.pget F.PP_STAT_LINK_STATE p == 8 | none => false)) &&
  decide (pat ≤ 10) && (!(decide (6 ≤ pat ∧ pat ≤ 8)) || (let r := s.get F.LN_STAT_RATE [t, k]; r == 5 || r == 6))

/-- Add to a lane's error and bit counters; all-ones sets OVF and raises PAT_OVF (R60). -/
def State.patCount (s : State) (t k bits errs : Nat) : State :=
  let add := fun (s : State) (c o : Fld) (n : Nat) =>
    let s1 := s.bump c [t, k] n
    if s1.get c [t, k] = 2 ^ 48 - 1 ∧ n ≠ 0 then (s1.setB o [t, k] true).portEvent (s.laneTriple t k) 0 7 else s1
  add (add s F.LN_PAT_ERR_COUNT F.LN_PAT_ERR_OVF errs) F.LN_PAT_BITS_COUNT F.LN_PAT_BITS_OVF bits

/-- Inject one error (R61): error data of the lane's own generator reaches its checker as one counted error. -/
def State.inject (s : State) (t k : Nat) : State :=
  let s1 := s.lnkUp (fun l => { l with injected := l.injected.upd (t, k) 0 (· + 1) })
  if s.on F.LN_PAT_GEN_EN [t, k] ∧ s.on F.LN_PAT_CHK_LOCK [t, k] then s1.patCount t k 0 1 else s1

/-- A write of LN_PAT (R58 to R61). -/
def State.lnPat (s : State) (t k : Nat) (v : W64) : State :=
  let wasChk := s.on F.LN_PAT_CHK_EN [t, k]
  let s1 := s.writeTyped ⟨.LN_PAT, [t, k]⟩ false v
  let want := v.getLsbD 0 || v.getLsbD 1
  let s2 := if want ∧ ¬ s.patOk t k (fget v 2 4) then
      (((s1.setB F.LN_PAT_GEN_EN [t, k] false).setB F.LN_PAT_CHK_EN [t, k] false).setB F.LN_STAT_PAT_REFUSED [t, k] true).portEvent
        (s.laneTriple t k) 0 5
    else s1
  let nowChk := s2.on F.LN_PAT_CHK_EN [t, k]
  let s3 := if nowChk ∧ ¬ wasChk then (s2.resetReg ⟨.LN_PAT_ERR, [t, k]⟩).resetReg ⟨.LN_PAT_BITS, [t, k]⟩ else s2
  let s4 := if nowChk then s3 else s3.setB F.LN_PAT_CHK_LOCK [t, k] false
  if v.getLsbD 13 ∧ s4.get F.LN_PAT_INJ_MODE [t, k] = 1 then s4.inject t k else s4

/-- LN_PAT_WRITE (R58, R60, R61). -/
def execLnPatWrite (who : Init) (t : Fin 36) (k : Fin 8) (v : W32) (s : State) : Host.Outcome State Fault Refusal :=
  s.live (fun s => s.writeReg who ⟨.LN_PAT, [t.val, k.val]⟩ 4 (·.lnPat t.val k.val (v.zeroExtend 64)))

/-- INJ_ONE (R61): one error in single mode; in another mode the write injects nothing. -/
def execInjOne (who : Init) (t : Fin 36) (k : Fin 8) (s : State) : Host.Outcome State Fault Refusal :=
  s.live (fun s => s.writeReg who ⟨.LN_PAT, [t.val, k.val]⟩ 4 (fun s =>
    if s.get F.LN_PAT_INJ_MODE [t.val, k.val] = 1 then s.inject t.val k.val else s))

/-- PERIODIC_INJECTION (R61). -/
def execPeriodicInjection (t : Fin 36) (k : Fin 8) (s : State) : Host.Outcome State Fault Refusal :=
  s.live (fun s => if s.get F.LN_PAT_INJ_MODE [t.val, k.val] = 2 then s.inject t.val k.val else s)

/-- CHK_LOCK (R59): a running checker locks. -/
def execChkLock (t : Fin 36) (k : Fin 8) (s : State) : Host.Outcome State Fault Refusal :=
  s.live (fun s => if s.on F.LN_PAT_CHK_EN [t.val, k.val] then s.setB F.LN_PAT_CHK_LOCK [t.val, k.val] true else s)

/-- LOCK_LOSS (R59): the bits and errors counted since lock are in the counters, and the loss is counted. -/
def execLockLoss (t : Fin 36) (k : Fin 8) (bits errs : Nat) (s : State) : Host.Outcome State Fault Refusal :=
  s.live (fun s =>
    if s.on F.LN_PAT_CHK_LOCK [t.val, k.val] then
      ((s.patCount t.val k.val bits errs).setB F.LN_PAT_CHK_LOCK [t.val, k.val] false).bump F.LN_PAT_ERR_LOCK_LOSS [t.val, k.val]
    else s)

/-! ### Equalization (R44 to R47) -/

/-- A coefficient set that the transmitter takes: |c−1| ≤ 15, |c+1| ≤ 21, and the standard's rules with FS 63 and LF 21 (R44; the rules are
PRESUMED: the magnitudes sum to FS and c0 − |c−1| − |c+1| is at least LF). -/
def txeqOk (pre main post : Nat) : Bool :=
  decide (pre ≤ 15) && decide (post ≤ 21) && decide (pre + main + post = 63) && decide (21 + pre + post ≤ main)

/-- TXEQ_REQUEST (R44, R47): a set within the limits is taken; otherwise, or under override, it is rejected and the previous set stays. -/
def execTxeqRequest (t : Fin 36) (k : Fin 8) (pre main post : Fin 64) (s : State) : Host.Outcome State Fault Refusal :=
  s.live (fun s =>
    if txeqOk pre.val main.val post.val ∧ ¬ s.on F.LN_TXEQ_OVR [t.val, k.val] then
      (((s.set F.LN_TXEQ_C_PRE [t.val, k.val] pre.val).set F.LN_TXEQ_C_MAIN [t.val, k.val] main.val).set F.LN_TXEQ_C_POST [t.val, k.val]
        post.val).emit (.txeq t.val k.val true)
    else s.emit (.txeq t.val k.val false))

/-- The search of R45: from the best setting, its neighbours in a fixed order (c−1 up, down, c+1 up, down; a DESIGN CHOICE), at most `n`
counted requests; an answer `none` is a rejection, which is skipped and not counted. The list of answers ends the search. -/
def eqSearch : Nat → (Nat × Nat) → Nat → List (Nat × Nat) → List (Option Nat) → (Nat × Nat)
  | _, best, _, _, [] => best
  | 0, best, _, _, _ => best
  | n + 1, best, sc, tried, a :: as =>
    let near := [(best.1 + 1, best.2), (best.1 - 1, best.2), (best.1, best.2 + 1), (best.1, best.2 - 1)]
    match near.find? (fun c => !tried.contains c && c != best) with
    | none => best
    | some c =>
      match a with
      | none => eqSearch (n + 1) best sc (c :: tried) as
      | some v => if sc < v then eqSearch n c v [best] as else eqSearch n best sc (c :: tried) as

/-- EQUALIZATION_PHASE (R45, R46): a phase starts, ending a margining command on the lane (R63); at its end the receiver asks for the best
setting of its search. -/
def execEqualizationPhase (t : Fin 36) (k : Fin 8) (done : Bool) (pre post score : Nat) (answers : List (Option Nat)) (s : State) :
    Host.Outcome State Fault Refusal :=
  s.live (fun s =>
    let l := (t.val, k.val)
    if done then
      if l ∈ s.lnk.eqRun then
        let b := eqSearch 40 (pre, post) score [] answers
        (s.lnkUp (fun x => { x with eqRun := x.eqRun.filter (· != l), partner := x.partner.put l b })).emit (.eqAsk t.val k.val b.1 b.2)
      else s
    else s.lnkUp (fun x => { x with eqRun := addNew x.eqRun l, margin := x.margin.filter (· != l) }))

/-! ### Margining and eye samples (R62 to R64) -/

/-- MARGIN_COMMAND (R62): offsets within 32 timing steps and 64 voltage steps, on a PCIe port in L0 at 16 GT/s or above. -/
def execMarginCommand (t : Fin 36) (k : Fin 8) (on : Bool) (time volt : Nat) (s : State) : Host.Outcome State Fault Refusal :=
  s.live (fun s =>
    let l := (t.val, k.val)
    match s.portOfLane t.val k.val with
    | some p =>
      if on = false then s.lnkUp (fun x => { x with margin := x.margin.filter (· != l) })
      else if s.inL0 p ∧ s.role p ≠ 2 ∧ 3 ≤ s.pget F.PP_STAT_RATE p ∧ time ≤ 32 ∧ volt ≤ 64 ∧ l ∉ s.lnk.eqRun then
        s.lnkUp (fun x => { x with margin := addNew x.margin l })
      else s
    | none => s)

/-- A write of LN_EYE: ignored while a margining command runs; a START during equalization waits (R64). -/
def State.eyeWrite (s : State) (t k : Nat) (v : W64) : State :=
  if (t, k) ∈ s.lnk.margin then s
  else
    let s1 := s.writeTyped ⟨.LN_EYE, [t, k]⟩ false v
    if v.getLsbD 17 ∧ (t, k) ∈ s.lnk.eqRun then s1.lnkUp (fun x => { x with eyeWait := addNew x.eyeWait (t, k) }) else s1

/-- EYE_SAMPLE_START (R64). -/
def execEyeSampleStart (who : Init) (t : Fin 36) (k : Fin 8) (v : W64) (s : State) : Host.Outcome State Fault Refusal :=
  s.live (fun s => s.writeReg who ⟨.LN_EYE, [t.val, k.val]⟩ 8 (·.eyeWrite t.val k.val v))

/-- EYE_START_AFTER_EQ (R64): the START that waited begins once equalization has ended. -/
def execEyeStartAfterEq (t : Fin 36) (k : Fin 8) (s : State) : Host.Outcome State Fault Refusal :=
  s.live (fun s =>
    if (t.val, k.val) ∈ s.lnk.eyeWait ∧ (t.val, k.val) ∉ s.lnk.eqRun then
      s.lnkUp (fun x => { x with eyeWait := x.eyeWait.filter (· != (t.val, k.val)) })
    else s)

/-- EYE_SAMPLE_DONE: ERRORS holds the mismatches, at most all-ones, and START clears. -/
def execEyeSampleDone (t : Fin 36) (k : Fin 8) (errs : Nat) (s : State) : Host.Outcome State Fault Refusal :=
  s.live (fun s =>
    if s.on F.LN_EYE_START [t.val, k.val] ∧ (t.val, k.val) ∉ s.lnk.eyeWait then
      (s.set F.LN_EYE_ERRORS [t.val, k.val] (min errs 0xFFFF)).setB F.LN_EYE_START [t.val, k.val] false
    else s)

/-! ### Retraining and lanes left out (R74 to R77) -/

/-- A cause of R76 acts: DEGRADED and the link-degraded event. -/
def State.degrade (s : State) (p : Nat) : State :=
  ((s.pset F.PP_STAT_DEGRADED p 1).portEvent p 0 2).lnkUp (fun x => { x with degraded := addNew x.degraded p })

/-- The highest rate that a port may train to now: RATE_MAX (7 acts as 6) and the cap of R76. -/
def State.rateLimit (s : State) (p : Nat) : Nat := min (min 6 (s.pget F.PP_CTL_RATE_MAX p)) (s.lnk.rateCap.lookD p 6)

/-- The next training is one rate lower, or at the same rate while DEGRADE_EN is 0 (R76). -/
def State.capRate (s : State) (p : Nat) : State :=
  let s1 := s.degrade p
  if s.pon F.PP_CTL_DEGRADE_EN p then s1.lnkUp (fun x => { x with rateCap := x.rateCap.put p (s.rateLimit p - 1) }) else s1

/-- An entry into Recovery from L0 of a PCIe port is counted in its leaky counter; at THRESHOLD the port retrains one rate lower (R459). -/
def State.recoveryLeak (s : State) (p : Nat) : State :=
  if s.role p = 2 then s
  else match s.leakyEvent 0 (p / 4) (p % 4) with
    | (s1, true) => s1.capRate p
    | (s1, false) => s1

/-- Retrain a port: Recovery from a link that is up, Training otherwise; margining on its lanes ends (R63). -/
def State.retrain (s : State) (p : Nat) : State :=
  let st := s.pget F.PP_STAT_LINK_STATE p
  let s1 := s.lnkUp (fun x => { x with margin := x.margin.filter (fun l => s.portOfLane l.1 l.2 != some p) })
  if st = 3 ∨ st = 4 ∨ st = 6 then
    (((s1.pset F.PP_STAT_LINK_STATE p 5).pset F.PP_STAT_WIDTH p 0).portCount p 20).when (st != 6) (·.recoveryLeak p)
  else if st = 1 ∨ st = 2 then s1.pset F.PP_STAT_LINK_STATE p 2
  else s1

/-- Leave a lane out of its port (R50, R76): declared as a lane of type 7, and the port retrains without it. -/
def State.dropLane (s : State) (t k : Nat) : State :=
  match s.portOfLane t k with
  | none => s
  | some p =>
    if (t, k) ∈ s.lnk.badLanes then s
    else
      (((s.lnkUp (fun x => { x with badLanes := addNew x.badLanes (t, k) })).degrade p).declare 7 (8 * t + k)).retrain p

/-- LANE_TRAIN_FAIL (R76). -/
def execLaneTrainFail (t : Fin 36) (k : Fin 8) (s : State) : Host.Outcome State Fault Refusal := s.live (·.dropLane t.val k.val)

/-- Retrain one rate lower, or at the same rate while DEGRADE_EN is 0 (R76). -/
def State.lowerRate (s : State) (p : Nat) : State :=
  (s.capRate p).retrain p

/-- EQ_FAIL (R76). -/
def execEqFail (port : Fin 144) (s : State) : Host.Outcome State Fault Refusal :=
  s.live (fun s => if s.pon F.PP_CTL_ENABLE port.val then s.lowerRate port.val else s)

/-! ### KFP lane markers (R49, R50) -/

/-- MISWIRE on a lane: training stops (R50). -/
def State.miswire (s : State) (p t k : Nat) : State :=
  let s1 := (s.setB F.LN_STAT_MISWIRE [t, k] true).portEvent p 0 4
  if s.inL0 p then s1 else s1.pset F.PP_STAT_LINK_STATE p 1

/-- A KFP lane marker of a lane (R50): eight bad ones in a row take the lane out; differing DEVICE or PORT values, or a LANE that fits neither
order of R43, stop training and set MISWIRE. -/
def State.laneMarker (s : State) (t k lane width dev port : Nat) (good : Bool) : State :=
  match s.portOfLane t k with
  | none => s
  | some p =>
    if s.role p ≠ 2 ∨ ¬ s.pon F.PP_CTL_ENABLE p then s
    else if good = false then
      let n := s.lnk.badMarks.lookD (t, k) 0 + 1
      let s1 := (s.lnkUp (fun x => { x with badMarks := x.badMarks.put (t, k) n })).trunkCount (p / 8) 9
      if n = 8 then s1.dropLane t k else s1
    else
      let s1 := s.lnkUp (fun x => { x with badMarks := x.badMarks.del (t, k) })
      let i := 8 * t + k - (match s.lanesOf p with | (t0, k0) :: _ => 8 * t0 + k0 | [] => 0)
      let fits := lane == i || lane + i + 1 == width
      match s.lnk.mark.look p with
      | none => if fits then s1.lnkUp (fun x => { x with mark := x.mark.put p (dev, port) }) else s1.miswire p t k
      | some m => if fits ∧ m = (dev, port) then s1 else s1.miswire p t k
/-- LANE_MARKER_RECEIVED (R49, R50). -/
def execLaneMarkerReceived (t : Fin 36) (k : Fin 8) (lane width dev portNo : Fin 256) (good : Bool) (s : State) :
    Host.Outcome State Fault Refusal :=
  s.live (·.laneMarker t.val k.val lane.val width.val dev.val portNo.val good)

end Sys2Proof.Machine
end

