-- ==== Sys2Proof/Machine/Trunk.lean ====
section
/-!
DEFINITION. Koryan trunks (chapter 09): members and their spray (R286, R301 to R304), data packets and held copies (R287, R288), the receiver
(R289 to R292, R296), acknowledgements, bring-up (R282 to R285), Doze (R51 to R54), loss of members and of the trunk (R298 to R300), and
echoes (R306, R307).
-/

namespace Sys2Proof.Machine

/-! ### Members -/

/-- The members in the spray set. -/
def State.members (s : State) (j : Nat) : List Nat := below 8 (fun i => (s.get F.FAB_TRK_STAT_MEMBERS [j]).testBit i)

/-- Set or clear a member's bit in MEMBERS. -/
def State.setMember (s : State) (j i : Nat) (on : Bool) : State :=
  let m := s.get F.FAB_TRK_STAT_MEMBERS [j]
  s.set F.FAB_TRK_STAT_MEMBERS [j] (if on then m ||| (1 <<< i) else m &&& (255 ^^^ (1 <<< i)))

/-- May a member carry new packets: in the spray set, not in Doze, not in a short retrain (R54, R286, R302)? -/
def State.awake (s : State) (j i : Nat) : Bool :=
  (s.get F.FAB_TRK_STAT_MEMBERS [j]).testBit i && (s.lnk.doze.look (8 * j + i)).isNone && !s.lnk.shortRetrain.contains (8 * j + i)

/-- Eighths of a byte that a member sends in each ns: 14.75 bytes per lane at 128 GT/s, half of it at 64 GT/s (the rates of the worked example of
chapter 09). -/
def State.memRate (s : State) (p : Nat) : Nat := (if s.pget F.PP_STAT_RATE p = 6 then 118 else 59) * max 1 (s.pget F.PP_STAT_WIDTH p)

/-- Bytes queued on a member now. -/
def State.memQueued (s : State) (j i : Nat) : Nat :=
  let q := (s.tk j).mq.lookD i (0, 0)
  (q.1 - s.memRate (8 * j + i) * (s.now - q.2)) / 8

/-- Add bytes to a member's queue. -/
def State.memPush (s : State) (j i n : Nat) : State :=
  let q := (s.tk j).mq.lookD i (0, 0)
  s.tkUp j (fun t => { t with mq := t.mq.put i ((q.1 - s.memRate (8 * j + i) * (s.now - q.2)) + 8 * n, s.now) })

/-- The member of a list with the fewest bytes queued; ties go to the lowest index (R286). -/
def State.fewest (s : State) (j : Nat) (l : List Nat) : Option Nat :=
  l.foldl (fun (b : Option Nat) (i : Nat) => match b with
    | none => some i
    | some k => if s.memQueued j i < s.memQueued j k then some i else some k) none

/-- Has a member IDLE_TIME above 0? -/
def State.anyIdle (s : State) (j : Nat) : Bool := (s.members j).any (fun i => decide (0 < s.get F.PT_DOZE_IDLE_TIME [(8 * j + i) / 4, i % 4]))

/-- The member that takes the next packet (R286, R304): while any member may doze, the anchor as long as it holds at most 8 KiB. -/
def State.pickMember (s : State) (j : Nat) : Option Nat :=
  let l := (s.members j).filter (fun i => s.awake j i)
  match s.anchor j with
  | some a => if s.anyIdle j ∧ s.memQueued j a ≤ 8192 ∧ s.awake j a then some a else s.fewest j l
  | none => none

/-! ### Sending on a member -/

/-- Record that a member has sent or received. -/
def State.touch (s : State) (p : Nat) : State := s.lnkUp (fun x => { x with lastTlp := x.lastTlp.put p s.now })

/-- LN_STAT.DOZE of a port's lanes. -/
def State.dozeLanes (s : State) (p : Nat) (on : Bool) : State :=
  (s.lanesOf p).foldl (fun (s : State) (l : Nat × Nat) => s.setB F.LN_STAT_DOZE [l.1, l.2] on) s

/-- Leave Doze: the port carries data again (R52). -/
def State.dozeEnd (s : State) (p : Nat) : State := (s.lnkUp (fun x => { x with doze := x.doze.del p })).dozeLanes p false

/-- MAX_TIME of a port in ns: 0 acts as 1 µs, above 10,000 as 10,000. -/
def State.dozeMax (s : State) (p : Nat) : Nat := min 10000 (max 1 (s.get F.PT_DOZE_MAX_TIME [p / 4, p % 4])) * 1000

/-- Does a port in Doze leave it by a short retrain: beyond MAX_TIME, or with SRIS clocking (R54, R514)? -/
def State.dozeLate (s : State) (p : Nat) : Bool :=
  (match s.lnk.doze.look p with | some t => decide (t + s.dozeMax p < s.now) | none => false) || s.get F.CPW_TILE_REF_MODE [p / 8 * 2] == 2

/-- Start a short retrain (R54). -/
def State.shortRetrain (s : State) (p : Nat) : State :=
  ((((s.dozeEnd p).lnkUp (fun x => { x with shortRetrain := addNew x.shortRetrain p })).trunkCount (p / 8) 14).emit (.kfp p .shortRetrain)).touch p

/-- Wake a dozing port by a burst or, where R54 says so, by a short retrain (R52 to R54). -/
def State.wake (s : State) (p : Nat) : State :=
  if (s.lnk.doze.look p).isNone then s
  else if s.dozeLate p then s.shortRetrain p
  else (((s.dozeEnd p).trunkCount (p / 8) 13).emit (.kfp p .wake)).touch p

/-- A packet is ready while the Doze marker exchange of a port is under way: entry is abandoned with a wake burst (R53). -/
def State.dozeAbort (s : State) (p : Nat) : State :=
  if p ∈ s.lnk.dozeAsk then
    ((((s.lnkUp (fun x => { x with dozeAsk := x.dozeAsk.filter (· != p) })).trunkCount (p / 8) 12).trunkCount (p / 8) 13).emit (.kfp p .wake)).touch p
  else s

/-- The own device's GPID of a port (R311). -/
def State.gpid (s : State) (p : Nat) : Nat := s.get F.FAB_DEV_NUM [] * 256 + p

/-- The DST_GPID of a packet: a completion names the partner's trunk port (R318). -/
def State.dstGpid (s : State) (j : Nat) (p : Pkt) : Nat :=
  if p.kind = 2 then (match (s.tk j).peer with | some (d, t) => d * 256 + t | none => p.dst) else p.dst

/-- The SRC_GPID of a packet: the port where the TLP entered the fabric, 0xFF for a station (R277, R311). -/
def State.srcGpid (s : State) (p : Pkt) : Nat := p.gsrc.getD (s.gpid (if p.srcId < 144 then p.srcId else 0xFF))

/-- Is the trunk running KFP 1.0? -/
def State.kfp10 (s : State) (j : Nat) : Bool := s.get F.FAB_TRK_STAT_VER_MIN [j] == 0

/-- Send a data packet on a member: the header carries the current CUM (R277, R290), PREV names the previous TSEQ on the member, or under KFP
1.0 the member sequence number (R285). -/
def State.sendData (s0 : State) (j i tseq mseq : Nat) (resend : Bool) (p : Pkt) : State :=
  match p.tlp? with
  | none => s0
  | some t =>
    let s := s0.dozeAbort (8 * j + i)
    let v10 := s.kfp10 j
    let prev := (s.tk j).prevTx.look i
    let cum := s.get F.FAB_TRK_SEQ_RX_CUM [j]
    let k : KData := {
      tseq := tseq, prev := if v10 then mseq else prev.getD 0, prevV := !resend && (v10 || prev.isSome), resend := resend, ack := cum, sc := p.sc,
      kind := p.kind, mark := p.mark && !v10, dst := s.dstGpid j p, src := s.srcGpid p, tlp := t }
    (((s.tkUp j (fun x => { x with prevTx := x.prevTx.put i tseq, cumSent := cum })).memPush j i (kBytes t)).emit (.kfp (8 * j + i) (.data k))).touch
      (8 * j + i)

/-- Send the next packet of the trunk on a member (R286, R287): it takes the next TSEQ and a copy is held. -/
def State.sendNew (s : State) (j i : Nat) (p : Pkt) : State :=
  let q := s.get F.FAB_TRK_SEQ_TX_NEXT [j]
  let ms := (s.tk j).mseqTx.lookD i 0
  let s1 := ((s.sendData j i q ms false p).set F.FAB_TRK_SEQ_TX_NEXT [j] ((q + 1) % 65536)).trunkCount j 0
  (s1.tkUp j (fun x => { x with
    copies := x.copies ++ [{ tseq := q, mem := i, at_ := s.now, mseq := ms, pkt := p }],
    mseqTx := x.mseqTx.put i ((ms + 1) % 65536) })).set F.FAB_TRK_SEQ_TX_UNACK [j] ((s.tk j).copies.length + 1)

/-- Wake the lowest-index dozing member when every awake member holds more than 8 KiB (R303). -/
def State.wakeNext (s : State) (j : Nat) : State :=
  if (s.members j).all (fun i => !s.awake j i || decide (8192 < s.memQueued j i)) then
    match (s.members j).find? (fun i => (s.lnk.doze.look (8 * j + i)).isSome) with
    | some i => s.wake (8 * j + i)
    | none => s
  else s

/-- Send the waiting packets of a trunk, in their order, except of a class in XOFF (R286, R287, R294). At 32,767 unacknowledged packets the
sender stalls. -/
def State.pump (s : State) (j : Nat) : Nat → State
  | 0 => s
  | n + 1 =>
    if !s.tkOn j then s
    else
      match takeFirst (fun (p : Pkt) => !(s.get F.FAB_TRK_STAT_XOFF_RX [j]).testBit p.sc) (s.fwd.trunkq.lookD j []) with
      | none => s
      | some (p, rest) =>
        if 32767 ≤ (s.tk j).copies.length then (s.trunkCount j 6).portEvent (8 * j) 6 8
        else
          let s1 := s.wakeNext j
          match s1.pickMember j with
          | some i => ((s1.fwdUp (fun f => { f with trunkq := f.trunkq.put j rest })).sendNew j i p).pump j n
          | none => s1

/-- Send what waits on a trunk. -/
def State.trunkPump (s : State) (j : Nat) : State := s.pump j (s.fwd.trunkq.lookD j []).length

/-- Resend a held copy (R288, R291, R298): under KFP 1.1 on any member, under 1.0 on its member unless that has left (R285). -/
def State.resendCopy (s : State) (j tseq : Nat) : State :=
  match (s.tk j).copies.find? (fun c => c.tseq == tseq) with
  | none => s
  | some c =>
    let m := if s.kfp10 j ∧ (s.members j).contains c.mem then some c.mem else s.pickMember j
    match m with
    | none => s
    | some i =>
      ((s.sendData j i c.tseq c.mseq true c.pkt).trunkCount j 1).tkUp j (fun x => { x with
        copies := x.copies.map (fun y => if y.tseq == tseq then { y with mem := i, at_ := s.now, tries := y.tries + 1 } else y) })

/-! ### Acknowledgements -/

/-- Is a TSEQ before CUM: acknowledged (R287)? -/
def passed (cum tseq : Nat) : Bool := decide (32768 ≤ seqDist cum tseq)

/-- The least of the round-trip samples, at most all-ones. -/
def minRtt (l : List (Nat × Nat)) : Nat := l.foldl (fun (m : Nat) (x : Nat × Nat) => min m x.1) 0xFFFF

/-- An ACK value arrives: the copies that it passes are freed, and FAB_TRK_STAT.RTT follows the least time to acknowledgement over the last 1 ms
(R287). -/
def State.ackTo (s : State) (j cum : Nat) : State :=
  let gone := (s.tk j).copies.filter (fun c => passed cum c.tseq)
  if gone.isEmpty then s
  else
    let fresh := (gone.filter (fun c => c.tries == 0)).map (fun c => (s.now - c.at_, s.now))
    let l := ((s.tk j).rtts ++ fresh).filter (fun x => decide (s.now ≤ x.2 + 1000000))
    let s1 := s.tkUp j (fun x => { x with copies := x.copies.filter (fun c => !passed cum c.tseq), rtts := l })
    let s2 := s1.set F.FAB_TRK_SEQ_TX_UNACK [j] (s1.tk j).copies.length
    if l.isEmpty then s2 else s2.set F.FAB_TRK_STAT_RTT [j] (minRtt l)

/-- Send an ACK with the current CUM and XOFF state (R290, R294). -/
def State.sendAck (s : State) (j : Nat) : State :=
  let cum := s.get F.FAB_TRK_SEQ_RX_CUM [j]
  (s.tkSend j (.ack cum (s.get F.FAB_TRK_STAT_XOFF_TX [j]))).tkUp j (fun x => { x with cumSent := cum })

/-! ### Loss of members and of the trunk (R298 to R300) -/

/-- Retrain a member that has left (R298 step 4). -/
def State.memReset (s : State) (j i : Nat) : State :=
  ((((s.setMember j i false).dozeEnd (8 * j + i)).lnkUp (fun x => { x with
    dozeAsk := x.dozeAsk.filter (· != 8 * j + i), shortRetrain := x.shortRetrain.filter (· != 8 * j + i) })).tkUp j (fun x => { x with
    hello := x.hello.del i, asked := x.asked.filter (· != i), badFlits := x.badFlits.del i, prevTx := x.prevTx.del i, mq := x.mq.del i,
    mseqTx := x.mseqTx.del i, mseqRx := x.mseqRx.del i })).retrain (8 * j + i)

/-- The trunk is lost (R300, R266): what it holds is dropped, Live tags are answered, the port and every route's vDSP are contained, the
tombstones end with the link, and a worker whose parent trunk it was loses its lock (R328). -/
def State.trunkLost (s : State) (j : Nat) : State :=
  let p := 8 * j
  let held := (s.fwd.trunkq.lookD j []) ++ (s.tk j).copies.map (·.pkt)
  let s1 := ((s.tkUp j (fun x => { nonces := x.nonces + 1 })).fwdUp (fun f => { f with trunkq := f.trunkq.del j })).wr ⟨.FAB_TRK_SEQ, [j]⟩ 0
  let s2 := ((((s1.setB F.FAB_TRK_STAT_UP [j] false).set F.FAB_TRK_STAT_MEMBERS [j] 0).set F.FAB_TRK_STAT_XOFF_RX [j] 0).set
    F.FAB_TRK_STAT_XOFF_TX [j] 0).setB F.FAB_TRK_STAT_TRUNK_LOST [j] true
  let s3 := held.foldl (fun (s : State) (k : Pkt) => s.dropOne false k) (s2.portEvent p 6 1)
  let s4 := (s3.tombLive p (fun _ _ => true)).dropQueued p (fun _ => true)
  let s5 := ((s4.pset F.PT_CONT_CONTAINED p 1).pset F.PT_CONT_C_ROUTE p 1).portEvent p 4 0
  let s6 := s5.fwd.own.foldl (fun (s : State) (e : Nat × Nat × Nat) =>
    if s.get F.VST_SLOT_KIND [e.2.1, e.2.2] = 3 ∧ s.routePort (s.get F.VST_SLOT_TARGET [e.2.1, e.2.2]) = some p then
      s.containVdsp e.2.1 e.2.2 10 else s) s5
  let s7 := (s6.fwdUp (fun f => { f with tags := f.tags.filter (fun e => !(e.1.1 == p && (match e.2 with | .tomb _ => true | _ => false))) })).updTombs p
  let s8 := s7.when (!s7.on F.FAB_DEV_ACTING [] && s7.on F.FAB_TIME_STAT_SYNC [] && s7.get F.FAB_TIME_STAT_PARENT [] == j) (fun s =>
    (s.setB F.FAB_TIME_STAT_SYNC [] false).event .fab 6)
  s8.settled

/-- A member leaves the trunk (R298): `tell` says that this end detected it and sends JOIN LEAVE on another member. Its unacknowledged packets
are resent on the others in TSEQ order; the last member's leave loses the trunk. -/
def State.memberLeave (s : State) (j i : Nat) (tell : Bool) : State :=
  if !(s.get F.FAB_TRK_STAT_MEMBERS [j]).testBit i then s
  else
    let s1 := ((s.memReset j i).portEvent (8 * j) 6 2).declare 6 (8 * j + i)
    if (s1.members j).isEmpty then s1.trunkLost j
    else
      let s2 := s1.when tell (·.tkSend j (.join i 1))
      let lost := (s2.tk j).copies.filter (fun c => c.mem == i)
      (lost.foldl (fun (s : State) (c : KCopy) => s.resendCopy j c.tseq) s2).trunkPump j

/-! ### Bring-up (R282 to R284) -/

/-- The own NONCE in use on a trunk. -/
def State.ownNonce (s : State) (j : Nat) : Nat := (Config.nonce j (s.tk j).nonces).toNat

/-- Send a HELLO on a member (R280, R282, R313). -/
def State.sendHello (s : State) (j i : Nat) : State :=
  (s.emit (.kfp (8 * j + i) (.hello {
    verMin := if s.on F.FAB_TRK_CFG_OFFER_10 [j] then 0 else 1, device := s.get F.FAB_DEV_NUM [], trunkPort := 8 * j, member := i,
    width := s.portWidth (8 * j + i), nonce := s.ownNonce j, up := s.tkOn j }))).touch (8 * j + i)

/-- May a trunk's member take part in bring-up: the trunk enabled on a device with a fabric role, the port a KFP port in L0 (R282, R309)? -/
def State.canJoin (s : State) (j i : Nat) : Bool :=
  s.on F.FAB_TRK_CFG_EN [j] && s.get F.FAB_DEV_ROLE [] != 0 && s.role (8 * j + i) == 2 && decide (s.portWidth (8 * j + i) ≠ 0) && s.inL0 (8 * j + i)

/-- Do the KFP ports of the pair differ in width (R272)? -/
def State.widthsDiffer (s : State) (j : Nat) : Bool :=
  match s.kfpPorts j with
  | [] => false
  | i :: l => l.any (fun k => s.portWidth (8 * j + k) != s.portWidth (8 * j + i))

/-- PRESENT of a trunk (FAB_TRK_STAT), kept at the ports that have the KFP role. -/
def State.updPresent (s : State) (j : Nat) : State :=
  s.set F.FAB_TRK_STAT_PRESENT [j] ((s.kfpPorts j).foldl (fun (v i : Nat) => v + 1 <<< i) 0)

/-- A member enters the spray set (R282 step 5); a part that was declared failed with its leave is in service again. -/
def State.memberJoin (s : State) (j i : Nat) : State :=
  let s1 := (s.setMember j i true).portEvent (8 * j) 6 3
  { s1 with flt := { s1.flt with failed := s1.flt.failed.filter (· != (6, 8 * j + i)) } }.tkUp j (fun x => { x with asked := x.asked.filter (· != i) })

/-- The trunk comes up with its first member (R282 step 4): TSEQ, CUM and the unacknowledged count restart at 0. -/
def State.trunkUp (s : State) (j i ver : Nat) : State :=
  let s1 := (s.tkUp j (fun x => { nonces := x.nonces, hello := x.hello, peer := x.peer })).wr ⟨.FAB_TRK_SEQ, [j]⟩ 0
  let s2 := (((s1.setB F.FAB_TRK_STAT_UP [j] true).set F.FAB_TRK_STAT_VER_MIN [j] ver).set F.FAB_TRK_STAT_MEMBERS [j] 0).memberJoin j i
  let s3 := ((s2.pset F.PT_CONT_CONTAINED (8 * j) 0).pset F.PT_CONT_C_ROUTE (8 * j) 0).portEvent (8 * j) 6 0
  s3.schedule (8 * j)

/-- The minor version that both ends run: the lower of the two offered (R283). -/
def State.agreed (s : State) (j : Nat) (h : Hello) : Nat := min (if s.on F.FAB_TRK_CFG_OFFER_10 [j] then 0 else 1) h.verMin

/-- A member completes step 3 of R282: the leading end brings the trunk up or waits for the request of the following end; the following end
asks for each further member. -/
def State.step3Done (s : State) (j i : Nat) (h : Hello) : State :=
  let lead := decide (s.ownNonce j < h.nonce)
  if s.tkOn j then
    if lead then s else (s.emit (.kfp (8 * j + i) (.join i 2))).tkUp j (fun x => { x with asked := addNew x.asked i })
  else if lead ∧ ¬ s.widthsDiffer j then ((s.emit (.kfp (8 * j + i) (.join i 0))).trunkUp j i (s.agreed j h)).trunkPump j
  else s

/-- Keep a member out for its version, or its partner's device or trunk (R283, R284). -/
def State.verFail (s : State) (j : Nat) : State := (s.setB F.FAB_TRK_STAT_VER_FAIL [j] true).portEvent (8 * j) 6 4
def State.peerBad (s : State) (j : Nat) : State := (s.setB F.FAB_TRK_STAT_PEER_MISMATCH [j] true).portEvent (8 * j) 6 5

/-- A HELLO arrives on a member (R282 to R284, R313). -/
def State.helloIn (s0 : State) (j i : Nat) (h : Hello) : State :=
  let s := s0.touch (8 * j + i)
  if !s.canJoin j i then s
  else if (s.get F.FAB_TRK_STAT_MEMBERS [j]).testBit i then
    (s.tkUp j (fun x => { x with hello := x.hello.put i h, peer := some (h.device, h.trunkPort) })).set F.FAB_TRK_STAT_PEER_DEV [j] h.device
  else if h.verMaj ≠ 1 then s.verFail j
  else if s.widthsDiffer j then (s.setB F.FAB_TRK_STAT_WIDTH_MISMATCH [j] true).portEvent (8 * j) 6 6
  else if h.nonce = s.ownNonce j then (s.tkUp j (fun x => { x with nonces := x.nonces + 1, hello := [] })).sendHello j i
  else if (match (s.tk j).peer with | some pr => decide (pr ≠ (h.device, h.trunkPort)) && (s.tkOn j || (s.tk j).hello.any (fun e => e.1 != i)) | none => false) then
    s.peerBad j
  else if s.tkOn j ∧ s.agreed j h ≠ s.get F.FAB_TRK_STAT_VER_MIN [j] then s.verFail j
  else
    let known := decide ((s.tk j).hello.look i = some h)
    let s1 := (s.tkUp j (fun x => { x with hello := x.hello.put i h, peer := some (h.device, h.trunkPort) })).set F.FAB_TRK_STAT_PEER_DEV [j] h.device
    if known then s1 else (s1.sendHello j i).step3Done j i h

/-- JOIN ACCEPT arrives (R282 steps 4 and 5). -/
def State.joinAccept (s : State) (j i : Nat) : State :=
  match (s.tk j).hello.look i with
  | none => s
  | some h =>
    if !s.canJoin j i || (s.get F.FAB_TRK_STAT_MEMBERS [j]).testBit i then s
    else if s.tkOn j then (s.memberJoin j i).trunkPump j
    else if s.ownNonce j < h.nonce then s
    else ((s.trunkUp j i (s.agreed j h)).trunkPump j)

/-- JOIN REQUEST arrives: the leading end answers with JOIN ACCEPT (R282 step 5). -/
def State.joinRequest (s : State) (j i : Nat) : State :=
  match (s.tk j).hello.look i with
  | none => s
  | some h =>
    if s.canJoin j i ∧ s.tkOn j ∧ s.ownNonce j < h.nonce then
      let s1 := if (s.get F.FAB_TRK_STAT_MEMBERS [j]).testBit i then s else s.memberJoin j i
      (s1.emit (.kfp (8 * j + i) (.join i 0))).trunkPump j
    else s

/-- Repeat what a member has sent and is unanswered: a JOIN REQUEST, a Doze marker, or else a HELLO (R281, R282). -/
def State.repeatHello (s : State) (j i : Nat) : State :=
  if 8 * j + i ∈ s.lnk.dozeAsk then (s.emit (.kfp (8 * j + i) (.doze i false))).touch (8 * j + i)
  else if !s.canJoin j i || (s.get F.FAB_TRK_STAT_MEMBERS [j]).testBit i then s
  else if i ∈ (s.tk j).asked then s.emit (.kfp (8 * j + i) (.join i 2))
  else s.sendHello j i

/-! ### Receiving (R289 to R292, R296, R318) -/

/-- A refusal of R140 at a trunk. -/
def State.trunkRefuse (s : State) (j : Nat) (t : Tlp) : State := s.refuseWin (8 * j) .nobody t 0 0xFF

/-- Where a request from another device goes at its own device (R318): a PCIe port that is not shared; the upstream port of a virtual switch
only from a remote-bound port of it (R140, R330), and a contained vDSP refuses (R262). -/
def State.fromTrunk (s : State) (T : FwdTable) (egress : Nat) (k : KData) : Route :=
  let base : Dec := { egress := egress, sc := k.sc, gsrc := some k.src, mark := k.mark, tlp := k.tlp }
  if 144 ≤ egress ∨ s.portWidth egress = 0 ∨ s.role egress = 2 ∨ s.shared egress then .refuse 0 0xFF
  else
    match T.vsOf egress with
    | some v =>
      match T.boundTo 3 k.src with
      | some (x, v', sl) =>
        if v' ≠ v then .refuse 0 0xFF
        else if s.contained v sl then .refuseContained x
        else if T.acsRefuses v sl false k.tlp ∧ k.kind = 1 then .refuse 3 0xFF
        else .fwd { base with vdsp := x }
      | none => .refuse 0 0xFF
    | none =>
      match T.boundTo 1 egress with
      | some (x, v, sl) => if s.contained v sl then .refuseContained x else .fwd { base with bvdsp := x }
      | none => .fwd base

/-- The decision for a TLP that arrives on a trunk: its own device's port, or the route toward the DST_GPID's device (R318). -/
def State.routeTrunk (s : State) (T : FwdTable) (k : KData) : Route :=
  if k.dst / 256 = s.get F.FAB_DEV_NUM [] then s.fromTrunk T (k.dst % 256) k
  else
    match s.routePort k.dst with
    | some p => .fwd { egress := p, sc := k.sc, gsrc := some k.src, mark := k.mark, dst := k.dst, tlp := k.tlp }
    | none => .refuse 0 0xFF

/-- A TLP released by the trunk is processed as one that arrives on port 8j (R18, R290, R318). -/
def State.trunkIn (s0 : State) (j : Nat) (k : KData) (pick : Nat) : State :=
  let p := 8 * j
  let s := s0.countRecv p k.tlp
  if k.tlp.malformed then ((s.portCount p 18).portEvent p 1 3).freeCredit p k.tlp
  else
    let s1 := s.when k.tlp.poison (fun (s : State) => (s.portCount p 16).portEvent p 1 2)
    if k.kind = 2 then s1.cplArrive p .nobody k.tlp false k.mark (some k.src)
    else
      match s1.routeTrunk (s1.tableOf (p / 4)) k with
      | .fwd d => s1.decided p .nobody k.tlp d pick 0
      | .refuseContained _ => (s1.portCount p 23).refuse p .nobody k.tlp 1
      | .refuse c e => s1.refuseWin p .nobody k.tlp c e
      | _ => s1.trunkRefuse j k.tlp

/-- Release the stored packets in TSEQ order up to the first gap (R290). A mark travels with the TLP. -/
def State.releaseStore (s : State) (j pick : Nat) : Nat → State
  | 0 => s
  | n + 1 =>
    let cum := s.get F.FAB_TRK_SEQ_RX_CUM [j]
    match (s.tk j).store.look cum with
    | none => s
    | some k =>
      let s1 := ((s.tkUp j (fun x => { x with store := x.store.del cum, naks := x.naks.filter (· != cum), cumAt := s.now })).set F.FAB_TRK_SEQ_RX_CUM [j]
        ((cum + 1) % 65536))
      (if k.stomp = 1 then s1 else s1.trunkIn j k pick).releaseStore j pick n

/-- NAK_OUT: the reserved slots in use. -/
def State.updNakOut (s : State) (j : Nat) : State := s.set F.FAB_TRK_SEQ_NAK_OUT [j] (min 15 (s.tk j).naks.length)

/-- Slots of the resend reserve (R293). -/
def State.slots (s : State) (j : Nat) : Nat := s.trunkLanes j * 4096 / 4160

/-- The value under which a member sequence number holds a slot (KFP 1.0). -/
def slot10 (i m : Nat) : Nat := 65536 * (i + 1) + m

/-- Reserve slots for missing values and send a NAK for those that got one, at most four to a packet (R291). `val` gives the value that a NAK
names. -/
def State.nak (s : State) (j i : Nat) (keys : List Nat) (val : Nat → Nat) : State :=
  let got := keys.foldl (fun (l : List Nat) (k : Nat) =>
    if k ∈ (s.tk j).naks ∨ k ∈ l ∨ s.slots j ≤ (s.tk j).naks.length + l.length then l else l ++ [k]) []
  if got.isEmpty then s
  else
    let s1 := (s.tkUp j (fun x => { x with naks := x.naks ++ got })).updNakOut j
    let cum := s1.get F.FAB_TRK_SEQ_RX_CUM [j]
    (List.range ((got.length + 3) / 4)).foldl (fun (s : State) (b : Nat) =>
      (s.trunkCount j 2).tkSend j (.nak cum i (((got.drop (4 * b)).take 4).map val))) s1

/-- The numbers from `a` up to `b`, modulo 2^16, at most `n`. -/
def seqFrom (a b : Nat) : Nat → List Nat
  | 0 => []
  | n + 1 => if a = b then [] else a :: seqFrom ((a + 1) % 65536) b n

/-- The gaps that a good packet shows (R285, R291): KFP 1.1 names PREV and the bad packets kept for the next NAK; KFP 1.0 names the member
sequence numbers before this one. -/
def State.gaps (s : State) (j i : Nat) (k : KData) : State :=
  if s.kfp10 j then
    if k.resend ∨ ¬ k.prevV then s
    else
      let e := (s.tk j).mseqRx.lookD i k.prev
      let miss := if passed e k.prev then [] else seqFrom e k.prev 32
      (s.tkUp j (fun x => { x with mseqRx := x.mseqRx.put i ((k.prev + 1) % 65536) })).nak j i (miss.map (slot10 i)) (· % 65536)
  else
    let cum := s.get F.FAB_TRK_SEQ_RX_CUM [j]
    let new := fun (q : Nat) => !passed cum q && ((s.tk j).store.look q).isNone && q != k.tseq
    if k.prevV ∧ new k.prev then
      (s.tkUp j (fun x => { x with bad := [] })).nak j i ([k.prev] ++ ((s.tk j).bad.filter (fun q => new q && q != k.prev))) id
    else s

/-- Room for a new packet: its reserved slot, or its class region (R292, R296). -/
def State.rxRoom (s : State) (j i : Nat) (k : KData) : Bool :=
  let key := if s.kfp10 j then slot10 i k.prev else k.tseq
  (s.tk j).naks.contains key || k.stomp == 1 || decide (s.rxOcc j k.sc + kBytes k.tlp ≤ rxUnits k.sc * 256 * s.trunkLanes j)

/-- A data packet arrives on member `i` (R278, R289 to R292, R296). -/
def State.dataIn (s0 : State) (j i : Nat) (k : KData) (pick : Nat) : State :=
  if !s0.tkOn j || !(s0.get F.FAB_TRK_STAT_MEMBERS [j]).testBit i then s0
  else
    let s := s0.touch (8 * j + i)
    if ¬ k.good ∨ 2 ≤ k.stomp then s.tkUp j (fun x => { x with bad := addNew x.bad k.tseq })
    else
      let s1 := (s.ackTo j k.ack).gaps j i k
      let cum := s1.get F.FAB_TRK_SEQ_RX_CUM [j]
      let s2 :=
        if passed cum k.tseq ∨ ((s1.tk j).store.look k.tseq).isSome then s1.trunkCount j 4
        else if !s1.rxRoom j i k then (s1.trunkCount j 5).portEvent (8 * j) 6 7
        else
          let key := if s1.kfp10 j then slot10 i k.prev else k.tseq
          (s1.tkUp j (fun x => { x with store := x.store.put k.tseq k, naks := x.naks.filter (· != key) })).releaseStore j pick 65536
      ((((s2.updNakOut j).tkFc j).schedule (8 * j)).trunkPump j).settled

/-- An ACK arrives: CUM, and the XOFF state (R290, R294). -/
def State.ackIn (s : State) (j i cum xoff : Nat) : State :=
  if s.tkOn j ∧ (s.get F.FAB_TRK_STAT_MEMBERS [j]).testBit i then
    ((((s.touch (8 * j + i)).ackTo j cum).set F.FAB_TRK_STAT_XOFF_RX [j] xoff).schedule (8 * j)).trunkPump j
  else s

/-- A NAK arrives: CUM, then the resend of the named packets in TSEQ order (R286, R291). -/
def State.nakIn (s : State) (j i cum mem : Nat) (vals : List Nat) : State :=
  if s.tkOn j ∧ (s.get F.FAB_TRK_STAT_MEMBERS [j]).testBit i then
    let s1 := (((s.touch (8 * j + i)).ackTo j cum).trunkCount j 3)
    let named := (s1.tk j).copies.filter (fun c => if s1.kfp10 j then c.mem == mem && vals.contains c.mseq else vals.contains c.tseq)
    (named.foldl (fun (s : State) (c : KCopy) => s.resendCopy j c.tseq) s1).trunkPump j
  else s

/-- An FC arrives (R294). -/
def State.fcIn (s : State) (j i xoff : Nat) : State :=
  if s.tkOn j ∧ (s.get F.FAB_TRK_STAT_MEMBERS [j]).testBit i then
    (((s.touch (8 * j + i)).set F.FAB_TRK_STAT_XOFF_RX [j] xoff).schedule (8 * j)).trunkPump j
  else s

/-! ### Echoes (R306, R307, R335, R445) -/

/-- Discard and count an echo at a trunk. -/
def State.trunkEchoLost (s : State) (j : Nat) : State := s.trunkCount j 7

/-- Discard and count an echo at a port's tile. -/
def State.portEchoLost (s : State) (p : Nat) : State := (s.portCount p 22).portEvent p 5 1

/-- The ingress shaper of an upstream port's virtual switch takes an echo, if it may (R445). -/
def State.echoPort (s : State) (p sc : Nat) : State :=
  match s.vsOfPort p with
  | some v => if s.shTakes (576 + 4 * v + sc) then s.shEcho (576 + 4 * v + sc) else s.portEchoLost p
  | none => s.portEchoLost p

/-- Send an ECHO on trunk `j` toward a GPID; a KFP 1.0 trunk, or one that is down, carries none. -/
def State.sendEcho (s : State) (j lossAt sc gpid count : Nat) : State :=
  if s.tkOn j ∧ ¬ s.kfp10 j then s.tkSend j (.echo sc gpid count) else s.trunkEchoLost lossAt

/-- An ECHO arrives on a trunk: it is delivered here or forwarded by the route table (R306, R335). -/
def State.echoIn (s : State) (j sc gpid count : Nat) : State :=
  if !s.tkOn j then s
  else if gpid / 256 = s.get F.FAB_DEV_NUM [] then (if gpid % 256 < 144 then s.echoPort (gpid % 256) sc else s.trunkEchoLost j)
  else
    match s.routePort gpid with
    | some p => s.sendEcho (p / 8) j sc gpid count
    | none => s.trunkEchoLost j

/-- A congestion echo reaches its source station (R445): it resolves to the ingress shaper of an upstream port, across the trunk to the entry
port of the held copy, or to the instance shaper of a Mule cluster's held copy; otherwise it is discarded and counted. -/
def State.echoResolve (s : State) (src egress sc q count : Nat) : State :=
  if 160 ≤ src then s
  else if 144 ≤ src then
    match s.heldOf (src, egress, sc) q with
    | some p =>
      match (List.range 1072).find? (fun i => s.get F.DM_ID_INST [i] == (p.tlp?.map (·.rid)).getD 0) with
      | some i => if s.shTakes (768 + i) then s.shEcho (768 + i) else s
      | none => s
    | none => s
  else if s.isTrunk src then
    match s.heldOf (src, egress, sc) q with
    | some p => s.sendEcho (src / 8) (src / 8) sc (s.srcGpid p) count
    | none => s.trunkEchoLost (src / 8)
  else s.echoPort src sc

/-- CONGESTION_ECHO (R445). -/
def execCongestionEcho (x : Fin 80) (s : State) : Host.Outcome State Fault Refusal :=
  s.live (fun s =>
    match s.popMsg x.val (fun m => match m with | .echo _ _ _ _ _ => true | _ => false) with
    | some (.echo a e c q n, s1) => s1.echoResolve a e c q n
    | _ => s)

/-! ### The commands of a trunk -/

/-- DOZE_IDLE_TIMEOUT (R51, R302): a member other than the anchor that has been idle for IDLE_TIME (above 1,000 acts as 1,000) sends its marker. -/
def execDozeIdleTimeout (port : Fin 144) (s : State) : Host.Outcome State Fault Refusal :=
  s.live (fun s =>
    let p := port.val
    let j := p / 8
    let t := min 1000 (s.get F.PT_DOZE_IDLE_TIME [p / 4, p % 4])
    if 0 < t ∧ s.awake j (p % 8) ∧ s.anchor j ≠ some (p % 8) ∧ p ∉ s.lnk.dozeAsk ∧ s.memQueued j (p % 8) = 0 ∧
        s.lnk.lastTlp.lookD p 0 + t * 1000 ≤ s.now then
      (s.lnkUp (fun x => { x with dozeAsk := addNew x.dozeAsk p })).emit (.kfp p (.doze (p % 8) false))
    else s)

/-- A port enters Doze (R51). -/
def State.dozeEnter (s : State) (p : Nat) : State :=
  ((s.lnkUp (fun x => { x with doze := x.doze.put p s.now, dozeAsk := x.dozeAsk.filter (· != p) })).dozeLanes p true).trunkCount (p / 8) 11

/-- DOZE_MARKER (R51, R301): the partner's marker is answered unless the port is the anchor or has bytes to send; the marker or the reply that
a port has waited for lets it enter. -/
def execDozeMarker (port : Fin 144) (reply : Bool) (s : State) : Host.Outcome State Fault Refusal :=
  s.live (fun s =>
    let p := port.val
    let j := p / 8
    if !s.awake j (p % 8) then s
    else if p ∈ s.lnk.dozeAsk then (s.when (!reply) (·.emit (.kfp p (.doze (p % 8) true)))).dozeEnter p
    else if reply ∨ s.anchor j = some (p % 8) ∨ s.memQueued j (p % 8) ≠ 0 then s
    else (s.emit (.kfp p (.doze (p % 8) true))).dozeEnter p)

/-- WAKE_BURST (R52, R53): either end brings the port back to data; both at once complete once. A short retrain replaces it under R54. -/
def execWakeBurst (port : Fin 144) (mine : Bool) (s : State) : Host.Outcome State Fault Refusal :=
  s.live (fun s =>
    let p := port.val
    (if mine then s.wake p
     else if (s.lnk.doze.look p).isSome then (s.dozeEnd p).touch p
     else s.lnkUp (fun x => { x with dozeAsk := x.dozeAsk.filter (· != p) })).trunkPump (p / 8))

/-- DOZE_MAX_TIME (R54). -/
def execDozeMaxTime (port : Fin 144) (s : State) : Host.Outcome State Fault Refusal :=
  s.live (fun s => if (s.lnk.doze.look port.val).isSome ∧ s.dozeLate port.val then s.shortRetrain port.val else s)

/-- SHORT_RETRAIN_DONE (R54). -/
def execShortRetrainDone (port : Fin 144) (s : State) : Host.Outcome State Fault Refusal :=
  s.live (fun s =>
    if port.val ∈ s.lnk.shortRetrain then
      ((s.lnkUp (fun x => { x with shortRetrain := x.shortRetrain.filter (· != port.val) })).touch port.val).trunkPump (port.val / 8)
    else s)

/-- KFP_FLIT_RECEIVED (R276, R281, R298): a flit that fails is discarded and counted, and eight in a row take the member out; a reserved TYPE in a
good flit is counted. The packets of a good flit are commands of their own. -/
def execKfpFlitReceived (port : Fin 144) (good badType : Bool) (s : State) : Host.Outcome State Fault Refusal :=
  s.live (fun s =>
    let p := port.val
    let j := p / 8
    if s.role p ≠ 2 ∨ ¬ s.inL0 p then s
    else if good then
      (s.tkUp j (fun x => { x with badFlits := x.badFlits.del (p % 8) })).when badType (·.trunkCount j 10)
    else
      let n := (s.tk j).badFlits.lookD (p % 8) 0 + 1
      let s1 := (s.tkUp j (fun x => { x with badFlits := x.badFlits.put (p % 8) n })).trunkCount j 8
      match s1.leakyEvent 0 (p / 4) (p % 4) with
      | (s2, lasting) => if n = 8 ∨ lasting then s2.memberLeave j (p % 8) true else s2)

/-- KFP_DATA_PACKET (R278, R289). -/
def execKfpDataPacket (port : Fin 144) (k : KData) (pick : Fin 16384) (s : State) : Host.Outcome State Fault Refusal :=
  s.live (·.dataIn (port.val / 8) (port.val % 8) k pick.val)

/-- KFP_ACK (R280, R290). -/
def execKfpAck (port : Fin 144) (cum : W16) (xoff : Fin 16) (s : State) : Host.Outcome State Fault Refusal :=
  s.live (·.ackIn (port.val / 8) (port.val % 8) cum.toNat xoff.val)

/-- KFP_NAK (R280, R291). -/
def execKfpNak (port : Fin 144) (cum : W16) (mem : Fin 8) (vals : List W16) (s : State) : Host.Outcome State Fault Refusal :=
  s.live (·.nakIn (port.val / 8) (port.val % 8) cum.toNat mem.val ((vals.take 4).map (·.toNat)))

/-- KFP_FC (R280, R294). -/
def execKfpFc (port : Fin 144) (xoff : Fin 16) (s : State) : Host.Outcome State Fault Refusal :=
  s.live (·.fcIn (port.val / 8) (port.val % 8) xoff.val)

/-- KFP_ECHO (R280, R306). -/
def execKfpEcho (port : Fin 144) (sc : Fin 4) (gpid : Fin 16384) (count : Fin 256) (s : State) : Host.Outcome State Fault Refusal :=
  s.live (·.echoIn (port.val / 8) sc.val gpid.val count.val)

/-- KFP_HELLO (R280, R282). -/
def execKfpHello (port : Fin 144) (h : Hello) (s : State) : Host.Outcome State Fault Refusal :=
  s.live (·.helloIn (port.val / 8) (port.val % 8) h)

/-- HELLO_REPEAT (R281, R282). -/
def execHelloRepeat (port : Fin 144) (s : State) : Host.Outcome State Fault Refusal :=
  s.live (·.repeatHello (port.val / 8) (port.val % 8))

/-- KFP_JOIN_ACCEPT (R282). -/
def execKfpJoinAccept (port : Fin 144) (s : State) : Host.Outcome State Fault Refusal :=
  s.live (·.joinAccept (port.val / 8) (port.val % 8))

/-- KFP_JOIN_REQUEST (R282). -/
def execKfpJoinRequest (port : Fin 144) (s : State) : Host.Outcome State Fault Refusal :=
  s.live (·.joinRequest (port.val / 8) (port.val % 8))

/-- The own member that a partner's member index means, by its HELLO. -/
def State.ownMember (s : State) (j mem : Nat) : Nat :=
  match (s.tk j).hello.find? (fun e => e.2.member == mem && (s.get F.FAB_TRK_STAT_MEMBERS [j]).testBit e.1) with
  | some e => e.1
  | none => mem

/-- KFP_JOIN_LEAVE (R298). -/
def execKfpJoinLeave (port : Fin 144) (mem : Fin 8) (s : State) : Host.Outcome State Fault Refusal :=
  s.live (fun s => s.memberLeave (port.val / 8) (s.ownMember (port.val / 8) mem.val) false)

/-- MEMBER_LEAVE (R298). -/
def execMemberLeave (port : Fin 144) (s : State) : Host.Outcome State Fault Refusal :=
  s.live (·.memberLeave (port.val / 8) (port.val % 8) true)

/-- RTO in ns and RETRY_MAX; 0 acts as 1 (FAB_TRK_CFG). -/
def State.rtoNs (s : State) (j : Nat) : Nat := max 1 (s.get F.FAB_TRK_CFG_RTO [j]) * 1000
def State.retryMax (s : State) (j : Nat) : Nat := max 1 (s.get F.FAB_TRK_CFG_RETRY_MAX [j])

/-- RESEND_TIMEOUT (R288). -/
def execResendTimeout (j : Fin 18) (tseq : W16) (s : State) : Host.Outcome State Fault Refusal :=
  s.live (fun s =>
    match (s.tk j.val).copies.find? (fun c => c.tseq == tseq.toNat) with
    | some c =>
      if s.now < c.at_ + s.rtoNs j.val then s
      else if s.retryMax j.val ≤ c.tries then s.trunkLost j.val
      else s.resendCopy j.val c.tseq
    | none => s)

/-- ACK_IDLE_TIMEOUT (R290): CUM has advanced and nothing has carried it for ACK_IDLE (below 16 acts as 16). -/
def execAckIdleTimeout (j : Fin 18) (s : State) : Host.Outcome State Fault Refusal :=
  s.live (fun s =>
    if s.tkOn j.val ∧ (s.tk j.val).cumSent ≠ s.get F.FAB_TRK_SEQ_RX_CUM [j.val] ∧
        (s.tk j.val).cumAt + max 16 (s.get F.FAB_TRK_CFG_ACK_IDLE [j.val]) ≤ s.now then s.sendAck j.val
    else s)

/-- TRUNK_LOST (R300): a trunk that is up loses its last member. -/
def execTrunkLost (j : Fin 18) (s : State) : Host.Outcome State Fault Refusal :=
  s.live (fun s => if s.tkOn j.val then (s.members j.val).foldl (fun (s : State) (i : Nat) => s.memberLeave j.val i false) s else s)

/-- A write of FAB_TRK_FC: refused as a whole if an XON is at or above its XOFF or an XOFF above its region (R294). -/
def State.fcWrite (s : State) (j : Nat) (v : W64) : State :=
  if (List.range 4).any (fun c => decide (fget v (16 * c) 8 ≤ fget v (16 * c + 8) 8) || decide (rxUnits c < fget v (16 * c) 8)) then
    (s.setB F.FAB_TRK_STAT_FC_REFUSED [j] true).portEvent (8 * j) 6 9
  else (s.writeTyped ⟨.FAB_TRK_FC, [j]⟩ false v).tkFc j

/-- FAB_TRK_FC_WRITE (R294). -/
def execFabTrkFcWrite (who : Init) (j : Fin 18) (v : W64) (s : State) : Host.Outcome State Fault Refusal :=
  s.live (fun s => s.writeReg who ⟨.FAB_TRK_FC, [j.val]⟩ 8 (·.fcWrite j.val v))

/-- A write of FAB_TRK_CFG (R282, R309): on a standalone device a write with EN = 1 is ignored; EN set starts the HELLOs; EN cleared takes every
member out. -/
def State.trkCfg (s : State) (j : Nat) (v : W64) : State :=
  if s.get F.FAB_DEV_ROLE [] = 0 ∧ v.getLsbD 0 then (s.setB F.FAB_DEV_REFUSED [] true).event .fab 8
  else
    let was := s.on F.FAB_TRK_CFG_EN [j]
    let s1 := s.writeTyped ⟨.FAB_TRK_CFG, [j]⟩ false v
    if v.getLsbD 0 ∧ ¬ was then (s1.kfpPorts j).foldl (fun (s : State) (i : Nat) => if s.canJoin j i then s.sendHello j i else s) (s1.updPresent j)
    else if was ∧ ¬ v.getLsbD 0 then (s1.members j).foldl (fun (s : State) (i : Nat) => s.memberLeave j i true) s1
    else s1

/-- FAB_TRK_CFG_WRITE (R309). -/
def execFabTrkCfgWrite (who : Init) (j : Fin 18) (v : W32) (s : State) : Host.Outcome State Fault Refusal :=
  s.live (fun s => s.writeReg who ⟨.FAB_TRK_CFG, [j.val]⟩ 4 (·.trkCfg j.val (v.zeroExtend 64)))

end Sys2Proof.Machine
end

