-- ==== Sys2Proof/Machine/Links.lean ====
section
/-!
DEFINITION. Operations on the link of a port that the port commands, the bindings and the resets share: slot power and Link Disable (R109, R116, R330), GPIO
claims and PERST# outputs (R89, R99), store-and-forward (R73, R162), links that go down and come up (R67, R74 to R81, R124, R265), and the host's view of a
slot (VST_SLOT).
-/

namespace Sys2Proof.Machine

/-! ### Whether a port may train -/

/-- The vDSP that has a port as its physical binding. -/
def State.portBinding (s : State) (p : Nat) : Option (Nat × Nat) := (s.snap.boundTo 1 p).map (fun e => e.2)

/-- Is the slot power of a port off: by the host of its binding (R116), or by a port control message (R330)? -/
def State.powerOffAt (s : State) (p : Nat) : Bool :=
  s.lnk.remoteOff.contains (p, 0) || (match s.portBinding p with
    | some (v, sl) => s.cf (.vdsp v sl) .slotPower == 1
    | none => false)

/-- Is a port held down by slot power or Link Disable of the vDSP that it is bound to (R109, R116, R330)? -/
def State.portOff (s : State) (p : Nat) : Bool :=
  s.powerOffAt p || s.lnk.remoteOff.contains (p, 1) || (match s.portBinding p with
    | some (v, sl) => s.cf (.vdsp v sl) .linkDisable == 1
    | none => false)

/-- Is a PERST_IN_N input that the port follows asserted (R88)? -/
def State.perstHeld (s : State) (p : Nat) : Bool :=
  s.role p == 0 && s.pon F.PP_RST_PERST_IN_EN p && s.lnk.perstIn.contains (s.pget F.PP_RST_PERST_IN_SEL p)

/-- The state of a link that is not up: Disabled, Contained or Detect (R67, R116, R262). -/
def State.restState (s : State) (p : Nat) : Nat :=
  if !s.pon F.PP_CTL_ENABLE p || decide (s.portWidth p = 0) then 0
  else if s.pon F.PT_CONT_C_VDSP p then 9
  else if s.portOff p then 0 else 1

/-- Bring the link state of a port that is not up in line with what holds it down. -/
def State.portRest (s : State) (p : Nat) : State :=
  let st := s.pget F.PP_STAT_LINK_STATE p
  let r := s.restState p
  if r = 1 then (if st = 0 ∨ st = 9 then s.pset F.PP_STAT_LINK_STATE p 1 else s)
  else if st = r then s else s.linkGone p r

/-! ### GPIO claims and PERST# outputs (R89, R99) -/

/-- The GPIO that a port names as its CLKREQ# (R99). -/
def State.clkreqGpio (s : State) (p : Nat) : Option Nat :=
  let g := s.pget F.PP_PM_CLKREQ_GPIO p
  if g < 64 then some g else none

/-- The GPIO that a port names as its PERST# output (R99). -/
def State.perstGpio (s : State) (p : Nat) : Option Nat :=
  if s.pget F.PP_CTL_ROLE p = 1 ∧ s.pon F.PP_RST_PERST_OUT_EN p then some (s.pget F.PP_RST_PERST_OUT_GPIO p) else none

/-- The GPIO that a port names, as its PERST# output (`k`) or its CLKREQ#. -/
def State.gpioOf (s : State) (p : Nat) (k : Bool) : Option Nat := if k then s.perstGpio p else s.clkreqGpio p

/-- PP_STAT.CFG_REFUSED with its event (R66, R99, R226). -/
def State.cfgRefused (s : State) (p : Nat) : State := (s.pset F.PP_STAT_CFG_REFUSED p 1).portEvent p 0 3

/-- Does a port drive a GPIO: it names one and has not been displaced (R99)? -/
def State.drives (s : State) (p : Nat) (k : Bool) : Bool := (s.gpioOf p k).isSome && !s.lnk.displaced.contains (p, k)

/-- HOLD of a PERST# output in ns: below 100 µs acts as 100 µs (R89). -/
def State.perstHoldNs (s : State) (p : Nat) : Nat := max 100 (s.pget F.PP_RST_HOLD p) * 1000

/-- Does the port assert its PERST# output (R89, R116)? -/
def State.perstWanted (s : State) (p : Nat) : Bool :=
  s.drives p true && (!s.pon F.PP_CTL_ENABLE p || s.pon F.PP_RST_PERST_ASSERT p || s.powerOffAt p)

/-- Assert the PERST# output, or release it once it has lasted its HOLD (R89). -/
def State.updPerst (s : State) (p : Nat) : State :=
  if s.perstWanted p then
    (if (s.lnk.perstOut.look p).isSome then s else s.lnkUp (fun x => { x with perstOut := x.perstOut.put p s.now }))
  else
    match s.lnk.perstOut.look p with
    | some t => if t + s.perstHoldNs p ≤ s.now ∨ s.drives p true = false then s.lnkUp (fun x => { x with perstOut := x.perstOut.del p }) else s
    | none => s

/-- Is a port's PERST# output low on its pin: asserted, or the device in the safe state (R89)? -/
def State.perstLow (s : State) (p : Nat) : Bool := (s.lnk.perstOut.look p).isSome || (s.sealed && s.drives p true)

/-- A port comes to name a GPIO: any other naming of it is displaced, and the displaced port sets CFG_REFUSED (R99). -/
def State.claim (s : State) (p : Nat) (k : Bool) : State :=
  let s0 := s.lnkUp (fun x => { x with displaced := x.displaced.filter (· != (p, k)) })
  match s0.gpioOf p k with
  | none => s0
  | some g =>
    ((List.range 144).flatMap (fun q => [(q, true), (q, false)])).foldl (fun (s : State) (o : Nat × Bool) =>
      if o ≠ (p, k) ∧ s.drives o.1 o.2 = true ∧ s.gpioOf o.1 o.2 = some g then
        ((s.lnkUp (fun x => { x with displaced := addNew x.displaced o })).cfgRefused o.1).updPerst o.1
      else s) s0

/-- A write of PP_PM: the field CLKREQ_GPIO names its GPIO again (R99). -/
def State.ppPm (s : State) (p : Nat) (v : W64) : State :=
  let s1 := s.writeTyped ⟨.PP_PM, [p / 4, p % 4]⟩ false v
  if s1.clkreqGpio p = s.clkreqGpio p ∧ ¬ s.lnk.displaced.contains (p, false) then s1 else s1.claim p false

/-! ### Store-and-forward, tags and credits -/

/-- PP_CTL.SAF: the link mode has no nullification, or FORCE_SAF (R73, R162). -/
def State.updSaf (s : State) (p : Nat) : State :=
  s.pset F.PP_CTL_SAF p (bit (s.pon F.PT_FWD_CTL_FORCE_SAF p || (s.inL0 p && !s.pon F.PP_STAT_FLIT p && s.pon F.PP_STAT_IDE_SECURE p)))

/-- TAG_MODE of a link in L0 (R173). -/
def State.updTagMode (s : State) (p : Nat) : State :=
  s.pset F.PT_FWD_CTL_TAG_MODE p (if s.pon F.PP_STAT_FLIT p then 3 else if s.pon F.PT_FWD_CTL_TAG8 p then 1 else 2)

/-- Headers and data credits per lane of a type (R80). -/
def creditPerLane (ty : Nat) : Nat × Nat := [(32, 1024), (16, 64), (32, 1024)].getD ty (0, 0)

/-- Advertise the credits of the cut width; without Scaled Flow Control a header count is at most 127 and a data count at most 2,047 (R78, R80, R81). -/
def State.advertise (s : State) (p : Nat) (scaled : Bool) : State :=
  (List.range 3).foldl (fun (s : State) (ty : Nat) =>
    let c := creditPerLane ty
    let h := c.1 * s.portWidth p
    let d := c.2 * s.portWidth p
    s.emit (.credits p ty (if scaled then h else min 127 h) (if scaled then d else min 2047 d))) s

/-! ### The host's view of a slot -/

/-- The fields of VST_SLOT and VST_CONT that show what the host has written: slot power, indicators, secondary bus, DPC enable. -/
def State.slotSync (s : State) (v sl : Nat) : State :=
  let fn : FnId := .vdsp v sl
  let ix := [v, sl]
  ((((s.setB F.VST_SLOT_PWR_OFF ix (s.cf fn .slotPower == 1)).set F.VST_SLOT_ATTN_IND ix (s.cf fn .attnInd)).set F.VST_SLOT_PWR_IND ix
    (s.cf fn .pwrInd)).set F.VST_SLOT_SEC_BUS ix (s.cf fn .busSec)).setB F.VST_CONT_DPC_HOST ix (s.cf fn .dpcEnable != 0)

/-- The bindings whose link a port is: its physical binding, or the groups with members on it. -/
def State.boundSlots (s : State) (p : Nat) : List (Nat × Nat) := (s.portBinding p).toList ++ s.vdspsOnShared p

/-- The active number of the trunk route toward a device's management station: messages to that device leave there. -/
def State.tellDev (s : State) (dev : Nat) (m : FMsg) : State := s.emit (.fab dev m)

/-- The status of a remote-bound port's link goes to the device that holds its binding (R330). -/
def State.reportLink (s : State) (p : Nat) : State :=
  match s.fwd.rbound.look p with
  | some g => s.tellDev (g / 256) (.linkReport (s.gpid p) (s.inL0 p) (s.pget F.PP_STAT_RATE p) (s.pget F.PP_STAT_WIDTH p))
  | none => s

/-- The hosts of a port's bindings see its link again (R117, R124). -/
def State.refreshPort (s : State) (p : Nat) : State :=
  ((s.boundSlots p).foldl (fun (s : State) (x : Nat × Nat) => s.refreshDll x.1 x.2) s).reportLink p

/-- The LTR message of an upstream port (R87): the smallest latency tolerance of the devices bound to its virtual switch, less 1 µs, or "no
requirement"; it is sent when the minimum changes. The fields hold the value in ns plus 1, 0 for none. -/
def State.updLtr (s : State) (v : Nat) : State :=
  let l := ((below 32 (fun sl => s.get F.VST_SLOT_KIND [v, sl] != 0)).map (fun sl => s.cf (.vdsp v sl) .ltr)).filter (· != 0)
  let m := match l with
    | [] => 0
    | x :: xs => xs.foldl min x
  if m = s.cf (.up v) .ltrSent then s
  else (s.cfSet (.up v) .ltrSent m).emit (.tlp (s.upPort v) { kind := .msg, code := 0x10, data := if m = 0 then [] else leBytes 8 (m - 1 - 1000) })

/-! ### Links that go down -/

/-- A link goes down by a command, a reset or a lost partner without containment of the port itself: what is queued is dropped and indicated (R260), Live
tags are answered, tombstones end (R258), and its bindings show it. -/
def State.cutLink (s : State) (p next : Nat) : State :=
  let s1 := ((s.tombLive p (fun _ _ => true)).dropQueued p (fun _ => true)).endTombs p
  ((s1.linkGone p next).settled).refreshPort p

/-- A hot reset of the device on a downstream port (R90). -/
def State.hotResetPort (s : State) (p : Nat) : State :=
  let st := s.pget F.PP_STAT_LINK_STATE p
  if decide (3 ≤ st ∧ st ≤ 6) then
    let s1 := (s.emit (.hotReset p)).cutLink p 7
    if s1.shared p then { s1 with vsx := { s1.vsx with reconfig := addNew s1.vsx.reconfig p } } else s1
  else s

/-- The link of a downstream port is lost (R124, R265, R266): containment, and the firmware configures a shared port's hierarchy again (R111). -/
def State.lostDown (s : State) (p next : Nat) : State :=
  let s1 := s.downPort p 5 true
  let s2 := if s1.shared p then { s1 with vsx := { s1.vsx with reconfig := addNew s1.vsx.reconfig p } } else s1
  (s2.linkGone p (if s2.pon F.PT_CONT_C_VDSP p && next != 0 then 9 else next)).refreshPort p

/-! ### Links that come up -/

/-- Retrain from the cut width and RATE_MAX: the cap and the lanes left out by R76 are forgotten (R77). -/
def State.freshTrain (s : State) (p : Nat) : State :=
  let mine := fun (l : Nat × Nat) => s.portOfLane l.1 l.2 == some p
  { s with
    lnk := { s.lnk with rateCap := s.lnk.rateCap.del p, badLanes := s.lnk.badLanes.filter (fun l => !mine l), degraded := s.lnk.degraded.filter (· != p) },
    flt := { s.flt with failed := s.flt.failed.filter (fun x => !(x.1 == 7 && mine (x.2 / 8, x.2 % 8))) } }

/-- The rate that Target Link Speed of a port's vDSP allows (R109): code n + 1 for rate n, 0 while the host has written none. -/
def State.targetRate (s : State) (p : Nat) : Nat :=
  match s.portBinding p with
  | some (v, sl) => let t := s.cf (.vdsp v sl) .targetSpeed; if t = 0 then 6 else t - 1
  | none => 6

/-- May a link train to a rate, width, mode and order (R69, R71, R74, R76)? A KFP port carries flits at 64 or 128 GT/s only (R37, R274). -/
def State.canTrain (s : State) (p rate width : Nat) (flit rev : Bool) : Bool :=
  let st := s.pget F.PP_STAT_LINK_STATE p
  let l := s.lanesOf p
  let use := (if rev then l.reverse else l).take width
  s.pon F.PP_CTL_ENABLE p && !s.portOff p && !s.perstHeld p && !s.pon F.PT_CONT_C_VDSP p && (st == 1 || st == 2 || st == 5 || st == 7) &&
    [1, 2, 4, 8, 16].contains width && decide (width ≤ s.portWidth p) && use.all (fun x => !s.lnk.badLanes.contains x) &&
    decide (rate ≤ s.rateLimit p) && decide (rate ≤ s.targetRate p) &&
    (if s.role p = 2 then flit && decide (5 ≤ rate) else (!flit || s.pon F.PP_CTL_FLIT_EN p) && (flit || decide (rate ≤ 4))) && s.powered (p / 4)

/-- The trained lanes of a port: their rate and order. -/
def State.trainLanes (s : State) (p rate width : Nat) (rev : Bool) : State :=
  let l := s.lanesOf p
  let use := (if rev then l.reverse else l).take width
  l.foldl (fun (s : State) (x : Nat × Nat) =>
    let on := use.contains x
    ((((s.set F.LN_STAT_RATE [x.1, x.2] (if on then rate else 7)).setB F.LN_STAT_REVERSED [x.1, x.2] rev).setB F.LN_STAT_SIGNAL_DET [x.1, x.2] on).setB
      F.LN_STAT_CDR_LOCK [x.1, x.2] on)) s

/-- Each receiver of a port finds its polarity in training, or applies RX_POL_VAL (R41): bit i of `inv` says that the port's lane i is inverted. -/
def State.detectPol (s : State) (p inv : Nat) : State :=
  (s.lanesOf p).zipIdx.foldl (fun (s : State) (x : (Nat × Nat) × Nat) =>
    s.setB F.LN_STAT_RX_POL [x.1.1, x.1.2]
      (if s.on F.LN_CTL_RX_POL_OVR [x.1.1, x.1.2] then s.on F.LN_CTL_RX_POL_VAL [x.1.1, x.1.2] else inv.testBit x.2)) s

/-- A port completes training to L0 (R74, R76, R78): the fields of the link, DEGRADED unless no cause of R76 acted, tags and store-and-forward, credits, and
what waits for the link. A member of a trunk begins its bring-up (R282). -/
def State.linkUp (s : State) (p rate width : Nat) (flit rev scaled : Bool) : State :=
  let new := !decide (s.pget F.PP_STAT_LINK_STATE p = 5)
  let s1 := (((s.pset F.PP_STAT_LINK_STATE p 3).pset F.PP_STAT_RATE p rate).pset F.PP_STAT_WIDTH p width).pset F.PP_STAT_FLIT p (bit flit)
  let s2 := ((s1.pset F.PP_STAT_L0P_WIDTH p width).pset F.PP_STAT_L1_SUB p 0).trainLanes p rate width rev
  let s3 := s2.when (!s.lnk.degraded.contains p) (·.pset F.PP_STAT_DEGRADED p 0)
  let s4 := ((s3.lnkUp (fun x => { x with degraded := x.degraded.filter (· != p), lastTlp := x.lastTlp.put p s.now })).updTagMode p).updSaf p
  let s5 := (s4.when new (fun s => (s.advertise p scaled).portEvent p 0 0)).updUpL0 p
  if s5.role p = 2 then (if s5.canJoin (p / 8) (p % 8) then s5.sendHello (p / 8) (p % 8) else s5)
  else (((s5.when (s5.pon F.PT_CONT_CONTAINED p) (fun s => s.fwdUp (fun f => { f with relWait := addNew f.relWait p }))).releasePort p).refreshPort
    p).schedule p

end Sys2Proof.Machine
end

