-- ==== Sys2Proof/Machine/McrCore.lean ====
section
/-!
DEFINITION. The management command ring's executor (R480 to R490): the layout of command entries, statuses, journal entries, responses, and
the records of running, waiting and parked commands.
-/

namespace Sys2Proof.Machine

/-! ### Statuses (R483) -/

def stOk : Nat := 0x00
def stBadAbi : Nat := 0x01
def stBadOpcode : Nat := 0x02
def stNotPermitted : Nat := 0x03
def stBadField : Nat := 0x04
def stHostIo : Nat := 0x05
def stBadState : Nat := 0x10
def stBadTarget : Nat := 0x11
def stConflict : Nat := 0x12
def stNoResource : Nat := 0x13
def stBusy : Nat := 0x14
def stTimeout : Nat := 0x15
def stAborted : Nat := 0x16
def stBankActive : Nat := 0x17
def stOverlap : Nat := 0x18
def stBadImage : Nat := 0x20
def stAuthFail : Nat := 0x21
def stRollback : Nat := 0x22
def stFuseFail : Nat := 0x23
def stUnreachable : Nat := 0x24

/-! ### Command entries (R480, R484) -/

/-- The opcode of a command (R484). -/
def opCode : McrOp → Nat
  | .nop => 0x00
  | .bankReset _ => 0x01
  | .vsCreate _ _ _ => 0x10
  | .vsDelete _ => 0x11
  | .vsTcmap _ _ => 0x12
  | .bind _ _ _ | .bindGroup _ _ _ | .bindRemote _ _ _ => 0x13
  | .unbind _ _ _ _ => 0x14
  | .errCfg _ _ _ => 0x15
  | .bindRead _ _ _ => 0x16
  | .sharedSet _ _ _ _ _ _ _ => 0x17
  | .sharedClr _ => 0x18
  | .fnCfg _ _ _ _ _ _ => 0x19
  | .dmVf _ _ => 0x1A
  | .winWrite _ _ _ _ _ _ _ _ => 0x20
  | .winSwap => 0x21
  | .gateWrite _ _ _ _ _ _ _ _ _ => 0x22
  | .gateSwap => 0x23
  | .reachSet _ _ _ _ _ _ _ _ => 0x30
  | .reachClear _ => 0x31
  | .progLoad _ _ _ _ => 0x32
  | .progUnload _ => 0x33
  | .shapeSet _ _ _ => 0x34
  | .ideKey _ _ => 0x40
  | .statsSnap _ _ _ _ => 0x50
  | .jnlMirror _ _ _ _ => 0x60
  | .keyFuse _ _ => 0x61
  | .keyRevoke _ _ => 0x62
  | .svnCommit _ _ => 0x63
  | .mgmtRestart => 0x70

/-- The members of a function group as they stand in an entry: port, requester ID, presented function, 4 bytes each from byte 24 on. -/
def memFields : Nat → List (Nat × Nat × Nat) → List (Nat × Nat × Nat)
  | _, [] => []
  | o, m :: ms => (o, 1, m.1) :: (o + 1, 2, m.2.1) :: (o + 3, 1, m.2.2) :: memFields (o + 4) ms

/-- 2-byte values from a byte on. -/
def halfFields : Nat → List Nat → List (Nat × Nat × Nat)
  | _, [] => []
  | o, v :: vs => (o, 2, v) :: halfFields (o + 2) vs

/-- The parameters of a command: first byte, bytes, value (R484). -/
def opFields : McrOp → List (Nat × Nat × Nat)
  | .nop | .winSwap | .gateSwap | .mgmtRestart => []
  | .bankReset k => [(16, 1, k)]
  | .vsCreate v p n => [(16, 1, v), (17, 1, p), (18, 1, n)]
  | .vsDelete v => [(16, 1, v)]
  | .vsTcmap v m => [(16, 1, v), (18, 2, m)]
  | .bind v sl p => [(16, 1, v), (17, 1, sl), (18, 1, 1), (19, 1, 0), (20, 1, p)]
  | .bindGroup v sl m => [(16, 1, v), (17, 1, sl), (18, 1, 2), (19, 1, m.length)] ++ memFields 24 m
  | .bindRemote v sl g => [(16, 1, v), (17, 1, sl), (18, 1, 3), (19, 1, 0), (20, 2, g)]
  | .unbind v sl m w => [(16, 1, v), (17, 1, sl), (18, 1, m), (19, 1, w)]
  | .errCfg v sl b => [(16, 1, v), (17, 1, sl), (18, 1, b)]
  | .bindRead v sl b => [(16, 1, v), (17, 1, sl), (24, 8, b)]
  | .sharedSet p b m r ba li n => [(16, 1, p), (17, 1, b), (18, 1, m), (19, 1, r), (24, 8, ba), (32, 8, li)] ++ halfFields 40 n
  | .sharedClr p => [(16, 1, p)]
  | .fnCfg p r o w be d => [(16, 1, p), (18, 2, r), (20, 2, o), (22, 1, w), (23, 1, be), (24, 4, d)]
  | .dmVf v n => [(16, 1, v), (18, 2, n)]
  | .winWrite b p e f ba li m d => [(16, 1, b), (17, 1, p), (18, 1, e), (19, 1, f), (24, 8, ba), (32, 8, li), (40, 6, m), (46, 2, d)]
  | .gateWrite b sl pt en v o t ba li =>
      [(16, 1, b), (17, 1, sl), (18, 1, pt), (19, 1, en), (20, 1, v), (21, 1, o), (22, 1, t), (24, 4, ba), (28, 4, li)]
  | .reachSet e k f si tv ti ba li =>
      [(16, 2, e), (18, 1, k), (19, 1, f), (20, 2, si), (22, 1, tv), (24, 2, ti), (32, 8, ba), (40, 8, li)]
  | .reachClear e => [(16, 2, e)]
  | .progLoad sl a l m => [(16, 1, sl), (24, 8, a), (32, 4, l), (40, 6, m)]
  | .progUnload sl => [(16, 1, sl)]
  | .shapeSet x c l => [(16, 2, x), (24, 8, c.toNat), (32, 8, l.toNat)]
  | .ideKey p o => [(16, 1, p), (17, 1, o)]
  | .statsSnap g f c b => [(16, 1, g), (18, 2, f), (20, 2, c), (24, 8, b)]
  | .jnlMirror n e b d => [(16, 1, n), (17, 1, e), (24, 8, b), (32, 8, d)]
  | .keyFuse sl a => [(16, 1, sl), (24, 8, a)]
  | .keyRevoke k sl => [(16, 1, k), (17, 1, sl)]
  | .svnCommit k v => [(16, 1, k), (17, 1, v)]

/-- A 64-byte entry from its fields. -/
def packBytes (n : Nat) (l : List (Nat × Nat × Nat)) : List Byte := leBytes n (l.map (fun f => f.2.2 * 256 ^ f.1)).sum

/-- The 64-byte entry of a command (R480). -/
def entryOf (cx : McrCx) (o : McrOp) : List Byte :=
  packBytes 64 ([(0, 1, 1), (1, 1, opCode o), (2, 1, bit cx.irq), (3, 1, cx.dev), (4, 4, cx.user)] ++ opFields o)

/-- The members that an entry names. -/
def entryMembers (e : List Byte) (n : Nat) : List (Nat × Nat × Nat) :=
  (List.range n).map (fun i => (leAt e (24 + 4 * i) 1, leAt e (25 + 4 * i) 2, leAt e (27 + 4 * i) 1))

/-- The operation of an entry, by its opcode; none with a status where the opcode is not defined, or a binding names no kind. -/
def entryOp (e : List Byte) : Except Nat McrOp :=
  let b := fun (i : Nat) => leAt e i 1
  let h := fun (i : Nat) => leAt e i 2
  let q := fun (i : Nat) => leAt e i 8
  match b 1 with
  | 0x00 => .ok .nop
  | 0x01 => .ok (.bankReset (b 16))
  | 0x10 => .ok (.vsCreate (b 16) (b 17) (b 18))
  | 0x11 => .ok (.vsDelete (b 16))
  | 0x12 => .ok (.vsTcmap (b 16) (h 18))
  | 0x13 =>
    if b 18 = 1 then .ok (.bind (b 16) (b 17) (b 20))
    else if b 18 = 2 then .ok (.bindGroup (b 16) (b 17) (entryMembers e (min 8 (b 19))))
    else if b 18 = 3 then .ok (.bindRemote (b 16) (b 17) (h 20))
    else .error stBadField
  | 0x14 => .ok (.unbind (b 16) (b 17) (b 18) (b 19))
  | 0x15 => .ok (.errCfg (b 16) (b 17) (b 18))
  | 0x16 => .ok (.bindRead (b 16) (b 17) (q 24))
  | 0x17 => .ok (.sharedSet (b 16) (b 17) (b 18) (b 19) (q 24) (q 32) ((List.range 8).map (fun i => h (40 + 2 * i))))
  | 0x18 => .ok (.sharedClr (b 16))
  | 0x19 => .ok (.fnCfg (b 16) (h 18) (h 20) (b 22) (b 23) (leAt e 24 4))
  | 0x1A => .ok (.dmVf (b 16) (h 18))
  | 0x20 => .ok (.winWrite (b 16) (b 17) (b 18) (b 19) (q 24) (q 32) (leAt e 40 6) (h 46))
  | 0x21 => .ok .winSwap
  | 0x22 => .ok (.gateWrite (b 16) (b 17) (b 18) (b 19) (b 20) (b 21) (b 22) (leAt e 24 4) (leAt e 28 4))
  | 0x23 => .ok .gateSwap
  | 0x30 => .ok (.reachSet (h 16) (b 18) (b 19) (h 20) (b 22) (h 24) (q 32) (q 40))
  | 0x31 => .ok (.reachClear (h 16))
  | 0x32 => .ok (.progLoad (b 16) (q 24) (leAt e 32 4) (leAt e 40 6))
  | 0x33 => .ok (.progUnload (b 16))
  | 0x34 => .ok (.shapeSet (h 16) (BitVec.ofNat 64 (q 24)) (BitVec.ofNat 64 (q 32)))
  | 0x40 => .ok (.ideKey (b 16) (b 17))
  | 0x50 => .ok (.statsSnap (b 16) (h 18) (h 20) (q 24))
  | 0x60 => .ok (.jnlMirror (b 16) (b 17) (q 24) (q 32))
  | 0x61 => .ok (.keyFuse (b 16) (q 24))
  | 0x62 => .ok (.keyRevoke (b 16) (b 17))
  | 0x63 => .ok (.svnCommit (b 16) (b 17))
  | 0x70 => .ok .mgmtRestart
  | _ => .error stBadOpcode

/-- The bytes that the command table names for an operation: first byte and bytes. A group's entry names all eight members, and an NFUNC above 8
is out of range. -/
def opNamed (o : McrOp) : List (Nat × Nat) :=
  match o with
  | .bindGroup _ _ _ => [(16, 4), (24, 32)]
  | o => (opFields o).map (fun f => (f.1, f.2.1))

/-- Are the reserved bytes of an entry 0 (R480, R482 check 4): bits 7:1 of FLAGS, bytes 15:8, and every byte that the table does not name? -/
def entryRsv (e : List Byte) (o : McrOp) : Bool :=
  decide (leAt e 2 1 ≤ 1) && ((List.range 56).map (· + 8)).all (fun i =>
    (opNamed o).any (fun r => decide (r.1 ≤ i) && decide (i < r.1 + r.2)) || leAt e i 1 == 0) &&
  (match o with
    | .bindGroup _ _ _ => decide (leAt e 19 1 ≤ 8)
    | _ => true)

/-- A job from the 64 bytes of an entry (R480, R482 checks 1 and 2). -/
def jobOf (orig origId : Nat) (e0 : List Byte) (env : McrEnv) : McrJob :=
  let e := padTo 64 e0
  let cx : McrCx := { orig := orig, origId := origId, dev := leAt e 3 1, irq := leAt e 2 1 % 2 == 1, user := leAt e 4 4 }
  if leAt e 0 1 ≠ 1 then { cx := cx, bad := stBadAbi, entry := e, env := env }
  else
    match entryOp e with
    | .ok o => { cx := cx, op := some o, rsv := entryRsv e o, entry := e, env := env }
    | .error st => { cx := cx, bad := st, entry := e, env := env }

/-! ### Checks 3 and 4 of R482 -/

/-- Is the command fabric-scoped (R485)? -/
def State.fabScoped (s : State) (cx : McrCx) (o : McrOp) : Bool :=
  (cx.dev != 0x3F && cx.dev != s.devNum) ||
  (match o with
    | .bindRemote _ _ _ => true
    | .winWrite _ p _ _ _ _ _ _ => p == 0xFE
    | _ => false)

/-- Is the originator the fabric control plane: the owner host's MCR of the acting Bellwether, or the relay (R310)? -/
def State.controlPlane (s : State) (cx : McrCx) : Bool := (cx.orig == 0 && s.on F.FAB_DEV_ACTING []) || cx.orig == 3

/-- Does the command name a buffer in the owner host's memory (R485)? -/
def hostBuffer : McrOp → Bool
  | .bindRead _ _ _ | .statsSnap _ _ _ _ | .progLoad _ _ _ _ | .jnlMirror _ _ _ _ | .keyFuse _ _ => true
  | _ => false

/-- Is the command refused to the relay (R485)? -/
def fuseCmd : McrOp → Bool
  | .keyFuse _ _ | .keyRevoke _ _ | .svnCommit _ _ => true
  | _ => false

/-- The originator check: 0 if permitted, or the status. A fabric-scoped command from another originator is NOT_PERMITTED on a standalone device
and BAD_STATE on a device of a fabric (R310, R485). -/
def State.permit (s : State) (cx : McrCx) (o : McrOp) : Nat :=
  if s.fabScoped cx o ∧ s.controlPlane cx = false then
    if s.get F.FAB_DEV_ROLE [] = 0 then stNotPermitted else stBadState
  else if hostBuffer o ∧ cx.orig ≠ 0 then stNotPermitted
  else if fuseCmd o ∧ cx.orig = 3 then stNotPermitted
  else stOk

/-- Are the fields of a command in range (R482 check 4, with the ranges of R484 and of the tables that the fields name)? -/
def opInRange : McrOp → Bool
  | .bankReset k => decide (k ≤ 1)
  | .vsCreate v p _ => decide (v < 48) && decide (p < 144)
  | .vsDelete v => decide (v < 48)
  | .vsTcmap v _ => decide (v < 48)
  | .bind v sl p => decide (v < 48) && decide (sl < 32) && decide (p < 144)
  | .bindGroup v sl m => decide (v < 48) && decide (sl < 32) && decide (1 ≤ m.length) && decide (m.length ≤ 8) &&
      m.all (fun x => decide (x.1 < 144) && decide (x.2.2 ≤ 7))
  | .bindRemote v sl g => decide (v < 48) && decide (sl < 32) && decide (g < 2 ^ 14)
  | .unbind v sl m w => decide (v < 48) && decide (sl < 32) && decide (m ≤ 1) && (m == 1 || (decide (1 ≤ w) && decide (w ≤ 60)))
  | .errCfg v sl b => decide (v < 48) && decide (sl < 32) && decide (b ≤ 1)
  | .bindRead v sl _ => decide (v < 48) && decide (sl < 32)
  | .sharedSet p b m r ba li _ =>
      decide (p < 144) && decide (1 ≤ b) && decide (b ≤ 8) && decide (m ≤ 5) && decide (r ≤ 5) && decide (ba ≤ li)
  | .sharedClr p => decide (p < 144)
  | .fnCfg p _ o w be _ => decide (p < 144) && decide (o < 4096) && decide (o % 4 = 0) && decide (w ≤ 1) && decide (be ≤ 15)
  | .dmVf v n => decide (v < 48) && decide (n ≤ 1024)
  | .winWrite b p e f _ _ _ d => decide (b ≤ 1) && (decide (p < 144) || p == 0xFE) && decide (e < 64) && decide (f ≤ 7) && decide (d < 2 ^ 14)
  | .gateWrite b _ pt en v o t ba li =>
      decide (b ≤ 1) && decide (pt ≤ 2) && decide (en ≤ 1) && decide (v ≤ 7) && decide (o ≤ 7) && decide (t ≤ 7) &&
      decide (ba < 2 ^ 24) && decide (li < 2 ^ 24)
  | .reachSet e k f si tv ti ba li =>
      decide (e < 4096) && decide (k ≤ 1) && decide (f ≤ 7) && decide (si < 1072) && (k == 1 || decide (tv < 48)) && (k == 0 || decide (ti < 1072)) &&
      (k == 1 || (decide (ba % 4096 = 0) && decide (li % 4096 = 4095) && decide (ba ≤ li)))
  | .reachClear e => decide (e < 4096)
  | .progLoad sl _ _ _ => decide (sl < 4)
  | .progUnload sl => decide (sl < 4)
  | .ideKey p o => decide (p < 144) && decide (o ≤ 2)
  | .statsSnap g _ _ _ => decide (g ≤ 8)
  | .jnlMirror n e b d => decide (e ≤ 1) && (e == 0 || (decide (4 ≤ n) && decide (n ≤ 20) && decide (b % 4096 = 0) && decide (d % 16 = 0)))
  | .keyFuse sl _ => decide (sl < 4)
  | .keyRevoke k sl => decide (k ≤ 1) && decide (sl < 4)
  | .svnCommit k v => decide (k ≤ 2) && decide (v ≤ 64)
  | .nop | .winSwap | .gateSwap | .mgmtRestart | .shapeSet _ _ _ => true

/-- Does DEV name this device, a fabric device, or, for the swaps, every device written (R480)? -/
def devInRange (cx : McrCx) (o : McrOp) : Bool :=
  cx.dev == 0x3F || decide (cx.dev ≤ 32) || (cx.dev == 0x3E && (o == .winSwap || o == .gateSwap))

/-- The first failing check of R482 (checks 1 to 4), 0 if none. -/
def State.jobCheck (s : State) (j : McrJob) : Nat :=
  match j.op with
  | none => j.bad
  | some o =>
    let p := s.permit j.cx o
    if p ≠ stOk then p
    else if j.rsv && devInRange j.cx o && opInRange o then stOk else stBadField

/-! ### The firmware's state -/

/-- Change the management firmware's state. -/
def State.mgrUp (s : State) (f : MgrSt → MgrSt) : State := { s with mgr := f s.mgr }

/-- Change the security station's state. -/
def State.secUp (s : State) (f : SecSt → SecSt) : State := { s with sec := f s.sec }

/-- Does the management firmware not run: a management restart is under way (R506), or the cores are held in reset (R466)? -/
def State.restarting (s : State) : Bool := s.on F.MGR_RESTART_ACTIVE [] || s.on F.GSV_STAT_MGMT_DOWN []

/-- May requests into the owner host's memory go out (R574)? -/
def State.hostIo (s : State) : Bool := s.cf .mgmt .bme == 1

/-- MGR_MCR_STAT: IDLE and PARKED. -/
def State.mgrStat (s : State) : State :=
  (s.setB F.MGR_MCR_STAT_IDLE [] (s.mgr.run.isNone && s.mgr.queue.isEmpty && s.mgr.parked.isEmpty)).set F.MGR_MCR_STAT_PARKED []
    (min 255 s.mgr.parked.length)

/-- PHASE of the n-th element of a ring of 2^size slots (R379). -/
def phaseOf (n size : Nat) : Nat := if n / 2 ^ size % 2 = 0 then 1 else 0

/-- The 32 bytes of a response (R481). -/
def rspBytes (r : McrRsp) (phase : Nat) : List Byte :=
  packBytes 16 [(0, 4, r.job.cx.user % 2 ^ 32), (4, 1, r.status), (5, 1, phase), (8, 4, r.job.seq % 2 ^ 32), (12, 4, r.jseq % 2 ^ 32)] ++ padTo 16 r.result

/-- The bit of MGR_RSP_DONE for a SEQ (R481). -/
def State.rspDone (s : State) (q : Nat) : Bool := (s.get F.MGR_RSP_DONE_DONE [q % 4096 / 64]).testBit (q % 64)

/-- Set or clear the bit of MGR_RSP_DONE for a SEQ (R481). -/
def State.setRspDone (s : State) (q : Nat) (b : Bool) : State :=
  let w := s.get F.MGR_RSP_DONE_DONE [q % 4096 / 64]
  let m := 1 <<< (q % 64)
  s.set F.MGR_RSP_DONE_DONE [q % 4096 / 64] (if b then w ||| m else w &&& ((2 ^ 64 - 1) ^^^ m))

/-- Write one response in the next slot of the response ring, set its bit of MGR_RSP_DONE, and send its message (R480, R481). -/
def State.writeRsp (s : State) (r : McrRsp) : State :=
  let n := s.get F.MGR_MCR_STAT_RSP_WRITTEN []
  let sz := s.get F.MGR_MCR_CFG_RSP_SIZE []
  let a := (s.rd ⟨.MGR_RSP_BASE, []⟩).toNat + 32 * (n % 2 ^ sz)
  let s1 := (s.emit (.hostWrite .mgmt a (rspBytes r (phaseOf n sz)))).incr F.MGR_MCR_STAT_RSP_WRITTEN []
  (s1.setRspDone r.job.seq true).when r.job.cx.irq (fun s => s.sendMsix (s.get F.MGR_MCR_CFG_VEC []))

/-- Write the responses that wait, if the management function may write (R574). -/
def State.flushRsps (s : State) : State :=
  if s.hostIo then s.mgr.rsps.foldl (fun (s : State) r => s.writeRsp r) (s.mgrUp (fun m => { m with rsps := [] })) else s

/-- Answer a command to its originator: the owner's ring, unless it was reset meanwhile (R489), the sideband, or the relay (R495). -/
def State.respond (s : State) (r : McrRsp) : State :=
  match r.job.cx.orig with
  | 0 => if r.job.gen = s.mgr.gen then (s.mgrUp (fun m => { m with rsps := m.rsps ++ [r] })).flushRsps else s
  | 3 => s.when (!r.job.answered) (·.emit (.answer .relay 0 (rspBytes r 0)))
  | 4 => s
  | _ => s.when (!r.job.answered) (fun s => (s.emit (.answer .sideband 0 (rspBytes r 0))).mgrUp (fun m => { m with subBusy := false }))

/-- Does a command with status OK change configuration or state (R490)? -/
def opApplies : McrOp → Bool
  | .nop | .bindRead _ _ _ | .statsSnap _ _ _ _ => false
  | .fnCfg _ _ _ w _ _ => w == 1
  | _ => true

/-- ORIG_ID of a command's journal entry: the relay's is the Bellwether's number and the low byte of MGR_EPOCH (R491). -/
def State.origId (s : State) (cx : McrCx) : Nat :=
  if cx.orig = 3 then s.get F.FAB_DEV_MGR [] + 256 * (s.get F.FAB_DEV_MGR_EPOCH [] % 256) else cx.origId

/-- Does a command's completion with a status change configuration or state (R490)? -/
def McrJob.applies (j : McrJob) (st : Nat) : Bool :=
  decide (st = stOk) && (match j.op with
    | some o => opApplies o
    | none => false)

/-- Journal an applied command (R487, R490). -/
def State.journalJob (s : State) (j : McrJob) (result : List Byte) : State :=
  s.journalAdd 0 j.cx.orig (if j.cx.orig = 0 then j.seq else 0) (s.origId j.cx) j.entry (padTo 16 result)

/-- The response of a completed command: it is no longer running or parked. -/
def State.closeJob (s : State) (r : McrRsp) : State :=
  ((s.mgrUp (fun m => { m with
    run := if m.run.map (·.id) = some r.job.id then none else m.run,
    parked := m.parked.filter (fun e => e.1.id != r.job.id) })).respond r).mgrStat

/-- A command completes with a status: an applied change is journaled, and the response follows. -/
def State.finish (s : State) (j : McrJob) (st : Nat) (result : List Byte := []) : State :=
  let q := s.get F.MGR_JNL_SEQ_SEQ []
  (s.when (j.applies st) (fun s => s.journalJob j result)).closeJob { job := j, status := st, jseq := if j.applies st then q else 0, result := result }

/-- A command parks (R486); a sideband command is answered at once with OK and JSEQ 0 (R495). -/
def State.park (s : State) (j : McrJob) (k : ParkK) : State :=
  let side := decide (j.cx.orig = 1 ∨ j.cx.orig = 2) && !j.answered
  let j' : McrJob := { j with answered := j.answered || side }
  let s1 := s.when side (fun s => (s.emit (.answer .sideband 0 (rspBytes { job := j, status := stOk, jseq := 0, result := [] } 0))).mgrUp
    (fun m => { m with subBusy := false }))
  (s1.mgrUp (fun m => { m with
    run := if m.run.map (·.id) = some j.id then none else m.run,
    parked := m.parked.filter (fun e => e.1.id != j.id) ++ [(j', k)] })).mgrStat

/-- A command runs on until its swap has completed: later commands wait (R486). -/
def State.runOn (s : State) (j : McrJob) : State := (s.mgrUp (fun m => { m with run := some j })).mgrStat

/-- What a command names (R486): a vDSP slot, a reach entry, a program slot, a bank set. -/
def opNames : McrOp → List (Nat × Nat × Nat)
  | .bind v sl _ | .bindGroup v sl _ | .bindRemote v sl _ | .unbind v sl _ _ | .errCfg v sl _ | .bindRead v sl _ => [(0, v, sl)]
  | .reachSet e _ _ _ _ _ _ _ | .reachClear e => [(1, e, 0)]
  | .progLoad sl _ _ _ | .progUnload sl => [(2, sl, 0)]
  | .winWrite _ _ _ _ _ _ _ _ | .winSwap => [(3, 0, 0)]
  | .gateWrite _ _ _ _ _ _ _ _ _ | .gateSwap => [(3, 1, 0)]
  | .bankReset k => [(3, k, 0)]
  | _ => []

/-- The names of a job. -/
def McrJob.names (j : McrJob) : List (Nat × Nat × Nat) :=
  match j.op with
  | some o => opNames o
  | none => []

/-- Is the job a bind or unbind: while an ORDERLY unbind waits for the host, R121 answers it and it does not wait. A PROG_LOAD of a Draining
slot is refused (R428), and does not wait. -/
def passes (j : McrJob) (k : ParkK) : Bool :=
  match k, j.op with
  | .unbind _ _, some (.bind _ _ _) | .unbind _ _, some (.bindGroup _ _ _) | .unbind _ _, some (.bindRemote _ _ _) => true
  | .unbind _ _, some (.unbind _ _ _ _) => true
  | .prog _, some (.progLoad _ _ _ _) => true
  | _, _ => false

/-- Must a job wait behind a parked command (R486)? -/
def State.behind (s : State) (j : McrJob) : Bool :=
  s.mgr.parked.any (fun e => !passes j e.2 && e.1.names.any (fun n => j.names.contains n))

/-- The first waiting command that may start, and the others in order: one that waits makes later ones of the same name wait. -/
def State.nextJob (s : State) : List (Nat × Nat × Nat) → List McrJob → Option (McrJob × List McrJob)
  | _, [] => none
  | held, j :: js =>
    if s.behind j || j.names.any (fun n => held.contains n) then
      (s.nextJob (held ++ j.names) js).map (fun r => (r.1, j :: r.2))
    else some (j, js)

/-- Start waiting commands, one after another, while none runs on (R486). -/
def State.kick (run : State → McrJob → State) : Nat → State → State
  | 0, s => s.mgrStat
  | n + 1, s =>
    if s.mgr.run.isSome || s.restarting then s.mgrStat
    else
      match s.nextJob [] s.mgr.queue with
      | none => s.mgrStat
      | some (j, rest) =>
        let s1 := s.mgrUp (fun m => { m with queue := rest })
        let st := s1.jobCheck j
        State.kick run n (if st = stOk then run s1 j else s1.finish j st)

/-- May the firmware fetch the next command of the ring: EN, no error, fewer than 2^RSP_SIZE commands without a consumed response, no restart
(R478, R479, R506)? -/
def State.mayFetch (s : State) : Bool :=
  s.on F.MGR_MCR_CFG_EN [] && !s.on F.MGR_MCR_STAT_ERROR [] && !s.restarting &&
  decide ((s.mgr.fetched + 2 ^ 32 - s.mgr.rspHead) % 2 ^ 32 < 2 ^ s.get F.MGR_MCR_CFG_RSP_SIZE [])

/-- A command arrives at the executor. A ring command takes the next SEQ, and the bit of its SEQ clears (R479, R481); the endpoint runs one MCR_SUBMIT at a
time, and answers 0x81 during a management restart (R495). -/
def State.arrive (s0 : State) (j0 : McrJob) : State :=
  let j : McrJob := { j0 with id := s0.mgr.jobs }
  let s := s0.mgrUp (fun m => { m with jobs := m.jobs + 1 })
  match j.cx.orig with
  | 0 =>
    if s.mayFetch then
      let q := s.mgr.fetched
      (s.setRspDone q false).mgrUp (fun m => { m with
        fetched := (q + 1) % 2 ^ 32,
        queue := m.queue ++ [{ j with seq := q, gen := m.gen }] })
    else s
  | 3 => if s.restarting then s.emit (.answer .relay 0x81 []) else s.mgrUp (fun m => { m with queue := m.queue ++ [j] })
  | 4 => s.mgrUp (fun m => { m with queue := m.queue ++ [j] })
  | _ =>
    if s.restarting then s.emit (.answer .sideband 0x81 [])
    else if s.mgr.subBusy then s.emit (.answer .sideband 0x82 [])
    else s.mgrUp (fun m => { m with subBusy := true, queue := m.queue ++ [j] })

end Sys2Proof.Machine
end

