-- ==== Sys2Proof/Machine/Bind.lean ====
section
/-!
DEFINITION. Bindings and the life of virtual switches (R100 to R124, R225, R329, R332, R376, R572): what is free, the checks of a binding, its installation and
removal, drains (R149, R150), and the creation and deletion of a virtual switch.
-/

namespace Sys2Proof.Machine

/-! ### What the tables hold -/

/-- The binding epoch advances (VST_EPOCH). -/
def State.vstBump (s : State) : State := (s.incr F.VST_EPOCH_EPOCH []).setB F.VST_EPOCH_DRAIN [] true

/-- VST_GLB: free virtual switches, vDSP indices and function binding entries; what a drain holds is not free (R150). -/
def State.updGlb (s : State) : State :=
  let fbs := s.snap.fbs.length + (s.fwd.drains.map (fun d => d.fbs.length)).sum
  let vd := s.fwd.own.length + (s.fwd.drains.map (fun d => d.vdsps.length)).sum
  ((s.set F.VST_GLB_FREE_VS [] (48 - s.fwd.act.length)).set F.VST_GLB_FREE_SLOTS [] (1024 - vd)).set F.VST_GLB_FREE_FB [] (4096 - fbs)

/-- Is a vDSP slot allocated on an Active virtual switch (R572)? -/
def State.slotThere (s : State) (v sl : Nat) : Bool := s.get F.VST_STAT_STATE [v] == 1 && s.on F.VST_SLOT_ALLOC [v, sl]

/-- Does a drain hold a port (R150)? -/
def State.drainPort (s : State) (p : Nat) : Bool := s.fwd.drains.any (fun d => d.port == some p)

/-- Does a drain hold a function of a shared port: its entry is not yet free (R150)? -/
def State.drainFn (s : State) (p rid : Nat) : Bool :=
  s.fwd.drains.any (fun d => d.fbs.any (fun k => s.get F.VST_FB_A_SHARED_PORT [k] == p && s.get F.VST_FB_A_REAL_RID [k] == rid))

/-- Is a port the target of a binding that this device knows (R108)? -/
def State.portTaken (s : State) (p : Nat) : Bool := (s.portBinding p).isSome || (s.fwd.rbound.look p).isSome

/-- The parameters of a shared port. -/
def State.sharedOf (s : State) (p : Nat) : Option SharedPort := s.vsx.shared.find? (fun x => x.port == p)

/-- The function with a requester ID that the firmware found behind a shared port. -/
def State.sharedFn (s : State) (p rid : Nat) : Option SharedFn :=
  match s.sharedOf p with
  | some x => x.fns.find? (fun f => f.rid == rid)
  | none => none

/-- The lowest `n` free function binding entries (R114). -/
def State.freeFbs (s : State) (n : Nat) : Option (List Nat) :=
  let used := s.snap.fbs ++ s.fwd.drains.flatMap (fun d => d.fbs)
  let l := (below 4096 (fun k => !used.contains k)).take n
  if l.length = n then some l else none

/-! ### Checks of a binding (R113, R114, R572) -/

/-- The checks of the slot: allocated on an Active virtual switch, no unbind pending (R121), an empty binding. -/
def State.slotCheck (s : State) (v sl : Nat) : Nat :=
  if !s.slotThere v sl then stBadTarget
  else if s.on F.VST_SLOT_UNBIND_PEND [v, sl] then stBusy
  else if s.get F.VST_SLOT_KIND [v, sl] ≠ 0 then stBadState
  else stOk

/-- The checks of a target port: a downstream port that is not shared, no other binding's target, not held by a drain. -/
def State.targetCheck (s : State) (p : Nat) : Nat :=
  if 144 ≤ p ∨ s.pget F.PP_CTL_ROLE p ≠ 1 ∨ s.shared p = true then stBadTarget
  else if s.portTaken p then stConflict
  else if s.drainPort p then stBusy
  else stOk

/-- May a function join a group: found behind a shared port, no virtual functions enabled, member of no group (R108, R112)? -/
def State.memberOk (s : State) (m : Nat × Nat × Nat) : Bool :=
  (match s.sharedFn m.1 m.2.1 with
    | some f => f.isVf || f.numVfs == 0
    | none => false) && (s.snap.fbByRid m.1 m.2.1).isNone

/-- The checks of a function group's members (R113, R114). -/
def State.groupCheck (s : State) (ms : List (Nat × Nat × Nat)) : Nat :=
  let pf := ms.map (fun m => m.2.2)
  let ids := ms.map (fun m => (m.1, m.2.1))
  if !(pf.contains 0) || pf.eraseDups.length != pf.length || ids.eraseDups.length != ids.length || !ms.all (fun m => s.memberOk m) then stBadTarget
  else if ms.any (fun m => s.drainFn m.1 m.2.1) then stBusy
  else if (s.freeFbs ms.length).isNone then stNoResource
  else stOk

/-! ### Installing a binding -/

/-- Reset the emulated state of a slot's members. -/
def State.resetMembers (s : State) (v sl : Nat) : State :=
  (s.cfReset (fun f => match f with | .mem a b _ => a == v && b == sl | _ => false) false).fwdUp (fun f => { f with
    flrAt := f.flrAt.filter (fun e => !(e.1.1 == v && e.1.2.1 == sl)), flrRrs := f.flrRrs.filter (fun e => !(e.1 == v && e.2.1 == sl)) })

/-- Write the binding into the present tables. -/
def State.setBinding (s : State) (v sl kind target nfunc : Nat) : State :=
  (((s.set F.VST_SLOT_KIND [v, sl] kind).set F.VST_SLOT_TARGET [v, sl] target).set F.VST_SLOT_NFUNC [v, sl] nfunc).vstBump

/-- One member takes a function binding entry (R114): the entry, its BARs and its shadows at reset. -/
def State.putMember (s : State) (v sl k : Nat) (m : Nat × Nat × Nat) : State :=
  let f := s.sharedFn m.1 m.2.1
  let vf := match f with | some f => f.isVf | none => false
  let bars := match f with | some f => f.bars | none => []
  let w := packW [(0, 1, 1), (1, 6, v), (7, 10, s.get F.VST_SLOT_VDSP [v, sl]), (17, 3, m.2.2), (20, 1, bit vf), (24, 8, m.1), (32, 16, m.2.1)]
  ((s.wr ⟨.VST_FB_A, [k]⟩ w).fwdUp (fun x => { x with bars := x.bars.put (v, sl, m.2.2) bars })).memSync v sl m.2.2

/-- The port of a new binding takes the state that its slot gives it: held by a contained vDSP, off, or training; SAF is evaluated (R116, R117, R162). -/
def State.portBound (s : State) (v sl p : Nat) : State :=
  let s1 := (s.when (s.contained v sl) (·.pset F.PT_CONT_C_VDSP p 1)).updSaf p
  let st := s1.pget F.PP_STAT_LINK_STATE p
  let r := s1.restState p
  (if r = 1 then s1.portRest p else if st = r then s1 else s1.cutLink p r).updPerst p

/-- Bind a physical port (R109, R117 step 1): the tables change and a swap carries them. -/
def State.bindPort (s : State) (v sl p : Nat) (after : After) : State :=
  (((s.setBinding v sl 1 p 0).portBound v sl p).updGlb).queueSwap .fwd after

/-- Bind a function group (R113, R114). -/
def State.bindGroup (s : State) (v sl : Nat) (ms : List (Nat × Nat × Nat)) (after : After) : State :=
  match s.freeFbs ms.length with
  | none => s
  | some ks =>
    let s1 := (s.resetMembers v sl).setBinding v sl 2 ((ks.headD 0) % 4096) ms.length
    (((ks.zip ms).foldl (fun (s : State) (x : Nat × (Nat × Nat × Nat)) => s.putMember v sl x.1 x.2) s1).updGlb).queueSwap .fwd after

/-- Step 2 of R117, once the tables have swapped: the host sees a card, unless the slot is contained (R117). -/
def State.bindShow (s : State) (v sl : Nat) : State :=
  let s1 := if s.contained v sl then s.fwdUp (fun f => { f with bindWait := addNew f.bindWait (v, sl) }) else (s.setPresent v sl true).refreshDll v sl
  s1.event .vst 0

/-! ### Windows that follow bindings (R225, R334) -/

/-- Clear EN of the windows of a bank that a test picks, in both banks: local windows by port, remote ones by GPID. -/
def State.winClear (s : State) (q : Reg → Bool) : State :=
  let hit := s.regs.filter (fun e => (e.1.n == .PT_WIN_E || e.1.n == .FAB_RWIN_E) && fget e.2 0 1 == 1 && q e.1)
  hit.foldl (fun (s : State) (e : Reg × W64) => s.wr e.1 (fset e.2 0 1 0)) s

/-- When the binding of a port is removed, every window of the port is cleared in both banks, and the change is journaled (R225). -/
def State.winFollow (s : State) (p : Nat) : State :=
  let q := fun (r : Reg) => r.n == .PT_WIN_E && (match r.ix with | [t, _, k, _] => 4 * t + k == p | _ => false)
  let s1 := s.winClear q
  if s1.regs = s.regs then s else s1.journalChange 225 [BitVec.ofNat 8 p]

/-- The remote windows that name a GPID are cleared in both banks (R334). -/
def State.rwinFollow (s : State) (g : Nat) : State :=
  s.winClear (fun r => r.n == .FAB_RWIN_E && (match r.ix with | [b, w] => s.get F.FAB_RWIN_DST_DST_GPID [b, w] == g | _ => false))

/-- When a virtual switch is deleted, its SRC_MASK bit clears in every window of both banks (R225). -/
def State.winForget (s : State) (v : Nat) : State :=
  let hit := s.regs.filter (fun e => (e.1.n == .PT_WIN_E || e.1.n == .FAB_RWIN_E) && e.2.getLsbD (16 + v))
  if hit.isEmpty then s
  else (hit.foldl (fun (s : State) (e : Reg × W64) => s.wr e.1 (fset e.2 (16 + v) 1 0)) s).journalChange 225 [BitVec.ofNat 8 v]

/-! ### Removing a binding (R118 step 3, R150) -/

/-- Remove a binding from the present tables, and hold what it used for its drain (R118 step 3, R150, R225): the host sees the card leave. The epoch of
the removal is the one that the next swap makes. -/
def State.unbindTables (s : State) (v sl : Nat) : State :=
  let x := s.get F.VST_SLOT_VDSP [v, sl]
  let kind := s.get F.VST_SLOT_KIND [v, sl]
  let tgt := s.get F.VST_SLOT_TARGET [v, sl]
  let fbs := s.snap.fbs.filter (fun k => s.get F.VST_FB_A_VDSP [k] == x)
  let e := (s.fwd.epochs.lookD BankSet.fwd.code 0 + 1) % 2 ^ 32
  let s1 := fbs.foldl (fun (s : State) (k : Nat) => s.setB F.VST_FB_A_VALID [k] false) s
  let s2 := ((s1.resetMembers v sl).setBinding v sl 0 0 0).setB F.VST_SLOT_UNBIND_PEND [v, sl] false
  let s3 : State := { s2 with
    vsx := { s2.vsx with unbinds := s2.vsx.unbinds.filter (fun u => !(u.vs == v && u.slot == sl)), remoteUp := s2.vsx.remoteUp.filter (· != (v, sl)) },
    fwd := { s2.fwd with
      bars := s2.fwd.bars.filter (fun b => !(b.1.1 == v && b.1.2.1 == sl)), bindWait := s2.fwd.bindWait.filter (· != (v, sl)),
      drains := s2.fwd.drains ++ [{ epoch := e, vdsps := [], fbs := fbs, port := if kind = 1 then some (tgt % 256) else none, vs := v, slot := sl }] } }
  let s4 := (s3.setDll v sl false).setPresent v sl false
  let s5 := if kind = 1 then
      let p := tgt % 256
      ((((s4.pset F.PT_CONT_C_VDSP p 0).portRest p).winFollow p).updSaf p).updPerst p
    else s4
  ((s5.cfSet (.vdsp v sl) .ltr 0).updLtr v).updGlb

/-- Remove a binding: the tables change and a swap carries them. -/
def State.removeBinding (s : State) (v sl : Nat) (after : After) : State := (s.unbindTables v sl).queueSwap .fwd after

/-! ### Drains (R149, R150) -/

/-- The TLPs in the device that a tile looked up: tile, forwarding epoch, window epoch (R149). -/
def State.lookedUp (s : State) : List (Nat × Nat × Nat) :=
  let ps := s.fwd.held.map (fun e => e.2) ++ s.mesh.pkts.map (fun e => e.2) ++ s.fwd.gateq.flatMap (fun e => e.2) ++ s.fwd.shq.flatMap (fun e => e.2) ++
    s.fwd.ingq.flatMap (fun e => e.2) ++ s.fwd.trunkq.flatMap (fun e => e.2) ++ s.trunk.flatMap (fun e => e.2.copies.map (fun c => c.pkt))
  (ps.filter (fun p => p.srcId < 144 && !p.made && p.tlp?.isSome)).map (fun p => (p.srcId / 4, p.epoch, p.winEpoch)) ++
    (s.fwd.waits.filter (fun w => w.src < 144)).map (fun w => (w.src / 4, w.dec.epoch, w.dec.winEpoch))

/-- Recompute DRAIN of the tiles and of the virtual switch table; a tile whose forwarding DRAIN clears raises DRAIN_DONE. -/
def State.updDrain (s : State) : State :=
  let l := s.lookedUp
  let s1 := (List.range 36).foldl (fun (s : State) (t : Nat) =>
    let f := l.any (fun x => x.1 == t && x.2.1 != s.epochOf t)
    let w := l.any (fun x => x.1 == t && x.2.2 != s.get F.PT_WIN_BANK_EPOCH [t])
    let was := s.on F.PT_FWD_EPOCH_DRAIN [t]
    (((s.setB F.PT_FWD_EPOCH_DRAIN [t] f).setB F.PT_WIN_BANK_DRAIN [t] w).when (was && !f) (·.event (.tile t 2) 1))) s
  if (List.range 36).any (fun t => s1.on F.PT_FWD_EPOCH_DRAIN [t]) || s1.fwd.swaps.any (fun w => w.set == .fwd) then s1
  else s1.setB F.VST_EPOCH_DRAIN [] false

/-- Has an epoch drained: no swap up to it is under way, and DRAIN reads 0 in every tile (R150)? -/
def State.drained (s : State) (e : Nat) : Bool :=
  !(s.fwd.swaps.any (fun w => w.set == .fwd && decide (w.epoch ≤ e))) && (List.range 36).all (fun t => !s.on F.PT_FWD_EPOCH_DRAIN [t])

/-- Free what the drained epochs held; each removal is journaled (R150, R490). -/
def State.freeDrained (s : State) : State :=
  let done := s.fwd.drains.filter (fun d => s.drained d.epoch)
  let s1 := done.foldl (fun (s : State) (d : Drain) =>
    (d.fbs.foldl (fun (s : State) (k : Nat) => (s.resetReg ⟨.VST_FB_A, [k]⟩).resetReg ⟨.VST_FB_B, [k]⟩) s).journalChange 150
      (leBytes 1 d.vs ++ leBytes 1 d.slot)) s
  (s1.fwdUp (fun f => { f with drains := f.drains.filter (fun d => !s.drained d.epoch) })).updGlb

/-! ### Virtual switches (R102, R103, R106) -/

/-- The functions of a virtual switch that its host sees. -/
def fnOfVs (insts : List Nat) (v : Nat) (f : FnId) : Bool :=
  match f with
  | .up a | .dmp a => a == v
  | .vdsp a _ | .mem a _ _ => a == v
  | .dmf i => insts.contains i
  | .mgmt => false

/-- Restore the shapers of a virtual switch and its instances to their defaults (R443). -/
def State.vsShapers (s : State) (v : Nat) : State :=
  ((List.range 4).map (fun c => 576 + 4 * v + c) ++ (s.instOfVs v).map (fun i => 768 + i)).foldl (fun (s : State) (x : Nat) => s.shDefault x) s

/-- The instances of a virtual switch belong to it: DM_ID.VS of the granted virtual functions (R409). -/
def State.ownInst (s : State) (v : Nat) : State := (s.instOfVs v).foldl (fun (s : State) (i : Nat) => s.set F.DM_ID_VS [i] v) s

/-- The checks of VS_CREATE (R102). -/
def State.vsCreateCheck (s : State) (v p n : Nat) : Nat :=
  if s.get F.VST_STAT_STATE [v] ≠ 0 then stBadState
  else if s.pget F.PP_CTL_ROLE p ≠ 0 ∨ n = 0 ∨ 32 < n then stBadTarget
  else if (s.vsOfPort p).isSome then stConflict
  else if s.get F.VST_GLB_FREE_SLOTS [] < n then stNoResource
  else stOk

/-- Make a virtual switch Active on a port with its slots, the lowest free vDSP indices first (R103). -/
def State.vsMake (s : State) (v p n : Nat) (mgmt : Bool) : State :=
  let used := s.fwd.own.map (fun e => e.1) ++ s.fwd.drains.flatMap (fun d => d.vdsps)
  let ids := (below 1024 (fun x => !used.contains x)).take n
  let s0 := s.wr ⟨.VST_STAT, [v]⟩ (packW [(0, 2, 1), (2, 8, p), (10, 6, n), (16, 1, bit mgmt), (17, 1, bit (s.inL0 p))])
  let s1 := ((List.range n).zip ids).foldl (fun (s : State) (x : Nat × Nat) =>
    ((s.resetReg ⟨.VST_CONT, [v, x.1]⟩).wr ⟨.VST_SLOT, [v, x.1]⟩ (packW [(0, 10, x.2), (12, 1, 1), (17, 2, 3), (19, 2, 3)])).fwdUp (fun f => { f with
      own := f.own.put x.2 (v, x.1) })) s0
  let s2 := (s1.resetReg ⟨.VST_TCMAP, [v]⟩).fwdUp (fun f => { f with act := addNew f.act v })
  let s3 := s2.cfReset (fnOfVs (s.instOfVs v) v) false
  let s4 := s3.clearRegs (fun r => r.n == .DMG_CNT && (match r.ix with | [i, _] => i == v | _ => false))
  ((s4.vsShapers v).vstBump).updGlb

/-- The checks of VS_DELETE (R101, R106). -/
def State.vsDeleteCheck (s : State) (v : Nat) : Nat :=
  if s.get F.VST_STAT_STATE [v] ≠ 1 ∨ s.on F.VST_STAT_MGMT [v] = true ∨ ((List.range 32).any (fun sl =>
      s.get F.VST_SLOT_KIND [v, sl] != 0 || s.on F.VST_SLOT_UNBIND_PEND [v, sl])) = true then stBadState
  else stOk

/-- Expire the entries that a test picks (R252). -/
def State.expireAll (s : State) (q : Nat → TrkE → Bool) : State :=
  (s.fwd.trk.filter (fun e => q e.1.1 e.2)).foldl (fun (s : State) (e : (Nat × Nat) × TrkE) => s.expire e.1.1 e.1.2) s

/-- Steps 2 and 3 of R106: the instances are reset and the requests toward the upstream port are answered. -/
def State.vsDeleteRun (s : State) (v : Nat) : State :=
  let p := s.upPort v
  ((s.instFlr v).tombLive p (fun _ _ => true)).expireAll (fun _ e => e.egress == p)

/-- Are steps 2 and 3 of R106 done: no reset under way, no entry names the port? -/
def State.vsDeleteDone (s : State) (v : Nat) : Bool :=
  (s.instOfVs v).all (fun i => (s.dm.flr.look i).isNone) && s.fwd.trk.all (fun e => e.2.egress != s.upPort v)

/-- Clear reach entries that a test picks: VALID clears, GEN advances (R375, R376). -/
def State.reachDrop (s : State) (q : Nat → Bool) : State :=
  (s.regs.filterMap (fun e => match e.1.n, e.1.ix with
    | .DMG_REACH, [k] => if fget e.2 0 1 = 1 ∧ q k = true then some k else none
    | _, _ => none)).foldl (fun (s : State) (k : Nat) => (((s.setB F.DMG_REACH_VALID [k] false).incr F.DMG_REACH_GEN [k]).event .dmg 0).journalChange 376 (leBytes 2 k)) s

/-- Step 4 of R106, with what the deletion takes along: windows (R225), reach entries (R376), program masks (R429), shapers (R443), instances (R409). -/
def State.vsFree (s : State) (v : Nat) : State :=
  let insts := s.instOfVs v
  let e := (s.fwd.epochs.lookD BankSet.fwd.code 0 + 1) % 2 ^ 32
  let ids := s.fwd.own.filterMap (fun x => if x.2.1 = v then some x.1 else none)
  let s1 := (s.winForget v).reachDrop (fun k => if s.on F.DMG_REACH_KIND [k] then insts.contains (s.get F.DMG_REACH_TARGET_INST [k])
    else s.get F.DMG_REACH_TARGET_VS [k] == v)
  let s2 := (List.range 4).foldl (fun (s : State) (p : Nat) =>
    s.set F.DMG_PROG_MASK_VS_MASK [p] (s.get F.DMG_PROG_MASK_VS_MASK [p] &&& ((2 ^ 48 - 1) ^^^ (1 <<< v)))) s1
  let s3 := ((s2.vsShapers v).cfReset (fnOfVs insts v) false).set F.DMG_VF_COUNT [v] 0
  let s4 := (List.range 32).foldl (fun (s : State) (sl : Nat) => (s.resetReg ⟨.VST_SLOT, [v, sl]⟩).resetReg ⟨.VST_CONT, [v, sl]⟩)
    ((s3.resetReg ⟨.VST_STAT, [v]⟩).resetReg ⟨.VST_TCMAP, [v]⟩)
  let s5 := s4.fwdUp (fun f => { f with
    own := f.own.filter (fun x => x.2.1 != v), act := f.act.filter (· != v), releasing := f.releasing.filter (fun x => !ids.contains x),
    drains := f.drains ++ [{ epoch := e, vdsps := ids, fbs := [], port := none, vs := v }] })
  ((s5.set F.DMG_VF_FIRST [v] 0).updGlb).queueSwap .fwd .none

end Sys2Proof.Machine
end

