-- ==== Sys2Proof/Machine/Banks.lean ====
section
/-!
DEFINITION. The window and gate banks (R221, R222, R227 to R229, R238, R241, R333, R334): which bank is active, the copy of step 4 of R228, the overlap
checks, and the writes of entries.
-/

namespace Sys2Proof.Machine

/-- The active window bank of the device: each swap makes the other bank active (R227, R228). -/
def State.winBank (s : State) : Nat := s.fwd.epochs.lookD BankSet.win.code 0 % 2

/-- The active gate bank. -/
def State.gateActive (s : State) : Nat := s.get F.SEC_GATE_CTL_ACTIVE []

/-- A register of a window bank: the bank, and the register of another bank in its place. -/
def winReg (r : Reg) : Option (Nat × (Nat → Reg)) :=
  match r.n, r.ix with
  | .PT_WIN_E, [t, b, sl, w] => some (b, fun b' => ⟨r.n, [t, b', sl, w]⟩)
  | .PT_WIN_BASE, [t, b, sl, w] => some (b, fun b' => ⟨r.n, [t, b', sl, w]⟩)
  | .PT_WIN_LIMIT, [t, b, sl, w] => some (b, fun b' => ⟨r.n, [t, b', sl, w]⟩)
  | .FAB_RWIN_E, [b, w] => some (b, fun b' => ⟨r.n, [b', w]⟩)
  | .FAB_RWIN_BASE, [b, w] => some (b, fun b' => ⟨r.n, [b', w]⟩)
  | .FAB_RWIN_LIMIT, [b, w] => some (b, fun b' => ⟨r.n, [b', w]⟩)
  | .FAB_RWIN_DST, [b, w] => some (b, fun b' => ⟨r.n, [b', w]⟩)
  | _, _ => none

/-- A register of a gate bank, as `winReg`. -/
def gateReg (r : Reg) : Option (Nat × (Nat → Reg)) :=
  match r.n, r.ix with
  | .SEC_GATE_BASE, [b, sl] => some (b, fun b' => ⟨r.n, [b', sl]⟩)
  | .SEC_GATE_SUB, [b, sl, k] => some (b, fun b' => ⟨r.n, [b', sl, k]⟩)
  | _, _ => none

/-- A register of a route bank, as `winReg`. -/
def routeReg (r : Reg) : Option (Nat × (Nat → Reg)) :=
  match r.n, r.ix with
  | .FAB_RT, [b, d] => some (b, fun b' => ⟨r.n, [b', d]⟩)
  | _, _ => none

/-- Copy the registers of one bank into the other (R228 step 4). -/
def State.copyBank (s : State) (bank : Reg → Option (Nat × (Nat → Reg))) (src dst : Nat) : State :=
  let s1 := s.clearRegs (fun r => match bank r with | some (b, _) => b == dst | none => false)
  s1.regs.foldl (fun (s : State) (e : Reg × W64) => match bank e.1 with
    | some (b, at_) => if b = src then s.wr (at_ dst) e.2 else s
    | none => s) s1

/-- Copy the active window bank into the inactive one. -/
def State.copyWin (s : State) : State := s.copyBank winReg s.winBank (1 - s.winBank)

/-- Copy the active gate bank into the inactive one. -/
def State.copyGate (s : State) : State := s.copyBank gateReg s.gateActive (1 - s.gateActive)

/-- Copy the active route bank into the inactive one. -/
def State.copyRoute (s : State) : State := s.copyBank routeReg s.fab.rtBank (1 - s.fab.rtBank)

/-! ### Overlaps (R229, R334) -/

/-- An enabled window: egress port (0x100 + GPID for a remote one), first and last byte, SRC_MASK. -/
def State.winsOf (s : State) (b : Nat) : List (Nat × Nat × Nat × Nat) :=
  s.regs.filterMap (fun (e : Reg × W64) => match e.1.n, e.1.ix with
    | .PT_WIN_E, [t, b', sl, w] =>
      if b' = b ∧ fget e.2 0 1 = 1 then
        some (4 * t + sl, s.get F.PT_WIN_BASE_BASE [t, b, sl, w], s.get F.PT_WIN_LIMIT_LIMIT [t, b, sl, w], fget e.2 16 48)
      else none
    | .FAB_RWIN_E, [b', w] =>
      if b' = b ∧ fget e.2 0 1 = 1 then
        some (0x100 + s.get F.FAB_RWIN_DST_DST_GPID [b, w], s.get F.FAB_RWIN_BASE_BASE [b, w], s.get F.FAB_RWIN_LIMIT_LIMIT [b, w], fget e.2 16 48)
      else none
    | _, _ => none)

/-- Do two enabled windows overlap: their ranges share a byte, and they have one egress or a common virtual switch? -/
def winClash (x y : Nat × Nat × Nat × Nat) : Bool :=
  decide (x.2.1 ≤ y.2.2.1) && decide (y.2.1 ≤ x.2.2.1) && (x.1 == y.1 || x.2.2.2 &&& y.2.2.2 != 0)

/-- Does any pair of a list clash? -/
def anyPair {α : Type} (q : α → α → Bool) : List α → Bool
  | [] => false
  | x :: xs => xs.any (fun y => q x y) || anyPair q xs

/-- Does a window bank hold an overlap? -/
def State.winOverlap (s : State) (b : Nat) : Bool := anyPair winClash (s.winsOf b)

/-- Does a gate bank hold an overlap: two enabled sub-ranges of a slot share a byte, or one ends beyond the slot's page? -/
def State.gateOverlap (s : State) (b : Nat) : Bool :=
  (List.range 256).any (fun sl =>
    let on := fun (k : Nat) => s.on F.SEC_GATE_SUB_EN [b, sl, k]
    let lo := fun (k : Nat) => s.get F.SEC_GATE_SUB_BASE [b, sl, k]
    let hi := fun (k : Nat) => s.get F.SEC_GATE_SUB_LIMIT [b, sl, k]
    (on 0 && on 1 && decide (lo 0 ≤ hi 1) && decide (lo 1 ≤ hi 0)) || (on 0 && decide (slotSize sl ≤ hi 0)) || (on 1 && decide (slotSize sl ≤ hi 1)))

/-- The check of R228 step 1 for windows: a refused swap sets WIN_OVERLAP, raises its event and is counted. -/
def State.winCheckSwap (s : State) : State × Nat :=
  if s.winOverlap (1 - s.winBank) then (((s.setB F.SEC_GATE_CTL_WIN_OVERLAP [] true).event .sec 2).glbCount 4, stOverlap) else (s, stOk)

/-- The check of R228 step 1 for gates. -/
def State.gateCheckSwap (s : State) : State × Nat :=
  if s.gateOverlap (1 - s.gateActive) then (((s.setB F.SEC_GATE_CTL_GATE_OVERLAP [] true).event .sec 1).glbCount 3, stOverlap) else (s, stOk)

/-! ### Claims (R488) -/

/-- Who claims the inactive bank of a command. -/
def claimer (cx : McrCx) : Nat × Nat := (cx.orig, cx.origId)

/-- Is a bank claimed by another originator? -/
def claimed (c : Option (Nat × Nat)) (cx : McrCx) : Bool :=
  match c with
  | some x => x != claimer cx
  | none => false

/-! ### Writing entries -/

/-- May a port be the egress of an enabled window: an enabled-kind PCIe port that is not shared (R221)? -/
def State.winEgress (s : State) (p : Nat) : Bool := s.pget F.PP_CTL_ROLE p != 2 && !s.shared p

/-- Is a port the egress of an enabled window in either bank (R226)? -/
def State.winNames (s : State) (p : Nat) : Bool :=
  s.regs.any (fun e => e.1.n == .PT_WIN_E && fget e.2 0 1 == 1 && (match e.1.ix with | [t, _, sl, _] => 4 * t + sl == p | _ => false))

/-- The rules of a window entry: alignment, order, and a lawful egress where it is enabled (R221, R222). -/
def State.winLawful (s : State) (p flags base limit : Nat) : Bool :=
  decide (base % 4096 = 0) && decide (limit % 4096 = 4095) && decide (base ≤ limit) &&
  (flags % 2 == 0 || p == 0xFE || s.winEgress p)

/-- The word of a window's EN, RD, WR and SRC_MASK. -/
def winWord (flags mask : Nat) : W64 := packW [(0, 3, flags), (16, 48, mask)]

/-- Write a window entry of a bank. -/
def State.winPut (s : State) (b p e flags base limit mask dst : Nat) : State :=
  if p = 0xFE then
    (((s.wr ⟨.FAB_RWIN_E, [b, e]⟩ (winWord flags mask)).wr ⟨.FAB_RWIN_BASE, [b, e]⟩ (BitVec.ofNat 64 base)).wr ⟨.FAB_RWIN_LIMIT, [b, e]⟩
      (BitVec.ofNat 64 limit)).set F.FAB_RWIN_DST_DST_GPID [b, e] dst
  else
    let ix := [p / 4, b, p % 4, e]
    ((s.wr ⟨.PT_WIN_E, ix⟩ (winWord flags mask)).wr ⟨.PT_WIN_BASE, ix⟩ (BitVec.ofNat 64 base)).wr ⟨.PT_WIN_LIMIT, ix⟩ (BitVec.ofNat 64 limit)

/-- The most that V, O and T may be granted on a slot, and the least that O keeps, by the fixed limits of R241. -/
def gateLimits (slot : Nat) : (Nat × Nat × Nat) × Nat :=
  let ex := if 160 ≤ slot ∧ slot ≤ 175 then 7 else 3
  let res := decide (8 ≤ slot ∧ slot ≤ 15) || decide (52 ≤ slot ∧ slot ≤ 63) || decide (202 ≤ slot)
  if res then ((0, 0, 0), 0)
  else
    let o := if slot = 2 ∨ slot = 4 ∨ slot = 6 ∨ (192 ≤ slot ∧ slot ≤ 199) then ex &&& 5 else ex
    ((ex, o, if slot = 200 then 1 else if slot = 201 then 3 else 0), if slot = 0 then 1 else if slot = 3 then 3 else 0)

/-- Do permissions keep the fixed limits of a slot? -/
def gateLawful (slot v o t : Nat) : Bool :=
  let l := gateLimits slot
  decide (v &&& l.1.1 = v) && decide (o &&& l.1.2.1 = o) && decide (t &&& l.1.2.2 = t) && decide (o &&& l.2 = l.2)

/-- The rules of a GATE_WRITE (R238, R241): the V permissions in force stay, the fixed limits hold, and sub-ranges are aligned to 64 bytes. -/
def State.gateWriteOk (s : State) (slot part en v o t base limit : Nat) : Bool :=
  let cur := s.get F.SEC_GATE_BASE_V_PERM [s.gateActive, slot]
  if part = 0 then v == cur && gateLawful slot v o t
  else decide (base % 64 = 0) && decide (limit % 64 = 63) && (en == 0 || (v == cur && gateLawful slot v o t))

/-- Write a gate entry of a bank: the base permissions or a sub-range. -/
def State.gatePut (s : State) (b slot part en v o t base limit : Nat) : State :=
  if part = 0 then s.wr ⟨.SEC_GATE_BASE, [b, slot]⟩ (packW [(0, 3, v), (4, 3, o), (8, 3, t)])
  else s.wr ⟨.SEC_GATE_SUB, [b, slot, part - 1]⟩ (packW [(0, 1, en), (1, 3, v), (4, 3, o), (7, 3, t), (16, 24, base), (40, 24, limit)])

/-! ### What follows a completed swap (R228 steps 3 to 5) -/

/-- A swap of a set has been carried out on this device: it is no longer among the written ones (R480: DEV 0x3E). -/
def State.fabWritten (s : State) (k : Nat) : State :=
  { s with fab := { s.fab with written := s.fab.written.filter (fun x => !(x.1 == k && x.2 == s.get F.FAB_DEV_NUM [])) } }

/-- A completed swap: SWAP_PEND clears, gates become active as a device, the new bank is copied, and the claim of the set ends (R228, R488). -/
def State.swapCopied (s : State) (b : BankSet) (e : Nat) : State :=
  match b with
  | .fwd => s.swapPend .fwd false
  | .win => (((s.swapPend .win false).copyBank winReg (e % 2) (1 - e % 2)).mgrUp (fun m => { m with winClaim := none })).fabWritten 1
  | .gate =>
    let s1 := ((s.swapPend .gate false).set F.SEC_GATE_CTL_ACTIVE [] (1 - s.gateActive)).set F.SEC_GATE_CTL_EPOCH [] e
    (s1.copyGate.mgrUp (fun m => { m with gateClaim := none })).fabWritten 2

end Sys2Proof.Machine
end

