-- ==== Sys2Proof/Machine/Fabric.lean ====
section
/-!
DEFINITION. The fabric (chapter 10): routes (R315, R316), transactions as a device takes part in them (R321 to R323), transactions as the Bellwether runs
them, the standby (R336, R337), manager epochs (R338), fabric time (R325 to R328), remote bindings (R329 to R332) and device numbers (R312,
R313). One device is modelled; messages to other devices are transmissions.
-/

namespace Sys2Proof.Machine

/-- Change the fabric state. -/
def State.fabUp (s : State) (f : FabSt → FabSt) : State := { s with fab := f s.fab }

/-- Fabric time of this device (R325). -/
def State.fabTime (s : State) : Nat := s.get F.FAB_TIME_TIME []

/-- Does the device run the control plane? -/
def State.acting (s : State) : Bool := s.on F.FAB_DEV_ACTING []

/-! ### Routes (R316) -/

/-- The trunks of a device: own trunk number and the device at the far end. -/
def trunksOf (l : List (Nat × Nat × Nat × Nat)) (a : Nat) : List (Nat × Nat) :=
  l.flatMap (fun x => (if x.1 = a then [(x.2.1, x.2.2.1)] else []) ++ (if x.2.2.1 = a then [(x.2.2.2, x.1)] else []))

/-- The devices that trunks reach in at most `n` hops from a set. -/
def within (l : List (Nat × Nat × Nat × Nat)) : Nat → List Nat → List Nat
  | 0, f => f
  | n + 1, f => within l n ((f ++ f.flatMap (fun a => (trunksOf l a).map (·.2))).eraseDups)

/-- The level of a device: its distance from the root, at most 33 hops. -/
def levelIn (l : List (Nat × Nat × Nat × Nat)) (root d : Nat) : Nat :=
  ((List.range 33).find? (fun n => (within l n [root]).contains d)).getD 33

/-- Is the direction from `a` to `b` up: toward a lower level, or between equal levels toward the lower number? -/
def isUp (lvl : Nat → Nat) (a b : Nat) : Bool := decide (lvl b < lvl a) || (lvl b == lvl a && decide (b < a))

/-- The hops of a shortest legal path of at most `n` hops: zero or more up hops, then zero or more down hops. -/
def legalHops (l : List (Nat × Nat × Nat × Nat)) (lvl : Nat → Nat) (d : Nat) : Nat → Nat → Bool → Option Nat
  | 0, a, _ => if a = d then some 0 else none
  | n + 1, a, down =>
    if a = d then some 0
    else
      (trunksOf l a).foldl (fun (best : Option Nat) (x : Nat × Nat) =>
        let up := isUp lvl a x.2
        if up && down then best
        else
          match legalHops l lvl d n x.2 (down || !up), best with
          | some h, some b => some (min b (h + 1))
          | some h, none => some (h + 1)
          | none, b => b) none

/-- The route of a device to another, of at most 3 hops: trunk, next device, hops; ties go to the lowest next device, then to the lowest trunk. -/
def routeOf (l : List (Nat × Nat × Nat × Nat)) (root a d : Nat) : Option (Nat × Nat × Nat) :=
  let lvl := fun (x : Nat) => levelIn l root x
  match legalHops l lvl d 3 a false with
  | none => none
  | some 0 => none
  | some (h + 1) =>
    ((trunksOf l a).filter (fun x => legalHops l lvl d h x.2 (!isUp lvl a x.2) == some h)).foldl (fun (best : Option (Nat × Nat × Nat)) (x : Nat × Nat) =>
      match best with
      | some b => if x.2 < b.2.1 ∨ (x.2 = b.2.1 ∧ x.1 < b.1) then some (x.1, x.2, h + 1) else some b
      | none => some (x.1, x.2, h + 1)) none

/-- The route table of a device: an entry for each destination (R317, FAB_RT). -/
def routeTable (l : List (Nat × Nat × Nat × Nat)) (root a : Nat) : List FabChg :=
  (List.range 33).map (fun d =>
    if d = a then .route d 0xFE 0x3F 0
    else
      match routeOf l root a d with
      | some (j, n, h) => .route d (8 * j) n h
      | none => .route d 0xFF 0x3F 0)

/-- May a set of devices and trunks form a fabric (R315)? -/
def topoOk (devs : List Nat) (l : List (Nat × Nat × Nat × Nat)) (root : Nat) : Bool :=
  decide (devs.length ≤ 33) && l.all (fun x => x.1 != x.2.2.1) &&
  devs.all (fun a => devs.all (fun d => a == d || (routeOf l root a d).isSome))

/-- Is another device reachable by the active route table? -/
def State.reachesDev (s : State) (d : Nat) : Bool := s.get F.FAB_RT_EGRESS [s.fab.rtBank, d] < 0xFE

/-- The devices of the fabric other than this one that its routes reach. -/
def State.otherDevs (s : State) : List Nat := s.fab.devs.filter (fun d => d != s.devNum && s.reachesDev d)

/-! ### A device in a transaction (R321 to R323) -/

/-- Write one change into the inactive banks (R321 step 1): a route into the inactive route bank, the others wait. -/
def State.fabStage (s : State) (id : Nat) (c : FabChg) : State :=
  match c with
  | .route d e n h => s.wr ⟨.FAB_RT, [1 - s.fab.rtBank, d]⟩ (packW [(0, 8, e), (8, 6, n), (14, 2, h)])
  | c => s.fabUp (fun f => { f with staged := f.staged ++ [(id, c)] })

/-- The checks of one change at PREPARE (R329): the slot of a binding, the target port, 0 if it may be made. -/
def State.chgCheck (s : State) (c : FabChg) : Nat :=
  match c with
  | .bind v sl g =>
    if s.slotCheck v sl ≠ stOk then s.slotCheck v sl else if s.reachesDev (g / 256) then stOk else stBadTarget
  | .rbind p g => if s.targetCheck p ≠ stOk then s.targetCheck p else if s.reachesDev (g / 256) then stOk else stBadTarget
  | .unbind v sl => if s.slotThere v sl ∧ s.get F.VST_SLOT_KIND [v, sl] = 3 then stOk else stBadState
  | _ => stOk

/-- The first status other than OK. -/
def firstBad (l : List Nat) : Nat := (l.find? (· != stOk)).getD stOk

/-- Is a swap of one of the sets under way on this device? -/
def State.setSwapping (s : State) (sets : List Nat) : Bool := s.fwd.swaps.any (fun w => w.set != .fwd && sets.contains w.set.code)

/-- PREPARE (R321 step 2, R323): the checks of R228 step 1 and of the changes; READY makes the device Prepared. -/
def State.fabPrepare (s : State) (id : Nat) (sets : List Nat) : State × Nat :=
  let st := s.get F.FAB_TXN_STATE []
  let cur := s.get F.FAB_TXN_TXN_ID []
  if st ≠ 0 then (s, if st = 1 ∧ cur = id then stOk else stBusy)
  else if s.setSwapping sets then (s, stBusy)
  else
    let r1 := if sets.contains 1 then s.winCheckSwap else (s, stOk)
    let r2 := if sets.contains 2 then r1.1.gateCheckSwap else (r1.1, stOk)
    let mine := s.fab.staged.filter (fun x => x.1 == id)
    let bad := firstBad ([r1.2, r2.2] ++ mine.map (fun x => s.chgCheck x.2))
    if bad ≠ stOk then (r2.1.fabUp (fun f => { f with staged := f.staged.filter (fun x => x.1 != id) }), bad)
    else
      (((r2.1.set F.FAB_TXN_TXN_ID [] id).set F.FAB_TXN_STATE [] 1).fabUp (fun f => { f with
        staged := mine, sets := sets, due := none, readyAt := s.now }), stOk)

/-- The inactive banks of the prepared sets copy the active ones again (R323). -/
def State.fabRestore (s : State) : State :=
  let s1 := s.when (s.fab.sets.contains 1) (fun s => s.copyWin.mgrUp (fun m => { m with winClaim := none }))
  let s2 := s1.when (s.fab.sets.contains 2) (fun s => s.copyGate.mgrUp (fun m => { m with gateClaim := none }))
  ((s2.when (s.fab.sets.contains 3) (·.copyRoute)).set F.FAB_TXN_STATE [] 0).fabUp (fun f => { f with staged := [], sets := [], due := none })

/-- ABORT: a device Prepared under it leaves Prepared without swapping. -/
def State.fabAbort (s : State) (id : Nat) : State :=
  if s.get F.FAB_TXN_STATE [] = 1 ∧ s.get F.FAB_TXN_TXN_ID [] = id then s.fabRestore
  else if s.get F.FAB_TXN_STATE [] = 0 then s.fabUp (fun f => { f with staged := f.staged.filter (fun x => x.1 != id) })
  else s

/-- Make one change in the present tables, at the time of the transaction. -/
def State.chgApply (s : State) (c : FabChg) : State :=
  match c with
  | .bind v sl g => (s.setBinding v sl 3 g 0).updGlb
  | .unbind v sl => s.unbindTables v sl
  | .rbind p g => s.fwdUp (fun f => { f with rbound := f.rbound.put p g })
  | .runbind p =>
    let e := (s.fwd.epochs.lookD BankSet.fwd.code 0 + 1) % 2 ^ 32
    let s1 : State := { s with
      fwd := { s.fwd with rbound := s.fwd.rbound.del p, drains := s.fwd.drains ++ [{ epoch := e, vdsps := [], fbs := [], port := some p }] },
      lnk := { s.lnk with remoteOff := s.lnk.remoteOff.filter (fun x => x.1 != p) },
      fab := { s.fab with mps := s.fab.mps.del p } }
    (((s1.pset F.PT_CONT_C_VDSP p 0).portRest p).winFollow p).updPerst p
  | .rwinClear g => s.rwinFollow g
  | .route _ _ _ _ => s

/-- The parent trunk: the first of the route to the acting Bellwether (R325). -/
def State.updParent (s : State) : State :=
  let m := s.get F.FAB_DEV_MGR []
  let e := s.get F.FAB_RT_EGRESS [s.fab.rtBank, m]
  if m < 33 ∧ e < 0xFE then s.set F.FAB_TIME_STAT_PARENT [] (e / 8) else s

/-- The new routes are active (R321); a vDSP whose target device has lost its route is contained (R331). -/
def State.routesApply (s : State) : State :=
  let b := 1 - s.fab.rtBank
  let lost := s.fwd.own.filter (fun e => s.get F.VST_SLOT_KIND [e.2.1, e.2.2] == 3 &&
    s.get F.FAB_RT_EGRESS [b, s.get F.VST_SLOT_TARGET [e.2.1, e.2.2] / 256] == 0xFF)
  let s1 := lost.foldl (fun (s : State) (e : Nat × Nat × Nat) => s.containVdsp e.2.1 e.2.2 10) s
  ((((s1.fabUp (fun f => { f with rtBank := b })).copyRoute).updParent)).settled

/-- At fabric time T the device swaps each bank set, and its STATE is Committed until every station has swapped (R321 step 4). -/
def State.fabApply (s : State) : State :=
  let sets := s.fab.sets
  let chg := s.fab.staged.map (fun x => x.2)
  let s0 := (s.set F.FAB_TXN_STATE [] 2).fabUp (fun f => { f with staged := [], sets := [], due := none, applied := chg })
  let s1 := chg.foldl (fun (s : State) (c : FabChg) => s.chgApply c) s0
  let s2 := s1.journalAdd 3 (if s.acting then 4 else 3) 0 0 (padTo 64 (leBytes 2 321 ++ leBytes 2 (s.get F.FAB_TXN_TXN_ID []))) []
  let s3 := s2.when (sets.contains 3) (·.routesApply)
  let s4 := s3.when (sets.contains 0) (fun s => s.queueSwap .fwd .fab)
  let s5 := s4.when (sets.contains 1) (fun s => s.queueSwap .win .fab)
  let s6 := s5.when (sets.contains 2) (fun s => s.queueSwap .gate .fab)
  if sets.all (· == 3) then (s6.set F.FAB_TXN_STATE [] 0).fabUp (fun f => { f with applied := [] }) else s6

/-- COMMIT (R321 step 3, R322): the swaps are due at T; a COMMIT after its T swaps at once and sets LATE. -/
def State.fabCommit (s : State) (id t : Nat) : State :=
  if s.get F.FAB_TXN_STATE [] = 1 ∧ s.get F.FAB_TXN_TXN_ID [] = id then
    if t < s.fabTime then (((s.setB F.FAB_TXN_LATE [] true).event .fab 4).fabApply)
    else s.fabUp (fun f => { f with due := some t })
  else s

/-- The link of a remote port follows what its host has set: the port control messages of a new remote binding (R117 step 2, R330). -/
def State.tellPort (s : State) (v sl : Nat) (a : PortAct) : State :=
  let g := s.get F.VST_SLOT_TARGET [v, sl]
  if s.get F.VST_SLOT_KIND [v, sl] = 3 then s.tellDev (g / 256) (.portCtl (s.gpid (s.upPort v)) (g % 256) a) else s

/-- A remote binding that has been installed shows its card (R117 step 2), and its port learns what the host has set. -/
def State.bindShown (s : State) (v sl : Nat) : State :=
  let fn : FnId := .vdsp v sl
  let s1 := (s.bindShow v sl).tellPort v sl (.mps (s.cf fn .mps))
  let s2 := s1.when (s.cf fn .slotPower == 1) (·.tellPort v sl .powerOff)
  s2.when (s.cf fn .linkDisable == 1) (·.tellPort v sl .linkDisable)

/-- The command that removes a remote binding goes on to its drain (R150, R332). -/
def State.unbindJob (s : State) (v sl : Nat) : State :=
  match s.mgr.parked.find? (fun e => e.2 == .txn && (match e.1.op with | some (.unbind a b _ _) => a == v && b == sl | _ => false)) with
  | some (j, _) => s.park j (.drain (s.fwd.epochs.lookD BankSet.fwd.code 0))
  | none => s

/-- Every station has swapped every set: bindings show, a marked port reports its link, removals wait for their drain, and STATE returns to Idle (R321 step 5). -/
def State.fabDone (s : State) : State :=
  let s1 := s.fab.applied.foldl (fun (s : State) (c : FabChg) => match c with
    | .bind v sl _ => s.bindShown v sl
    | .unbind v sl => s.unbindJob v sl
    | .rbind p _ => (s.updPerst p).reportLink p
    | _ => s) s
  (s1.set F.FAB_TXN_STATE [] 0).fabUp (fun f => { f with applied := [] })

/-! ### The Bellwether's transactions -/

/-- Replace the open transaction. -/
def State.txnPut (s : State) (t : FabTxn) : State := s.fabUp (fun f => { f with txn := some t })

/-- Is there a standby to wait for (R336): D1 is numbered and reachable, and has not been given up? -/
def State.hasStandby (s : State) : Bool := s.devNum != 1 && s.otherDevs.contains 1 && !s.on F.FAB_MGR_STANDBY_LOST []

/-- Send something to the standby and wait for its acknowledgement. -/
def State.tellStandby (s : State) (u : StdUpd) : State := (s.tellDev 1 (.standby u)).fabUp (fun f => { f with ackWait := some s.now })

/-- Step 3 of R321: COMMIT with T where every device answered READY, ABORT otherwise; this device takes part at once. -/
def State.txnDecide (s : State) (t : FabTxn) : State :=
  let own := s.devNum
  let others := t.devs.filter (· != own)
  if t.status = 0 then
    let tm := s.fabTime + max 20 (s.get F.FAB_MGR_MARGIN []) * 1000
    let s1 := others.foldl (fun (s : State) (d : Nat) => s.tellDev d (.commit t.id tm)) s
    (s1.when (t.devs.contains own) (·.fabCommit t.id tm)).txnPut { t with phase := 2, time := tm, at_ := s.now, sent := s.now, left := others }
  else
    let s1 := others.foldl (fun (s : State) (d : Nat) => s.tellDev d (.abort t.id)) s
    (s1.when (t.devs.contains own) (·.fabAbort t.id)).txnPut { t with phase := 3, at_ := s.now, sent := s.now, left := others }

/-- Steps 1 and 2 of R321: the inactive banks are written through the relay, and PREPARE goes to every device concerned. -/
def State.txnGo (s : State) (t : FabTxn) : State :=
  let own := s.devNum
  let s1 := t.chg.foldl (fun (s : State) (c : Nat × FabChg) =>
    if c.1 = own then s.fabStage t.id c.2 else s.tellDev c.1 (.relay (.stage t.id c.2))) s
  let others := t.devs.filter (· != own)
  let s2 := others.foldl (fun (s : State) (d : Nat) => s.tellDev d (.prepare t.id t.sets)) s1
  let r := if t.devs.contains own then s2.fabPrepare t.id t.sets else (s2, stOk)
  let t1 : FabTxn := { t with phase := 1, at_ := s.now, left := others, status := r.2 }
  if others.isEmpty then r.1.txnDecide t1 else r.1.txnPut t1

/-- Open a transaction: it takes the next TXN_ID, and the standby learns of it first (R321). -/
def State.txnOpen (s : State) (t : FabTxn) : State :=
  let id := (s.fab.lastTxn + 1) % 65536
  let t1 : FabTxn := { t with id := id, phase := 0, at_ := s.now }
  let s1 := s.fabUp (fun f => { f with lastTxn := id, txn := some t1 })
  if s1.hasStandby then s1.tellStandby (.txn id t.devs) else s1.txnGo t1

/-- Start a transaction, or let it wait for the open one (R321). -/
def State.txnStart (s : State) (t : FabTxn) : State :=
  if s.fab.txn.isSome then s.fabUp (fun f => { f with waiting := f.waiting ++ [t] }) else s.txnOpen t

/-- The transaction that installs the routes of every device (R317), or a step of a takeover. -/
def State.routeTxn (s : State) (take : Nat) : FabTxn :=
  let root := s.devNum
  let live := s.fab.devs.filter (fun a => a == root || (routeOf s.fab.links root root a).isSome)
  { chg := live.flatMap (fun a => (routeTable s.fab.links root a).map (fun c => (a, c))), devs := live, sets := [3], take := take }

/-- The parked command of a transaction. -/
def State.txnJob (s : State) (t : FabTxn) : Option McrJob :=
  match t.job with
  | some n => (s.mgr.parked.find? (fun e => e.1.id == n && e.2 == .txn)).map (·.1)
  | none => none

/-- The transaction is over: the responses that waited follow, a takeover takes its next step (R337), and the next transaction starts. -/
def State.txnEnd (s : State) (t : FabTxn) : State :=
  let s1 := s.fab.owed.foldl (fun (s : State) (r : McrRsp) => s.closeJob r) (s.fabUp (fun f => { f with owed := [], txn := none, ackWait := none }))
  match t.take with
  | 1 => s1.txnOpen (s1.routeTxn 2)
  | 2 =>
    let s2 := (s1.setB F.FAB_DEV_ACTING [] true).setB F.FAB_TIME_STAT_SYNC [] true
    let last := s2.fab.mirror.getLast?
    let q := match last with | some b => leAt b 0 8 + 1 | none => 0
    s2.when (decide (s2.get F.MGR_JNL_SEQ_SEQ [] < q)) (fun s => s.set F.MGR_JNL_SEQ_SEQ [] q)
  | _ =>
    match s1.fab.waiting with
    | t2 :: ts => (s1.fabUp (fun f => { f with waiting := ts })).txnOpen t2
    | [] => s1

/-- Has the transaction taken effect on this device, where it is concerned? -/
def State.ownApplied (s : State) (t : FabTxn) : Bool := s.get F.FAB_TXN_STATE [] == 0 || s.get F.FAB_TXN_TXN_ID [] != t.id

/-- The 112 bytes of a journal entry that CHECK covers (R491). -/
def JEntry.head (e : JEntry) : List Byte :=
  leBytes 8 e.seq ++ leBytes 8 e.time ++ leBytes 1 e.kind ++ leBytes 1 e.orig ++ leBytes 2 e.origId ++ leBytes 1 e.dev ++ [0, 0, 0] ++
    leBytes 4 e.cmdSeq ++ [0, 0, 0, 0] ++ padTo 64 e.body ++ padTo 16 e.result

/-- Close a transaction once every device has acknowledged and, where it is committed, T has passed and this device has swapped: the command is
journaled, the standby learns of the change, and the command is answered (R321, R336). -/
def State.txnCheck (s : State) : State :=
  match s.fab.txn with
  | none => s
  | some t =>
    if t.phase = 3 ∧ t.left.isEmpty then
      let s1 := match s.txnJob t with
        | some j => s.fabUp (fun f => { f with owed := f.owed ++ [({ job := j, status := t.status, jseq := 0, result := [] } : McrRsp)] })
        | none => s
      s1.txnEnd t
    else if t.phase = 2 ∧ t.left.isEmpty ∧ t.time ≤ s.fabTime ∧ s.ownApplied t = true then
      let s0 := s.fabUp (fun f => { f with written := f.written.filter (fun x => !(t.sets.contains x.1 && t.devs.contains x.2)) })
      let s1 := match s0.txnJob t with
        | some j =>
          let q := s.get F.MGR_JNL_SEQ_SEQ []
          (s0.journalJob j []).fabUp (fun f => { f with owed := f.owed ++ [({ job := j, status := stOk, jseq := q, result := [] } : McrRsp)] })
        | none => s0.when (!t.devs.contains s.devNum) (·.journalChange 321 (leBytes 2 t.id))
      if s1.hasStandby then
        let body := match s1.journal.getLast? with | some e => e.head | none => []
        (s1.txnPut { t with phase := 4, at_ := s.now }).tellStandby (.change body)
      else s1.txnEnd t
    else s

/-- The standby has acknowledged, or is given up: what waited for it goes on. -/
def State.standbyGo (s0 : State) : State :=
  let s := s0.fabUp (fun f => { f with ackWait := none })
  match s.fab.txn with
  | some t => if t.phase = 0 then s.txnGo t else if t.phase = 4 then s.txnEnd t else s
  | none => s.fab.owed.foldl (fun (s : State) (r : McrRsp) => s.closeJob r) (s.fabUp (fun f => { f with owed := [] }))

/-- Answer a command that another device has carried out; an applied change goes to the standby first (R336). -/
def State.relayed (s : State) (j : McrJob) (st : Nat) (result : List Byte) : State :=
  let r : McrRsp := { job := j, status := st, jseq := 0, result := result }
  if j.applies st ∧ s.hasStandby ∧ s.fab.txn.isNone then
    (s.fabUp (fun f => { f with owed := f.owed ++ [r] })).tellStandby (.change (leBytes 8 (s.get F.MGR_JNL_SEQ_SEQ []) ++ j.entry))
  else s.closeJob r

/-! ### Discovery (R312 to R315) -/

/-- The trunks of this device that are up and lead to a numbered device (R317). -/
def State.ownLinks (s : State) (far : List (Nat × Nat × Nat × Nat)) : List (Nat × Nat × Nat × Nat) :=
  far.filter (fun x => (x.1 != s.devNum || s.tkOn x.2.1) && (x.2.2.1 != s.devNum || s.tkOn x.2.2.2))

/-- New routes after a change of the trunks or devices (R317), the standby learning of the fabric table. -/
def State.reroute (s : State) : State :=
  (s.when s.hasStandby (·.tellDev 1 (.standby (.table s.fab.devs s.fab.links)))).txnStart (s.routeTxn 0)

/-- The number of a discovered partner (R312): 1 for a standby where 1 is free, the fabric table's, the lowest free from 2 upward. -/
def State.numberFor (s : State) (standby : Bool) (tab : Option Nat) : Option Nat :=
  let free := fun (n : Nat) => !s.fab.devs.contains n
  if standby && free 1 then some 1
  else match tab with
    | some n => if free n then some n else (below 33 (fun n => decide (2 ≤ n) && free n)).head?
    | none => (below 33 (fun n => decide (2 ≤ n) && free n)).head?

/-- The Bellwether finds an unnumbered partner across trunk `j` of device `dev` (R312, R314, R315); `links` are its trunks to numbered devices. -/
def State.discover (s : State) (dev j pj role : Nat) (tab : Option Nat) (links : List (Nat × Nat × Nat)) : State :=
  if !s.acting || !s.fab.devs.contains dev then s
  else if role = 1 then (s.setB F.FAB_DEV_DUAL_MGR [] true).event .fab 0
  else if role = 0 then s
  else
    match s.numberFor (role == 2) tab with
    | none => (s.setB F.FAB_DEV_TOPO_REFUSED [] true).event .fab 2
    | some n =>
      let new := (dev, j, n, pj) :: links.map (fun x => (x.1, x.2.1, n, x.2.2))
      let l := s.fab.links ++ new
      if !topoOk (s.fab.devs ++ [n]) l s.devNum then (s.setB F.FAB_DEV_TOPO_REFUSED [] true).event .fab 2
      else
        let s1 := s.when (role == 2 && n != 1) (fun s => (s.setB F.FAB_DEV_STANDBY_DUP [] true).event .fab 1)
        let s2 := if dev = s.devNum then s1.emit (.fab 0x3F (.relay (.number j n))) else s1.tellDev dev (.relay (.number j n))
        (s2.fabUp (fun f => { f with devs := f.devs ++ [n], links := l })).reroute

/-- FAB_DEV.NUM is written (R313): the device announces its number on every member that is up. The number never changes while the device runs. -/
def State.takeNumber (s : State) (n : Nat) : State :=
  if s.get F.FAB_DEV_ROLE [] = 0 ∨ s.devNum ≠ 0x3F then s
  else
    let s1 := (s.set F.FAB_DEV_NUM [] n).when (s.get F.FAB_DEV_MGR [] == 0x3F) (·.set F.FAB_DEV_MGR [] 0)
    (List.range 18).foldl (fun (s : State) (j : Nat) => (s.members j).foldl (fun (s : State) (i : Nat) => s.sendHello j i) s) (s1.updParent)

/-! ### Heartbeats, the standby and manager epochs (R336 to R338) -/

/-- A heartbeat: the Bellwether sends one to every numbered device and takes note of the trunks; another device receives one. -/
def State.heartbeat (s : State) (far : List (Nat × Nat × Nat × Nat)) : State :=
  if s.acting then
    let s1 := s.otherDevs.foldl (fun (s : State) (d : Nat) => s.tellDev d .heartbeat) s
    let l := (s.ownLinks (far.filter (fun x => s.fab.devs.contains x.1 && s.fab.devs.contains x.2.2.1 && x.1 != x.2.2.1))).eraseDups
    let same := l.all (fun x => s.fab.links.contains x) && s.fab.links.all (fun x => l.contains x)
    if same then s1 else (s1.fabUp (fun f => { f with links := l })).reroute
  else s.fabUp (fun f => { f with hbAt := s.now })

/-- A message with a manager epoch (R338): a higher one names the new manager, and a former Bellwether is deposed; its open commands end. -/
def State.mgrEpoch (s : State) (e num : Nat) : State :=
  if e ≤ s.get F.FAB_DEV_MGR_EPOCH [] then s
  else
    let s1 := (s.set F.FAB_DEV_MGR_EPOCH [] e).set F.FAB_DEV_MGR [] num
    if s.acting then
      let s2 := ((s1.setB F.FAB_DEV_ACTING [] false).setB F.FAB_DEV_DEPOSED [] true).event .fab 7
      let owed := s2.fab.owed
      let s3 := s2.fabUp (fun f => { f with txn := none, waiting := [], ackWait := none, owed := [], devs := [], links := [] })
      let s4 := owed.foldl (fun (s : State) (r : McrRsp) => s.closeJob r) s3
      (s4.mgr.parked.filter (fun x => x.2 == .txn)).foldl (fun (s : State) (x : McrJob × ParkK) => s.finish x.1 stAborted) s4
    else s1

/-- A standby takes over (R337): it raises the epoch, ends the open transaction, installs routes without the lost device, and then acts. -/
def State.takeOver (s : State) (committed : Bool) : State :=
  let old := s.get F.FAB_DEV_MGR []
  let e := s.get F.FAB_DEV_MGR_EPOCH [] + 1
  let own := s.devNum
  let others := s.otherDevs.filter (· != old)
  let s1 := others.foldl (fun (s : State) (d : Nat) => (s.tellDev d (.epoch e own)).tellDev d .query) s
  let s2 := ((s1.set F.FAB_DEV_MGR_EPOCH [] e).set F.FAB_DEV_MGR [] own).fabUp (fun f => { f with
    devs := f.devs.filter (· != old), links := f.links.filter (fun x => x.1 != old && x.2.2.1 != old), waiting := [] })
  match s2.fab.mirTxn with
  | some (id, devs) =>
    let s3 := s2.when (decide (s2.get F.FAB_TXN_STATE [] = 1 ∧ s2.get F.FAB_TXN_TXN_ID [] ≠ id)) (fun s => s.fabRestore)
    let done := committed || decide (s3.get F.FAB_TXN_STATE [] = 2 ∧ s3.get F.FAB_TXN_TXN_ID [] = id)
    let t : FabTxn := { id := id, devs := devs.filter (· != old), status := if done then stOk else stAborted, take := 1 }
    (s3.fabUp (fun f => { f with lastTxn := id, mirTxn := none })).txnDecide t |>.txnCheck
  | none => s2.txnOpen (s2.routeTxn 2)

/-- What the standby receives (R336): it keeps it and acknowledges. -/
def State.standbyIn (s : State) (u : StdUpd) : State :=
  let s1 := s.fabUp (fun f => match u with
    | .txn id devs => { f with mirTxn := some (id, devs) }
    | .change b => { f with mirror := f.mirror ++ [b], mirTxn := none }
    | .table d l => { f with devs := d, links := l })
  s1.tellDev (s.get F.FAB_DEV_MGR []) .standbyAck

/-! ### Fabric time (R326, R328) -/

/-- A two-way exchange with the far end of the parent trunk (R326, R328). -/
def State.timeSync (s : State) (t1 t2 t3 t4 : Nat) : State :=
  let off : Int := (((t2 : Int) - t1) + ((t3 : Int) - t4)) / 2
  let sat : Int := max (-32768) (min 32767 off)
  let n := s.fab.syncs + 1
  let s1 := (s.set F.FAB_TIME_STAT_OFFSET [] (unsx 16 sat)).fabUp (fun f => { f with slew := off, syncs := min 2 n })
  s1.when (decide (2 ≤ n)) (·.setB F.FAB_TIME_STAT_SYNC [] true)

/-- A nanosecond of fabric time (R325, R326): the pending offset is taken up by 1 ns in each µs. A standalone device has no fabric time. -/
def State.fabTick (s : State) : State :=
  if s.get F.FAB_DEV_ROLE [] = 0 then s
  else
    let step : Nat := if s.now % 1000 = 0 then (if 0 < s.fab.slew then 2 else if s.fab.slew < 0 then 0 else 1) else 1
    (s.set F.FAB_TIME_TIME [] (s.fabTime + step)).fabUp (fun f => { f with slew := f.slew - ((step : Int) - 1) })

/-! ### Remote ports (R330, R331) -/

/-- A port control message for a remote-bound port of this device (R330). -/
def State.portControl (s : State) (p : Nat) (a : PortAct) : State :=
  let off := fun (k : Nat) (s : State) => (s.lnkUp (fun x => { x with remoteOff := addNew x.remoteOff (p, k) }))
  let on := fun (k : Nat) (s : State) => (s.lnkUp (fun x => { x with remoteOff := x.remoteOff.filter (· != (p, k)) }))
  let down := fun (s : State) => if decide (3 ≤ s.pget F.PP_STAT_LINK_STATE p ∧ s.pget F.PP_STAT_LINK_STATE p ≤ 6) then s.cutLink p 0 else s.portRest p
  match a with
  | .powerOff => (down (off 0 s)).updPerst p
  | .powerOn => ((on 0 s).portRest p).updPerst p
  | .linkDisable => down (off 1 s)
  | .linkEnable => (on 1 s).portRest p
  | .retrain => s.when (s.inL0 p) (fun s => (s.freshTrain p).retrain p)
  | .busReset => s.hotResetPort p
  | .dpcRelease => (s.pset F.PT_CONT_C_VDSP p 0).portRest p
  | .mps c => s.fabUp (fun f => { f with mps := f.mps.put p c })

/-- The vDSP with a remote binding to a GPID. -/
def State.remoteSlot (s : State) (g : Nat) : Option (Nat × Nat) :=
  (s.fwd.own.find? (fun e => s.get F.VST_SLOT_KIND [e.2.1, e.2.2] == 3 && s.get F.VST_SLOT_TARGET [e.2.1, e.2.2] == g)).map (fun e => e.2)

/-- A report of a remote port's link (R330, R331): a link that goes down without the host's command contains the vDSP. -/
def State.linkReport (s0 : State) (g : Nat) (up : Bool) (rate width : Nat) : State :=
  match s0.remoteSlot g with
  | none => s0
  | some (v, sl) =>
    let s : State := { s0 with vsx := { s0.vsx with remoteLink := s0.vsx.remoteLink.put (v, sl) (rate, width) } }
    if up then ({ s with vsx := { s.vsx with remoteUp := addNew s.vsx.remoteUp (v, sl) } }).refreshDll v sl
    else
      let was := s.vsx.remoteUp.contains (v, sl)
      let asked := s.vsx.remoteRst.contains (v, sl) || s.cf (.vdsp v sl) .slotPower == 1 || s.cf (.vdsp v sl) .linkDisable == 1
      let s1 : State := { s with vsx := { s.vsx with
        remoteUp := s.vsx.remoteUp.filter (· != (v, sl)), remoteRst := s.vsx.remoteRst.filter (· != (v, sl)) } }
      if was && !asked then ((s1.containVdsp v sl 5).settled) else s1.refreshDll v sl

end Sys2Proof.Machine
end

