-- ==== Sys2Proof/Machine/Resets.lean ====
section
/-!
DEFINITION. Resets of a host's hierarchy (R88 to R92, R123, R489, R575), the removal of remote bindings by their device (R332), and links that go down by their
role (R90, R124, R265, R266).
-/

namespace Sys2Proof.Machine

/-! ### Removing a binding of any kind -/

/-- A remote binding is removed by a fabric transaction: the acting Bellwether starts it, another device asks for it (R332, R334). -/
def State.unbindRemote (s : State) (v sl : Nat) (job : Option Nat) : State :=
  let g := s.get F.VST_SLOT_TARGET [v, sl]
  if s.acting then
    let own := s.devNum
    s.txnStart { chg := [(own, .unbind v sl), (g / 256, .runbind (g % 256))] ++ s.fab.devs.map (fun d => (d, .rwinClear g)),
                 devs := s.fab.devs, sets := [0, 1], job := job }
  else s.tellDev (s.get F.FAB_DEV_MGR []) (.relay (.unbindAsk s.devNum v sl g))

/-- Remove a binding outside a command that waits for it (R123). -/
def State.dropBinding (s : State) (v sl : Nat) : State :=
  if s.get F.VST_SLOT_KIND [v, sl] = 3 then s.unbindRemote v sl none else s.removeBinding v sl .none

/-- The parked ORDERLY unbind of a slot. -/
def State.unbindParked (s : State) (v sl : Nat) : Option McrJob :=
  (s.mgr.parked.find? (fun e => e.2 == .unbind v sl)).map (·.1)

/-- A reset of the upstream port completes every pending ORDERLY unbind of its virtual switch at once with OK (R123). -/
def State.resetUnbinds (s : State) (v : Nat) : State :=
  (s.vsx.unbinds.filter (fun u => u.vs == v)).foldl (fun (s : State) (u : UnbindWait) =>
    let j := s.unbindParked v u.slot
    let s1 := s.dropBinding v u.slot
    match j with
    | some j => s1.finish j stOk
    | none => s1) s

/-! ### Resets (R90, R575) -/

/-- The management function is reset (R92, R489): its configuration space returns to reset values, the firmware stops fetching and forgets the ring's
addresses, and the responses of its commands are not written. -/
def State.mgmtReset (s : State) : State :=
  let s1 := (s.cfReset (fun f => f == .mgmt) false).setB F.MGR_MCR_CFG_EN [] false
  (((s1.resetReg ⟨.MGR_CMD_BASE, []⟩).resetReg ⟨.MGR_RSP_BASE, []⟩).resetReg ⟨.MGR_DB_ADDR, []⟩).mgrUp (fun m => { m with
    gen := m.gen + 1, rsps := [], want := false })

/-- Reset the device of one binding: a hot reset of a physical port, an FLR of every member, a message for a remote port. -/
def State.resetBound (s : State) (v sl : Nat) : State :=
  match s.get F.VST_SLOT_KIND [v, sl] with
  | 1 => s.hotResetPort (s.get F.VST_SLOT_TARGET [v, sl] % 256)
  | 2 => (s.membersOf (s.get F.VST_SLOT_VDSP [v, sl])).foldl (fun (s : State) (m : Nat × Nat × Nat) => s.flrMember v sl m) s
  | 3 => ({ s with vsx := { s.vsx with remoteRst := addNew s.vsx.remoteRst (v, sl) } }).tellPort v sl .busReset
  | _ => s

/-- The allocated slots of a virtual switch. -/
def State.slotsOf (s : State) (v : Nat) : List Nat := below 32 (fun sl => s.on F.VST_SLOT_ALLOC [v, sl])

/-- Return the configuration space of functions of a virtual switch to reset values; what the slots show follows. A card that is in its slot
stays there. -/
def State.resetFns (s0 : State) (v : Nat) (p : FnId → Bool) (keepSticky : Bool) : State :=
  let was := (s0.slotsOf v).filter (fun sl => s0.get F.VST_SLOT_KIND [v, sl] == 3 && s0.cf (.vdsp v sl) .slotPower == 1)
  let s := s0.cfReset p keepSticky
  (s.slotsOf v).foldl (fun (s : State) (sl : Nat) =>
    let s1 := ((s.cfSet (.vdsp v sl) .presence (s.get F.VST_SLOT_PRESENT [v, sl])).setB F.VST_SLOT_LINK_ACTIVE [v, sl] false).slotSync v sl
    let s2 := s1.cfSet (.vdsp v sl) .dllActive 0
    let s3 := if s2.get F.VST_SLOT_KIND [v, sl] = 1 then
        let t := s2.get F.VST_SLOT_TARGET [v, sl] % 256
        (s2.portRest t).updPerst t
      else s2.when (was.contains sl) (·.tellPort v sl .powerOn)
    (((List.range 8).foldl (fun (s : State) (f : Nat) => s.memSync v sl f) s3)).refreshDll v sl) s

/-- Does an entry's egress or requester lie in a virtual switch (R252)? -/
def State.inScope (s : State) (v x : Nat) (e : TrkE) : Bool :=
  let p := s.upPort v
  e.egress == p || (decide (x < 36) && 4 * x + e.slot == p) || (match s.slotOfVdsp e.vdsp with | some (a, _) => a == v | none => false)

/-- The requests, devices and instances of a virtual switch under a reset of its whole scope (R90, R252, R376). -/
def State.resetScope (s : State) (v : Nat) : State :=
  let s1 := (s.expireAll (fun x e => s.inScope v x e)).settled
  let s2 := (s1.slotsOf v).foldl (fun (s : State) (sl : Nat) => s.resetBound v sl) s1
  (s2.instFlr v).targetLost v

/-- PERST_IN_N, a hot reset or DL_Down of the upstream port of a virtual switch: its link goes down, every function returns to reset values, sticky
bits included for PERST_IN_N, devices and instances are reset, and the forwarding tables stay (R90, R92, R123). -/
def State.hostReset (s : State) (v next : Nat) (keepSticky : Bool) : State :=
  let mgmt := s.on F.VST_STAT_MGMT [v]
  let s1 := ((s.resetUnbinds v).cutLink (s.upPort v) next).resetScope v
  let s2 := s1.resetFns v (fnOfVs (s1.instOfVs v) v) keepSticky
  (s2.when mgmt (·.mgmtReset)).queueSwap .fwd .none

/-- Secondary Bus Reset on the upstream port function: the vDSPs and the data mover port return to reset values; the link is unchanged (R90). -/
def State.busReset (s : State) (v : Nat) : State :=
  let s1 := (s.resetUnbinds v).resetScope v
  (s1.resetFns v (fun f => match f with | .dmp a | .vdsp a _ | .mem a _ _ => a == v | _ => false) true).queueSwap .fwd .none

/-- Secondary Bus Reset on one vDSP: that binding only, and the release of its containment starts (R90, R263). -/
def State.vdspReset (s : State) (v sl : Nat) : State :=
  let x := s.get F.VST_SLOT_VDSP [v, sl]
  let s1 := ((s.expireAll (fun _ e => e.vdsp == x)).settled).resetBound v sl
  s1.startRelease v sl

/-! ### A link goes down -/

/-- The reset row of a port whose link is lost or reset: an upstream port's host is reset, a downstream port is contained, a KFP port leaves its
trunk (R90, R124, R265, R298). -/
def State.linkLost (s : State) (p next : Nat) : State :=
  match s.role p with
  | 0 =>
    match s.vsOfPort p with
    | some v => s.hostReset v next true
    | none => s.cutLink p next
  | 1 => s.lostDown p next
  | _ => (s.memberLeave (p / 8) (p % 8) true).linkGone p next

/-- Is a port's link up at its Data Link Layer? -/
def State.dlUp (s : State) (p : Nat) : Bool :=
  decide (3 ≤ s.pget F.PP_STAT_LINK_STATE p) && decide (s.pget F.PP_STAT_LINK_STATE p ≤ 6)

/-- DL_Down of a port. -/
def State.dlDown (s : State) (p : Nat) : State := if s.dlUp p then s.linkLost p 1 else s

/-- A PERST_IN_N input is asserted: the upstream ports that follow it are reset and stay down until deassertion (R88, R90, R91). -/
def State.perstIn (s : State) (n : Nat) : State :=
  let s1 := s.lnkUp (fun x => { x with perstIn := addNew x.perstIn n })
  (List.range 144).foldl (fun (s : State) (p : Nat) =>
    if s.perstHeld p ∧ s.pget F.PP_RST_PERST_IN_SEL p = n ∧ s.pon F.PP_CTL_ENABLE p then
      match s.vsOfPort p with
      | some v => s.hostReset v 1 false
      | none => s.cutLink p 1
    else s) s1

/-- A hot reset arrives on an upstream port (R90, R91). -/
def State.hotReset (s : State) (p : Nat) : State :=
  if s.role p = 0 ∧ s.dlUp p = true then s.linkLost p 7 else s

/-! ### IDE failure (R95) -/

/-- A vDSP is contained with a posted-loss indication. -/
def State.containLoss (s : State) (v sl cause : Nat) : State :=
  ((((s.containVdsp v sl cause).cfSet (.vdsp v sl) .aerInternal 1).setB F.VST_CONT_POSTED_LOSS [v, sl] true).portEvent (s.upPort v) 4 1)

/-- A port's IDE integrity check fails (R95): the stream is Insecure, no TLP is accepted until new keys make it Secure, requests toward the port are answered, and
the vDSPs behind it, or those of its virtual switch, are contained with a posted-loss indication. -/
def State.ideFail (s : State) (p : Nat) : State :=
  if s.pon F.PP_STAT_IDE_SECURE p then
    let s1 := (((s.pset F.PP_STAT_IDE_SECURE p 0).pset F.PP_STAT_IDE_FAIL p 1).portEvent p 1 0).lnkUp (fun x => { x with
      ideBad := addNew x.ideBad p, ideKeys := x.ideKeys.filter (fun k => k.1 != p), ideSlot := x.ideSlot.del p })
    if s.role p = 1 then
      let l := s1.boundSlots p
      let s2 := l.foldl (fun (s : State) (x : Nat × Nat) => s.containLoss x.1 x.2 7) (s1.downPort p 7 false)
      if l.isEmpty then (s2.pset F.PT_CONT_POSTED_LOSS p 1).portEvent p 4 1 else s2
    else
      match s.vsOfPort p with
      | some v =>
        let s2 := s1.tombLive p (fun _ _ => true)
        (((s2.slotsOf v).filter (fun sl => s2.get F.VST_SLOT_KIND [v, sl] != 0)).foldl (fun (s : State) (sl : Nat) => s.containLoss v sl 7)
          (s2.cfSet (.up v) .aerInternal 1)).settled
      | none => s1.tombLive p (fun _ _ => true)
  else s

end Sys2Proof.Machine
end

