-- ==== Sys2Proof/Machine/McrOps.lean ====
section
/-!
DEFINITION. What each MCR command does once its checks have passed (R100 to R138, R221 to R241, R374, R409, R427, R428, R442, R484 to R502, R534): its own
rules with their statuses, its effect, and what follows when its swap, drain, reset or transaction is done.
-/

namespace Sys2Proof.Machine

/-! ### Virtual switches and bindings -/

/-- VS_CREATE (R102, R103): the tables change and a swap carries them. -/
def State.opVsCreate (s : State) (j : McrJob) (v p n : Nat) : State :=
  let st := s.vsCreateCheck v p n
  if st ≠ stOk then s.finish j st else ((s.vsMake v p n false).queueSwap .fwd .mcr).runOn j

/-- VS_DELETE, step 1 (R106). -/
def State.opVsDelete (s : State) (j : McrJob) (v : Nat) : State :=
  let st := s.vsDeleteCheck v
  if st ≠ stOk then s.finish j st else (((s.set F.VST_STAT_STATE [v] 2).vstBump).queueSwap .fwd .mcr).runOn j

/-- VS_DELETE, step 4, once its instances are reset and no entry names its port; otherwise the command waits (R106). -/
def State.vsDeleteGo (s : State) (j : McrJob) (v : Nat) : State :=
  if s.vsDeleteDone v then (s.vsFree v).finish j stOk else s.park j (.delete v)

/-- VS_TCMAP (R138). -/
def State.opVsTcmap (s : State) (j : McrJob) (v map : Nat) : State :=
  if s.get F.VST_STAT_STATE [v] ≠ 1 then s.finish j stBadState
  else if (List.range 8).any (fun k => map / 4 ^ k % 4 == 0) then s.finish j stBadTarget
  else (((s.wr ⟨.VST_TCMAP, [v]⟩ (packW [(0, 16, map)])).vstBump).queueSwap .fwd .mcr).runOn j

/-- VDSP_BIND of a physical port (R117, R572). -/
def State.opBind (s : State) (j : McrJob) (v sl p : Nat) : State :=
  let st := firstBad [s.slotCheck v sl, s.targetCheck p]
  if st ≠ stOk then s.finish j st else (s.bindPort v sl p .mcr).runOn j

/-- VDSP_BIND of a function group (R113, R114, R117). -/
def State.opBindGroup (s : State) (j : McrJob) (v sl : Nat) (ms : List (Nat × Nat × Nat)) : State :=
  let st := firstBad [s.slotCheck v sl, s.groupCheck ms]
  if st ≠ stOk then s.finish j st else (s.bindGroup v sl ms .mcr).runOn j

/-- VDSP_BIND of a remote port (R329): a fabric transaction of the two devices. -/
def State.opBindRemote (s : State) (j : McrJob) (v sl g : Nat) : State :=
  let own := s.devNum
  let a := if j.cx.dev = 0x3F then own else j.cx.dev
  let b := g / 256
  let root := s.get F.FAB_DEV_MGR []
  if !s.acting then s.finish j stBadState
  else if !s.fab.devs.contains a || (a != own && !s.reachesDev a) then s.finish j stUnreachable
  else if a = own ∧ s.slotCheck v sl ≠ stOk then s.finish j (s.slotCheck v sl)
  else if a = b ∨ !s.fab.devs.contains b ∨ (routeOf s.fab.links root a b).isNone ∨ (routeOf s.fab.links root b a).isNone then s.finish j stBadTarget
  else
    let u := if a = own then s.upPort v else j.env.up
    (s.park j .txn).txnStart { chg := [(a, .bind v sl g), (b, .rbind (g % 256) (a * 256 + u))], devs := [a, b], sets := [0], job := some j.id }

/-- Step 3 of R118 and the end of R120: the binding is removed, and the command waits for what it used to drain (R150), or for its transaction. -/
def State.unbind3 (s : State) (j : McrJob) (v sl : Nat) : State :=
  if s.get F.VST_SLOT_KIND [v, sl] = 3 then (s.park j .txn).unbindRemote v sl (some j.id)
  else
    let s1 := s.removeBinding v sl .none
    s1.park j (.drain (s1.fwd.epochs.lookD BankSet.fwd.code 0))

/-- Take back a pending unbind: UNBIND_PEND clears and its wait ends (R119, R121). -/
def State.unbindClear (s : State) (v sl : Nat) : State :=
  { s with vsx := { s.vsx with unbinds := s.vsx.unbinds.filter (fun u => !(u.vs == v && u.slot == sl)) } }.setB F.VST_SLOT_UNBIND_PEND [v, sl] false

/-- ORDERLY VDSP_UNBIND (R118, R121, R572). -/
def State.opUnbindOrderly (s : State) (j : McrJob) (v sl w : Nat) : State :=
  if !s.slotThere v sl then s.finish j stBadTarget
  else if s.on F.VST_SLOT_UNBIND_PEND [v, sl] then s.finish j stBusy
  else if s.get F.VST_SLOT_KIND [v, sl] = 0 then s.finish j stBadState
  else
    let s1 := ((s.setB F.VST_SLOT_UNBIND_PEND [v, sl] true).cfSet (.vdsp v sl) .attnButton 1).slotIrq v sl
    if s1.cf (.vdsp v sl) .slotPower = 1 then s1.unbind3 j v sl
    else
      let u : UnbindWait := { vs := v, slot := sl, seq := j.seq, till := s.now + w * 1000000000 }
      ({ s1 with vsx := { s1.vsx with unbinds := s1.vsx.unbinds ++ [u] } } : State).park j (.unbind v sl)

/-- FORCED VDSP_UNBIND (R120, R121): a pending ORDERLY unbind completes first, with ABORTED. -/
def State.opUnbindForced (s : State) (j : McrJob) (v sl : Nat) : State :=
  if !s.slotThere v sl then s.finish j stBadTarget
  else if s.get F.VST_SLOT_KIND [v, sl] = 0 then s.finish j stBadState
  else
    let s1 := match s.unbindParked v sl with
      | some o => (s.finish o stAborted).unbindClear v sl
      | none => s
    let x := s1.get F.VST_SLOT_VDSP [v, sl]
    let s2 := (((s1.containLoss v sl 8).expireAll (fun _ e => e.vdsp == x))).settled
    s2.unbind3 j v sl

/-- The host turns slot power off while an ORDERLY unbind is pending: step 3 of R118 follows. -/
def State.unbindPower (s : State) (v sl : Nat) : State :=
  match s.unbindParked v sl with
  | some j => s.unbind3 j v sl
  | none => s

/-- The wait of an ORDERLY unbind ends (R119). -/
def State.unbindTimeout (s : State) (v sl : Nat) : State :=
  match s.unbindParked v sl with
  | some j =>
    if s.vsx.unbinds.any (fun u => u.vs == v && u.slot == sl && decide (u.till ≤ s.now)) then ((s.finish j stTimeout).unbindClear v sl).event .vst 1 else s
  | none => s

/-- VDSP_ERRCFG (R253, R572). -/
def State.opErrCfg (s : State) (j : McrJob) (v sl b : Nat) : State :=
  if !s.slotThere v sl then s.finish j stBadTarget else (s.set F.VST_CONT_SYNTH_READ [v, sl] b).finish j stOk

/-- The function binding entries of a vDSP, in increasing order. -/
def State.entriesOfVdsp (s : State) (x : Nat) : List Nat :=
  let l := s.snap.fbs.filter (fun k => s.get F.VST_FB_A_VDSP [k] == x)
  below 4096 (fun k => l.contains k)

/-- What BIND_READ writes for one member: six entries of host BAR address and real address, unused entries 0 (R129, R484). -/
def State.barBytes (s : State) (v sl f : Nat) : List Byte :=
  padTo 96 ((s.fwd.bars.lookD (v, sl, f) []).flatMap (fun b => leBytes 8 (s.cf (.mem v sl f) (.bar b.k)) ++ leBytes 8 b.real))

/-- BIND_READ (R129, R572). -/
def State.opBindRead (s : State) (j : McrJob) (v sl buf : Nat) : State :=
  if !s.slotThere v sl then s.finish j stBadTarget
  else if s.get F.VST_SLOT_KIND [v, sl] ≠ 2 then s.finish j stOk
  else
    let d := (s.entriesOfVdsp (s.get F.VST_SLOT_VDSP [v, sl])).flatMap (fun k => s.barBytes v sl (s.get F.VST_FB_A_PFUNC [k]))
    let s1 := s.emit (.hostWrite .mgmt buf d)
    if j.env.ok then s1.finish j stOk (leBytes 16 d.length) else s1.finish j stHostIo

/-! ### Shared ports (R110, R112) -/

/-- Do functions fit the private ranges: buses from 1 on, BARs within the memory range (R110)? -/
def fnsFit (l : List SharedFn) (buses base limit : Nat) : Bool :=
  l.all (fun f => decide (1 ≤ f.rid / 256) && decide (f.rid / 256 ≤ buses) &&
    f.bars.all (fun b => decide (base ≤ b.real) && decide (b.real + b.size ≤ limit + 1)))

/-- SHARED_PORT_SET (R110, R226): the functions that the firmware found. -/
def State.opSharedSet (s : State) (j : McrJob) (p buses mps mrrs base limit : Nat) : State :=
  if s.pget F.PP_CTL_ROLE p ≠ 1 then s.finish j stBadTarget
  else if s.shared p then s.finish j stBadState
  else if s.portTaken p || s.winNames p then s.finish j stConflict
  else
    match j.env.fns with
    | none => s.finish j stBadTarget
    | some l =>
      if fnsFit l buses base limit then
        let x : SharedPort := { port := p, buses := buses, memBase := base, memSize := limit + 1 - base, mps := mps, mrrs := mrrs, fns := l }
        ({ s with vsx := { s.vsx with shared := s.vsx.shared ++ [x] } } : State).finish j stOk
      else s.finish j stBadTarget

/-- SHARED_PORT_CLR (R484). -/
def State.opSharedClr (s : State) (j : McrJob) (p : Nat) : State :=
  if !s.shared p || s.snap.fbs.any (fun k => s.get F.VST_FB_A_SHARED_PORT [k] == p) then s.finish j stBadState
  else
    ({ s with vsx := { s.vsx with shared := s.vsx.shared.filter (fun x => x.port != p), reconfig := s.vsx.reconfig.filter (· != p) } } : State).finish j
      stOk

/-- FN_CFG (R112, R127): one configuration request with the proxy requester ID of the owner host, under a free egress tag. -/
def State.opFnCfg (s : State) (j : McrJob) (p rid off w be data : Nat) : State :=
  if !s.shared p then s.finish j stBadTarget
  else if (s.snap.fbByRid p rid).isSome then s.finish j stBadState
  else if !s.inL0 p then s.finish j stTimeout
  else
    let tag := ((List.range 16384).find? (fun t => (s.fwd.tags.look (p, t)).isNone)).getD 0
    let s1 := s.emit (.tlp p { kind := if w = 1 then .cfgwr else .cfgrd, rid := 255, tag := tag, tid := rid, addr := off, len := 4,
                               data := if w = 1 then leBytes 4 data else [], fld := .other off, code := be })
    match j.env.cpl with
    | none => s1.finish j stTimeout
    | some (st, d) => s1.finish j stOk (leBytes 4 (if w = 0 ∧ st = 0 then d else 0) ++ leBytes 1 st)

/-! ### Instances (R409) -/

/-- Does a range of virtual-function instances meet the range of another virtual switch? -/
def State.vfTaken (s : State) (v first n : Nat) : Bool :=
  (List.range 48).any (fun u => u != v && decide (s.get F.DMG_VF_FIRST [u] < first + n) &&
    decide (first < s.get F.DMG_VF_FIRST [u] + s.get F.DMG_VF_COUNT [u]))

/-- DM_VF_SET (R409): the lowest contiguous fit. -/
def State.opDmVf (s : State) (j : McrJob) (v n : Nat) : State :=
  if s.get F.VST_STAT_STATE [v] ≠ 1 ∨ s.cf (.dmf v) .vfEnable = 1 then s.finish j stBadState
  else
    match (List.range 1025).find? (fun f => decide (f + n ≤ 1024) && !s.vfTaken v f n) with
    | none => s.finish j stNoResource
    | some f =>
      let old := s.vfsOf v
      let s1 := old.foldl (fun (s : State) (i : Nat) => s.set F.DM_ID_VS [i] 0) s
      let s2 := ((s1.set F.DMG_VF_COUNT [v] n).set F.DMG_VF_FIRST [v] (if n = 0 then 0 else f)).ownInst v
      let new := s2.vfsOf v
      (s2.clearRegs (fun r => r.n == .DMG_CNT && (match r.ix with | [i, _] => new.contains i | _ => false))).finish j stOk

/-! ### Windows and gates (R221, R227, R228, R238, R480, R488) -/

/-- Remember that the acting device has written the inactive bank of a set on a device (R480: DEV 0x3E). -/
def State.fabWrote (s : State) (k dev : Nat) : State := s.fabUp (fun f => { f with written := addNew f.written (k, dev) })

/-- WIN_WRITE (R221, R222, R227, R333). -/
def State.opWinWrite (s : State) (j : McrJob) (b p e flags base limit mask dst : Nat) : State :=
  if b = s.winBank then s.finish j stBankActive
  else if claimed s.mgr.winClaim j.cx then s.finish j stBusy
  else if s.winLawful p flags base limit then
    (((s.winPut b p e flags base limit mask dst).mgrUp (fun m => { m with winClaim := some (claimer j.cx) })).fabWrote 1 s.devNum).finish j stOk
  else s.finish j stBadTarget

/-- WIN_SWAP on this device (R228). -/
def State.opWinSwap (s : State) (j : McrJob) : State :=
  if claimed s.mgr.winClaim j.cx then s.finish j stBusy
  else
    let r := s.winCheckSwap
    if r.2 ≠ stOk then r.1.finish j r.2 else (r.1.queueSwap .win .mcr).runOn j

/-- GATE_WRITE (R227, R238, R241). -/
def State.opGateWrite (s : State) (j : McrJob) (b slot part en v o t base limit : Nat) : State :=
  if b = s.gateActive then s.finish j stBankActive
  else if claimed s.mgr.gateClaim j.cx then s.finish j stBusy
  else if s.gateWriteOk slot part en v o t base limit then
    (((s.gatePut b slot part en v o t base limit).mgrUp (fun m => { m with gateClaim := some (claimer j.cx) })).fabWrote 2 s.devNum).finish j stOk
  else s.finish j stBadTarget

/-- GATE_SWAP on this device (R228). -/
def State.opGateSwap (s : State) (j : McrJob) : State :=
  if claimed s.mgr.gateClaim j.cx then s.finish j stBusy
  else
    let r := s.gateCheckSwap
    if r.2 ≠ stOk then r.1.finish j r.2 else (r.1.queueSwap .gate .mcr).runOn j

/-- A swap of every device whose inactive bank has been written: a fabric transaction (R321, R480). Sets: 1 windows, 2 gates. -/
def State.opSwapAll (s : State) (j : McrJob) (k : Nat) : State :=
  let devs := (s.fab.written.filter (fun x => x.1 == k)).map (fun x => x.2)
  if !s.acting then s.finish j stBadState
  else if devs.contains s.devNum && claimed (if k = 1 then s.mgr.winClaim else s.mgr.gateClaim) j.cx then s.finish j stBusy
  else (s.park j .txn).txnStart { devs := devs, sets := [k], job := some j.id }

/-- BANK_RESET (R484): the inactive bank copies the active one, and the claim of the set ends. -/
def State.opBankReset (s : State) (j : McrJob) (k : Nat) : State :=
  if k = 0 then ((s.copyWin.mgrUp (fun m => { m with winClaim := none })).fabWritten 1).finish j stOk
  else ((s.copyGate.mgrUp (fun m => { m with gateClaim := none })).fabWritten 2).finish j stOk

/-! ### Reach entries (R374, R375) -/

/-- Is an instance one of an Active virtual switch (R374)? -/
def State.instActive (s : State) (i : Nat) : Bool :=
  (List.range 48).any (fun v => s.get F.VST_STAT_STATE [v] == 1 && (s.instOfVs v).contains i)

/-- REACH_SET: the handle is GEN above the entry's index. -/
def State.opReachSet (s : State) (j : McrJob) (e k flags si tv ti base limit : Nat) : State :=
  let ok := s.instActive si && (if k = 0 then s.get F.VST_STAT_STATE [tv] == 1 else s.instActive ti)
  if !ok then s.finish j stBadTarget
  else if s.on F.DMG_REACH_VALID [e] then s.finish j stBadState
  else
    let g := s.get F.DMG_REACH_GEN [e]
    let w := packW [(0, 1, 1), (1, 4, g), (5, 1, k), (6, 3, flags), (16, 11, si), (32, 6, if k = 0 then tv else 0), (48, 11, if k = 1 then ti else 0)]
    (((s.wr ⟨.DMG_REACH, [e]⟩ w).wr ⟨.DMG_REACH_BASE, [e]⟩ (BitVec.ofNat 64 (if k = 0 then base else 0))).wr ⟨.DMG_REACH_LIMIT, [e]⟩
      (BitVec.ofNat 64 (if k = 0 then limit else 0))).finish j stOk (leBytes 2 (g * 4096 + e))

/-- A REACH_CLEAR is complete once nothing uses the entry (R375). -/
def State.reachClearGo (s : State) (j : McrJob) (e : Nat) : State :=
  if s.get F.DMG_REACH_USE_USE [e] = 0 then (s.event .dmg 0).finish j stOk else s.park j (.reach e)

/-- REACH_CLEAR: VALID clears and GEN advances. -/
def State.opReachClear (s : State) (j : McrJob) (e : Nat) : State :=
  if s.on F.DMG_REACH_VALID [e] then ((s.setB F.DMG_REACH_VALID [e] false).incr F.DMG_REACH_GEN [e]).reachClearGo j e else s.finish j stBadState

/-! ### Images (R425 to R428) -/

/-- The rules of R425 for an image of a kind, with its length. -/
def imageOk (kind len : Nat) (b : List Byte) : Bool :=
  let cl := leAt b 8 4
  let dl := leAt b 12 4
  let fl := leAt b 6 2
  let en := leAt b 16 4
  decide (64 ≤ b.length) && leAt b 0 4 == 0x4F504C4D && leAt b 4 1 == 1 && leAt b 5 1 == kind && decide (fl ≤ 3) && (fl / 2 == 0 || fl % 2 == 1) &&
  decide (cl % 4 = 0) && decide (4 ≤ cl) && decide (cl ≤ if kind = 0 then 16384 else 65536) &&
  decide (dl % 8 = 0) && decide (dl ≤ if kind = 0 then 8192 else 262144) && decide (en % 4 = 0) && decide (en < cl) &&
  (if kind = 0 then decide (1 ≤ leAt b 20 4) && decide (leAt b 20 4 ≤ 1000000) && decide (leAt b 24 4 ≤ 2 ^ 30)
    else leAt b 20 4 == 0 && leAt b 24 4 == 0) &&
  leAt b 38 2 == 0 && len == 64 + cl + dl + 384 && b.length == len

/-- What the signature covers, and the signature (R425, R426). -/
def imageSigned (b : List Byte) : List Byte × List Byte :=
  let n := 64 + leAt b 8 4 + leAt b 12 4
  (b.take n, (b.drop n).take 384)

/-- The modulus of an operator key slot that may verify: fused, not revoked, and its hash agrees with the fuses (R426, R500, R501). -/
def State.operKey (s : State) (k : Nat) : Option (List Byte) :=
  if k < 4 ∧ (s.get F.SEC_FUSE_O_FUSED []).testBit k = true ∧ (s.get F.SEC_FUSE_O_REVOKED []).testBit k = false ∧
      Config.sha256 (s.sec.moduli.lookD k []) = s.sec.oper.lookD k [] then s.sec.moduli.look k else none

/-- The verification of an operator program (R425, R426, R502), 0 if it passes. -/
def State.progVerify (s : State) (len : Nat) (b : List Byte) : Nat :=
  if !imageOk 0 len b then stBadImage
  else
    match s.operKey (leAt b 36 2) with
    | none => stAuthFail
    | some m =>
      let x := imageSigned b
      if !Config.rsaVerify m x.1 x.2 then stAuthFail else if leAt b 32 4 < s.get F.SEC_FUSE_MIN_PROG [] then stRollback else stOk

/-- PROG_LOAD (R427). -/
def State.opProgLoad (s : State) (j : McrJob) (p addr len mask : Nat) : State :=
  let st := s.get F.DMG_PROG_STATE [p]
  if s.secDown then s.finish j stTimeout
  else if st = 1 ∨ st = 3 then s.finish j stBusy
  else if st = 2 then s.finish j stBadState
  else
    let s0 := s.emit (.hostRead .mgmt addr len)
    match j.env.buf with
    | none => s0.finish j stHostIo
    | some b =>
      let r := s0.progVerify len b
      if r ≠ stOk then (if r = stAuthFail then s0.event .sec 4 else s0).finish j r
      else
        let s1 := (below 16 (fun k => s0.mcIn k)).foldl (fun (s : State) (k : Nat) => s.installProg k p b) s0
        let w := packW [(0, 2, 2), (2, 2, leAt b 6 2), (4, 20, leAt b 20 4), (32, 32, leAt b 28 4)]
        let s2 := ((s1.wr ⟨.DMG_PROG, [p]⟩ w).set F.DMG_PROG_MASK_VS_MASK [p] mask).wr ⟨.DMG_PROG_LEN, [p]⟩
          (packW [(0, 31, leAt b 24 4), (32, 32, leAt b 32 4)])
        let s3 := (s2.muleUp (fun u => { u with images := u.images.put p b })).secUp (fun x => { x with
          meas := x.meas.put (8 + p) (Config.sha256 (b.take 64 ++ (imageSigned b).2)) })
        (s3.event .dmg 1).finish j stOk

/-- A Draining slot that nothing uses is Empty, and its command completes (R428). -/
def State.progUnloadGo (s : State) (j : McrJob) (p : Nat) : State :=
  if s.get F.DMG_PROG_USE_USE [p] = 0 then
    let s1 := ((s.resetReg ⟨.DMG_PROG, [p]⟩).resetReg ⟨.DMG_PROG_MASK, [p]⟩).resetReg ⟨.DMG_PROG_LEN, [p]⟩
    let s2 := (List.range 16).foldl (fun (s : State) (k : Nat) => s.resetReg ⟨.MCL_PROG, [k, p]⟩) s1
    let s3 := (s2.muleUp (fun u => { u with images := u.images.del p })).secUp (fun x => { x with meas := x.meas.put (8 + p) (List.replicate 32 0) })
    (s3.event .dmg 1).finish j stOk
  else s.park j (.prog p)

/-- PROG_UNLOAD (R428). -/
def State.opProgUnload (s : State) (j : McrJob) (p : Nat) : State :=
  if s.get F.DMG_PROG_STATE [p] = 2 then ((s.set F.DMG_PROG_STATE [p] 3).event .dmg 1).progUnloadGo j p else s.finish j stBadState

/-! ### Shapers, IDE, statistics (R94, R442, R534) -/

/-- SHAPE_SET (R442). -/
def State.opShapeSet (s : State) (j : McrJob) (x : Nat) (cfg lim : W64) : State :=
  if 1839 < x then s.finish j stBadTarget
  else
    let s1 := ((s.wr ⟨.SH_CFG, [x]⟩ (readWord (RN.fields .SH_CFG) cfg)).wr ⟨.SH_LIM, [x]⟩ (readWord (RN.fields .SH_LIM) lim)).shLoad x
    (s1.clearRegs (fun r => r.n == .PMG_SHCNT && (match r.ix with | [y, _] => y == x | _ => false))).finish j stOk

/-- The stream of a port takes new keys on a slot and becomes Secure (R93 to R95). -/
def State.ideSecure (s : State) (p slot : Nat) : State :=
  ((s.lnkUp (fun x => { x with
    ideKeys := addNew x.ideKeys (p, slot), ideSlot := x.ideSlot.put p slot, ideBad := x.ideBad.filter (· != p) })).pset F.PP_STAT_IDE_SECURE p 1).updSaf p

/-- The stream of a port ends. -/
def State.ideStop (s : State) (p : Nat) : State :=
  ((s.lnkUp (fun x => { x with ideKeys := x.ideKeys.filter (fun k => k.1 != p), ideSlot := x.ideSlot.del p })).pset F.PP_STAT_IDE_SECURE p 0).updSaf p

/-- IDE_KEY (R94): start, new keys, stop. IDE_KM with the device succeeds or fails. -/
def State.opIdeKey (s : State) (j : McrJob) (p op : Nat) : State :=
  if s.role p ≠ 1 then s.finish j stBadTarget
  else if op = 2 then (s.ideStop p).finish j stOk
  else if op = 1 ∧ s.pon F.PP_STAT_IDE_SECURE p = false ∧ s.lnk.ideBad.contains p = false then s.finish j stBadState
  else if s.secDown || !(j.env.ok && s.inL0 p) then s.finish j stTimeout
  else (s.ideSecure p (if op = 0 then 0 else 1 - s.lnk.ideSlot.lookD p 1)).finish j stOk

/-- The elements and counters of a group of STATS_SNAP (R534). -/
def statsShape (g : Nat) : Nat × Nat := [(144, 24), (36, 4), (96, 16), (64, 8), (18, 16), (1072, 8), (1840, 3), (1, 5), (144, 4)].getD g (0, 0)

/-- Is the station of an element powered and in service (R534)? -/
def State.statsValid (s : State) (g i : Nat) : Bool :=
  match g with
  | 0 | 8 => s.powered (i / 4)
  | 1 => s.powered i
  | 2 => s.rtrOk i
  | 3 => s.powered (36 + i / 4) && s.muleIn i
  | 4 => s.powered (2 * i)
  | _ => true

/-- The register of a counter of a group's element. -/
def statsReg (g i c : Nat) : Reg :=
  match g with
  | 0 => ⟨.PT_CNT, [i / 4, i % 4, c]⟩
  | 1 => ⟨.PT_TCNT, [i, c]⟩
  | 2 => ⟨.RTR_CNT, [i, c]⟩
  | 3 => ⟨.MCL_CNT, [i / 4, i % 4, c]⟩
  | 4 => ⟨.FAB_CNT, [i, c]⟩
  | 5 => ⟨.DMG_CNT, [i, c]⟩
  | 6 => ⟨.PMG_SHCNT, [i, c]⟩
  | 7 => ⟨.PMG_CNT, [c]⟩
  | _ => ⟨.PT_BW_LATCH, [i / 4, i % 4, c]⟩

/-- The bytes of one element (R534). -/
def State.statsElem (s : State) (g i : Nat) : List Byte :=
  let ok := s.statsValid g i
  leBytes 8 (i + 65536 * bit ok) ++ (List.range (statsShape g).2).flatMap (fun c => leBytes 8 (if ok then (s.rd (statsReg g i c)).toNat else 0))

/-- STATS_SNAP (R534): a 16-byte header, then the elements. -/
def State.opStatsSnap (s : State) (j : McrJob) (g first n buf : Nat) : State :=
  if (statsShape g).1 < first + n then s.finish j stBadField
  else
    let d := leBytes 2 g ++ leBytes 2 first ++ leBytes 2 n ++ [0, 0] ++ leBytes 8 s.now ++ (List.range n).flatMap (fun i => s.statsElem g (first + i))
    let s1 := s.emit (.hostWrite .mgmt buf d)
    if j.env.ok then s1.finish j stOk (leBytes 16 d.length) else s1.finish j stHostIo

/-! ### The journal mirror, keys, rollback, restart (R492, R500 to R502, R506) -/

/-- JNL_MIRROR (R492): the entry of this command is the first that is copied. -/
def State.opJnlMirror (s : State) (j : McrJob) (size en base db : Nat) : State :=
  if en = 1 then
    (((s.setB F.MGR_JNL_STAT_MIRROR_EN [] true).set F.MGR_JNL_STAT_MIRRORED [] 0).mgrUp (fun m => { m with
      mirBase := base, mirDb := db, mirSize := size, mirNext := s.get F.MGR_JNL_SEQ_SEQ [], mirHead := 0, mirPause := false })).finish j stOk
  else (s.setB F.MGR_JNL_STAT_MIRROR_EN [] false).finish j stOk

/-- Measurement 6: the fused key hashes, revocations and SVN minimums (R503). -/
def State.fuseMeas (s : State) : State :=
  s.secUp (fun x => { x with meas := x.meas.put 6 (Config.sha256 ((List.range 4).flatMap (fun k => padTo 32 (x.vendor.lookD k [])) ++
    (List.range 4).flatMap (fun k => padTo 32 (x.oper.lookD k [])) ++ leBytes 8 (s.rd ⟨.SEC_FUSE, []⟩).toNat)) })

/-- KEY_FUSE (R500). -/
def State.opKeyFuse (s : State) (j : McrJob) (k addr : Nat) : State :=
  if (s.get F.SEC_FUSE_O_FUSED []).testBit k then s.finish j stBadState
  else
    let s0 := s.emit (.hostRead .mgmt addr 384)
    match j.env.buf with
    | none => s0.finish j stHostIo
    | some b =>
      if !j.env.ok then s0.finish j stFuseFail
      else
        let m := padTo 384 b
        (((s0.set F.SEC_FUSE_O_FUSED [] (s0.get F.SEC_FUSE_O_FUSED [] ||| (1 <<< k))).secUp (fun x => { x with
          oper := x.oper.put k (Config.sha256 m), moduli := x.moduli.put k m })).fuseMeas).finish j stOk

/-- Is a vendor slot the last that is not revoked? -/
def State.lastVendor (s : State) (k : Nat) : Bool :=
  (List.range 4).all (fun i => i == k || (s.get F.SEC_FUSE_V_REVOKED []).testBit i)

/-- KEY_REVOKE (R501). -/
def State.opKeyRevoke (s : State) (j : McrJob) (kind k : Nat) : State :=
  if kind = 0 ∧ (k = s.sec.keyId ∨ s.lastVendor k = true) then s.finish j stBadState
  else if kind = 0 then ((s.set F.SEC_FUSE_V_REVOKED [] (s.get F.SEC_FUSE_V_REVOKED [] ||| (1 <<< k))).fuseMeas).finish j stOk
  else ((s.set F.SEC_FUSE_O_REVOKED [] (s.get F.SEC_FUSE_O_REVOKED [] ||| (1 <<< k))).fuseMeas).finish j stOk

/-- SVN_COMMIT (R502): a minimum never falls, and for images never passes that of the running image. -/
def State.opSvnCommit (s : State) (j : McrJob) (kind v : Nat) : State :=
  let f := if kind = 0 then F.SEC_FUSE_MIN_BOOT else if kind = 1 then F.SEC_FUSE_MIN_MULE else F.SEC_FUSE_MIN_PROG
  let top := if kind = 0 then s.get F.SEC_BOOT_SVN [] else if kind = 1 then s.sec.muleSvn else 64
  if v < s.get f [] ∨ top < v then s.finish j stBadField else ((s.set f [] v).fuseMeas).finish j stOk

/-- MGMT_RESTART (R506): the entry and the response are written, then the cores are reset. -/
def State.opMgmtRestart (s : State) (j : McrJob) : State := (s.finish j stOk).mgrUp (fun m => { m with restart := some 1 })

/-! ### The executor -/

/-- The commands that a Prepared device refuses to its owner host (R323). -/
def preparedRefuses : McrOp → Bool
  | .winSwap | .gateSwap | .bind _ _ _ | .bindGroup _ _ _ | .bindRemote _ _ _ | .unbind _ _ _ _ => true
  | _ => false

/-- The bank sets that a command writes or swaps. -/
def opSets : McrOp → List Nat
  | .winWrite _ _ _ _ _ _ _ _ | .winSwap => [1]
  | .gateWrite _ _ _ _ _ _ _ _ _ | .gateSwap => [2]
  | .bankReset k => [k + 1]
  | _ => []

/-- Carry out a command on this device. -/
def State.runHere (s : State) (j : McrJob) (o : McrOp) : State :=
  match o with
  | .nop => s.finish j stOk
  | .bankReset k => s.opBankReset j k
  | .vsCreate v p n => s.opVsCreate j v p n
  | .vsDelete v => s.opVsDelete j v
  | .vsTcmap v m => s.opVsTcmap j v m
  | .bind v sl p => s.opBind j v sl p
  | .bindGroup v sl ms => s.opBindGroup j v sl ms
  | .bindRemote v sl g => s.opBindRemote j v sl g
  | .unbind v sl m w => if m = 0 then s.opUnbindOrderly j v sl w else s.opUnbindForced j v sl
  | .errCfg v sl b => s.opErrCfg j v sl b
  | .bindRead v sl b => s.opBindRead j v sl b
  | .sharedSet p b m r ba li _ => s.opSharedSet j p b m r ba li
  | .sharedClr p => s.opSharedClr j p
  | .fnCfg p r off w be d => s.opFnCfg j p r off w be d
  | .dmVf v n => s.opDmVf j v n
  | .winWrite b p e f ba li m d => s.opWinWrite j b p e f ba li m d
  | .winSwap => s.opWinSwap j
  | .gateWrite b sl pt en v o t ba li => s.opGateWrite j b sl pt en v o t ba li
  | .gateSwap => s.opGateSwap j
  | .reachSet e k f si tv ti ba li => s.opReachSet j e k f si tv ti ba li
  | .reachClear e => s.opReachClear j e
  | .progLoad p a l m => s.opProgLoad j p a l m
  | .progUnload p => s.opProgUnload j p
  | .shapeSet x c l => s.opShapeSet j x c l
  | .ideKey p op => s.opIdeKey j p op
  | .statsSnap g f n b => s.opStatsSnap j g f n b
  | .jnlMirror n e b d => s.opJnlMirror j n e b d
  | .keyFuse k a => s.opKeyFuse j k a
  | .keyRevoke kd k => s.opKeyRevoke j kd k
  | .svnCommit kd v => s.opSvnCommit j kd v
  | .mgmtRestart => s.opMgmtRestart j

/-- A command for another device goes there through the relay, and waits for its answer (R338, R483, R485). -/
def State.runThere (s : State) (j : McrJob) : State :=
  if s.acting && s.fab.devs.contains j.cx.dev && s.reachesDev j.cx.dev then
    (s.tellDev j.cx.dev (.relay (.mcr j.entry))).park j (.remote j.cx.dev)
  else s.finish j stUnreachable

/-- Is a remote binding the command? -/
def isBindRemote : McrOp → Bool
  | .bindRemote _ _ _ => true
  | _ => false

/-- Carry out a command whose checks have passed (R323, R480, R486, R574). -/
def State.runOp (s : State) (j : McrJob) : State :=
  match j.op with
  | none => s.finish j j.bad
  | some o =>
    if j.cx.dev = 0x3E then s.opSwapAll j (if o = .winSwap then 1 else 2)
    else if j.cx.dev ≠ 0x3F ∧ j.cx.dev ≠ s.devNum ∧ isBindRemote o = false then s.runThere j
    else if (s.get F.FAB_TXN_STATE [] = 1 ∧ j.cx.orig = 0 ∧ preparedRefuses o = true) ∨ s.setSwapping (opSets o) = true then s.finish j stBusy
    else if hostBuffer o ∧ s.hostIo = false then s.park j .hostIo
    else s.runHere j o

/-- Start the commands that may start (R486). -/
def State.mcrKick (s : State) : State := s.kick State.runOp (s.mgr.queue.length + 1)

/-- A command arrives, and runs if it may (R486). -/
def State.submit (s : State) (j : McrJob) : State := (s.arrive j).mcrKick

/-- The direct command of a row: its header, its operation, and what the world answers. -/
def State.direct (s : State) (cx : McrCx) (o : McrOp) (env : McrEnv) : State :=
  s.submit { cx := cx, op := some o, entry := entryOf cx o, env := env }

/-- What follows when the swap of a running command has completed (R487). -/
def State.contOp (s : State) (j : McrJob) : State :=
  match j.op with
  | some (.vsDelete v) => (s.vsDeleteRun v).vsDeleteGo j v
  | some (.bind v sl _) => (s.bindShow v sl).finish j stOk
  | some (.bindGroup v sl _) => (s.bindShow v sl).finish j stOk
  | _ => s.finish j stOk

/-- A parked command whose wait may be over (R486): it goes on, or keeps waiting. A remote device's answer and the end of a transaction of another device
bring a status and a result. -/
def State.resume (s : State) (j : McrJob) (k : ParkK) (status : Nat) (result : List Byte) : State :=
  match k with
  | .unbind v sl => if s.cf (.vdsp v sl) .slotPower = 1 then s.unbind3 j v sl else s
  | .drain e => if s.drained e then s.finish j stOk else s
  | .prog p => if s.get F.DMG_PROG_USE_USE [p] = 0 then s.progUnloadGo j p else s
  | .reach e => if s.get F.DMG_REACH_USE_USE [e] = 0 then s.reachClearGo j e else s
  | .delete v => if s.vsDeleteDone v then s.vsDeleteGo j v else s
  | .txn => if !s.acting && status != stOk then s.finish j status else s
  | .remote d =>
    let s1 := match j.op with
      | some (.winWrite _ _ _ _ _ _ _ _) => s.when (status == stOk) (·.fabWrote 1 d)
      | some (.gateWrite _ _ _ _ _ _ _ _ _) => s.when (status == stOk) (·.fabWrote 2 d)
      | some o => s.when (status == stOk) (·.fabUp (fun f => { f with written := f.written.filter (fun x => !(x.2 == d && (opSets o).contains x.1)) }))
      | none => s
    s1.relayed j status result
  | .hostIo => if s.hostIo then s.runOp j else s

/-- PARKED_COMMAND_RESUME: the parked command at a place in the list of parked commands. -/
def State.resumeAt (s : State) (n status : Nat) (result : List Byte) : State :=
  match s.mgr.parked[n]? with
  | some (j, k) => if s.restarting then s else (s.resume j k status result).mcrKick
  | none => s

/-- Complete the parked commands whose drains have ended, and free what drained (R149, R150). -/
def State.drainGo (s0 : State) : State :=
  let s := s0.updDrain
  let s1 := s.mgr.parked.foldl (fun (s : State) (x : McrJob × ParkK) => match x.2 with
    | .drain e => if s.drained e && !s.restarting then s.finish x.1 stOk else s
    | _ => s) s
  s1.freeDrained

/-! ### Swaps that complete (R146, R228) -/

/-- Measurement 7: the active gate bank (R503). -/
def State.gateMeas (s : State) : State :=
  let b := s.gateActive
  s.secUp (fun x => { x with meas := x.meas.put 7 (Config.sha256 ((List.range 256).flatMap (fun sl =>
    leBytes 4 (s.rd ⟨.SEC_GATE_BASE, [b, sl]⟩).toNat ++ leBytes 8 (s.rd ⟨.SEC_GATE_SUB, [b, sl, 0]⟩).toNat ++
      leBytes 8 (s.rd ⟨.SEC_GATE_SUB, [b, sl, 1]⟩).toNat))) })

/-- What follows a completed swap. -/
def State.afterSwap (s : State) (a : After) : State :=
  match a with
  | .none => s
  | .mcr =>
    match s.mgr.run with
    | some j => s.contOp j
    | none => s
  | .fab => if s.fwd.swaps.any (fun w => w.after == .fab) then s else s.fabDone.txnCheck
  | .cpl port t => (s.answerTlp port 0 (cplFor t 0 t.tid)).schedule port

/-- Take the acknowledgements of swaps off the inbox of MGT0. -/
def State.takeAcks : Nat → State → State
  | 0, s => s
  | n + 1, s =>
    match s.popMsg stnMgt0 (fun m => match m with | .swapAck _ _ => true | _ => false) with
    | some (.swapAck b x, s1) => State.takeAcks n (s1.swapAck b x)
    | _ => s

/-- SWAP_COMPLETE: every station that is waited for has swapped (R146, R228, R571). The swap of an MCR command completes after a management
restart that is under way (R507). -/
def State.swapComplete (s0 : State) : State :=
  let s := State.takeAcks ((s0.mesh.inbox.lookD stnMgt0 []).length) s0
  match s.fwd.swaps with
  | w :: rest =>
    if (w.after = .mcr ∧ s.restarting = true) then s
    else if w.sent ∧ (w.left.filter (fun x => s.waitsFor x)).isEmpty then
      let s1 := (s.fwdUp (fun f => { f with swaps := rest })).swapCopied w.set w.epoch
      let s2 := if w.set = .gate then s1.gateMeas else s1
      ((s2.afterSwap w.after).startSwap).drainGo.mcrKick
    else s
  | [] => s

end Sys2Proof.Machine
end

