-- ==== Sys2Proof/Machine/CmdMcr.lean ====
section
/-!
DEFINITION. The meanings of the MCR commands as rows of the table, of the ring (R477 to R481), of the sideband's MCR_SUBMIT (R493 to R495), of the journal
mirror (R492), and of the events that complete parked commands (R118, R119, R149, R150, R228, R375, R486).
-/

namespace Sys2Proof.Machine

/-! ### The commands of R484 -/

/-- NOP (R484, R490). -/
def execNop (cx : McrCx) (s : State) : Host.Outcome State Fault Refusal := s.live (·.direct cx .nop {})

/-- BANK_RESET (R484, R488). -/
def execBankReset (cx : McrCx) (set : Fin 256) (s : State) : Host.Outcome State Fault Refusal := s.live (·.direct cx (.bankReset set.val) {})

/-- VS_CREATE (R102, R103). -/
def execVsCreate (cx : McrCx) (vs port slots : Fin 256) (s : State) : Host.Outcome State Fault Refusal :=
  s.live (·.direct cx (.vsCreate vs.val port.val slots.val) {})

/-- VS_DELETE (R106). -/
def execVsDelete (cx : McrCx) (vs : Fin 256) (s : State) : Host.Outcome State Fault Refusal := s.live (·.direct cx (.vsDelete vs.val) {})

/-- VS_TCMAP (R138). -/
def execVsTcmap (cx : McrCx) (vs : Fin 256) (map : W16) (s : State) : Host.Outcome State Fault Refusal :=
  s.live (·.direct cx (.vsTcmap vs.val map.toNat) {})

/-- VDSP_BIND of a physical port (R117, R572). -/
def execVdspBind (cx : McrCx) (vs slot port : Fin 256) (s : State) : Host.Outcome State Fault Refusal :=
  s.live (·.direct cx (.bind vs.val slot.val port.val) {})

/-- VDSP_BIND of a function group (R113, R114, R117). -/
def execVdspBindGroup (cx : McrCx) (vs slot : Fin 256) (mem : List (Fin 256 × W16 × Fin 256)) (s : State) : Host.Outcome State Fault Refusal :=
  s.live (·.direct cx (.bindGroup vs.val slot.val (mem.map (fun m => (m.1.val, m.2.1.toNat, m.2.2.val)))) {})

/-- VDSP_BIND of a remote port (R329). -/
def execVdspBindRemote (cx : McrCx) (vs slot : Fin 256) (gpid : W16) (up : Fin 256) (s : State) : Host.Outcome State Fault Refusal :=
  s.live (·.direct cx (.bindRemote vs.val slot.val gpid.toNat) { up := up.val })

/-- VDSP_UNBIND, ORDERLY (R118, R121). -/
def execVdspUnbindOrderly (cx : McrCx) (vs slot wait : Fin 256) (s : State) : Host.Outcome State Fault Refusal :=
  s.live (·.direct cx (.unbind vs.val slot.val 0 wait.val) {})

/-- VDSP_UNBIND, FORCED (R120, R121). -/
def execVdspUnbindForced (cx : McrCx) (vs slot : Fin 256) (s : State) : Host.Outcome State Fault Refusal :=
  s.live (·.direct cx (.unbind vs.val slot.val 1 0) {})

/-- VDSP_ERRCFG (R253, R572). -/
def execVdspErrcfg (cx : McrCx) (vs slot synth : Fin 256) (s : State) : Host.Outcome State Fault Refusal :=
  s.live (·.direct cx (.errCfg vs.val slot.val synth.val) {})

/-- BIND_READ (R129, R572). -/
def execBindRead (cx : McrCx) (vs slot : Fin 256) (buf : W64) (ok : Bool) (s : State) : Host.Outcome State Fault Refusal :=
  s.live (·.direct cx (.bindRead vs.val slot.val buf.toNat) { ok := ok })

/-- SHARED_PORT_SET (R110). -/
def execSharedPortSet (cx : McrCx) (port buses mps mrrs : Fin 256) (base limit : W64) (nvf : List W16) (fns : Option (List SharedFn)) (s : State) :
    Host.Outcome State Fault Refusal :=
  s.live (·.direct cx (.sharedSet port.val buses.val mps.val mrrs.val base.toNat limit.toNat (((nvf.map (fun (n : W16) => n.toNat)) ++ List.replicate 8 0).take 8))
    { fns := fns })

/-- SHARED_PORT_CLR (R484). -/
def execSharedPortClr (cx : McrCx) (port : Fin 256) (s : State) : Host.Outcome State Fault Refusal := s.live (·.direct cx (.sharedClr port.val) {})

/-- FN_CFG, a read (R112). -/
def execFnCfgRead (cx : McrCx) (port : Fin 256) (rid off : W16) (be : Fin 256) (cpl : Option (Fin 8 × W32)) (s : State) :
    Host.Outcome State Fault Refusal :=
  s.live (·.direct cx (.fnCfg port.val rid.toNat off.toNat 0 be.val 0) { cpl := cpl.map (fun c => (c.1.val, c.2.toNat)) })

/-- FN_CFG, a write (R112). -/
def execFnCfgWrite (cx : McrCx) (port : Fin 256) (rid off : W16) (be : Fin 256) (data : W32) (cpl : Option (Fin 8 × W32)) (s : State) :
    Host.Outcome State Fault Refusal :=
  s.live (·.direct cx (.fnCfg port.val rid.toNat off.toNat 1 be.val data.toNat) { cpl := cpl.map (fun c => (c.1.val, c.2.toNat)) })

/-- DM_VF_SET (R409). -/
def execDmVfSet (cx : McrCx) (vs : Fin 256) (count : W16) (s : State) : Host.Outcome State Fault Refusal :=
  s.live (·.direct cx (.dmVf vs.val count.toNat) {})

/-- WIN_WRITE (R221, R222, R227, R333). -/
def execWinWrite (cx : McrCx) (bank port entry flags : Fin 256) (base limit : W64) (mask : BitVec 48) (dst : W16) (s : State) :
    Host.Outcome State Fault Refusal :=
  s.live (·.direct cx (.winWrite bank.val port.val entry.val flags.val base.toNat limit.toNat mask.toNat dst.toNat) {})

/-- WIN_SWAP (R228). -/
def execWinSwap (cx : McrCx) (s : State) : Host.Outcome State Fault Refusal := s.live (·.direct cx .winSwap {})

/-- GATE_WRITE (R227, R238, R241). -/
def execGateWrite (cx : McrCx) (bank slot part en v o t : Fin 256) (base limit : W32) (s : State) : Host.Outcome State Fault Refusal :=
  s.live (·.direct cx (.gateWrite bank.val slot.val part.val en.val v.val o.val t.val base.toNat limit.toNat) {})

/-- GATE_SWAP (R228). -/
def execGateSwap (cx : McrCx) (s : State) : Host.Outcome State Fault Refusal := s.live (·.direct cx .gateSwap {})

/-- REACH_SET (R374). -/
def execReachSet (cx : McrCx) (entry : W16) (kind flags : Fin 256) (src : W16) (tvs : Fin 256) (tinst : W16) (base limit : W64) (s : State) :
    Host.Outcome State Fault Refusal :=
  s.live (·.direct cx (.reachSet entry.toNat kind.val flags.val src.toNat tvs.val tinst.toNat base.toNat limit.toNat) {})

/-- REACH_CLEAR (R375). -/
def execReachClear (cx : McrCx) (entry : W16) (s : State) : Host.Outcome State Fault Refusal := s.live (·.direct cx (.reachClear entry.toNat) {})

/-- PROG_LOAD (R427). -/
def execProgLoad (cx : McrCx) (slot : Fin 256) (addr : W64) (len : W32) (mask : BitVec 48) (img : Option (List Byte)) (s : State) :
    Host.Outcome State Fault Refusal :=
  s.live (·.direct cx (.progLoad slot.val addr.toNat len.toNat mask.toNat) { buf := img })

/-- PROG_UNLOAD (R428). -/
def execProgUnload (cx : McrCx) (slot : Fin 256) (s : State) : Host.Outcome State Fault Refusal := s.live (·.direct cx (.progUnload slot.val) {})

/-- SHAPE_SET (R442). -/
def execShapeSet (cx : McrCx) (ix : W16) (cfg lim : W64) (s : State) : Host.Outcome State Fault Refusal :=
  s.live (·.direct cx (.shapeSet ix.toNat cfg lim) {})

/-- IDE_KEY, start (R94). -/
def execIdeKeyStart (cx : McrCx) (port : Fin 256) (ok : Bool) (s : State) : Host.Outcome State Fault Refusal :=
  s.live (·.direct cx (.ideKey port.val 0) { ok := ok })

/-- IDE_KEY, new keys (R94). -/
def execIdeKeyNew (cx : McrCx) (port : Fin 256) (ok : Bool) (s : State) : Host.Outcome State Fault Refusal :=
  s.live (·.direct cx (.ideKey port.val 1) { ok := ok })

/-- IDE_KEY, stop (R94). -/
def execIdeKeyStop (cx : McrCx) (port : Fin 256) (s : State) : Host.Outcome State Fault Refusal := s.live (·.direct cx (.ideKey port.val 2) {})

/-- STATS_SNAP (R534). -/
def execStatsSnap (cx : McrCx) (group : Fin 256) (first count : W16) (buf : W64) (ok : Bool) (s : State) : Host.Outcome State Fault Refusal :=
  s.live (·.direct cx (.statsSnap group.val first.toNat count.toNat buf.toNat) { ok := ok })

/-- JNL_MIRROR (R492). -/
def execJnlMirror (cx : McrCx) (size en : Fin 256) (base db : W64) (s : State) : Host.Outcome State Fault Refusal :=
  s.live (·.direct cx (.jnlMirror size.val en.val base.toNat db.toNat) {})

/-- KEY_FUSE (R500). -/
def execKeyFuse (cx : McrCx) (slot : Fin 256) (addr : W64) (key : Option (List Byte)) (ok : Bool) (s : State) : Host.Outcome State Fault Refusal :=
  s.live (·.direct cx (.keyFuse slot.val addr.toNat) { buf := key, ok := ok })

/-- KEY_REVOKE (R501). -/
def execKeyRevoke (cx : McrCx) (kind slot : Fin 256) (s : State) : Host.Outcome State Fault Refusal :=
  s.live (·.direct cx (.keyRevoke kind.val slot.val) {})

/-- SVN_COMMIT (R502). -/
def execSvnCommit (cx : McrCx) (kind svn : Fin 256) (s : State) : Host.Outcome State Fault Refusal :=
  s.live (·.direct cx (.svnCommit kind.val svn.val) {})

/-- MGMT_RESTART (R506). -/
def execMgmtRestart (cx : McrCx) (s : State) : Host.Outcome State Fault Refusal := s.live (·.direct cx .mgmtRestart {})

/-! ### The ring (R477 to R479) -/

/-- Fetching stops with an error, and its event is raised (R354, R478). -/
def State.mcrError (s : State) (f : Fld) : State := ((s.setB f [] true).setB F.MGR_MCR_STAT_ERROR [] true).event .mgr 0

/-- The firmware reads the doorbell record: CMD_TAIL and RSP_HEAD, or a failed read (R354, R477, R478). -/
def State.mcrRecord (s0 : State) (rec : Option (W32 × W32)) : State :=
  let s := (s0.emit (.hostRead .mgmt (s0.rd ⟨.MGR_DB_ADDR, []⟩).toNat 16)).mgrUp (fun m => { m with want := false, pollAt := s0.now })
  match rec with
  | none => s.mcrError F.MGR_MCR_STAT_DB_READ
  | some (t, h) =>
    if 2 ^ s.get F.MGR_MCR_CFG_CMD_SIZE [] < (t.toNat + 2 ^ 32 - s.mgr.fetched) % 2 ^ 32 ∨
        2 ^ s.get F.MGR_MCR_CFG_RSP_SIZE [] < (s.get F.MGR_MCR_STAT_RSP_WRITTEN [] + 2 ^ 32 - h.toNat) % 2 ^ 32 then s.mcrError F.MGR_MCR_STAT_RANGE
    else s.mgrUp (fun m => { m with tail := t.toNat, rspHead := h.toNat })

/-- Does the firmware serve the ring: enabled, no error? -/
def State.mcrOn (s : State) : Bool := s.on F.MGR_MCR_CFG_EN [] && !s.on F.MGR_MCR_STAT_ERROR []

/-- A nudge: the record is read, or the read waits for Bus Master Enable (R574) or the end of a restart. -/
def State.mcrNudge (s : State) (rec : Option (W32 × W32)) : State :=
  if s.mcrOn then (if s.hostIo && !s.restarting then s.mcrRecord rec else s.mgrUp (fun m => { m with want := true })) else s

/-- MCR_NUDGE (R352, R478). -/
def execMcrNudge (who : Init) (rec : Option (W32 × W32)) (s : State) : Host.Outcome State Fault Refusal :=
  s.live (fun s => s.writeReg who ⟨.MGR_NUDGE, []⟩ 4 (·.mcrNudge rec))

/-- MCR_POLL (R478): the interval has passed, or a read waits. -/
def execMcrPoll (rec : Option (W32 × W32)) (s : State) : Host.Outcome State Fault Refusal :=
  s.live (fun s =>
    let p := min 1000 (s.get F.MGR_MCR_CFG_POLL [])
    if s.mcrOn ∧ s.hostIo ∧ s.restarting = false ∧ (s.mgr.want = true ∨ (p ≠ 0 ∧ s.mgr.pollAt + 1000 * p ≤ s.now)) then s.mcrRecord rec else s)

/-- MCR_COMMAND_FETCH (R479): the next posted entry is read and arrives at the executor, or its read fails. -/
def execMcrCommandFetch (entry : Option (List Byte)) (env : McrEnv) (s : State) : Host.Outcome State Fault Refusal :=
  s.live (fun s =>
    if s.mayFetch ∧ s.hostIo ∧ s.mgr.fetched ≠ s.mgr.tail then
      let a := (s.rd ⟨.MGR_CMD_BASE, []⟩).toNat + 64 * (s.mgr.fetched % 2 ^ s.get F.MGR_MCR_CFG_CMD_SIZE [])
      let s1 := s.emit (.hostRead .mgmt a 64)
      match entry with
      | none => s1.mcrError F.MGR_MCR_STAT_CMD_READ
      | some e => s1.submit (jobOf 0 0 e env)
    else s)

/-- The ring is enabled: counts and the response map start at 0 (R348, R478, MGR_RSP_DONE). -/
def State.mcrEnable (s : State) : State :=
  (((s.setB F.MGR_MCR_CFG_EN [] true).set F.MGR_MCR_STAT_RSP_WRITTEN [] 0).setB F.MGR_MCR_STAT_ERROR [] false).clearRegs (fun r => r.n == .MGR_RSP_DONE)
    |>.mgrUp (fun m => { m with fetched := 0, tail := 0, rspHead := 0, want := false, pollAt := s.now, gen := m.gen + 1 })

/-- A write of one of the ring's registers: 0 MGR_CMD_BASE, 1 MGR_RSP_BASE, 2 MGR_DB_ADDR, 3 MGR_MCR_CFG (R347, R348, R478). -/
def State.mcrCfg (s : State) (k : Nat) (v : W64) : State :=
  let en := s.on F.MGR_MCR_CFG_EN []
  let refuse := s.setB F.MGR_MCR_CFG_CFG_REFUSED [] true
  if k = 3 then
    let ok := fun (n : Nat) => decide (4 ≤ n) && decide (n ≤ 12)
    let c := fget v 1 4
    let r := fget v 5 4
    if !(ok c && ok r) ∨ (en ∧ (c ≠ s.get F.MGR_MCR_CFG_CMD_SIZE [] ∨ r ≠ s.get F.MGR_MCR_CFG_RSP_SIZE [])) then refuse
    else if v.getLsbD 0 ∧ en = false ∧ s.on F.MGR_MCR_STAT_IDLE [] = false then refuse
    else
      let s1 := s.writeTyped ⟨.MGR_MCR_CFG, []⟩ false v
      if v.getLsbD 0 ∧ en = false then s1.mcrEnable else s1
  else
    let reg : Reg := ⟨[RN.MGR_CMD_BASE, .MGR_RSP_BASE, .MGR_DB_ADDR].getD k .MGR_DB_ADDR, []⟩
    if (en ∧ v ≠ s.rd reg) ∨ v.toNat % (if k = 2 then 16 else 4096) ≠ 0 then refuse else s.wr reg v

/-- MGR_MCR_CFG_WRITE (R478). -/
def execMgrMcrCfgWrite (who : Init) (r : Fin 4) (v : W64) (s : State) : Host.Outcome State Fault Refusal :=
  s.live (fun s => s.writeReg who ⟨[RN.MGR_CMD_BASE, .MGR_RSP_BASE, .MGR_DB_ADDR, .MGR_MCR_CFG].getD r.val .MGR_MCR_CFG, []⟩ (if r = 3 then 4 else 8)
    (·.mcrCfg r.val v))

/-! ### Events that complete commands -/

/-- PARKED_COMMAND_RESUME (R486). -/
def execParkedCommandResume (n : Nat) (status : Fin 256) (result : List Byte) (s : State) : Host.Outcome State Fault Refusal :=
  s.live (·.resumeAt n status.val result)

/-- UNBIND_WAIT_TIMEOUT (R119). -/
def execUnbindWaitTimeout (vs : Fin 48) (slot : Fin 32) (s : State) : Host.Outcome State Fault Refusal :=
  s.live (fun s => if s.restarting then s else (s.unbindTimeout vs.val slot.val).mcrKick)

/-- SHARED_PORT_RECONFIG (R111). -/
def execSharedPortReconfig (port : Fin 144) (s : State) : Host.Outcome State Fault Refusal :=
  s.live (fun s =>
    if s.vsx.reconfig.contains port.val ∧ s.inL0 port.val = true then
      ({ s with vsx := { s.vsx with reconfig := s.vsx.reconfig.filter (· != port.val) } } : State).refreshPort port.val
    else s)

/-- REACH_CLEAR_DONE (R375). -/
def execReachClearDone (entry : Fin 4096) (s : State) : Host.Outcome State Fault Refusal :=
  s.live (fun s => match s.mgr.parked.find? (fun x => x.2 == .reach entry.val) with
    | some (j, k) => if s.restarting then s else (s.resume j k 0 []).mcrKick
    | none => s)

/-- SWAP_COMPLETE (R228). -/
def execSwapComplete (s : State) : Host.Outcome State Fault Refusal := s.live (·.swapComplete)

/-- DRAIN_COMPLETE (R149, R150). -/
def execDrainComplete (s : State) : Host.Outcome State Fault Refusal := s.live (fun s => s.drainGo.mcrKick)

/-! ### The sideband (R493 to R495) -/

/-- MCR_SUBMIT (R495): in the safe state the endpoint is unavailable; over PCIe it is accepted on the management function's port only (R493). -/
def execMcrSubmit (mctp : Bool) (src : Fin 256) (entry : List Byte) (env : McrEnv) (s : State) : Host.Outcome State Fault Refusal :=
  .next (if s.sealed then s.emit (.answer .sideband 0x81 [])
    else if mctp ∧ s.mgmtPort = 0xFF then s
    else if entry.length ≠ 64 then s.emit (.answer .sideband 0x01 [])
    else s.submit (jobOf (if mctp then 2 else 1) src.val entry env))

/-! ### The journal mirror (R492) -/

/-- The 128 bytes of a journal entry, with the PHASE of a mirror copy in byte 23 (R491, R492). CHECK is that of the entry on die. -/
def JEntry.bytes (e : JEntry) (phase : Nat) : List Byte :=
  (e.head.take 23 ++ [BitVec.ofNat 8 phase] ++ e.head.drop 24) ++ leBytes 4 (crc32c 0 e.head).toNat ++ List.replicate 12 0

/-- Is the mirror ring full? -/
def State.mirFull (s : State) : Bool := decide (2 ^ s.mgr.mirSize ≤ (s.get F.MGR_JNL_STAT_MIRRORED [] + 2 ^ 32 - s.mgr.mirHead) % 2 ^ 32)

/-- Copy the next entry into the mirror ring, or pause on a full ring; entries that were overwritten leave a gap. -/
def State.mirrorCopy (s0 : State) : State :=
  let first := match s0.journal.head? with | some e => e.seq | none => 0
  let s := if s0.mgr.mirNext < first then ((s0.setB F.MGR_JNL_STAT_GAP [] true).event .mgr 2).mgrUp (fun m => { m with mirNext := first }) else s0
  if s.mirFull then ((s.setB F.MGR_JNL_STAT_MIRROR_LOST [] true).event .mgr 1).mgrUp (fun m => { m with mirPause := true, mirReadAt := s.now })
  else
    match s.journal.find? (fun e => e.seq == s.mgr.mirNext) with
    | none => s
    | some e =>
      let n := s.get F.MGR_JNL_STAT_MIRRORED []
      ((s.emit (.hostWrite .mgmt (s.mgr.mirBase + 128 * (n % 2 ^ s.mgr.mirSize)) (e.bytes (phaseOf n s.mgr.mirSize)))).incr F.MGR_JNL_STAT_MIRRORED []).mgrUp
        (fun m => { m with mirNext := m.mirNext + 1 })

/-- JOURNAL_MIRROR_COPY (R492, R574). -/
def execJournalMirrorCopy (s : State) : Host.Outcome State Fault Refusal :=
  s.live (fun s =>
    if s.on F.MGR_JNL_STAT_MIRROR_EN [] ∧ s.hostIo ∧ s.restarting = false ∧ s.mgr.mirPause = false ∧ s.mgr.mirNext < s.get F.MGR_JNL_SEQ_SEQ [] then
      s.mirrorCopy
    else s)

/-- MIRROR_DOORBELL_POLL (R492): a paused mirror reads the consumer count; with room it goes on. -/
def execMirrorDoorbellPoll (head : Option W32) (s : State) : Host.Outcome State Fault Refusal :=
  s.live (fun s =>
    if s.mgr.mirPause ∧ s.hostIo ∧ s.restarting = false then
      let s1 := (s.emit (.hostRead .mgmt s.mgr.mirDb 16)).mgrUp (fun m => { m with mirReadAt := s.now })
      match head with
      | none => s1
      | some h =>
        let s2 := s1.mgrUp (fun m => { m with mirHead := h.toNat })
        s2.mgrUp (fun m => { m with mirPause := s2.mirFull })
    else s)

end Sys2Proof.Machine
end

