-- ==== Sys2Proof/Machine/CmdPorts.lean ====
section
/-!
DEFINITION. The meanings of the commands of the PCIe ports (chapter 03) and of the port's buffer configuration (R170).
-/

namespace Sys2Proof.Machine

/-! ### Register writes of a port -/

/-- A port is enabled: its lanes leave loopback and patterns, and it enters Detect, training from its cut width and RATE_MAX (R56, R58, R67, R77). -/
def State.enablePort (s : State) (p : Nat) : State :=
  let s1 := (s.lanesOf p).foldl (fun (s : State) (l : Nat × Nat) =>
    ((s.set F.LN_CTL_LPBK [l.1, l.2] 0).set F.LN_PAT_GEN_EN [l.1, l.2] 0).set F.LN_PAT_CHK_EN [l.1, l.2] 0) s
  (((s1.freshTrain p).lnkUp (fun x => { x with mark := x.mark.del p })).portRest p)

/-- A port is disabled: its link goes down by the row of its role (R67, R90). -/
def State.disablePort (s : State) (p : Nat) : State :=
  if s.dlUp p then
    let s1 := s.linkLost p 0
    s1.pset F.PP_STAT_LINK_STATE p 0
  else if s.portWidth p = 0 then s
  else s.linkGone p 0

/-- A write of PP_CTL (R66, R67, R77, R99, R226, R569). -/
def State.ppCtl (s : State) (p : Nat) (v : W64) : State :=
  let r : Reg := ⟨.PP_CTL, [p / 4, p % 4]⟩
  let en := s.pon F.PP_CTL_ENABLE p
  let role := s.pget F.PP_CTL_ROLE p
  let role' := fget v 1 2
  let guarded := en && (role' != role || fget v 3 3 != s.pget F.PP_CTL_RATE_MAX p || fget v 6 1 != s.pget F.PP_CTL_FLIT_EN p)
  let window := role' == 2 && role != 2 && s.winNames p
  let old := s.perstGpio p
  let s1 := s.writeTyped r false v
  let s2 := if guarded then
      ((s1.pset F.PP_CTL_ROLE p role).pset F.PP_CTL_RATE_MAX p (s.pget F.PP_CTL_RATE_MAX p)).pset F.PP_CTL_FLIT_EN p (s.pget F.PP_CTL_FLIT_EN p)
    else if window then s1.pset F.PP_CTL_ROLE p role else s1
  let s3 := s2.when (guarded || window || (role' == 3 && role != 3)) (·.cfgRefused p)
  let s4 := s3.when (s3.perstGpio p != old) (·.claim p true)
  let now := s4.pon F.PP_CTL_ENABLE p
  let s5 := if now && !en then s4.enablePort p else if en && !now then s4.disablePort p else s4
  let s6 := s5.when (v.getLsbD 9 && now) (fun s => (s.freshTrain p).retrain p)
  (s6.updPresent (p / 8)).updPerst p

/-- PP_CTL_WRITE (R66, R67, R77). -/
def execPpCtlWrite (who : Init) (port : Fin 144) (v : W32) (s : State) : Host.Outcome State Fault Refusal :=
  s.live (fun s => s.writeReg who ⟨.PP_CTL, [port.val / 4, port.val % 4]⟩ 4 (·.ppCtl port.val (v.zeroExtend 64)))

/-- RETRAIN (R77): a write of PP_CTL that sets RETRAIN and changes nothing else. -/
def execRetrain (who : Init) (port : Fin 144) (s : State) : Host.Outcome State Fault Refusal :=
  s.live (fun s => s.writeReg who ⟨.PP_CTL, [port.val / 4, port.val % 4]⟩ 4 (fun s =>
    if s.pon F.PP_CTL_ENABLE port.val then (s.freshTrain port.val).retrain port.val else s))

/-- A write of PP_RST (R88, R89, R99): a port that comes to follow an asserted input is reset. -/
def State.ppRst (s : State) (p : Nat) (v : W64) : State :=
  let was := s.perstHeld p
  let old := s.perstGpio p
  let s1 := s.writeTyped ⟨.PP_RST, [p / 4, p % 4]⟩ false v
  let s2 := (s1.when (s1.perstGpio p != old || s.lnk.displaced.contains (p, true)) (·.claim p true)).updPerst p
  if s2.perstHeld p && !was && s2.pon F.PP_CTL_ENABLE p then
    match s2.vsOfPort p with
    | some v => s2.hostReset v 1 false
    | none => s2.cutLink p 1
  else s2

/-- A write of PT_FWD_CTL (R162, R173): FORCE_SAF acts on SAF, TAG8 on the tags of a non-Flit link. -/
def State.fwdCtl (s : State) (p : Nat) (v : W64) : State :=
  let old := s.pget F.PT_FWD_CTL_TAG8 p
  let s1 := (s.writeTyped ⟨.PT_FWD_CTL, [p / 4, p % 4]⟩ false v).updSaf p
  if s1.pget F.PT_FWD_CTL_TAG8 p ≠ old ∧ s1.inL0 p = true ∧ s1.pon F.PP_STAT_FLIT p = false then s1.updTagMode p else s1

/-- A write of PT_BUF_CFG (R170). -/
def State.bufCfg (s : State) (p : Nat) (v : W64) : State :=
  let r : Reg := ⟨.PT_BUF_CFG, [p / 4, p % 4]⟩
  let a := fget v 0 8
  let b := fget v 8 8
  let c := fget v 16 8
  let differ := decide (a ≠ s.pget F.PT_BUF_CFG_SC1 p ∨ b ≠ s.pget F.PT_BUF_CFG_SC2 p ∨ c ≠ s.pget F.PT_BUF_CFG_SC3 p)
  let bad := decide (a + b + c ≠ 192) || decide (a < 8) || decide (b < 8) || decide (c < 8)
  if bad || (differ && s.pon F.PP_CTL_ENABLE p) then (s.pset F.PT_BUF_CFG_REFUSED p 1).portEvent p 5 2
  else s.writeTyped r false v

/-- PT_BUF_CFG_WRITE (R170). -/
def execPtBufCfgWrite (who : Init) (port : Fin 144) (v : W32) (s : State) : Host.Outcome State Fault Refusal :=
  s.live (fun s => s.writeReg who ⟨.PT_BUF_CFG, [port.val / 4, port.val % 4]⟩ 4 (·.bufCfg port.val (v.zeroExtend 64)))

/-! ### Training -/

/-- LINK_UP (R74, R76, R78): the port completes training to L0 at a rate and width that it may take. -/
def execLinkUp (port : Fin 144) (rate : Fin 7) (width : Fin 17) (flit rev scaled : Bool) (inv : W16) (s : State) :
    Host.Outcome State Fault Refusal :=
  s.live (fun s => if s.canTrain port.val rate.val width.val flit rev then (s.detectPol port.val inv.toNat).linkUp port.val rate.val width.val flit rev scaled else s)

/-- TRAINING_RETRY (R75): a port that cannot reach L0 returns to Detect, and a KFP port raises its link event, read as LINK_DOWN (R37, DEDUCED); out of Recovery its
link is lost. -/
def execTrainingRetry (port : Fin 144) (s : State) : Host.Outcome State Fault Refusal :=
  s.live (fun s =>
    let st := s.pget F.PP_STAT_LINK_STATE port.val
    if st = 2 ∨ st = 7 then (s.pset F.PP_STAT_LINK_STATE port.val 1).when (s.role port.val == 2) (·.portEvent port.val 0 1)
    else if st = 5 then s.linkLost port.val 1 else s)

/-- LINK_DOWN (R90, R124): the Data Link Layer of a port goes down. -/
def execLinkDown (port : Fin 144) (s : State) : Host.Outcome State Fault Refusal := s.live (·.dlDown port.val)

/-- LOOPBACK_ENTRY (R79): as lead where LPBK_LEAD is 1, as follower where the partner leads; a link that was up goes down. -/
def execLoopbackEntry (port : Fin 144) (s : State) : Host.Outcome State Fault Refusal :=
  s.live (fun s =>
    let st := s.pget F.PP_STAT_LINK_STATE port.val
    if (st = 1 ∨ st = 2 ∨ st = 5) ∧ s.pon F.PP_CTL_ENABLE port.val ∧ s.role port.val ≠ 2 then
      (if st = 5 then s.linkLost port.val 1 else s).pset F.PP_STAT_LINK_STATE port.val 8
    else s)

/-- LOOPBACK_EXIT (R58, R79): the port leaves Loopback for Detect, and patterns on its lanes stop. -/
def execLoopbackExit (port : Fin 144) (s : State) : Host.Outcome State Fault Refusal :=
  s.live (fun s =>
    if s.pget F.PP_STAT_LINK_STATE port.val = 8 then
      ((s.lanesOf port.val).foldl (fun (s : State) (l : Nat × Nat) =>
        (s.set F.LN_PAT_GEN_EN [l.1, l.2] 0).set F.LN_PAT_CHK_EN [l.1, l.2] 0) s).pset F.PP_STAT_LINK_STATE port.val 1
    else s)

/-! ### Link power management -/

/-- Enter ASPM L1: the width that L0 had is kept for the return. -/
def State.enterL1 (s : State) (p : Nat) : State :=
  ((s.lnkUp (fun x => { x with l1Width := x.l1Width.put p (s.pget F.PP_STAT_WIDTH p) })).pset F.PP_STAT_WIDTH p 0).pset F.PP_STAT_LINK_STATE p 6

/-- L1_IDLE_TIMEOUT (R83): an upstream port initiates ASPM L1. -/
def execL1IdleTimeout (port : Fin 144) (s : State) : Host.Outcome State Fault Refusal :=
  s.live (fun s =>
    let p := port.val
    let idle := s.pget F.PP_PM_L1_IDLE p
    match s.vsOfPort p with
    | some v =>
      if s.role p = 0 ∧ s.inL0 p = true ∧ s.cf (.up v) .aspmL1 = 1 ∧ idle ≠ 0 ∧ s.lnk.lastTlp.lookD p 0 + idle * 1000 ≤ s.now ∧
          s.fwd.trk.any (fun e => e.1.1 == p / 4 && e.2.slot == p % 4) = false then s.enterL1 p
      else s
    | none => s)

/-- L1_ENTRY_REQUEST (R82): the downstream component asks; it is accepted where the host has enabled ASPM L1 in the function it sees. -/
def execL1EntryRequest (port : Fin 144) (s : State) : Host.Outcome State Fault Refusal :=
  s.live (fun s =>
    let p := port.val
    let ok := match s.portBinding p with
      | some (v, sl) => s.cf (.vdsp v sl) .aspmL1 == 1
      | none => false
    if s.role p = 1 ∧ s.inL0 p = true ∧ ok = true then s.enterL1 p else s)

/-- L1_EXIT (R83): a TLP or DLLP must be sent; the port returns to L0 and sends what waits. -/
def execL1Exit (port : Fin 144) (s : State) : Host.Outcome State Fault Refusal :=
  s.live (fun s =>
    let p := port.val
    if s.pget F.PP_STAT_LINK_STATE p = 6 then
      let w := s.lnk.l1Width.lookD p 0
      let s1 := (((s.lnkUp (fun x => { x with l1Width := x.l1Width.del p })).pset F.PP_STAT_WIDTH p w).pset F.PP_STAT_L1_SUB p 0).pset
        F.PP_STAT_LINK_STATE p (if s.pget F.PP_STAT_L0P_WIDTH p = w then 3 else 4)
      s1.schedule p
    else s)

/-- CLKREQ_N_CHANGE (R84): the GPIO that a port names as its CLKREQ# changes; high in L1 enters L1.1 or L1.2, low returns to L1.0. -/
def execClkreqNChange (port : Fin 144) (high l12 : Bool) (s : State) : Host.Outcome State Fault Refusal :=
  s.live (fun s =>
    let p := port.val
    if s.drives p false then
      let s1 : State := { s with cpw := { s.cpw with clkreq := s.cpw.clkreq.put p high } }
      if s.pget F.PP_STAT_LINK_STATE p = 6 then s1.pset F.PP_STAT_L1_SUB p (if high then (if l12 then 2 else 1) else 0) else s1
    else s)

/-- Narrowest L0p width (PP_PM.L0P_MIN). -/
def State.l0pMin (s : State) (p : Nat) : Nat := [1, 2, 4, 8].getD (s.pget F.PP_PM_L0P_MIN p) 1

/-- The condition for full width: more than 8 KiB queued, or utilization above 75 % in the last window (R85). -/
def State.l0pFull (s : State) (p pct : Nat) : Bool :=
  decide (8192 < ((List.range 4).map (fun c => bytesOf (s.gq p c) + bytesOf (s.sq p c))).sum) || decide (75 < pct)

/-- The active width under L0p. -/
def State.l0pSet (s : State) (p w : Nat) : State :=
  (s.pset F.PP_STAT_L0P_WIDTH p w).pset F.PP_STAT_LINK_STATE p (if w = s.pget F.PP_STAT_WIDTH p then 3 else 4)

/-- L0P_WINDOW (R85): a 10 µs window ends with a utilization in per cent of the active width. -/
def execL0pWindow (port : Fin 144) (pct : Fin 101) (s : State) : Host.Outcome State Fault Refusal :=
  s.live (fun s =>
    let p := port.val
    if s.pon F.PP_PM_L0P_EN p ∧ s.inL0 p = true ∧ s.pon F.PP_STAT_FLIT p then
      let s1 := s.lnkUp (fun x => { x with util := x.util.put p pct.val })
      let w := s.pget F.PP_STAT_L0P_WIDTH p
      if s.l0pFull p pct.val then s1.l0pSet p (s.pget F.PP_STAT_WIDTH p)
      else if pct.val < 25 ∧ s.l0pMin p ≤ w / 2 ∧ 2 ≤ w then s1.l0pSet p (w / 2) else s1
    else s)

/-- L0P_PARTNER_REQUEST (R86). -/
def execL0pPartnerRequest (port : Fin 144) (width : Fin 17) (s : State) : Host.Outcome State Fault Refusal :=
  s.live (fun s =>
    let p := port.val
    let full := s.pget F.PP_STAT_WIDTH p
    if s.inL0 p = true ∧ s.pon F.PP_STAT_FLIT p ∧ [1, 2, 4, 8, 16].contains width.val = true ∧ width.val ≤ full ∧ s.l0pMin p ≤ width.val ∧
        (width.val = full ∨ s.l0pFull p (s.lnk.util.lookD p 0) = false) then s.l0pSet p width.val
    else s)

/-- LTR_RECEIVED (R87): a device bound to a virtual switch sends its latency tolerance in ns (none: no requirement). -/
def execLtrReceived (port : Fin 144) (ns : Option Nat) (s : State) : Host.Outcome State Fault Refusal :=
  s.live (fun s =>
    let x := match ns with
      | some n => max 1001 (n + 1)
      | none => 0
    (s.boundSlots port.val).foldl (fun (s : State) (y : Nat × Nat) => (s.cfSet (.vdsp y.1 y.2) .ltr x).updLtr y.1) s)

/-! ### Resets -/

/-- PERST_IN_ASSERT (R88, R90). -/
def execPerstInAssert (n : Fin 16) (s : State) : Host.Outcome State Fault Refusal := s.live (·.perstIn n.val)

/-- PERST_IN_DEASSERT (R90): the ports that follow the input may train again. -/
def execPerstInDeassert (n : Fin 16) (s : State) : Host.Outcome State Fault Refusal :=
  s.live (·.lnkUp (fun x => { x with perstIn := x.perstIn.filter (· != n.val) }))

/-- HOT_RESET_RECEIVED (R90, R91). -/
def execHotResetReceived (port : Fin 144) (s : State) : Host.Outcome State Fault Refusal := s.live (·.hotReset port.val)

/-- SECONDARY_BUS_RESET on an upstream port function (R90). -/
def execSecondaryBusReset (vs : Fin 48) (s : State) : Host.Outcome State Fault Refusal :=
  s.live (fun s => if s.get F.VST_STAT_STATE [vs.val] = 1 then s.busReset vs.val else s)

/-- VDSP_SECONDARY_BUS_RESET (R90, R263). -/
def execVdspSecondaryBusReset (vs : Fin 48) (slot : Fin 32) (s : State) : Host.Outcome State Fault Refusal :=
  s.live (fun s => if s.slotThere vs.val slot.val then s.vdspReset vs.val slot.val else s)

/-- PERST_OUT_HOLD_EXPIRY (R89): an asserted PERST# output that nothing asserts any more is released after its HOLD. -/
def execPerstOutHoldExpiry (port : Fin 144) (s : State) : Host.Outcome State Fault Refusal := s.live (·.updPerst port.val)

/-! ### Link IDE -/

/-- IDE_KM_MESSAGE (R93, R94): keys of a slot arrive on an upstream port. -/
def execIdeKmMessage (port : Fin 144) (slot : Fin 2) (ok : Bool) (s : State) : Host.Outcome State Fault Refusal :=
  s.live (fun s =>
    if s.role port.val = 0 ∧ ok = true ∧ s.dlUp port.val = true then s.lnkUp (fun x => { x with ideKeys := addNew x.ideKeys (port.val, slot.val) })
    else s)

/-- The stream of a port becomes Secure on a key slot (R93, R95). -/
def State.ideGo (s : State) (p slot : Nat) : State :=
  if s.lnk.ideKeys.contains (p, slot) ∧ s.inL0 p = true then
    ((s.lnkUp (fun x => { x with ideSlot := x.ideSlot.put p slot, ideBad := x.ideBad.filter (· != p) })).pset F.PP_STAT_IDE_SECURE p 1).updSaf p
  else s

/-- KEY_SET_GO (R93): the port swaps to the keys of a slot. -/
def execKeySetGo (port : Fin 144) (slot : Fin 2) (s : State) : Host.Outcome State Fault Refusal := s.live (·.ideGo port.val slot.val)

/-- IDE_INTEGRITY_FAIL (R95). -/
def execIdeIntegrityFail (port : Fin 144) (s : State) : Host.Outcome State Fault Refusal := s.live (fun s => (s.ideFail port.val).updSaf port.val)

/-- EGRESS_STALL (R261, R265). -/
def execEgressStall (port : Fin 144) (s : State) : Host.Outcome State Fault Refusal :=
  s.live (·.egressStall (fun s p => s.linkLost p 1) port.val)

end Sys2Proof.Machine
end

