-- ==== Sys2Proof/Machine/CmdMesh.lean ====
section
/-!
DEFINITION. The meanings of the commands of the mesh (chapter 06): hops and credits, link handshakes, failures, escape tables, islands.
-/

namespace Sys2Proof.Machine

/-- FLIT_HOP (R188, R196 to R200): a router that is out of service forwards nothing (R202). -/
def execFlitHop (r : Fin 96) (b : Bool) (out : Fin 5) (err : FlitErr) (s : State) : Host.Outcome State Fault Refusal :=
  s.live (fun s => if s.rtrOk r.val then s.hop s.gateRoom r.val b out.val err else s)

/-- CREDIT_RETURN (R186): the receiver of an output's channel returns one credit that it owes. -/
def execCreditReturn (r : Fin 96) (b : Bool) (out : Fin 5) (vc : Fin 10) (s : State) : Host.Outcome State Fault Refusal :=
  s.live (fun s => match outChan r.val out.val b vc.val with
    | some k => if 0 < s.mesh.owed.lookD k 0 then
        s.meshUp (fun m => { m with owed := m.owed.put k (m.owed.lookD k 0 - 1), cred := m.cred.put k (m.cred.lookD k 8 + 1) })
      else s
    | none => s)

/-- STARVE_LIMIT (R200): a requester whose wait counter has reached STARVE enters the output's pending queue. -/
def execStarveLimit (r : Fin 96) (b : Bool) (out inp : Fin 5) (vc : Fin 10) (s : State) : Host.Outcome State Fault Refusal :=
  s.live (fun s =>
    let a := s.mesh.outs.lookD (r.val, out.val, b) {}
    let iv := (inp.val, vc.val)
    if s.starve r.val ≤ s.mesh.waits.lookD (r.val, out.val, b, inp.val, vc.val) 0 ∧ iv ∉ a.pend then
      ((s.meshUp (fun m => { m with outs := m.outs.put (r.val, out.val, b) { a with pend := a.pend ++ [iv] } })).event (.router r.val) 6).rtrCount r.val 13
    else s)

/-- KEEPALIVE (R191): the handshake of an idle link is acknowledged; the time of the last one is kept. -/
def execKeepalive (r : Fin 96) (d : Fin 4) (s : State) : Host.Outcome State Fault Refusal :=
  s.live (fun s => s.meshUp (fun m => { m with linkAt := m.linkAt.put (r.val, d.val) s.now }))

/-- HANDSHAKE_TIMEOUT (R191): the sender declares the link failed. -/
def execHandshakeTimeout (r : Fin 96) (d : Fin 4) (s : State) : Host.Outcome State Fault Refusal := s.live (·.failLink r.val d.val)

/-- LINK_DECLARED_FAILED (R202, R203). -/
def execLinkDeclaredFailed (r : Fin 96) (d : Fin 4) (s : State) : Host.Outcome State Fault Refusal :=
  s.live (fun s => s.failLink r.val d.val)

/-- The links of a failed router count as failed, and nothing waits in it any more (R202, R203). -/
def State.failRouterLinks (s : State) (r : Nat) : State :=
  let s1 := (List.range 4).foldl (fun (s : State) (d : Nat) => match neighbour r d with
    | some n => if s.linkState r d = 1 then (((s.setLinkState r d 2).setLinkState n (oppDir d) 2).cutHalf r d).cutHalf n (oppDir d) else s
    | none => s) s
  let here := (s1.mesh.fifos.filter (fun e => e.1.r == r)).flatMap (fun e => e.2.map (·.pid))
  let wait := (s1.mesh.injq.filter (fun e => e.1.r == r)).flatMap (fun e => e.2.map (·.pid))
  (here ++ wait).eraseDups.foldl (fun (s : State) (pid : Nat) => s.dropPkt pid) s1

/-- ROUTER_DECLARED_FAILED (R202, R461 step 1): the firmware declares a router failed. -/
def State.failRouter (s : State) (r : Nat) : State :=
  if s.on F.RTR_CTL_FAILED [r] then s
  else ((s.setB F.RTR_CTL_FAILED [r] true).failRouterLinks r).declare 0 r

/-- ROUTER_DECLARED_FAILED (R202). -/
def execRouterDeclaredFailed (r : Fin 96) (s : State) : Host.Outcome State Fault Refusal := s.live (·.failRouter r.val)

/-- ROUTER_ISOLATE (R202): ISOLATE written 1 takes the router out of service. -/
def execRouterIsolate (who : Init) (r : Fin 96) (s : State) : Host.Outcome State Fault Refusal :=
  s.live (fun s => s.writeReg who ⟨.RTR_CTL, [r.val]⟩ 4 (·.setB F.RTR_CTL_ISOLATE [r.val] true))

/-- ROUTER_CNT_CLR (R532). -/
def execRouterCntClr (who : Init) (r : Fin 96) (s : State) : Host.Outcome State Fault Refusal :=
  s.live (fun s => s.writeReg who ⟨.RTR_CTL, [r.val]⟩ 4 (·.clearRegs (fun k => k.n == .RTR_CNT && k.ix.head? == some r.val)))

/-- RTR_LOCK (R6): LOCK is set and stays set until reset. -/
def execRtrLock (who : Init) (r : Fin 96) (s : State) : Host.Outcome State Fault Refusal :=
  s.live (fun s => s.writeReg who ⟨.RTR_CTL, [r.val]⟩ 4 (·.setB F.RTR_CTL_LOCK [r.val] true))

/-- Write an escape table entry or vector word: refused in the active bank (R206). Bits 32 to 63 of the second vector word are reserved. -/
def State.escWrite (s : State) (r : Nat) (vec : Bool) (bank ix : Nat) (v : W64) : State :=
  if s.get F.RTR_ESC_CTL_ACTIVE [r] = bank then s.setB F.RTR_ESC_CTL_REFUSED [r] true
  else if vec then s.set F.RTR_ESCV_DEST [r, bank, ix % 2] (if ix % 2 = 1 then v.toNat % 2 ^ 32 else v.toNat)
  else s.set F.RTR_ESC_TBL_NEXT [r, bank, ix] (v.toNat % 8)

/-- ESC_TABLE_WRITE (R206). -/
def execEscTableWrite (who : Init) (r : Fin 96) (vec : Bool) (bank : Fin 2) (ix : Fin 96) (v : W64) (s : State) :
    Host.Outcome State Fault Refusal :=
  s.live (fun s => s.writeReg who (if vec then ⟨.RTR_ESCV, [r.val, bank.val, ix.val % 2]⟩ else ⟨.RTR_ESC_TBL, [r.val, bank.val, ix.val]⟩)
    (if vec then 8 else 4) (·.escWrite r.val vec bank.val ix.val v))

/-- The end of a freeze: the escape packets that waited enter, and every unconfirmed TLP of the router's sources whose destination has its
RTR_ESCV bit set is resent (R208 step 6). -/
def State.unfreeze (s : State) (r : Nat) : State :=
  let s1 := [8, 9].foldl (fun (s : State) (v : Nat) => s.fillLocal 8 ⟨r, 4, false, v⟩) (s.fillLocal 8 ⟨r, 4, true, 4⟩)
  let l := s1.fwd.held.filter (fun e => s1.exitRouter (pktStn e.2) e.2.egress == r && s1.escVec r e.2.dest)
  l.foldl (fun (s : State) (e : (SKey × Nat) × Pkt) => s.resendHeld e.1.1 e.1.2) s1

/-- A write of FREEZE (R208). -/
def State.setFreeze (s : State) (r : Nat) (on : Bool) : State :=
  let was := s.on F.RTR_ESC_CTL_FREEZE [r]
  let s1 := s.setB F.RTR_ESC_CTL_FREEZE [r] on
  if was ∧ on = false then s1.unfreeze r else s1

/-- ESC_FREEZE (R208). -/
def execEscFreeze (who : Init) (r : Fin 96) (on : Bool) (s : State) : Host.Outcome State Fault Refusal :=
  s.live (fun s => s.writeReg who ⟨.RTR_ESC_CTL, [r.val]⟩ 4 (fun s => (s.setFreeze r.val on).settled))

/-- ESCAPE_DRAINED (R208): ESC_EMPTY becomes 1 once no escape flit is in the router. -/
def execEscapeDrained (r : Fin 96) (s : State) : Host.Outcome State Fault Refusal :=
  s.live (fun s => if s.escFlits r.val then s else s.setB F.RTR_ESC_CTL_ESC_EMPTY [r.val] true)

/-- A write of SWAP: ignored and refused while FREEZE or ESC_EMPTY is 0 (R209). -/
def State.escSwap (s : State) (r : Nat) : State :=
  if s.on F.RTR_ESC_CTL_FREEZE [r] ∧ s.on F.RTR_ESC_CTL_ESC_EMPTY [r] then
    s.set F.RTR_ESC_CTL_ACTIVE [r] (1 - s.get F.RTR_ESC_CTL_ACTIVE [r])
  else s.setB F.RTR_ESC_CTL_REFUSED [r] true

/-- ESC_SWAP (R209). -/
def execEscSwap (who : Init) (r : Fin 96) (s : State) : Host.Outcome State Fault Refusal :=
  s.live (fun s => s.writeReg who ⟨.RTR_ESC_CTL, [r.val]⟩ 4 (·.escSwap r.val))

/-- REROUTE_CLEAR (R208 step 7): REROUTE is cleared in every working router, each write under its own checks. -/
def execRerouteClear (who : Init) (s : State) : Host.Outcome State Fault Refusal :=
  s.live (fun s => (List.range 96).foldl (fun (s : State) (r : Nat) =>
    if s.rtrOk r then s.writeReg who ⟨.RTR_ESC_CTL, [r]⟩ 4 (·.setB F.RTR_ESC_CTL_REROUTE [r] false) else s) s)

/-- A write of FREQ: refused unless it lies in 1,600 to 2,400 and is a multiple of 25 (R211, R212). -/
def State.setFreq (s : State) (r freq : Nat) : State :=
  if 1600 ≤ freq ∧ freq ≤ 2400 ∧ freq % 25 = 0 then
    ((s.set F.RTR_ISL_CTL_FREQ [r] freq).setB F.RTR_ISL_STAT_SETTLED [r] false).meshUp (fun m => { m with clkBad := m.clkBad.del r })
  else s.setB F.RTR_ISL_CTL_REFUSED [r] true

/-- ISLAND_FREQ_WRITE (R211, R212). -/
def execIslandFreqWrite (who : Init) (r : Fin 96) (freq : Fin 4096) (s : State) : Host.Outcome State Fault Refusal :=
  s.live (fun s => s.writeReg who ⟨.RTR_ISL_CTL, [r.val]⟩ 4 (·.setFreq r.val freq.val))

/-- Distance of two numbers. -/
def natDist (a b : Nat) : Nat := (a - b) + (b - a)

/-- ISLAND_SETTLED (R212): the measured frequency is within 5 MHz of the target. -/
def execIslandSettled (r : Fin 96) (meas : Fin 4096) (s : State) : Host.Outcome State Fault Refusal :=
  s.live (fun s =>
    if natDist meas.val (s.get F.RTR_ISL_CTL_FREQ [r.val]) ≤ 5 then
      (s.set F.RTR_ISL_STAT_MEAS [r.val] meas.val).setB F.RTR_ISL_STAT_SETTLED [r.val] true
    else s)

/-- FREQ_MEASUREMENT_WINDOW (R213): three windows in a row more than 5 % off while SETTLED is 1 set CLK_DEV. -/
def execFreqMeasurementWindow (r : Fin 96) (meas : Fin 4096) (s : State) : Host.Outcome State Fault Refusal :=
  s.live (fun s =>
    let f := s.get F.RTR_ISL_CTL_FREQ [r.val]
    let s1 := s.set F.RTR_ISL_STAT_MEAS [r.val] meas.val
    let off := decide (f < 20 * natDist meas.val f) && s.on F.RTR_ISL_STAT_SETTLED [r.val]
    let n := if off then s.mesh.clkBad.lookD r.val 0 + 1 else 0
    (s1.meshUp (fun m => { m with clkBad := m.clkBad.put r.val n })).when (decide (n = 3)) (·.event (.router r.val) 5))

end Sys2Proof.Machine
end

