-- ==== Sys2Proof/Machine/Escape.lean ====
section
/-!
DEFINITION. The escape tables and vectors that the management firmware computes (R205, R207), and the reroute of R208 as the firmware runs it.
-/

namespace Sys2Proof.Machine

/-- The working neighbours of a working router over working links, in increasing id order. -/
def State.meshNext (s : State) (n : Nat) : List Nat :=
  [2, 3, 1, 0].filterMap (fun d => match neighbour n d with
    | some m => if s.linkState n d = 1 ∧ s.rtrOk m then some m else none
    | none => none)

/-- One hop of the breadth-first search: the routers reached for the first time from the last ring. -/
def State.bfsStep (s : State) (lv : AMap Nat Nat) (ring : List Nat) (k : Nat) : AMap Nat Nat × List Nat :=
  ring.foldl (fun (a : AMap Nat Nat × List Nat) (n : Nat) =>
    (s.meshNext n).foldl (fun (a : AMap Nat Nat × List Nat) (m : Nat) =>
      if (a.1.look m).isSome then a else (a.1.put m k, a.2 ++ [m])) a) (lv, [])

/-- Levels by breadth-first search from the last ring, with `fuel` rings. -/
def State.bfs (s : State) : Nat → Nat → AMap Nat Nat → List Nat → AMap Nat Nat
  | 0, _, lv, _ => lv
  | fuel + 1, k, lv, ring => let r := s.bfsStep lv ring k; s.bfs fuel (k + 1) r.1 r.2

/-- The root: the first working router in the order 41, 42, 53, 54 (R205). -/
def State.escRoot (s : State) : Option Nat := [41, 42, 53, 54].find? (fun n => s.rtrOk n)

/-- The level of each working router that the root reaches: its hop distance from the root (R205). -/
def State.levels (s : State) : AMap Nat Nat :=
  match s.escRoot with
  | some r => s.bfs 96 1 [(r, 0)] [r]
  | none => []

/-- Is the direction from `n` to `m` up: toward the lower level, or the lower router id between equal levels (R205)? -/
def upLink (lv : AMap Nat Nat) (n m : Nat) : Bool :=
  let a := lv.lookD n 96
  let b := lv.lookD m 96
  decide (b < a) || (decide (a = b) && decide (m < n))

/-- The routers that have a level, the root first, by level and router id: every up link leads to an earlier one. -/
def levelOrder (lv : AMap Nat Nat) : List Nat :=
  (List.range 96).flatMap (fun k => below 96 (fun n => lv.look n == some k))

/-- One hop more than the least distance of the listed neighbours. -/
def nearest (dist : AMap Nat Nat) (l : List Nat) : Option Nat := ((l.filterMap dist.look).min?).map (· + 1)

/-- Lengths of the shortest paths to `d` over down links only (R205). -/
def State.downDist (s : State) (lv : AMap Nat Nat) (order : List Nat) (d : Nat) : AMap Nat Nat :=
  order.reverse.foldl (fun (m : AMap Nat Nat) (n : Nat) =>
    if n = d then m.put n 0
    else match nearest m ((s.meshNext n).filter (fun x => !upLink lv n x)) with
      | some k => m.put n k
      | none => m) []

/-- Lengths of the shortest legal paths to `d`: zero or more up links, then zero or more down links (R205). -/
def State.legalDist (s : State) (lv : AMap Nat Nat) (order : List Nat) (down : AMap Nat Nat) : AMap Nat Nat :=
  order.foldl (fun (m : AMap Nat Nat) (n : Nat) =>
    match (((down.look n).toList ++ (nearest m ((s.meshNext n).filter (fun x => upLink lv n x))).toList).min?) with
    | some k => m.put n k
    | none => m) []

/-- The listed neighbour with the least distance, the lowest router id on ties. -/
def pickNear (dist : AMap Nat Nat) (l : List Nat) : Option Nat :=
  match (l.filterMap dist.look).min? with
  | some k => l.find? (fun m => dist.look m == some k)
  | none => none

/-- The code of the direction from a router to its neighbour (RTR_ESC_TBL): north 0, east 1, south 2, west 3; 5 for none. -/
def dirTo (n : Nat) (m : Option Nat) : Nat :=
  match m with
  | some m => ((List.range 4).find? (fun d => neighbour n d == some m)).getD 5
  | none => 5

/-- The escape next hop at router `n` for the destination that the distances belong to (R205). -/
def State.escHop (s : State) (lv : AMap Nat Nat) (down legal : AMap Nat Nat) (n d : Nat) : Nat :=
  if n = d then 4
  else if (down.look n).isSome then dirTo n (pickNear down ((s.meshNext n).filter (fun x => !upLink lv n x)))
  else dirTo n (pickNear legal ((s.meshNext n).filter (fun x => upLink lv n x)))

/-- The column of the tables toward one destination, by working router; a failed destination has no legal path (R205). -/
def State.escColumn (s : State) (d : Nat) : List (Nat × Nat) :=
  let lv := s.levels
  let order := levelOrder lv
  let down := if s.rtrOk d then s.downDist lv order d else []
  let legal := s.legalDist lv order down
  (below 96 s.rtrOk).map (fun n => (n, if s.rtrOk d then s.escHop lv down legal n d else 5))

/-- Does the dimension-order path from a router to a working destination cross a failed link or router (R207)? The worked example of R208
leaves a failed destination's own bit 0. -/
def State.crosses (s : State) (n d : Nat) : Bool := s.rtrOk d && !s.dorOk (dorPath n d)

/-- The word `h` of the RTR_ESCV vector of a router. -/
def State.escWord (s : State) (n h : Nat) : W64 :=
  BitVec.ofNat 64 (((List.range (if h = 0 then 64 else 32)).map (fun i => if s.crosses n (64 * h + i) then 2 ^ i else 0)).sum)

/-- The inactive bank of a router's escape table. -/
def State.escIdle (s : State) (n : Nat) : Nat := 1 - s.get F.RTR_ESC_CTL_ACTIVE [n]

/-- Write every working router's inactive bank: the table and the vector (R208 step 2). -/
def State.escWriteAll (s : State) : State :=
  let ok := below 96 s.rtrOk
  let mine := fun (r : Reg) => match r.n, r.ix with
    | .RTR_ESC_TBL, [n, b, _] => s.rtrOk n && b == s.escIdle n
    | .RTR_ESCV, [n, b, _] => s.rtrOk n && b == s.escIdle n
    | _, _ => false
  let tbl := (List.range 96).flatMap (fun d => (s.escColumn d).map (fun (x : Nat × Nat) =>
    ((⟨.RTR_ESC_TBL, [x.1, s.escIdle x.1, d]⟩ : Reg), BitVec.ofNat 64 x.2)))
  let vec := ok.flatMap (fun n => [0, 1].map (fun h => ((⟨.RTR_ESCV, [n, s.escIdle n, h]⟩ : Reg), s.escWord n h)))
  { s with regs := tbl ++ vec ++ s.regs.filter (fun e => !mine e.1) }

/-- Do something in every working router. -/
def State.eachRouter (s : State) (f : State → Nat → State) : State := (below 96 s.rtrOk).foldl f s

/-- Steps 2 and 3 of R208: REROUTE is set in every working router, the inactive banks are written, and FREEZE is set. -/
def State.rerouteStart (s : State) : State :=
  let s1 := (s.eachRouter (fun s n => s.setB F.RTR_ESC_CTL_REROUTE [n] true)).escWriteAll
  s1.eachRouter (fun s n => s.setB F.RTR_ESC_CTL_FREEZE [n] true)

/-- Step 4 of R208 has completed: every working router is frozen and holds no escape flit. -/
def State.rerouteDrained (s : State) : Bool :=
  (below 96 s.rtrOk).all (fun n => s.on F.RTR_ESC_CTL_FREEZE [n] && !s.escFlits n)

/-- Steps 5 to 7 of R208: every working router swaps, FREEZE is cleared and the sources resend, and REROUTE is cleared. If a further element
has failed since step 2, the tables are written again first (R210). -/
def State.rerouteEnd (s : State) : State :=
  let s1 := s.escWriteAll.eachRouter (fun s n => (s.setB F.RTR_ESC_CTL_ESC_EMPTY [n] true).escSwap n)
  let s2 := s1.eachRouter (fun s n => s.setB F.RTR_ESC_CTL_FREEZE [n] false)
  let s3 := s2.eachRouter (fun s n => s.unfreeze n)
  (s3.eachRouter (fun s n => s.setB F.RTR_ESC_CTL_REROUTE [n] false)).settled

end Sys2Proof.Machine
end

