-- ==== Sys2Proof/Machine/CmdFault.lean ====
section
/-!
DEFINITION. The meanings of the commands on leaky counters (R456 to R460), on the Degraded handling (R461, R462, R578), on the loss of every
core's heartbeat (R466, R506), and of SHAPER_GRANT (R438).
-/

namespace Sys2Proof.Machine

/-! ### Leaky counters -/

/-- Does a leaky counter exist? Blocks: 0 PT, 1 RTR, 2 MCL, 3 SSL, 4 LSL (R459). -/
def leakUnit (blk n u : Nat) : Bool :=
  match blk with
  | 0 => decide (n < 36) && decide (u < 6)
  | 1 => decide (n < 96) && decide (u < 5)
  | 2 => decide (n < 16) && decide (u < 5)
  | 3 => decide (n < 16) && u == 0
  | _ => decide (n < 8) && u == 0

/-- A staging slice is declared failed: the chunks that hold its buffers resume elsewhere (R396, R462). -/
def State.stagingFail (s : State) (k : Nat) : State :=
  if s.isFailed 4 k then s.declare 4 k else (s.declare 4 k).partLost (fun _ => false) (fun b => b / 1024 == k)

/-- What the condition of a counted event sets and counts beside the leaky counter (R453, R532, R535). The events of a port's links have rows of
their own. The cluster data memory's event is raised at the cluster's first Mule, a choice of the model. -/
def State.leakSeen (s : State) (blk n u : Nat) : State :=
  match blk with
  | 0 => if u = 4 then (s.tileCount n 0).event (.tile n 0) 0 else if u = 5 then (s.tileCount n 2).event (.tile n 1) 0 else s
  | 1 => if u < 4 then (s.rtrCount n 11).event (.router n) 3 else s
  | 2 => if u < 4 then s.event (.mule (4 * n + u)) 2 else s.event (.mule (4 * n)) 2
  | 3 => s.event (.ssl n) 0
  | _ => s.event (.lsl n) 0

/-- The action at THRESHOLD (R459); `e` is the failing tracker entry. -/
def State.leakAction (s : State) (blk n u e : Nat) : State :=
  match blk with
  | 0 =>
    if u = 4 then s.spareRow n
    else if u = 5 then s.retireTrk n e
    else if s.role (4 * n + u) = 2 then s.memberLeave ((4 * n + u) / 8) ((4 * n + u) % 8) true
    else s.lowerRate (4 * n + u)
  | 1 => if u < 4 then s.failLink n u else s.failRouter n
  | 2 => if u < 4 then s.muleFail (4 * n + u) else s.clusterFail n
  | 3 => s.stagingFail n
  | _ => s.sliceFailed n

/-- A counted event of a unit (R456). -/
def State.leakCount (s : State) (blk n u e : Nat) : State :=
  if leakUnit blk n u then
    match (s.leakSeen blk n u).leakyEvent blk n u with
    | (s1, true) => s1.leakAction blk n u e
    | (s1, false) => s1
  else s

/-- LEAKY_COUNT (R456, R459). -/
def execLeakyCount (blk : Fin 5) (n : Fin 96) (u : Fin 6) (entry : Fin 16384) (s : State) : Host.Outcome State Fault Refusal :=
  s.live (·.leakCount blk.val n.val u.val entry.val)

/-- The last tick of a leaky counter's schedule, or its start. -/
def State.leakLast (s : State) (blk n u : Nat) : Nat := s.flt.leakAt.lookD (blk, n, u) s.flt.leakFrom

/-- Keep the last tick of a leaky counter's schedule. -/
def State.setLeakAt (s : State) (blk n u t : Nat) : State := { s with flt := { s.flt with leakAt := s.flt.leakAt.put (blk, n, u) t } }

/-- A leak tick, where one is due: the counter falls by one while it is above 0 and not lasting (R456). -/
def State.leakTick (s : State) (blk n u : Nat) : State :=
  if leakUnit blk n u ∧ s.leakLast blk n u + s.leakNs blk n u ≤ s.now then
    let s1 := s.setLeakAt blk n u (s.leakLast blk n u + s.leakNs blk n u)
    if s.on F.LK_STAT_LASTING [blk, n, u] then s1 else s1.set F.LK_STAT_COUNT [blk, n, u] (s.get F.LK_STAT_COUNT [blk, n, u] - 1)
  else s

/-- LEAK_TICK (R456). -/
def execLeakTick (blk : Fin 5) (n : Fin 96) (u : Fin 6) (s : State) : Host.Outcome State Fault Refusal :=
  s.live (·.leakTick blk.val n.val u.val)

/-- A write to LK_CFG: the counter is set to 0 and the schedule starts again; a lasting unit stays lasting (R457). -/
def State.leakCfg (s : State) (blk n u : Nat) (v : W64) : State :=
  (((s.writeTyped ⟨.LK_CFG, [blk, n, u]⟩ false v).set F.LK_STAT_COUNT [blk, n, u] 0)).setLeakAt blk n u s.now

/-- LK_CFG_WRITE (R457). -/
def execLkCfgWrite (who : Init) (blk : Fin 5) (n : Fin 96) (u : Fin 6) (v : W64) (s : State) : Host.Outcome State Fault Refusal :=
  s.live (fun s => if leakUnit blk.val n.val u.val then s.writeReg who ⟨.LK_CFG, [blk.val, n.val, u.val]⟩ 8 (·.leakCfg blk.val n.val u.val v) else s)

/-! ### Degraded handling -/

/-- Does a port of a tile lose its path with router `r` (R17, R462): an x16 port and a trunk keep the other router of their pair? -/
def State.pathLost (s : State) (p : Nat) : Bool :=
  let t := p / 4
  let pair := s.rtrOk (routerOfTile (t / 2 * 2)) || s.rtrOk (routerOfTile (t / 2 * 2 + 1))
  if s.isX16 t || s.role p == 2 then !pair else true

/-- The ports of a tile that lose their only path (R266): each is contained with CAUSE 12. -/
def State.tileLost (s : State) (t : Nat) : State :=
  ((List.range 4).map (4 * t + ·)).foldl (fun (s : State) (p : Nat) =>
    s.when (s.portWidth p != 0 && s.pon F.PP_CTL_ENABLE p && s.pathLost p) (·.downPort p 12 false)) s

/-- The station behind a failed router follows its own row of R462. -/
def State.stationLost (s : State) (r : Nat) : State :=
  let x := stnOfRouter r
  if x < 36 then s.tileLost x
  else if x < 52 then s.clusterFail (x - 36)
  else if x < 68 then s.stagingFail (x - 52)
  else if x < 76 then s.sliceFailed (x - 68)
  else if x = stnSec ∨ x = stnTel then s.declare 12 r
  else s

/-- Step 3 of R461 as it begins. The parts of types 2 to 9 left service when they were declared, a core restarts, and a lost source has been
left by R509. -/
def State.degStart (s : State) (ty ix : Nat) : State :=
  match ty with
  | 0 => (s.stationLost ix).rerouteStart
  | 1 => s.rerouteStart
  | _ => s

/-- Does the handling's own completion condition hold: the routers drained (R208), the front ends of a cluster moved (R343), a ledger pair's
entries moved (R390)? -/
def State.degReady (s : State) (ty ix : Nat) : Bool :=
  match ty with
  | 0 | 1 => s.rerouteDrained
  | 3 => (s.nextMc 0).isNone || (List.range 1072).all (fun i => s.get F.DM_STAT_SERVING [i] != ix)
  | 5 => (s.dm.mv.look ix).isNone
  | _ => true

/-- What ends the handling: the reroute's steps 5 to 7. -/
def State.degEnd (s : State) (ty : Nat) : State := if ty = 0 ∨ ty = 1 then s.rerouteEnd else s

/-- Does a handled part stay out of service until a reset (R578)? -/
def staysOut (ty : Nat) : Bool := decide (ty ≤ 7) || ty == 12

/-- GSV_DEG.QUEUED follows the queue; it stays at all-ones. -/
def State.updQueued (s : State) : State := s.set F.GSV_DEG_QUEUED [] (min 127 s.flt.queue.length)

/-- DEGRADED_HANDLING (R461 steps 2 and 3): the firmware takes the next declaration. -/
def State.degTake (s : State) : State :=
  match s.flt.cur, s.flt.queue with
  | none, (ty, ix) :: rest =>
    if s.restarting then s
    else
      let s1 : State := { s with flt := { s.flt with cur := some (ty, ix), queue := rest } }
      ((((s1.updQueued).setB F.GSV_DEG_BUSY [] true).set F.GSV_DEG_LAST_TYPE [] ty).set F.GSV_DEG_LAST_INDEX [] ix).degStart ty ix
  | _, _ => s

/-- DEGRADED_HANDLING (R461). -/
def execDegradedHandling (s : State) : Host.Outcome State Fault Refusal := s.live (·.degTake)

/-- DEGRADED_HANDLING_DONE (R461 step 4): DONE advances, and OUT for a part that stays out of service; BUSY clears when no declaration
waits. -/
def State.degDone (s : State) : State :=
  match s.flt.cur with
  | none => s
  | some (ty, ix) =>
    if s.restarting ∨ s.degReady ty ix = false then s
    else
      let s1 := s.degEnd ty
      let s2 : State := { s1 with flt := { s1.flt with cur := none, failed := if ty = 10 then s1.flt.failed.filter (· != (ty, ix)) else s1.flt.failed } }
      ((((s2.bump F.GSV_DEG_DONE []).when (staysOut ty) (·.bump F.GSV_DEG_OUT [])).event .gsv 1)).when s2.flt.queue.isEmpty
        (·.setB F.GSV_DEG_BUSY [] false)

/-- DEGRADED_HANDLING_DONE (R461). -/
def execDegradedHandlingDone (s : State) : Host.Outcome State Fault Refusal := s.live (·.degDone)

/-! ### The loss of every heartbeat -/

/-- The management cores are reset and a management restart begins (R506); the beats start again. -/
def State.startRestart (s : State) (reason : Nat) : State :=
  ((s.setB F.MGR_RESTART_ACTIVE [] true).beats 15).mgrUp (fun m => { m with restart := none, restartAt := s.now, reason := reason })

/-- No core has beaten for 10 ms: a full restart, unless three lie within the preceding 10 s, when the cores are held (R466). -/
def State.allLost (s : State) : State :=
  if (List.range 4).all (fun c => s.beatLost c) ∧ s.on F.GSV_STAT_MGMT_DOWN [] = false then
    let recent := s.flt.restarts.filter (fun t => decide (s.now < t + 10000000000))
    if 3 ≤ recent.length then (s.setB F.GSV_STAT_MGMT_DOWN [] true).event .gsv 3
    else
      let s1 : State := { s with flt := { s.flt with restarts := recent ++ [s.now] } }
      (s1.bump F.GSV_HB_RESTARTS []).startRestart 0
  else s

/-- ALL_CORES_HEARTBEAT_LOSS (R466). -/
def execAllCoresHeartbeatLoss (s : State) : Host.Outcome State Fault Refusal := s.live (·.allLost)

/-! ### Shapers -/

/-- SHAPER_GRANT: a shaper whose credit is 0 or above grants what waits for it: egress shapers of port classes 0 to 575, ingress shapers of virtual
switches 576 to 767, instance shapers from 768 on, whose chunks are issued by their own command (R437, R438). -/
def State.shaperGrant (s : State) (x : Nat) : State :=
  if s.shGrants x = false then s
  else if x < 576 then
    let p := x / 4
    if (s.sq p (x % 4)).isEmpty then s
    else
      let s1 := s.schedule p
      if s1.isTrunk p then s1.trunkPump (p / 8) else s1
  else if x < 768 then s.ingressGrant x 1
  else s.shWait x false

/-- SHAPER_GRANT (R438). -/
def execShaperGrant (x : Fin 1840) (s : State) : Host.Outcome State Fault Refusal := s.live (·.shaperGrant x.val)

end Sys2Proof.Machine
end

