-- ==== Sys2Proof/Machine/Clock.lean ====
section
/-!
DEFINITION. Timebase sources (R508 to R512), clock enables (R516, R517), power domains (R519 to R523), the straps and the device resets (R524 to
R529).
-/

namespace Sys2Proof.Machine

/-- Change the clock and power state. -/
def State.cpwUp (s : State) (f : CpwSt → CpwSt) : State := { s with cpw := f s.cpw }

/-! ### The FAULT_N and SAFE_N pins -/

/-- FAULT_N is asserted in the safe state, while parts are out of service, and after 100 ms without a source (R468, R469, R524). -/
def State.faultN (s : State) : Bool := s.sealed || decide (0 < s.get F.GSV_DEG_OUT []) || s.cpw.noSource

/-- SAFE_N is asserted only in the safe state (R469). -/
def State.safeN (s : State) : Bool := s.sealed

/-! ### Timebase sources -/

/-- Is a source READY? -/
def State.srcReady (s : State) (c : Nat) : Bool := (s.get F.CPW_TB_STAT_READY []).testBit c

/-- The sources of a PRIO field, first choice first. -/
def prioList (v : Nat) : List Nat := [v % 4, v / 4 % 4, v / 16 % 4, v / 64 % 4]

/-- The first READY source in the order of PRIO (R509). -/
def State.firstReady (s : State) : Option Nat := (prioList (s.get F.CPW_TB_CFG_PRIO [])).find? (fun c => s.srcReady c)

/-- Is the input of a reference output present (R515)? -/
def State.refThere (s : State) (src : Nat) : Bool := if src < 2 then s.srcReady src else s.on F.CPW_TB_STAT_LOCKED []

/-- RUNNING of the reference outputs follows EN and the presence of the source (R515). -/
def State.refRun (s : State) : State :=
  (List.range 24).foldl (fun (s : State) (n : Nat) =>
    s.setB F.CPW_REFOUT_RUNNING [n] (s.on F.CPW_REFOUT_EN [n] && s.refThere (s.get F.CPW_REFOUT_SRC [n]))) s

/-- The measured offset of a source (CPW_TB_MEAS). -/
def measField : Nat → Fld
  | 0 => F.CPW_TB_MEAS_SRC0
  | 1 => F.CPW_TB_MEAS_SRC1
  | 2 => F.CPW_TB_MEAS_SRC2
  | _ => F.CPW_TB_MEAS_SRC3

/-- At power-up and cold reset, once the straps are latched, the PLL takes the first READY source (R509, R524 step 4). -/
def State.chooseSource (s : State) : State :=
  if s.cpw.latched ∧ s.cpw.chosen = false then
    match s.firstReady with
    | some c => ((((s.set F.CPW_TB_STAT_ACTIVE [] c).set F.CPW_TB_CFG_SEL [] c).set (measField c) [] 0)).cpwUp (fun x => { x with chosen := true, noSource := false })
    | none => s
  else s

/-- Begin a switch of the PLL: `fb` says that it is a fallback (R509, R510). -/
def State.startSwitch (s : State) (c : Nat) (fb : Bool) : State :=
  (s.setB F.CPW_TB_STAT_SWITCHING [] true).cpwUp (fun x => { x with switch := some (c, fb) })

/-- The fallback of R509 after the loss of a source: the loss is declared, and the PLL moves to the first READY source. -/
def State.fallback (s : State) (lost : Nat) : State :=
  let s1 := s.declare 11 lost
  match s1.firstReady with
  | some c => s1.startSwitch c true
  | none => (s1.setB F.CPW_TB_STAT_SWITCHING [] false).cpwUp (fun x => { x with switch := none })

/-- Ports whose lanes name a lost reference clock directly lose their links; a pair with an x16 port or a trunk uses its even tile's setting (R509, R514). -/
def State.refLost (s : State) (c : Nat) : State :=
  (List.range 144).foldl (fun (s : State) (p : Nat) =>
    let t := p / 4
    let u := if s.isX16 t || s.role p == 2 then t / 2 * 2 else t
    if s.portWidth p ≠ 0 ∧ s.get F.CPW_TILE_REF_SRC [u] = c then s.dlDown p else s) s

/-- A source is lost (R508 to R510). -/
def State.sourceLost (s : State) (c : Nat) : State :=
  if s.srcReady c = false then s
  else
    let s1 := ((s.set F.CPW_TB_STAT_READY [] (setBitN (s.get F.CPW_TB_STAT_READY []) c false)).event .cpw 3).refRun
    let s2 := if c < 2 then s1.refLost c else s1
    match s2.cpw.switch with
    | some (t, _) => if t = c then s2.fallback c else s2
    | none =>
      if s2.cpw.chosen ∧ s2.get F.CPW_TB_STAT_ACTIVE [] = c then
        if s2.on F.CPW_TB_STAT_LOCKED [] then s2.fallback c else (s2.cpwUp (fun x => { x with chosen := false })).chooseSource
      else s2

/-- May a source become READY: PWR_OK high; the crystal fitted and its wait over; the trunk of the recovered clock up (R508, R512)? -/
def State.sourceMay (s : State) (c : Nat) : Bool :=
  s.cpw.pwrOk &&
  (match c with
  | 2 => s.tkOn (s.get F.CPW_TB_CFG_RECOV_TRK [])
  | 3 => s.cpw.oscDone && !s.on F.CPW_TB_STAT_XTAL_ABSENT []
  | _ => true)

/-- A source becomes READY, with its measured offset; a PLL without a source takes it (R508, R509, CPW_TB_MEAS). -/
def State.sourceUp (s : State) (c off : Nat) : State :=
  if s.sourceMay c then
    let s1 := (s.set F.CPW_TB_STAT_READY [] (setBitN (s.get F.CPW_TB_STAT_READY []) c true)).set (measField c) [] off
    let s2 : State := { s1 with flt := { s1.flt with failed := s1.flt.failed.filter (· != (11, c)) } }
    let s3 := s2.refRun.chooseSource
    if s3.on F.CPW_TB_STAT_LOCKED [] ∧ s3.cpw.switch = none ∧ s3.srcReady (s3.get F.CPW_TB_STAT_ACTIVE []) = false then s3.startSwitch c true else s3
  else s

/-- A switch or fallback completes (R509, R510): a fallback writes SEL and is counted and raised. -/
def State.switchDone (s : State) : State :=
  match s.cpw.switch with
  | none => s
  | some (c, fb) =>
    let s1 := (((s.set F.CPW_TB_STAT_ACTIVE [] c).setB F.CPW_TB_STAT_SWITCHING [] false).set (measField c) [] 0).cpwUp (fun x => { x with switch := none })
    if fb then (((s1.set F.CPW_TB_CFG_SEL [] c).bump F.CPW_TB_STAT_FALLBACKS []).event .cpw 1) else s1

/-- A write of CPW_TB_CFG (R510): refused whole for a PRIO that is no permutation, a trunk above 17, a target that is not READY, or while a switch is
under way. A SEL equal to the register's requests nothing. -/
def State.tbWrite (s : State) (v : W64) : State :=
  let sel := fget v 0 2
  let want := sel != s.get F.CPW_TB_CFG_SEL []
  let prio := prioList (fget v 2 8)
  if [0, 1, 2, 3].any (fun c => !prio.contains c) ∨ 17 < fget v 10 5 ∨ (want = true ∧ (s.srcReady sel = false ∨ s.on F.CPW_TB_STAT_SWITCHING [] = true)) then
    (s.setB F.CPW_TB_CFG_REFUSED [] true).event .cpw 2
  else
    let s1 := s.writeTyped ⟨.CPW_TB_CFG, []⟩ false v
    let s2 := if want then s1.startSwitch sel false else s1
    if s2.tkOn (s2.get F.CPW_TB_CFG_RECOV_TRK []) then s2 else s2.sourceLost 2

/-! ### Lane references and reference outputs -/

/-- A write of CPW_TILE_REF (R514). -/
def State.tileRef (s : State) (t : Nat) (v : W64) : State :=
  if fget v 0 2 = 3 ∨ fget v 2 2 = 3 ∨ s.tileEnabled t = true then s.setB F.CPW_TILE_REF_REFUSED [t] true
  else s.writeTyped ⟨.CPW_TILE_REF, [t]⟩ false v

/-- A write of CPW_REFOUT (R515). -/
def State.refOut (s : State) (n : Nat) (v : W64) : State :=
  if fget v 1 2 = 3 ∨ (s.on F.CPW_REFOUT_EN [n] = true ∧ fget v 1 2 ≠ s.get F.CPW_REFOUT_SRC [n]) then s.setB F.CPW_REFOUT_REFUSED [n] true
  else (s.writeTyped ⟨.CPW_REFOUT, [n]⟩ false v).refRun

/-! ### Clock enables (R516, R517) -/

/-- Set or clear the clock enable of a slot. -/
def State.setClkEn (s : State) (slot : Nat) (on : Bool) : State :=
  s.set F.CPW_CLKEN_EN [slot / 32] (let w := s.get F.CPW_CLKEN_EN [slot / 32]
    if on then w ||| (1 <<< (slot % 32)) else w &&& ((2 ^ 32 - 1) ^^^ (1 <<< (slot % 32))))

/-- May software change the enable of a slot to `on`: FAB and PMG only, and FAB off only while no trunk has EN = 1 (R516)? -/
def State.clkMay (s : State) (slot : Nat) (on : Bool) : Bool :=
  (slot == 5 && (on || !(List.range 18).any (fun j => s.on F.FAB_TRK_CFG_EN [j]))) || slot == 200

/-- A write of CPW_CLKEN: each bit that would break the table of R516 is ignored, and CLKEN_REFUSED is raised (R517). -/
def State.clkWrite (s : State) (w v : Nat) : State :=
  let old := s.get F.CPW_CLKEN_EN [w]
  let chg := below 32 (fun b => v.testBit b != old.testBit b)
  let s1 := (chg.filter (fun b => s.clkMay (32 * w + b) (v.testBit b))).foldl (fun (s : State) (b : Nat) => s.setClkEn (32 * w + b) (v.testBit b)) s
  s1.when (chg.any (fun b => !s.clkMay (32 * w + b) (v.testBit b))) (·.event .cpw 6)

/-! ### Power domains (R519 to R523) -/

/-- The gate slots of a domain's blocks. -/
def domainSlots (d : Nat) : List Nat :=
  if d < 36 then [16 + d] else if d < 52 then [160 + (d - 36)] else (List.range 4).map (fun k => 176 + 4 * (d - 52) + k)

/-- Refuse a request for a domain (R520). -/
def State.pdRefuse (s : State) (d cause : Nat) : State :=
  ((s.setB F.CPW_PD_REFUSED [d] true).set F.CPW_PD_CAUSE [d] cause).event .cpw 4

/-- Is a sequence under way that excludes one of domain `d` (R520)? -/
def State.pdBusy (s : State) (d : Nat) : Bool :=
  decide (2 ≤ s.get F.CPW_PD_STATE [d]) || (decide (36 ≤ d) && (List.range 20).any (fun k => decide (2 ≤ s.get F.CPW_PD_STATE [36 + k])))

/-- Is a staging group powered and in service? -/
def State.groupIn (s : State) (g : Nat) : Bool := (List.range 4).any (fun k => s.ssIn (4 * g + k))

/-- Would taking the domain down break the minimum of clusters or staging groups (R520)? -/
def State.pdMinimum (s : State) (d : Nat) : Bool :=
  if d < 36 then false
  else if d < 52 then !(List.range 16).any (fun k => k != d - 36 && s.mcIn k)
  else decide (((List.range 4).filter (fun g => g != d - 52 && s.groupIn g)).length < 2)

/-- Is a vendor Mule firmware update under way? -/
def State.fwRunning (s : State) : Bool := s.mule.fw.isSome

/-- Does no chunk, invocation or buffer use a domain (R521)? -/
def State.pdIdle (s : State) (d : Nat) : Bool :=
  if d < 36 then true
  else if d < 52 then s.get F.MCL_STAT_THR_BUSY [d - 36] == 0
  else !s.dm.bufs.any (fun e => e.1 / 4096 == d - 52)

/-- Registers that a domain loses with its power: those of its pages but the leaky counters, and the windows, which are loaded again at exit (R519,
R522). -/
def lostReg (d : Nat) (r : Reg) : Bool :=
  r.n != .LK_CFG && r.n != .LK_STAT && r.n != .LK_TOTAL && r.n != .PT_WIN_E && r.n != .PT_WIN_BASE && r.n != .PT_WIN_LIMIT &&
  (domainSlots d).contains r.slotOff.1

/-- A memory without the addresses from `lo` up to `hi`. -/
def memDrop (m : Memory) (lo hi : Nat) : Memory := m.filter (fun c => decide (c.1 < lo) || decide (hi ≤ c.1))

/-- Step 3 of an entry: the clock enables are cleared and the power is removed (R521). -/
def State.pdOff (s : State) (d : Nat) : State :=
  let s1 := (domainSlots d).foldl (fun (s : State) (x : Nat) => s.setClkEn x false) (s.clearRegs (lostReg d))
  let s2 := (s1.set F.CPW_PD_STATE [d] 0).cpwUp (fun x => { x with pdAt := x.pdAt.del d })
  if d < 36 then s2
  else if d < 52 then
    let k := d - 36
    (s2.set F.MCL_STAT_STATE [k] 3).muleUp (fun u => { u with
      dmem := memDrop u.dmem (0x80000 * k) (0x80000 * (k + 1)), imem := memDrop u.imem (0x80000 * k) (0x80000 * (k + 1)) })
  else s2.muleUp (fun u => { u with stg := memDrop u.stg (0x1000000 * (d - 52)) (0x1000000 * (d - 51)) })

/-- Step 1 of an entry: a tile returns its leases, a cluster takes no chunk, a staging group no buffer (R521). -/
def State.pdEnter (s : State) (d : Nat) : State :=
  let s1 := (s.set F.CPW_PD_STATE [d] 2).cpwUp (fun x => { x with pdAt := x.pdAt.put d s.now })
  if d < 36 then
    let l := s1.fwd.leases.filter (fun e => e.1.1 == d && !e.2.isEmpty)
    l.foldl (fun (s : State) (e : (Nat × Nat) × List Nat) =>
      (s.setLease d e.1.2 []).sendMsg d (e.1.2 / 4) (.leaseReturn d e.1.2 e.2)) s1
  else if d < 52 then s1.set F.MCL_STAT_STATE [d - 36] 3
  else s1

/-- A write of OFF (R520, R521). -/
def State.pdTurnOff (s : State) (d : Nat) : State :=
  if s.get F.CPW_PD_STATE [d] = 0 then s
  else if s.pdBusy d then s.pdRefuse d 2
  else if d < 36 ∧ (s.get F.PT_CUT_CUT [d] ≠ 0 ∨ s.get F.PT_TRK_STAT_LIVE [d] ≠ 0) then s.pdRefuse d 1
  else if s.pdMinimum d then s.pdRefuse d 3
  else if 36 ≤ d ∧ d < 52 ∧ s.fwRunning = true then s.pdRefuse d 4
  else
    let s1 := s.pdEnter d
    if s1.pdIdle d then s1.pdOff d else s1

/-- A write of ON (R520, R522 step 1). -/
def State.pdTurnOn (s : State) (d : Nat) : State :=
  if s.get F.CPW_PD_STATE [d] = 1 then s
  else if s.pdBusy d then s.pdRefuse d 2
  else if 36 ≤ d ∧ d < 52 ∧ s.fwRunning = true then s.pdRefuse d 4
  else (s.set F.CPW_PD_STATE [d] 3).cpwUp (fun x => { x with pdAt := x.pdAt.put d s.now })

/-- A write of CPW_PD (R520); REFUSED is cleared by writing 1. -/
def State.pdWrite (s : State) (d : Nat) (v : W64) : State :=
  let s1 := s.when (v.getLsbD 4) (·.setB F.CPW_PD_REFUSED [d] false)
  match v.getLsbD 0, v.getLsbD 1 with
  | true, true => s1.pdRefuse d 5
  | true, false => s1.pdTurnOn d
  | false, true => s1.pdTurnOff d
  | false, false => s1

/-- The wait of an entry: the domain goes off once nothing uses it, or after 20 µs, when what still uses it becomes unassigned (R521 step 2). -/
def State.pdDrain (s : State) (d : Nat) : State :=
  if s.get F.CPW_PD_STATE [d] ≠ 2 then s
  else if s.pdIdle d then s.pdOff d
  else if s.cpw.pdAt.lookD d 0 + 20000 ≤ s.now then
    (s.partLost (fun t => decide (36 ≤ d) && decide (d < 52) && t / 16 == d - 36) (fun b => decide (52 ≤ d) && b / 4096 == d - 52)).pdOff d
  else s

/-- A domain enters service: clock enables, a tile's banks from the active banks, a cluster's firmware and Loaded programs (R522). -/
def State.pdServe (s : State) (d : Nat) : State :=
  let s1 := (domainSlots d).foldl (fun (s : State) (x : Nat) => s.setClkEn x true)
    ((s.set F.CPW_PD_STATE [d] 1).cpwUp (fun x => { x with pdAt := x.pdAt.del d }))
  if d < 36 then
    (((s1.set F.PT_FWD_EPOCH_EPOCH [d] (s.fwd.epochs.lookD 0 0)).set F.PT_WIN_BANK_EPOCH [d] (s.fwd.epochs.lookD 1 0)).set F.PT_WIN_BANK_ACTIVE [d] s.winBank).fwdUp
      (fun f => { f with gateBank := f.gateBank.put d (s.gateActive, s.fwd.epochs.lookD 2 0) })
  else if d < 52 then
    let k := d - 36
    let s2 := if s.isFailed 3 k then s1.set F.MCL_STAT_STATE [k] 2 else s1.set F.MCL_STAT_STATE [k] 0
    let s3 := (below 4 (fun j => s.isFailed 2 (4 * k + j))).foldl (fun (s : State) (j : Nat) =>
      s.set F.MCL_STAT_MULE_OK [k] (setBitN (s.get F.MCL_STAT_MULE_OK [k]) j false)) s2
    let s4 := if s.sec.muleFw.isEmpty then s3 else s3.installImage k s.sec.muleFw
    ((below 4 (fun p => s.get F.DMG_PROG_STATE [p] == 2)).foldl (fun (s : State) (p : Nat) => s.installProg k p (s.mule.images.lookD p [])) s4).fwdUp
      (fun f => { f with gateBank := f.gateBank.put (stnMc k) (s.gateActive, s.fwd.epochs.lookD 2 0) })
  else s1

/-- The end of an exit's initialisation (R522, R523). -/
def State.pdExit (s : State) (d : Nat) (ok : Bool) : State :=
  if s.get F.CPW_PD_STATE [d] ≠ 3 then s
  else if ok then s.pdServe d
  else
    ((((s.set F.CPW_PD_STATE [d] 0).cpwUp (fun x => { x with pdAt := x.pdAt.del d })).setB F.CPW_PD_REFUSED [d] true).set F.CPW_PD_CAUSE [d] 6).event .cpw 5

/-! ### Resets (R526 to R529) -/

/-- The bits of a register's fields of type RWS. -/
def rwsMask (n : RN) : W64 := n.fields.foldl (fun m f => if f.ty = .rws then m ||| fmask f.lo f.w else m) 0

/-- The bits of a register that a reset keeps (R528): kind 0 power-on, 1 cold, 2 warm; `jnl` says that the journal is kept. The supplies'
and sensors' readings are not state that a reset clears. -/
def keptBits (kind : Nat) (jnl : Bool) (r : Reg) : W64 :=
  let all : W64 := BitVec.allOnes 64
  let warm : W64 → W64 := fun m => if kind = 2 then m else 0
  match r.n with
  | .SEC_FUSE => all
  | .GSV_SEAL => if kind = 0 then 0 else all
  | .MGR_JNL_SEQ => if jnl then all else 0
  | .GSV_STAT => if kind = 0 then 0 else fmask 4 17
  | .CPW_STRAP | .CPW_TB_STAT | .CPW_TB_MEAS | .CPW_TIME | .LK_TOTAL => warm all
  | .FAB_DEV => warm (fmask 0 2)
  | .MGR_RESTART | .CPW_RST => warm (fmask 8 8)
  | n => warm (rwsMask n)

/-- The registers after a reset. -/
def resetRegs (kind : Nat) (jnl : Bool) (m : RegMap) : RegMap :=
  m.filterMap (fun e => let k := keptBits kind jnl e.1
    if k = 0 then none else some (e.1, (e.2 &&& k) ||| (e.1.rst &&& ~~~k)))

/-- The ports with a PERST# output. -/
def State.perstPorts (s : State) : List Nat := below 144 (fun p => s.drives p true)

/-- What a device reset leaves (R528): fuses and flash always, and what the table keeps. Levels of input pins are not the device's to reset. -/
def State.deviceReset (s : State) (kind : Nat) (jnl : Bool) : State :=
  { regs := resetRegs kind jnl s.regs
    journal := if jnl then s.journal else []
    sec := { vendor := s.sec.vendor, oper := s.sec.oper, flash := s.sec.flash, record := s.sec.record }
    fwd := if kind = 2 then { rowsUsed := s.fwd.rowsUsed, retired := s.fwd.retired } else {}
    flt := { leakFrom := if kind = 2 then s.now else 0 }
    lnk := { perstIn := s.lnk.perstIn, perstOut := s.perstPorts.map (fun p => (p, if kind = 2 then s.now else 0)) }
    cpw := if kind = 2 then { s.cpw with pdAt := [] }
      else { aon := s.cpw.aon, pwrOk := kind == 1, resetN := if kind = 1 then false else s.cpw.resetN, oscDone := kind == 1 && s.cpw.oscDone,
             clkreq := s.cpw.clkreq }
    sent := s.sent
    pending := s.pending }

/-- A power-on reset by PWR_OK: the journal is kept (R470, R528). -/
def State.powerReset (s : State) : State := s.deviceReset 0 true

/-- A cold reset (R526, R528). -/
def State.coldReset (s : State) : State := (s.deviceReset 1 true).set F.CPW_RST_LAST [] 1

/-- A warm reset (R527, R528): WARMS advances; the trunk of the recovered clock is gone, so that source is lost. -/
def State.warmReset (s : State) : State :=
  (((s.deviceReset 2 true).set F.CPW_RST_LAST [] 2).bump F.CPW_RST_WARMS []).sourceLost 2

/-- VDD_AON below its reset threshold: everything but the fuses and the flash is lost, the journal too (R526, R528). -/
def State.aonLost (s : State) : State := (s.deviceReset 0 false).cpwUp (fun x => { x with aon := false, pwrOk := false })

/-- Latch the straps: ROLE, OSC_WAIT, BOOT_SEL, MGMT_PORT (R308, R512, R525). -/
def State.latchStraps (s : State) (v : Nat) : State :=
  ((((s.wr ⟨.CPW_STRAP, []⟩ (BitVec.ofNat 64 (v % 2 ^ 14))).setB F.CPW_TB_STAT_XTAL_ABSENT [] (v / 4 % 8 == 7)).set F.FAB_DEV_ROLE [] (v % 4)).cpwUp
    (fun x => { x with latched := true })).chooseSource

end Sys2Proof.Machine
end

