-- ==== Sys2Proof/Machine/CmdClock.lean ====
section
/-!
DEFINITION. The meanings of the commands of clocks, power and reset (chapter 17).
-/

namespace Sys2Proof.Machine

/-- TIMEBASE_SOURCE_LOST (R508 to R510). -/
def execTimebaseSourceLost (src : Fin 4) (s : State) : Host.Outcome State Fault Refusal := s.live (·.sourceLost src.val)

/-- SOURCE_READY (R508). -/
def execSourceReady (src : Fin 4) (offset : Fin 256) (s : State) : Host.Outcome State Fault Refusal := s.live (·.sourceUp src.val offset.val)

/-- TIMEBASE_SWITCH (R510): a write of CPW_TB_CFG. -/
def execTimebaseSwitch (who : Init) (v : W32) (s : State) : Host.Outcome State Fault Refusal :=
  s.live (fun s => s.writeReg who ⟨.CPW_TB_CFG, []⟩ 4 (·.tbWrite (v.zeroExtend 64)))

/-- TIMEBASE_SWITCH_DONE (R509, R510). -/
def execTimebaseSwitchDone (s : State) : Host.Outcome State Fault Refusal := s.live (·.switchDone)

/-- TILE_REF_WRITE (R514). -/
def execTileRefWrite (who : Init) (t : Fin 36) (v : W32) (s : State) : Host.Outcome State Fault Refusal :=
  s.live (fun s => s.writeReg who ⟨.CPW_TILE_REF, [t.val]⟩ 4 (·.tileRef t.val (v.zeroExtend 64)))

/-- REFOUT_WRITE (R515). -/
def execRefoutWrite (who : Init) (n : Fin 24) (v : W32) (s : State) : Host.Outcome State Fault Refusal :=
  s.live (fun s => s.writeReg who ⟨.CPW_REFOUT, [n.val]⟩ 4 (·.refOut n.val (v.zeroExtend 64)))

/-- CLKEN_WRITE (R516, R517). -/
def execClkenWrite (who : Init) (w : Fin 8) (v : W32) (s : State) : Host.Outcome State Fault Refusal :=
  s.live (fun s => s.writeReg who ⟨.CPW_CLKEN, [w.val]⟩ 4 (·.clkWrite w.val v.toNat))

/-- PD_ON (R520, R522): a write of ON, with OFF written 1 beside it or not. -/
def execPdOn (who : Init) (d : Fin 56) (off : Bool) (s : State) : Host.Outcome State Fault Refusal :=
  s.live (fun s => s.writeReg who ⟨.CPW_PD, [d.val]⟩ 4 (·.pdWrite d.val (if off then 3 else 1)))

/-- PD_OFF (R520, R521). -/
def execPdOff (who : Init) (d : Fin 56) (s : State) : Host.Outcome State Fault Refusal :=
  s.live (fun s => s.writeReg who ⟨.CPW_PD, [d.val]⟩ 4 (·.pdWrite d.val 2))

/-- PD_ENTRY_DRAIN_TIMEOUT (R521). -/
def execPdEntryDrainTimeout (d : Fin 56) (s : State) : Host.Outcome State Fault Refusal := s.live (·.pdDrain d.val)

/-- PD_EXIT_DONE (R522, R523). -/
def execPdExitDone (d : Fin 56) (ok : Bool) (s : State) : Host.Outcome State Fault Refusal := s.live (·.pdExit d.val ok)

/-- POWER_ON_RESET (R524 step 2): VDD_AON passes its reset threshold. -/
def execPowerOnReset (s : State) : Host.Outcome State Fault Refusal :=
  .next (if s.cpw.aon then s else s.cpwUp (fun x => { x with aon := true }))

/-- PWR_OK rises: every supply is within its limits, and the straps are sampled if RESET_N is high already (R524, R525). -/
def State.pwrRise (s : State) (straps : Nat) : State :=
  if s.cpw.aon ∧ s.cpw.pwrOk = false then
    let s1 := (s.set F.GSV_STAT_SUP_OK [] 31).cpwUp (fun x => { x with pwrOk := true })
    if s.cpw.resetN then s1.latchStraps straps else s1
  else s

/-- PWR_OK_RISE (R524, R525). -/
def execPwrOkRise (straps : BitVec 14) (s : State) : Host.Outcome State Fault Refusal := s.live (·.pwrRise straps.toNat)

/-- PWR_OK_FALL (R470): a power-on reset that keeps the journal; ignored in the safe state. -/
def execPwrOkFall (s : State) : Host.Outcome State Fault Refusal := s.live (fun s => if s.cpw.pwrOk then s.powerReset else s)

/-- OSC_WAIT_EXPIRY (R512). -/
def execOscWaitExpiry (s : State) : Host.Outcome State Fault Refusal :=
  s.live (fun s => if s.cpw.pwrOk ∧ s.on F.CPW_TB_STAT_XTAL_ABSENT [] = false then s.cpwUp (fun x => { x with oscDone := true }) else s)

/-- SOURCE_WAIT_TIMEOUT (R524 step 4): FAULT_N is asserted, and the wait goes on. -/
def execSourceWaitTimeout (s : State) : Host.Outcome State Fault Refusal :=
  s.live (fun s => if s.cpw.pwrOk ∧ s.cpw.chosen = false then s.cpwUp (fun x => { x with noSource := true }) else s)

/-- The PLL locks: the device timebase starts at 0 and every island runs at 2,000 MHz, the reset value of FREQ (R511, R513, R524 step 5). -/
def State.pllLock (s : State) : State :=
  if s.cpw.chosen ∧ s.on F.CPW_TB_STAT_LOCKED [] = false then ((s.setB F.CPW_TB_STAT_LOCKED [] true).set F.CPW_TIME_TIME [] 0).refRun else s

/-- PLL_LOCKED (R513, R524). -/
def execPllLocked (s : State) : Host.Outcome State Fault Refusal := s.live (·.pllLock)

/-- RESET_N goes low: a cold reset while PWR_OK is high (R526). -/
def State.resetLow (s : State) : State :=
  if s.cpw.resetN = false then s else if s.cpw.pwrOk then s.coldReset else s.cpwUp (fun x => { x with resetN := false })

/-- COLD_RESET (R526); RESET_N is ignored in the safe state (R529). -/
def execColdReset (s : State) : Host.Outcome State Fault Refusal := s.live (·.resetLow)

/-- A write of CPW_RST: WARM written 1 starts a warm reset, at level V or O (R526). -/
def State.rstWrite (s : State) (who : Init) (v : W64) : State := if v.getLsbD 0 ∧ s.levelOf who ≠ .t then s.warmReset else s

/-- WARM_RESET (R526, R527); ignored in the safe state (R529). -/
def execWarmReset (who : Init) (s : State) : Host.Outcome State Fault Refusal :=
  s.live (fun s => s.writeReg who ⟨.CPW_RST, []⟩ 4 (·.rstWrite who 1))

/-- VDD_AON_BELOW_RESET_THRESHOLD (R526, R528): it ends the safe state too (R470). -/
def execVddAonBelowResetThreshold (s : State) : Host.Outcome State Fault Refusal := .next s.aonLost

/-- RESET_N rises: with PWR_OK high the straps are sampled, and the power-up goes on (R524, R525). -/
def State.resetHigh (s : State) (straps : Nat) : State :=
  if s.cpw.resetN then s
  else
    let s1 := s.cpwUp (fun x => { x with resetN := true })
    if s.cpw.pwrOk then s1.latchStraps straps else s1

/-- RESET_N_RISE (R525); RESET_N is ignored in the safe state (R468). -/
def execResetNRise (straps : BitVec 14) (s : State) : Host.Outcome State Fault Refusal := s.live (·.resetHigh straps.toNat)

end Sys2Proof.Machine
end

