-- ==== Sys2Proof/Machine/CmdFabric.lean ====
section
/-!
DEFINITION. The meanings of the commands of the fabric (chapter 10) other than the relay's requests: discovery and numbers, transactions, fabric time, remote
ports, the standby and manager epochs.
-/

namespace Sys2Proof.Machine

/-! ### Discovery (R312 to R315) -/

/-- DEVICE_DISCOVERY (R312): across trunk `j` of numbered device `dev`, whose trunk number there is `pj`. -/
def execDeviceDiscovery (dev : Fin 33) (j pj : Fin 18) (role : Fin 4) (tab : Option (Fin 33)) (links : List (Fin 33 × Fin 18 × Fin 18)) (s : State) :
    Host.Outcome State Fault Refusal :=
  s.live (·.discover dev.val j.val pj.val role.val (tab.map (·.val)) (links.map (fun x => (x.1.val, x.2.1.val, x.2.2.val))))

/-- DEVICE_NUMBER_WRITE (R313). -/
def execDeviceNumberWrite (num : Fin 33) (s : State) : Host.Outcome State Fault Refusal := s.live (·.takeNumber num.val)

/-! ### Transactions on a device (R321 to R323) -/

/-- A message to the device's manager. -/
def State.tellMgr (s : State) (m : FMsg) : State := s.tellDev (s.get F.FAB_DEV_MGR []) m

/-- FABRIC_PREPARE (R321, R323): READY or REFUSE with the status found. -/
def execFabricPrepare (id : W16) (sets : List (Fin 4)) (s : State) : Host.Outcome State Fault Refusal :=
  s.live (fun s =>
    if s.get F.FAB_DEV_ROLE [] = 0 ∨ s.acting = true then s
    else
      let r := s.fabPrepare id.toNat (sets.map (·.val))
      r.1.tellMgr (.answer id.toNat r.2))

/-- FABRIC_COMMIT (R321, R322): acknowledged, and due at T. -/
def execFabricCommit (id : W16) (time : W64) (s : State) : Host.Outcome State Fault Refusal :=
  s.live (fun s =>
    if s.get F.FAB_DEV_ROLE [] = 0 ∨ s.acting = true then s
    else (s.fabCommit id.toNat time.toNat).tellMgr (.ack id.toNat))

/-- COMMIT_TIME_REACHED (R321 step 4): fabric time has reached T. -/
def execCommitTimeReached (s : State) : Host.Outcome State Fault Refusal :=
  s.live (fun s =>
    let s1 := match s.fab.due with
      | some t => if t ≤ s.fabTime ∧ s.get F.FAB_TXN_STATE [] = 1 then s.fabApply else s
      | none => s
    s1.txnCheck.mcrKick)

/-- FABRIC_ABORT (R321): acknowledged; a device Prepared under it leaves Prepared. -/
def execFabricAbort (id : W16) (s : State) : Host.Outcome State Fault Refusal :=
  s.live (fun s =>
    if s.get F.FAB_DEV_ROLE [] = 0 ∨ s.acting = true then s
    else (s.fabAbort id.toNat).tellMgr (.ack id.toNat))

/-- PREPARED_TIMEOUT (R323): 100 ms after READY without COMMIT or ABORT. -/
def execPreparedTimeout (s : State) : Host.Outcome State Fault Refusal :=
  s.live (fun s =>
    if s.get F.FAB_TXN_STATE [] = 1 ∧ s.fab.due.isNone ∧ s.fab.readyAt + 100000000 ≤ s.now then
      ((s.fabRestore).setB F.FAB_TXN_SELF_ABORT [] true).event .fab 5
    else s)

/-! ### Transactions on the Bellwether (R321, R322, R337) -/

/-- PREPARE_ANSWER (R321 step 2): the last answer decides. In a takeover, a device that is Prepared under another transaction is told to abort it (R337). -/
def execPrepareAnswer (dev : Fin 33) (id : W16) (status : Fin 256) (s : State) : Host.Outcome State Fault Refusal :=
  s.live (fun s => match s.fab.txn with
    | some t =>
      if t.id = id.toNat ∧ t.phase = 1 ∧ t.left.contains dev.val then
        let t1 : FabTxn := { t with left := t.left.filter (· != dev.val), status := if t.status = 0 then status.val else t.status }
        if t1.left.isEmpty then ((s.txnDecide t1).txnCheck).mcrKick else s.txnPut t1
      else if t.take ≠ 0 ∧ t.id ≠ id.toNat then s.tellDev dev.val (.abort id.toNat)
      else s
    | none => s)

/-- PREPARE_TIMEOUT (R321 steps 2 and 3): 1 ms without every answer. -/
def execPrepareTimeout (s : State) : Host.Outcome State Fault Refusal :=
  s.live (fun s => match s.fab.txn with
    | some t =>
      if t.phase = 1 ∧ t.left.isEmpty = false ∧ t.at_ + 1000000 ≤ s.now then
        ((s.txnDecide { t with status := if t.status = 0 then stTimeout else t.status }).txnCheck).mcrKick
      else s
    | none => s)

/-- COMMIT_ACKNOWLEDGE (R322): the resends to the device stop. -/
def execCommitAcknowledge (dev : Fin 33) (id : W16) (s : State) : Host.Outcome State Fault Refusal :=
  s.live (fun s => match s.fab.txn with
    | some t =>
      if t.id = id.toNat ∧ (t.phase = 2 ∨ t.phase = 3) then ((s.txnPut { t with left := t.left.filter (· != dev.val) }).txnCheck).mcrKick else s
    | none => s)

/-- TXN_RESEND (R322): every 100 µs until acknowledged. -/
def execTxnResend (s : State) : Host.Outcome State Fault Refusal :=
  s.live (fun s => match s.fab.txn with
    | some t =>
      if (t.phase = 2 ∨ t.phase = 3) ∧ t.sent + 100000 ≤ s.now then
        (t.left.foldl (fun (s : State) (d : Nat) => s.tellDev d (if t.phase = 2 then .commit t.id t.time else .abort t.id)) s).txnPut { t with sent := s.now }
      else s
    | none => s)

/-! ### Fabric time, remote ports (R326, R330, R331) -/

/-- TIME_SYNC_EXCHANGE (R326): on a numbered device that does not act. -/
def execTimeSyncExchange (t1 t2 t3 t4 : W64) (s : State) : Host.Outcome State Fault Refusal :=
  s.live (fun s => if s.get F.FAB_DEV_ROLE [] ≠ 0 ∧ s.acting = false ∧ s.devNum ≠ 0x3F then s.timeSync t1.toNat t2.toNat t3.toNat t4.toNat else s)

/-- PORT_CONTROL_MESSAGE (R330): only for a port that is remote-bound to the sender's virtual switch. -/
def execPortControlMessage (src : BitVec 14) (port : Fin 144) (act : PortAct) (s : State) : Host.Outcome State Fault Refusal :=
  s.live (fun s => if s.fwd.rbound.look port.val = some src.toNat then s.portControl port.val act else s)

/-- LINK_REPORT (R330, R331). -/
def execLinkReport (gpid : BitVec 14) (up : Bool) (rate : Fin 8) (width : Fin 17) (s : State) : Host.Outcome State Fault Refusal :=
  s.live (·.linkReport gpid.toNat up rate.val width.val)

/-! ### The standby and manager epochs (R336 to R338) -/

/-- HEARTBEAT (R336). -/
def execHeartbeat (links : List (Fin 33 × Fin 18 × Fin 33 × Fin 18)) (s : State) : Host.Outcome State Fault Refusal :=
  s.live (·.heartbeat (links.map (fun x => (x.1.val, x.2.1.val, x.2.2.1.val, x.2.2.2.val))))

/-- STANDBY_UPDATE (R336): on D1. -/
def execStandbyUpdate (u : StdUpd) (s : State) : Host.Outcome State Fault Refusal :=
  s.live (fun s => if s.devNum = 1 ∧ s.acting = false then s.standbyIn u else s)

/-- STANDBY_ACKNOWLEDGE (R336). -/
def execStandbyAcknowledge (s : State) : Host.Outcome State Fault Refusal :=
  s.live (fun s => if s.fab.ackWait.isSome then s.standbyGo.mcrKick else s)

/-- STANDBY_ACK_TIMEOUT (R336): after 1 ms the Bellwether goes on without it. -/
def execStandbyAckTimeout (s : State) : Host.Outcome State Fault Refusal :=
  s.live (fun s => match s.fab.ackWait with
    | some t => if t + 1000000 ≤ s.now then (((s.setB F.FAB_MGR_STANDBY_LOST [] true).event .fab 3).standbyGo).mcrKick else s
    | none => s)

/-- HEARTBEAT_LOSS (R337): the standby has had no heartbeat for HB_LOSS; `heard` says that a worker has, `committed` that a device reports the mirrored
transaction as Committed. -/
def execHeartbeatLoss (heard committed : Bool) (s : State) : Host.Outcome State Fault Refusal :=
  s.live (fun s =>
    let ms := max 1 (s.get F.FAB_MGR_HB_LOSS [])
    if s.devNum = 1 ∧ s.get F.FAB_DEV_ROLE [] = 2 ∧ s.acting = false ∧ s.fab.hbAt + ms * 1000000 ≤ s.now ∧ heard = false then s.takeOver committed else s)

/-- MGR_EPOCH_MESSAGE (R338). -/
def execMgrEpochMessage (epoch : W32) (num : Fin 64) (s : State) : Host.Outcome State Fault Refusal :=
  s.live (fun s => if s.get F.FAB_DEV_ROLE [] = 0 then s else (s.mgrEpoch epoch.toNat num.val).mcrKick)

end Sys2Proof.Machine
end

