-- ==== Sys2Proof/Machine/Host.lean ====
section
/-!
DEFINITION. What a host does to the functions that it sees: slot power, Link Disable and Retrain Link (R109, R116, R330), DPC (R261, R263), configuration
writes and reads of the functions of R96, with the fields that change routing (R147), and the configuration space of group members (R133, R134).
-/

namespace Sys2Proof.Machine

/-! ### Slots -/

/-- Power Controller Control of a vDSP (R116, R118, R330): 1 is off. -/
def State.powerCtl (s : State) (v sl : Nat) (off : Bool) : State :=
  let fn : FnId := .vdsp v sl
  if s.cf fn .slotPower = bit off then s
  else
    let s1 := (s.cfSet fn .slotPower (bit off)).slotSync v sl
    let s2 := match s1.get F.VST_SLOT_KIND [v, sl] with
      | 1 =>
        let p := s1.get F.VST_SLOT_TARGET [v, sl] % 256
        if off then ((if s1.inL0 p || s1.pget F.PP_STAT_LINK_STATE p == 5 || s1.pget F.PP_STAT_LINK_STATE p == 6 then s1.cutLink p 0 else s1.portRest p)).updPerst p
        else (s1.portRest p).updPerst p
      | 2 => s1.when off (fun s => (s.membersOf (s.get F.VST_SLOT_VDSP [v, sl])).foldl (fun (s : State) (m : Nat × Nat × Nat) => s.flrMember v sl m) s)
      | 3 => s1.tellPort v sl (if off then .powerOff else .powerOn)
      | _ => s1
    let s3 := s2.refreshDll v sl
    s3.when off (fun s => (s.unbindPower v sl).mcrKick)

/-- Link Disable of a vDSP (R109, R263, R330): a physical port goes down, and the write of 0 starts the release of a containment. -/
def State.linkDis (s : State) (v sl : Nat) (dis : Bool) : State :=
  let fn : FnId := .vdsp v sl
  if s.cf fn .linkDisable = bit dis then s
  else
    let s1 := s.cfSet fn .linkDisable (bit dis)
    let s2 := match s1.get F.VST_SLOT_KIND [v, sl] with
      | 1 =>
        let p := s1.get F.VST_SLOT_TARGET [v, sl] % 256
        if dis && (s1.inL0 p || s1.pget F.PP_STAT_LINK_STATE p == 5 || s1.pget F.PP_STAT_LINK_STATE p == 6) then s1.cutLink p 0 else s1.portRest p
      | 3 => s1.tellPort v sl (if dis then .linkDisable else .linkEnable)
      | _ => s1
    (s2.when (!dis) (·.startRelease v sl)).refreshDll v sl

/-- Retrain Link of a vDSP (R109, R330). -/
def State.retrainLink (s : State) (v sl : Nat) : State :=
  match s.get F.VST_SLOT_KIND [v, sl] with
  | 1 =>
    let p := s.get F.VST_SLOT_TARGET [v, sl] % 256
    s.when (s.inL0 p) (fun s => (s.freshTrain p).retrain p)
  | 3 => s.tellPort v sl .retrain
  | _ => s

/-- DPC Software Trigger (R261): it contains the vDSP where its host has enabled DPC. -/
def State.dpcTrig (s : State) (v sl : Nat) : State :=
  if s.cf (.vdsp v sl) .dpcEnable = 0 then s else (s.containVdsp v sl 4).settled

/-- The host clears DPC Trigger Status: the bit reads 0 at once, and the release starts (R263). -/
def State.dpcClear (s : State) (v sl : Nat) : State :=
  if s.cf (.vdsp v sl) .dpcTrigger = 1 then ((s.cfSet (.vdsp v sl) .dpcTrigger 0).cfSet (.vdsp v sl) .dpcReason 0).startRelease v sl else s

/-! ### Configuration space of the device's own functions (R96, R98, R147) -/

/-- How a host's write acts on a field of a function: read-only, plain, cleared by 1. -/
inductive CfgTy where
  | ro | rw | w1c
  deriving DecidableEq, Repr

/-- Is a field an AER status bit? -/
def isAer : CfgF → Bool
  | .aerMalformed | .aerUr | .aerAcs | .aerEcrc | .aerPoisoned | .aerUnexpected | .aerInternal | .aerSurpriseDown | .aerTranslation | .aerBadTlp => true
  | _ => false

/-- The fields of a bridge header: bus numbers and windows. -/
def isBridge : CfgF → Bool
  | .busPri | .busSec | .busSub | .memBase | .memLimit | .prefBase | .prefLimit | .ioBase | .ioLimit => true
  | _ => false

/-- The fields that every function has. -/
def isCommon : CfgF → Bool
  | .bme | .mse | .mps | .mrrs | .relaxed | .extTag | .intDisable | .intLine | .ecrcCheck | .ecrcGen | .aerUncMask | .aerUncSeverity => true
  | _ => false

/-- The access type of a field of a function (R96, R98, R115; the classes of PCI Express). -/
def cfgTy (fn : FnId) (f : CfgF) : CfgTy :=
  if isAer f then .w1c
  else
    match fn, f with
    | .dmf i, .bme => if i < 1072 then .rw else .ro
    | .dmf i, .vfEnable | .dmf i, .numVfs | .dmf i, .vfMse | .dmf i, .bar 6 | .dmf i, .bar 0 => if i < 48 then .rw else .ro
    | .dmf i, f => if i < 48 ∧ isCommon f = true then .rw else .ro
    | .mgmt, .bar 0 => .rw
    | .mgmt, f => if isCommon f then .rw else .ro
    | .vdsp _ _, .presenceChanged | .vdsp _ _, .attnButton | .vdsp _ _, .dllChanged | .vdsp _ _, .dpcTrigger | .dmp _, .dpcTrigger => .w1c
    | .vdsp _ _, .slotPower | .vdsp _ _, .slotIrqEn | .vdsp _ _, .attnInd | .vdsp _ _, .pwrInd | .vdsp _ _, .linkDisable
    | .vdsp _ _, .targetSpeed | .vdsp _ _, .aspmL1 | .up _, .targetSpeed | .up _, .aspmL1 => .rw
    | .vdsp _ _, .dpcEnable | .vdsp _ _, .dpcIrqEn | .dmp _, .dpcEnable | .dmp _, .dpcIrqEn => .rw
    | .vdsp _ _, .acsSv | .vdsp _ _, .acsTb | .vdsp _ _, .acsRedirect | .vdsp _ _, .acsEgress | .vdsp _ _, .acsEgressVec | .vdsp _ _, .acsDirect
    | .dmp _, .acsSv | .dmp _, .acsTb | .dmp _, .acsRedirect | .dmp _, .acsEgress | .dmp _, .acsEgressVec | .dmp _, .acsDirect => .rw
    | _, f => if isCommon f || isBridge f then .rw else .ro

/-- A written value as a field holds it: windows of 1 MiB or 4 KiB, BARs by their size (R340, R474), the width of the others. -/
def cfgFit (fn : FnId) (f : CfgF) (v : Nat) : Nat :=
  match f with
  | .busPri | .busSec | .busSub | .intLine => v % 2 ^ 8
  | .memBase | .prefBase => v / 2 ^ 20 * 2 ^ 20 % 2 ^ 64
  | .memLimit | .prefLimit => (v / 2 ^ 20 * 2 ^ 20 + (2 ^ 20 - 1)) % 2 ^ 64
  | .ioBase => v / 2 ^ 12 * 2 ^ 12 % 2 ^ 32
  | .ioLimit => (v / 2 ^ 12 * 2 ^ 12 + (2 ^ 12 - 1)) % 2 ^ 32
  | .bar _ =>
    let n := match fn with
      | .mgmt => 26
      | _ => 14
    v / 2 ^ n * 2 ^ n % 2 ^ 64
  | .mps | .mrrs => v % 8
  | .targetSpeed => v % 16
  | .attnInd | .pwrInd | .dpcEnable => v % 4
  | .numVfs => v % 2 ^ 16
  | .aerUncMask | .aerUncSeverity | .acsEgressVec => v % 2 ^ 32
  | _ => v % 2

/-- What a virtual switch's data mover does after a write to its functions: instances that may now issue requests run, and virtual functions that are no
longer enabled are reset (R408, R409). -/
def State.dmCfg (s : State) (v : Nat) : State := (s.instOfVs v).foldl (fun (s : State) (i : Nat) => (s.flushImsix i).instRun i) s

/-- What a write of a field of the device's own functions changes beside the field. -/
def State.cfgEffect (s : State) (fn : FnId) (f : CfgF) (v : Nat) : State :=
  match fn, f with
  | .vdsp a b, .mps => s.tellPort a b (.mps v)
  | .vdsp a b, _ => s.slotSync a b
  | .mgmt, .bme =>
    if v = 1 then
      let s1 : State := s.msiWait.foldl (fun (s : State) (x : Nat) => s.emit (.msix x)) { s with msiWait := [] }
      let s2 := s1.flushRsps
      (s2.mgr.parked.filter (fun x => x.2 == .hostIo)).foldl (fun (s : State) (x : McrJob × ParkK) => s.resume x.1 x.2 0 []) s2 |>.mcrKick
    else s
  | .dmp v', .busSec => s.dmCfg v'
  | .dmf i, .vfEnable => if v = 0 then (s.vfsOf i).foldl (fun (s : State) (j : Nat) => s.instFlr j) s else s
  | .dmf i, .bme => (s.flushImsix i).instRun i
  | .dmf i, .mps => if i < 48 then (s.vfsOf i).foldl (fun (s : State) (j : Nat) => s.cfSet (.dmf j) .mps v) s else s
  | .dmf i, .mrrs => if i < 48 then (s.vfsOf i).foldl (fun (s : State) (j : Nat) => s.cfSet (.dmf j) .mrrs v) s else s
  | _, _ => s

/-- A host's write of a field of one of the device's own functions, beside the swap that a routing field needs. NumVFs does not change while VF Enable
is 1. -/
def State.cfgPut (s : State) (fn : FnId) (f : CfgF) (v : Nat) : State :=
  match cfgTy fn f, fn, f with
  | .ro, _, _ => s
  | .w1c, .vdsp a b, .dpcTrigger => if v % 2 = 1 then s.dpcClear a b else s
  | .w1c, _, _ => if v % 2 = 1 then s.cfSet fn f 0 else s
  | .rw, .vdsp a b, .slotPower => s.powerCtl a b (v % 2 == 1)
  | .rw, .vdsp a b, .linkDisable => s.linkDis a b (v % 2 == 1)
  | .rw, .dmf i, .numVfs => if s.cf (.dmf i) .vfEnable = 1 then s else s.cfSet fn f (cfgFit fn f v)
  | .rw, _, _ => (s.cfSet fn f (cfgFit fn f v)).cfgEffect fn f (cfgFit fn f v)

/-- The completion of a configuration write. -/
def State.cfgDone (s : State) (p : Nat) (t : Tlp) : State := (s.answerTlp p 0 (cplFor t 0 t.tid)).schedule p

/-- A host's configuration write to a function: a field that changes routing is completed once every tile has swapped (R147). -/
def State.cfgWrite (s : State) (p : Nat) (fn : FnId) (t : Tlp) : State :=
  let s1 := s.cfgPut fn t.fld (leNat t.data)
  if routing t.fld ∧ cfgTy fn t.fld ≠ .ro then s1.queueSwap .fwd (.cpl p t) else s1.cfgDone p t

/-- The Device ID of a function (R549, GLB_DEVID); a virtual function's is the physical function's plus 1 (R408). -/
def State.deviceIdOf (s : State) (fn : FnId) : Nat :=
  match fn with
  | .up _ => s.get F.GLB_DEVID_USP []
  | .mgmt => s.get F.GLB_DEVID_MGMT []
  | .dmf i => s.get F.GLB_DEVID_DM_PF [] + (if i < 48 then 0 else 1)
  | _ => s.get F.GLB_DEVID_DSP []

/-- The Class Code of a function (R549). -/
def classOfFn : FnId → Nat
  | .mgmt => 0x058000
  | .dmf _ => 0x088000
  | _ => 0x060400

/-- What the SR-IOV capability of a physical function reports (R408). -/
def State.sriov (s : State) (i : Nat) (f : CfgF) : Nat :=
  match f with
  | .totalVfs | .initialVfs => s.get F.DMG_VF_COUNT [i]
  | .vfOffset | .vfStride | .vfPages => 1
  | .vfDeviceId => s.get F.GLB_DEVID_DM_PF [] + 1
  | _ => 0

/-- The kind of a function, as the open values of Config number it. -/
def fnKind : FnId → Nat
  | .up _ => 0
  | .mgmt => 1
  | .vdsp _ _ | .mem _ _ _ => 2
  | .dmp _ => 3
  | .dmf _ => 4

/-- The rate and width that Link Status of a function reports: its port's, or those that a remote port reported (R109, R330). -/
def State.linkOf (s : State) (fn : FnId) : Nat × Nat :=
  let at_ := fun (p : Nat) => (s.pget F.PP_STAT_RATE p, s.pget F.PP_STAT_WIDTH p)
  match fn with
  | .up v => at_ (s.upPort v)
  | .vdsp v sl =>
    match s.get F.VST_SLOT_KIND [v, sl] with
    | 1 => at_ (s.get F.VST_SLOT_TARGET [v, sl] % 256)
    | 3 => s.vsx.remoteLink.lookD (v, sl) (7, 0)
    | _ => (7, 0)
  | _ => (7, 0)

/-- What a host reads in a field of one of the device's own functions (R70, R96, R98, R109, R408, R549): ASPM Support "L1 only" is 2 and 4,096 bytes are 5 as
PCI Express codes them (PRESUMED). -/
def State.cfgVal (s : State) (fn : FnId) (f : CfgF) : Nat :=
  match fn, f with
  | _, .vendorId => s.get F.GLB_ID_VENDOR []
  | fn, .deviceId => s.deviceIdOf fn
  | .dmp _, .dllActive => 1
  | _, .revision => s.get F.GLB_ID_STEPPING []
  | fn, .classCode => classOfFn fn
  | _, .subVendor => s.sec.boot.subVendor.toNat
  | _, .subDevice => s.sec.boot.subDevice.toNat
  | _, .aspmSup => 2
  | _, .mpsSup => 5
  | .dmf i, .totalVfs | .dmf i, .initialVfs | .dmf i, .vfOffset | .dmf i, .vfStride | .dmf i, .vfDeviceId | .dmf i, .vfPages | .dmf i, .vfMigration =>
    if i < 48 then s.sriov i f else 0
  | fn, .linkSpeed => (s.linkOf fn).1
  | fn, .linkWidth => (s.linkOf fn).2
  | fn, .other o => (Config.cfgOther (fnKind fn) o).toNat
  | fn, f => s.cf fn f

/-- A host's configuration read of a function. -/
def State.cfgRead (s : State) (p : Nat) (fn : FnId) (t : Tlp) : State :=
  (s.answerTlp p 0 (cplData t t.tid (leBytes 4 (s.cfgVal fn t.fld)))).schedule p

/-- A Type 0 write tells the upstream port the number of its bus (R96, PRESUMED from PCI Express). -/
def State.capture (s : State) (fn : FnId) (t : Tlp) : State :=
  match fn with
  | .up v => s.when t.cfg0 (·.cfSet (.up v) .busPri (t.tid / 256))
  | .mgmt => s.when t.cfg0 (·.cfSet (.up 0) .busPri (t.tid / 256))
  | _ => s

/-- A configuration request to one of the device's own functions; during an FLR a data mover function answers Request Retry Status (R403). -/
def State.cfgReq (s : State) (p : Nat) (fn : FnId) (t : Tlp) : State :=
  let busy := match fn with
    | .dmf i => (s.dm.flr.look i).isSome
    | _ => false
  if busy then (s.answerTlp p 0 (cplFor t 2 t.tid)).schedule p
  else
    match t.kind with
    | .cfgwr => (s.capture fn t).cfgWrite p fn t
    | .cfgrd => s.cfgRead p fn t
    | _ => s

/-! ### Members of function groups (R133, R134) -/

/-- How a field of a member's configuration space is handled: shadowed by swap, shadowed, emulated with a fixed value, a copy of the shared port's link, or
passed to the real function. -/
inductive MemTy where
  | routed
  | shadow
  | const (v : Nat)
  | pass
  deriving DecidableEq, Repr

/-- The handling of R133; `n` members, link up, its rate and width. Offsets 0x0E, 0x30 and 0x3D are those of PCI Express for Header Type, Expansion ROM and
Interrupt Pin (PRESUMED). -/
def memTy (f : CfgF) (n : Nat) (up : Bool) (rate width : Nat) : MemTy :=
  match f with
  | .bme | .mse | .bar _ => .routed
  | .intLine | .mps | .mrrs | .relaxed | .extTag => .shadow
  | .intDisable => .const 1
  | .other o => if o = 0x0E then .const (if 1 < n then 0x80 else 0) else if o = 0x30 ∨ o = 0x3D then .const 0 else .pass
  | .dllActive => .const (bit up)
  | .linkSpeed => .const rate
  | .linkWidth => .const width
  | .vendorId | .deviceId | .revision | .classCode | .subVendor | .subDevice | .mpsSup => .pass
  | .aspmSup => .const 2
  | .ecrcCheck | .ecrcGen | .aerUncMask | .aerUncSeverity => .pass
  | f => if isAer f then .pass else .const 0

/-- The mask of a member's BAR: its size, 0 for one that is not implemented. -/
def State.memBar (s : State) (v sl f k : Nat) : Nat :=
  match (s.fwd.bars.lookD (v, sl, f) []).find? (fun b => b.k == k) with
  | some b => b.size
  | none => 0

/-- The value of a member's shadow after a write. -/
def State.memFit (s : State) (v sl f : Nat) (fl : CfgF) (x : Nat) : Nat :=
  match fl with
  | .bar k => let n := s.memBar v sl f k; if n = 0 then 0 else x / n * n % 2 ^ 64
  | fl => cfgFit (.mem v sl f) fl x

/-- Answer a member's request with a value, or a write with its completion. -/
def State.memAnswer (s : State) (p : Nat) (t : Tlp) (x : Nat) : State :=
  (s.answerTlp p 0 (if t.kind = .cfgrd then cplData t t.tid (leBytes 4 x) else cplFor t 0 t.tid)).schedule p

/-- The physical function that a request for the Vendor or Device ID of a virtual function goes to: the one before it on its port (R133). -/
def State.memTarget (s : State) (k : Nat) (f : CfgF) : Nat :=
  let rid := s.get F.VST_FB_A_REAL_RID [k]
  let isId := match f with
    | .vendorId | .deviceId => true
    | _ => false
  if isId && s.on F.VST_FB_A_IS_VF [k] then
    match s.sharedOf (s.get F.VST_FB_A_SHARED_PORT [k]) with
    | some x => ((x.fns.filter (fun g => !g.isVf && decide (g.rid < rid))).getLast?.map (fun g => g.rid)).getD rid
    | none => rid
  else rid

/-- A host's configuration request to a member (R133): shadowed, emulated, or forwarded to the real function with the proxy requester ID (R127). After the
FLR of a release it receives Request Retry Status (R263). -/
def State.memberCfg (s : State) (p v sl f : Nat) (t : Tlp) (pick : Nat) : State :=
  match s.snap.fbOf (s.get F.VST_SLOT_VDSP [v, sl]) f with
  | none => (s.answerTlp p 0 (cplFor t 1 t.tid)).schedule p
  | some k =>
    if s.fwd.flrRrs.contains (v, sl, f) then (s.answerTlp p 0 (cplFor t 2 t.tid)).schedule p
    else
      let sp := s.get F.VST_FB_A_SHARED_PORT [k]
      let fn : FnId := .mem v sl f
      match memTy t.fld (s.get F.VST_SLOT_NFUNC [v, sl]) (s.inL0 sp) (s.pget F.PP_STAT_RATE sp) (s.pget F.PP_STAT_WIDTH sp) with
      | .const x => s.memAnswer p t x
      | .shadow =>
        if t.kind = .cfgwr then ((s.cfSet fn t.fld (s.memFit v sl f t.fld (leNat t.data))).memSync v sl f).memAnswer p t 0
        else s.memAnswer p t (s.cf fn t.fld)
      | .routed =>
        if t.kind = .cfgwr then ((s.cfSet fn t.fld (s.memFit v sl f t.fld (leNat t.data))).memSync v sl f).queueSwap .fwd (.cpl p t)
        else s.memAnswer p t (s.cf fn t.fld)
      | .pass =>
        let x := s.get F.VST_SLOT_VDSP [v, sl]
        let vf := t.fld == .deviceId && s.on F.VST_FB_A_IS_VF [k]
        let q : Tlp := { t with rid := v, tid := s.memTarget k t.fld, cfg0 := decide (s.memTarget k t.fld / 256 = 1), fld := if vf then .vfDeviceId else t.fld }
        let d : Dec := { egress := sp, sc := 0, vdsp := x, bvdsp := x, mbr := some f, tlp := q }
        (s.useCredit p t).decided p (.host v) t d pick 0

/-- A host's FLR of a member (R134). -/
def State.memberFlr (s : State) (v sl f : Nat) : State :=
  let x := s.get F.VST_SLOT_VDSP [v, sl]
  match (s.membersOf x).find? (fun m => m.1 == f) with
  | none => s
  | some m => ((s.expireAll (fun _ e => e.vdsp == x && e.mbr == some f)).settled).flrMember v sl m

end Sys2Proof.Machine
end

