-- ==== Sys2Proof/Machine/CmdHost.lean ====
section
/-!
DEFINITION. The meanings of the commands that a host gives through the functions that it sees (R109, R116, R133, R134, R147, R261, R263).
-/

namespace Sys2Proof.Machine

/-- POWER_CONTROLLER_WRITE (R116). -/
def execPowerControllerWrite (vs : Fin 48) (slot : Fin 32) (off : Bool) (s : State) : Host.Outcome State Fault Refusal :=
  s.live (fun s => if s.slotThere vs.val slot.val then s.powerCtl vs.val slot.val off else s)

/-- LINK_DISABLE_WRITE (R109, R263). -/
def execLinkDisableWrite (vs : Fin 48) (slot : Fin 32) (dis : Bool) (s : State) : Host.Outcome State Fault Refusal :=
  s.live (fun s => if s.slotThere vs.val slot.val then s.linkDis vs.val slot.val dis else s)

/-- RETRAIN_LINK_WRITE (R109). -/
def execRetrainLinkWrite (vs : Fin 48) (slot : Fin 32) (s : State) : Host.Outcome State Fault Refusal :=
  s.live (fun s => if s.slotThere vs.val slot.val then s.retrainLink vs.val slot.val else s)

/-- DPC_SOFTWARE_TRIGGER (R261). -/
def execDpcSoftwareTrigger (vs : Fin 48) (slot : Fin 32) (s : State) : Host.Outcome State Fault Refusal :=
  s.live (fun s => if s.slotThere vs.val slot.val then s.dpcTrig vs.val slot.val else s)

/-- DPC_TRIGGER_STATUS_CLEAR (R263). -/
def execDpcTriggerStatusClear (vs : Fin 48) (slot : Fin 32) (s : State) : Host.Outcome State Fault Refusal :=
  s.live (fun s => if s.slotThere vs.val slot.val then s.dpcClear vs.val slot.val else s)

/-- HOST_ROUTING_WRITE (R147): a write of a routing field of a function of the host's virtual switch. -/
def execHostRoutingWrite (port : Fin 144) (fn : FnId) (t : Tlp) (s : State) : Host.Outcome State Fault Refusal :=
  s.live (fun s => match s.vsOfPort port.val with
    | some v =>
      if routing t.fld ∧ cfgTy fn t.fld = .rw ∧ (fnOfVs (s.instOfVs v) v fn = true ∨ (fn = .mgmt ∧ s.on F.VST_STAT_MGMT [v])) then
        s.cfgWrite port.val fn { t with kind := .cfgwr }
      else s
    | none => s)

/-- MEMBER_CONFIG_REQUEST (R133). -/
def execMemberConfigRequest (port : Fin 144) (vs : Fin 48) (slot : Fin 32) (f : Fin 8) (t : Tlp) (pick : Fin 16384) (s : State) :
    Host.Outcome State Fault Refusal :=
  s.live (fun s =>
    if s.vsOfPort port.val = some vs.val ∧ (t.kind = .cfgrd ∨ t.kind = .cfgwr) ∧ s.get F.VST_SLOT_KIND [vs.val, slot.val] = 2 then
      if s.contained vs.val slot.val then (((s.portCount port.val 23).answerTlp port.val 0 (cplFor t 1 (s.cf (.up vs.val) .busPri * 256))).schedule port.val)
      else s.memberCfg port.val vs.val slot.val f.val t pick.val
    else s)

/-- MEMBER_FLR (R134). -/
def execMemberFlr (vs : Fin 48) (slot : Fin 32) (f : Fin 8) (s : State) : Host.Outcome State Fault Refusal :=
  s.live (·.memberFlr vs.val slot.val f.val)

/-- MEMBER_FLR_RETRY_END (R263): 100 ms after the FLR that releases a group. -/
def execMemberFlrRetryEnd (vs : Fin 48) (slot : Fin 32) (f : Fin 8) (s : State) : Host.Outcome State Fault Refusal :=
  s.live (fun s =>
    match s.fwd.flrAt.look (vs.val, slot.val, f.val) with
    | some t =>
      if t + 100000000 ≤ s.now then
        (s.fwdUp (fun x => { x with
          flrAt := x.flrAt.del (vs.val, slot.val, f.val),
          flrRrs := x.flrRrs.filter (· != (vs.val, slot.val, f.val)) })).memSync vs.val slot.val f.val
      else s
    | none => s)

end Sys2Proof.Machine
end

