-- ==== Sys2Proof/Machine/Boot.lean ====
section
/-!
DEFINITION. The chain of trust, the boot, firmware updates and the management restart (R496 to R507).
-/

namespace Sys2Proof.Machine

/-! ### Boot images (R497, R498) -/

/-- The directory entry `k` of a boot image: type, offset, length, and the first 20 bytes of the component's hash. -/
def dirEntry (b : List Byte) (k : Nat) : Nat × Nat × Nat × List Byte :=
  let o := 400 + 32 * k
  (leAt b o 4, leAt b (o + 4) 4, leAt b (o + 8) 4, (b.drop (o + 12)).take 20)

/-- The bytes of a component by its type: 1 security firmware, 2 management firmware, 3 Mule firmware, 4 boot configuration. -/
def bootComp (b : List Byte) (ty : Nat) : List Byte :=
  match (List.range 4).find? (fun k => (dirEntry b k).1 == ty) with
  | some k => let e := dirEntry b k; (b.drop e.2.1).take e.2.2.1
  | none => []

/-- Are the header fields of a boot image valid (R497)? -/
def bootHeader (b : List Byte) : Bool :=
  decide (912 ≤ b.length) && leAt b 0 4 == 0x4F424C49 && leAt b 4 1 == 1 && decide (leAt b 5 1 ≤ 3) && decide (leAt b 6 1 ≤ 64) && leAt b 7 1 == 0 &&
  decide (912 ≤ leAt b 12 4) && decide (leAt b 12 4 ≤ 0x800000) && decide (leAt b 12 4 ≤ b.length) &&
  (List.range 4).all (fun k => let e := dirEntry b k
    decide (1 ≤ e.1) && decide (e.1 ≤ 4) && decide (e.2.1 + e.2.2.1 ≤ leAt b 12 4))

/-- The verification of a boot image (R498): FAIL_CAUSE, 0 if every condition holds. -/
def State.bootVerify (s : State) (b : List Byte) : Nat :=
  let key := leAt b 5 1
  let m := (b.drop 16).take 384
  if !bootHeader b then 1
  else if Config.sha256 m ≠ s.sec.vendor.lookD key [] ∨ (s.get F.SEC_FUSE_V_REVOKED []).testBit key = true then 2
  else if !Config.rsaVerify m (b.take 528) ((b.drop 528).take 384) then 3
  else if leAt b 6 1 < s.get F.SEC_FUSE_MIN_BOOT [] then 4
  else if (List.range 4).any (fun k => let e := dirEntry b k; (Config.sha256 ((b.drop e.2.1).take e.2.2.1)).take 20 != e.2.2.2) then 5
  else 0

/-- The verification of a vendor Mule firmware image (R425, R426, R504). -/
def State.muleVerify (s : State) (b : List Byte) : Bool :=
  let key := leAt b 36 2
  let m := Config.vendorModulus key
  let x := imageSigned b
  imageOk 1 b.length b && decide (key < 4) && decide (Config.sha256 m = s.sec.vendor.lookD key []) && !(s.get F.SEC_FUSE_V_REVOKED []).testBit key &&
    Config.rsaVerify m x.1 x.2 && decide (s.get F.SEC_FUSE_MIN_MULE [] ≤ leAt b 32 4)

/-- The image that the boot record names: image A where both copies of the record are bad (R498 step 1). -/
def State.activeImage (s : State) : Nat := s.sec.record.getD 0

/-- Try an image: FAIL_CAUSE, 6 where the flash cannot be read (R498). -/
def State.tryImage (s : State) (k : Nat) (bad : List Nat) : Nat := if bad.contains k then 6 else s.bootVerify (s.sec.flash.lookD k [])

/-- The measurements and registers of a running boot image (R498, R503). -/
def State.runImage (s : State) (k : Nat) : State :=
  let b := s.sec.flash.lookD k []
  let s1 := ((s.set F.SEC_BOOT_IMAGE [] k).set F.SEC_BOOT_SVN [] (leAt b 6 1)).set F.SEC_BOOT_VERSION [] (leAt b 8 4)
  s1.secUp (fun x => { x with
    running := k, keyId := leAt b 5 1,
    meas := ((x.meas.put 2 (Config.sha256 (bootComp b 1))).put 3 (Config.sha256 (bootComp b 2))).put 5 (Config.sha256 (bootComp b 4)) })

/-! ### The steps of the boot -/

/-- The clock enables that the boot ROM sets (R516). -/
def romSlots : List Nat := List.range 8 ++ (List.range 96).map (64 + ·) ++ (List.range 8).map (192 + ·) ++ [200, 201]

/-- The boot ROM sets its clock enables. -/
def State.romClocks (s : State) : State := romSlots.foldl (fun (s : State) (x : Nat) => s.setClkEn x true) s

/-- The escape tables for the fault-free mesh in the active banks, with every RTR_ESCV bit at 0 (R207). -/
def State.escInstall (s : State) : State :=
  let tbl := (List.range 96).flatMap (fun d => (s.escColumn d).map (fun (x : Nat × Nat) =>
    ((⟨.RTR_ESC_TBL, [x.1, s.get F.RTR_ESC_CTL_ACTIVE [x.1], d]⟩ : Reg), BitVec.ofNat 64 x.2)))
  { s with regs := s.regs.filter (fun e => e.1.n != .RTR_ESC_TBL && e.1.n != .RTR_ESCV) ++ tbl }

/-- Every domain is powered and enters service, and the Mule firmware is loaded into every cluster (R498 step 4). -/
def State.bootDomains (s : State) : State := (List.range 56).foldl (fun (s : State) (d : Nat) => s.pdServe d) s

/-- The cuts and the ports of the boot configuration (R498 step 4). -/
def State.bootPorts (s : State) (bc : BootCfg) : State :=
  let s1 := bc.cuts.foldl (fun (s : State) (c : Fin 36 × Fin 16) => s.cutWrite c.1.val (BitVec.ofNat 64 c.2.val)) s
  bc.ports.foldl (fun (s : State) (p : Fin 144 × W32) => s.ppCtl p.1.val (p.2.zeroExtend 64)) s1

/-- VS0 on the port that the MGMT_PORT strap names, if the boot configuration cuts it as a PCIe upstream port; MGMT_BAD otherwise (R101, R473). -/
def State.bootMgmt (s : State) (slots : Nat) : State :=
  let p := s.get F.CPW_STRAP_MGMT_PORT []
  if p = 0xFF then s
  else if p < 144 ∧ s.portWidth p ≠ 0 ∧ s.role p = 0 then
    let s1 := s.vsMake 0 p (max 1 (min 32 slots)) true
    s1.fwdUp (fun f => { f with tabs := f.tabs.put 0 s1.snap })
  else s.setB F.SEC_BOOT_MGMT_BAD [] true

/-- The Bellwether starts as the acting manager and device 0 with its own time (R308, R312, R325). -/
def State.bootFabric (s : State) : State :=
  if s.get F.FAB_DEV_ROLE [] = 1 then
    ((((s.set F.FAB_DEV_NUM [] 0).set F.FAB_DEV_MGR [] 0).setB F.FAB_DEV_ACTING [] true).setB F.FAB_TIME_STAT_SYNC [] true).fabUp (fun f => { f with devs := [0] })
  else s

/-- Steps 2 to 4 of R498 on an image that passed. -/
def State.bootRun (s : State) (k : Nat) (bc : BootCfg) : State :=
  let mule := bootComp (s.sec.flash.lookD k []) 3
  let s1 := (s.runImage k).secUp (fun x => { x with
    boot := bc, moduli := bc.moduli.map (fun (m : Fin 4 × List Byte) => (m.1.val, m.2)), muleFw := mule, muleSvn := leAt mule 32 4,
    meas := (((List.range 4).foldl (fun (m : AMap Nat (List Byte)) (p : Nat) => m.put (8 + p) (List.replicate 32 0)) x.meas).put 1 Config.romHash).put 4
      (Config.sha256 mule) })
  let s2 := ((s1.fuseMeas.gateMeas).beats 15).escInstall
  let s3 := (((s2.bootDomains).bootPorts bc).bootMgmt bc.slots).bootFabric
  (s3.journalChange 498 [BitVec.ofNat 8 k]).setB F.SEC_BOOT_READY [] true

/-- Recovery: no management function, and the endpoint accepts a boot image (R496). -/
def State.recover (s : State) : State := s.setB F.SEC_BOOT_RECOVERY [] true

/-- The boot ROM (R496 to R499): with BOOT_SEL recovery at once; otherwise the image of the record, then the other one. -/
def State.boot (s0 : State) (bc : BootCfg) (bad : List Nat) : State :=
  let s := s0.romClocks
  if s.on F.CPW_STRAP_BOOT_SEL [] then s.recover
  else
    let k := s.activeImage
    let c := s.tryImage k bad
    if c = 0 then s.bootRun k bc
    else
      let s1 := s.set F.SEC_BOOT_FAIL_CAUSE [] c
      let c2 := s1.tryImage (1 - k) bad
      if c2 = 0 then (((s1.setB F.SEC_BOOT_FALLBACK [] true).event .sec 3)).bootRun (1 - k) bc
      else (s1.set F.SEC_BOOT_FAIL_CAUSE [] c2).recover

/-- May the boot ROM run: the timebase is locked, RESET_N is high, and no boot has ended (R524, R527)? -/
def State.mayBoot (s : State) : Bool :=
  s.on F.CPW_TB_STAT_LOCKED [] && s.cpw.resetN && !s.on F.SEC_BOOT_READY [] && !s.on F.SEC_BOOT_RECOVERY []

/-! ### The management restart (R506, R507) -/

/-- A restart of reason 2 ends an activation: the boot record names the new image, and the journal records it (R505). -/
def State.activated (s : State) : State :=
  match s.sec.activating with
  | none => s
  | some _ =>
    let k := 1 - s.sec.running
    let s1 := (s.runImage k).secUp (fun x => { x with record := some k, activating := none, failedAct := false })
    s1.journalAdd 5 4 0 0 (padTo 64 (leBytes 4 1 ++ leBytes 4 (s1.get F.SEC_BOOT_VERSION []) ++ leBytes 1 (s1.get F.SEC_BOOT_SVN []))) []

/-- The firmware is up again: COUNT, LAST_US, the KIND 4 entry and RESTART_DONE; commands go on (R507). -/
def State.restartUp (s : State) : State :=
  if s.on F.MGR_RESTART_ACTIVE [] then
    let d := s.now - s.mgr.restartAt
    let s1 := (((s.setB F.MGR_RESTART_ACTIVE [] false).bump F.MGR_RESTART_COUNT []).set F.MGR_RESTART_LAST_US [] (min 0xFFFF (d / 10000))).beats 15
    let s2 := s1.activated.swapComplete
    (((s2.journalAdd 4 4 0 0 (padTo 64 (leBytes 2 s.mgr.reason ++ leBytes 4 (d / 1000))) []).event .mgr 3)).mcrKick
  else s

/-! ### Firmware updates (R504, R505) -/

/-- Answer a PLDM request. -/
def State.pldm (s : State) (code : Nat) : State := s.emit (.answer .sideband code [])

/-- The image that an update of the boot image is written into: the one that the boot record does not name, and image A in recovery (R496, R504). -/
def State.updateImage (s : State) : Nat := if s.on F.SEC_BOOT_RECOVERY [] then 0 else 1 - s.activeImage

/-- A PLDM RequestUpdate: one update at a time; in recovery the boot image alone (R496, R504). -/
def State.requestUpdate (s : State) (comp : Nat) : State :=
  if s.restarting then s.pldm 0x81
  else if s.sec.upd.isSome then s.pldm 0x81
  else if comp = 1 ∨ (comp = 2 ∧ s.on F.SEC_BOOT_RECOVERY [] = false) then (s.secUp (fun x => { x with upd := some comp, ready := none })).pldm 0
  else s.pldm 2

/-- The transfer of a component has ended: it is verified, and the transfer is reported complete or failed; a component that fails raises
AUTH_FAIL (R504). -/
def State.transferDone (s : State) (data : List Byte) : State :=
  match s.sec.upd with
  | none => s
  | some c =>
    let s1 := if c = 1 then s.secUp (fun x => { x with flash := x.flash.put s.updateImage data }) else s
    if (c = 1 ∧ s.bootVerify data = 0) ∨ (c ≠ 1 ∧ s.muleVerify data = true) then (s1.secUp (fun x => { x with ready := some (c, data) })).pldm 0
    else ((s1.secUp (fun x => { x with upd := none })).event .sec 4).pldm 1

/-- ActivateFirmware (R505): the management restart on the new boot image, or the update of the Mule firmware. -/
def State.activate (s : State) : State :=
  match s.sec.ready with
  | none => s.pldm 0x84
  | some (c, data) =>
    let s1 := s.secUp (fun x => { x with upd := none, ready := none })
    if s.restarting then s.pldm 0x81
    else if s.on F.SEC_BOOT_RECOVERY [] then (s1.secUp (fun x => { x with record := some 0 })).pldm 0
    else if c = 1 then
      ((s1.secUp (fun x => { x with activating := some (x.running, s.now), sess := [], failedAct := false })).pldm 0).startRestart 2
    else
      (s1.muleUp (fun u => { u with fw := some data, updating := none, updQueue := below 16 (fun k => s.mcIn k) })).pldm 0

/-- The restart on a new image has not reached READY within 200 ms: the cores restart on the old image (R505). -/
def State.activationTimeout (s : State) : State :=
  match s.sec.activating with
  | some (_, t) =>
    if t + 200000000 ≤ s.now then
      let b := s.sec.flash.lookD (1 - s.sec.running) []
      ((s.secUp (fun x => { x with activating := none, failedAct := true })).journalAdd 5 4 0 0
        (padTo 64 (leBytes 4 1 ++ leBytes 4 (leAt b 8 4) ++ [BitVec.ofNat 8 (leAt b 6 1), 1])) []).startRestart 2
    else s
  | none => s

/-! ### SPDM (R503) -/

/-- Answer an SPDM request. -/
def State.spdmSay (s : State) (r : SpdmRsp) : State := s.emit (.spdm r)

/-- The measurements that a request asks for: one index, or all of them (0xFF). -/
def State.measOf (s : State) (ix : Nat) : List (Nat × List Byte) :=
  ((List.range 11).map (· + 1)).filterMap (fun k => if ix = 0xFF ∨ ix = k then (s.sec.meas.look k).map (fun m => (k, m)) else none)

/-- The bytes that the device key signs: what was asked and the values reported. -/
def spdmSigned (nonce : List Byte) (m : List (Nat × List Byte)) : List Byte := nonce ++ m.flatMap (fun x => BitVec.ofNat 8 x.1 :: x.2)

/-- The SPDM responder (R503). -/
def State.spdmAnswer (s : State) (q : SpdmReq) : State :=
  match q with
  | .getVersion => s.spdmSay (.version [0x13, 0x12])
  | .getCapabilities => s.spdmSay (.capabilities ["CERT", "CHAL", "MEAS", "MEAS_FRESH", "KEY_EX", "MAC", "ENCRYPT", "HBEAT"])
  | .getCertificate k => s.spdmSay (if k = 0 then .certificate 0 else .error)
  | .challenge k n =>
    let m := s.measOf 0xFF
    s.spdmSay (if k = 0 then .signed 0xFF m (Config.deviceSign (spdmSigned n m)) else .error)
  | .getMeasurements ix n =>
    let m := s.measOf ix
    s.spdmSay (if m.isEmpty then .error else .signed ix m (Config.deviceSign (spdmSigned n m)))
  | .keyExchange _ =>
    if 16 ≤ s.sec.sess.length then s.spdmSay .busy
    else
      let id := ((List.range 16).find? (fun k => !s.sec.sess.contains k)).getD 0
      (s.secUp (fun x => { x with sess := x.sess ++ [id] })).spdmSay (.session id)
  | .heartbeat k => s.spdmSay (if s.sec.sess.contains k then .ok else .error)
  | .endSession k =>
    if s.sec.sess.contains k then (s.secUp (fun x => { x with sess := x.sess.filter (· != k) })).spdmSay .ok else s.spdmSay .error

end Sys2Proof.Machine
end

