-- ==== Sys2Proof/Machine/CmdMgmt.lean ====
section
/-!
DEFINITION. The meanings of the commands of the endpoint, the boot, firmware updates, attestation and the management restart (R493, R496 to R507).
-/

namespace Sys2Proof.Machine

/-- Does the endpoint serve only the reads of R495? -/
def State.endpointShut (s : State) : Bool := s.sealed || s.restarting

/-- SET_ENDPOINT_ID (R493). In the safe state and during a management restart the endpoint is unavailable (R495). The null and broadcast EIDs are no endpoint's. -/
def execSetEndpointId (eid : Fin 256) (s : State) : Host.Outcome State Fault Refusal :=
  .next (if s.endpointShut then s.emit (.answer .sideband 0x81 [])
    else if eid.val = 0 ∨ eid.val = 0xFF then s.emit (.answer .sideband 0x02 [])
    else (s.mgrUp (fun m => { m with eid := eid.val })).emit (.answer .sideband 0 [BitVec.ofNat 8 eid.val]))

/-- SPDM_REQUEST (R503); a station out of service answers nothing (R462). -/
def execSpdmRequest (q : SpdmReq) (s : State) : Host.Outcome State Fault Refusal :=
  .next (if s.endpointShut then s.emit (.answer .sideband 0x81 []) else if s.secDown then s else s.spdmAnswer q)

/-- REQUEST_UPDATE (R504). -/
def execRequestUpdate (comp : W16) (s : State) : Host.Outcome State Fault Refusal := s.live (·.requestUpdate comp.toNat)

/-- FIRMWARE_TRANSFER_DONE (R504). -/
def execFirmwareTransferDone (data : List Byte) (s : State) : Host.Outcome State Fault Refusal := s.live (·.transferDone data)

/-- ACTIVATE_FIRMWARE (R505). -/
def execActivateFirmware (s : State) : Host.Outcome State Fault Refusal := s.live (·.activate)

/-- ACTIVATION_TIMEOUT (R505). -/
def execActivationTimeout (s : State) : Host.Outcome State Fault Refusal := s.live (·.activationTimeout)

/-- MANAGEMENT_RESTART (R506): the restart that MGMT_RESTART asked for begins, after its entry and its response are written. -/
def execManagementRestart (s : State) : Host.Outcome State Fault Refusal :=
  s.live (fun s => match s.mgr.restart with
    | some r => if s.restarting then s else s.startRestart r
    | none => s)

/-- MGMT_RESTART_UP (R507). -/
def execMgmtRestartUp (s : State) : Host.Outcome State Fault Refusal := s.live (·.restartUp)

/-- BOOT_ROM (R496 to R499). -/
def execBootRom (bc : BootCfg) (readErr : List (Fin 2)) (s : State) : Host.Outcome State Fault Refusal :=
  s.live (fun s => if s.mayBoot then s.boot bc (readErr.map (fun (k : Fin 2) => k.val)) else s)

end Sys2Proof.Machine
end

