-- ==== Sys2Proof/Machine/CmdPath.lean ====
section
/-!
DEFINITION. The meanings of the commands of the forwarding path (chapters 05, 08 and 14) that need no other family.
-/

namespace Sys2Proof.Machine

/-- NP_REQUEST_RESUME (R18, R151). -/
def execNpRequestResume (n : Nat) (pick : Fin 16384) (s : State) : Host.Outcome State Fault Refusal := s.live (·.npResume n pick.val)

/-- TAG_WAIT_TIMEOUT (R259). -/
def execTagWaitTimeout (n : Nat) (s : State) : Host.Outcome State Fault Refusal := s.live (·.npTimeout n)

/-- PACKET_EJECTED (R18 step 5, R181, R192). -/
def execPacketEjected (r : Fin 96) (s : State) : Host.Outcome State Fault Refusal := s.live (·.eject r.val)

/-- RESEND_REQUEST (R182). -/
def execResendRequest (x : Fin 80) (s : State) : Host.Outcome State Fault Refusal := s.live (·.resendRequest x.val)

/-- TAIL_CONFIRMATION (R18 steps 6 and 9, R165). -/
def execTailConfirmation (x : Fin 80) (s : State) : Host.Outcome State Fault Refusal := s.live (·.tailConfirm x.val)

/-- FLOW_CONTROL_UPDATE (R448): credit of a type arrives and the port sends if a class is now eligible. -/
def execFlowControlUpdate (port : Fin 144) (ty : Fin 3) (hdr dat : Nat) (s : State) : Host.Outcome State Fault Refusal :=
  s.live (fun s =>
    (s.fwdUp (fun f => { f with fc := f.fc.upd (port.val, ty.val) (0, 0) (fun c => (c.1 + hdr, c.2 + dat)) })).schedule port.val)

/-- EGRESS_UNDERRUN (R159): the next TLP of the port starts, runs dry, is nullified, and is sent again whole. A store-and-forward port does
not start a TLP before it is whole. -/
def execEgressUnderrun (port : Fin 144) (s : State) : Host.Outcome State Fault Refusal :=
  s.live (fun s =>
    if s.pon F.PP_CTL_SAF port.val then s
    else
      match s.pickClass port.val with
      | (s1, some c) =>
        match s1.sq port.val c with
        | p :: _ =>
          match p.tlp? with
          | some t =>
            ((((s1.emit (.nullified port.val t)).portCount port.val 6).pset F.PT_GATE_STAT_UNDERRUN port.val 1).portEvent port.val 2 1).transmit
              port.val c
          | none => s
        | [] => s
      | (_, none) => s)

/-- BUFFER_UE (R161). -/
def execBufferUe (src : Fin 164) (egress : Fin 144) (sc : Fin 4) (seq : W16) (s : State) : Host.Outcome State Fault Refusal :=
  s.live (·.bufferUe src.val egress.val sc.val seq.toNat)

/-- GAP_TIMEOUT (R157). -/
def execGapTimeout (src : Fin 164) (egress : Fin 144) (sc : Fin 4) (s : State) : Host.Outcome State Fault Refusal :=
  s.live (·.gapTimeout src.val egress.val sc.val)

/-- SWAP_MESSAGE (R146, R228). -/
def execSwapMessage (x : Fin 80) (s : State) : Host.Outcome State Fault Refusal := s.live (·.swapMessage x.val)

/-- TAG_LEASE_REQUEST (R174). -/
def execTagLeaseRequest (t : Fin 36) (s : State) : Host.Outcome State Fault Refusal := s.live (·.leaseRequest t.val)

/-- TAG_LEASE_GRANT (R174). -/
def execTagLeaseGrant (x : Fin 80) (s : State) : Host.Outcome State Fault Refusal := s.live (·.leaseGrant x.val)

/-- TAG_LEASE_RETURN (R174). -/
def execTagLeaseReturn (x : Fin 80) (egress : Fin 144) (s : State) : Host.Outcome State Fault Refusal :=
  s.live (·.leaseReturn x.val egress.val)

/-- COMPLETION_TIMEOUT (R247, R248). -/
def execCompletionTimeout (x : Fin 80) (trk : Fin 16384) (s : State) : Host.Outcome State Fault Refusal :=
  s.live (·.completionTimeout x.val trk.val)

/-- EXPIRY_MESSAGE (R249). -/
def execExpiryMessage (t : Fin 36) (s : State) : Host.Outcome State Fault Refusal := s.live (·.expiryMessage t.val)

/-- QUARANTINE_END (R255). -/
def execQuarantineEnd (port : Fin 144) (tag : Fin 16384) (s : State) : Host.Outcome State Fault Refusal :=
  s.live (·.quarantineEnd port.val tag.val)

/-- CONTAINMENT_RELEASE (R263). -/
def execContainmentRelease (vdsp : Fin 1024) (s : State) : Host.Outcome State Fault Refusal := s.live (·.release vdsp.val)

/-- TRACKER_ENTRY_UE (R270). -/
def execTrackerEntryUe (x : Fin 80) (trk : Fin 16384) (s : State) : Host.Outcome State Fault Refusal := s.live (·.trackerUe x.val trk.val)

/-- TRACKER_LOSS_MESSAGE (R270). -/
def execTrackerLossMessage (t : Fin 36) (s : State) : Host.Outcome State Fault Refusal := s.live (·.trackerLoss t.val)

/-- SHAPER_RECOVERY_TICK (R447). -/
def execShaperRecoveryTick (x : Fin 1840) (s : State) : Host.Outcome State Fault Refusal := s.live (·.shRecover x.val)

/-- SHAPER_MEAS_WINDOW (R446). -/
def execShaperMeasWindow (x : Fin 1840) (s : State) : Host.Outcome State Fault Refusal := s.live (·.shWindow x.val)

/-- A write of PT_SCHED clears every deficit of the port and the round starts again (R449). -/
def State.schedWrite (s : State) (p : Nat) (v : W64) : State :=
  (s.writeTyped ⟨.PT_SCHED, [p / 4, p % 4]⟩ false v).fwdUp (fun f => { f with deficit := f.deficit.filter (fun e => e.1.1 != p), rrs := f.rrs.del (p, 0) })

/-- PT_SCHED_WRITE (R449). -/
def execPtSchedWrite (who : Init) (port : Fin 144) (v : W32) (s : State) : Host.Outcome State Fault Refusal :=
  s.live (fun s => s.writeReg who ⟨.PT_SCHED, [port.val / 4, port.val % 4]⟩ 4 (·.schedWrite port.val (v.zeroExtend 64)))

end Sys2Proof.Machine
end

