-- ==== Sys2Proof/Machine/CmdPerf.lean ====
section
/-!
DEFINITION. The meanings of the commands of Mule sampling (R538 to R540).
-/

namespace Sys2Proof.Machine

/-- Change the performance state. -/
def State.perfUp (s : State) (f : PerfSt → PerfSt) : State := { s with perf := f s.perf }

/-- log2 of the ring's slots: 8 to 20. -/
def State.smpSize (s : State) : Nat := min 20 (max 8 (s.get F.PMG_SMP_CFG_SIZE []))

/-- Does the station's copy of SMP_HEAD show the ring full (R540)? -/
def State.smpFull (s : State) : Bool := decide (2 ^ s.smpSize ≤ (s.perf.written + 2 ^ 32 - s.perf.head) % 2 ^ 32)

/-- What a sample records (R539): time, PC, Mule, thread h, level, slot, instance, state, skid, address. -/
structure Sample where
  time : Nat
  pc : Nat
  mule : Nat
  h : Nat
  level : Nat
  prog : Nat
  inst : Nat
  state : Nat
  skid : Nat
  addr : Nat
  deriving DecidableEq, Repr

/-- The 32 bytes of a record (R539): a thread at level V has PC 0. -/
def Sample.bytes (r : Sample) (mode phase lost : Nat) : List Byte :=
  leBytes 8 r.time ++ leBytes 4 (if r.level = 1 then r.pc % 2 ^ 17 else 0) ++ leBytes 1 r.mule ++
  leBytes 1 (r.h + 4 * r.level + 8 * (if r.level = 1 then r.prog else 0) + 32 * mode + 128 * phase) ++ leBytes 2 (r.inst % 2 ^ 11) ++ leBytes 1 r.state ++
  leBytes 1 r.skid ++ [0, 0] ++ leBytes 4 (min lost (2 ^ 32 - 1)) ++ leBytes 8 r.addr

/-- Write a record, or drop it on a full ring (R540). -/
def State.smpWrite (s : State) (r : Sample) : State :=
  if s.smpFull then (s.perfUp (fun p => { p with lost := p.lost + 1 })).event .pmg 1
  else
    let n := s.perf.written
    let base := (s.rd ⟨.PMG_SMP_BASE, []⟩).toNat
    (s.emit (.hostWrite .mgmt (base + 32 * (n % 2 ^ s.smpSize)) (r.bytes (s.get F.PMG_SMP_CFG_MODE []) (phaseOf n s.smpSize) s.perf.lost))).perfUp (fun p =>
      { p with written := (n + 1) % 2 ^ 32, lost := 0 })

/-- The record of what a precise sample caught. -/
def State.caughtSample (s : State) (m : Nat) (c : Nat × Nat × Nat × Nat × Nat) : Sample :=
  { time := c.2.2.2.1, pc := c.2.1, mule := m, h := c.1 % 4, level := c.2.2.2.2 % 2, prog := c.2.2.2.2 / 2 % 4, inst := c.2.2.2.2 / 8,
    state := s.get F.MCL_THR_STATE [c.1 / 16, c.1 % 16], skid := 0, addr := c.2.2.1 }

/-- PRECISE_SAMPLE (R538, R574): the caught instruction of a Mule is recorded. -/
def execPreciseSample (m : Fin 64) (s : State) : Host.Outcome State Fault Refusal :=
  s.live (fun s => match s.perf.caught.look m.val with
    | some c =>
      if s.smpOn && s.hostIo && s.muleIn m.val then (s.perfUp (fun p => { p with caught := p.caught.del m.val })).smpWrite (s.caughtSample m.val c) else s
    | none => s)

/-- The thread of a Mule that issues next: the next ready one, else the next in order that holds an invocation (R410, R538). -/
def State.skidThr (s : State) (m : Nat) : Option Nat :=
  match s.nextThr m with
  | some t => some t
  | none => ((List.range 4).map (fun j => 4 * m + (s.mule.last.lookD m 3 + 1 + j) % 4)).find? (fun t => (s.get F.MCL_STAT_THR_BUSY [t / 16]).testBit (t % 16))

/-- The skid record of a Mule (R538). -/
def State.skidSample (s : State) (m : Nat) : Sample :=
  let k := min 16 (s.perf.skidRun.lookD m 0)
  match s.skidThr m with
  | some t =>
    let ix := [t / 16, t % 16]
    { time := s.now, pc := s.get F.MCL_THR_PC ix, mule := m, h := t % 4, level := s.get F.MCL_THR_LEVEL ix, prog := s.get F.MCL_THR_PROG ix,
      inst := s.get F.MCL_THR_INST ix, state := s.get F.MCL_THR_STATE ix, skid := k, addr := 0 }
  | none => { time := s.now, pc := 0, mule := m, h := 0, level := 0, prog := 0, inst := 0, state := 0, skid := k, addr := 0 }

/-- Does a Mule take samples: selected, in service and powered? -/
def State.smpMule (s : State) (m : Nat) : Bool := (s.get F.PMG_SMP_MASK_MASK []).testBit m && s.muleIn m && s.powered (stnMc (m / 4))

/-- A skid tick: every selected Mule is captured (R538). -/
def State.skidTick (s : State) : State :=
  if s.smpOn ∧ s.hostIo = true ∧ s.on F.PMG_SMP_CFG_MODE [] = true ∧ s.perf.skidAt + s.skidNs ≤ s.now then
    ((below 64 s.smpMule).foldl (fun (s : State) (m : Nat) => s.smpWrite (s.skidSample m)) s).perfUp (fun p =>
      { p with skidAt := s.perf.skidAt + s.skidNs, skidRun := [] })
  else s

/-- SKID_SAMPLE (R538). -/
def execSkidSample (s : State) : Host.Outcome State Fault Refusal := s.live (·.skidTick)

/-- The doorbell read of a full ring, at most once every 10 µs; a failure stops sampling with ERROR (R540). -/
def State.smpDoorbell (s : State) (ok : Bool) (head : Nat) : State :=
  if s.smpOn && s.hostIo && s.smpFull && decide (s.perf.readAt + 10000 ≤ s.now) then
    let s1 := (s.emit (.hostRead .mgmt ((s.rd ⟨.PMG_SMP_DB, []⟩).toNat) 16)).perfUp (fun p => { p with readAt := s.now })
    if ok then s1.perfUp (fun p => { p with head := head }) else s1.setB F.PMG_SMP_CFG_ERROR [] true
  else s

/-- SAMPLE_DOORBELL_READ (R540). -/
def execSampleDoorbellRead (ok : Bool) (head : W32) (s : State) : Host.Outcome State Fault Refusal := s.live (·.smpDoorbell ok head.toNat)

/-- A write of PMG_SMP_CFG (R540): while EN is 1 only a write that clears EN and changes nothing else is taken. -/
def State.smpCfg (s : State) (v : W64) : State :=
  if s.on F.PMG_SMP_CFG_EN [] then
    if v.getLsbD 0 = false ∧ fget v 1 6 = fget (s.rd ⟨.PMG_SMP_CFG, []⟩) 1 6 ∧ fget v 16 10 = s.get F.PMG_SMP_CFG_PERIOD [] then s.setB F.PMG_SMP_CFG_EN [] false
    else s.setB F.PMG_SMP_CFG_REFUSED [] true
  else
    let s1 := s.writeTyped ⟨.PMG_SMP_CFG, []⟩ false v
    if v.getLsbD 0 then
      (s1.setB F.PMG_SMP_CFG_ERROR [] false).perfUp (fun p => { p with written := 0, lost := 0, head := 0, retired := [], caught := [], skidAt := s.now, skidRun := [] })
    else s1

/-- A write of one of the sampling registers by its offset in the page (R540). -/
def State.smpReg (s : State) (off : Nat) (v : W64) : State :=
  let refused := fun (n : RN) => if s.on F.PMG_SMP_CFG_EN [] then s.setB F.PMG_SMP_CFG_REFUSED [] true else s.writeTyped ⟨n, []⟩ false v
  if off = 0x200 then s.smpCfg v
  else if off = 0x208 then refused .PMG_SMP_BASE
  else if off = 0x210 then refused .PMG_SMP_DB
  else s.writeTyped ⟨.PMG_SMP_MASK, []⟩ false v

/-- SMP_CFG_WRITE (R540): another offset is no register of sampling. -/
def execSmpCfgWrite (who : Init) (off : Fin 65536) (v : W64) (s : State) : Host.Outcome State Fault Refusal :=
  s.live (fun s =>
    let n : Option RN := if off.val = 0x200 then some .PMG_SMP_CFG else if off.val = 0x208 then some .PMG_SMP_BASE
      else if off.val = 0x210 then some .PMG_SMP_DB else if off.val = 0x218 then some .PMG_SMP_MASK else none
    match n with
    | some r => s.writeReg who ⟨r, []⟩ 8 (·.smpReg off.val v)
    | none => s)

end Sys2Proof.Machine
end

