-- ==== Sys2Proof/Machine/Access.lean ====
section
/-!
DEFINITION. Accesses to registers by address (R542 to R548), the effect of a write on each register, the instance BARs (R340, R341, R541), a host's
requests to both, the sideband's register and journal requests (R494, R495), and the relay's requests (R338).
-/

namespace Sys2Proof.Machine

/-! ### What a write does to each register -/

/-- The word that a write of some bytes asks for: the bytes outside the mask keep their value, and fields that act when written 1 see 0 there
(R544). -/
def mergeWord (fs : List FInfo) (old v mask : W64) : W64 :=
  fs.foldl (fun acc f => match f.ty with
    | .rw1c | .rw1s | .wo => fset acc f.lo f.w (fget (v &&& mask) f.lo f.w)
    | _ => acc) ((v &&& mask) ||| (old &&& ~~~mask))

/-- Is the register in a block whose LOCK is set (R6)? Only the routers have one. -/
def State.locked (s : State) (r : Reg) : Bool :=
  match r.n, r.ix with
  | .RTR_ARB, n :: _ | .RTR_QOS, n :: _ => s.on F.RTR_CTL_LOCK [n]
  | _, _ => false

/-- A write of RTR_CTL: ISOLATE, CNT_CLR and LOCK (R6, R202, R532). -/
def State.rtrCtl (s : State) (n : Nat) (v : W64) : State :=
  ((s.setB F.RTR_CTL_ISOLATE [n] (v.getLsbD 0)).when (v.getLsbD 2) (·.clearRegs (fun k => k.n == .RTR_CNT && k.ix.head? == some n))).when (v.getLsbD 3)
    (·.setB F.RTR_CTL_LOCK [n] true)

/-- A write of RTR_ESC_CTL (R204, R208, R209): SWAP is decided by the FREEZE before the write (R569). -/
def State.escCtl (s : State) (n : Nat) (v : W64) : State :=
  let s1 := s.when (v.getLsbD 5) (·.setB F.RTR_ESC_CTL_REFUSED [n] false)
  let s2 := s1.when (v.getLsbD 1) (·.escSwap n)
  let s3 := s2.setB F.RTR_ESC_CTL_REROUTE [n] (v.getLsbD 4)
  if s.on F.RTR_ESC_CTL_FREEZE [n] = v.getLsbD 2 then s3 else (s3.setFreeze n (v.getLsbD 2)).settled

/-- A write of RTR_ISL_CTL (R211, R212): an unchanged FREQ starts nothing. -/
def State.islCtl (s : State) (n : Nat) (v : W64) : State :=
  let s1 := s.when (v.getLsbD 12) (·.setB F.RTR_ISL_CTL_REFUSED [n] false)
  if fget v 0 12 = s.get F.RTR_ISL_CTL_FREQ [n] then s1 else s1.setFreq n (fget v 0 12)

/-- A write of LN_TXEQ: without OVR the coefficients are those in use (R47, LN_TXEQ). -/
def State.txeqWrite (s : State) (t k : Nat) (v : W64) : State :=
  if v.getLsbD 16 then s.writeTyped ⟨.LN_TXEQ, [t, k]⟩ false v else s.setB F.LN_TXEQ_OVR [t, k] false

/-- A write of GSV_HB: beats, and LOST cleared by 1 (R466). -/
def State.hbWrite (s : State) (v : W64) : State := (s.writeTyped ⟨.GSV_HB, []⟩ false v).beats (fget v 0 4)

/-- A write of MGR_NUDGE: the record is to be read (R352, R478). -/
def State.nudgeReg (s : State) : State := if s.mcrOn then s.mgrUp (fun m => { m with want := true }) else s

/-- A write of a management vector's control word: a vector that is no longer masked sends the message that its PBA bit kept (R476, R547). -/
def State.msixCtrl (s : State) (n : Nat) (v : W64) : State :=
  let s1 := s.writeTyped ⟨.MSIX_CTRL, [n]⟩ false v
  let w := s1.get F.MSIX_PBA_PBA [n / 64]
  if s1.on F.MSIX_CTRL_MASK [n] = false ∧ w.testBit (n % 64) = true then
    (s1.set F.MSIX_PBA_PBA [n / 64] (w ^^^ (1 <<< (n % 64)))).sendMsix n
  else s1

/-- A tenant's write of EN of a queue pair. -/
def State.qpCtl (s : State) (i q : Nat) (v : W64) : State :=
  if v.getLsbD 0 then s.qpEnable i q else if s.on F.QP_CTL_EN [i, q] then s.qpDisable i q else s

/-- A tenant's write of DL_CTL. -/
def State.dlCtl (s : State) (i : Nat) (v : W64) : State :=
  (((s.dlLogEn i (v.getLsbD 0)).dlQuiesce i (v.getLsbD 1))).when (v.getLsbD 2) (·.dlFlush i)

/-- The registers of an instance's set-up page and MSI-X table (R548). -/
def isSetup (n : RN) : Bool :=
  match n with
  | .DM_ID | .DM_STAT | .DM_FEATURES | .DM_ACCEPT | .RX_CFG | .RX_IRQ | .RX_STAT | .RX_BASE | .RX_DB_ADDR | .QP_CFG | .QP_IRQ | .QP_CTL | .QP_ERR
  | .QP_STAT | .QP_SQ_BASE | .QP_CQ_BASE | .QP_DB_ADDR | .DL_SEL | .DL_CFG | .DL_CTL | .DL_STAT | .DL_BASE | .DL_DB_ADDR | .IMSIX_ADDR | .IMSIX_DATA
  | .IMSIX_CTRL | .IMSIX_PBA => true
  | _ => false

/-- Is the register one of the dirty-page log's? -/
def isDl (n : RN) : Bool :=
  match n with
  | .DL_SEL | .DL_CFG | .DL_CTL | .DL_STAT | .DL_BASE | .DL_DB_ADDR => true
  | _ => false

/-- What a write of a word to an instance's register does (R344 to R349, R384, R404 to R406). -/
def State.setupWrite (s : State) (r : Reg) (v : W64) : State :=
  match r.n, r.ix with
  | .DM_ACCEPT, [i] => s.acceptWrite i v
  | .QP_SQ_BASE, [i, q] => s.qpCfg i q 0 v
  | .QP_CQ_BASE, [i, q] => s.qpCfg i q 1 v
  | .QP_DB_ADDR, [i, q] => s.qpCfg i q 2 v
  | .QP_CFG, [i, q] => s.qpCfg i q 3 v
  | .QP_CTL, [i, q] => s.qpCtl i q v
  | .QP_IRQ, [i, q] => s.qpIrq i q v
  | .RX_IRQ, [i] => s.rxIrq i v
  | .RX_BASE, [i] => s.rxCfg i 0 v
  | .RX_DB_ADDR, [i] => s.rxCfg i 1 v
  | .RX_CFG, [i] => s.rxCfg i 2 v
  | .DL_SEL, [i] => s.dlSel i (fget v 0 11)
  | .DL_BASE, [i] => s.dlCfg i 0 v
  | .DL_DB_ADDR, [i] => s.dlCfg i 1 v
  | .DL_CFG, [i] => s.dlCfg i 2 v
  | .DL_CTL, [i] => s.dlCtl i v
  | .IMSIX_CTRL, [i, _] => (s.writeTyped r false v).flushImsix i
  | n, i :: _ => if isDl n ∧ 48 ≤ i then s else s.writeTyped r false v
  | _, _ => s

/-- What a write of a word to a tile's register does. -/
def State.tileWrite (s : State) (r : Reg) (v : W64) : State :=
  match r.n, r.ix with
  | .PT_CUT, [t] => s.cutWrite t v
  | .LN_CTL, [t, k] => s.lnCtl t k v
  | .LN_TXEQ, [t, k] => s.txeqWrite t k v
  | .LN_PAT, [t, k] => s.lnPat t k v
  | .LN_EYE, [t, k] => s.eyeWrite t k v
  | .PP_CTL, [t, k] => s.ppCtl (4 * t + k) v
  | .PP_PM, [t, k] => s.ppPm (4 * t + k) v
  | .PP_RST, [t, k] => s.ppRst (4 * t + k) v
  | .PT_FWD_CTL, [t, k] => s.fwdCtl (4 * t + k) v
  | .PT_BUF_CFG, [t, k] => s.bufCfg (4 * t + k) v
  | .PT_SCHED, [t, k] => s.schedWrite (4 * t + k) v
  | .PT_BW_CFG, [t, k] => s.bwCfg (4 * t + k) v
  | .PT_CNT_CLR, [t] => s.ptCntClr t v.toNat
  | _, _ => s.writeTyped r false v

/-- What a write of a word to a register does: the same operations as the commands that name one register, and otherwise the types of its fields
(R6, R7). A register of an instance is written through its BAR only (R342). -/
def State.regEffect (s : State) (who : Init) (r : Reg) (v : W64) : State :=
  match tripOf r with
  | some (x, 0) => s.errStatWrite x v
  | some (x, _) => s.errMaskWrite x v
  | none =>
    if isSetup r.n then s
    else
      match r.n, r.ix with
      | .RTR_CTL, [n] => s.rtrCtl n v
      | .RTR_ESC_CTL, [n] => s.escCtl n v
      | .RTR_ISL_CTL, [n] => s.islCtl n v
      | .RTR_ESC_TBL, [n, b, d] => s.escWrite n false b d v
      | .RTR_ESCV, [n, b, h] => s.escWrite n true b h v
      | .FAB_TRK_CFG, [j] => s.trkCfg j v
      | .FAB_TRK_FC, [j] => s.fcWrite j v
      | .FAB_CNT_CLR, [] => s.fabCntClr v.toNat
      | .MCL_CTL, [k] => s.mclCtl k (v.getLsbD 0)
      | .MCL_CNT_CLR, [k] => s.mclCntClr k v.toNat
      | .MCL_MEM_DATA, [k] => s.memData k true v
      | .LK_CFG, [b, n, u] => s.leakCfg b n u v
      | .GSV_HB, [] => s.hbWrite v
      | .MGR_NUDGE, [] => s.nudgeReg
      | .MGR_CMD_BASE, [] => s.mcrCfg 0 v
      | .MGR_RSP_BASE, [] => s.mcrCfg 1 v
      | .MGR_DB_ADDR, [] => s.mcrCfg 2 v
      | .MGR_MCR_CFG, [] => s.mcrCfg 3 v
      | .MSIX_CTRL, [n] => s.msixCtrl n v
      | .CPW_TB_CFG, [] => s.tbWrite v
      | .CPW_TILE_REF, [t] => s.tileRef t v
      | .CPW_REFOUT, [n] => s.refOut n v
      | .CPW_CLKEN, [w] => s.clkWrite w v.toNat
      | .CPW_PD, [d] => s.pdWrite d v
      | .CPW_RST, [] => s.rstWrite who v
      | .PMG_CNT_CLR, [] => s.pmgCntClr v.toNat
      | .PMG_SMP_CFG, [] => s.smpReg 0x200 v
      | .PMG_SMP_BASE, [] => s.smpReg 0x208 v
      | .PMG_SMP_DB, [] => s.smpReg 0x210 v
      | .PMG_SMP_MASK, [] => s.smpReg 0x218 v
      | _, _ => if s.locked r then s.writeTyped r true v else s.tileWrite r v

/-! ### Words of registers, and accesses of 4 or 8 bytes (R544) -/

/-- What a register reads now: MCL_MEM_DATA the word at MCL_MEM_ADDR, SH_STAT the credit of this moment (R438), the log registers of a virtual function
0 (R548). -/
def State.regNow (s : State) (r : Reg) : W64 :=
  readWord r.n.fields (match r.n, r.ix with
    | .MCL_MEM_DATA, [k] => (s.memData k false 0).rd r
    | .SH_STAT, [x] => fset (s.rd r) 0 32 (unsx 32 (s.shCredit x / 100))
    | n, i :: _ => if isDl n ∧ 48 ≤ i then 0 else s.rd r
    | _, _ => s.rd r)

/-- What reading a register changes: the address of MCL_MEM_DATA advances. -/
def State.readEffect (s : State) (r : Reg) : State :=
  match r.n, r.ix with
  | .MCL_MEM_DATA, [k] => s.memData k false 0
  | _, _ => s

/-- Is the register 64 bits wide? -/
def RN.wide (n : RN) : Bool := regRows.any (fun w => w.n == n && w.w64)

/-- The registers that an aligned access of 4 or 8 bytes covers, lower address first: the register, the byte within it, the bytes, and the byte of the
access at which they stand. -/
def accParts (addr size : Nat) : List (Reg × Nat × Nat × Nat) :=
  let one := fun (a at_ : Nat) => match Reg.ofOffset a with
    | some (r, b) => [(r, b, 4, at_)]
    | none => []
  match Reg.ofOffset addr with
  | some (r, 0) => if size = 8 ∧ r.n.wide then [(r, 0, 8, 0)] else one addr 0 ++ (if size = 8 then one (addr + 4) 4 else [])
  | _ => one addr 0 ++ (if size = 8 then one (addr + 4) 4 else [])

/-- A mask of bytes of a word. -/
def byteMask (lo n : Nat) : W64 := BitVec.ofNat 64 ((2 ^ (8 * n) - 1) <<< (8 * lo))

/-- Write the registers at an address: two 32-bit registers are two writes, lower address first (R544). -/
def State.writeAt (s : State) (f : State → Reg → W64 → State) (addr size : Nat) (v : W64) : State :=
  (accParts addr size).foldl (fun (s : State) (x : Reg × Nat × Nat × Nat) =>
    f s x.1 (mergeWord x.1.n.fields (s.regNow x.1) ((v >>> (8 * x.2.2.2)) <<< (8 * x.2.1)) (byteMask x.2.1 x.2.2.1))) s

/-- Read the registers at an address, lower address first. -/
def State.readAt (s : State) (addr size : Nat) : State × Nat :=
  (accParts addr size).foldl (fun (a : State × Nat) (x : Reg × Nat × Nat × Nat) =>
    (a.1.readEffect x.1, a.2 + (((a.1.regNow x.1).toNat >>> (8 * x.2.1)) % 2 ^ (8 * x.2.2.1)) <<< (8 * x.2.2.2))) (s, 0)

/-- Does an access write instruction memory, which no level but V may (R239)? -/
def State.imemWrite (s : State) (who : Init) (addr size : Nat) : Bool :=
  s.levelOf who != .v && (accParts addr size).any (fun x => x.1.n == .MCL_MEM_DATA && (match x.1.ix with
    | [k] => s.on F.MCL_MEM_ADDR_IMEM [k]
    | _ => false))

/-- A write access to BAR0, with its checks (R239, R543 to R546). -/
def State.busWrite (s : State) (who : Init) (plain : Bool) (off size : Nat) (v : W64) : State × Acc :=
  match s.checkAcc who true plain off size with
  | (s1, .ok) =>
    if s.imemWrite who off size then
      let so := (slotOf off).getD (255, 0)
      (s.gateDeny who so.1 so.2 1, .denied)
    else (s1.writeAt (fun s r v => s.regEffect who r v) off size v, .ok)
  | r => r

/-- A read access to BAR0. -/
def State.busRead (s : State) (who : Init) (plain : Bool) (off size : Nat) : State × Acc × List Byte :=
  match s.checkAcc who false plain off size with
  | (s1, .ok) => let r := s1.readAt off size; (r.1, .ok, leBytes size r.2)
  | (s1, a) => (s1, a, [])

/-! ### Instance BARs (R340, R341, R541) -/

/-- Does a request to an instance BAR keep the rule of R341? The MSI-X table and PBA take aligned accesses of 4 or 8 bytes (PRESUMED, PCI Express). -/
def instForm (off size : Nat) (write plain : Bool) : Bool :=
  plain && decide (1 ≤ size) && decide (off % 0x1000 + size ≤ 0x1000) && decide (off < 0x4000) &&
  (match off / 0x1000 with
    | 0 => !write || decide (size ≤ 8)
    | 3 => true
    | _ => (size == 4 || size == 8) && off % size == 0)

/-- The address under which the registers of an instance BAR's set-up page and MSI-X pages are numbered. -/
def instAddr (i off : Nat) : Nat := if off < 0x2000 then 0x2900000 + 0x1000 * i + (off - 0x1000) else 0x100000000 + 0x4000 * i + off

/-- The gate slot and offset of an access to an instance BAR: the set-up page has the offset of its view in the DMG block (R235, R342). -/
def instGate (i off : Nat) : Nat × Nat :=
  match off / 0x1000 with
  | 1 => (201, 0x100000 + 0x1000 * i + (off - 0x1000))
  | 3 => (200, off)
  | _ => (201, off)

/-- A word of the tenant counter view; it reads 0 while COUNTERS is not accepted (R344, R541). -/
def State.viewWord (s : State) (i k : Nat) : W64 :=
  if (s.get F.DM_ACCEPT_ACCEPT [i]).testBit 5 = false then 0
  else if k < 8 then s.regNow ⟨.DMG_CNT, [i, k]⟩
  else if k = 8 then s.regNow ⟨.DMG_INST_USE, [i]⟩
  else if k = 9 then s.regNow ⟨.DMG_SHARE, []⟩
  else if k = 10 then s.regNow ⟨.SH_STAT, [768 + i]⟩
  else 0

/-- Bytes of the tenant counter view. -/
def State.viewBytes (s : State) (i off size : Nat) : List Byte :=
  (List.range size).map (fun n => let a := off - 0x3000 + n; BitVec.ofNat 8 ((s.viewWord i (a / 8)).toNat >>> (8 * (a % 8))))

/-- A write to an instance BAR; one that breaks R341 is refused, and one to the counter view always is (R541). An FLR under way lets no write take
effect. -/
def State.instWrite (s : State) (i : Fin 1072) (plain : Bool) (off size : Nat) (v : W64) : State × Acc :=
  let g := instGate i.val off
  if instForm off size true plain = false then (s, .unmapped)
  else if off / 0x1000 = 3 then (s.gateDeny (.tenant i) g.1 g.2 1, .denied)
  else
    match s.checkSlot (.tenant i) true g.1 g.2 size with
    | (s1, .ok) =>
      if (s1.dm.flr.look i.val).isSome then (s1, .ok)
      else if off < 0x1000 then (s1.nudgeWrite i.val off, .ok)
      else (s1.writeAt (fun s r v => s.setupWrite r v) (instAddr i.val off) size v, .ok)
    | r => r

/-- A read of an instance BAR. -/
def State.instRead (s : State) (i : Fin 1072) (plain : Bool) (off size : Nat) : State × Acc × List Byte :=
  let g := instGate i.val off
  if instForm off size false plain = false then (s, .unmapped, [])
  else
    match s.checkSlot (.tenant i) false g.1 g.2 size with
    | (s1, .ok) =>
      if off < 0x1000 then (s1, .ok, List.replicate size 0)
      else if off / 0x1000 = 3 then (s1, .ok, s1.viewBytes i.val off size)
      else let r := s1.readAt (instAddr i.val off) size; (r.1, .ok, leBytes size r.2)
    | (s1, a) => (s1, a, [])

/-! ### The rows of accesses -/

/-- REGISTER_WRITE (R6, R7, R544): a tenant's offset lies in its instance BAR, any other initiator's in management BAR0. -/
def execRegisterWrite (who : Init) (off size : Nat) (v : W64) (s : State) : Host.Outcome State Fault Refusal :=
  s.live (fun s =>
    let r := match who with
      | .tenant i => s.instWrite i true off size v
      | w => s.busWrite w true off size v
    r.1.answerWrite who r.2)

/-- BAR0_UNMAPPED_ACCESS (R543, R544): an access that lies in no block or is no aligned plain access of 4 or 8 bytes. -/
def execBar0UnmappedAccess (who : Init) (off size : Nat) (write plain : Bool) (s : State) : Host.Outcome State Fault Refusal :=
  s.live (fun s => match s.checkAcc who write plain off size with
    | (s1, .unmapped) => s1.answerWrite who .unmapped
    | _ => s)

/-! ### A host's requests (R18, R236, R267, R518, R543) -/

/-- The requester ID of an instance's function (R408). -/
def State.instRid (s : State) (v i : Nat) : Nat := s.cf (.dmp v) .busSec * 256 + (if i < 48 then 0 else s.vfNum v i)

/-- Answer a host for an access: data, nothing for a posted write that was made, Completer Abort for a clock that is off, and Unsupported Request
otherwise; a posted write that is refused is dropped and counted. -/
def State.hostDone (s : State) (p v : Nat) (t : Tlp) (cid : Nat) (a : Acc) (d : List Byte) : State :=
  match a with
  | .ok => if tlpClass t = 1 then s.answerTlp p 0 (cplData t cid d) else s
  | .gated => s.refuseTlp p t 4 cid
  | _ => (s.aer (.host v) .aerUr (tlpClass t == 1)).refuseTlp p t 1 cid

/-- Is a request a plain memory read or write? -/
def plainReq (t : Tlp) : Bool := t.kind == .mrd || t.kind == .mwr

/-- A host's memory request to management BAR0 (`none`) or to an instance BAR; a poisoned one is refused or dropped (R267). -/
def State.hostAcc (s : State) (p v : Nat) (inst : Option (Fin 1072)) (off : Nat) (t : Tlp) : State :=
  let cid := match inst with
    | some i => s.instRid v i.val
    | none => s.cf (.up v) .busPri * 256 + 1
  if t.poison then s.refuseTlp p t 1 cid
  else if t.kind = .mwr then
    let x := BitVec.ofNat 64 (leNat t.data)
    let r := match inst with
      | some i => s.instWrite i true off t.data.length x
      | none => s.busWrite .owner true off t.data.length x
    r.1.hostDone p v t cid r.2 []
  else
    let r := match inst with
      | some i => s.instRead i (plainReq t) off t.len
      | none => s.busRead .owner (plainReq t) off t.len
    r.1.hostDone p v t cid r.2.1 r.2.2

/-- What the device itself does with a request that it does not forward: its BARs, its functions, the members of groups. -/
def State.terminate (s : State) (p pick : Nat) (r : Route) (t : Tlp) : State :=
  match r, s.vsOfPort p with
  | .bar0 off, some v => (s.hostAcc p v none off t).schedule p
  | .inst i off, some v => if h : i < 1072 then (s.hostAcc p v (some ⟨i, h⟩) off t).schedule p else s
  | .fn f, _ => s.cfgReq p f t
  | .member v sl f, _ => s.memberCfg p v sl f t pick
  | _, _ => s

/-- TLP_RECEIVED (R18, R141 to R145): a TLP arrives on a PCIe port. -/
def execTlpReceived (port : Fin 144) (t : Tlp) (chk : LinkChk) (pick : Fin 16384) (s : State) : Host.Outcome State Fault Refusal :=
  s.live (fun s => s.ingress (fun s p k r t => s.terminate p k r t) port.val t chk pick.val)

/-! ### The sideband (R494, R495) -/

/-- Answer the sideband. -/
def State.side (s : State) (code : Nat) (d : List Byte) : State := s.emit (.answer .sideband code d)

/-- May the endpoint serve a read of this offset while it is shut: only GLB and GSV (R495)? -/
def shutRead (off : Nat) : Bool :=
  match slotOf off with
  | some (0, _) | some (2, _) => true
  | _ => false

/-- A REG_READ that the security station serves in the safe state: the gate answers, and nothing is logged or changed. -/
def State.sealedRead (s : State) (off len : Nat) : State :=
  let so := (slotOf off).getD (255, 0)
  if off % len ≠ 0 then s.side 0x01 []
  else match s.gateRefused (s.gateBankOf (s.checkStn .sideband)) so.1 .o 0 so.2 len with
    | some _ => s.side 0x80 []
    | none => s.side 0 (leBytes len (s.readAt off len).2)

/-- REG_READ (R494, R495). -/
def execRegRead (off : W32) (len : Fin 256) (s : State) : Host.Outcome State Fault Refusal :=
  .next (
    if s.endpointShut ∧ shutRead off.toNat = false then s.side 0x81 []
    else if len.val ≠ 4 ∧ len.val ≠ 8 then s.side 0x01 []
    else if s.sealed then s.sealedRead off.toNat len.val
    else
      let r := s.busRead .sideband true off.toNat len.val
      r.1.side r.2.1.code r.2.2)

/-- REG_WRITE (R494, R495). -/
def execRegWrite (off : W32) (len : Fin 256) (v : W64) (s : State) : Host.Outcome State Fault Refusal :=
  .next (
    if s.endpointShut then s.side 0x81 []
    else if len.val ≠ 4 ∧ len.val ≠ 8 then s.side 0x01 []
    else
      let r := s.busWrite .sideband true off.toNat len.val v
      r.1.side r.2.code [])

/-- The response data of JNL_READ: the number of entries, then the entries in SEQ order; 0 if the first is not on die. -/
def State.jnlData (s : State) (first count : Nat) : List Byte :=
  if s.journal.any (fun e => e.seq == first) then
    let l := s.journal.filter (fun e => decide (first ≤ e.seq) && decide (e.seq < first + count))
    leBytes 1 l.length ++ l.flatMap (fun e => e.bytes 0)
  else [0]

/-- JNL_READ (R494): served in the safe state and in a management restart too (R495). -/
def execJnlRead (first : W64) (count : Fin 256) (s : State) : Host.Outcome State Fault Refusal :=
  .next (if 1 ≤ count.val ∧ count.val ≤ 7 then s.side 0 (s.jnlData first.toNat count.val) else s.side 0x01 [])

/-! ### The relay (R338) -/

/-- What a relay request does on the device that it names. -/
def State.relayDo (s : State) (r : RelayReq) (env : McrEnv) : State :=
  match r with
  | .mcr e => s.submit (jobOf 3 0 e env)
  | .read off len =>
    if s.restarting then s.emit (.answer .relay 0x81 [])
    else let r := s.busRead .relay true off len; r.1.emit (.answer .relay r.2.1.code r.2.2)
  | .write off len v =>
    if s.restarting then s.emit (.answer .relay 0x81 [])
    else let r := s.busWrite .relay true off len v; r.1.emit (.answer .relay r.2.code [])
  | .stage id c => s.fabStage id c
  | .number j n => if s.devNum = 0x3F then s.takeNumber n else s.when (s.tkOn j) (·.emit (.fab 0x3F (.relay (.number j n))))
  | .unbindAsk dev v sl g =>
    if s.acting then
      s.txnStart { chg := [(dev, .unbind v sl), (g / 256, .runbind (g % 256))] ++ s.fab.devs.map (fun d => (d, .rwinClear g)), devs := s.fab.devs, sets := [0, 1] }
    else s

/-- RELAY_REQUEST (R338): a request that arrives on trunk `j` with the highest MGR_EPOCH seen is accepted; one for another device goes on by its route. -/
def execRelayRequest (j : Fin 18) (epoch : W32) (dst : BitVec 14) (r : RelayReq) (env : McrEnv) (s : State) : Host.Outcome State Fault Refusal :=
  s.live (fun s =>
    if s.get F.FAB_DEV_ROLE [] = 0 ∨ s.tkOn j.val = false ∨ dst.toNat % 256 ≠ 0xFF then s
    else if dst.toNat / 256 ≠ s.devNum then (if dst.toNat / 256 < 33 ∧ s.reachesDev (dst.toNat / 256) then s.tellDev (dst.toNat / 256) (.relay r) else s)
    else if epoch.toNat < s.get F.FAB_DEV_MGR_EPOCH [] then s
    else (s.mgrEpoch epoch.toNat (s.get F.FAB_DEV_MGR [])).relayDo r env)

end Sys2Proof.Machine
end

