-- ==== Sys2Proof/Machine/Dispatch.lean ====
section
/-!
DEFINITION. The dispatch of commands: one arm for each command, each a direct call of the command's meaning.
-/

namespace Sys2Proof.Machine

/-- The effect of a command on everything but the queue. -/
def exec (i : Instr) (s : State) : Host.Outcome State Fault Refusal :=
  match i with
  | .registerWrite who off size v => Sys2Proof.Machine.execRegisterWrite who off size v s
  | .bar0UnmappedAccess who off size write plain => Sys2Proof.Machine.execBar0UnmappedAccess who off size write plain s
  | .tlpReceived port t chk pick => Sys2Proof.Machine.execTlpReceived port t chk pick s
  | .npRequestResume n pick => Sys2Proof.Machine.execNpRequestResume n pick s
  | .tagWaitTimeout n => Sys2Proof.Machine.execTagWaitTimeout n s
  | .flitHop r b out err => Sys2Proof.Machine.execFlitHop r b out err s
  | .creditReturn r b out vc => Sys2Proof.Machine.execCreditReturn r b out vc s
  | .starveLimit r b out inp vc => Sys2Proof.Machine.execStarveLimit r b out inp vc s
  | .keepalive r d => Sys2Proof.Machine.execKeepalive r d s
  | .handshakeTimeout r d => Sys2Proof.Machine.execHandshakeTimeout r d s
  | .packetEjected r => Sys2Proof.Machine.execPacketEjected r s
  | .resendRequest x => Sys2Proof.Machine.execResendRequest x s
  | .tailConfirmation x => Sys2Proof.Machine.execTailConfirmation x s
  | .shaperGrant x => Sys2Proof.Machine.execShaperGrant x s
  | .flowControlUpdate port ty hdr dat => Sys2Proof.Machine.execFlowControlUpdate port ty hdr dat s
  | .egressUnderrun port => Sys2Proof.Machine.execEgressUnderrun port s
  | .bufferUe src egress sc seq => Sys2Proof.Machine.execBufferUe src egress sc seq s
  | .gapTimeout src egress sc => Sys2Proof.Machine.execGapTimeout src egress sc s
  | .swapMessage x => Sys2Proof.Machine.execSwapMessage x s
  | .swapComplete => Sys2Proof.Machine.execSwapComplete s
  | .drainComplete => Sys2Proof.Machine.execDrainComplete s
  | .tagLeaseRequest t => Sys2Proof.Machine.execTagLeaseRequest t s
  | .tagLeaseGrant x => Sys2Proof.Machine.execTagLeaseGrant x s
  | .tagLeaseReturn x egress => Sys2Proof.Machine.execTagLeaseReturn x egress s
  | .completionTimeout x trk => Sys2Proof.Machine.execCompletionTimeout x trk s
  | .expiryMessage t => Sys2Proof.Machine.execExpiryMessage t s
  | .quarantineEnd port tag => Sys2Proof.Machine.execQuarantineEnd port tag s
  | .egressStall port => Sys2Proof.Machine.execEgressStall port s
  | .containmentRelease vdsp => Sys2Proof.Machine.execContainmentRelease vdsp s
  | .trackerEntryUe x trk => Sys2Proof.Machine.execTrackerEntryUe x trk s
  | .trackerLossMessage t => Sys2Proof.Machine.execTrackerLossMessage t s
  | .ptCutWrite who t v => Sys2Proof.Machine.execPtCutWrite who t v s
  | .laneReady t => Sys2Proof.Machine.execLaneReady t s
  | .ppCtlWrite who port v => Sys2Proof.Machine.execPpCtlWrite who port v s
  | .retrain who port => Sys2Proof.Machine.execRetrain who port s
  | .linkUp port rate width flit rev scaled inv => Sys2Proof.Machine.execLinkUp port rate width flit rev scaled inv s
  | .trainingRetry port => Sys2Proof.Machine.execTrainingRetry port s
  | .equalizationPhase t k done pre post score answers => Sys2Proof.Machine.execEqualizationPhase t k done pre post score answers s
  | .txeqRequest t k pre main post => Sys2Proof.Machine.execTxeqRequest t k pre main post s
  | .eqFail port => Sys2Proof.Machine.execEqFail port s
  | .laneTrainFail t k => Sys2Proof.Machine.execLaneTrainFail t k s
  | .linkDown port => Sys2Proof.Machine.execLinkDown port s
  | .l1IdleTimeout port => Sys2Proof.Machine.execL1IdleTimeout port s
  | .l1EntryRequest port => Sys2Proof.Machine.execL1EntryRequest port s
  | .l1Exit port => Sys2Proof.Machine.execL1Exit port s
  | .l0pWindow port pct => Sys2Proof.Machine.execL0pWindow port pct s
  | .l0pPartnerRequest port width => Sys2Proof.Machine.execL0pPartnerRequest port width s
  | .ltrReceived port ns => Sys2Proof.Machine.execLtrReceived port ns s
  | .perstInAssert n => Sys2Proof.Machine.execPerstInAssert n s
  | .perstInDeassert n => Sys2Proof.Machine.execPerstInDeassert n s
  | .hotResetReceived port => Sys2Proof.Machine.execHotResetReceived port s
  | .secondaryBusReset vs => Sys2Proof.Machine.execSecondaryBusReset vs s
  | .vdspSecondaryBusReset vs slot => Sys2Proof.Machine.execVdspSecondaryBusReset vs slot s
  | .perstOutHoldExpiry port => Sys2Proof.Machine.execPerstOutHoldExpiry port s
  | .ideKmMessage port slot ok => Sys2Proof.Machine.execIdeKmMessage port slot ok s
  | .keySetGo port slot => Sys2Proof.Machine.execKeySetGo port slot s
  | .ideIntegrityFail port => Sys2Proof.Machine.execIdeIntegrityFail port s
  | .nop cx => Sys2Proof.Machine.execNop cx s
  | .bankReset cx set => Sys2Proof.Machine.execBankReset cx set s
  | .vsCreate cx vs port slots => Sys2Proof.Machine.execVsCreate cx vs port slots s
  | .vsDelete cx vs => Sys2Proof.Machine.execVsDelete cx vs s
  | .vsTcmap cx vs map => Sys2Proof.Machine.execVsTcmap cx vs map s
  | .vdspBind cx vs slot port => Sys2Proof.Machine.execVdspBind cx vs slot port s
  | .vdspBindGroup cx vs slot mem => Sys2Proof.Machine.execVdspBindGroup cx vs slot mem s
  | .vdspBindRemote cx vs slot gpid up => Sys2Proof.Machine.execVdspBindRemote cx vs slot gpid up s
  | .vdspUnbindOrderly cx vs slot wait => Sys2Proof.Machine.execVdspUnbindOrderly cx vs slot wait s
  | .vdspUnbindForced cx vs slot => Sys2Proof.Machine.execVdspUnbindForced cx vs slot s
  | .unbindWaitTimeout vs slot => Sys2Proof.Machine.execUnbindWaitTimeout vs slot s
  | .vdspErrcfg cx vs slot synth => Sys2Proof.Machine.execVdspErrcfg cx vs slot synth s
  | .bindRead cx vs slot buf ok => Sys2Proof.Machine.execBindRead cx vs slot buf ok s
  | .sharedPortSet cx port buses mps mrrs base limit nvf fns => Sys2Proof.Machine.execSharedPortSet cx port buses mps mrrs base limit nvf fns s
  | .sharedPortClr cx port => Sys2Proof.Machine.execSharedPortClr cx port s
  | .sharedPortReconfig port => Sys2Proof.Machine.execSharedPortReconfig port s
  | .fnCfgRead cx port rid off be cpl => Sys2Proof.Machine.execFnCfgRead cx port rid off be cpl s
  | .fnCfgWrite cx port rid off be data cpl => Sys2Proof.Machine.execFnCfgWrite cx port rid off be data cpl s
  | .dmVfSet cx vs count => Sys2Proof.Machine.execDmVfSet cx vs count s
  | .winWrite cx bank port entry flags base limit mask dst => Sys2Proof.Machine.execWinWrite cx bank port entry flags base limit mask dst s
  | .winSwap cx => Sys2Proof.Machine.execWinSwap cx s
  | .gateWrite cx bank slot part en v o t base limit => Sys2Proof.Machine.execGateWrite cx bank slot part en v o t base limit s
  | .gateSwap cx => Sys2Proof.Machine.execGateSwap cx s
  | .reachSet cx entry kind flags src tvs tinst base limit => Sys2Proof.Machine.execReachSet cx entry kind flags src tvs tinst base limit s
  | .reachClear cx entry => Sys2Proof.Machine.execReachClear cx entry s
  | .reachClearDone entry => Sys2Proof.Machine.execReachClearDone entry s
  | .progLoad cx slot addr len mask img => Sys2Proof.Machine.execProgLoad cx slot addr len mask img s
  | .progUnload cx slot => Sys2Proof.Machine.execProgUnload cx slot s
  | .shapeSet cx ix cfg lim => Sys2Proof.Machine.execShapeSet cx ix cfg lim s
  | .ideKeyStart cx port ok => Sys2Proof.Machine.execIdeKeyStart cx port ok s
  | .ideKeyNew cx port ok => Sys2Proof.Machine.execIdeKeyNew cx port ok s
  | .ideKeyStop cx port => Sys2Proof.Machine.execIdeKeyStop cx port s
  | .statsSnap cx group first count buf ok => Sys2Proof.Machine.execStatsSnap cx group first count buf ok s
  | .jnlMirror cx size en base db => Sys2Proof.Machine.execJnlMirror cx size en base db s
  | .keyFuse cx slot addr key ok => Sys2Proof.Machine.execKeyFuse cx slot addr key ok s
  | .keyRevoke cx kind slot => Sys2Proof.Machine.execKeyRevoke cx kind slot s
  | .svnCommit cx kind svn => Sys2Proof.Machine.execSvnCommit cx kind svn s
  | .mgmtRestart cx => Sys2Proof.Machine.execMgmtRestart cx s
  | .powerControllerWrite vs slot off => Sys2Proof.Machine.execPowerControllerWrite vs slot off s
  | .linkDisableWrite vs slot dis => Sys2Proof.Machine.execLinkDisableWrite vs slot dis s
  | .retrainLinkWrite vs slot => Sys2Proof.Machine.execRetrainLinkWrite vs slot s
  | .dpcSoftwareTrigger vs slot => Sys2Proof.Machine.execDpcSoftwareTrigger vs slot s
  | .dpcTriggerStatusClear vs slot => Sys2Proof.Machine.execDpcTriggerStatusClear vs slot s
  | .hostRoutingWrite port fn t => Sys2Proof.Machine.execHostRoutingWrite port fn t s
  | .memberConfigRequest port vs slot f t pick => Sys2Proof.Machine.execMemberConfigRequest port vs slot f t pick s
  | .memberFlr vs slot f => Sys2Proof.Machine.execMemberFlr vs slot f s
  | .ptBufCfgWrite who port v => Sys2Proof.Machine.execPtBufCfgWrite who port v s
  | .lnCtlWrite who t k v => Sys2Proof.Machine.execLnCtlWrite who t k v s
  | .lnPatWrite who t k v => Sys2Proof.Machine.execLnPatWrite who t k v s
  | .injOne who t k => Sys2Proof.Machine.execInjOne who t k s
  | .periodicInjection t k => Sys2Proof.Machine.execPeriodicInjection t k s
  | .chkLock t k => Sys2Proof.Machine.execChkLock t k s
  | .lockLoss t k bits errs => Sys2Proof.Machine.execLockLoss t k bits errs s
  | .marginCommand t k on time volt => Sys2Proof.Machine.execMarginCommand t k on time volt s
  | .eyeSampleStart who t k v => Sys2Proof.Machine.execEyeSampleStart who t k v s
  | .eyeStartAfterEq t k => Sys2Proof.Machine.execEyeStartAfterEq t k s
  | .eyeSampleDone t k errs => Sys2Proof.Machine.execEyeSampleDone t k errs s
  | .laneMarkerReceived t k lane width dev portNo good => Sys2Proof.Machine.execLaneMarkerReceived t k lane width dev portNo good s
  | .dozeIdleTimeout port => Sys2Proof.Machine.execDozeIdleTimeout port s
  | .dozeMarker port reply => Sys2Proof.Machine.execDozeMarker port reply s
  | .wakeBurst port mine => Sys2Proof.Machine.execWakeBurst port mine s
  | .dozeMaxTime port => Sys2Proof.Machine.execDozeMaxTime port s
  | .shortRetrainDone port => Sys2Proof.Machine.execShortRetrainDone port s
  | .kfpFlitReceived port good badType => Sys2Proof.Machine.execKfpFlitReceived port good badType s
  | .kfpDataPacket port k pick => Sys2Proof.Machine.execKfpDataPacket port k pick s
  | .kfpAck port cum xoff => Sys2Proof.Machine.execKfpAck port cum xoff s
  | .kfpNak port cum mem vals => Sys2Proof.Machine.execKfpNak port cum mem vals s
  | .kfpFc port xoff => Sys2Proof.Machine.execKfpFc port xoff s
  | .kfpEcho port sc gpid count => Sys2Proof.Machine.execKfpEcho port sc gpid count s
  | .kfpHello port h => Sys2Proof.Machine.execKfpHello port h s
  | .helloRepeat port => Sys2Proof.Machine.execHelloRepeat port s
  | .kfpJoinAccept port => Sys2Proof.Machine.execKfpJoinAccept port s
  | .kfpJoinRequest port => Sys2Proof.Machine.execKfpJoinRequest port s
  | .kfpJoinLeave port mem => Sys2Proof.Machine.execKfpJoinLeave port mem s
  | .memberLeave port => Sys2Proof.Machine.execMemberLeave port s
  | .resendTimeout j tseq => Sys2Proof.Machine.execResendTimeout j tseq s
  | .ackIdleTimeout j => Sys2Proof.Machine.execAckIdleTimeout j s
  | .trunkLost j => Sys2Proof.Machine.execTrunkLost j s
  | .fabTrkFcWrite who j v => Sys2Proof.Machine.execFabTrkFcWrite who j v s
  | .fabTrkCfgWrite who j v => Sys2Proof.Machine.execFabTrkCfgWrite who j v s
  | .deviceDiscovery dev j pj role tab links => Sys2Proof.Machine.execDeviceDiscovery dev j pj role tab links s
  | .relayRequest j epoch dst r env => Sys2Proof.Machine.execRelayRequest j epoch dst r env s
  | .deviceNumberWrite num => Sys2Proof.Machine.execDeviceNumberWrite num s
  | .fabricPrepare id sets => Sys2Proof.Machine.execFabricPrepare id sets s
  | .prepareTimeout => Sys2Proof.Machine.execPrepareTimeout s
  | .fabricCommit id time => Sys2Proof.Machine.execFabricCommit id time s
  | .commitTimeReached => Sys2Proof.Machine.execCommitTimeReached s
  | .fabricAbort id => Sys2Proof.Machine.execFabricAbort id s
  | .txnResend => Sys2Proof.Machine.execTxnResend s
  | .preparedTimeout => Sys2Proof.Machine.execPreparedTimeout s
  | .timeSyncExchange t1 t2 t3 t4 => Sys2Proof.Machine.execTimeSyncExchange t1 t2 t3 t4 s
  | .portControlMessage src port act => Sys2Proof.Machine.execPortControlMessage src port act s
  | .linkReport gpid up rate width => Sys2Proof.Machine.execLinkReport gpid up rate width s
  | .heartbeat links => Sys2Proof.Machine.execHeartbeat links s
  | .standbyUpdate u => Sys2Proof.Machine.execStandbyUpdate u s
  | .standbyAckTimeout => Sys2Proof.Machine.execStandbyAckTimeout s
  | .heartbeatLoss heard committed => Sys2Proof.Machine.execHeartbeatLoss heard committed s
  | .mgrEpochMessage epoch num => Sys2Proof.Machine.execMgrEpochMessage epoch num s
  | .nudge ins off => Sys2Proof.Machine.execNudge ins off s
  | .pollTimer ins q => Sys2Proof.Machine.execPollTimer ins q s
  | .cqWaitPoll ins q => Sys2Proof.Machine.execCqWaitPoll ins q s
  | .doorbellReadDone ins q got => Sys2Proof.Machine.execDoorbellReadDone ins q got s
  | .descriptorReadDone ins q got => Sys2Proof.Machine.execDescriptorReadDone ins q got s
  | .dmAcceptWrite ins v => Sys2Proof.Machine.execDmAcceptWrite ins v s
  | .qpCfgWrite ins q r v => Sys2Proof.Machine.execQpCfgWrite ins q r v s
  | .qpEnable ins q => Sys2Proof.Machine.execQpEnable ins q s
  | .qpDisable ins q => Sys2Proof.Machine.execQpDisable ins q s
  | .qpIrqWrite ins q v => Sys2Proof.Machine.execQpIrqWrite ins q v s
  | .irqModerationTick ins q => Sys2Proof.Machine.execIrqModerationTick ins q s
  | .rxCfgWrite ins r v => Sys2Proof.Machine.execRxCfgWrite ins r v s
  | .servingClusterMove ins => Sys2Proof.Machine.execServingClusterMove ins s
  | .flushReadDone x ok => Sys2Proof.Machine.execFlushReadDone x ok s
  | .ledgerWriteAck x chk => Sys2Proof.Machine.execLedgerWriteAck x chk s
  | .ledgerSliceFailed k => Sys2Proof.Machine.execLedgerSliceFailed k s
  | .ledgerEntryMove x readable => Sys2Proof.Machine.execLedgerEntryMove x readable s
  | .schedulingEpoch => Sys2Proof.Machine.execSchedulingEpoch s
  | .chunkAssign x t got => Sys2Proof.Machine.execChunkAssign x t got s
  | .chunkCommit x c got => Sys2Proof.Machine.execChunkCommit x c got s
  | .descriptorRereadDone x got lst => Sys2Proof.Machine.execDescriptorRereadDone x got lst s
  | .entryRetire x => Sys2Proof.Machine.execEntryRetire x s
  | .atomicCompletion x ok v => Sys2Proof.Machine.execAtomicCompletion x ok v s
  | .ringReservationRequest x => Sys2Proof.Machine.execRingReservationRequest x s
  | .ringReservationAnswer x => Sys2Proof.Machine.execRingReservationAnswer x s
  | .instanceFlr ins => Sys2Proof.Machine.execInstanceFlr ins s
  | .flrComplete ins => Sys2Proof.Machine.execFlrComplete ins s
  | .dlSelWrite ins v => Sys2Proof.Machine.execDlSelWrite ins v s
  | .dlCfgWrite ins r v => Sys2Proof.Machine.execDlCfgWrite ins r v s
  | .dlLogEn ins on => Sys2Proof.Machine.execDlLogEn ins on s
  | .dlQuiesce ins on => Sys2Proof.Machine.execDlQuiesce ins on s
  | .dlFlush ins => Sys2Proof.Machine.execDlFlush ins s
  | .mAdd m => Sys2Proof.Machine.execMAdd m s
  | .mSub m => Sys2Proof.Machine.execMSub m s
  | .mAnd m => Sys2Proof.Machine.execMAnd m s
  | .mOr m => Sys2Proof.Machine.execMOr m s
  | .mXor m => Sys2Proof.Machine.execMXor m s
  | .mSll m => Sys2Proof.Machine.execMSll m s
  | .mSrl m => Sys2Proof.Machine.execMSrl m s
  | .mSra m => Sys2Proof.Machine.execMSra m s
  | .mRotr m => Sys2Proof.Machine.execMRotr m s
  | .mSlt m => Sys2Proof.Machine.execMSlt m s
  | .mSltu m => Sys2Proof.Machine.execMSltu m s
  | .mMul m => Sys2Proof.Machine.execMMul m s
  | .mMulhu m => Sys2Proof.Machine.execMMulhu m s
  | .mMinu m => Sys2Proof.Machine.execMMinu m s
  | .mMaxu m => Sys2Proof.Machine.execMMaxu m s
  | .mClz m => Sys2Proof.Machine.execMClz m s
  | .mPopc m => Sys2Proof.Machine.execMPopc m s
  | .mBswap m => Sys2Proof.Machine.execMBswap m s
  | .mCrc m => Sys2Proof.Machine.execMCrc m s
  | .mAddi m => Sys2Proof.Machine.execMAddi m s
  | .mAndi m => Sys2Proof.Machine.execMAndi m s
  | .mOri m => Sys2Proof.Machine.execMOri m s
  | .mXori m => Sys2Proof.Machine.execMXori m s
  | .mShi m => Sys2Proof.Machine.execMShi m s
  | .mLih m => Sys2Proof.Machine.execMLih m s
  | .mSlti m => Sys2Proof.Machine.execMSlti m s
  | .mLd8u m => Sys2Proof.Machine.execMLd8u m s
  | .mLd16u m => Sys2Proof.Machine.execMLd16u m s
  | .mLd32u m => Sys2Proof.Machine.execMLd32u m s
  | .mLd64 m => Sys2Proof.Machine.execMLd64 m s
  | .mSt8 m => Sys2Proof.Machine.execMSt8 m s
  | .mSt16 m => Sys2Proof.Machine.execMSt16 m s
  | .mSt32 m => Sys2Proof.Machine.execMSt32 m s
  | .mSt64 m => Sys2Proof.Machine.execMSt64 m s
  | .mBeq m => Sys2Proof.Machine.execMBeq m s
  | .mBne m => Sys2Proof.Machine.execMBne m s
  | .mBlt m => Sys2Proof.Machine.execMBlt m s
  | .mBge m => Sys2Proof.Machine.execMBge m s
  | .mBltu m => Sys2Proof.Machine.execMBltu m s
  | .mBgeu m => Sys2Proof.Machine.execMBgeu m s
  | .mJal m => Sys2Proof.Machine.execMJal m s
  | .mJalr m => Sys2Proof.Machine.execMJalr m s
  | .mSrdS m => Sys2Proof.Machine.execMSrdS m s
  | .mSrdD m => Sys2Proof.Machine.execMSrdD m s
  | .mSwrD m => Sys2Proof.Machine.execMSwrD m s
  | .mSput m => Sys2Proof.Machine.execMSput m s
  | .mSwait m => Sys2Proof.Machine.execMSwait m s
  | .mStreamLanded t wr n got err => Sys2Proof.Machine.execMStreamLanded t wr n got err s
  | .mStep m => Sys2Proof.Machine.execMStep m s
  | .mEnd m => Sys2Proof.Machine.execMEnd m s
  | .mAbort m => Sys2Proof.Machine.execMAbort m s
  | .mTime m => Sys2Proof.Machine.execMTime m s
  | .runLimitExceeded t => Sys2Proof.Machine.execRunLimitExceeded t s
  | .muleMemoryUe k m => Sys2Proof.Machine.execMuleMemoryUe k m s
  | .muleFirmwareUpdate k ok => Sys2Proof.Machine.execMuleFirmwareUpdate k ok s
  | .clusterDrainTimeout k => Sys2Proof.Machine.execClusterDrainTimeout k s
  | .clusterIsolate who k => Sys2Proof.Machine.execClusterIsolate who k s
  | .mclMemDataAccess who k wr v => Sys2Proof.Machine.execMclMemDataAccess who k wr v s
  | .congestionEcho x => Sys2Proof.Machine.execCongestionEcho x s
  | .shaperRecoveryTick x => Sys2Proof.Machine.execShaperRecoveryTick x s
  | .shaperMeasWindow x => Sys2Proof.Machine.execShaperMeasWindow x s
  | .ptSchedWrite who port v => Sys2Proof.Machine.execPtSchedWrite who port v s
  | .errStatWrite who x v => Sys2Proof.Machine.execErrStatWrite who x v s
  | .errMaskWrite who x v => Sys2Proof.Machine.execErrMaskWrite who x v s
  | .errorRegisterScan bad => Sys2Proof.Machine.execErrorRegisterScan bad s
  | .leakyCount blk n u entry => Sys2Proof.Machine.execLeakyCount blk n u entry s
  | .leakTick blk n u => Sys2Proof.Machine.execLeakTick blk n u s
  | .lkCfgWrite who blk n u v => Sys2Proof.Machine.execLkCfgWrite who blk n u v s
  | .linkDeclaredFailed r d => Sys2Proof.Machine.execLinkDeclaredFailed r d s
  | .routerDeclaredFailed r => Sys2Proof.Machine.execRouterDeclaredFailed r s
  | .routerIsolate who r => Sys2Proof.Machine.execRouterIsolate who r s
  | .routerCntClr who r => Sys2Proof.Machine.execRouterCntClr who r s
  | .rtrLock who r => Sys2Proof.Machine.execRtrLock who r s
  | .escTableWrite who r vec bank ix v => Sys2Proof.Machine.execEscTableWrite who r vec bank ix v s
  | .escFreeze who r on => Sys2Proof.Machine.execEscFreeze who r on s
  | .escapeDrained r => Sys2Proof.Machine.execEscapeDrained r s
  | .escSwap who r => Sys2Proof.Machine.execEscSwap who r s
  | .rerouteClear who => Sys2Proof.Machine.execRerouteClear who s
  | .islandFreqWrite who r freq => Sys2Proof.Machine.execIslandFreqWrite who r freq s
  | .islandSettled r meas => Sys2Proof.Machine.execIslandSettled r meas s
  | .freqMeasurementWindow r meas => Sys2Proof.Machine.execFreqMeasurementWindow r meas s
  | .degradedHandling => Sys2Proof.Machine.execDegradedHandling s
  | .degradedHandlingDone => Sys2Proof.Machine.execDegradedHandlingDone s
  | .underVoltage rail => Sys2Proof.Machine.execUnderVoltage rail s
  | .overVoltage rail => Sys2Proof.Machine.execOverVoltage rail s
  | .overTemperature sensor => Sys2Proof.Machine.execOverTemperature sensor s
  | .tempWarn sensor temp => Sys2Proof.Machine.execTempWarn sensor temp s
  | .allTimebasesLost => Sys2Proof.Machine.execAllTimebasesLost s
  | .gooseMismatch => Sys2Proof.Machine.execGooseMismatch s
  | .heartbeatBeat who mask => Sys2Proof.Machine.execHeartbeatBeat who mask s
  | .coreHeartbeatLoss core => Sys2Proof.Machine.execCoreHeartbeatLoss core s
  | .allCoresHeartbeatLoss => Sys2Proof.Machine.execAllCoresHeartbeatLoss s
  | .mcrNudge who rec => Sys2Proof.Machine.execMcrNudge who rec s
  | .mcrPoll rec => Sys2Proof.Machine.execMcrPoll rec s
  | .mcrCommandFetch entry env => Sys2Proof.Machine.execMcrCommandFetch entry env s
  | .mgrMcrCfgWrite who r v => Sys2Proof.Machine.execMgrMcrCfgWrite who r v s
  | .parkedCommandResume n status result => Sys2Proof.Machine.execParkedCommandResume n status result s
  | .journalMirrorCopy => Sys2Proof.Machine.execJournalMirrorCopy s
  | .mirrorDoorbellPoll head => Sys2Proof.Machine.execMirrorDoorbellPoll head s
  | .mcrSubmit mctp src entry env => Sys2Proof.Machine.execMcrSubmit mctp src entry env s
  | .regRead off len => Sys2Proof.Machine.execRegRead off len s
  | .regWrite off len v => Sys2Proof.Machine.execRegWrite off len v s
  | .jnlRead first count => Sys2Proof.Machine.execJnlRead first count s
  | .setEndpointId eid => Sys2Proof.Machine.execSetEndpointId eid s
  | .spdmRequest q => Sys2Proof.Machine.execSpdmRequest q s
  | .requestUpdate comp => Sys2Proof.Machine.execRequestUpdate comp s
  | .firmwareTransferDone data => Sys2Proof.Machine.execFirmwareTransferDone data s
  | .activateFirmware => Sys2Proof.Machine.execActivateFirmware s
  | .activationTimeout => Sys2Proof.Machine.execActivationTimeout s
  | .managementRestart => Sys2Proof.Machine.execManagementRestart s
  | .mgmtRestartUp => Sys2Proof.Machine.execMgmtRestartUp s
  | .bootRom bc readErr => Sys2Proof.Machine.execBootRom bc readErr s
  | .timebaseSourceLost src => Sys2Proof.Machine.execTimebaseSourceLost src s
  | .sourceReady src offset => Sys2Proof.Machine.execSourceReady src offset s
  | .timebaseSwitch who v => Sys2Proof.Machine.execTimebaseSwitch who v s
  | .timebaseSwitchDone => Sys2Proof.Machine.execTimebaseSwitchDone s
  | .tileRefWrite who t v => Sys2Proof.Machine.execTileRefWrite who t v s
  | .refoutWrite who n v => Sys2Proof.Machine.execRefoutWrite who n v s
  | .clkenWrite who w v => Sys2Proof.Machine.execClkenWrite who w v s
  | .pdOn who d off => Sys2Proof.Machine.execPdOn who d off s
  | .pdOff who d => Sys2Proof.Machine.execPdOff who d s
  | .pdEntryDrainTimeout d => Sys2Proof.Machine.execPdEntryDrainTimeout d s
  | .pdExitDone d ok => Sys2Proof.Machine.execPdExitDone d ok s
  | .powerOnReset => Sys2Proof.Machine.execPowerOnReset s
  | .pwrOkRise straps => Sys2Proof.Machine.execPwrOkRise straps s
  | .pwrOkFall => Sys2Proof.Machine.execPwrOkFall s
  | .oscWaitExpiry => Sys2Proof.Machine.execOscWaitExpiry s
  | .sourceWaitTimeout => Sys2Proof.Machine.execSourceWaitTimeout s
  | .pllLocked => Sys2Proof.Machine.execPllLocked s
  | .coldReset => Sys2Proof.Machine.execColdReset s
  | .warmReset who => Sys2Proof.Machine.execWarmReset who s
  | .ptCntClr who t v => Sys2Proof.Machine.execPtCntClr who t v s
  | .mclCntClr who k v => Sys2Proof.Machine.execMclCntClr who k v s
  | .fabCntClr who v => Sys2Proof.Machine.execFabCntClr who v s
  | .pmgCntClr who v => Sys2Proof.Machine.execPmgCntClr who v s
  | .bwWindowEnd port => Sys2Proof.Machine.execBwWindowEnd port s
  | .bwCfgWrite who port v => Sys2Proof.Machine.execBwCfgWrite who port v s
  | .preciseSample m => Sys2Proof.Machine.execPreciseSample m s
  | .skidSample => Sys2Proof.Machine.execSkidSample s
  | .sampleDoorbellRead ok head => Sys2Proof.Machine.execSampleDoorbellRead ok head s
  | .smpCfgWrite who off v => Sys2Proof.Machine.execSmpCfgWrite who off v s
  | .vddAonBelowResetThreshold => Sys2Proof.Machine.execVddAonBelowResetThreshold s
  | .resetNRise straps => Sys2Proof.Machine.execResetNRise straps s
  | .clkreqNChange port high l12 => Sys2Proof.Machine.execClkreqNChange port high l12 s
  | .loopbackEntry port => Sys2Proof.Machine.execLoopbackEntry port s
  | .loopbackExit port => Sys2Proof.Machine.execLoopbackExit port s
  | .prepareAnswer dev id status => Sys2Proof.Machine.execPrepareAnswer dev id status s
  | .commitAcknowledge dev id => Sys2Proof.Machine.execCommitAcknowledge dev id s
  | .standbyAcknowledge => Sys2Proof.Machine.execStandbyAcknowledge s
  | .memberFlrRetryEnd vs slot f => Sys2Proof.Machine.execMemberFlrRetryEnd vs slot f s
  | .rxDoorbellReadDone ins got => Sys2Proof.Machine.execRxDoorbellReadDone ins got s

end Sys2Proof.Machine
end

