-- ==== Sys2Proof/Machine/Step.lean ====
section
/-!
DEFINITION. The step: the command at the front of the queue runs on the state with the queue's rest; on an empty queue a nanosecond passes.
-/

namespace Sys2Proof.Machine

/-- The state with another queue of waiting commands. -/
def State.withPending (s : State) (q : List Instr) : State := { s with pending := q }

/-- What happens when no command waits: the device timebase, once it is locked to a source, advances by 1 ns (a choice of the model, see the
log); in the safe state the timebase in the always-on core runs on, and fabric time stands. -/
def State.idle (s : State) : State :=
  if s.on F.CPW_TB_STAT_LOCKED [] then (if s.sealed then s else s.fabTick).set F.CPW_TIME_TIME [] (s.now + 1) else s

/-- One step. -/
def step (s : State) : Host.Outcome State Fault Refusal :=
  match s.pending with
  | [] => .next s.idle
  | c :: q => exec c (s.withPending q)

/-- The state with the command that a table word spells in front of its queue; unchanged where the word spells none. -/
def State.withFetchWord (s : State) (nbits w : Nat) : State :=
  match decodeTableWord nbits w with
  | some c => s.withPending (c :: s.pending)
  | none => s

end Sys2Proof.Machine
end

