-- ==== Sys2Proof/Safety.lean ====
section
/-!
DEFINITION. The terms in which the statements speak: a command that completes with a property of the next state, an access that the gates and
clocks permit, an event that is raised, what a command leaves alone, memories in canonical form, and a device that is latched in the safe
state.
-/

namespace Sys2Proof.Machine

/-- The command completes, and the next state has the property. -/
def Runs (c : Instr) (s : State) (P : State → Prop) : Prop := ∃ t, exec c s = .next t ∧ P t

/-- The device is outside the safe state, the gate permits every byte of the access to the register, and the clock enable of the register's
block is 1 (R234, R468, R518). -/
abbrev State.granted (s : State) (who : Init) (write : Bool) (r : Reg) (size : Nat) : Prop :=
  s.sealed = false ∧
  s.gateRefused (s.gateBankOf (s.checkStn who)) r.slotOff.1 (s.levelOf who) (bit write) r.slotOff.2 size = none ∧
  s.clkEn r.slotOff.1 = true

/-- From `s` to `t`, the event of bit `b` of a triple is raised: ERR_STAT holds it, and ERR_INT is ERR_STAT masked by ERR_MASK (R452). -/
abbrev State.raises (s t : State) (x : Trip) (b : Nat) : Prop :=
  t.rd x.stat = s.rd x.stat ||| BitVec.ofNat 64 (2 ^ b) ∧ t.rd x.int = t.rd x.stat &&& ~~~(s.rd x.mask)

/-- A port can send a completion of `n` data credits at once: SC0 has nothing queued, its shaper does not meter, and the partner has given credit (R448). -/
abbrev State.canAnswer (s : State) (p n : Nat) : Prop :=
  s.sq p 0 = [] ∧ s.gq p 0 = [] ∧ s.shEn (4 * p) = false ∧ s.isTrunk p = false ∧ s.inL0 p = true ∧
  1 ≤ (s.fwd.fc.lookD (p, 2) (0, 0)).1 ∧ n ≤ (s.fwd.fc.lookD (p, 2) (0, 0)).2

/-- From `s` to `t`, a counter register counts `n` more, and stays at all-ones (R530, R531). -/
abbrev State.counts (s t : State) (r : Reg) (n : Nat := 1) : Prop := fget (t.rd r) 0 48 = satAdd 48 (fget (s.rd r) 0 48) n

/-- The counter `c` of a port (R532). -/
abbrev portCnt (p c : Nat) : Reg := ⟨.PT_CNT, [p / 4, p % 4, c]⟩

/-- From `s` to `t`, every register keeps its word, but for the listed ones, those of the listed triples, and, where a triple is listed, the pending bits of the
message table. -/
def State.keeps (s t : State) (l : List Reg) (xs : List Trip) : Prop :=
  ∀ r, r ∉ l → (∀ x ∈ xs, r ≠ x.stat ∧ r ≠ x.int ∧ r.n ≠ .MSIX_PBA) → t.rd r = s.rd r

/-- The registers of a kind that the state lists; any other reads its reset value. -/
abbrev State.listed (s : State) (q : Reg → Bool) : List Reg := (s.regs.map (·.1)).filter q

/-- From `s` to `t`, nothing changes but the listed registers, those of the listed triples, and the messages sent or waiting. -/
def State.only (s t : State) (l : List Reg) (xs : List Trip) : Prop :=
  s.keeps t l xs ∧ { t with regs := s.regs, sent := s.sent, msiWait := s.msiWait } = s

/-- Nothing stands in the way of an MCR command on this device from the owner host (0), the sideband (1, 2) or the relay (3): the device is outside the safe
state and no restart, transaction of Prepared state or swap is under way, no command runs, waits or is parked, the ring may fetch, and the endpoint is free. -/
abbrev State.mcrReady (s : State) (cx : McrCx) : Prop :=
  s.sealed = false ∧ s.restarting = false ∧ s.mgr.run = none ∧ s.mgr.queue = [] ∧ s.mgr.parked = [] ∧ s.fwd.swaps = [] ∧
  s.get F.FAB_TXN_STATE [] ≠ 1 ∧ cx.dev = 0x3F ∧ cx.orig ≤ 3 ∧ (cx.orig = 0 → s.mayFetch = true) ∧ (cx.orig = 1 ∨ cx.orig = 2 → s.mgr.subBusy = false)

/-- A response with a status and the command's USER value is among what was sent since `s`, or waits for Bus Master Enable (R481, R495, R574). -/
def State.answered (s t : State) (cx : McrCx) (status : Nat) : Bool :=
  let fits := fun (d : List Byte) => leAt d 4 1 == status && leAt d 0 4 == cx.user % 2 ^ 32
  let new := t.sent.drop s.sent.length
  match cx.orig with
  | 0 => t.mgr.rsps.any (fun r => r.status == status && r.job.cx == cx) || new.any (fun o => match o with
    | .hostWrite .mgmt _ d _ _ _ => d.length == 32 && fits d
    | _ => false)
  | 3 => new.any (fun o => match o with | .answer .relay 0 d => fits d | _ => false)
  | _ => new.any (fun o => match o with | .answer .sideband 0 d => fits d | _ => false)

/-- From `s` to `t`, nothing changes but the listed registers, those of the listed triples, what every MCR command changes (the journal and its SEQ, the ring's
status and response map, the firmware's records), and the messages sent or waiting. -/
def State.mcrOnly (s t : State) (l : List Reg) (xs : List Trip) : Prop :=
  (∀ r, r ∉ l → r.n ∉ [RN.MGR_JNL_SEQ, .MGR_MCR_STAT, .MGR_RSP_DONE, .MSIX_PBA] → (∀ x ∈ xs, r ≠ x.stat ∧ r ≠ x.int) → t.rd r = s.rd r) ∧
  { t with regs := s.regs, mgr := s.mgr, journal := s.journal, sent := s.sent, msiWait := s.msiWait } = s

/-- The change of a command is journaled as it is applied: the newest entry has the next SEQ, kind 0, the originator and the command's 64 bytes (R490, R491). -/
abbrev State.journaled (s t : State) (cx : McrCx) (o : McrOp) : Prop :=
  t.journal.getLast?.map (fun e => (e.seq, e.kind, e.orig, e.body)) = some (s.get F.MGR_JNL_SEQ_SEQ [], 0, cx.orig, entryOf cx o)

/-- Every byte memory of the Mules is in canonical form: the data memories, the instruction memories and the staging memory. -/
abbrev State.memOk (s : State) : Prop := s.mule.dmem.wf = true ∧ s.mule.imem.wf = true ∧ s.mule.stg.wf = true

/-- The safe state is latched (R467, R470): the device is sealed and no loss of VDD_AON waits in the queue. -/
abbrev State.latched (s : State) : Prop := s.sealed = true ∧ Instr.vddAonBelowResetThreshold ∉ s.pending

/-! ### Mules -/

/-- The command of an instruction's mnemonic on a Mule. -/
def muleCmd (m : Fin 64) : Mn → Instr
  | .add => .mAdd m | .sub => .mSub m | .and => .mAnd m | .or => .mOr m | .xor => .mXor m | .sll => .mSll m | .srl => .mSrl m | .sra => .mSra m
  | .rotr => .mRotr m | .slt => .mSlt m | .sltu => .mSltu m | .mul => .mMul m | .mulhu => .mMulhu m | .minu => .mMinu m | .maxu => .mMaxu m
  | .clz => .mClz m | .popc => .mPopc m | .bswap => .mBswap m | .crc => .mCrc m | .addi => .mAddi m | .andi => .mAndi m | .ori => .mOri m
  | .xori => .mXori m | .shi => .mShi m | .lih => .mLih m | .slti => .mSlti m | .ld8u => .mLd8u m | .ld16u => .mLd16u m | .ld32u => .mLd32u m
  | .ld64 => .mLd64 m | .st8 => .mSt8 m | .st16 => .mSt16 m | .st32 => .mSt32 m | .st64 => .mSt64 m | .beq => .mBeq m | .bne => .mBne m
  | .blt => .mBlt m | .bge => .mBge m | .bltu => .mBltu m | .bgeu => .mBgeu m | .jal => .mJal m | .jalr => .mJalr m | .srdS => .mSrdS m
  | .srdD => .mSrdD m | .swrD => .mSwrD m | .sput => .mSput m | .swait => .mSwait m | .step => .mStep m | .end_ => .mEnd m | .abort => .mAbort m
  | .time => .mTime m

/-- Mule `m` is in service, and its next ready thread `t` holds the invocation `h`, outside the safe state (R410). -/
abbrev State.turn (s : State) (m : Fin 64) (t : Nat) (h : Thr) : Prop :=
  s.sealed = false ∧ s.muleIn m.val = true ∧ s.nextThr m.val = some t ∧ s.thr t = some h

/-- Mule `m` issues the instruction `i` of thread `t`, which its fetch finds (R410, R416). -/
abbrev State.issues (s : State) (m : Fin 64) (t : Nat) (h : Thr) (i : MIns) : Prop := s.turn m t h ∧ s.fetch t h = .ok i

/-- A register as a word. -/
abbrev Thr.r (h : Thr) (k : Nat) : W64 := BitVec.ofNat 64 (h.g k)

/-- The immediate of an instruction, sign-extended (R416). -/
abbrev MIns.im (i : MIns) : W64 := (BitVec.ofNat 16 i.imm).signExtend 64

/-- Register `d` takes a word; g0 discards it (R415). -/
abbrev Thr.put (h : Thr) (d : Nat) (v : W64) : Thr := { h with regs := if d = 0 then h.regs else AMap.put h.regs d v.toNat }

/-- The PC goes to a word. -/
abbrev Thr.goto (h : Thr) (v : W64) : Thr := { h with pc := v.toNat }

/-- The PC after the instruction. -/
abbrev Thr.after (h : Thr) : W64 := BitVec.ofNat 64 h.pc + 4

/-- Thread `t` goes on as `h'` and an instruction of Mule `m` retires; MCL_THR shows the new PC, and nothing else changes but the memories and sampling. -/
def State.goesOn (s u : State) (m : Fin 64) (t : Nat) (h' : Thr) : Prop :=
  u.mule.thr = s.mule.thr.put t h' ∧ u.mule.last = s.mule.last.put m.val (t % 4) ∧
  u.rd ⟨.MCL_THR, [t / 16, t % 16]⟩ = fset (s.rd ⟨.MCL_THR, [t / 16, t % 16]⟩) 32 17 (h'.codeBase + h'.pc) ∧
  s.counts u ⟨.MCL_CNT, [m.val / 4, m.val % 4, 0]⟩ ∧ s.keeps u [⟨.MCL_THR, [t / 16, t % 16]⟩, ⟨.MCL_CNT, [m.val / 4, m.val % 4, 0]⟩] [] ∧
  (s.smpOn = false → u.perf = s.perf) ∧ { u with regs := s.regs, mule := s.mule, perf := s.perf } = s

/-- The same, and the memories keep every byte. -/
def State.retires (s u : State) (m : Fin 64) (t : Nat) (h' : Thr) : Prop :=
  s.goesOn u m t h' ∧ u.mule = { s.mule with thr := u.mule.thr, last := u.mule.last }

/-- The same for an instruction that only computes: register `d` takes the value and the PC advances by 4. -/
abbrev State.computes (s u : State) (m : Fin 64) (t : Nat) (h : Thr) (d : Nat) (v : W64) : Prop :=
  s.retires u m t ((h.put d v).goto h.after)

/-- Memory `n` holds the bytes of `l` from `a` on, and every other byte of memory `m`. -/
def stored (m n : Memory) (a : Nat) (l : List Byte) : Prop :=
  ∀ x, memGet n x = if a ≤ x ∧ x < a + l.length then l.getD (x - a) 0 else memGet m x

/-- The local address of a load, a store or a jump through a register. -/
abbrev Thr.ea (h : Thr) (i : MIns) : Nat := (h.r i.a + i.im).toNat

/-- A local access of `n` bytes is permitted: naturally aligned, within the thread's regions, and not refused by the gate (R413, R417). -/
abbrev State.mayAccess (s : State) (t : Nat) (h : Thr) (a n : Nat) (write : Bool) : Prop :=
  a % n = 0 ∧ s.localOk t h a n write = true ∧ s.thrGate t h (bit write) a n = none

/-- The bytes `l` stand at a local place, and every other byte of data and staging memory is unchanged. -/
def State.fills (s u : State) (x : Loc) (l : List Byte) : Prop :=
  match x with
  | .dmem a => stored s.mule.dmem u.mule.dmem a l ∧ u.mule.stg = s.mule.stg
  | .buf b o => stored s.mule.stg u.mule.stg (4096 * b + o) l ∧ u.mule.dmem = s.mule.dmem

/-- The state with more messages sent. -/
abbrev State.sends (s : State) (l : List Out) : State := { s with sent := s.sent ++ l }

/-- A read of a data mover function in requests of at most `m` bytes (R360). -/
def hostReads (fn m addr n tc : Nat) (ns : Bool) : List Out :=
  (List.range ((n + m - 1) / m)).map (fun k => .hostRead (.dmf fn) (addr + m * k) (min m (n - m * k)) tc ns)

/-- A write of a data mover function in requests of at most `m` bytes (R360). -/
def hostWrites (fn m addr : Nat) (data : List Byte) (tc : Nat) (ns ro : Bool) : List Out :=
  (List.range ((data.length + m - 1) / m)).map (fun k => .hostWrite (.dmf fn) (addr + m * k) ((data.drop (m * k)).take m) tc ns ro)

/-- A store of the low `n` bytes of gS at the thread's local address, and nothing else in any memory. -/
def State.stores (s u : State) (m : Fin 64) (t : Nat) (h : Thr) (i : MIns) (n : Nat) : Prop :=
  s.goesOn u m t (h.goto h.after) ∧
  s.fills u (h.locOf t (h.ea i)) (leBytes n (h.g i.d)) ∧
  u.mule = { s.mule with thr := u.mule.thr, last := u.mule.last, dmem := u.mule.dmem, stg := u.mule.stg }

/-- A fault of thread `t` with a cause and an address: the invocation ends with its descriptor's status (unless an earlier failure stands), the event and the counter, the
cluster's log if it is free; nothing of the memories changes (R420, R421). -/
def State.faults (s u : State) (m : Fin 64) (t : Nat) (h : Thr) (cause addr : Nat) : Prop :=
  u.thr t = none ∧ (u.get F.MCL_STAT_THR_BUSY [t / 16]).testBit (t % 16) = false ∧ s.raises u (.mule m) (if cause = 7 then 1 else 0) ∧
  s.counts u ⟨.MCL_CNT, [m.val / 4, m.val % 4, 6]⟩ ∧
  (s.on F.MCL_FAULT_VALID [t / 16] = false → u.rd ⟨.MCL_FAULT_ADDR, [t / 16]⟩ = BitVec.ofNat 64 addr ∧
    u.rd ⟨.MCL_FAULT, [t / 16]⟩ = packW [(0, 4, cause), (4, 4, t % 16), (8, 1, 1), (9, 11, h.inst), (20, 2, h.slot), (32, 17, h.codeBase + h.pc)]) ∧
  (s.on F.MCL_FAULT_VALID [t / 16] = true → u.rd ⟨.MCL_FAULT, [t / 16]⟩ = s.rd ⟨.MCL_FAULT, [t / 16]⟩) ∧
  ((s.led h.idx).state = 2 → (s.led h.idx).status = 0 →
    (u.led h.idx).status = (if cause = 7 then 0x43 else 0x41) ∧ (u.led h.idx).result = (if s.progChunked (s.descOf h.idx) then 4096 * h.c else 0)) ∧
  u.mule = { s.mule with thr := u.mule.thr, last := u.mule.last } ∧
  { u with regs := s.regs, mule := s.mule, dm := s.dm, sent := s.sent, msiWait := s.msiWait } = s

/-! ### Faults, clocks and power -/

/-- A Sealed cause outside the safe state: GSV_SEAL latches the cause, its detail and the time, SAFE is set, both pins are asserted, the Goose's journal entry holds
GSV_SEAL, and nothing else changes (R467). -/
def State.seals (s u : State) (cause detail : Nat) : Prop :=
  u.sealed = true ∧ u.faultN = true ∧ u.safeN = true ∧ u.rd ⟨.GSV_SEAL, []⟩ = packW [(0, 4, cause), (8, 16, detail), (24, 40, s.now / 1000)] ∧
  u.journal.getLast?.map (fun e => (e.seq, e.kind, e.orig, e.body)) = some (s.get F.MGR_JNL_SEQ_SEQ [], 2, 5, padTo 64 (leBytes 8 (u.rd ⟨.GSV_SEAL, []⟩).toNat)) ∧
  s.keeps u [⟨.GSV_SEAL, []⟩, ⟨.GSV_STAT, []⟩, ⟨.MGR_JNL_SEQ, []⟩] [] ∧ { u with regs := s.regs, journal := s.journal, flt := { u.flt with sealAt := s.flt.sealAt } } = s

/-- A further cause in the safe state: within 10 µs of entry it sets MORE, later nothing; the supplies' reading may follow (R467). -/
def State.sealedMore (s u : State) : Prop :=
  u.on F.GSV_SEAL_MORE [] = (s.on F.GSV_SEAL_MORE [] || decide (s.now < s.flt.sealAt + 10000)) ∧ u.get F.GSV_SEAL_CAUSE [] = s.get F.GSV_SEAL_CAUSE [] ∧
  u.sealed = true ∧ s.only u [⟨.GSV_SEAL, []⟩, ⟨.GSV_STAT, []⟩] []

end Sys2Proof.Machine
end

