-- ==== Sys2Proof/Certificates/Slice0/Obligations.lean ====
section
/-!
DEFINITION. The statements for the provers, each with the rules of the spec that it comes from. In the safe state no command acts but the
loss of VDD_AON, and one statement says so; every other statement speaks of a device outside it.
-/

open Sys2Proof Sys2Proof.Machine

/-- For every command and state, the step with the command at the front of the queue is its effect on the state with the queue's rest, and that
effect is always a next state: no command faults or is refused. On an empty queue (the model's choice, assumption 2) the device timebase
advances by 1 ns once it is locked, and stands before; in the safe state nothing else changes. -/
def Obligations.a_step_runs_the_command_in_front : Prop :=
  (∀ (s : State) (c : Instr) (q : List Instr), s.pending = c :: q → step s = exec c { s with pending := q }) ∧
  (∀ (s : State) (c : Instr), ∃ t, exec c s = .next t) ∧
  (∀ (s : State), s.pending = [] → s.on F.CPW_TB_STAT_LOCKED [] = false → step s = .next s) ∧
  (∀ (s : State), s.pending = [] → s.on F.CPW_TB_STAT_LOCKED [] = true → s.sealed = true →
    ∃ t, step s = .next t ∧ t.now = (s.now + 1) % 2 ^ 64 ∧ s.keeps t [⟨.CPW_TIME, []⟩] [] ∧ { t with regs := s.regs } = s) ∧
  (∀ (s : State), s.pending = [] → s.on F.CPW_TB_STAT_LOCKED [] = true → ∃ t, step s = .next t ∧ t.now = (s.now + 1) % 2 ^ 64)

/-- In the state after reset every clock enable is 0 and every domain Off, nothing is sealed or declared failed, the journal is empty with its
SEQ at 0, no event is raised or masked, the timebase is 0 and not locked, PRIO names A, B, the crystal and the recovered clock, no command
ring is enabled, no switch exists, and every memory of the Mules is empty and in canonical form. -/
def Obligations.registers_after_a_power_on_reset : Prop :=
  (∀ w < 8, State.reset.get F.CPW_CLKEN_EN [w] = 0) ∧
  (∀ d < 56, State.reset.get F.CPW_PD_STATE [d] = 0) ∧
  (State.reset.sealed = false ∧ State.reset.flt.failed = [] ∧ State.reset.faultN = false ∧ State.reset.journal = [] ∧ State.reset.get F.MGR_JNL_SEQ_SEQ [] = 0) ∧
  (∀ x ∈ [Trip.gsv, .cpw, .sec, .fab, .pmg, .dmg, .vst, .mgr, .glb, .port 5 0, .tile 3 1, .mule 7, .router 95, .ssl 2, .lsl 7],
    State.reset.rd x.stat = 0 ∧ State.reset.rd x.mask = 0 ∧ State.reset.rd x.int = 0) ∧
  (State.reset.now = 0 ∧ State.reset.on F.CPW_TB_STAT_LOCKED [] = false ∧ prioList (State.reset.get F.CPW_TB_CFG_PRIO []) = [0, 1, 3, 2]) ∧
  (State.reset.on F.MGR_MCR_CFG_EN [] = false ∧ (∀ v < 48, State.reset.get F.VST_STAT_STATE [v] = 0) ∧ (∀ t < 36, State.reset.get F.PT_CUT_CUT [t] = 0)) ∧
  (State.reset.memOk ∧ State.reset.mule.dmem = [] ∧ State.reset.mule.imem = [] ∧ State.reset.mule.stg = [] ∧ State.reset.pending = [])

/-- Outside the safe state, when the highest sensor reads 110 °C or more (two's complement, in degrees), TEMP_WARN is 1 and bit 0 of the GSV
triple is raised; nothing but the reading, the triple and messages changes: no part is declared failed, no counter counts, and the device is
not sealed. -/
def Obligations.temperature_warning : Prop :=
  ∀ (s : State) (sensor : Fin 16) (temp : Fin 256), s.sealed = false → 110 ≤ sext 8 temp.val →
    Runs (.tempWarn sensor temp) s (fun u => u.on F.GSV_STAT_TEMP_WARN [] = true ∧ u.get F.GSV_STAT_TEMP_MAX [] = temp.val ∧ u.get F.GSV_STAT_TEMP_SENSOR [] = sensor.val ∧
      s.raises u .gsv 0 ∧ u.sealed = false ∧ s.only u [⟨.GSV_STAT, []⟩] [.gsv])

/-- A permitted write of CPW_CLKEN changes a bit exactly where the table of R516 lets software change it so, and keeps every other bit as it
was; if a bit that it would change may not change, bit 6 of the CPW triple (CLKEN_REFUSED) is raised, and if none, no event is. Software may
turn PMG on and off, FAB on, and FAB off only while no trunk has EN = 1, and nothing else. -/
def Obligations.clock_enable_writes : Prop :=
  (∀ (s : State) (who : Init) (w : Fin 8) (v : W32), s.granted who true ⟨.CPW_CLKEN, [w.val]⟩ 4 →
    Runs (.clkenWrite who w v) s (fun u =>
      (∀ b < 32, u.clkEn (32 * w.val + b) = if s.clkMay (32 * w.val + b) (v.getLsbD b) = true then v.getLsbD b else s.clkEn (32 * w.val + b)) ∧
      ((∃ b ∈ List.range 32, s.clkMay (32 * w.val + b) (v.getLsbD b) = false ∧ s.clkEn (32 * w.val + b) ≠ v.getLsbD b) → s.raises u .cpw 6) ∧
      ((∀ b ∈ List.range 32, s.clkMay (32 * w.val + b) (v.getLsbD b) = true ∨ s.clkEn (32 * w.val + b) = v.getLsbD b) → s.only u [⟨.CPW_CLKEN, [w.val]⟩] []) ∧
      s.only u [⟨.CPW_CLKEN, [w.val]⟩] [.cpw])) ∧
  (∀ (s : State) (slot : Nat) (on : Bool), s.clkMay slot on = true ↔ slot = 200 ∨ (slot = 5 ∧ (on = true ∨ ∀ j < 18, s.on F.FAB_TRK_CFG_EN [j] = false)))

/-- For every state of a sealed, powered device in whose queue no loss of VDD_AON waits, and every step: the next state is sealed and powered
too, no such command waits in it, and nothing has changed but GSV_SEAL.MORE, GSV_STAT.SUP_OK, the device timebase, the queue, and the
answers sent: every other register, every table, memory, ledger entry and counter, the journal and the pins stay, and CAUSE keeps the first
cause. That the timebase runs on an empty queue is the model's choice (assumption 2). -/
def Obligations.the_safe_state_holds : Prop :=
  ∀ (s t : State), s.latched → s.cpw.aon = true → step s = .next t →
    t.latched ∧ t.cpw.aon = true ∧ t.safeN = true ∧ t.faultN = true ∧ t.get F.GSV_SEAL_CAUSE [] = s.get F.GSV_SEAL_CAUSE [] ∧
    t.get F.GSV_SEAL_DETAIL [] = s.get F.GSV_SEAL_DETAIL [] ∧ t.get F.GSV_SEAL_TIME [] = s.get F.GSV_SEAL_TIME [] ∧
    s.keeps t [⟨.GSV_SEAL, []⟩, ⟨.GSV_STAT, []⟩, ⟨.CPW_TIME, []⟩] [] ∧ { t with regs := s.regs, sent := s.sent, pending := s.pending } = s

/-- For every well-formed Mule instruction, every field at every value its encoding admits, the word has 32 bits and decodes to exactly that
instruction; and every 32-bit word that decodes at all decodes to a well-formed instruction whose word it is: no bit of a word is dropped,
no two instructions share one, and a word with an OP or FN not in the table or with an unused field that is not 0 is illegal. -/
def Obligations.mule_words_decode_to_their_encodings : Prop :=
  (∀ (i : MIns), i.wf = true → mEncode i < 2 ^ 32 ∧ mDecode (mEncode i) = some i) ∧
  (∀ (w : Nat) (i : MIns), w < 2 ^ 32 → mDecode w = some i → i.wf = true ∧ mEncode i = w) ∧
  (∀ (w : Nat), (∀ m ∈ Mn.all, m.hits w = false) → mDecode w = none)

/-- For every Mule, every command on it and every state in which its next ready thread holds an operator program's invocation: after the
command, in whatever way it ends, every byte of instruction memory is unchanged, every byte of data memory outside the 8 KiB scratch of that
thread is unchanged, and every byte of a staging buffer that is taken, and is neither the invocation's staging buffer nor its step buffer,
is unchanged. Every memory stays in canonical form. -/
def Obligations.operator_programs_are_confined : Prop :=
  ∀ (s u : State) (m : Fin 64) (t : Nat) (h : Thr) (mn : Mn), s.turn m t h → h.o = true → exec (muleCmd m mn) s = .next u →
    u.mule.imem = s.mule.imem ∧
    (∀ a, a < 0x80000 * (t / 16) + 0x60000 + 0x2000 * (t % 16) ∨ 0x80000 * (t / 16) + 0x60000 + 0x2000 * (t % 16) + 0x2000 ≤ a →
      memGet u.mule.dmem a = memGet s.mule.dmem a) ∧
    (∀ b k, (s.dm.bufs.look b).isSome = true → h.buf ≠ some b → h.stepBuf ≠ some b → k < 4096 → memGet u.mule.stg (4096 * b + k) = memGet s.mule.stg (4096 * b + k)) ∧
    (s.memOk → u.memOk)

/-- From every state whose data, instruction and staging memories are in canonical form (addresses strictly rising, no byte equal to what an
unlisted address reads as), each Mule command, a landed stream, an access of MCL_MEM_DATA and a firmware update answer a next state whose
memories are in canonical form too; so equal memories are equal lists. That an unlisted byte reads 0 is the model's choice (assumption 5). -/
def Obligations.memories_stay_canonical : Prop :=
  (∀ (s : State) (m : Fin 64) (mn : Mn), s.memOk → Runs (muleCmd m mn) s (fun u => u.memOk)) ∧
  (∀ (s : State) (t : Fin 256) (wr : Bool) (n : Nat) (got : List Byte) (err : Fin 256), s.memOk → Runs (.mStreamLanded t wr n got err) s (fun u => u.memOk)) ∧
  (∀ (s : State) (who : Init) (k : Fin 16) (wr : Bool) (v : W64), s.memOk → Runs (.mclMemDataAccess who k wr v) s (fun u => u.memOk)) ∧
  (∀ (s : State) (k : Fin 16) (ok : Bool), s.memOk → Runs (.muleFirmwareUpdate k ok) s (fun u => u.memOk))

/-- For a permitted write of a tile or lane register. PT_CUT: the code in force only clears CUT_REFUSED as asked; another code below 8, with no
port of the tile enabled, is taken, both tiles of the pair report PAIR_MISMATCH when one holds 6 or 7 without its match, and only the cuts,
lanes and link states of the pair change; a reserved code, or another code while a port is enabled, leaves the cut, sets CUT_REFUSED and
raises its event. LN_CTL: a loopback mode that the table permits is taken; otherwise LPBK stays, LPBK_REFUSED is set and its event raised;
the other fields are written, and an overridden receive polarity applies. LN_PAT: a start that is allowed is taken, and the counters clear
when CHK_EN changes from 0 to 1; a start that is not allowed leaves both blocks off and sets PAT_REFUSED. LN_EYE: ignored during margining;
else taken, a START during equalization waiting. -/
def Obligations.lane_register_writes : Prop :=
  (∀ (s : State) (who : Init) (t : Fin 36) (v : W32), s.granted who true ⟨.PT_CUT, [t.val]⟩ 4 →
    fget (v.zeroExtend 64) 0 4 = s.get F.PT_CUT_CUT [t.val] →
    Runs (.ptCutWrite who t v) s (fun u =>
      u.get F.PT_CUT_CUT_REFUSED [t.val] = (if v.getLsbD 8 then 0 else s.get F.PT_CUT_CUT_REFUSED [t.val]) ∧
      u.get F.PT_CUT_CUT [t.val] = s.get F.PT_CUT_CUT [t.val] ∧ s.only u [⟨.PT_CUT, [t.val]⟩] [])) ∧
  (∀ (s : State) (who : Init) (t : Fin 36) (v : W32), s.granted who true ⟨.PT_CUT, [t.val]⟩ 4 →
    fget (v.zeroExtend 64) 0 4 ≠ s.get F.PT_CUT_CUT [t.val] → fget (v.zeroExtend 64) 0 4 < 8 → s.tileEnabled t.val = false →
    Runs (.ptCutWrite who t v) s (fun u =>
      u.get F.PT_CUT_CUT [t.val] = fget (v.zeroExtend 64) 0 4 ∧
      (∀ e ∈ [t.val / 2 * 2, t.val / 2 * 2 + 1],
        (u.get F.PT_CUT_PAIR_MISMATCH [e] = 1 ↔
          ((∃ a ∈ [t.val / 2 * 2, t.val / 2 * 2 + 1], (u.get F.PT_CUT_CUT [a] = 6 ∨ u.get F.PT_CUT_CUT [a] = 7)) ∧
            ¬ (u.get F.PT_CUT_CUT [t.val / 2 * 2] = 6 ∧ u.get F.PT_CUT_CUT [t.val / 2 * 2 + 1] = 7)))) ∧
      (∀ k, k < 8 → u.get F.LN_STAT_READY [t.val, k] = 0) ∧
      s.only u ([⟨.PT_CUT, [t.val / 2 * 2]⟩, ⟨.PT_CUT, [t.val / 2 * 2 + 1]⟩] ++
        (List.range 8).map (fun k => ⟨.LN_STAT, [t.val / 2 * 2, k]⟩) ++ (List.range 8).map (fun k => ⟨.LN_STAT, [t.val / 2 * 2 + 1, k]⟩) ++
        (List.range 4).map (fun k => ⟨.PP_STAT, [t.val / 2 * 2, k]⟩) ++ (List.range 4).map (fun k => ⟨.PP_STAT, [t.val / 2 * 2 + 1, k]⟩)) [])) ∧
  (∀ (s : State) (who : Init) (t : Fin 36) (v : W32), s.granted who true ⟨.PT_CUT, [t.val]⟩ 4 →
    fget (v.zeroExtend 64) 0 4 ≠ s.get F.PT_CUT_CUT [t.val] → (8 ≤ fget (v.zeroExtend 64) 0 4 ∨ s.tileEnabled t.val = true) →
    Runs (.ptCutWrite who t v) s (fun u =>
      u.get F.PT_CUT_CUT [t.val] = s.get F.PT_CUT_CUT [t.val] ∧ u.get F.PT_CUT_CUT_REFUSED [t.val] = 1 ∧ s.raises u (.port (4 * t.val) 0) 3 ∧
      s.only u [⟨.PT_CUT, [t.val]⟩] [.port (4 * t.val) 0])) ∧
  (∀ (s : State) (who : Init) (t : Fin 36) (k : Fin 8) (v : W32) (m : Nat), s.granted who true ⟨.LN_CTL, [t.val, k.val]⟩ 4 →
    m = fget (v.zeroExtend 64) 4 3 →
    (m = 0 ∨ (s.laneIdle t.val k.val = true ∧ (m = 1 ∨ m = 2 ∨ (m = 3 ∧ s.get F.LN_PAT_CHK_LOCK [t.val, k.val] = 1)))) →
    Runs (.lnCtlWrite who t k v) s (fun u =>
      u.get F.LN_CTL_LPBK [t.val, k.val] = m ∧ u.get F.LN_CTL_TX_POL [t.val, k.val] = bit (v.getLsbD 0) ∧
      u.get F.LN_CTL_RX_POL_OVR [t.val, k.val] = bit (v.getLsbD 1) ∧ u.get F.LN_CTL_RX_POL_VAL [t.val, k.val] = bit (v.getLsbD 2) ∧
      u.get F.LN_STAT_RX_POL [t.val, k.val] = (if v.getLsbD 1 then bit (v.getLsbD 2) else s.get F.LN_STAT_RX_POL [t.val, k.val]) ∧
      s.only u [⟨.LN_CTL, [t.val, k.val]⟩, ⟨.LN_STAT, [t.val, k.val]⟩] [])) ∧
  (∀ (s : State) (who : Init) (t : Fin 36) (k : Fin 8) (v : W32) (m : Nat), s.granted who true ⟨.LN_CTL, [t.val, k.val]⟩ 4 →
    m = fget (v.zeroExtend 64) 4 3 →
    ¬ (m = 0 ∨ (s.laneIdle t.val k.val = true ∧ (m = 1 ∨ m = 2 ∨ (m = 3 ∧ s.get F.LN_PAT_CHK_LOCK [t.val, k.val] = 1)))) →
    Runs (.lnCtlWrite who t k v) s (fun u =>
      u.get F.LN_CTL_LPBK [t.val, k.val] = s.get F.LN_CTL_LPBK [t.val, k.val] ∧ u.get F.LN_STAT_LPBK_REFUSED [t.val, k.val] = 1 ∧
      s.raises u (.port (s.laneTriple t.val k.val) 0) 6 ∧
      s.only u [⟨.LN_CTL, [t.val, k.val]⟩, ⟨.LN_STAT, [t.val, k.val]⟩] [.port (s.laneTriple t.val k.val) 0])) ∧
  (∀ (s : State) (who : Init) (t : Fin 36) (k : Fin 8) (v : W32), s.granted who true ⟨.LN_PAT, [t.val, k.val]⟩ 4 →
    v.getLsbD 13 = false → ((v.getLsbD 0 = false ∧ v.getLsbD 1 = false) ∨ s.patOk t.val k.val (fget (v.zeroExtend 64) 2 4) = true) →
    Runs (.lnPatWrite who t k v) s (fun u =>
      u.get F.LN_PAT_GEN_EN [t.val, k.val] = bit (v.getLsbD 0) ∧ u.get F.LN_PAT_CHK_EN [t.val, k.val] = bit (v.getLsbD 1) ∧
      u.get F.LN_PAT_PATTERN [t.val, k.val] = fget (v.zeroExtend 64) 2 4 ∧ u.get F.LN_PAT_INJ_MODE [t.val, k.val] = fget (v.zeroExtend 64) 6 2 ∧
      u.get F.LN_PAT_INJ_RATE [t.val, k.val] = fget (v.zeroExtend 64) 8 5 ∧
      (v.getLsbD 1 = false → u.get F.LN_PAT_CHK_LOCK [t.val, k.val] = 0) ∧
      (v.getLsbD 1 = true → s.get F.LN_PAT_CHK_EN [t.val, k.val] = 0 →
        u.get F.LN_PAT_ERR_COUNT [t.val, k.val] = 0 ∧ u.get F.LN_PAT_BITS_COUNT [t.val, k.val] = 0) ∧
      (v.getLsbD 1 = true → s.get F.LN_PAT_CHK_EN [t.val, k.val] = 1 →
        s.keeps u [⟨.LN_PAT, [t.val, k.val]⟩] []) ∧
      s.only u [⟨.LN_PAT, [t.val, k.val]⟩, ⟨.LN_PAT_ERR, [t.val, k.val]⟩, ⟨.LN_PAT_BITS, [t.val, k.val]⟩] [])) ∧
  (∀ (s : State) (who : Init) (t : Fin 36) (k : Fin 8) (v : W32), s.granted who true ⟨.LN_PAT, [t.val, k.val]⟩ 4 →
    v.getLsbD 13 = false → (v.getLsbD 0 = true ∨ v.getLsbD 1 = true) → s.patOk t.val k.val (fget (v.zeroExtend 64) 2 4) = false →
    Runs (.lnPatWrite who t k v) s (fun u =>
      u.get F.LN_PAT_GEN_EN [t.val, k.val] = 0 ∧ u.get F.LN_PAT_CHK_EN [t.val, k.val] = 0 ∧ u.get F.LN_STAT_PAT_REFUSED [t.val, k.val] = 1 ∧
      s.raises u (.port (s.laneTriple t.val k.val) 0) 5 ∧
      s.only u [⟨.LN_PAT, [t.val, k.val]⟩, ⟨.LN_STAT, [t.val, k.val]⟩] [.port (s.laneTriple t.val k.val) 0])) ∧
  (∀ (s : State) (who : Init) (t : Fin 36) (k : Fin 8) (v : W64), s.granted who true ⟨.LN_EYE, [t.val, k.val]⟩ 8 →
    (t.val, k.val) ∈ s.lnk.margin → Runs (.eyeSampleStart who t k v) s (fun u => s.only u [] [])) ∧
  (∀ (s : State) (who : Init) (t : Fin 36) (k : Fin 8) (v : W64), s.granted who true ⟨.LN_EYE, [t.val, k.val]⟩ 8 →
    (t.val, k.val) ∉ s.lnk.margin →
    Runs (.eyeSampleStart who t k v) s (fun u =>
      u.get F.LN_EYE_T_STEP [t.val, k.val] = fget v 0 7 ∧ u.get F.LN_EYE_V_STEP [t.val, k.val] = fget v 7 8 ∧
      u.get F.LN_EYE_EYE_SEL [t.val, k.val] = fget v 15 2 ∧
      u.get F.LN_EYE_START [t.val, k.val] = (if v.getLsbD 17 then 1 else s.get F.LN_EYE_START [t.val, k.val]) ∧
      u.get F.LN_EYE_ERRORS [t.val, k.val] = s.get F.LN_EYE_ERRORS [t.val, k.val] ∧
      ((t.val, k.val) ∈ u.lnk.eyeWait ↔ ((t.val, k.val) ∈ s.lnk.eyeWait ∨ (v.getLsbD 17 = true ∧ (t.val, k.val) ∈ s.lnk.eqRun))) ∧
      u.lnk.eyeWait.filter (· != (t.val, k.val)) = s.lnk.eyeWait.filter (· != (t.val, k.val)) ∧
      { s with lnk := { s.lnk with eyeWait := u.lnk.eyeWait } }.only u [⟨.LN_EYE, [t.val, k.val]⟩] []))

/-- LANE_READY makes the lanes of the tile's ports ready and no others. CHK_LOCK locks a running checker. LOCK_LOSS clears the lock, counts the
loss, and brings the bits and errors counted since lock into the two counters, which stay at all-ones. An injection (a write of INJ_ONE in
mode 1, a period in mode 2) is one more error, which a lane whose own generator runs into a locked checker counts. A START that waited
begins once equalization has ended; a sample ends with its mismatches in ERRORS, at most all-ones, and START 0. Nothing else changes but,
where a counter reaches all-ones, its OVF flag and the event PAT_OVF. -/
def Obligations.lane_pattern_and_sampler_events : Prop :=
  (∀ (s : State) (t : Fin 36), s.sealed = false →
    Runs (.laneReady t) s (fun u =>
      (∀ k < 8, u.get F.LN_STAT_READY [t.val, k] = if (s.portOfLane t.val k).isSome then 1 else s.get F.LN_STAT_READY [t.val, k]) ∧
      s.only u ((List.range 8).map (fun k => ⟨.LN_STAT, [t.val, k]⟩)) [])) ∧
  (∀ (s : State) (t : Fin 36) (k : Fin 8), s.sealed = false → s.get F.LN_PAT_CHK_EN [t.val, k.val] = 1 →
    Runs (.chkLock t k) s (fun u => u.get F.LN_PAT_CHK_LOCK [t.val, k.val] = 1 ∧ s.only u [⟨.LN_PAT, [t.val, k.val]⟩] [])) ∧
  (∀ (s : State) (t : Fin 36) (k : Fin 8) (bits errs : Nat), s.sealed = false → s.get F.LN_PAT_CHK_LOCK [t.val, k.val] = 1 →
    Runs (.lockLoss t k bits errs) s (fun u =>
      u.get F.LN_PAT_CHK_LOCK [t.val, k.val] = 0 ∧
      u.get F.LN_PAT_ERR_LOCK_LOSS [t.val, k.val] = min (s.get F.LN_PAT_ERR_LOCK_LOSS [t.val, k.val] + 1) (2 ^ 15 - 1) ∧
      u.get F.LN_PAT_ERR_COUNT [t.val, k.val] = min (s.get F.LN_PAT_ERR_COUNT [t.val, k.val] + errs) (2 ^ 48 - 1) ∧
      u.get F.LN_PAT_BITS_COUNT [t.val, k.val] = min (s.get F.LN_PAT_BITS_COUNT [t.val, k.val] + bits) (2 ^ 48 - 1) ∧
      (0 < errs → u.get F.LN_PAT_ERR_COUNT [t.val, k.val] = 2 ^ 48 - 1 → u.get F.LN_PAT_ERR_OVF [t.val, k.val] = 1) ∧
      (0 < bits → u.get F.LN_PAT_BITS_COUNT [t.val, k.val] = 2 ^ 48 - 1 → u.get F.LN_PAT_BITS_OVF [t.val, k.val] = 1) ∧
      s.only u [⟨.LN_PAT, [t.val, k.val]⟩, ⟨.LN_PAT_ERR, [t.val, k.val]⟩, ⟨.LN_PAT_BITS, [t.val, k.val]⟩] [.port (s.laneTriple t.val k.val) 0])) ∧
  (∀ (s : State) (who : Init) (t : Fin 36) (k : Fin 8), s.granted who true ⟨.LN_PAT, [t.val, k.val]⟩ 4 →
    s.get F.LN_PAT_INJ_MODE [t.val, k.val] = 1 →
    Runs (.injOne who t k) s (fun u =>
      u.lnk.injected.lookD (t.val, k.val) 0 = s.lnk.injected.lookD (t.val, k.val) 0 + 1 ∧
      u.get F.LN_PAT_ERR_COUNT [t.val, k.val] =
        (if s.get F.LN_PAT_GEN_EN [t.val, k.val] = 1 ∧ s.get F.LN_PAT_CHK_LOCK [t.val, k.val] = 1
          then min (s.get F.LN_PAT_ERR_COUNT [t.val, k.val] + 1) (2 ^ 48 - 1) else s.get F.LN_PAT_ERR_COUNT [t.val, k.val]) ∧
      u.get F.LN_PAT_BITS_COUNT [t.val, k.val] = s.get F.LN_PAT_BITS_COUNT [t.val, k.val] ∧
      { s with lnk := { s.lnk with injected := u.lnk.injected } }.only u [⟨.LN_PAT_ERR, [t.val, k.val]⟩, ⟨.LN_PAT_BITS, [t.val, k.val]⟩]
        [.port (s.laneTriple t.val k.val) 0])) ∧
  (∀ (s : State) (t : Fin 36) (k : Fin 8), s.sealed = false → s.get F.LN_PAT_INJ_MODE [t.val, k.val] = 2 →
    Runs (.periodicInjection t k) s (fun u =>
      u.lnk.injected.lookD (t.val, k.val) 0 = s.lnk.injected.lookD (t.val, k.val) 0 + 1 ∧
      u.get F.LN_PAT_ERR_COUNT [t.val, k.val] =
        (if s.get F.LN_PAT_GEN_EN [t.val, k.val] = 1 ∧ s.get F.LN_PAT_CHK_LOCK [t.val, k.val] = 1
          then min (s.get F.LN_PAT_ERR_COUNT [t.val, k.val] + 1) (2 ^ 48 - 1) else s.get F.LN_PAT_ERR_COUNT [t.val, k.val]) ∧
      { s with lnk := { s.lnk with injected := u.lnk.injected } }.only u [⟨.LN_PAT_ERR, [t.val, k.val]⟩, ⟨.LN_PAT_BITS, [t.val, k.val]⟩]
        [.port (s.laneTriple t.val k.val) 0])) ∧
  (∀ (s : State) (t : Fin 36) (k : Fin 8), s.sealed = false → (t.val, k.val) ∈ s.lnk.eyeWait → (t.val, k.val) ∉ s.lnk.eqRun →
    Runs (.eyeStartAfterEq t k) s (fun u =>
      u.lnk.eyeWait = s.lnk.eyeWait.filter (· != (t.val, k.val)) ∧ { s with lnk := { s.lnk with eyeWait := u.lnk.eyeWait } }.only u [] [])) ∧
  (∀ (s : State) (t : Fin 36) (k : Fin 8) (errs : Nat), s.sealed = false → s.get F.LN_EYE_START [t.val, k.val] = 1 →
    (t.val, k.val) ∉ s.lnk.eyeWait →
    Runs (.eyeSampleDone t k errs) s (fun u =>
      u.get F.LN_EYE_ERRORS [t.val, k.val] = min errs 0xFFFF ∧ u.get F.LN_EYE_START [t.val, k.val] = 0 ∧
      s.only u [⟨.LN_EYE, [t.val, k.val]⟩] []))

/-- TXEQ_REQUEST: a coefficient set with a pre-cursor of at most 15 and a post-cursor of at most 21 that meets the standard's rules for FS 63
and LF 21 (their form is PRESUMED, see the log) is taken and answered; any other, or any set under override, is rejected and the transmitter
keeps its set. EQUALIZATION_PHASE: its start ends a margining command on the lane; its end leaves the partner with one coefficient set, the
one that was best at the start if no further request is answered, and asks for it. MARGIN_COMMAND: starts within 32 timing and 64 voltage
steps on a PCIe port in L0 at 16 GT/s or above outside equalization; its end is the end of the command. Nothing else changes. -/
def Obligations.equalization_and_margining : Prop :=
  (∀ (s : State) (t : Fin 36) (k : Fin 8) (pre main post : Fin 64), s.sealed = false → s.get F.LN_TXEQ_OVR [t.val, k.val] = 0 →
    pre.val ≤ 15 → post.val ≤ 21 → pre.val + main.val + post.val = 63 → 21 + pre.val + post.val ≤ main.val →
    Runs (.txeqRequest t k pre main post) s (fun u =>
      u.get F.LN_TXEQ_C_PRE [t.val, k.val] = pre.val ∧ u.get F.LN_TXEQ_C_MAIN [t.val, k.val] = main.val ∧
      u.get F.LN_TXEQ_C_POST [t.val, k.val] = post.val ∧ u.sent = s.sent ++ [.txeq t.val k.val true] ∧
      s.only u [⟨.LN_TXEQ, [t.val, k.val]⟩] [])) ∧
  (∀ (s : State) (t : Fin 36) (k : Fin 8) (pre main post : Fin 64), s.sealed = false →
    (s.get F.LN_TXEQ_OVR [t.val, k.val] = 1 ∨ 15 < pre.val ∨ 21 < post.val ∨ pre.val + main.val + post.val ≠ 63 ∨ main.val < 21 + pre.val + post.val) →
    Runs (.txeqRequest t k pre main post) s (fun u => u.sent = s.sent ++ [.txeq t.val k.val false] ∧ s.only u [] [])) ∧
  (∀ (s : State) (t : Fin 36) (k : Fin 8) (pre post score : Nat) (answers : List (Option Nat)), s.sealed = false →
    Runs (.equalizationPhase t k false pre post score answers) s (fun u =>
      (t.val, k.val) ∈ u.lnk.eqRun ∧ u.lnk.margin = s.lnk.margin.filter (· != (t.val, k.val)) ∧
      u.lnk.eqRun.filter (· != (t.val, k.val)) = s.lnk.eqRun.filter (· != (t.val, k.val)) ∧
      { s with lnk := { s.lnk with eqRun := u.lnk.eqRun, margin := u.lnk.margin } }.only u [] [])) ∧
  (∀ (s : State) (t : Fin 36) (k : Fin 8) (pre post score : Nat) (answers : List (Option Nat)), s.sealed = false →
    (t.val, k.val) ∈ s.lnk.eqRun →
    Runs (.equalizationPhase t k true pre post score answers) s (fun u =>
      u.lnk.eqRun = s.lnk.eqRun.filter (· != (t.val, k.val)) ∧
      u.sent = s.sent ++ ((u.lnk.partner.look (t.val, k.val)).map (fun b => Out.eqAsk t.val k.val b.1 b.2)).toList ∧
      (u.lnk.partner.look (t.val, k.val)).isSome = true ∧
      ((∀ a ∈ answers, ∀ v ∈ a, v ≤ score) → u.lnk.partner.look (t.val, k.val) = some (pre, post)) ∧
      { s with lnk := { s.lnk with eqRun := u.lnk.eqRun, partner := u.lnk.partner } }.only u [] [])) ∧
  (∀ (s : State) (t : Fin 36) (k : Fin 8) (time volt p : Nat), s.sealed = false → s.portOfLane t.val k.val = some p → s.inL0 p = true →
    s.role p ≠ 2 → 3 ≤ s.pget F.PP_STAT_RATE p → time ≤ 32 → volt ≤ 64 → (t.val, k.val) ∉ s.lnk.eqRun →
    Runs (.marginCommand t k true time volt) s (fun u =>
      (t.val, k.val) ∈ u.lnk.margin ∧ u.lnk.margin.filter (· != (t.val, k.val)) = s.lnk.margin.filter (· != (t.val, k.val)) ∧
      { s with lnk := { s.lnk with margin := u.lnk.margin } }.only u [] [])) ∧
  (∀ (s : State) (t : Fin 36) (k : Fin 8) (time volt p : Nat), s.sealed = false → s.portOfLane t.val k.val = some p →
    Runs (.marginCommand t k false time volt) s (fun u =>
      u.lnk.margin = s.lnk.margin.filter (· != (t.val, k.val)) ∧ { s with lnk := { s.lnk with margin := u.lnk.margin } }.only u [] []))

/-- LANE_TRAIN_FAIL of a lane that its port still uses: the lane is left out and declared, DEGRADED is set with its event, and a link that was
in L0, at reduced width or in L1 enters Recovery at width 0. EQ_FAIL of an enabled port: DEGRADED is set with its event, and where
DEGRADE_EN is 1 the next training goes one rate below the rate allowed now. LANE_MARKER_RECEIVED on an enabled KFP port: a bad marker is
counted, the eighth in a row taking the lane out; the first good one that fits an order of R43 names the partner's device and port; one that
differs from it sets MISWIRE with its event, and training stops. Only the named parts of the port's state, its counters and events, and the
lists of declared failures and journal entries change. -/
def Obligations.lanes_left_out_and_miswired : Prop :=
  (∀ (s : State) (t : Fin 36) (k : Fin 8) (p : Nat), s.sealed = false → s.portOfLane t.val k.val = some p → (t.val, k.val) ∉ s.lnk.badLanes →
    Runs (.laneTrainFail t k) s (fun u =>
      (t.val, k.val) ∈ u.lnk.badLanes ∧ u.pget F.PP_STAT_DEGRADED p = 1 ∧ s.raises u (.port p 0) 2 ∧
      (7, 8 * t.val + k.val) ∈ u.flt.failed ∧
      ((7, 8 * t.val + k.val) ∉ s.flt.failed → u.flt.queue = s.flt.queue ++ [(7, 8 * t.val + k.val)]) ∧
      (s.pget F.PP_STAT_LINK_STATE p ∈ [3, 4, 6] → u.pget F.PP_STAT_LINK_STATE p = 5 ∧ u.pget F.PP_STAT_WIDTH p = 0) ∧
      { s with lnk := u.lnk, flt := u.flt, journal := u.journal }.only u
        [⟨.PP_STAT, [p / 4, p % 4]⟩, ⟨.PT_CNT, [p / 4, p % 4, 20]⟩, ⟨.LK_TOTAL, [0, p / 4, p % 4]⟩, ⟨.LK_STAT, [0, p / 4, p % 4]⟩,
         ⟨.MGR_JNL_SEQ, []⟩, ⟨.GSV_DEG, []⟩] [.port p 0, .port p 7, .tile (p / 4) 3])) ∧
  (∀ (s : State) (port : Fin 144), s.sealed = false → s.pget F.PP_CTL_ENABLE port.val = 1 →
    Runs (.eqFail port) s (fun u =>
      u.pget F.PP_STAT_DEGRADED port.val = 1 ∧ s.raises u (.port port.val 0) 2 ∧
      (s.pget F.PP_CTL_DEGRADE_EN port.val = 1 → u.rateLimit port.val ≤ s.rateLimit port.val - 1) ∧
      (s.pget F.PP_CTL_DEGRADE_EN port.val = 0 → u.rateLimit port.val = s.rateLimit port.val) ∧
      { s with lnk := u.lnk }.only u
        [⟨.PP_STAT, [port.val / 4, port.val % 4]⟩, ⟨.PT_CNT, [port.val / 4, port.val % 4, 20]⟩, ⟨.LK_TOTAL, [0, port.val / 4, port.val % 4]⟩,
         ⟨.LK_STAT, [0, port.val / 4, port.val % 4]⟩] [.port port.val 0, .port port.val 7, .tile (port.val / 4) 3])) ∧
  (∀ (s : State) (t : Fin 36) (k : Fin 8) (lane width dev portNo : Fin 256) (p : Nat), s.sealed = false → s.portOfLane t.val k.val = some p →
    s.role p = 2 → s.pget F.PP_CTL_ENABLE p = 1 → s.lnk.badMarks.lookD (t.val, k.val) 0 ≠ 7 →
    Runs (.laneMarkerReceived t k lane width dev portNo false) s (fun u =>
      u.lnk.badMarks.lookD (t.val, k.val) 0 = s.lnk.badMarks.lookD (t.val, k.val) 0 + 1 ∧
      { s with lnk := { s.lnk with badMarks := u.lnk.badMarks } }.only u [⟨.FAB_CNT, [p / 8, 9]⟩] [.port (8 * (p / 8)) 7])) ∧
  (∀ (s : State) (t : Fin 36) (k : Fin 8) (lane width dev portNo : Fin 256) (p t0 k0 : Nat) (rest : List (Nat × Nat)), s.sealed = false →
    s.portOfLane t.val k.val = some p → s.role p = 2 → s.pget F.PP_CTL_ENABLE p = 1 → s.lanesOf p = (t0, k0) :: rest →
    s.lnk.mark.look p = none →
    (lane.val = 8 * t.val + k.val - (8 * t0 + k0) ∨ lane.val + (8 * t.val + k.val - (8 * t0 + k0)) + 1 = width.val) →
    Runs (.laneMarkerReceived t k lane width dev portNo true) s (fun u =>
      u.lnk.mark.look p = some (dev.val, portNo.val) ∧ u.lnk.badMarks.lookD (t.val, k.val) 0 = 0 ∧
      { s with lnk := { s.lnk with mark := u.lnk.mark, badMarks := u.lnk.badMarks } }.only u [] [])) ∧
  (∀ (s : State) (t : Fin 36) (k : Fin 8) (lane width dev portNo : Fin 256) (p : Nat) (m : Nat × Nat), s.sealed = false →
    s.portOfLane t.val k.val = some p → s.role p = 2 → s.pget F.PP_CTL_ENABLE p = 1 → s.lnk.mark.look p = some m → m ≠ (dev.val, portNo.val) →
    Runs (.laneMarkerReceived t k lane width dev portNo true) s (fun u =>
      u.get F.LN_STAT_MISWIRE [t.val, k.val] = 1 ∧ s.raises u (.port p 0) 4 ∧
      (s.inL0 p = false → u.pget F.PP_STAT_LINK_STATE p = 1) ∧
      { s with lnk := { s.lnk with badMarks := u.lnk.badMarks } }.only u [⟨.LN_STAT, [t.val, k.val]⟩, ⟨.PP_STAT, [p / 4, p % 4]⟩] [.port p 0]))

/-- For a permitted write. PP_CTL on a port that is enabled and stays so: ROLE, RATE_MAX and FLIT_EN keep their values and CFG_REFUSED is set if
the write would change one of them; LPBK_LEAD and DEGRADE_EN are taken. PP_CTL that enables a port that nothing holds down, without another
ROLE: the fields are taken and the port enters Detect. PP_CTL that leaves a port disabled, with a ROLE that the port may take: the fields
are taken. RETRAIN on an enabled port: a link that is up goes to Recovery at width 0, one in Detect or Training trains again; the lanes left
out by R76 serve again, and unless the leaky counter of R459 acts the rate limit is RATE_MAX (7 acts as 6). PT_BUF_CFG: three classes of at
least 8 units that sum to 192, written to a disabled port or unchanged, are taken; anything else keeps the fields, sets REFUSED and raises
its event. -/
def Obligations.port_register_writes : Prop :=
  (∀ (s : State) (who : Init) (port : Fin 144) (v : W32), s.granted who true ⟨.PP_CTL, [port.val / 4, port.val % 4]⟩ 4 →
    s.pget F.PP_CTL_ENABLE port.val = 1 → v.getLsbD 0 = true → v.getLsbD 9 = false →
    Runs (.ppCtlWrite who port v) s (fun u =>
      u.pget F.PP_CTL_ENABLE port.val = 1 ∧ u.pget F.PP_CTL_LPBK_LEAD port.val = bit (v.getLsbD 7) ∧
      u.pget F.PP_CTL_DEGRADE_EN port.val = bit (v.getLsbD 8) ∧
      u.pget F.PP_CTL_ROLE port.val = s.pget F.PP_CTL_ROLE port.val ∧ u.pget F.PP_CTL_RATE_MAX port.val = s.pget F.PP_CTL_RATE_MAX port.val ∧
      u.pget F.PP_CTL_FLIT_EN port.val = s.pget F.PP_CTL_FLIT_EN port.val ∧
      ((fget (v.zeroExtend 64) 1 2 ≠ s.pget F.PP_CTL_ROLE port.val ∨ fget (v.zeroExtend 64) 3 3 ≠ s.pget F.PP_CTL_RATE_MAX port.val ∨
          fget (v.zeroExtend 64) 6 1 ≠ s.pget F.PP_CTL_FLIT_EN port.val) →
        u.pget F.PP_STAT_CFG_REFUSED port.val = 1 ∧ (u.rd (Trip.port port.val 0).stat).getLsbD 3 = true))) ∧
  (∀ (s : State) (who : Init) (port : Fin 144) (v : W32), s.granted who true ⟨.PP_CTL, [port.val / 4, port.val % 4]⟩ 4 →
    s.pget F.PP_CTL_ENABLE port.val = 0 → v.getLsbD 0 = true → v.getLsbD 9 = false → fget (v.zeroExtend 64) 1 2 = s.pget F.PP_CTL_ROLE port.val →
    s.portWidth port.val ≠ 0 → s.pget F.PT_CONT_C_VDSP port.val = 0 → s.portOff port.val = false → s.pget F.PP_STAT_LINK_STATE port.val = 0 →
    Runs (.ppCtlWrite who port v) s (fun u =>
      u.pget F.PP_CTL_ENABLE port.val = 1 ∧ u.pget F.PP_CTL_RATE_MAX port.val = fget (v.zeroExtend 64) 3 3 ∧
      u.pget F.PP_CTL_FLIT_EN port.val = fget (v.zeroExtend 64) 6 1 ∧ u.pget F.PP_CTL_LPBK_LEAD port.val = bit (v.getLsbD 7) ∧
      u.pget F.PP_CTL_DEGRADE_EN port.val = bit (v.getLsbD 8) ∧ u.pget F.PP_STAT_LINK_STATE port.val = 1 ∧
      u.mule = s.mule ∧ u.dm = s.dm ∧ u.sec = s.sec ∧ u.mgr = s.mgr ∧ u.journal = s.journal)) ∧
  (∀ (s : State) (who : Init) (port : Fin 144) (v : W32), s.granted who true ⟨.PP_CTL, [port.val / 4, port.val % 4]⟩ 4 →
    s.pget F.PP_CTL_ENABLE port.val = 0 → v.getLsbD 0 = false → fget (v.zeroExtend 64) 1 2 ≠ 3 →
    ¬ (fget (v.zeroExtend 64) 1 2 = 2 ∧ s.winNames port.val = true) →
    Runs (.ppCtlWrite who port v) s (fun u =>
      u.pget F.PP_CTL_ENABLE port.val = 0 ∧ u.pget F.PP_CTL_ROLE port.val = fget (v.zeroExtend 64) 1 2 ∧
      u.pget F.PP_CTL_RATE_MAX port.val = fget (v.zeroExtend 64) 3 3 ∧ u.pget F.PP_CTL_FLIT_EN port.val = fget (v.zeroExtend 64) 6 1 ∧
      u.pget F.PP_CTL_LPBK_LEAD port.val = bit (v.getLsbD 7) ∧ u.pget F.PP_CTL_DEGRADE_EN port.val = bit (v.getLsbD 8) ∧
      u.pget F.PP_STAT_LINK_STATE port.val = s.pget F.PP_STAT_LINK_STATE port.val ∧ u.cfg = s.cfg ∧ u.fwd = s.fwd ∧ u.mule = s.mule ∧ u.dm = s.dm)) ∧
  (∀ (s : State) (who : Init) (port : Fin 144), s.granted who true ⟨.PP_CTL, [port.val / 4, port.val % 4]⟩ 4 →
    s.pget F.PP_CTL_ENABLE port.val = 1 →
    Runs (.retrain who port) s (fun u =>
      (s.pget F.PP_STAT_LINK_STATE port.val ∈ [3, 4, 6] → u.pget F.PP_STAT_LINK_STATE port.val = 5 ∧ u.pget F.PP_STAT_WIDTH port.val = 0) ∧
      (s.pget F.PP_STAT_LINK_STATE port.val ∈ [1, 2] → u.pget F.PP_STAT_LINK_STATE port.val = 2) ∧
      (∀ l ∈ u.lnk.badLanes, s.portOfLane l.1 l.2 ≠ some port.val) ∧
      (s.pget F.PP_STAT_LINK_STATE port.val ∉ [3, 4] → u.rateLimit port.val = min 6 (s.pget F.PP_CTL_RATE_MAX port.val)) ∧
      { s with lnk := u.lnk, flt := { s.flt with failed := u.flt.failed } }.only u
        [⟨.PP_STAT, [port.val / 4, port.val % 4]⟩, ⟨.PT_CNT, [port.val / 4, port.val % 4, 20]⟩, ⟨.LK_TOTAL, [0, port.val / 4, port.val % 4]⟩,
         ⟨.LK_STAT, [0, port.val / 4, port.val % 4]⟩] [.port port.val 0, .port port.val 7, .tile (port.val / 4) 3])) ∧
  (∀ (s : State) (who : Init) (port : Fin 144) (v : W32), s.granted who true ⟨.PT_BUF_CFG, [port.val / 4, port.val % 4]⟩ 4 →
    s.pget F.PP_CTL_ENABLE port.val = 0 → fget (v.zeroExtend 64) 0 8 + fget (v.zeroExtend 64) 8 8 + fget (v.zeroExtend 64) 16 8 = 192 →
    8 ≤ fget (v.zeroExtend 64) 0 8 → 8 ≤ fget (v.zeroExtend 64) 8 8 → 8 ≤ fget (v.zeroExtend 64) 16 8 →
    Runs (.ptBufCfgWrite who port v) s (fun u =>
      u.pget F.PT_BUF_CFG_SC1 port.val = fget (v.zeroExtend 64) 0 8 ∧ u.pget F.PT_BUF_CFG_SC2 port.val = fget (v.zeroExtend 64) 8 8 ∧
      u.pget F.PT_BUF_CFG_SC3 port.val = fget (v.zeroExtend 64) 16 8 ∧ s.only u [⟨.PT_BUF_CFG, [port.val / 4, port.val % 4]⟩] [])) ∧
  (∀ (s : State) (who : Init) (port : Fin 144) (v : W32), s.granted who true ⟨.PT_BUF_CFG, [port.val / 4, port.val % 4]⟩ 4 →
    (fget (v.zeroExtend 64) 0 8 + fget (v.zeroExtend 64) 8 8 + fget (v.zeroExtend 64) 16 8 ≠ 192 ∨ fget (v.zeroExtend 64) 0 8 < 8 ∨
      fget (v.zeroExtend 64) 8 8 < 8 ∨ fget (v.zeroExtend 64) 16 8 < 8 ∨
      (s.pget F.PP_CTL_ENABLE port.val = 1 ∧ fget (v.zeroExtend 64) 0 8 ≠ s.pget F.PT_BUF_CFG_SC1 port.val)) →
    Runs (.ptBufCfgWrite who port v) s (fun u =>
      u.pget F.PT_BUF_CFG_SC1 port.val = s.pget F.PT_BUF_CFG_SC1 port.val ∧ u.pget F.PT_BUF_CFG_SC2 port.val = s.pget F.PT_BUF_CFG_SC2 port.val ∧
      u.pget F.PT_BUF_CFG_SC3 port.val = s.pget F.PT_BUF_CFG_SC3 port.val ∧ u.pget F.PT_BUF_CFG_REFUSED port.val = 1 ∧
      s.raises u (.port port.val 5) 2 ∧ s.only u [⟨.PT_BUF_CFG, [port.val / 4, port.val % 4]⟩] [.port port.val 5]))

/-- LINK_UP at a rate, width, mode and order that the port may take: the link state is L0 and RATE, WIDTH, FLIT and L0P_WIDTH report what was
trained; DEGRADED is 0 unless a cause of R76 acted in this training. TRAINING_RETRY from Training or Reset: the port is in Detect, and a KFP
port raises LINK_DOWN, the model's reading of R37 (its log, entry 35). LINK_DOWN of a downstream port in L0: the link leaves L0 and the
fields of the link read as they do without one. LOOPBACK_ENTRY of an enabled PCIe port that trains: the link state is Loopback.
LOOPBACK_EXIT: it is Detect, and the patterns on the port's lanes stop. -/
def Obligations.training_and_link_state : Prop :=
  (∀ (s : State) (port : Fin 144) (rate : Fin 7) (width : Fin 17) (flit rev scaled : Bool) (inv : W16), s.sealed = false →
    s.canTrain port.val rate.val width.val flit rev = true →
    Runs (.linkUp port rate width flit rev scaled inv) s (fun u =>
      u.pget F.PP_STAT_LINK_STATE port.val = 3 ∧ u.pget F.PP_STAT_RATE port.val = rate.val ∧ u.pget F.PP_STAT_WIDTH port.val = width.val ∧
      u.pget F.PP_STAT_FLIT port.val = bit flit ∧ u.pget F.PP_STAT_L0P_WIDTH port.val = width.val ∧ u.pget F.PP_STAT_L1_SUB port.val = 0 ∧
      u.pget F.PP_STAT_DEGRADED port.val = (if port.val ∈ s.lnk.degraded then s.pget F.PP_STAT_DEGRADED port.val else 0) ∧
      port.val ∉ u.lnk.degraded ∧ u.lnk.badLanes = s.lnk.badLanes)) ∧
  (∀ (s : State) (port : Fin 144), s.sealed = false → s.pget F.PP_STAT_LINK_STATE port.val ∈ [2, 7] → s.role port.val ≠ 2 →
    Runs (.trainingRetry port) s (fun u =>
      u.pget F.PP_STAT_LINK_STATE port.val = 1 ∧ s.only u [⟨.PP_STAT, [port.val / 4, port.val % 4]⟩] [])) ∧
  (∀ (s : State) (port : Fin 144), s.sealed = false → s.pget F.PP_STAT_LINK_STATE port.val ∈ [2, 7] → s.role port.val = 2 →
    Runs (.trainingRetry port) s (fun u =>
      u.pget F.PP_STAT_LINK_STATE port.val = 1 ∧ s.raises u (.port port.val 0) 1 ∧ s.only u [⟨.PP_STAT, [port.val / 4, port.val % 4]⟩] [.port port.val 0])) ∧
  (∀ (s : State) (port : Fin 144), s.sealed = false → s.role port.val = 1 → s.pget F.PP_STAT_LINK_STATE port.val ∈ [3, 4, 5, 6] →
    Runs (.linkDown port) s (fun u =>
      u.pget F.PP_STAT_LINK_STATE port.val ∈ [1, 9] ∧ u.pget F.PP_STAT_WIDTH port.val = 0 ∧ u.pget F.PP_STAT_RATE port.val = 7 ∧
      u.pget F.PP_STAT_FLIT port.val = 0 ∧ u.pget F.PP_STAT_L0P_WIDTH port.val = 0 ∧ u.pget F.PP_STAT_IDE_SECURE port.val = 0)) ∧
  (∀ (s : State) (port : Fin 144), s.sealed = false → s.pget F.PP_STAT_LINK_STATE port.val ∈ [1, 2] → s.pget F.PP_CTL_ENABLE port.val = 1 →
    s.role port.val ≠ 2 →
    Runs (.loopbackEntry port) s (fun u =>
      u.pget F.PP_STAT_LINK_STATE port.val = 8 ∧ s.only u [⟨.PP_STAT, [port.val / 4, port.val % 4]⟩] [])) ∧
  (∀ (s : State) (port : Fin 144), s.sealed = false → s.pget F.PP_STAT_LINK_STATE port.val = 8 →
    Runs (.loopbackExit port) s (fun u =>
      u.pget F.PP_STAT_LINK_STATE port.val = 1 ∧
      (∀ l ∈ s.lanesOf port.val, u.get F.LN_PAT_GEN_EN [l.1, l.2] = 0 ∧ u.get F.LN_PAT_CHK_EN [l.1, l.2] = 0) ∧
      s.only u (⟨.PP_STAT, [port.val / 4, port.val % 4]⟩ :: (s.lanesOf port.val).map (fun l => ⟨.LN_PAT, [l.1, l.2]⟩)) []))

/-- L1_IDLE_TIMEOUT of an upstream port with ASPM L1 enabled, idle for L1_IDLE and with no request outstanding, and L1_ENTRY_REQUEST of a
downstream port whose host has enabled ASPM L1: the link enters L1 and its width is kept. L1_EXIT: the link is in L0 again at that width, in
full or reduced width as L0P_WIDTH says, L1_SUB 0. CLKREQ_N_CHANGE of the GPIO that a port drives: in L1, high is L1.1 or L1.2 and low L1.0.
L0P_WINDOW: full width above 75 %, half the width below 25 % and not below L0P_MIN, otherwise the same. L0P_PARTNER_REQUEST of a width that
the port can take: that width. LTR_RECEIVED: every slot bound on the port holds the tolerance, which is sent on less 1 us. -/
def Obligations.link_power_management : Prop :=
  (∀ (s : State) (port : Fin 144) (v : Nat), s.sealed = false → s.vsOfPort port.val = some v → s.role port.val = 0 → s.inL0 port.val = true →
    s.cf (.up v) .aspmL1 = 1 → s.pget F.PP_PM_L1_IDLE port.val ≠ 0 →
    s.lnk.lastTlp.lookD port.val 0 + s.pget F.PP_PM_L1_IDLE port.val * 1000 ≤ s.now →
    (∀ e ∈ s.fwd.trk, ¬ (e.1.1 = port.val / 4 ∧ e.2.slot = port.val % 4)) →
    Runs (.l1IdleTimeout port) s (fun u =>
      u.pget F.PP_STAT_LINK_STATE port.val = 6 ∧ u.lnk.l1Width.look port.val = some (s.pget F.PP_STAT_WIDTH port.val) ∧
      { s with lnk := { s.lnk with l1Width := u.lnk.l1Width } }.only u [⟨.PP_STAT, [port.val / 4, port.val % 4]⟩] [])) ∧
  (∀ (s : State) (port : Fin 144) (v sl : Nat), s.sealed = false → s.portBinding port.val = some (v, sl) → s.role port.val = 1 →
    s.inL0 port.val = true → s.cf (.vdsp v sl) .aspmL1 = 1 →
    Runs (.l1EntryRequest port) s (fun u =>
      u.pget F.PP_STAT_LINK_STATE port.val = 6 ∧ u.lnk.l1Width.look port.val = some (s.pget F.PP_STAT_WIDTH port.val) ∧
      { s with lnk := { s.lnk with l1Width := u.lnk.l1Width } }.only u [⟨.PP_STAT, [port.val / 4, port.val % 4]⟩] [])) ∧
  (∀ (s : State) (port : Fin 144), s.sealed = false → s.pget F.PP_STAT_LINK_STATE port.val = 6 → s.lnk.l1Width.lookD port.val 0 < 32 →
    Runs (.l1Exit port) s (fun u =>
      u.pget F.PP_STAT_WIDTH port.val = s.lnk.l1Width.lookD port.val 0 ∧ u.pget F.PP_STAT_L1_SUB port.val = 0 ∧
      u.pget F.PP_STAT_LINK_STATE port.val = (if s.pget F.PP_STAT_L0P_WIDTH port.val = s.lnk.l1Width.lookD port.val 0 then 3 else 4) ∧
      u.lnk.l1Width.look port.val = none)) ∧
  (∀ (s : State) (port : Fin 144) (high l12 : Bool), s.sealed = false → s.drives port.val false = true →
    Runs (.clkreqNChange port high l12) s (fun u =>
      u.cpw.clkreq.look port.val = some high ∧
      (s.pget F.PP_STAT_LINK_STATE port.val = 6 → u.pget F.PP_STAT_L1_SUB port.val = (if high then (if l12 then 2 else 1) else 0)) ∧
      (s.pget F.PP_STAT_LINK_STATE port.val ≠ 6 → s.keeps u [] []) ∧
      { s with cpw := { s.cpw with clkreq := u.cpw.clkreq } }.only u [⟨.PP_STAT, [port.val / 4, port.val % 4]⟩] [])) ∧
  (∀ (s : State) (port : Fin 144) (pct : Fin 101), s.sealed = false → s.pget F.PP_PM_L0P_EN port.val = 1 → s.inL0 port.val = true →
    s.pget F.PP_STAT_FLIT port.val = 1 →
    Runs (.l0pWindow port pct) s (fun u =>
      (75 < pct.val → u.pget F.PP_STAT_L0P_WIDTH port.val = s.pget F.PP_STAT_WIDTH port.val ∧ u.pget F.PP_STAT_LINK_STATE port.val = 3) ∧
      (25 ≤ pct.val → pct.val ≤ 75 → s.l0pFull port.val pct.val = false → s.keeps u [] []) ∧
      (pct.val < 25 → s.l0pFull port.val pct.val = false → 2 ≤ s.pget F.PP_STAT_L0P_WIDTH port.val →
        s.l0pMin port.val ≤ s.pget F.PP_STAT_L0P_WIDTH port.val / 2 →
        u.pget F.PP_STAT_L0P_WIDTH port.val = s.pget F.PP_STAT_L0P_WIDTH port.val / 2) ∧
      (pct.val < 25 → s.l0pFull port.val pct.val = false → s.pget F.PP_STAT_L0P_WIDTH port.val / 2 < s.l0pMin port.val → s.keeps u [] []) ∧
      { s with lnk := { s.lnk with util := u.lnk.util } }.only u [⟨.PP_STAT, [port.val / 4, port.val % 4]⟩] [])) ∧
  (∀ (s : State) (port : Fin 144) (width : Fin 17), s.sealed = false → s.inL0 port.val = true → s.pget F.PP_STAT_FLIT port.val = 1 →
    width.val ∈ [1, 2, 4, 8, 16] → width.val ≤ s.pget F.PP_STAT_WIDTH port.val → s.l0pMin port.val ≤ width.val →
    (width.val = s.pget F.PP_STAT_WIDTH port.val ∨ s.l0pFull port.val (s.lnk.util.lookD port.val 0) = false) →
    Runs (.l0pPartnerRequest port width) s (fun u =>
      u.pget F.PP_STAT_L0P_WIDTH port.val = width.val ∧
      u.pget F.PP_STAT_LINK_STATE port.val = (if width.val = s.pget F.PP_STAT_WIDTH port.val then 3 else 4) ∧
      s.only u [⟨.PP_STAT, [port.val / 4, port.val % 4]⟩] [])) ∧
  (∀ (s : State) (port : Fin 144) (v sl n : Nat), s.sealed = false → s.boundSlots port.val = [(v, sl)] → s.get F.VST_SLOT_KIND [v, sl] ≠ 0 → sl < 32 →
    (∀ x < 32, x ≠ sl → s.get F.VST_SLOT_KIND [v, x] = 0) → n ≠ s.cf (.up v) .ltrSent - 1 → 1000 ≤ n →
    Runs (.ltrReceived port (some n)) s (fun u =>
      u.cf (.vdsp v sl) .ltr = n + 1 ∧ u.cf (.up v) .ltrSent = n + 1 ∧
      u.sent = s.sent ++ [.tlp (s.upPort v) { kind := .msg, code := 0x10, data := leBytes 8 (n - 1000) }] ∧
      { s with cfg := u.cfg }.only u [] []))

/-- PERST_IN_ASSERT: the input is asserted; if no enabled upstream port follows it, nothing else changes; if one does and no other, every
configuration field of its upstream port function holds its reset value, sticky ones included. PERST_IN_DEASSERT: the input is not asserted,
and nothing else changes. HOT_RESET_RECEIVED on an upstream port whose link is up: every configuration field of the upstream port function
that is not sticky holds its reset value, and the link state is Reset. SECONDARY_BUS_RESET of an active virtual switch: the Command fields
and memory windows of each of its vDSPs hold reset values, and the upstream port function keeps its own. VDSP_SECONDARY_BUS_RESET: a
physical port's link goes to Reset after a hot reset is sent, and a contained vDSP begins its release. PERST_OUT_HOLD_EXPIRY: an output that
nothing asserts and whose HOLD has passed is released; one that is still wanted, or too young, stays. -/
def Obligations.conventional_resets : Prop :=
  (∀ (s : State) (n : Fin 16), s.sealed = false →
    (∀ q < 144, ¬ (s.role q = 0 ∧ s.pget F.PP_RST_PERST_IN_EN q = 1 ∧ s.pget F.PP_RST_PERST_IN_SEL q = n.val ∧ s.pget F.PP_CTL_ENABLE q = 1)) →
    Runs (.perstInAssert n) s (fun u =>
      n.val ∈ u.lnk.perstIn ∧ u.lnk.perstIn.filter (· != n.val) = s.lnk.perstIn.filter (· != n.val) ∧
      { s with lnk := { s.lnk with perstIn := u.lnk.perstIn } }.only u [] [])) ∧
  (∀ (s : State) (n : Fin 16) (p : Fin 144) (v : Nat), s.sealed = false →
    s.role p.val = 0 → s.pget F.PP_RST_PERST_IN_EN p.val = 1 → s.pget F.PP_RST_PERST_IN_SEL p.val = n.val → s.pget F.PP_CTL_ENABLE p.val = 1 →
    s.vsOfPort p.val = some v →
    (∀ q < 144, q ≠ p.val → ¬ (s.pget F.PP_RST_PERST_IN_EN q = 1 ∧ s.pget F.PP_RST_PERST_IN_SEL q = n.val)) →
    Runs (.perstInAssert n) s (fun u => ∀ f ∈ [CfgF.bme, .mse, .memBase, .memLimit, .busSec, .mps, .mrrs, .aerUncMask, .ecrcCheck], u.cf (.up v) f = cfRst f)) ∧
  (∀ (s : State) (n : Fin 16), s.sealed = false →
    Runs (.perstInDeassert n) s (fun u =>
      n.val ∉ u.lnk.perstIn ∧ u.lnk.perstIn.filter (· != n.val) = s.lnk.perstIn.filter (· != n.val) ∧
      { s with lnk := { s.lnk with perstIn := u.lnk.perstIn } }.only u [] [])) ∧
  (∀ (s : State) (port : Fin 144) (v : Nat), s.sealed = false → s.role port.val = 0 → s.pget F.PP_STAT_LINK_STATE port.val ∈ [3, 4, 5, 6] →
    s.vsOfPort port.val = some v →
    Runs (.hotResetReceived port) s (fun u =>
      (∀ f ∈ [CfgF.bme, .mse, .memBase, .memLimit, .prefBase, .ioBase, .busPri, .busSec, .busSub, .mps, .mrrs], u.cf (.up v) f = cfRst f) ∧
      u.cf (.up v) .aerUncMask = s.cf (.up v) .aerUncMask)) ∧
  (∀ (s : State) (vs : Fin 48) (sl : Nat), s.sealed = false → s.get F.VST_STAT_STATE [vs.val] = 1 → sl < 32 →
    Runs (.secondaryBusReset vs) s (fun u =>
      (∀ f ∈ [CfgF.bme, .mse, .memBase, .memLimit, .prefBase, .ioBase, .busSec, .mps], u.cf (.vdsp vs.val sl) f = cfRst f) ∧
      (∀ f ∈ [CfgF.bme, .mse, .memBase, .memLimit, .busSec, .mps], u.cf (.up vs.val) f = s.cf (.up vs.val) f))) ∧
  (∀ (s : State) (vs : Fin 48) (slot : Fin 32), s.sealed = false → s.slotThere vs.val slot.val = true →
    s.get F.VST_SLOT_KIND [vs.val, slot.val] = 0 → (∀ e ∈ s.fwd.trk, e.2.vdsp ≠ s.get F.VST_SLOT_VDSP [vs.val, slot.val]) → s.fwd.lostQ = [] →
    Runs (.vdspSecondaryBusReset vs slot) s (fun u =>
      (s.contained vs.val slot.val = true → s.get F.VST_SLOT_VDSP [vs.val, slot.val] ∈ u.fwd.releasing) ∧
      { s with fwd := { s.fwd with releasing := u.fwd.releasing } }.only u [] [])) ∧
  (∀ (s : State) (vs : Fin 48) (slot : Fin 32) (p : Nat), s.sealed = false → s.slotThere vs.val slot.val = true →
    s.get F.VST_SLOT_KIND [vs.val, slot.val] = 1 → p = s.get F.VST_SLOT_TARGET [vs.val, slot.val] % 256 →
    (∀ e ∈ s.fwd.trk, e.2.vdsp ≠ s.get F.VST_SLOT_VDSP [vs.val, slot.val]) → s.fwd.lostQ = [] → s.pget F.PP_STAT_LINK_STATE p ∈ [3, 4, 5, 6] →
    Runs (.vdspSecondaryBusReset vs slot) s (fun u => u.pget F.PP_STAT_LINK_STATE p = 7 ∧ Out.hotReset p ∈ u.sent)) ∧
  (∀ (s : State) (port : Fin 144) (t : Nat), s.sealed = false → s.perstWanted port.val = false → s.lnk.perstOut.look port.val = some t →
    t + max 100 (s.pget F.PP_RST_HOLD port.val) * 1000 ≤ s.now →
    Runs (.perstOutHoldExpiry port) s (fun u =>
      u.lnk.perstOut.look port.val = none ∧ { s with lnk := { s.lnk with perstOut := u.lnk.perstOut } }.only u [] [])) ∧
  (∀ (s : State) (port : Fin 144) (t : Nat), s.sealed = false → s.lnk.perstOut.look port.val = some t →
    (s.perstWanted port.val = true ∨ (s.drives port.val true = true ∧ s.now < t + max 100 (s.pget F.PP_RST_HOLD port.val) * 1000)) →
    Runs (.perstOutHoldExpiry port) s (fun u => s.only u [] []))

/-- IDE_KM_MESSAGE with valid keys on an upstream port whose link is up: the port holds the key set of the slot. KEY_SET_GO for a key set that
the port holds, in L0: the stream is Secure on that slot, and the port is no longer barred by an earlier failure. IDE_INTEGRITY_FAIL of a
Secure stream: IDE_SECURE is 0 and IDE_FAIL is 1, the INTEGRITY event is raised, the keys are gone, and the port is barred until new keys
make it Secure; of a stream that is not Secure, only store-and-forward is brought up to date. Nothing but the port's own registers and lists
changes on the arrival and use of keys. -/
def Obligations.link_ide_keys_and_failure : Prop :=
  (∀ (s : State) (port : Fin 144) (slot : Fin 2), s.sealed = false → s.role port.val = 0 → s.dlUp port.val = true →
    Runs (.ideKmMessage port slot true) s (fun u =>
      (port.val, slot.val) ∈ u.lnk.ideKeys ∧ u.lnk.ideKeys.filter (· != (port.val, slot.val)) = s.lnk.ideKeys.filter (· != (port.val, slot.val)) ∧
      { s with lnk := { s.lnk with ideKeys := u.lnk.ideKeys } }.only u [] [])) ∧
  (∀ (s : State) (port : Fin 144) (slot : Fin 2), s.sealed = false → (port.val, slot.val) ∈ s.lnk.ideKeys → s.inL0 port.val = true →
    Runs (.keySetGo port slot) s (fun u =>
      u.pget F.PP_STAT_IDE_SECURE port.val = 1 ∧ u.lnk.ideSlot.look port.val = some slot.val ∧ port.val ∉ u.lnk.ideBad ∧
      u.pget F.PP_CTL_SAF port.val = bit (s.pon F.PT_FWD_CTL_FORCE_SAF port.val || !s.pon F.PP_STAT_FLIT port.val) ∧
      { s with lnk := { s.lnk with ideSlot := u.lnk.ideSlot, ideBad := s.lnk.ideBad.filter (· != port.val) } }.only u
        [⟨.PP_STAT, [port.val / 4, port.val % 4]⟩, ⟨.PP_CTL, [port.val / 4, port.val % 4]⟩] [])) ∧
  (∀ (s : State) (port : Fin 144), s.sealed = false → s.pget F.PP_STAT_IDE_SECURE port.val = 1 → s.role port.val = 0 → s.vsOfPort port.val = none →
    s.fwd.tags = [] →
    Runs (.ideIntegrityFail port) s (fun u =>
      u.pget F.PP_STAT_IDE_SECURE port.val = 0 ∧ u.pget F.PP_STAT_IDE_FAIL port.val = 1 ∧ s.raises u (.port port.val 1) 0 ∧
      port.val ∈ u.lnk.ideBad ∧ (∀ k ∈ u.lnk.ideKeys, k.1 ≠ port.val) ∧ u.lnk.ideSlot.look port.val = none ∧ u.mule = s.mule ∧ u.dm = s.dm)) ∧
  (∀ (s : State) (port : Fin 144), s.sealed = false → s.pget F.PP_STAT_IDE_SECURE port.val = 1 → s.role port.val = 1 →
    Runs (.ideIntegrityFail port) s (fun u =>
      u.pget F.PP_STAT_IDE_SECURE port.val = 0 ∧ u.pget F.PP_STAT_IDE_FAIL port.val = 1 ∧ port.val ∈ u.lnk.ideBad ∧
      (∀ k ∈ u.lnk.ideKeys, k.1 ≠ port.val) ∧ u.lnk.ideSlot.look port.val = none)) ∧
  (∀ (s : State) (port : Fin 144), s.sealed = false → s.pget F.PP_STAT_IDE_SECURE port.val = 0 →
    Runs (.ideIntegrityFail port) s (fun u => s.only u [⟨.PP_CTL, [port.val / 4, port.val % 4]⟩] []))

/-- For a command on this device that nothing holds up. NOP changes nothing and is not journaled; the others are. BANK_RESET ends the claim of
its bank set. VDSP_ERRCFG of an allocated slot of an active virtual switch: SYNTH_READ. DM_VF_SET: the lowest range of virtual-function
instances that meets no other range. WIN_WRITE and GATE_WRITE to the inactive bank, lawful and not claimed by another: the entry of that
bank, and the claim. REACH_SET of an entry that is not valid: the entry, its range, and the handle GEN above the index as the result.
REACH_CLEAR of a valid entry that nothing uses: VALID 0, GEN one higher, REACH_CLEARED raised. SHAPE_SET: the shaper's configuration and
limits, its counters 0. JNL_MIRROR: the mirror's ring, counts at 0, from this command's entry on, or off. Other registers, and the parts of
the state that the command does not name, stay. -/
def Obligations.commands_that_change_configuration : Prop :=
  (∀ (s : State) (cx : McrCx), s.mcrReady cx →
    Runs (.nop cx) s (fun u => s.answered u cx 0 = true ∧ u.journal = s.journal ∧ s.mcrOnly u [] [])) ∧
  (∀ (s : State) (cx : McrCx), s.mcrReady cx →
    Runs (.bankReset cx 0) s (fun u => s.answered u cx 0 = true ∧ s.journaled u cx (.bankReset 0) ∧ u.mgr.winClaim = none ∧
      (∀ t < 36, ∀ sl < 4, ∀ w ∈ [0, 15], u.rd ⟨.PT_WIN_E, [t, 1 - s.winBank, sl, w]⟩ = s.rd ⟨.PT_WIN_E, [t, s.winBank, sl, w]⟩ ∧
        u.rd ⟨.PT_WIN_E, [t, s.winBank, sl, w]⟩ = s.rd ⟨.PT_WIN_E, [t, s.winBank, sl, w]⟩))) ∧
  (∀ (s : State) (cx : McrCx) (vs slot synth : Fin 256), s.mcrReady cx → vs.val < 48 → slot.val < 32 → synth.val ≤ 1 →
    s.get F.VST_STAT_STATE [vs.val] = 1 → s.get F.VST_SLOT_ALLOC [vs.val, slot.val] = 1 →
    Runs (.vdspErrcfg cx vs slot synth) s (fun u => s.answered u cx 0 = true ∧ s.journaled u cx (.errCfg vs.val slot.val synth.val) ∧
      u.get F.VST_CONT_SYNTH_READ [vs.val, slot.val] = synth.val ∧ s.mcrOnly u [⟨.VST_CONT, [vs.val, slot.val]⟩] [])) ∧
  (∀ (s : State) (cx : McrCx) (vs : Fin 256) (count : W16), s.mcrReady cx → vs.val < 48 → s.get F.VST_STAT_STATE [vs.val] = 1 → s.cf (.dmf vs.val) .vfEnable ≠ 1 →
    0 < count.toNat → count.toNat ≤ 1024 → (∀ v < 48, v ≠ vs.val → s.get F.DMG_VF_COUNT [v] = 0) →
    Runs (.dmVfSet cx vs count) s (fun u => s.answered u cx 0 = true ∧ s.journaled u cx (.dmVf vs.val count.toNat) ∧
      u.get F.DMG_VF_COUNT [vs.val] = count.toNat ∧ u.get F.DMG_VF_FIRST [vs.val] = 0 ∧
      u.get F.DM_ID_VS [48] = vs.val ∧ u.get F.DM_ID_VS [47 + count.toNat] = vs.val)) ∧
  (∀ (s : State) (cx : McrCx) (bank port entry flags : Fin 256) (base limit : W64) (mask : BitVec 48) (dst : W16), s.mcrReady cx →
    bank.val ≤ 1 → bank.val ≠ s.winBank → port.val < 144 → entry.val < 64 → flags.val ≤ 7 → dst.toNat < 2 ^ 14 →
    base.toNat % 4096 = 0 → limit.toNat % 4096 = 4095 → base.toNat ≤ limit.toNat → s.pget F.PP_CTL_ROLE port.val ≠ 2 → s.shared port.val = false →
    s.mgr.winClaim ∈ [none, some (cx.orig, cx.origId)] →
    Runs (.winWrite cx bank port entry flags base limit mask dst) s (fun u => s.answered u cx 0 = true ∧
      u.get F.PT_WIN_E_EN [port.val / 4, bank.val, port.val % 4, entry.val] = flags.val % 2 ∧
      u.get F.PT_WIN_E_RD [port.val / 4, bank.val, port.val % 4, entry.val] = flags.val / 2 % 2 ∧
      u.get F.PT_WIN_E_WR [port.val / 4, bank.val, port.val % 4, entry.val] = flags.val / 4 % 2 ∧
      u.get F.PT_WIN_E_SRC_MASK [port.val / 4, bank.val, port.val % 4, entry.val] = mask.toNat ∧
      u.rd ⟨.PT_WIN_BASE, [port.val / 4, bank.val, port.val % 4, entry.val]⟩ = base ∧
      u.rd ⟨.PT_WIN_LIMIT, [port.val / 4, bank.val, port.val % 4, entry.val]⟩ = limit ∧ u.mgr.winClaim = some (cx.orig, cx.origId) ∧
      { s with fab := { s.fab with written := u.fab.written } }.mcrOnly u [⟨.PT_WIN_E, [port.val / 4, bank.val, port.val % 4, entry.val]⟩,
        ⟨.PT_WIN_BASE, [port.val / 4, bank.val, port.val % 4, entry.val]⟩, ⟨.PT_WIN_LIMIT, [port.val / 4, bank.val, port.val % 4, entry.val]⟩] [])) ∧
  (∀ (s : State) (cx : McrCx) (bank slot en v o t : Fin 256) (base limit : W32), s.mcrReady cx →
    bank.val ≤ 1 → bank.val ≠ s.gateActive → en.val ≤ 1 → v.val ≤ 7 → o.val ≤ 7 → t.val ≤ 7 → base.toNat < 2 ^ 24 → limit.toNat < 2 ^ 24 →
    s.gateWriteOk slot.val 0 en.val v.val o.val t.val base.toNat limit.toNat = true → s.mgr.gateClaim ∈ [none, some (cx.orig, cx.origId)] →
    Runs (.gateWrite cx bank slot 0 en v o t base limit) s (fun u => s.answered u cx 0 = true ∧
      u.get F.SEC_GATE_BASE_V_PERM [bank.val, slot.val] = v.val ∧ u.get F.SEC_GATE_BASE_O_PERM [bank.val, slot.val] = o.val ∧
      u.get F.SEC_GATE_BASE_T_PERM [bank.val, slot.val] = t.val ∧ u.mgr.gateClaim = some (cx.orig, cx.origId) ∧
      { s with fab := { s.fab with written := u.fab.written } }.mcrOnly u [⟨.SEC_GATE_BASE, [bank.val, slot.val]⟩] [])) ∧
  (∀ (s : State) (cx : McrCx) (entry : W16) (kind flags : Fin 256) (src : W16) (tvs : Fin 256) (tinst : W16) (base limit : W64), s.mcrReady cx →
    entry.toNat < 4096 → kind.val ≤ 1 → flags.val ≤ 7 → src.toNat < 1072 → tvs.val < 48 → tinst.toNat < 1072 →
    base.toNat % 4096 = 0 → limit.toNat % 4096 = 4095 → base.toNat ≤ limit.toNat → s.instActive src.toNat = true →
    (if kind.val = 0 then s.get F.VST_STAT_STATE [tvs.val] = 1 else s.instActive tinst.toNat = true) → s.get F.DMG_REACH_VALID [entry.toNat] = 0 →
    Runs (.reachSet cx entry kind flags src tvs tinst base limit) s (fun u => s.answered u cx 0 = true ∧
      u.get F.DMG_REACH_VALID [entry.toNat] = 1 ∧ u.get F.DMG_REACH_GEN [entry.toNat] = s.get F.DMG_REACH_GEN [entry.toNat] ∧
      u.get F.DMG_REACH_KIND [entry.toNat] = kind.val ∧ u.get F.DMG_REACH_RD [entry.toNat] = flags.val % 2 ∧
      u.get F.DMG_REACH_SRC_INST [entry.toNat] = src.toNat ∧
      (kind.val = 0 → u.get F.DMG_REACH_TARGET_VS [entry.toNat] = tvs.val ∧ u.rd ⟨.DMG_REACH_BASE, [entry.toNat]⟩ = base ∧
        u.rd ⟨.DMG_REACH_LIMIT, [entry.toNat]⟩ = limit) ∧
      (kind.val = 1 → u.get F.DMG_REACH_TARGET_INST [entry.toNat] = tinst.toNat) ∧
      u.journal.getLast?.map (fun e => leAt e.result 0 2) = some (s.get F.DMG_REACH_GEN [entry.toNat] * 4096 + entry.toNat) ∧
      s.mcrOnly u [⟨.DMG_REACH, [entry.toNat]⟩, ⟨.DMG_REACH_BASE, [entry.toNat]⟩, ⟨.DMG_REACH_LIMIT, [entry.toNat]⟩] [])) ∧
  (∀ (s : State) (cx : McrCx) (entry : W16), s.mcrReady cx → entry.toNat < 4096 → s.get F.DMG_REACH_VALID [entry.toNat] = 1 →
    s.get F.DMG_REACH_USE_USE [entry.toNat] = 0 →
    Runs (.reachClear cx entry) s (fun u => s.answered u cx 0 = true ∧ s.journaled u cx (.reachClear entry.toNat) ∧
      u.get F.DMG_REACH_VALID [entry.toNat] = 0 ∧ u.get F.DMG_REACH_GEN [entry.toNat] = (s.get F.DMG_REACH_GEN [entry.toNat] + 1) % 16 ∧
      s.raises u .dmg 0 ∧ s.mcrOnly u [⟨.DMG_REACH, [entry.toNat]⟩] [.dmg])) ∧
  (∀ (s : State) (cx : McrCx) (ix : W16) (cfg lim : W64), s.mcrReady cx → ix.toNat < 1840 →
    Runs (.shapeSet cx ix cfg lim) s (fun u => s.answered u cx 0 = true ∧
      u.rd ⟨.SH_CFG, [ix.toNat]⟩ = readWord (RN.fields .SH_CFG) cfg ∧ u.rd ⟨.SH_LIM, [ix.toNat]⟩ = readWord (RN.fields .SH_LIM) lim ∧
      (∀ c < 3, u.rd ⟨.PMG_SHCNT, [ix.toNat, c]⟩ = 0) ∧
      { s with shp := u.shp }.mcrOnly u (⟨.SH_CFG, [ix.toNat]⟩ :: ⟨.SH_LIM, [ix.toNat]⟩ :: ⟨.SH_STAT, [ix.toNat]⟩ ::
        s.listed (fun r => r.n == RN.PMG_SHCNT && r.ix.head? == some ix.toNat)) [])) ∧
  (∀ (s : State) (cx : McrCx) (size : Fin 256) (base db : W64), s.mcrReady cx → cx.orig = 0 → s.hostIo = true → 4 ≤ size.val → size.val ≤ 20 →
    base.toNat % 4096 = 0 → db.toNat % 16 = 0 →
    Runs (.jnlMirror cx size 1 base db) s (fun u => s.answered u cx 0 = true ∧ u.get F.MGR_JNL_STAT_MIRROR_EN [] = 1 ∧
      u.get F.MGR_JNL_STAT_MIRRORED [] = 0 ∧ u.mgr.mirBase = base.toNat ∧ u.mgr.mirDb = db.toNat ∧ u.mgr.mirSize = size.val ∧
      u.mgr.mirNext = s.get F.MGR_JNL_SEQ_SEQ [] ∧ u.mgr.mirPause = false ∧ s.mcrOnly u [⟨.MGR_JNL_STAT, []⟩] [])) ∧
  (∀ (s : State) (cx : McrCx) (size : Fin 256) (base db : W64), s.mcrReady cx → cx.orig = 0 → s.hostIo = true →
    Runs (.jnlMirror cx size 0 base db) s (fun u => s.answered u cx 0 = true ∧ u.get F.MGR_JNL_STAT_MIRROR_EN [] = 0 ∧
      s.mcrOnly u [⟨.MGR_JNL_STAT, []⟩] []))

/-- For a command on this device that nothing holds up and whose checks pass. VS_CREATE: the virtual switch is Active on its port with its slots
allocated and empty. VS_DELETE: it is Deleting. VS_TCMAP of eight nonzero class codes: the map. VDSP_BIND: the slot's binding is the
physical port, or the function group with its members' entries valid, each naming the slot's vDSP and its function. WIN_SWAP and GATE_SWAP
of an inactive bank without overlap and not claimed by another. In each case exactly one swap of the bank set is queued with the next epoch,
and the command runs on, neither journaled nor answered yet. A swap of an inactive bank with an overlap is answered with OVERLAP, sets the
overlap bit and swaps nothing. -/
def Obligations.commands_that_swap_tables : Prop :=
  (∀ (s : State) (cx : McrCx) (vs port slots : Fin 256), s.mcrReady cx → vs.val < 48 → port.val < 144 → 1 ≤ slots.val → slots.val ≤ 32 →
    s.get F.VST_STAT_STATE [vs.val] = 0 → s.pget F.PP_CTL_ROLE port.val = 0 → s.vsOfPort port.val = none → slots.val ≤ s.get F.VST_GLB_FREE_SLOTS [] →
    ((List.range 1024).filter (fun x => !(s.fwd.own.map (·.1) ++ s.fwd.drains.flatMap (·.vdsps)).contains x)).length ≥ slots.val →
    Runs (.vsCreate cx vs port slots) s (fun u =>
      u.get F.VST_STAT_STATE [vs.val] = 1 ∧ u.get F.VST_STAT_UP_PORT [vs.val] = port.val ∧ u.get F.VST_STAT_SLOTS [vs.val] = slots.val ∧
      u.get F.VST_STAT_MGMT [vs.val] = 0 ∧
      (∀ sl < slots.val, u.get F.VST_SLOT_ALLOC [vs.val, sl] = 1 ∧ u.get F.VST_SLOT_KIND [vs.val, sl] = 0) ∧ vs.val ∈ u.fwd.act ∧
      u.fwd.swaps.map (fun w => (w.set, w.epoch, w.after)) = [(.fwd, (s.fwd.epochs.lookD BankSet.fwd.code 0 + 1) % 2 ^ 32, .mcr)] ∧
      u.mgr.run.map (fun j => (j.cx, j.op)) = some (cx, some (.vsCreate vs.val port.val slots.val)) ∧ u.journal = s.journal)) ∧
  (∀ (s : State) (cx : McrCx) (vs : Fin 256), s.mcrReady cx → vs.val < 48 → s.vsDeleteCheck vs.val = 0 →
    Runs (.vsDelete cx vs) s (fun u =>
      u.get F.VST_STAT_STATE [vs.val] = 2 ∧
      u.fwd.swaps.map (fun w => (w.set, w.epoch, w.after)) = [(.fwd, (s.fwd.epochs.lookD BankSet.fwd.code 0 + 1) % 2 ^ 32, .mcr)] ∧
      u.mgr.run.map (fun j => (j.cx, j.op)) = some (cx, some (.vsDelete vs.val)) ∧ u.journal = s.journal ∧ u.cfg = s.cfg)) ∧
  (∀ (s : State) (cx : McrCx) (vs : Fin 256) (map : W16), s.mcrReady cx → vs.val < 48 → s.get F.VST_STAT_STATE [vs.val] = 1 →
    (∀ k < 8, map.toNat / 4 ^ k % 4 ≠ 0) →
    Runs (.vsTcmap cx vs map) s (fun u =>
      u.get F.VST_TCMAP_MAP [vs.val] = map.toNat ∧
      u.fwd.swaps.map (fun w => (w.set, w.epoch, w.after)) = [(.fwd, (s.fwd.epochs.lookD BankSet.fwd.code 0 + 1) % 2 ^ 32, .mcr)] ∧
      u.mgr.run.map (fun j => (j.cx, j.op)) = some (cx, some (.vsTcmap vs.val map.toNat)) ∧ u.journal = s.journal ∧ u.cfg = s.cfg)) ∧
  (∀ (s : State) (cx : McrCx) (vs slot port : Fin 256), s.mcrReady cx → vs.val < 48 → slot.val < 32 → port.val < 144 →
    s.slotCheck vs.val slot.val = 0 → s.targetCheck port.val = 0 →
    Runs (.vdspBind cx vs slot port) s (fun u =>
      u.get F.VST_SLOT_KIND [vs.val, slot.val] = 1 ∧ u.get F.VST_SLOT_TARGET [vs.val, slot.val] = port.val ∧
      u.get F.VST_SLOT_NFUNC [vs.val, slot.val] = 0 ∧ u.get F.VST_SLOT_VDSP [vs.val, slot.val] = s.get F.VST_SLOT_VDSP [vs.val, slot.val] ∧
      u.get F.VST_SLOT_PRESENT [vs.val, slot.val] = s.get F.VST_SLOT_PRESENT [vs.val, slot.val] ∧
      u.fwd.swaps.map (fun w => (w.set, w.epoch, w.after)) = [(.fwd, (s.fwd.epochs.lookD BankSet.fwd.code 0 + 1) % 2 ^ 32, .mcr)] ∧
      u.mgr.run.map (fun j => (j.cx, j.op)) = some (cx, some (.bind vs.val slot.val port.val)) ∧ u.journal = s.journal)) ∧
  (∀ (s : State) (cx : McrCx) (vs slot port pf : Fin 256) (rid : W16) (k : Nat), s.mcrReady cx → vs.val < 48 → slot.val < 32 → port.val < 144 → pf.val = 0 →
    s.slotCheck vs.val slot.val = 0 → s.groupCheck [(port.val, rid.toNat, pf.val)] = 0 → s.freeFbs 1 = some [k] →
    Runs (.vdspBindGroup cx vs slot [(port, rid, pf)]) s (fun u =>
      u.get F.VST_SLOT_KIND [vs.val, slot.val] = 2 ∧ u.get F.VST_SLOT_NFUNC [vs.val, slot.val] = 1 ∧
      u.get F.VST_FB_A_VALID [k] = 1 ∧ u.get F.VST_FB_A_VS [k] = vs.val ∧ u.get F.VST_FB_A_VDSP [k] = s.get F.VST_SLOT_VDSP [vs.val, slot.val] ∧
      u.get F.VST_FB_A_SHARED_PORT [k] = port.val ∧ u.get F.VST_FB_A_REAL_RID [k] = rid.toNat ∧ u.get F.VST_FB_A_PFUNC [k] = 0 ∧
      u.fwd.swaps.map (fun w => (w.set, w.epoch, w.after)) = [(.fwd, (s.fwd.epochs.lookD BankSet.fwd.code 0 + 1) % 2 ^ 32, .mcr)] ∧
      u.mgr.run.map (fun j => j.cx) = some cx ∧ u.journal = s.journal)) ∧
  (∀ (s : State) (cx : McrCx), s.mcrReady cx → s.mgr.winClaim ∈ [none, some (cx.orig, cx.origId)] → s.winOverlap (1 - s.winBank) = false →
    Runs (.winSwap cx) s (fun u =>
      u.fwd.swaps.map (fun w => (w.set, w.epoch, w.after)) = [(.win, (s.fwd.epochs.lookD BankSet.win.code 0 + 1) % 2 ^ 32, .mcr)] ∧
      u.mgr.run.map (fun j => (j.cx, j.op)) = some (cx, some .winSwap) ∧ u.journal = s.journal ∧ u.cfg = s.cfg ∧ u.mule = s.mule)) ∧
  (∀ (s : State) (cx : McrCx), s.mcrReady cx → s.mgr.winClaim ∈ [none, some (cx.orig, cx.origId)] → s.winOverlap (1 - s.winBank) = true →
    Runs (.winSwap cx) s (fun u =>
      s.answered u cx 0x18 = true ∧ u.get F.SEC_GATE_CTL_WIN_OVERLAP [] = 1 ∧ s.raises u .sec 2 ∧ u.fwd.swaps = [] ∧ u.journal = s.journal ∧
      s.mcrOnly u [⟨.SEC_GATE_CTL, []⟩, ⟨.PMG_CNT, [4]⟩] [.sec, .pmg])) ∧
  (∀ (s : State) (cx : McrCx), s.mcrReady cx → s.mgr.gateClaim ∈ [none, some (cx.orig, cx.origId)] → s.gateOverlap (1 - s.gateActive) = false →
    Runs (.gateSwap cx) s (fun u =>
      u.fwd.swaps.map (fun w => (w.set, w.epoch, w.after)) = [(.gate, (s.fwd.epochs.lookD BankSet.gate.code 0 + 1) % 2 ^ 32, .mcr)] ∧
      u.mgr.run.map (fun j => (j.cx, j.op)) = some (cx, some .gateSwap) ∧ u.journal = s.journal ∧ u.cfg = s.cfg ∧ u.mule = s.mule))

/-- For a command on this device that nothing holds up, on an allocated slot of an active virtual switch with a binding. ORDERLY while slot
power is on: UNBIND_PEND is 1, the host sees Attention Button Pressed, and the command is parked until slot power goes off or the wait of w
seconds ends. ORDERLY while slot power is off, and FORCED, of a physical port: the binding is empty at once, the port stays held by its
drain, and the command is parked for the drain. FORCED first contains a vDSP that is not contained, for cause 8. UNBIND_WAIT_TIMEOUT after
the wait: UNBIND_PEND is 0, the event is raised, the binding stays, and the command is no longer parked. -/
def Obligations.unbinding : Prop :=
  (∀ (s : State) (cx : McrCx) (vs slot wait : Fin 256), s.mcrReady cx → vs.val < 48 → slot.val < 32 → 1 ≤ wait.val → wait.val ≤ 60 →
    s.get F.VST_STAT_STATE [vs.val] = 1 → s.get F.VST_SLOT_ALLOC [vs.val, slot.val] = 1 → s.get F.VST_SLOT_KIND [vs.val, slot.val] ≠ 0 →
    s.get F.VST_SLOT_UNBIND_PEND [vs.val, slot.val] = 0 → s.cf (.vdsp vs.val slot.val) .slotPower ≠ 1 →
    Runs (.vdspUnbindOrderly cx vs slot wait) s (fun u =>
      u.get F.VST_SLOT_UNBIND_PEND [vs.val, slot.val] = 1 ∧ u.cf (.vdsp vs.val slot.val) .attnButton = 1 ∧
      u.get F.VST_SLOT_KIND [vs.val, slot.val] = s.get F.VST_SLOT_KIND [vs.val, slot.val] ∧
      u.mgr.parked.map (fun e => (e.1.cx, e.2)) = [(cx, .unbind vs.val slot.val)] ∧
      u.vsx.unbinds.getLast?.map (fun w => (w.vs, w.slot, w.till)) = some (vs.val, slot.val, s.now + wait.val * 1000000000) ∧
      { s with vsx := { s.vsx with unbinds := u.vsx.unbinds }, cfg := u.cfg }.mcrOnly u [⟨.VST_SLOT, [vs.val, slot.val]⟩] [])) ∧
  (∀ (s : State) (cx : McrCx) (vs slot wait : Fin 256), s.mcrReady cx → vs.val < 48 → slot.val < 32 → 1 ≤ wait.val → wait.val ≤ 60 →
    s.get F.VST_STAT_STATE [vs.val] = 1 → s.get F.VST_SLOT_ALLOC [vs.val, slot.val] = 1 → s.get F.VST_SLOT_KIND [vs.val, slot.val] = 1 →
    s.get F.VST_SLOT_UNBIND_PEND [vs.val, slot.val] = 0 → s.cf (.vdsp vs.val slot.val) .slotPower = 1 →
    Runs (.vdspUnbindOrderly cx vs slot wait) s (fun u =>
      u.get F.VST_SLOT_KIND [vs.val, slot.val] = 0 ∧ u.get F.VST_SLOT_UNBIND_PEND [vs.val, slot.val] = 0 ∧
      u.get F.VST_SLOT_PRESENT [vs.val, slot.val] = 0 ∧
      u.fwd.drains.getLast?.map (fun d => (d.port, d.vs, d.slot)) = some (some (s.get F.VST_SLOT_TARGET [vs.val, slot.val] % 256), vs.val, slot.val) ∧
      u.mgr.parked.map (fun e => (e.1.cx, e.2)) = [(cx, .drain ((s.fwd.epochs.lookD BankSet.fwd.code 0 + 1) % 2 ^ 32))])) ∧
  (∀ (s : State) (cx : McrCx) (vs slot : Fin 256), s.mcrReady cx → vs.val < 48 → slot.val < 32 →
    s.get F.VST_STAT_STATE [vs.val] = 1 → s.get F.VST_SLOT_ALLOC [vs.val, slot.val] = 1 → s.get F.VST_SLOT_KIND [vs.val, slot.val] = 1 →
    Runs (.vdspUnbindForced cx vs slot) s (fun u =>
      u.get F.VST_SLOT_KIND [vs.val, slot.val] = 0 ∧ u.get F.VST_SLOT_PRESENT [vs.val, slot.val] = 0 ∧
      (s.contained vs.val slot.val = false → u.get F.VST_CONT_CONTAINED [vs.val, slot.val] = 1 ∧ u.get F.VST_CONT_CAUSE [vs.val, slot.val] = 8) ∧
      u.fwd.drains.getLast?.map (fun d => (d.port, d.vs, d.slot)) = some (some (s.get F.VST_SLOT_TARGET [vs.val, slot.val] % 256), vs.val, slot.val) ∧
      u.mgr.parked.map (fun e => (e.1.cx, e.2)) = [(cx, .drain ((s.fwd.epochs.lookD BankSet.fwd.code 0 + 1) % 2 ^ 32))])) ∧
  (∀ (s : State) (vs : Fin 48) (slot : Fin 32) (j : McrJob), s.sealed = false → s.restarting = false → s.mgr.queue = [] →
    s.mgr.parked = [(j, .unbind vs.val slot.val)] → s.mgr.run = none →
    (∃ w ∈ s.vsx.unbinds, w.vs = vs.val ∧ w.slot = slot.val ∧ w.till ≤ s.now) →
    Runs (.unbindWaitTimeout vs slot) s (fun u =>
      u.get F.VST_SLOT_UNBIND_PEND [vs.val, slot.val] = 0 ∧ u.mgr.parked = [] ∧ (∀ w ∈ u.vsx.unbinds, ¬ (w.vs = vs.val ∧ w.slot = slot.val)) ∧
      u.get F.VST_SLOT_KIND [vs.val, slot.val] = s.get F.VST_SLOT_KIND [vs.val, slot.val] ∧ s.raises u .vst 1 ∧ u.journal = s.journal ∧
      (j.cx.orig = 0 → j.gen = s.mgr.gen → s.answered u j.cx 0x15 = true)))

/-- For a command on this device that nothing holds up. SHARED_PORT_SET of a downstream port that is free, with functions that fit the private
ranges: the port is shared with these parameters and functions. SHARED_PORT_CLR of a shared port without members: it is shared no more.
SHARED_PORT_RECONFIG of a port in L0 that waits for it: it waits no more. FN_CFG of a function that is in no group, on a shared port in L0:
one configuration request goes out with requester ID 255, and the answer is OK with the completion's data and status. BIND_READ of a binding
that is no function group: OK, nothing written. VDSP_BIND of a remote port on the acting device: the command is parked for a fabric
transaction of the two devices. Other state stays. -/
def Obligations.shared_ports_and_function_configuration : Prop :=
  (∀ (s : State) (cx : McrCx) (port buses mps mrrs : Fin 256) (base limit : W64) (nvf : List W16) (l : List SharedFn), s.mcrReady cx →
    port.val < 144 → 1 ≤ buses.val → buses.val ≤ 8 → mps.val ≤ 5 → mrrs.val ≤ 5 → base.toNat ≤ limit.toNat → s.pget F.PP_CTL_ROLE port.val = 1 →
    s.shared port.val = false → s.portTaken port.val = false → s.winNames port.val = false → fnsFit l buses.val base.toNat limit.toNat = true →
    Runs (.sharedPortSet cx port buses mps mrrs base limit nvf (some l)) s (fun u =>
      s.answered u cx 0 = true ∧ u.shared port.val = true ∧
      u.vsx.shared = s.vsx.shared ++ [⟨port.val, buses.val, base.toNat, limit.toNat + 1 - base.toNat, mps.val, mrrs.val, l⟩] ∧
      { s with vsx := { s.vsx with shared := u.vsx.shared } }.mcrOnly u [] [])) ∧
  (∀ (s : State) (cx : McrCx) (port : Fin 256), s.mcrReady cx → port.val < 144 → s.shared port.val = true →
    (∀ k ∈ s.snap.fbs, s.get F.VST_FB_A_SHARED_PORT [k] ≠ port.val) →
    Runs (.sharedPortClr cx port) s (fun u =>
      s.answered u cx 0 = true ∧ u.vsx.shared = s.vsx.shared.filter (fun x => x.port != port.val) ∧ u.shared port.val = false ∧
      { s with vsx := { s.vsx with shared := u.vsx.shared, reconfig := s.vsx.reconfig.filter (· != port.val) } }.mcrOnly u [] [])) ∧
  (∀ (s : State) (port : Fin 144), s.sealed = false → port.val ∈ s.vsx.reconfig → s.inL0 port.val = true → s.boundSlots port.val = [] →
    s.fwd.rbound.look port.val = none →
    Runs (.sharedPortReconfig port) s (fun u =>
      port.val ∉ u.vsx.reconfig ∧ { s with vsx := { s.vsx with reconfig := s.vsx.reconfig.filter (· != port.val) } }.only u [] [])) ∧
  (∀ (s : State) (cx : McrCx) (port : Fin 256) (rid off : W16) (be : Fin 256) (st : Fin 8) (d : W32), s.mcrReady cx → port.val < 144 →
    off.toNat < 4096 → off.toNat % 4 = 0 → be.val ≤ 15 → s.shared port.val = true → (s.snap.fbByRid port.val rid.toNat).isNone = true →
    s.inL0 port.val = true →
    Runs (.fnCfgRead cx port rid off be (some (st, d))) s (fun u =>
      s.answered u cx 0 = true ∧ u.journal = s.journal ∧
      (u.sent.drop s.sent.length).any (fun o => match o with
        | .tlp p t => p == port.val && t.kind == .cfgrd && t.rid == 255 && t.tid == rid.toNat && t.addr == off.toNat && t.len == 4
        | _ => false) = true ∧ s.mcrOnly u [] [])) ∧
  (∀ (s : State) (cx : McrCx) (port : Fin 256) (rid off : W16) (be : Fin 256) (data : W32) (st : Fin 8) (d : W32), s.mcrReady cx → port.val < 144 →
    off.toNat < 4096 → off.toNat % 4 = 0 → be.val ≤ 15 → s.shared port.val = true → (s.snap.fbByRid port.val rid.toNat).isNone = true →
    s.inL0 port.val = true →
    Runs (.fnCfgWrite cx port rid off be data (some (st, d))) s (fun u =>
      s.answered u cx 0 = true ∧ s.journaled u cx (.fnCfg port.val rid.toNat off.toNat 1 be.val data.toNat) ∧
      (u.sent.drop s.sent.length).any (fun o => match o with
        | .tlp p t => p == port.val && t.kind == .cfgwr && t.rid == 255 && t.tid == rid.toNat && t.addr == off.toNat && t.data == leBytes 4 data.toNat
        | _ => false) = true ∧ s.mcrOnly u [] [])) ∧
  (∀ (s : State) (cx : McrCx) (vs slot : Fin 256) (buf : W64) (ok : Bool), s.mcrReady cx → cx.orig = 0 → s.hostIo = true → vs.val < 48 → slot.val < 32 →
    s.slotThere vs.val slot.val = true → s.get F.VST_SLOT_KIND [vs.val, slot.val] ≠ 2 →
    Runs (.bindRead cx vs slot buf ok) s (fun u => s.answered u cx 0 = true ∧ u.journal = s.journal ∧ s.mcrOnly u [] [])) ∧
  (∀ (s : State) (cx : McrCx) (vs slot : Fin 256) (buf : W64), s.mcrReady cx → cx.orig = 0 → s.hostIo = true → vs.val < 48 → slot.val < 32 →
    s.slotThere vs.val slot.val = true → s.get F.VST_SLOT_KIND [vs.val, slot.val] = 2 →
    Runs (.bindRead cx vs slot buf true) s (fun u => s.answered u cx 0 = true ∧ u.journal = s.journal ∧
      (u.sent.drop s.sent.length).any (fun o => match o with
        | .hostWrite .mgmt a b _ _ _ => a == buf.toNat && b.length == 96 * (s.entriesOfVdsp (s.get F.VST_SLOT_VDSP [vs.val, slot.val])).length
        | _ => false) = true ∧ s.mcrOnly u [] [])) ∧
  (∀ (s : State) (cx : McrCx) (vs slot : Fin 256) (gpid : W16) (up : Fin 256), s.mcrReady cx → vs.val < 48 → slot.val < 32 → gpid.toNat < 2 ^ 14 →
    s.controlPlane cx = true → s.acting = true → s.devNum ∈ s.fab.devs → gpid.toNat / 256 ∈ s.fab.devs → gpid.toNat / 256 ≠ s.devNum →
    s.slotCheck vs.val slot.val = 0 → (routeOf s.fab.links (s.get F.FAB_DEV_MGR []) s.devNum (gpid.toNat / 256)).isSome = true →
    (routeOf s.fab.links (s.get F.FAB_DEV_MGR []) (gpid.toNat / 256) s.devNum).isSome = true →
    Runs (.vdspBindRemote cx vs slot gpid up) s (fun u =>
      u.mgr.parked.map (fun e => (e.1.cx, e.2)) = [(cx, .txn)] ∧
      ((u.fab.txn.toList ++ u.fab.waiting).any (fun x => x.devs == [s.devNum, gpid.toNat / 256] &&
        x.chg == [(s.devNum, .bind vs.val slot.val gpid.toNat), (gpid.toNat / 256, .rbind (gpid.toNat % 256) (s.devNum * 256 + s.upPort vs.val))])) = true ∧
      u.get F.VST_SLOT_KIND [vs.val, slot.val] = 0))

/-- For a command on this device that nothing holds up. PROG_LOAD into an Empty slot: an image that breaks a rule of R425 is answered with
BAD_IMAGE and nothing changes; one that passes verification (whose signature check is a free value of the model) makes the slot Loaded with
the image's flags and version and the mask and raises PROG_STATE, one that fails is answered with AUTH_FAIL or ROLLBACK and leaves the slot.
PROG_UNLOAD of a Loaded slot that nothing uses: it is Empty. KEY_FUSE of a free operator slot: its fuse bit is 1 and the modulus read is
kept. KEY_REVOKE: the slot's revoked bit is 1; revoking the running image's vendor slot or the last one is BAD_STATE and changes nothing.
SVN_COMMIT from the minimum up to its top: that minimum. STATS_SNAP within a group: one write of the header and its elements. MGMT_RESTART:
OK, then a restart for reason 1. IDE_KEY on a downstream port: start and new keys make a stream in L0 Secure when IDE_KM succeeds, stop ends
it. Other state stays. -/
def Obligations.programs_keys_and_statistics : Prop :=
  (∀ (s : State) (cx : McrCx) (slot : Fin 256) (addr : W64) (len : W32) (mask : BitVec 48) (b : List Byte), s.mcrReady cx → cx.orig = 0 → s.hostIo = true →
    slot.val < 4 → s.secDown = false → s.get F.DMG_PROG_STATE [slot.val] = 0 → imageOk 0 len.toNat b = true →
    Runs (.progLoad cx slot addr len mask (some b)) s (fun u =>
      (s.progVerify len.toNat b = 0 →
        s.answered u cx 0 = true ∧ s.journaled u cx (.progLoad slot.val addr.toNat len.toNat mask.toNat) ∧
        u.get F.DMG_PROG_STATE [slot.val] = 2 ∧ u.get F.DMG_PROG_IDEMPOTENT [slot.val] = leAt b 6 2 % 2 ∧
        u.get F.DMG_PROG_CHUNKED [slot.val] = leAt b 6 2 / 2 % 2 ∧ u.get F.DMG_PROG_IMAGE_VERSION [slot.val] = leAt b 28 4 ∧
        u.get F.DMG_PROG_MASK_VS_MASK [slot.val] = mask.toNat ∧ u.get F.DMG_PROG_LEN_SVN [slot.val] = leAt b 32 4 ∧
        u.mule.images.look slot.val = some b ∧ s.raises u .dmg 1) ∧
      (s.progVerify len.toNat b ≠ 0 →
        s.answered u cx (s.progVerify len.toNat b) = true ∧ u.journal = s.journal ∧ s.mcrOnly u [] [.sec] ∧
        (s.get F.SEC_FUSE_MIN_PROG [] ≤ leAt b 32 4 → s.progVerify len.toNat b = 0x21 ∧ s.raises u .sec 4)))) ∧
  (∀ (s : State) (cx : McrCx) (slot : Fin 256) (addr : W64) (len : W32) (mask : BitVec 48) (b : List Byte), s.mcrReady cx → cx.orig = 0 → s.hostIo = true →
    slot.val < 4 → s.secDown = false → s.get F.DMG_PROG_STATE [slot.val] = 0 → imageOk 0 len.toNat b = false →
    Runs (.progLoad cx slot addr len mask (some b)) s (fun u => s.answered u cx 0x20 = true ∧ u.journal = s.journal ∧ s.mcrOnly u [] [])) ∧
  (∀ (s : State) (cx : McrCx) (slot : Fin 256), s.mcrReady cx → slot.val < 4 → s.get F.DMG_PROG_STATE [slot.val] = 2 → s.get F.DMG_PROG_USE_USE [slot.val] = 0 →
    Runs (.progUnload cx slot) s (fun u =>
      s.answered u cx 0 = true ∧ s.journaled u cx (.progUnload slot.val) ∧ u.get F.DMG_PROG_STATE [slot.val] = 0 ∧
      u.mule.images.look slot.val = none ∧ s.raises u .dmg 1 ∧
      { s with mule := { s.mule with images := u.mule.images }, sec := { s.sec with meas := u.sec.meas } }.mcrOnly u
        (⟨.DMG_PROG, [slot.val]⟩ :: ⟨.DMG_PROG_MASK, [slot.val]⟩ :: ⟨.DMG_PROG_LEN, [slot.val]⟩ ::
          (List.range 16).map (fun k => ⟨.MCL_PROG, [k, slot.val]⟩)) [.dmg])) ∧
  (∀ (s : State) (cx : McrCx) (slot : Fin 256) (addr : W64) (b : List Byte), s.mcrReady cx → cx.orig = 0 → s.hostIo = true → slot.val < 4 →
    (s.get F.SEC_FUSE_O_FUSED []).testBit slot.val = false → b.length = 384 →
    Runs (.keyFuse cx slot addr (some b) true) s (fun u =>
      s.answered u cx 0 = true ∧ s.journaled u cx (.keyFuse slot.val addr.toNat) ∧
      u.get F.SEC_FUSE_O_FUSED [] = s.get F.SEC_FUSE_O_FUSED [] + 2 ^ slot.val ∧ u.sec.moduli.look slot.val = some b ∧
      u.sec.oper.look slot.val = some (Config.sha256 b) ∧
      { s with sec := { s.sec with oper := u.sec.oper, moduli := u.sec.moduli, meas := u.sec.meas } }.mcrOnly u [⟨.SEC_FUSE, []⟩] [])) ∧
  (∀ (s : State) (cx : McrCx) (kind slot : Fin 256), s.mcrReady cx → cx.orig ≠ 3 → slot.val < 4 → kind.val ≤ 1 →
    (kind.val = 0 → slot.val ≠ s.sec.keyId ∧ s.lastVendor slot.val = false) →
    Runs (.keyRevoke cx kind slot) s (fun u =>
      s.answered u cx 0 = true ∧ s.journaled u cx (.keyRevoke kind.val slot.val) ∧
      (∀ k < 4, (u.get F.SEC_FUSE_O_REVOKED []).testBit k = ((s.get F.SEC_FUSE_O_REVOKED []).testBit k || (kind.val == 1 && k == slot.val))) ∧
      (∀ k < 4, (u.get F.SEC_FUSE_V_REVOKED []).testBit k = ((s.get F.SEC_FUSE_V_REVOKED []).testBit k || (kind.val == 0 && k == slot.val))) ∧
      { s with sec := { s.sec with meas := u.sec.meas } }.mcrOnly u [⟨.SEC_FUSE, []⟩] [])) ∧
  (∀ (s : State) (cx : McrCx) (slot : Fin 256), s.mcrReady cx → cx.orig ≠ 3 → slot.val < 4 → (slot.val = s.sec.keyId ∨ s.lastVendor slot.val = true) →
    Runs (.keyRevoke cx 0 slot) s (fun u => s.answered u cx 0x10 = true ∧ u.journal = s.journal ∧ s.mcrOnly u [] [])) ∧
  (∀ (s : State) (cx : McrCx) (kind svn : Fin 256), s.mcrReady cx → cx.orig ≠ 3 → svn.val ≤ 64 → kind.val ≤ 2 →
    (kind.val = 0 → s.get F.SEC_FUSE_MIN_BOOT [] ≤ svn.val ∧ svn.val ≤ s.get F.SEC_BOOT_SVN []) →
    (kind.val = 1 → s.get F.SEC_FUSE_MIN_MULE [] ≤ svn.val ∧ svn.val ≤ s.sec.muleSvn) → (kind.val = 2 → s.get F.SEC_FUSE_MIN_PROG [] ≤ svn.val) →
    Runs (.svnCommit cx kind svn) s (fun u =>
      s.answered u cx 0 = true ∧ s.journaled u cx (.svnCommit kind.val svn.val) ∧
      u.get F.SEC_FUSE_MIN_BOOT [] = (if kind.val = 0 then svn.val else s.get F.SEC_FUSE_MIN_BOOT []) ∧
      u.get F.SEC_FUSE_MIN_MULE [] = (if kind.val = 1 then svn.val else s.get F.SEC_FUSE_MIN_MULE []) ∧
      u.get F.SEC_FUSE_MIN_PROG [] = (if kind.val = 2 then svn.val else s.get F.SEC_FUSE_MIN_PROG []) ∧
      { s with sec := { s.sec with meas := u.sec.meas } }.mcrOnly u [⟨.SEC_FUSE, []⟩] [])) ∧
  (∀ (s : State) (cx : McrCx) (svn : Fin 256), s.mcrReady cx → cx.orig ≠ 3 → svn.val ≤ 64 →
    (svn.val < s.get F.SEC_FUSE_MIN_BOOT [] ∨ s.get F.SEC_BOOT_SVN [] < svn.val) →
    Runs (.svnCommit cx 0 svn) s (fun u => s.answered u cx 4 = true ∧ u.journal = s.journal ∧ s.mcrOnly u [] [])) ∧
  (∀ (s : State) (cx : McrCx) (group : Fin 256) (first count : W16) (buf : W64), s.mcrReady cx → cx.orig = 0 → s.hostIo = true → group.val ≤ 8 →
    first.toNat + count.toNat ≤ (statsShape group.val).1 →
    Runs (.statsSnap cx group first count buf true) s (fun u =>
      s.answered u cx 0 = true ∧ u.journal = s.journal ∧
      (u.sent.drop s.sent.length).any (fun o => match o with
        | .hostWrite .mgmt a d _ _ _ => a == buf.toNat && d.length == 16 + count.toNat * (8 + 8 * (statsShape group.val).2) && leAt d 0 2 == group.val &&
            leAt d 2 2 == first.toNat && leAt d 4 2 == count.toNat
        | _ => false) = true ∧ s.mcrOnly u [] [])) ∧
  (∀ (s : State) (cx : McrCx), s.mcrReady cx →
    Runs (.mgmtRestart cx) s (fun u => s.answered u cx 0 = true ∧ s.journaled u cx .mgmtRestart ∧ u.mgr.restart = some 1 ∧ s.mcrOnly u [] [])) ∧
  (∀ (s : State) (cx : McrCx) (port : Fin 256), s.mcrReady cx → port.val < 144 → s.role port.val = 1 → s.secDown = false → s.inL0 port.val = true →
    Runs (.ideKeyStart cx port true) s (fun u =>
      s.answered u cx 0 = true ∧ s.journaled u cx (.ideKey port.val 0) ∧ u.pget F.PP_STAT_IDE_SECURE port.val = 1 ∧ u.lnk.ideSlot.look port.val = some 0 ∧
      port.val ∉ u.lnk.ideBad ∧
      { s with lnk := { s.lnk with ideKeys := u.lnk.ideKeys, ideSlot := u.lnk.ideSlot, ideBad := u.lnk.ideBad } }.mcrOnly u
        [⟨.PP_STAT, [port.val / 4, port.val % 4]⟩, ⟨.PP_CTL, [port.val / 4, port.val % 4]⟩] [])) ∧
  (∀ (s : State) (cx : McrCx) (port : Fin 256), s.mcrReady cx → port.val < 144 → s.role port.val = 1 → s.secDown = false → s.inL0 port.val = true →
    s.pget F.PP_STAT_IDE_SECURE port.val = 1 →
    Runs (.ideKeyNew cx port true) s (fun u =>
      s.answered u cx 0 = true ∧ u.pget F.PP_STAT_IDE_SECURE port.val = 1 ∧
      (s.lnk.ideSlot.look port.val = some 0 → u.lnk.ideSlot.look port.val = some 1) ∧
      (s.lnk.ideSlot.look port.val = some 1 → u.lnk.ideSlot.look port.val = some 0))) ∧
  (∀ (s : State) (cx : McrCx) (port : Fin 256), s.mcrReady cx → port.val < 144 → s.role port.val = 1 →
    Runs (.ideKeyStop cx port) s (fun u =>
      s.answered u cx 0 = true ∧ u.pget F.PP_STAT_IDE_SECURE port.val = 0 ∧ u.lnk.ideSlot.look port.val = none ∧
      (∀ k ∈ u.lnk.ideKeys, k.1 ≠ port.val) ∧ u.lnk.ideBad = s.lnk.ideBad))

/-- Outside the safe state and a restart. A permitted nudge of an enabled ring, and a poll once its interval has passed, read the 16 bytes of
the doorbell record and keep its two counts; a count out of its range, a failed doorbell read or a failed entry read sets its bit and ERROR
and raises MCR_ERROR. While Bus Master Enable is 0 a nudge only makes the read wait. A fetch reads the 64 bytes of the next entry; a NOP is
answered with OK and an entry of another ABI version with BAD_ABI, and the number fetched grows by one. A ring base is written while EN is 0
and its alignment holds, else CFG_REFUSED is set; enabling the ring starts its counts at 0. -/
def Obligations.command_ring : Prop :=
  (∀ (s : State) (who : Init) (t h : W32), s.granted who true ⟨.MGR_NUDGE, []⟩ 4 → s.mcrOn = true → s.hostIo = true → s.restarting = false →
    (t.toNat + 2 ^ 32 - s.mgr.fetched) % 2 ^ 32 ≤ 2 ^ s.get F.MGR_MCR_CFG_CMD_SIZE [] →
    (s.get F.MGR_MCR_STAT_RSP_WRITTEN [] + 2 ^ 32 - h.toNat) % 2 ^ 32 ≤ 2 ^ s.get F.MGR_MCR_CFG_RSP_SIZE [] →
    Runs (.mcrNudge who (some (t, h))) s (fun u =>
      (u.sent.drop s.sent.length).head? = some (.hostRead .mgmt (s.rd ⟨.MGR_DB_ADDR, []⟩).toNat 16) ∧
      { s with mgr := { s.mgr with want := false, pollAt := s.now, tail := t.toNat, rspHead := h.toNat } }.only u [] [])) ∧
  (∀ (s : State) (who : Init) (t h : W32), s.granted who true ⟨.MGR_NUDGE, []⟩ 4 → s.mcrOn = true → s.hostIo = true → s.restarting = false →
    2 ^ s.get F.MGR_MCR_CFG_CMD_SIZE [] < (t.toNat + 2 ^ 32 - s.mgr.fetched) % 2 ^ 32 →
    Runs (.mcrNudge who (some (t, h))) s (fun u =>
      u.get F.MGR_MCR_STAT_RANGE [] = 1 ∧ u.get F.MGR_MCR_STAT_ERROR [] = 1 ∧ s.raises u .mgr 0 ∧
      { s with mgr := { s.mgr with want := false, pollAt := s.now } }.only u [⟨.MGR_MCR_STAT, []⟩] [.mgr])) ∧
  (∀ (s : State) (who : Init) (rec : Option (W32 × W32)), s.granted who true ⟨.MGR_NUDGE, []⟩ 4 → s.mcrOn = true → s.hostIo = false →
    Runs (.mcrNudge who rec) s (fun u => { s with mgr := { s.mgr with want := true } }.only u [] [])) ∧
  (∀ (s : State) (t h : W32), s.sealed = false → s.mcrOn = true → s.hostIo = true → s.restarting = false →
    s.get F.MGR_MCR_CFG_POLL [] ≠ 0 → s.mgr.pollAt + 1000 * min 1000 (s.get F.MGR_MCR_CFG_POLL []) ≤ s.now →
    (t.toNat + 2 ^ 32 - s.mgr.fetched) % 2 ^ 32 ≤ 2 ^ s.get F.MGR_MCR_CFG_CMD_SIZE [] →
    (s.get F.MGR_MCR_STAT_RSP_WRITTEN [] + 2 ^ 32 - h.toNat) % 2 ^ 32 ≤ 2 ^ s.get F.MGR_MCR_CFG_RSP_SIZE [] →
    Runs (.mcrPoll (some (t, h))) s (fun u =>
      u.sent = s.sent ++ [.hostRead .mgmt (s.rd ⟨.MGR_DB_ADDR, []⟩).toNat 16] ∧
      { s with mgr := { s.mgr with want := false, pollAt := s.now, tail := t.toNat, rspHead := h.toNat } }.only u [] [])) ∧
  (∀ (s : State), s.sealed = false → s.mcrOn = true → s.hostIo = true → s.restarting = false → s.mgr.want = true →
    Runs (.mcrPoll none) s (fun u =>
      u.get F.MGR_MCR_STAT_DB_READ [] = 1 ∧ u.get F.MGR_MCR_STAT_ERROR [] = 1 ∧ s.raises u .mgr 0 ∧
      { s with mgr := { s.mgr with want := false, pollAt := s.now } }.only u [⟨.MGR_MCR_STAT, []⟩] [.mgr])) ∧
  (∀ (s : State) (env : McrEnv), s.sealed = false → s.mayFetch = true → s.hostIo = true → s.mgr.fetched ≠ s.mgr.tail →
    Runs (.mcrCommandFetch none env) s (fun u =>
      (u.sent.drop s.sent.length).head? =
        some (.hostRead .mgmt ((s.rd ⟨.MGR_CMD_BASE, []⟩).toNat + 64 * (s.mgr.fetched % 2 ^ s.get F.MGR_MCR_CFG_CMD_SIZE [])) 64) ∧
      u.get F.MGR_MCR_STAT_CMD_READ [] = 1 ∧ u.get F.MGR_MCR_STAT_ERROR [] = 1 ∧ s.raises u .mgr 0 ∧ s.only u [⟨.MGR_MCR_STAT, []⟩] [.mgr])) ∧
  (∀ (s : State) (cx : McrCx) (env : McrEnv), s.mcrReady cx → cx.orig = 0 → cx.user < 2 ^ 32 → s.hostIo = true → s.mgr.fetched ≠ s.mgr.tail →
    Runs (.mcrCommandFetch (some (entryOf cx .nop)) env) s (fun u =>
      (u.sent.drop s.sent.length).head? =
        some (.hostRead .mgmt ((s.rd ⟨.MGR_CMD_BASE, []⟩).toNat + 64 * (s.mgr.fetched % 2 ^ s.get F.MGR_MCR_CFG_CMD_SIZE [])) 64) ∧
      s.answered u cx 0 = true ∧ u.mgr.fetched = (s.mgr.fetched + 1) % 2 ^ 32 ∧ u.journal = s.journal ∧ s.mcrOnly u [] [])) ∧
  (∀ (s : State) (cx : McrCx) (e : List Byte) (env : McrEnv), s.mcrReady cx → cx.orig = 0 → cx.user = leAt e 4 4 → e.length = 64 → s.hostIo = true →
    s.mgr.fetched ≠ s.mgr.tail → leAt e 0 1 ≠ 1 →
    Runs (.mcrCommandFetch (some e) env) s (fun u =>
      s.answered u cx 1 = true ∧ u.mgr.fetched = (s.mgr.fetched + 1) % 2 ^ 32 ∧ u.journal = s.journal ∧ s.mcrOnly u [] [])) ∧
  (∀ (s : State) (who : Init) (v : W64), s.granted who true ⟨.MGR_DB_ADDR, []⟩ 8 → s.get F.MGR_MCR_CFG_EN [] = 0 → v.toNat % 16 = 0 →
    Runs (.mgrMcrCfgWrite who 2 v) s (fun u => u.rd ⟨.MGR_DB_ADDR, []⟩ = v ∧ s.only u [⟨.MGR_DB_ADDR, []⟩] [])) ∧
  (∀ (s : State) (who : Init) (v : W64), s.granted who true ⟨.MGR_CMD_BASE, []⟩ 8 → v.toNat % 4096 ≠ 0 →
    Runs (.mgrMcrCfgWrite who 0 v) s (fun u => u.get F.MGR_MCR_CFG_CFG_REFUSED [] = 1 ∧ s.only u [⟨.MGR_MCR_CFG, []⟩] [])) ∧
  (∀ (s : State) (who : Init) (v : W64), s.granted who true ⟨.MGR_MCR_CFG, []⟩ 4 → s.get F.MGR_MCR_CFG_EN [] = 0 → s.get F.MGR_MCR_STAT_IDLE [] = 1 →
    v.getLsbD 0 = true → 4 ≤ fget v 1 4 → fget v 1 4 ≤ 12 → 4 ≤ fget v 5 4 → fget v 5 4 ≤ 12 →
    Runs (.mgrMcrCfgWrite who 3 v) s (fun u =>
      u.get F.MGR_MCR_CFG_EN [] = 1 ∧ u.get F.MGR_MCR_CFG_CMD_SIZE [] = fget v 1 4 ∧ u.get F.MGR_MCR_CFG_RSP_SIZE [] = fget v 5 4 ∧
      u.get F.MGR_MCR_STAT_RSP_WRITTEN [] = 0 ∧ u.get F.MGR_MCR_STAT_ERROR [] = 0 ∧ (∀ k < 64, u.get F.MGR_RSP_DONE_DONE [k] = 0) ∧
      { s with mgr := { s.mgr with fetched := 0, tail := 0, rspHead := 0, want := false, pollAt := s.now, gen := s.mgr.gen + 1 } }.only u
        (⟨.MGR_MCR_CFG, []⟩ :: ⟨.MGR_MCR_STAT, []⟩ :: s.listed (fun r => r.n == RN.MGR_RSP_DONE)) []))

/-- Outside the safe state and a restart, with one parked command of the relay and none waiting. A PROG_UNLOAD whose slot nothing uses any more
empties the slot and is answered with OK; one whose slot is still used keeps waiting. A REACH_CLEAR whose entry nothing uses raises
REACH_CLEARED and is answered with OK; one whose entry is used keeps waiting. A window swap that every station has made completes: SWAP_PEND
reads 0, each entry of the new bank is in the other, the claim ends. With no swap and no TLP looked up under an older epoch, DRAIN reads 0
everywhere and the function entries of the removed bindings are free. -/
def Obligations.parked_commands_and_completed_swaps : Prop :=
  (∀ (s : State) (j : McrJob) (p status : Fin 256) (result : List Byte), s.sealed = false → s.restarting = false → s.mgr.run = none → s.mgr.queue = [] →
    p.val < 4 → s.mgr.parked = [(j, .prog p.val)] → j.op = some (.progUnload p.val) → j.cx.orig = 3 → j.answered = false →
    s.get F.DMG_PROG_USE_USE [p.val] = 0 →
    Runs (.parkedCommandResume 0 status result) s (fun u =>
      u.mgr.parked = [] ∧ u.get F.DMG_PROG_STATE [p.val] = 0 ∧ u.mule.images.look p.val = none ∧ s.answered u j.cx 0 = true ∧ s.raises u .dmg 1 ∧
      u.journal.getLast?.map (fun e => (e.kind, e.orig, e.body)) = some (0, 3, j.entry))) ∧
  (∀ (s : State) (j : McrJob) (p status : Fin 256) (result : List Byte), s.sealed = false → s.restarting = false → s.mgr.queue = [] →
    s.mgr.parked = [(j, .prog p.val)] → s.get F.DMG_PROG_USE_USE [p.val] ≠ 0 →
    Runs (.parkedCommandResume 0 status result) s (fun u => s.only u [⟨.MGR_MCR_STAT, []⟩] [])) ∧
  (∀ (s : State) (j : McrJob) (entry : Fin 4096), s.sealed = false → s.restarting = false → s.mgr.run = none → s.mgr.queue = [] →
    s.mgr.parked = [(j, .reach entry.val)] → j.op = some (.reachClear entry.val) → j.cx.orig = 3 → j.answered = false → s.get F.DMG_REACH_USE_USE [entry.val] = 0 →
    Runs (.reachClearDone entry) s (fun u =>
      u.mgr.parked = [] ∧ s.answered u j.cx 0 = true ∧ s.raises u .dmg 0 ∧ s.mcrOnly u [] [.dmg])) ∧
  (∀ (s : State) (j : McrJob) (entry : Fin 4096), s.sealed = false → s.restarting = false → s.mgr.queue = [] →
    s.mgr.parked = [(j, .reach entry.val)] → s.get F.DMG_REACH_USE_USE [entry.val] ≠ 0 →
    Runs (.reachClearDone entry) s (fun u => ({ s with mgr := { s.mgr with parked := u.mgr.parked } }).only u [⟨.MGR_MCR_STAT, []⟩] [] ∧
      u.mgr.parked = [(j, .reach entry.val)])) ∧
  (∀ (s : State) (e : Nat), s.sealed = false → s.restarting = false → s.mgr.queue = [] → s.mgr.parked = [] → s.fwd.drains = [] → s.mesh.inbox = [] →
    s.fwd.swaps = [⟨.win, e, [], true, .none⟩] →
    Runs .swapComplete s (fun u =>
      u.fwd.swaps = [] ∧ u.mgr.winClaim = none ∧ u.journal = s.journal ∧ u.cfg = s.cfg ∧ u.mesh = s.mesh ∧
      (∀ t < 36, u.get F.PT_WIN_BANK_SWAP_PEND [t] = 0) ∧
      (∀ t < 36, ∀ sl < 4, ∀ w ∈ [0, 15], u.rd ⟨.PT_WIN_E, [t, e % 2, sl, w]⟩ = s.rd ⟨.PT_WIN_E, [t, e % 2, sl, w]⟩ ∧
        u.rd ⟨.PT_WIN_E, [t, 1 - e % 2, sl, w]⟩ = s.rd ⟨.PT_WIN_E, [t, e % 2, sl, w]⟩))) ∧
  (∀ (s : State), s.sealed = false → s.mgr.queue = [] → s.mgr.parked = [] → s.fwd.swaps = [] → s.lookedUp = [] →
    Runs .drainComplete s (fun u =>
      u.fwd.drains = [] ∧ (∀ t < 36, u.get F.PT_FWD_EPOCH_DRAIN [t] = 0 ∧ u.get F.PT_WIN_BANK_DRAIN [t] = 0) ∧ u.get F.VST_EPOCH_DRAIN [] = 0 ∧
      (∀ d ∈ s.fwd.drains, ∀ k ∈ d.fbs, u.get F.VST_FB_A_VALID [k] = 0) ∧ u.cfg = s.cfg ∧ u.mgr.parked = []))

/-- MCR_SUBMIT over SMBus: in the safe state it is answered with 0x81, with other than 64 bytes with 0x01, while another one runs with 0x82; a
NOP that nothing holds up is answered with OK. A journal mirror that runs copies the next entry into its slot, 128 bytes with the PHASE of
the slot's pass, and MIRRORED grows by one; on a full ring it sets MIRROR_LOST, raises MIRROR_LOST and pauses. A paused mirror reads the 16
bytes of its doorbell record, and with room goes on. -/
def Obligations.sideband_commands_and_journal_mirror : Prop :=
  (∀ (s : State) (src : Fin 256) (entry : List Byte) (env : McrEnv), s.sealed = true →
    Runs (.mcrSubmit false src entry env) s (fun u => u = { s with sent := s.sent ++ [.answer .sideband 0x81 []] })) ∧
  (∀ (s : State) (src : Fin 256) (entry : List Byte) (env : McrEnv), s.sealed = false → entry.length ≠ 64 →
    Runs (.mcrSubmit false src entry env) s (fun u => u = { s with sent := s.sent ++ [.answer .sideband 0x01 []] })) ∧
  (∀ (s : State) (src : Fin 256) (entry : List Byte) (env : McrEnv), s.sealed = false → entry.length = 64 → s.restarting = false → s.mgr.subBusy = true →
    s.mgr.queue = [] → s.mgr.run = none →
    Runs (.mcrSubmit false src entry env) s (fun u =>
      u.sent = s.sent ++ [.answer .sideband 0x82 []] ∧ { s with mgr := { s.mgr with jobs := s.mgr.jobs + 1 } }.only u [⟨.MGR_MCR_STAT, []⟩] [])) ∧
  (∀ (s : State) (cx : McrCx) (src : Fin 256) (env : McrEnv), s.mcrReady cx → cx.orig = 1 → cx.user < 2 ^ 32 →
    Runs (.mcrSubmit false src (entryOf cx .nop) env) s (fun u => s.answered u cx 0 = true ∧ u.journal = s.journal ∧ u.mgr.subBusy = false ∧ s.mcrOnly u [] [])) ∧
  (∀ (s : State) (e : JEntry), s.sealed = false → s.restarting = false → s.hostIo = true → s.get F.MGR_JNL_STAT_MIRROR_EN [] = 1 → s.mgr.mirPause = false →
    s.mgr.mirNext < s.get F.MGR_JNL_SEQ_SEQ [] → s.journal.head? = some e → e.seq = s.mgr.mirNext → s.mirFull = false →
    Runs .journalMirrorCopy s (fun u =>
      u.sent = s.sent ++ [.hostWrite .mgmt (s.mgr.mirBase + 128 * (s.get F.MGR_JNL_STAT_MIRRORED [] % 2 ^ s.mgr.mirSize))
        (e.bytes (phaseOf (s.get F.MGR_JNL_STAT_MIRRORED []) s.mgr.mirSize))] ∧
      u.get F.MGR_JNL_STAT_MIRRORED [] = (s.get F.MGR_JNL_STAT_MIRRORED [] + 1) % 2 ^ 32 ∧
      { s with mgr := { s.mgr with mirNext := s.mgr.mirNext + 1 } }.only u [⟨.MGR_JNL_STAT, []⟩] [])) ∧
  (∀ (s : State) (e : JEntry), s.sealed = false → s.restarting = false → s.hostIo = true → s.get F.MGR_JNL_STAT_MIRROR_EN [] = 1 → s.mgr.mirPause = false →
    s.mgr.mirNext < s.get F.MGR_JNL_SEQ_SEQ [] → s.journal.head? = some e → e.seq = s.mgr.mirNext → s.mirFull = true →
    Runs .journalMirrorCopy s (fun u =>
      u.get F.MGR_JNL_STAT_MIRROR_LOST [] = 1 ∧ s.raises u .mgr 1 ∧
      { s with mgr := { s.mgr with mirPause := true, mirReadAt := s.now } }.only u [⟨.MGR_JNL_STAT, []⟩] [.mgr])) ∧
  (∀ (s : State) (h : W32), s.sealed = false → s.restarting = false → s.hostIo = true → s.mgr.mirPause = true →
    Runs (.mirrorDoorbellPoll (some h)) s (fun u =>
      u.sent = s.sent ++ [.hostRead .mgmt s.mgr.mirDb 16] ∧
      u.mgr.mirPause = decide (2 ^ s.mgr.mirSize ≤ (s.get F.MGR_JNL_STAT_MIRRORED [] + 2 ^ 32 - h.toNat) % 2 ^ 32) ∧
      { s with mgr := { s.mgr with mirReadAt := s.now, mirHead := h.toNat, mirPause := u.mgr.mirPause } }.only u [] []))

/-- Outside the safe state, on a PCIe port in L0 whose IDE stream has not failed, with no lost packet to be handled. A posted write that passes
the checks and that the lookup forwards takes its receive credits, and its copy is held under the next number of its stream. A malformed TLP
is counted, raised, reported in AER, and its credits return; nothing is forwarded. A TLP whose link check failed only sets Bad TLP in AER. A
non-posted request that waits goes on with a tracker entry and the lease's first tag when it finds both, and else keeps waiting; one that
has waited beyond its egress timeout is answered with Completer Abort and counted, and an earlier one is not. -/
def Obligations.tlps_that_arrive_and_wait : Prop :=
  (∀ (s r : State) (port : Fin 144) (t : Tlp) (pick : Fin 16384) (v : Nat) (d : Dec), s.sealed = false → r = s.countRecv port.val t →
    s.portWidth port.val ≠ 0 → s.inL0 port.val = true → s.role port.val ≠ 2 → port.val ∉ s.lnk.ideBad → t.kind = .mwr → t.malformed = false →
    t.idePrefix = false → t.ecrc = false → t.ecrcBad = false → t.poison = false → t.carries = 0 →
    r.senderOf (r.tableOf (port.val / 4)) port.val t = .host v → tlpPayload t ≤ r.mpsOf (r.tableOf (port.val / 4)) port.val (.host v) →
    (r.useCredit port.val t).routeFrom (r.tableOf (port.val / 4)) (port.val / 4) (.host v) t = .fwd d →
    (d.egress < 144 → r.pget F.PT_CONT_CONTAINED d.egress = 0) → (r.useCredit port.val t).streamLoad (port.val, d.egress, d.sc) < 4096 → tlpClass d.tlp = 0 →
    s.fwd.waits = [] → s.fwd.lostQ = [] →
    r.escVec (r.exitRouter (port.val / 4) d.egress) (r.entryRouter (d.egress / 4)) = false →
    Runs (.tlpReceived port t .good pick) s (fun u =>
      (u.heldOf (port.val, d.egress, d.sc) (r.nextSeq (port.val, d.egress, d.sc))).map (fun p => (p.body, p.vdsp, p.resend)) = some (.tlp d.tlp, d.bvdsp, false) ∧
      u.nextSeq (port.val, d.egress, d.sc) = (r.nextSeq (port.val, d.egress, d.sc) + 1) % 65536 ∧
      u.fwd.credit.lookD (port.val, 0) (0, 0) = ((s.fwd.credit.lookD (port.val, 0) (0, 0)).1 + 1,
        (s.fwd.credit.lookD (port.val, 0) (0, 0)).2 + tlpDataCredits t) ∧ s.counts u (portCnt port.val 0) ∧ u.cfg = s.cfg ∧ u.journal = s.journal)) ∧
  (∀ (s r : State) (port : Fin 144) (t : Tlp) (pick : Fin 16384) (v : Nat), s.sealed = false → r = s.countRecv port.val t →
    s.portWidth port.val ≠ 0 → s.inL0 port.val = true → s.role port.val ≠ 2 → port.val ∉ s.lnk.ideBad → t.malformed = true → s.fwd.lostQ = [] →
    r.isTrunk port.val = false → r.senderOf (r.tableOf (port.val / 4)) port.val t = .host v →
    Runs (.tlpReceived port t .good pick) s (fun u =>
      s.counts u (portCnt port.val 18) ∧ s.raises u (.port port.val 1) 3 ∧ u.cf (.up v) .aerMalformed = 1 ∧
      .credits port.val (tlpClass t) 1 (tlpDataCredits t) ∈ u.sent.drop s.sent.length ∧ u.fwd.held = s.fwd.held ∧ u.mesh = s.mesh ∧
      s.keeps u [portCnt port.val 0, portCnt port.val 1, portCnt port.val 18] [.port port.val 1, .port port.val 7])) ∧
  (∀ (s : State) (port : Fin 144) (t : Tlp) (pick : Fin 16384) (v : Nat), s.sealed = false →
    s.portWidth port.val ≠ 0 → s.inL0 port.val = true → s.role port.val ≠ 2 → port.val ∉ s.lnk.ideBad →
    s.senderOf (s.tableOf (port.val / 4)) port.val t = .host v →
    Runs (.tlpReceived port t .replayed pick) s (fun u => u = s.cfSet (.up v) .aerBadTlp 1)) ∧
  (∀ (s : State) (n : Nat) (pick : Fin 16384) (w : WaitNp) (i etag : Nat), s.sealed = false → s.fwd.waits[n]? = some w → tlpClass w.req = 1 →
    s.npReady w.src w.dec pick.val = some (i, etag) →
    Runs (.npRequestResume n pick) s (fun u =>
      u.fwd.waits = s.fwd.waits.eraseIdx n ∧
      (u.trkOf (stnOfSrc w.src) i).map (fun e => (e.reqId, e.tag, e.egress, e.etag, e.expired, e.confirmed)) =
        some (w.req.rid, w.req.tag, w.dec.egress, etag, false, false) ∧
      (u.heldOf (w.src, w.dec.egress, w.dec.sc) (s.nextSeq (w.src, w.dec.egress, w.dec.sc))).map (fun p => (p.body, p.trk)) =
        some (.tlp { w.dec.tlp with tag := etag }, i) ∧
       u.leaseOf (stnOfSrc w.src) w.dec.egress = (s.leaseOf (stnOfSrc w.src) w.dec.egress).drop 1 ∧
      u.cfg = s.cfg ∧ u.journal = s.journal)) ∧
  (∀ (s : State) (n : Nat) (pick : Fin 16384) (w : WaitNp), s.sealed = false → s.fwd.waits[n]? = some w → s.npReady w.src w.dec pick.val = none →
    Runs (.npRequestResume n pick) s (fun u => u = s)) ∧
  (∀ (s : State) (n : Nat) (w : WaitNp), s.sealed = false → s.fwd.waits[n]? = some w → tlpClass w.req = 1 → w.src < 144 →
    w.since + s.timeoutNs w.dec.egress < s.now → s.isTrunk w.src = false →
    Runs (.tagWaitTimeout n) s (fun u =>
      u.fwd.waits = s.fwd.waits.eraseIdx n ∧ s.counts u (portCnt w.src 13) ∧ s.raises u (.port w.src 3) 3 ∧
      (u.sq w.src w.dec.sc).getLast?.map (fun p => p.body) = some (.tlp (cplFor w.req 4 (s.synthCid w.dec.vdsp w.dec.egress))) ∧
      .credits w.src 1 1 (tlpDataCredits w.req) ∈ u.sent.drop s.sent.length ∧ u.cfg = s.cfg ∧ u.mesh = s.mesh ∧
      s.keeps u [portCnt w.src 13, ⟨.PT_GATE_STAT, [w.dec.egress / 4, w.dec.egress % 4]⟩] [.port w.src 3, .port w.src 7])) ∧
  (∀ (s : State) (n : Nat) (w : WaitNp), s.sealed = false → s.fwd.waits[n]? = some w → s.now ≤ w.since + s.timeoutNs w.dec.egress →
    Runs (.tagWaitTimeout n) s (fun u => u = s))

/-- Outside the safe state. An ejected posted TLP with the number that its gate waits for, at an empty gate, passes to the shaper queue, and its
source gets the tail confirmation; one with a number already seen is discarded, counted and raised. A resend request puts the held copy on
the mesh again with RESEND and its own number. A tail confirmation of a posted TLP frees the copy and returns its credits. Credit of a type
that arrives is added; with nothing queued nothing is sent. When SC0 is eligible after a shaper grant its head is sent and counted; an
underrun sends it nullified first, sets UNDERRUN and raises it. A write of PT_SCHED clears the deficits of the port and the place of its
round. -/
def Obligations.delivery_confirmation_and_scheduling : Prop :=
  (∀ (s : State) (x : Fin 96) (pid : Nat) (p : Pkt) (t : Tlp), s.sealed = false → s.mesh.landed = [(x.val, pid)] → s.mesh.pkts.look pid = some p → p.body = .tlp t →
    p.kind = 0 → p.stomp = 0 → p.egress < 144 → p.mark = false → p.bytes ≤ 5120 → s.powered (p.egress / 4) = true → s.gq p.egress p.sc = [] →
    s.sq p.egress p.sc = [] → s.gate p.key = { base := p.seq } → p.seq < 65536 → s.scopeDrops p = false → s.fwd.lostQ = [] →
    Runs (.packetEjected x) s (fun u =>
      u.sq p.egress p.sc = [p] ∧ u.gq p.egress p.sc = [] ∧ (u.gate p.key).base = (p.seq + 1) % 65536 ∧ u.mesh.landed = [] ∧ u.mesh.pkts.look pid = none ∧
      u.cfg = s.cfg ∧ u.journal = s.journal)) ∧
  (∀ (s : State) (x : Fin 96) (pid : Nat) (p : Pkt) (t : Tlp), s.sealed = false → s.mesh.landed = [(x.val, pid)] → s.mesh.pkts.look pid = some p → p.body = .tlp t →
    p.stomp = 0 → p.egress < 144 → s.powered (p.egress / 4) = true → (s.gate p.key).dup p.seq = true → s.fwd.lostQ = [] →
    Runs (.packetEjected x) s (fun u =>
      s.counts u (portCnt p.egress 4) ∧ s.raises u (.port p.egress 2) 2 ∧ u.fwd = s.fwd ∧
      { s with mesh := { s.mesh with landed := [], pkts := s.mesh.pkts.del pid } }.only u [portCnt p.egress 4] [.port p.egress 2, .port p.egress 7])) ∧
  (∀ (s : State) (x : Fin 80) (a e c q : Nat) (p : Pkt), s.sealed = false → s.mesh.inbox.lookD x.val [] = [.resend a e c q] → s.heldOf (a, e, c) q = some p →
    s.fwd.lostQ = [] → s.escVec (s.exitRouter (pktStn p) p.egress) p.dest = false →
    Runs (.resendRequest x) s (fun u =>
      u.mesh.inbox.lookD x.val [] = [] ∧ (u.mesh.pkts.look s.mesh.nextPid).map (fun k => (k.resend, k.stomp, k.seq, k.body, k.egress)) =
        some (true, 0, p.seq, p.body, p.egress) ∧ u.fwd = s.fwd ∧ s.only { u with mesh := s.mesh } [] [])) ∧
  (∀ (s : State) (x : Fin 80) (a e c q : Nat) (p : Pkt) (t : Tlp), s.sealed = false → s.mesh.inbox.lookD x.val [] = [.tailConf a e c q] →
    s.heldOf (a, e, c) q = some p → p.kind = 0 → p.body = .tlp t → p.made = false → a < 144 → s.isTrunk a = false → s.fwd.waits = [] → s.fwd.relWait = [] →
    Runs (.tailConfirmation x) s (fun u =>
      u.heldOf (a, e, c) q = none ∧ u.sent = s.sent ++ [.credits a (tlpClass t) 1 (tlpDataCredits t)] ∧ u.mesh.inbox.lookD x.val [] = [] ∧
      (u.fwd.credit.lookD (a, tlpClass t) (0, 0)).1 = (s.fwd.credit.lookD (a, tlpClass t) (0, 0)).1 - 1 ∧
      s.only { u with mesh := s.mesh, fwd := s.fwd } [] [])) ∧
  (∀ (s : State) (port : Fin 144) (ty : Fin 3) (hdr dat : Nat), s.sealed = false → (∀ c < 4, s.sq port.val c = []) →
    Runs (.flowControlUpdate port ty hdr dat) s (fun u =>
      u.fwd.fc = s.fwd.fc.put (port.val, ty.val) ((s.fwd.fc.lookD (port.val, ty.val) (0, 0)).1 + hdr, (s.fwd.fc.lookD (port.val, ty.val) (0, 0)).2 + dat) ∧
      u = { s with fwd := { s.fwd with fc := u.fwd.fc } })) ∧
  (∀ (s : State) (port : Fin 144) (x : Fin 1840) (p : Pkt) (l : List Pkt) (t : Tlp), s.sealed = false → x.val = 4 * port.val → s.sq port.val 0 = p :: l →
    p.body = .tlp t → s.isTrunk port.val = false → s.eligible port.val 0 = true → s.gq port.val 0 = [] →
    Runs (.shaperGrant x) s (fun u =>
      u.sent.getLast? = some (.tlp port.val t) ∧ u.sq port.val 0 = l ∧ s.counts u (portCnt port.val 2) ∧ s.counts u (portCnt port.val 3) p.bytes ∧
      (u.fwd.fc.lookD (port.val, p.fcType) (0, 0)).1 + 1 = (s.fwd.fc.lookD (port.val, p.fcType) (0, 0)).1 ∧ u.mesh = s.mesh ∧ u.cfg = s.cfg)) ∧
  (∀ (s : State) (x : Fin 1840), s.sealed = false → s.shGrants x.val = false → Runs (.shaperGrant x) s (fun u => u = s)) ∧
  (∀ (s : State) (port : Fin 144) (p : Pkt) (l : List Pkt) (t : Tlp), s.sealed = false → s.pon F.PP_CTL_SAF port.val = false → s.sq port.val 0 = p :: l →
    p.body = .tlp t → s.isTrunk port.val = false → s.eligible port.val 0 = true → s.gq port.val 0 = [] →
    Runs (.egressUnderrun port) s (fun u =>
      (u.sent.drop s.sent.length).head? = some (.nullified port.val t) ∧ u.sent.getLast? = some (.tlp port.val t) ∧ u.sq port.val 0 = l ∧
      u.pget F.PT_GATE_STAT_UNDERRUN port.val = 1 ∧ s.counts u (portCnt port.val 6) ∧ s.raises u (.port port.val 2) 1 ∧ u.mesh = s.mesh ∧ u.cfg = s.cfg)) ∧
  (∀ (s : State) (port : Fin 144), s.sealed = false → s.pon F.PP_CTL_SAF port.val = true → Runs (.egressUnderrun port) s (fun u => u = s)) ∧
  (∀ (s : State) (who : Init) (port : Fin 144) (v : W32), s.granted who true ⟨.PT_SCHED, [port.val / 4, port.val % 4]⟩ 4 →
    Runs (.ptSchedWrite who port v) s (fun u =>
      u.pget F.PT_SCHED_STRICT1 port.val = fget (v.zeroExtend 64) F.PT_SCHED_STRICT1.lo 1 ∧
      u.pget F.PT_SCHED_W1 port.val = fget (v.zeroExtend 64) F.PT_SCHED_W1.lo F.PT_SCHED_W1.w ∧
      u.pget F.PT_SCHED_W2 port.val = fget (v.zeroExtend 64) F.PT_SCHED_W2.lo F.PT_SCHED_W2.w ∧
      u.pget F.PT_SCHED_W3 port.val = fget (v.zeroExtend 64) F.PT_SCHED_W3.lo F.PT_SCHED_W3.w ∧ (∀ c < 4, u.deficitOf port.val c = 0) ∧
      u.fwd.rrs.look (port.val, 0) = none ∧ s.only { u with fwd := s.fwd } [⟨.PT_SCHED, [port.val / 4, port.val % 4]⟩] []))

/-- Outside the safe state, with no lost packet to be handled. A tracker entry past its timeout becomes Expired, and an earlier one stays. An
expiry message for a Live tag makes it a tombstone and is counted, raised and logged; for any other tag it is ignored. A tombstone returns
to Pool when its quarantine is over, not before. Missing numbers time out only after the gap timeout: then GAP_LOSS is set and raised. A
buffer error in a held TLP is counted and raised, and the copy is sent again. A stalled downstream port is contained, its vDSP under cause
6; an earlier one is not. A released vDSP with nothing left is contained no more. A tracker entry that is lost is freed without an answer
and raised; a tile that hears of it pins its tag. -/
def Obligations.losses_and_timeouts_on_the_path : Prop :=
  (∀ (s : State) (x : Fin 80) (trk : Fin 16384) (e : TrkE), s.sealed = false → s.trkOf x.val trk.val = some e → e.expired = false → e.confirmed = false →
    e.to_ ≤ ((s.now / 1000 + 2 ^ 32 - e.tAlloc) % 2 ^ 32) * 1000 →
    s.escVec (s.exitRouter x.val e.egress) (s.entryRouter (e.egress / 4)) = false →
    Runs (.completionTimeout x trk) s (fun u =>
      u.trkOf x.val trk.val = some { e with expired := true } ∧ u.fwd.tags = s.fwd.tags ∧ u.cfg = s.cfg ∧ u.mesh = s.mesh)) ∧
  (∀ (s : State) (x : Fin 80) (trk : Fin 16384) (e : TrkE), s.sealed = false → s.trkOf x.val trk.val = some e →
    ((s.now / 1000 + 2 ^ 32 - e.tAlloc) % 2 ^ 32) * 1000 < e.to_ → Runs (.completionTimeout x trk) s (fun u => u = s)) ∧
  (∀ (s : State) (x : Fin 36) (port etag h i : Nat), s.sealed = false → s.mesh.inbox.lookD x.val [] = [.expiry port etag] → port < 144 →
    s.tagSt port etag = .live h i → s.trkOf h i = none → s.fwd.lostQ = [] →
    Runs (.expiryMessage x) s (fun u =>
      u.tagSt port etag = .tomb (some (s.now + s.quarantineNs port)) ∧ s.counts u (portCnt port 9) ∧ s.raises u (.port port 3) 2 ∧
      u.pget F.PT_CPL_LOG_VALID port = 1 ∧ (s.pget F.PT_CPL_LOG_VALID port = 0 → u.pget F.PT_CPL_LOG_CAUSE port = 2 ∧ u.pget F.PT_CPL_LOG_ETAG port = etag % 2 ^ 14) ∧
      u.mesh.inbox.lookD x.val [] = [] ∧
      s.keeps u [portCnt port 9, ⟨.PT_CPL_LOG, [port / 4, port % 4]⟩, ⟨.PT_CONT, [port / 4, port % 4]⟩] [.port port 3, .port port 7])) ∧
  (∀ (s : State) (x : Fin 36) (port etag : Nat), s.sealed = false → s.mesh.inbox.lookD x.val [] = [.expiry port etag] → s.tagSt port etag = .pool →
    Runs (.expiryMessage x) s (fun u => u.mesh.inbox.lookD x.val [] = [] ∧ s.only { u with mesh := s.mesh } [] [])) ∧
  (∀ (s : State) (port : Fin 144) (etag : Fin 16384) (t : Nat), s.sealed = false → s.tagSt port.val etag.val = .tomb (some t) → t ≤ s.now →
    Runs (.quarantineEnd port etag) s (fun u => u.tagSt port.val etag.val = .pool ∧
      u.fwd.tags = s.fwd.tags.del (port.val, etag.val) ∧
      s.only { u with fwd := s.fwd } [⟨.PT_CONT, [port.val / 4, port.val % 4]⟩] [])) ∧
  (∀ (s : State) (port : Fin 144) (etag : Fin 16384) (t : Nat), s.sealed = false → s.tagSt port.val etag.val = .tomb (some t) → s.now < t →
    Runs (.quarantineEnd port etag) s (fun u => u = s)) ∧
  (∀ (s : State) (src : Fin 164) (egress : Fin 144) (sc : Fin 4) (t : Nat), s.sealed = false →
    (s.gate (src.val, egress.val, sc.val)).since = some t → s.now < t + max 1 (s.get F.PT_GATE_CFG_GAP_TIMEOUT [egress.val / 4]) * 1000000 →
    Runs (.gapTimeout src egress sc) s (fun u => u = s)) ∧
  (∀ (s : State) (src : Fin 164) (egress : Fin 144) (sc : Fin 4) (t : Nat), s.sealed = false → 144 ≤ src.val → s.rerouting = false →
    (s.gate (src.val, egress.val, sc.val)).since = some t → t + max 1 (s.get F.PT_GATE_CFG_GAP_TIMEOUT [egress.val / 4]) * 1000000 ≤ s.now →
    s.fwd.lostQ = [] → s.fwd.held = [] → s.gq egress.val sc.val = [] →
    Runs (.gapTimeout src egress sc) s (fun u =>
      u.pget F.PT_GATE_STAT_GAP_LOSS egress.val = 1 ∧ s.raises u (.port egress.val 2) 0 ∧
      s.only { u with fwd := s.fwd } [⟨.PT_GATE_STAT, [egress.val / 4, egress.val % 4]⟩] [.port egress.val 2])) ∧
  (∀ (s : State) (src : Fin 164) (egress : Fin 144) (sc : Fin 4) (seq : W16) (p : Pkt), s.sealed = false → src.val < 144 → s.sq egress.val sc.val = [] →
    s.gq egress.val sc.val = [] → s.heldOf (src.val, egress.val, sc.val) seq.toNat = some p → s.mesh.pkts = [] → s.fwd.lostQ = [] →
    s.get F.LK_CFG_THRESHOLD [0, src.val / 4, 4] = 0 → s.escVec (s.exitRouter (pktStn p) p.egress) p.dest = false →
    Runs (.bufferUe src egress sc seq) s (fun u =>
      s.counts u ⟨.PT_TCNT, [src.val / 4, 1]⟩ ∧ s.raises u (.tile (src.val / 4) 0) 1 ∧
      u.heldOf (src.val, egress.val, sc.val) seq.toNat = some p ∧
      (u.mesh.pkts.look s.mesh.nextPid).map (fun k => (k.resend, k.seq, k.body)) = some (true, p.seq, p.body))) ∧
  (∀ (s : State) (port : Fin 144) (t v sl : Nat), s.sealed = false → s.fwd.stallAt.look port.val = some t → (∃ c < 4, s.sq port.val c ≠ []) →
    t + min 1000 (max 1 (s.pget F.PT_TRK_CFG_STALL port.val)) * 1000000 ≤ s.now → s.pget F.PT_CONT_CONTAINED port.val = 0 → s.role port.val = 1 →
    s.fwd.tags = [] → s.fwd.lostQ = [] → (∀ c < 4, (s.sq port.val c).all (fun p => p.kind == 2) = true ∧ s.gq port.val c = []) → s.fwd.held = [] →
    s.snap.boundTo 1 port.val = some (s.get F.VST_SLOT_VDSP [v, sl], v, sl) → s.get F.VST_SLOT_KIND [v, sl] = 1 → s.get F.VST_SLOT_TARGET [v, sl] = port.val →
    s.contained v sl = false → s.fwd.ingq = [] →
    Runs (.egressStall port) s (fun u =>
      u.get F.VST_CONT_CONTAINED [v, sl] = 1 ∧ u.get F.VST_CONT_CAUSE [v, sl] = 6 ∧ u.get F.VST_SLOT_CONTAINED [v, sl] = 1 ∧
      u.cf (.vdsp v sl) .dllActive = 0 ∧ u.pget F.PT_CONT_C_VDSP port.val = 1 ∧ u.sq port.val 0 = [] ∧ s.raises u .vst 2 ∧ u.journal = s.journal)) ∧
  (∀ (s : State) (port : Fin 144) (t : Nat), s.sealed = false → s.fwd.stallAt.look port.val = some t →
    s.now < t + min 1000 (max 1 (s.pget F.PT_TRK_CFG_STALL port.val)) * 1000000 → Runs (.egressStall port) s (fun u => u = s)) ∧
  (∀ (s : State) (vdsp : Fin 1024) (v sl : Nat), s.sealed = false → s.slotOfVdsp vdsp.val = some (v, sl) → vdsp.val ∈ s.fwd.releasing → s.vdspBusy vdsp.val = false →
    s.get F.VST_SLOT_KIND [v, sl] = 1 → s.get F.VST_SLOT_TARGET [v, sl] < 144 → s.fwd.bindWait = [] →
    Runs (.containmentRelease vdsp) s (fun u =>
      u.get F.VST_CONT_CONTAINED [v, sl] = 0 ∧ u.get F.VST_CONT_POSTED_LOSS [v, sl] = 0 ∧ u.get F.VST_SLOT_CONTAINED [v, sl] = 0 ∧ vdsp.val ∉ u.fwd.releasing ∧
      u.pget F.PT_CONT_C_VDSP (s.get F.VST_SLOT_TARGET [v, sl]) = 0 ∧
      u.pget F.PP_STAT_LINK_STATE (s.get F.VST_SLOT_TARGET [v, sl]) = bit (s.pon F.PP_CTL_ENABLE (s.get F.VST_SLOT_TARGET [v, sl])) ∧
      s.raises u (.port (s.upPort v) 4) 2 ∧ u.mesh = s.mesh ∧ u.journal = s.journal)) ∧
  (∀ (s : State) (x : Fin 80) (trk : Fin 16384) (e : TrkE), s.sealed = false → s.trkOf x.val trk.val = some e → x.val < 36 →
    s.get F.LK_CFG_THRESHOLD [0, x.val, 5] = 0 →
    Runs (.trackerEntryUe x trk) s (fun u =>
      u.trkOf x.val trk.val = none ∧ u.get F.PT_TRK_STAT_ENTRY_UE [x.val] = 1 ∧ s.raises u (.tile x.val 1) 1 ∧ u.fwd.shq = s.fwd.shq ∧ u.cfg = s.cfg ∧
      (x.val < 36 → s.waitsFor x.val = true → u.mesh.inbox.lookD x.val [] = s.mesh.inbox.lookD x.val [] ++ [.trkLoss x.val trk.val]))) ∧
  (∀ (s : State) (x : Fin 36) (h i etag : Nat), s.sealed = false → s.mesh.inbox.lookD x.val [] = [.trkLoss h i] → s.fwd.tags = [((4 * x.val, etag), .live h i)] →
    Runs (.trackerLossMessage x) s (fun u =>
      u.tagSt (4 * x.val) etag = .tomb none ∧ u.mesh.inbox.lookD x.val [] = [] ∧
      s.only { u with fwd := s.fwd, mesh := s.mesh } [⟨.PT_CONT, [4 * x.val / 4, 4 * x.val % 4]⟩] []))

/-- Outside the safe state. A lease request is granted with tags of the Pool, which become leased to the source, and waits while the Pool is
empty. A grant adds its tags to the lease. A lease that has been free for 100 µs is returned, not before. A station that gets a swap message
of the gates takes the other bank and its epoch and acknowledges; a tile that gets one of the forwarding tables takes the epoch and raises
SWAP_DONE. An echo at a shaper that takes it lowers RATE_CUR by the rule of the decrease while the hold is open, and else is only counted
and spoils the interval. At the end of an interval without echo RATE_CUR rises by AI_STEP, at most to RATE; a spoiled interval ends without
a rise. A measurement window sets MEAS to what was charged in it. -/
def Obligations.leases_swaps_and_shaper_ticks : Prop :=
  (∀ (s : State) (t : Fin 36) (stn e : Nat) (l : List Nat), s.sealed = false → s.mesh.inbox.lookD t.val [] = [.leaseReq stn e] → e < 144 →
    l = s.poolTags e (s.tagRange e).2.1 (s.tagRange e).1 (s.tagRange e).2.2 → l ≠ [] →
    Runs (.tagLeaseRequest t) s (fun u =>
      (∀ k ∈ l, u.tagSt e k = .leased stn) ∧ l.length ≤ (s.tagRange e).2.2 ∧ (stn = t.val → u.mesh.inbox.lookD t.val [] = [.leaseGrant e l] ∧
        s.only { u with fwd := s.fwd, mesh := s.mesh } [⟨.PT_CONT, [e / 4, e % 4]⟩] []))) ∧
  (∀ (s : State) (t : Fin 36) (stn e : Nat), s.sealed = false → s.mesh.inbox.lookD t.val [] = [.leaseReq stn e] →
    s.poolTags e (s.tagRange e).2.1 (s.tagRange e).1 (s.tagRange e).2.2 = [] → Runs (.tagLeaseRequest t) s (fun u => u = s)) ∧
  (∀ (s : State) (x : Fin 80) (e : Nat) (l : List Nat), s.sealed = false → s.mesh.inbox.lookD x.val [] = [.leaseGrant e l] → e < 144 →
    Runs (.tagLeaseGrant x) s (fun u =>
      u.leaseOf x.val e = s.leaseOf x.val e ++ l ∧ (x.val, e) ∉ u.fwd.leaseAsk ∧ u.mesh.inbox.lookD x.val [] = [] ∧
      s.only { u with fwd := s.fwd, mesh := s.mesh } [⟨.PT_GATE_STAT, [e / 4, e % 4]⟩] [])) ∧
  (∀ (s : State) (x : Fin 80) (egress : Fin 144) (at_ : Nat), s.sealed = false → s.fwd.leaseIdle.lookD (x.val, egress.val) s.now = at_ → at_ + 100000 ≤ s.now →
    0 < (s.tagRange egress.val).2.2 → (s.tagRange egress.val).2.2 ≤ (s.leaseOf x.val egress.val).length →
    Runs (.tagLeaseReturn x egress) s (fun u =>
      u.leaseOf x.val egress.val = (s.leaseOf x.val egress.val).drop (s.tagRange egress.val).2.2 ∧ (x.val = egress.val / 4 →
      u.mesh.inbox.lookD x.val [] = s.mesh.inbox.lookD x.val [] ++ [.leaseReturn x.val egress.val ((s.leaseOf x.val egress.val).take (s.tagRange egress.val).2.2)] ∧
      s.only { u with fwd := s.fwd, mesh := s.mesh } [⟨.PT_GATE_STAT, [egress.val / 4, egress.val % 4]⟩] []))) ∧
  (∀ (s : State) (x : Fin 80) (egress : Fin 144), s.sealed = false → s.now < s.fwd.leaseIdle.lookD (x.val, egress.val) s.now + 100000 →
    Runs (.tagLeaseReturn x egress) s (fun u => u = s)) ∧
  (∀ (s : State) (x : Fin 80) (e : Nat), s.sealed = false → s.mesh.inbox.lookD x.val [] = [.swap .gate e] →
    Runs (.swapMessage x) s (fun u =>
      u.gateBankOf x.val = 1 - s.gateBankOf x.val ∧ (x.val = stnMgt0 → u.mesh.inbox.lookD x.val [] = [.swapAck .gate x.val] ∧
        s.only { u with fwd := s.fwd, mesh := s.mesh } [] []))) ∧
  (∀ (s : State) (x : Fin 80) (e : Nat), s.sealed = false → s.mesh.inbox.lookD x.val [] = [.swap .fwd e] → x.val < 36 → e < 2 ^ 32 →
    Runs (.swapMessage x) s (fun u =>
      u.get F.PT_FWD_EPOCH_EPOCH [x.val] = e ∧ s.raises u (.tile x.val 2) 0 ∧ u.mesh.inbox.lookD x.val [] = [] ∧ u.fwd = s.fwd ∧ u.cfg = s.cfg)) ∧
  (∀ (s : State) (x : Fin 80) (src egress c q n : Nat) (k : Nat), s.sealed = false → s.mesh.inbox.lookD x.val [] = [.echo src egress c q n] →
    s.role src = 0 → src < 144 → s.isTrunk src = false → s.vsOfPort src = some k → s.shTakes (576 + 4 * k + c) = true → s.shOpen (576 + 4 * k + c) = true →
    s.shDecreased (576 + 4 * k + c) < 2 ^ F.SH_STAT_RATE_CUR.w →
    Runs (.congestionEcho x) s (fun u =>
      u.get F.SH_STAT_RATE_CUR [576 + 4 * k + c] = s.shDecreased (576 + 4 * k + c) ∧ (u.sh (576 + 4 * k + c)).lastDec = some s.now ∧
      s.counts u ⟨.PMG_SHCNT, [576 + 4 * k + c, 0]⟩ ∧ u.mesh.inbox.lookD x.val [] = [])) ∧
  (∀ (s : State) (x : Fin 80) (src egress c q n : Nat) (k : Nat), s.sealed = false → s.mesh.inbox.lookD x.val [] = [.echo src egress c q n] →
    s.role src = 0 → src < 144 → s.isTrunk src = false → s.vsOfPort src = some k → s.shTakes (576 + 4 * k + c) = true → s.shOpen (576 + 4 * k + c) = false →
    Runs (.congestionEcho x) s (fun u =>
      u.get F.SH_STAT_RATE_CUR [576 + 4 * k + c] = s.get F.SH_STAT_RATE_CUR [576 + 4 * k + c] ∧ (u.sh (576 + 4 * k + c)).ivEcho = true ∧
      s.counts u ⟨.PMG_SHCNT, [576 + 4 * k + c, 1]⟩ ∧ u.mesh.inbox.lookD x.val [] = [])) ∧
  (∀ (s : State) (x : Fin 1840), s.sealed = false → s.shEn x.val = true → (s.sh x.val).ivStart + s.shHold x.val ≤ s.now → (s.sh x.val).ivEcho = false →
    s.get F.SH_STAT_RATE_CUR [x.val] + s.shAi x.val ≤ s.shRate x.val → s.shRate x.val < 2 ^ F.SH_STAT_RATE_CUR.w →
    Runs (.shaperRecoveryTick x) s (fun u =>
      u.get F.SH_STAT_RATE_CUR [x.val] = s.get F.SH_STAT_RATE_CUR [x.val] + s.shAi x.val ∧ (u.sh x.val).ivStart = (s.sh x.val).ivStart + s.shHold x.val ∧
      s.only { u with shp := s.shp } [⟨.SH_STAT, [x.val]⟩] [])) ∧
  (∀ (s : State) (x : Fin 1840), s.sealed = false → s.shEn x.val = true → (s.sh x.val).ivStart + s.shHold x.val ≤ s.now → (s.sh x.val).ivEcho = true →
    Runs (.shaperRecoveryTick x) s (fun u =>
      u.get F.SH_STAT_RATE_CUR [x.val] = s.get F.SH_STAT_RATE_CUR [x.val] ∧ (u.sh x.val).ivEcho = false ∧
      (u.sh x.val).ivStart = (s.sh x.val).ivStart + s.shHold x.val ∧ s.only { u with shp := s.shp } [⟨.SH_STAT, [x.val]⟩] [])) ∧
  (∀ (s : State) (x : Fin 1840), s.sealed = false → s.now < (s.sh x.val).ivStart + s.shHold x.val → Runs (.shaperRecoveryTick x) s (fun u => u = s)) ∧
  (∀ (s : State) (x : Fin 1840), s.sealed = false → (s.sh x.val).winStart + 1000 ≤ s.now →
    Runs (.shaperMeasWindow x) s (fun u =>
      (u.sh x.val).meas = some ((s.sh x.val).winBytes / 10) ∧ (u.sh x.val).winBytes = 0 ∧ (u.sh x.val).winStart = (s.sh x.val).winStart + 1000 ∧
      u.get F.SH_STAT_RATE_CUR [x.val] = s.get F.SH_STAT_RATE_CUR [x.val] ∧ s.only { u with shp := s.shp } [⟨.SH_STAT, [x.val]⟩] [])) ∧
  (∀ (s : State) (x : Fin 1840), s.sealed = false → s.now < (s.sh x.val).winStart + 1000 → Runs (.shaperMeasWindow x) s (fun u => u = s))

/-- Outside the safe state, at a router in service. The only requester of a free output sends its flit: the flit leaves its FIFO and enters the
next one, one credit of the output is used and one of the input is owed, and the output's counter counts; at the local output a tail lands.
A head that cannot be read is dropped with its packet, counted, and HDR_UE is raised. A credit that is owed returns, and none that is not. A
requester whose wait reached STARVE enters the pending queue once, is counted and raises STARVED. A keepalive keeps its time. A handshake
timeout, or the declaration, fails a link that is up at both its ends, raises LINK_FAIL, sets REROUTE and is journaled and queued; another
link stays as it is. A router declared failed has FAILED set, its links failed, and is journaled and queued. -/
def Obligations.flits_credits_and_links_of_the_mesh : Prop :=
  (∀ (s : State) (x : Fin 96) (b : Bool) (out : Fin 5) (iv : Nat × Nat) (f : Flit) (p : Pkt) (k : VcId), s.sealed = false → s.rtrOk x.val = true →
    s.requesters s.gateRoom x.val b out.val = [(iv, f, p)] → (s.mesh.outs.lookD (x.val, out.val, b) {}).holder = none → outChan x.val out.val b iv.2 = some k →
    iv.1 < 4 →
    Runs (.flitHop x b out .none) s (fun u =>
      u.fifo ⟨x.val, iv.1, b, iv.2⟩ = (s.fifo ⟨x.val, iv.1, b, iv.2⟩).drop 1 ∧ u.fifo k = s.fifo k ++ [f] ∧ u.cred k = s.cred k - 1 ∧
      u.mesh.owed.lookD ⟨x.val, iv.1, b, iv.2⟩ 0 = s.mesh.owed.lookD ⟨x.val, iv.1, b, iv.2⟩ 0 + 1 ∧
      u.mesh.hold.look k = (if f.tail then none else some f.pid) ∧ s.counts u ⟨.RTR_CNT, [x.val, (if b then 5 else 0) + out.val]⟩ ∧
      u.mesh.pkts = s.mesh.pkts ∧ u.fwd = s.fwd ∧ u.cfg = s.cfg ∧ u.journal = s.journal)) ∧
  (∀ (s : State) (x : Fin 96) (b : Bool) (iv : Nat × Nat) (f : Flit) (p : Pkt), s.sealed = false → s.rtrOk x.val = true →
    s.requesters s.gateRoom x.val b 4 = [(iv, f, p)] → (s.mesh.outs.lookD (x.val, 4, b) {}).holder = none → iv.1 < 4 → f.tail = true →
    Runs (.flitHop x b 4 .none) s (fun u =>
      u.fifo ⟨x.val, iv.1, b, iv.2⟩ = (s.fifo ⟨x.val, iv.1, b, iv.2⟩).drop 1 ∧ u.mesh.landed = s.mesh.landed ++ [(x.val, f.pid)] ∧
      s.counts u ⟨.RTR_CNT, [x.val, (if b then 5 else 0) + 4]⟩ ∧ u.mesh.pkts = s.mesh.pkts ∧ u.mesh.cred = s.mesh.cred ∧ u.fwd = s.fwd)) ∧
  (∀ (s : State) (x : Fin 96) (b : Bool) (out : Fin 5) (iv : Nat × Nat) (f : Flit) (p : Pkt), s.sealed = false → s.rtrOk x.val = true →
    s.requesters s.gateRoom x.val b out.val = [(iv, f, p)] → (s.mesh.outs.lookD (x.val, out.val, b) {}).holder = none → iv.1 = 4 → f.idx = 0 →
    Runs (.flitHop x b out .headUe) s (fun u =>
      u.mesh.pkts.look f.pid = none ∧ (u.fifo ⟨x.val, iv.1, b, iv.2⟩).all (fun g => g.pid != f.pid) = true ∧ s.counts u ⟨.RTR_CNT, [x.val, 12]⟩ ∧
      (u.rd (Trip.router x.val).stat).getLsbD 1 = true ∧ u.fwd = s.fwd ∧ u.journal = s.journal)) ∧
  (∀ (s : State) (x : Fin 96) (b : Bool) (out : Fin 5) (vc : Fin 10) (k : VcId), s.sealed = false → outChan x.val out.val b vc.val = some k →
    0 < s.mesh.owed.lookD k 0 →
    Runs (.creditReturn x b out vc) s (fun u =>
      u.cred k = s.cred k + 1 ∧ u.mesh.owed.lookD k 0 + 1 = s.mesh.owed.lookD k 0 ∧
      u = { s with mesh := { s.mesh with owed := u.mesh.owed, cred := u.mesh.cred } })) ∧
  (∀ (s : State) (x : Fin 96) (b : Bool) (out : Fin 5) (vc : Fin 10) (k : VcId), s.sealed = false → outChan x.val out.val b vc.val = some k →
    s.mesh.owed.lookD k 0 = 0 → Runs (.creditReturn x b out vc) s (fun u => u = s)) ∧
  (∀ (s : State) (x : Fin 96) (b : Bool) (out inp : Fin 5) (vc : Fin 10), s.sealed = false →
    max 16 (s.get F.RTR_ARB_STARVE [x.val]) ≤ s.mesh.waits.lookD (x.val, out.val, b, inp.val, vc.val) 0 →
    (inp.val, vc.val) ∉ (s.mesh.outs.lookD (x.val, out.val, b) {}).pend →
    Runs (.starveLimit x b out inp vc) s (fun u =>
      (u.mesh.outs.lookD (x.val, out.val, b) {}).pend = (s.mesh.outs.lookD (x.val, out.val, b) {}).pend ++ [(inp.val, vc.val)] ∧
      s.counts u ⟨.RTR_CNT, [x.val, 13]⟩ ∧ (u.rd (Trip.router x.val).stat).getLsbD 6 = true ∧
      s.only { u with mesh := s.mesh } [⟨.RTR_CNT, [x.val, 13]⟩] [.router x.val])) ∧
  (∀ (s : State) (x : Fin 96) (d : Fin 4), s.sealed = false →
    Runs (.keepalive x d) s (fun u => u = { s with mesh := { s.mesh with linkAt := s.mesh.linkAt.put (x.val, d.val) s.now } })) ∧
  (∀ (s : State) (x : Fin 96) (d : Fin 4) (n : Nat), s.sealed = false → neighbour x.val d.val = some n → s.linkState x.val d.val = 1 →
    (1, 4 * x.val + d.val) ∉ s.flt.failed →
    Runs (.handshakeTimeout x d) s (fun u =>
      u.linkState x.val d.val = 2 ∧ u.linkState n (oppDir d.val) = 2 ∧ (u.rd (Trip.router x.val).stat).getLsbD 0 = true ∧
      u.get F.RTR_ESC_CTL_REROUTE [x.val] = 1 ∧ u.flt.queue = s.flt.queue ++ [(1, 4 * x.val + d.val)] ∧
      u.flt.failed = s.flt.failed ++ [(1, 4 * x.val + d.val)] ∧ u.journal.getLast?.map (fun e => (e.kind, leAt e.body 0 1, leAt e.body 2 2)) =
        some (1, 1, 4 * x.val + d.val) ∧ u.fwd = s.fwd ∧ u.cfg = s.cfg)) ∧
  (∀ (s : State) (x : Fin 96) (d : Fin 4), s.sealed = false → s.linkState x.val d.val ≠ 1 → Runs (.handshakeTimeout x d) s (fun u => u = s)) ∧
  (∀ (s : State) (x : Fin 96) (d : Fin 4) (n : Nat), s.sealed = false → neighbour x.val d.val = some n → s.linkState x.val d.val = 1 →
    (1, 4 * x.val + d.val) ∉ s.flt.failed →
    Runs (.linkDeclaredFailed x d) s (fun u =>
      u.linkState x.val d.val = 2 ∧ u.linkState n (oppDir d.val) = 2 ∧ u.get F.RTR_ESC_CTL_REROUTE [x.val] = 1 ∧
      u.flt.queue = s.flt.queue ++ [(1, 4 * x.val + d.val)] ∧ u.fwd = s.fwd ∧ u.cfg = s.cfg)) ∧
  (∀ (s : State) (x : Fin 96), s.sealed = false → s.get F.RTR_CTL_FAILED [x.val] = 0 → (0, x.val) ∉ s.flt.failed →
    Runs (.routerDeclaredFailed x) s (fun u =>
      u.get F.RTR_CTL_FAILED [x.val] = 1 ∧ (∀ d < 4, u.linkState x.val d ≠ 1 ∨ neighbour x.val d = none) ∧
      u.flt.queue = s.flt.queue ++ [(0, x.val)] ∧ u.journal.getLast?.map (fun e => (e.kind, leAt e.body 0 1, leAt e.body 2 2)) = some (1, 0, x.val) ∧
      u.fwd = s.fwd ∧ u.cfg = s.cfg))

/-- A permitted write of RTR_CTL takes a router out of service by ISOLATE, clears its counters, or sets LOCK. A write of an escape table entry
or vector goes to the inactive bank; one to the active bank only sets REFUSED. FREEZE is written, ESC_EMPTY becomes 1 once no escape flit is
in the router, and SWAP changes the active bank while FREEZE and ESC_EMPTY are 1, and else only sets REFUSED. REROUTE_CLEAR clears REROUTE
in every router in service. A lawful frequency is taken and SETTLED clears; another only sets REFUSED. A measurement within 5 MHz sets
SETTLED. The third window in a row more than 5 percent off while settled raises CLK_DEV. Nothing else changes. -/
def Obligations.router_control_and_escape_tables : Prop :=
  (∀ (s : State) (who : Init) (x : Fin 96), s.granted who true ⟨.RTR_CTL, [x.val]⟩ 4 →
    Runs (.routerIsolate who x) s (fun u => u.get F.RTR_CTL_ISOLATE [x.val] = 1 ∧ s.only u [⟨.RTR_CTL, [x.val]⟩] [])) ∧
  (∀ (s : State) (who : Init) (x : Fin 96), s.granted who true ⟨.RTR_CTL, [x.val]⟩ 4 →
    Runs (.routerCntClr who x) s (fun u => (∀ c < 16, u.rd ⟨.RTR_CNT, [x.val, c]⟩ = 0) ∧ s.only u (s.listed (fun r => r.n == RN.RTR_CNT && r.ix.head? == some x.val)) [])) ∧
  (∀ (s : State) (who : Init) (x : Fin 96), s.granted who true ⟨.RTR_CTL, [x.val]⟩ 4 →
    Runs (.rtrLock who x) s (fun u => u.get F.RTR_CTL_LOCK [x.val] = 1 ∧ s.only u [⟨.RTR_CTL, [x.val]⟩] [])) ∧
  (∀ (s : State) (who : Init) (x : Fin 96) (bank : Fin 2) (ix : Fin 96) (v : W64), s.granted who true ⟨.RTR_ESC_TBL, [x.val, bank.val, ix.val]⟩ 4 →
    s.get F.RTR_ESC_CTL_ACTIVE [x.val] ≠ bank.val →
    Runs (.escTableWrite who x false bank ix v) s (fun u =>
      u.get F.RTR_ESC_TBL_NEXT [x.val, bank.val, ix.val] = fget v 0 3 ∧ s.only u [⟨.RTR_ESC_TBL, [x.val, bank.val, ix.val]⟩] [])) ∧
  (∀ (s : State) (who : Init) (x : Fin 96) (bank : Fin 2) (v : W64), s.granted who true ⟨.RTR_ESCV, [x.val, bank.val, 0]⟩ 8 →
    s.get F.RTR_ESC_CTL_ACTIVE [x.val] ≠ bank.val →
    Runs (.escTableWrite who x true bank 0 v) s (fun u =>
      u.get F.RTR_ESCV_DEST [x.val, bank.val, 0] = v.toNat ∧ s.only u [⟨.RTR_ESCV, [x.val, bank.val, 0]⟩] [])) ∧
  (∀ (s : State) (who : Init) (x : Fin 96) (bank : Fin 2) (ix : Fin 96) (v : W64), s.granted who true ⟨.RTR_ESC_TBL, [x.val, bank.val, ix.val]⟩ 4 →
    s.get F.RTR_ESC_CTL_ACTIVE [x.val] = bank.val →
    Runs (.escTableWrite who x false bank ix v) s (fun u => u.get F.RTR_ESC_CTL_REFUSED [x.val] = 1 ∧ s.only u [⟨.RTR_ESC_CTL, [x.val]⟩] [])) ∧
  (∀ (s : State) (who : Init) (x : Fin 96) (on : Bool), s.granted who true ⟨.RTR_ESC_CTL, [x.val]⟩ 4 → s.mesh.injq = [] → s.fwd.held = [] → s.fwd.lostQ = [] →
    Runs (.escFreeze who x on) s (fun u => u.get F.RTR_ESC_CTL_FREEZE [x.val] = bit on ∧ s.only u [⟨.RTR_ESC_CTL, [x.val]⟩] [])) ∧
  (∀ (s : State) (x : Fin 96), s.sealed = false → s.escFlits x.val = false →
    Runs (.escapeDrained x) s (fun u => u.get F.RTR_ESC_CTL_ESC_EMPTY [x.val] = 1 ∧ s.only u [⟨.RTR_ESC_CTL, [x.val]⟩] [])) ∧
  (∀ (s : State) (x : Fin 96), s.sealed = false → s.escFlits x.val = true → Runs (.escapeDrained x) s (fun u => u = s)) ∧
  (∀ (s : State) (who : Init) (x : Fin 96), s.granted who true ⟨.RTR_ESC_CTL, [x.val]⟩ 4 → s.get F.RTR_ESC_CTL_FREEZE [x.val] = 1 →
    s.get F.RTR_ESC_CTL_ESC_EMPTY [x.val] = 1 →
    Runs (.escSwap who x) s (fun u =>
      u.get F.RTR_ESC_CTL_ACTIVE [x.val] + s.get F.RTR_ESC_CTL_ACTIVE [x.val] = 1 ∧ u.get F.RTR_ESC_CTL_REFUSED [x.val] = s.get F.RTR_ESC_CTL_REFUSED [x.val] ∧
      s.only u [⟨.RTR_ESC_CTL, [x.val]⟩] [])) ∧
  (∀ (s : State) (who : Init) (x : Fin 96), s.granted who true ⟨.RTR_ESC_CTL, [x.val]⟩ 4 →
    (s.get F.RTR_ESC_CTL_FREEZE [x.val] = 0 ∨ s.get F.RTR_ESC_CTL_ESC_EMPTY [x.val] = 0) →
    Runs (.escSwap who x) s (fun u =>
      u.get F.RTR_ESC_CTL_ACTIVE [x.val] = s.get F.RTR_ESC_CTL_ACTIVE [x.val] ∧ u.get F.RTR_ESC_CTL_REFUSED [x.val] = 1 ∧
      s.only u [⟨.RTR_ESC_CTL, [x.val]⟩] [])) ∧
  (∀ (s : State) (who : Init), s.sealed = false → (∀ r < 96, s.rtrOk r = true → s.granted who true ⟨.RTR_ESC_CTL, [r]⟩ 4) →
    Runs (.rerouteClear who) s (fun u =>
      (∀ r < 96, u.get F.RTR_ESC_CTL_REROUTE [r] = (if s.rtrOk r then 0 else s.get F.RTR_ESC_CTL_REROUTE [r])) ∧
      s.only u ((List.range 96).map (fun r => ⟨.RTR_ESC_CTL, [r]⟩)) [])) ∧
  (∀ (s : State) (who : Init) (x : Fin 96) (freq : Fin 4096), s.granted who true ⟨.RTR_ISL_CTL, [x.val]⟩ 4 → 1600 ≤ freq.val → freq.val ≤ 2400 → freq.val % 25 = 0 →
    Runs (.islandFreqWrite who x freq) s (fun u =>
      u.get F.RTR_ISL_CTL_FREQ [x.val] = freq.val ∧ u.get F.RTR_ISL_STAT_SETTLED [x.val] = 0 ∧
      s.only { u with mesh := s.mesh } [⟨.RTR_ISL_CTL, [x.val]⟩, ⟨.RTR_ISL_STAT, [x.val]⟩] [])) ∧
  (∀ (s : State) (who : Init) (x : Fin 96) (freq : Fin 4096), s.granted who true ⟨.RTR_ISL_CTL, [x.val]⟩ 4 →
    (freq.val < 1600 ∨ 2400 < freq.val ∨ freq.val % 25 ≠ 0) →
    Runs (.islandFreqWrite who x freq) s (fun u =>
      u.get F.RTR_ISL_CTL_FREQ [x.val] = s.get F.RTR_ISL_CTL_FREQ [x.val] ∧ u.get F.RTR_ISL_CTL_REFUSED [x.val] = 1 ∧ s.only u [⟨.RTR_ISL_CTL, [x.val]⟩] [])) ∧
  (∀ (s : State) (x : Fin 96) (meas : Fin 4096), s.sealed = false → meas.val ≤ s.get F.RTR_ISL_CTL_FREQ [x.val] + 5 → s.get F.RTR_ISL_CTL_FREQ [x.val] ≤ meas.val + 5 →
    Runs (.islandSettled x meas) s (fun u =>
      u.get F.RTR_ISL_STAT_SETTLED [x.val] = 1 ∧ u.get F.RTR_ISL_STAT_MEAS [x.val] = meas.val ∧ s.only u [⟨.RTR_ISL_STAT, [x.val]⟩] [])) ∧
  (∀ (s : State) (x : Fin 96) (meas : Fin 4096), s.sealed = false →
    (s.get F.RTR_ISL_CTL_FREQ [x.val] + 5 < meas.val ∨ meas.val + 5 < s.get F.RTR_ISL_CTL_FREQ [x.val]) → Runs (.islandSettled x meas) s (fun u => u = s)) ∧
  (∀ (s : State) (x : Fin 96) (meas : Fin 4096), s.sealed = false → s.get F.RTR_ISL_STAT_SETTLED [x.val] = 1 → s.mesh.clkBad.lookD x.val 0 = 2 →
    (s.get F.RTR_ISL_CTL_FREQ [x.val] < 20 * (meas.val - s.get F.RTR_ISL_CTL_FREQ [x.val]) ∨
      s.get F.RTR_ISL_CTL_FREQ [x.val] < 20 * (s.get F.RTR_ISL_CTL_FREQ [x.val] - meas.val)) →
    Runs (.freqMeasurementWindow x meas) s (fun u =>
      u.get F.RTR_ISL_STAT_MEAS [x.val] = meas.val ∧ s.raises u (.router x.val) 5 ∧ u.mesh.clkBad.lookD x.val 0 = 3 ∧
      s.only { u with mesh := s.mesh } [⟨.RTR_ISL_STAT, [x.val]⟩] [.router x.val])) ∧
  (∀ (s : State) (x : Fin 96) (meas : Fin 4096), s.sealed = false → 20 * (meas.val - s.get F.RTR_ISL_CTL_FREQ [x.val]) ≤ s.get F.RTR_ISL_CTL_FREQ [x.val] →
    20 * (s.get F.RTR_ISL_CTL_FREQ [x.val] - meas.val) ≤ s.get F.RTR_ISL_CTL_FREQ [x.val] →
    Runs (.freqMeasurementWindow x meas) s (fun u =>
      u.get F.RTR_ISL_STAT_MEAS [x.val] = meas.val ∧ u.mesh.clkBad.lookD x.val 0 = 0 ∧ s.only { u with mesh := s.mesh } [⟨.RTR_ISL_STAT, [x.val]⟩] []))

/-- Outside the safe state, at an allocated slot of an active virtual switch. Slot power off, or Link Disable, takes a bound port's link down
and shows in the slot; the value that the bit has already changes nothing. Slot power on and Link Disable 0 show in the slot. Retrain Link
of a bound port in L0 starts Recovery. A DPC software trigger contains the vDSP under cause 4 where its host has enabled DPC, and else
changes nothing. Clearing DPC Trigger Status of a contained vDSP starts its release. A routing field takes its value and the new tables wait
for a swap whose end completes the write. A read of a member's shadowed field is answered from the shadow, a write sets it; within 100 ms of
the FLR of a release requests get Request Retry Status. An FLR goes to the real function. -/
def Obligations.what_a_host_writes_to_its_slots : Prop :=
  (∀ (s : State) (vs : Fin 48) (slot : Fin 32), s.sealed = false → s.slotThere vs.val slot.val = true → s.cf (.vdsp vs.val slot.val) .slotPower = 0 →
    s.get F.VST_SLOT_KIND [vs.val, slot.val] = 1 → s.inL0 (s.get F.VST_SLOT_TARGET [vs.val, slot.val] % 256) = true →
    s.fwd.tags = [] → s.fwd.gateq = [] → s.fwd.shq = [] → s.fwd.lostQ = [] → s.mgr.parked = [] → s.mgr.queue = [] →
    Runs (.powerControllerWrite vs slot true) s (fun u =>
      u.cf (.vdsp vs.val slot.val) .slotPower = 1 ∧ u.get F.VST_SLOT_PWR_OFF [vs.val, slot.val] = 1 ∧
      u.pget F.PP_STAT_LINK_STATE (s.get F.VST_SLOT_TARGET [vs.val, slot.val] % 256) = 0 ∧
      u.pget F.PP_STAT_WIDTH (s.get F.VST_SLOT_TARGET [vs.val, slot.val] % 256) = 0 ∧ u.cf (.vdsp vs.val slot.val) .dllActive = 0 ∧ u.journal = s.journal)) ∧
  (∀ (s : State) (vs : Fin 48) (slot : Fin 32) (off : Bool), s.sealed = false → s.slotThere vs.val slot.val = true →
    s.cf (.vdsp vs.val slot.val) .slotPower = bit off → Runs (.powerControllerWrite vs slot off) s (fun u => u = s)) ∧
  (∀ (s : State) (vs : Fin 48) (slot : Fin 32), s.sealed = false → s.slotThere vs.val slot.val = true → s.cf (.vdsp vs.val slot.val) .slotPower = 1 →
    s.get F.VST_SLOT_KIND [vs.val, slot.val] = 0 →
    Runs (.powerControllerWrite vs slot false) s (fun u =>
      u.cf (.vdsp vs.val slot.val) .slotPower = 0 ∧ u.get F.VST_SLOT_PWR_OFF [vs.val, slot.val] = 0 ∧ u.fwd = s.fwd ∧ u.journal = s.journal ∧
      s.keeps u [⟨.VST_SLOT, [vs.val, slot.val]⟩, ⟨.VST_CONT, [vs.val, slot.val]⟩] [])) ∧
  (∀ (s : State) (vs : Fin 48) (slot : Fin 32), s.sealed = false → s.slotThere vs.val slot.val = true → s.cf (.vdsp vs.val slot.val) .linkDisable = 0 →
    s.get F.VST_SLOT_KIND [vs.val, slot.val] = 1 → s.inL0 (s.get F.VST_SLOT_TARGET [vs.val, slot.val] % 256) = true →
    s.fwd.tags = [] → s.fwd.gateq = [] → s.fwd.shq = [] → s.fwd.lostQ = [] →
    Runs (.linkDisableWrite vs slot true) s (fun u =>
      u.cf (.vdsp vs.val slot.val) .linkDisable = 1 ∧ u.pget F.PP_STAT_LINK_STATE (s.get F.VST_SLOT_TARGET [vs.val, slot.val] % 256) = 0 ∧
      u.cf (.vdsp vs.val slot.val) .dllActive = 0 ∧ u.journal = s.journal)) ∧
  (∀ (s : State) (vs : Fin 48) (slot : Fin 32), s.sealed = false → s.slotThere vs.val slot.val = true → s.cf (.vdsp vs.val slot.val) .linkDisable = 1 →
    s.get F.VST_SLOT_KIND [vs.val, slot.val] = 0 → s.contained vs.val slot.val = true →
    Runs (.linkDisableWrite vs slot false) s (fun u =>
      u.cf (.vdsp vs.val slot.val) .linkDisable = 0 ∧ s.get F.VST_SLOT_VDSP [vs.val, slot.val] ∈ u.fwd.releasing ∧ u.journal = s.journal)) ∧
  (∀ (s : State) (vs : Fin 48) (slot : Fin 32), s.sealed = false → s.slotThere vs.val slot.val = true → s.get F.VST_SLOT_KIND [vs.val, slot.val] = 1 →
    s.inL0 (s.get F.VST_SLOT_TARGET [vs.val, slot.val] % 256) = true →
    Runs (.retrainLinkWrite vs slot) s (fun u =>
      u.pget F.PP_STAT_LINK_STATE (s.get F.VST_SLOT_TARGET [vs.val, slot.val] % 256) = 5 ∧
      u.pget F.PP_STAT_WIDTH (s.get F.VST_SLOT_TARGET [vs.val, slot.val] % 256) = 0 ∧
      s.counts u (portCnt (s.get F.VST_SLOT_TARGET [vs.val, slot.val] % 256) 20) ∧ u.cfg = s.cfg ∧ u.fwd = s.fwd)) ∧
  (∀ (s : State) (vs : Fin 48) (slot : Fin 32), s.sealed = false → s.slotThere vs.val slot.val = true → s.cf (.vdsp vs.val slot.val) .dpcEnable ≠ 0 →
    s.contained vs.val slot.val = false → s.fwd.tags = [] → s.fwd.gateq = [] → s.fwd.shq = [] → s.fwd.lostQ = [] →
    Runs (.dpcSoftwareTrigger vs slot) s (fun u =>
      u.get F.VST_CONT_CONTAINED [vs.val, slot.val] = 1 ∧ u.get F.VST_CONT_CAUSE [vs.val, slot.val] = 4 ∧ u.get F.VST_SLOT_CONTAINED [vs.val, slot.val] = 1 ∧
      u.cf (.vdsp vs.val slot.val) .dpcTrigger = 1 ∧ u.cf (.vdsp vs.val slot.val) .dllActive = 0 ∧ (u.rd Trip.vst.stat).getLsbD 2 = true ∧ u.journal = s.journal)) ∧
  (∀ (s : State) (vs : Fin 48) (slot : Fin 32), s.sealed = false → s.slotThere vs.val slot.val = true → s.cf (.vdsp vs.val slot.val) .dpcEnable = 0 →
    Runs (.dpcSoftwareTrigger vs slot) s (fun u => u = s)) ∧
  (∀ (s : State) (vs : Fin 48) (slot : Fin 32), s.sealed = false → s.slotThere vs.val slot.val = true → s.cf (.vdsp vs.val slot.val) .dpcTrigger = 1 →
    s.contained vs.val slot.val = true →
    Runs (.dpcTriggerStatusClear vs slot) s (fun u =>
      u.cf (.vdsp vs.val slot.val) .dpcTrigger = 0 ∧ s.get F.VST_SLOT_VDSP [vs.val, slot.val] ∈ u.fwd.releasing ∧ u.regs = s.regs ∧ u.sent = s.sent)) ∧
  (∀ (s : State) (port : Fin 144) (v sl : Nat) (t : Tlp), s.sealed = false → s.vsOfPort port.val = some v → t.fld = .busSec →
    Runs (.hostRoutingWrite port (.vdsp v sl) t) s (fun u =>
      u.cf (.vdsp v sl) .busSec = leNat t.data % 256 ∧ u.get F.VST_SLOT_SEC_BUS [v, sl] = leNat t.data % 256 ∧
      u.fwd.swaps.length = s.fwd.swaps.length + 1 ∧
      u.fwd.swaps.getLast?.map (fun w => (w.set, w.after)) = some (.fwd, .cpl port.val { t with kind := .cfgwr }) ∧
      (u.fwd.tabs.look ((s.fwd.epochs.lookD 0 0 + 1) % 2 ^ 32)).map (fun T => T.cf (.vdsp v sl) .busSec) = some (leNat t.data % 256) ∧ u.journal = s.journal)) ∧
  (∀ (s : State) (port : Fin 144) (vs : Fin 48) (slot : Fin 32) (f : Fin 8) (t : Tlp) (pick : Fin 16384) (k : Nat), s.sealed = false →
    s.vsOfPort port.val = some vs.val → s.get F.VST_SLOT_KIND [vs.val, slot.val] = 2 → s.contained vs.val slot.val = false →
    s.snap.fbOf (s.get F.VST_SLOT_VDSP [vs.val, slot.val]) f.val = some k → (vs.val, slot.val, f.val) ∉ s.fwd.flrRrs → t.kind = .cfgrd → t.fld = .intLine →
    s.canAnswer port.val 1 →
    Runs (.memberConfigRequest port vs slot f t pick) s (fun u =>
      u.sent.getLast? = some (.tlp port.val (cplData t t.tid (leBytes 4 (s.cf (.mem vs.val slot.val f.val) .intLine)))) ∧ u.cfg = s.cfg ∧ u.mesh = s.mesh)) ∧
  (∀ (s : State) (port : Fin 144) (vs : Fin 48) (slot : Fin 32) (f : Fin 8) (t : Tlp) (pick : Fin 16384) (k : Nat), s.sealed = false →
    s.vsOfPort port.val = some vs.val → s.get F.VST_SLOT_KIND [vs.val, slot.val] = 2 → s.contained vs.val slot.val = false →
    s.snap.fbOf (s.get F.VST_SLOT_VDSP [vs.val, slot.val]) f.val = some k → (vs.val, slot.val, f.val) ∉ s.fwd.flrRrs → t.kind = .cfgwr → t.fld = .mps →
    Runs (.memberConfigRequest port vs slot f t pick) s (fun u =>
      u.cf (.mem vs.val slot.val f.val) .mps = leNat t.data % 8 ∧ u.fwd.swaps = s.fwd.swaps ∧ u.journal = s.journal)) ∧
  (∀ (s : State) (port : Fin 144) (vs : Fin 48) (slot : Fin 32) (f : Fin 8) (t : Tlp) (pick : Fin 16384) (k : Nat), s.sealed = false →
    s.vsOfPort port.val = some vs.val → s.get F.VST_SLOT_KIND [vs.val, slot.val] = 2 → s.contained vs.val slot.val = false →
    s.snap.fbOf (s.get F.VST_SLOT_VDSP [vs.val, slot.val]) f.val = some k → (vs.val, slot.val, f.val) ∈ s.fwd.flrRrs → t.kind = .cfgrd →
    s.canAnswer port.val 1 →
    Runs (.memberConfigRequest port vs slot f t pick) s (fun u =>
      u.sent.getLast? = some (.tlp port.val (cplFor t 2 t.tid)) ∧ u.cfg = s.cfg ∧ u.mesh = s.mesh)) ∧
  (∀ (s : State) (vs : Fin 48) (slot : Fin 32) (f : Fin 8) (port rid : Nat), s.sealed = false → s.fwd.trk = [] → s.fwd.lostQ = [] →
    (s.membersOf (s.get F.VST_SLOT_VDSP [vs.val, slot.val])).find? (fun m => m.1 == f.val) = some (f.val, port, rid) →
    Runs (.memberFlr vs slot f) s (fun u =>
      u.sent = s.sent ++ [.flr port rid] ∧ u.fwd.flrAt.look (vs.val, slot.val, f.val) = some s.now ∧ u.cf (.mem vs.val slot.val f.val) .bme = 0 ∧
      u.cf (.mem vs.val slot.val f.val) .mse = 0 ∧ u.mesh = s.mesh ∧ u.journal = s.journal)) ∧
  (∀ (s : State) (vs : Fin 48) (slot : Fin 32) (f : Fin 8) (t : Nat), s.sealed = false → s.fwd.flrAt.look (vs.val, slot.val, f.val) = some t → t + 100000000 ≤ s.now →
    Runs (.memberFlrRetryEnd vs slot f) s (fun u =>
      (vs.val, slot.val, f.val) ∉ u.fwd.flrRrs ∧ u.fwd.flrAt.look (vs.val, slot.val, f.val) = none ∧ u.cfg = s.cfg ∧ u.mesh = s.mesh ∧ u.sent = s.sent)) ∧
  (∀ (s : State) (vs : Fin 48) (slot : Fin 32) (f : Fin 8) (t : Nat), s.sealed = false → s.fwd.flrAt.look (vs.val, slot.val, f.val) = some t → s.now < t + 100000000 →
    Runs (.memberFlrRetryEnd vs slot f) s (fun u => u = s))

/-- Outside the safe state, on a trunk that has nothing to send. A member of the spray set, not the anchor, with nothing queued sends its marker
once it has been idle for IDLE_TIME, and not before. A partner's marker is answered and the port dozes; the anchor ignores it. A reply to
its own marker lets a port doze. A partner's wake burst, or its own within MAX_TIME, brings a dozing port back; beyond MAX_TIME a short
retrain is started and counted, and its end makes the port usable. LN_STAT.DOZE follows on the port's lanes. -/
def Obligations.trunk_doze : Prop :=
  (∀ (s : State) (port : Fin 144), s.sealed = false → 0 < s.get F.PT_DOZE_IDLE_TIME [port.val / 4, port.val % 4] → s.awake (port.val / 8) (port.val % 8) = true →
    s.anchor (port.val / 8) ≠ some (port.val % 8) → port.val ∉ s.lnk.dozeAsk → s.memQueued (port.val / 8) (port.val % 8) = 0 →
    s.lnk.lastTlp.lookD port.val 0 + min 1000 (s.get F.PT_DOZE_IDLE_TIME [port.val / 4, port.val % 4]) * 1000 ≤ s.now →
    Runs (.dozeIdleTimeout port) s (fun u =>
      u = { s with lnk := { s.lnk with dozeAsk := s.lnk.dozeAsk ++ [port.val] }, sent := s.sent ++ [.kfp port.val (.doze (port.val % 8) false)] })) ∧
  (∀ (s : State) (port : Fin 144), s.sealed = false →
    s.now < s.lnk.lastTlp.lookD port.val 0 + min 1000 (s.get F.PT_DOZE_IDLE_TIME [port.val / 4, port.val % 4]) * 1000 →
    Runs (.dozeIdleTimeout port) s (fun u => u = s)) ∧
  (∀ (s : State) (port : Fin 144), s.sealed = false → s.awake (port.val / 8) (port.val % 8) = true → port.val ∉ s.lnk.dozeAsk →
    s.anchor (port.val / 8) ≠ some (port.val % 8) → s.memQueued (port.val / 8) (port.val % 8) = 0 →
    Runs (.dozeMarker port false) s (fun u =>
      u.lnk.doze.look port.val = some s.now ∧ (u.sent.drop s.sent.length).head? = some (.kfp port.val (.doze (port.val % 8) true)) ∧
      (∀ l ∈ s.lanesOf port.val, u.get F.LN_STAT_DOZE [l.1, l.2] = 1) ∧ s.counts u ⟨.FAB_CNT, [port.val / 8, 11]⟩ ∧ u.fwd = s.fwd)) ∧
  (∀ (s : State) (port : Fin 144), s.sealed = false → s.awake (port.val / 8) (port.val % 8) = true → port.val ∈ s.lnk.dozeAsk →
    Runs (.dozeMarker port true) s (fun u =>
      u.lnk.doze.look port.val = some s.now ∧ port.val ∉ u.lnk.dozeAsk ∧ s.counts u ⟨.FAB_CNT, [port.val / 8, 11]⟩ ∧ u.fwd = s.fwd)) ∧
  (∀ (s : State) (port : Fin 144), s.sealed = false → port.val ∉ s.lnk.dozeAsk → s.anchor (port.val / 8) = some (port.val % 8) →
    Runs (.dozeMarker port false) s (fun u => u = s)) ∧
  (∀ (s : State) (port : Fin 144) (t : Nat), s.sealed = false → s.lnk.doze.look port.val = some t → s.fwd.trunkq.lookD (port.val / 8) [] = [] →
    Runs (.wakeBurst port false) s (fun u =>
      u.lnk.doze.look port.val = none ∧ (∀ l ∈ s.lanesOf port.val, u.get F.LN_STAT_DOZE [l.1, l.2] = 0) ∧ u.sent = s.sent ∧ u.fwd = s.fwd ∧
      s.keeps u ((s.lanesOf port.val).map (fun l => ⟨.LN_STAT, [l.1, l.2]⟩)) [])) ∧
  (∀ (s : State) (port : Fin 144) (t : Nat), s.sealed = false → s.lnk.doze.look port.val = some t → s.dozeLate port.val = false →
    s.fwd.trunkq.lookD (port.val / 8) [] = [] →
    Runs (.wakeBurst port true) s (fun u =>
      u.lnk.doze.look port.val = none ∧ u.sent.getLast? = some (.kfp port.val .wake) ∧ s.counts u ⟨.FAB_CNT, [port.val / 8, 13]⟩ ∧ u.fwd = s.fwd)) ∧
  (∀ (s : State) (port : Fin 144) (t : Nat), s.sealed = false → s.lnk.doze.look port.val = some t →
    t + min 10000 (max 1 (s.get F.PT_DOZE_MAX_TIME [port.val / 4, port.val % 4])) * 1000 < s.now →
    Runs (.dozeMaxTime port) s (fun u =>
      u.lnk.doze.look port.val = none ∧ port.val ∈ u.lnk.shortRetrain ∧ u.sent.getLast? = some (.kfp port.val .shortRetrain) ∧
      s.counts u ⟨.FAB_CNT, [port.val / 8, 14]⟩ ∧ u.fwd = s.fwd)) ∧
  (∀ (s : State) (port : Fin 144) (t : Nat), s.sealed = false → s.lnk.doze.look port.val = some t →
    s.now ≤ t + min 10000 (max 1 (s.get F.PT_DOZE_MAX_TIME [port.val / 4, port.val % 4])) * 1000 → s.get F.CPW_TILE_REF_MODE [port.val / 8 * 2] ≠ 2 →
    Runs (.dozeMaxTime port) s (fun u => u = s)) ∧
  (∀ (s : State) (port : Fin 144), s.sealed = false → port.val ∈ s.lnk.shortRetrain → s.fwd.trunkq.lookD (port.val / 8) [] = [] →
    Runs (.shortRetrainDone port) s (fun u =>
      port.val ∉ u.lnk.shortRetrain ∧ u = { s with lnk := u.lnk } ∧ u.lnk.doze = s.lnk.doze))

/-- Outside the safe state, on a member of a trunk that is up and has nothing queued. A good flit clears the member's count of bad flits; a bad
one is counted, and eight in a row take the member out. A data packet ahead of CUM with room is stored, one seen before is only counted, a
bad one is remembered for the next NAK. ACK frees the copies that its CUM passes and takes the XOFF state; FC takes the XOFF state. NAK
resends the packet that it names, marked RESEND, and both are counted. An ECHO for a port of this device acts on its ingress shaper. A held
copy is resent after RTO, not before. An ACK goes out when CUM has advanced and nothing has carried it for ACK_IDLE. -/
def Obligations.trunk_data_acknowledgement_and_resend : Prop :=
  (∀ (s : State) (port : Fin 144), s.sealed = false → s.role port.val = 2 → s.inL0 port.val = true →
    Runs (.kfpFlitReceived port true false) s (fun u =>
      (u.tk (port.val / 8)).badFlits.look (port.val % 8) = none ∧ (u.tk (port.val / 8)).copies = (s.tk (port.val / 8)).copies ∧ u = { s with trunk := u.trunk })) ∧
  (∀ (s : State) (port : Fin 144) (n : Nat), s.sealed = false → s.role port.val = 2 → s.inL0 port.val = true →
    (s.tk (port.val / 8)).badFlits.lookD (port.val % 8) 0 = n → n < 7 → s.get F.LK_CFG_THRESHOLD [0, port.val / 4, port.val % 4] = 0 →
    Runs (.kfpFlitReceived port false false) s (fun u =>
      (u.tk (port.val / 8)).badFlits.lookD (port.val % 8) 0 = n + 1 ∧ s.counts u ⟨.FAB_CNT, [port.val / 8, 8]⟩ ∧
      u.get F.FAB_TRK_STAT_MEMBERS [port.val / 8] = s.get F.FAB_TRK_STAT_MEMBERS [port.val / 8] ∧ u.fwd = s.fwd ∧ u.cfg = s.cfg)) ∧
  (∀ (s : State) (port : Fin 144), s.sealed = false → s.role port.val = 2 → s.inL0 port.val = true →
    (s.tk (port.val / 8)).badFlits.lookD (port.val % 8) 0 = 7 → s.get F.LK_CFG_THRESHOLD [0, port.val / 4, port.val % 4] = 0 →
    (s.members (port.val / 8)).any (fun i => i != port.val % 8) = true → s.fwd.trunkq.lookD (port.val / 8) [] = [] → (s.tk (port.val / 8)).copies = [] →
    Runs (.kfpFlitReceived port false false) s (fun u =>
      (u.get F.FAB_TRK_STAT_MEMBERS [port.val / 8]).testBit (port.val % 8) = false ∧ s.counts u ⟨.FAB_CNT, [port.val / 8, 8]⟩ ∧
      u.get F.FAB_TRK_STAT_UP [port.val / 8] = s.get F.FAB_TRK_STAT_UP [port.val / 8] ∧ u.fwd = s.fwd ∧ u.cfg = s.cfg)) ∧
  (∀ (s : State) (port : Fin 144) (k : KData) (pick : Fin 16384), s.sealed = false → s.tkOn (port.val / 8) = true →
    (s.get F.FAB_TRK_STAT_MEMBERS [port.val / 8]).testBit (port.val % 8) = true → k.good = true → k.stomp < 2 → k.prevV = false → s.kfp10 (port.val / 8) = false →
    (s.tk (port.val / 8)).copies = [] → passed (s.get F.FAB_TRK_SEQ_RX_CUM [port.val / 8]) k.tseq = false →
    (s.tk (port.val / 8)).store.look (s.get F.FAB_TRK_SEQ_RX_CUM [port.val / 8]) = none → (s.tk (port.val / 8)).store.look k.tseq = none →
    k.tseq ≠ s.get F.FAB_TRK_SEQ_RX_CUM [port.val / 8] → s.rxRoom (port.val / 8) (port.val % 8) k = true →
    s.fwd.trunkq.lookD (port.val / 8) [] = [] → (∀ c < 4, s.sq (8 * (port.val / 8)) c = []) → s.fwd.lostQ = [] →
    Runs (.kfpDataPacket port k pick) s (fun u =>
      (u.tk (port.val / 8)).store.look k.tseq = some k ∧ u.get F.FAB_TRK_SEQ_RX_CUM [port.val / 8] = s.get F.FAB_TRK_SEQ_RX_CUM [port.val / 8] ∧
      u.fwd = s.fwd ∧ u.cfg = s.cfg ∧ u.journal = s.journal)) ∧
  (∀ (s : State) (port : Fin 144) (k : KData) (pick : Fin 16384), s.sealed = false → s.tkOn (port.val / 8) = true →
    (s.get F.FAB_TRK_STAT_MEMBERS [port.val / 8]).testBit (port.val % 8) = true → k.good = true → k.stomp < 2 → k.prevV = false → s.kfp10 (port.val / 8) = false →
    (s.tk (port.val / 8)).copies = [] → passed (s.get F.FAB_TRK_SEQ_RX_CUM [port.val / 8]) k.tseq = true →
    s.fwd.trunkq.lookD (port.val / 8) [] = [] → (∀ c < 4, s.sq (8 * (port.val / 8)) c = []) → s.fwd.lostQ = [] →
    Runs (.kfpDataPacket port k pick) s (fun u =>
      (u.tk (port.val / 8)).store = (s.tk (port.val / 8)).store ∧ s.counts u ⟨.FAB_CNT, [port.val / 8, 4]⟩ ∧
      u.get F.FAB_TRK_SEQ_RX_CUM [port.val / 8] = s.get F.FAB_TRK_SEQ_RX_CUM [port.val / 8] ∧ u.fwd = s.fwd ∧ u.cfg = s.cfg)) ∧
  (∀ (s : State) (port : Fin 144) (k : KData) (pick : Fin 16384), s.sealed = false → s.tkOn (port.val / 8) = true →
    (s.get F.FAB_TRK_STAT_MEMBERS [port.val / 8]).testBit (port.val % 8) = true → k.good = false →
    Runs (.kfpDataPacket port k pick) s (fun u =>
      k.tseq ∈ (u.tk (port.val / 8)).bad ∧ (u.tk (port.val / 8)).store = (s.tk (port.val / 8)).store ∧ u = { s with trunk := u.trunk, lnk := u.lnk })) ∧
  (∀ (s : State) (port : Fin 144) (cum : W16) (xoff : Fin 16), s.sealed = false → s.tkOn (port.val / 8) = true →
    (s.get F.FAB_TRK_STAT_MEMBERS [port.val / 8]).testBit (port.val % 8) = true → s.fwd.trunkq.lookD (port.val / 8) [] = [] →
    (∀ c < 4, s.sq (8 * (port.val / 8)) c = []) →
    Runs (.kfpAck port cum xoff) s (fun u =>
      (u.tk (port.val / 8)).copies = (s.tk (port.val / 8)).copies.filter (fun c => !passed cum.toNat c.tseq) ∧
      u.get F.FAB_TRK_STAT_XOFF_RX [port.val / 8] = xoff.val ∧ u.fwd = s.fwd ∧ u.sent = s.sent ∧ u.cfg = s.cfg ∧
      s.keeps u [⟨.FAB_TRK_STAT, [port.val / 8]⟩, ⟨.FAB_TRK_SEQ, [port.val / 8]⟩] [])) ∧
  (∀ (s : State) (port : Fin 144) (cum v : W16) (mem : Fin 8) (c : KCopy) (t : Tlp), s.sealed = false → s.tkOn (port.val / 8) = true →
    (s.get F.FAB_TRK_STAT_MEMBERS [port.val / 8]).testBit (port.val % 8) = true → s.kfp10 (port.val / 8) = false → s.fwd.trunkq.lookD (port.val / 8) [] = [] →
    (s.tk (port.val / 8)).copies = [c] → c.tseq = v.toNat → passed cum.toNat c.tseq = false → c.pkt.body = .tlp t →
    (s.pickMember (port.val / 8)).isSome = true →
    Runs (.kfpNak port cum mem [v]) s (fun u =>
      (u.sent.drop s.sent.length).any (fun o => match o with
        | .kfp _ (.data k) => k.tseq == v.toNat && k.resend && k.tlp == t
        | _ => false) = true ∧ ((u.tk (port.val / 8)).copies.map (fun q => (q.tseq, q.tries))) = [(v.toNat, c.tries + 1)] ∧
      s.counts u ⟨.FAB_CNT, [port.val / 8, 3]⟩ ∧ s.counts u ⟨.FAB_CNT, [port.val / 8, 1]⟩ ∧ u.fwd = s.fwd ∧ u.cfg = s.cfg)) ∧
  (∀ (s : State) (port : Fin 144) (xoff : Fin 16), s.sealed = false → s.tkOn (port.val / 8) = true →
    (s.get F.FAB_TRK_STAT_MEMBERS [port.val / 8]).testBit (port.val % 8) = true → s.fwd.trunkq.lookD (port.val / 8) [] = [] →
    (∀ c < 4, s.sq (8 * (port.val / 8)) c = []) →
    Runs (.kfpFc port xoff) s (fun u =>
      u.get F.FAB_TRK_STAT_XOFF_RX [port.val / 8] = xoff.val ∧ { s with lnk := u.lnk }.only u [⟨.FAB_TRK_STAT, [port.val / 8]⟩] [])) ∧
  (∀ (s : State) (port : Fin 144) (sc : Fin 4) (gpid : Fin 16384) (count : Fin 256) (v : Nat), s.sealed = false → s.tkOn (port.val / 8) = true →
    gpid.val / 256 = s.get F.FAB_DEV_NUM [] → gpid.val % 256 < 144 → s.vsOfPort (gpid.val % 256) = some v → s.shTakes (576 + 4 * v + sc.val) = true →
    s.shOpen (576 + 4 * v + sc.val) = true → s.shDecreased (576 + 4 * v + sc.val) < 2 ^ F.SH_STAT_RATE_CUR.w →
    Runs (.kfpEcho port sc gpid count) s (fun u =>
      u.get F.SH_STAT_RATE_CUR [576 + 4 * v + sc.val] = s.shDecreased (576 + 4 * v + sc.val) ∧ s.counts u ⟨.PMG_SHCNT, [576 + 4 * v + sc.val, 0]⟩ ∧ u.fwd = s.fwd)) ∧
  (∀ (s : State) (j : Fin 18) (tseq : W16) (c : KCopy) (t : Tlp), s.sealed = false → (s.tk j.val).copies = [c] → c.tseq = tseq.toNat →
    c.at_ + max 1 (s.get F.FAB_TRK_CFG_RTO [j.val]) * 1000 ≤ s.now → c.tries < max 1 (s.get F.FAB_TRK_CFG_RETRY_MAX [j.val]) → c.pkt.body = .tlp t →
    s.kfp10 j.val = false → (s.pickMember j.val).isSome = true →
    Runs (.resendTimeout j tseq) s (fun u =>
      (u.sent.drop s.sent.length).any (fun o => match o with
        | .kfp _ (.data k) => k.tseq == tseq.toNat && k.resend && k.tlp == t
        | _ => false) = true ∧ ((u.tk j.val).copies.map (fun q => (q.tseq, q.tries, q.at_))) = [(tseq.toNat, c.tries + 1, s.now)] ∧
      s.counts u ⟨.FAB_CNT, [j.val, 1]⟩ ∧ u.fwd = s.fwd ∧ u.cfg = s.cfg)) ∧
  (∀ (s : State) (j : Fin 18) (tseq : W16) (c : KCopy), s.sealed = false → (s.tk j.val).copies = [c] →
    s.now < c.at_ + max 1 (s.get F.FAB_TRK_CFG_RTO [j.val]) * 1000 → Runs (.resendTimeout j tseq) s (fun u => u = s)) ∧
  (∀ (s : State) (j : Fin 18) (i : Nat), s.sealed = false → s.tkOn j.val = true → s.anchor j.val = some i →
    (s.tk j.val).cumSent ≠ s.get F.FAB_TRK_SEQ_RX_CUM [j.val] → (s.tk j.val).cumAt + max 16 (s.get F.FAB_TRK_CFG_ACK_IDLE [j.val]) ≤ s.now →
    Runs (.ackIdleTimeout j) s (fun u =>
      u.sent = s.sent ++ [.kfp (8 * j.val + i) (.ack (s.get F.FAB_TRK_SEQ_RX_CUM [j.val]) (s.get F.FAB_TRK_STAT_XOFF_TX [j.val]))] ∧
      (u.tk j.val).cumSent = s.get F.FAB_TRK_SEQ_RX_CUM [j.val] ∧ u.regs = s.regs ∧ u.fwd = s.fwd)) ∧
  (∀ (s : State) (j : Fin 18), s.sealed = false → s.now < (s.tk j.val).cumAt + max 16 (s.get F.FAB_TRK_CFG_ACK_IDLE [j.val]) →
    Runs (.ackIdleTimeout j) s (fun u => u = s))

/-- Outside the safe state. A HELLO with another major version sets VER_FAIL, one on ports of unequal width WIDTH_MISMATCH, one from another
device or trunk PEER_MISMATCH, each with its event. With equal NONCEs both ends repeat with new ones. The end with the lower NONCE answers a
good first HELLO with its own and JOIN ACCEPT, and the trunk is up on that member with TSEQ 0, its port contained no longer. A following end
comes up at JOIN ACCEPT; further members join at JOIN ACCEPT or JOIN REQUEST. Unanswered HELLOs and requests are repeated. A FAB_TRK_FC
write with an XON not below its XOFF is refused as a whole; another is taken. EN = 1 is ignored on a standalone device, and otherwise starts
the HELLOs. -/
def Obligations.trunk_bring_up : Prop :=
  (∀ (s : State) (port : Fin 144) (h : Hello), s.sealed = false → s.canJoin (port.val / 8) (port.val % 8) = true →
    (s.get F.FAB_TRK_STAT_MEMBERS [port.val / 8]).testBit (port.val % 8) = false → h.verMaj ≠ 1 →
    Runs (.kfpHello port h) s (fun u =>
      u.get F.FAB_TRK_STAT_VER_FAIL [port.val / 8] = 1 ∧ s.raises u (.port (8 * (port.val / 8)) 6) 4 ∧
      { s with lnk := u.lnk }.only u [⟨.FAB_TRK_STAT, [port.val / 8]⟩] [.port (8 * (port.val / 8)) 6])) ∧
  (∀ (s : State) (port : Fin 144) (h : Hello), s.sealed = false → s.canJoin (port.val / 8) (port.val % 8) = true →
    (s.get F.FAB_TRK_STAT_MEMBERS [port.val / 8]).testBit (port.val % 8) = false → h.verMaj = 1 → s.widthsDiffer (port.val / 8) = true →
    Runs (.kfpHello port h) s (fun u =>
      u.get F.FAB_TRK_STAT_WIDTH_MISMATCH [port.val / 8] = 1 ∧ s.raises u (.port (8 * (port.val / 8)) 6) 6 ∧
      { s with lnk := u.lnk }.only u [⟨.FAB_TRK_STAT, [port.val / 8]⟩] [.port (8 * (port.val / 8)) 6])) ∧
  (∀ (s : State) (port : Fin 144) (h : Hello), s.sealed = false → s.canJoin (port.val / 8) (port.val % 8) = true →
    (s.get F.FAB_TRK_STAT_MEMBERS [port.val / 8]).testBit (port.val % 8) = false → h.verMaj = 1 → s.widthsDiffer (port.val / 8) = false →
    h.nonce = s.ownNonce (port.val / 8) →
    Runs (.kfpHello port h) s (fun u =>
      (u.tk (port.val / 8)).nonces = (s.tk (port.val / 8)).nonces + 1 ∧ u.sent.drop s.sent.length = [.kfp port.val (.hello {
        verMin := if s.on F.FAB_TRK_CFG_OFFER_10 [port.val / 8] then 0 else 1, device := s.get F.FAB_DEV_NUM [], trunkPort := 8 * (port.val / 8),
        member := port.val % 8, width := s.portWidth port.val,
        nonce := (Config.nonce (port.val / 8) ((s.tk (port.val / 8)).nonces + 1)).toNat, up := s.tkOn (port.val / 8) })] ∧ u.regs = s.regs ∧ u.fwd = s.fwd)) ∧
  (∀ (s : State) (port : Fin 144) (h : Hello) (d n : Nat), s.sealed = false → s.canJoin (port.val / 8) (port.val % 8) = true →
    s.tkOn (port.val / 8) = true → (s.get F.FAB_TRK_STAT_MEMBERS [port.val / 8]).testBit (port.val % 8) = false → h.verMaj = 1 →
    s.widthsDiffer (port.val / 8) = false → s.ownNonce (port.val / 8) < h.nonce → (s.tk (port.val / 8)).peer = some (d, n) → (d, n) ≠ (h.device, h.trunkPort) →
    Runs (.kfpHello port h) s (fun u =>
      u.get F.FAB_TRK_STAT_PEER_MISMATCH [port.val / 8] = 1 ∧ s.raises u (.port (8 * (port.val / 8)) 6) 5 ∧
      { s with lnk := u.lnk }.only u [⟨.FAB_TRK_STAT, [port.val / 8]⟩] [.port (8 * (port.val / 8)) 6])) ∧
  (∀ (s : State) (port : Fin 144) (h : Hello), s.sealed = false → s.canJoin (port.val / 8) (port.val % 8) = true →
    s.tkOn (port.val / 8) = false → (s.get F.FAB_TRK_STAT_MEMBERS [port.val / 8]).testBit (port.val % 8) = false → h.verMaj = 1 → h.device < 64 →
    s.widthsDiffer (port.val / 8) = false → s.ownNonce (port.val / 8) < h.nonce → s.tk (port.val / 8) = {} →
    s.fwd.trunkq.lookD (port.val / 8) [] = [] →
    Runs (.kfpHello port h) s (fun u =>
      .kfp port.val (.join (port.val % 8) 0) ∈ u.sent.drop s.sent.length ∧
      (u.sent.drop s.sent.length).any (fun o => match o with | .kfp q (.hello k) => q == port.val && k.nonce == s.ownNonce (port.val / 8) | _ => false) = true ∧
      u.get F.FAB_TRK_STAT_UP [port.val / 8] = 1 ∧ u.get F.FAB_TRK_STAT_MEMBERS [port.val / 8] = 2 ^ (port.val % 8) ∧
      u.get F.FAB_TRK_STAT_VER_MIN [port.val / 8] = min (if s.on F.FAB_TRK_CFG_OFFER_10 [port.val / 8] then 0 else 1) h.verMin ∧
      u.get F.FAB_TRK_STAT_PEER_DEV [port.val / 8] = h.device ∧
      (u.rd (Trip.port (8 * (port.val / 8)) 6).stat).getLsbD 0 = true ∧ (u.rd (Trip.port (8 * (port.val / 8)) 6).stat).getLsbD 3 = true ∧
      u.pget F.PT_CONT_CONTAINED (8 * (port.val / 8)) = 0 ∧ u.cfg = s.cfg)) ∧
  (∀ (s : State) (port : Fin 144) (h : Hello), s.sealed = false → s.canJoin (port.val / 8) (port.val % 8) = true →
    s.tkOn (port.val / 8) = false → (s.get F.FAB_TRK_STAT_MEMBERS [port.val / 8]).testBit (port.val % 8) = false →
    (s.tk (port.val / 8)).hello.look (port.val % 8) = some h → h.nonce ≤ s.ownNonce (port.val / 8) → s.fwd.trunkq.lookD (port.val / 8) [] = [] →
    Runs (.kfpJoinAccept port) s (fun u =>
      u.get F.FAB_TRK_STAT_UP [port.val / 8] = 1 ∧ u.get F.FAB_TRK_STAT_MEMBERS [port.val / 8] = 2 ^ (port.val % 8) ∧
      (u.rd (Trip.port (8 * (port.val / 8)) 6).stat).getLsbD 0 = true ∧ (u.rd (Trip.port (8 * (port.val / 8)) 6).stat).getLsbD 3 = true ∧ u.cfg = s.cfg)) ∧
  (∀ (s : State) (port : Fin 144) (h : Hello), s.sealed = false → s.canJoin (port.val / 8) (port.val % 8) = true →
    s.tkOn (port.val / 8) = true → (s.get F.FAB_TRK_STAT_MEMBERS [port.val / 8]).testBit (port.val % 8) = false →
    (s.tk (port.val / 8)).hello.look (port.val % 8) = some h → s.fwd.trunkq.lookD (port.val / 8) [] = [] →
    Runs (.kfpJoinAccept port) s (fun u =>
      u.get F.FAB_TRK_STAT_MEMBERS [port.val / 8] = s.get F.FAB_TRK_STAT_MEMBERS [port.val / 8] + 2 ^ (port.val % 8) ∧
      s.raises u (.port (8 * (port.val / 8)) 6) 3 ∧ u.fwd = s.fwd ∧ u.cfg = s.cfg ∧
      s.keeps u [⟨.FAB_TRK_STAT, [port.val / 8]⟩] [.port (8 * (port.val / 8)) 6])) ∧
  (∀ (s : State) (port : Fin 144) (h : Hello), s.sealed = false → s.canJoin (port.val / 8) (port.val % 8) = true →
    s.tkOn (port.val / 8) = true → (s.get F.FAB_TRK_STAT_MEMBERS [port.val / 8]).testBit (port.val % 8) = false →
    (s.tk (port.val / 8)).hello.look (port.val % 8) = some h → s.ownNonce (port.val / 8) < h.nonce → s.fwd.trunkq.lookD (port.val / 8) [] = [] →
    Runs (.kfpJoinRequest port) s (fun u =>
      .kfp port.val (.join (port.val % 8) 0) ∈ u.sent.drop s.sent.length ∧
      u.get F.FAB_TRK_STAT_MEMBERS [port.val / 8] = s.get F.FAB_TRK_STAT_MEMBERS [port.val / 8] + 2 ^ (port.val % 8) ∧
      s.raises u (.port (8 * (port.val / 8)) 6) 3 ∧ u.fwd = s.fwd ∧ u.cfg = s.cfg ∧
      s.keeps u [⟨.FAB_TRK_STAT, [port.val / 8]⟩] [.port (8 * (port.val / 8)) 6])) ∧
  (∀ (s : State) (port : Fin 144), s.sealed = false → s.canJoin (port.val / 8) (port.val % 8) = true →
    (s.get F.FAB_TRK_STAT_MEMBERS [port.val / 8]).testBit (port.val % 8) = false → port.val ∉ s.lnk.dozeAsk → port.val % 8 ∉ (s.tk (port.val / 8)).asked →
    Runs (.helloRepeat port) s (fun u =>
      u.sent = s.sent ++ [.kfp port.val (.hello {
        verMin := if s.on F.FAB_TRK_CFG_OFFER_10 [port.val / 8] then 0 else 1, device := s.get F.FAB_DEV_NUM [], trunkPort := 8 * (port.val / 8),
        member := port.val % 8, width := s.portWidth port.val, nonce := s.ownNonce (port.val / 8), up := s.tkOn (port.val / 8) })] ∧
      u = { s with lnk := u.lnk, sent := u.sent })) ∧
  (∀ (s : State) (port : Fin 144), s.sealed = false → s.canJoin (port.val / 8) (port.val % 8) = true →
    (s.get F.FAB_TRK_STAT_MEMBERS [port.val / 8]).testBit (port.val % 8) = false → port.val ∉ s.lnk.dozeAsk → port.val % 8 ∈ (s.tk (port.val / 8)).asked →
    Runs (.helloRepeat port) s (fun u => u = { s with sent := s.sent ++ [.kfp port.val (.join (port.val % 8) 2)] })) ∧
  (∀ (s : State) (who : Init) (j : Fin 18) (v : W64), s.granted who true ⟨.FAB_TRK_FC, [j.val]⟩ 8 →
    (∃ c < 4, fget v (16 * c) 8 ≤ fget v (16 * c + 8) 8) →
    Runs (.fabTrkFcWrite who j v) s (fun u =>
      u.get F.FAB_TRK_STAT_FC_REFUSED [j.val] = 1 ∧ s.raises u (.port (8 * j.val) 6) 9 ∧
      s.only u [⟨.FAB_TRK_STAT, [j.val]⟩] [.port (8 * j.val) 6])) ∧
  (∀ (s : State) (who : Init) (j : Fin 18) (v : W64), s.granted who true ⟨.FAB_TRK_FC, [j.val]⟩ 8 →
    (∀ c < 4, fget v (16 * c + 8) 8 < fget v (16 * c) 8 ∧ fget v (16 * c) 8 ≤ rxUnits c) → s.tkOn j.val = false →
    Runs (.fabTrkFcWrite who j v) s (fun u =>
      (∀ c < 4, fget (u.rd ⟨.FAB_TRK_FC, [j.val]⟩) (16 * c) 8 = fget v (16 * c) 8 ∧ fget (u.rd ⟨.FAB_TRK_FC, [j.val]⟩) (16 * c + 8) 8 = fget v (16 * c + 8) 8) ∧
      s.only u [⟨.FAB_TRK_FC, [j.val]⟩] [])) ∧
  (∀ (s : State) (who : Init) (j : Fin 18) (v : W32), s.granted who true ⟨.FAB_TRK_CFG, [j.val]⟩ 4 → s.get F.FAB_DEV_ROLE [] = 0 → v.getLsbD 0 = true →
    Runs (.fabTrkCfgWrite who j v) s (fun u =>
      u.get F.FAB_DEV_REFUSED [] = 1 ∧ s.raises u .fab 8 ∧ s.only u [⟨.FAB_DEV, []⟩] [.fab])) ∧
  (∀ (s : State) (who : Init) (j : Fin 18) (v : W32) (i : Nat), s.granted who true ⟨.FAB_TRK_CFG, [j.val]⟩ 4 → s.get F.FAB_DEV_ROLE [] ≠ 0 →
    s.on F.FAB_TRK_CFG_EN [j.val] = false → v.getLsbD 0 = true → i ∈ s.kfpPorts j.val → s.inL0 (8 * j.val + i) = true →
    Runs (.fabTrkCfgWrite who j v) s (fun u =>
      u.get F.FAB_TRK_CFG_EN [j.val] = 1 ∧ u.get F.FAB_TRK_CFG_RTO [j.val] = fget (v.zeroExtend 64) F.FAB_TRK_CFG_RTO.lo F.FAB_TRK_CFG_RTO.w ∧
      (u.sent.drop s.sent.length).any (fun o => match o with | .kfp q (.hello _) => q == 8 * j.val + i | _ => false) = true ∧
      s.keeps u [⟨.FAB_TRK_CFG, [j.val]⟩, ⟨.FAB_TRK_STAT, [j.val]⟩] [] ∧ u.fwd = s.fwd ∧ u.cfg = s.cfg))

/-- Outside the safe state. A member that leaves while another stays is taken out of MEMBERS, retrains, is declared failed with type 6, and
raises its event; the end that found it sends JOIN LEAVE on the anchor, the other end acts alike on that packet. When the last member
leaves, or the trunk is lost at once, UP and MEMBERS become 0, TRUNK_LOST 1, the sequence numbers 0, its event is raised, and the trunk's
port is contained for its route. -/
def Obligations.trunk_loss : Prop :=
  (∀ (s : State) (port : Fin 144) (k : Nat), s.sealed = false → (s.get F.FAB_TRK_STAT_MEMBERS [port.val / 8]).testBit (port.val % 8) = true →
    (s.get F.FAB_TRK_STAT_MEMBERS [port.val / 8]).testBit k = true → k ≠ port.val % 8 → s.role port.val = 2 → s.inL0 port.val = true →
    (s.tk (port.val / 8)).copies = [] → s.fwd.trunkq.lookD (port.val / 8) [] = [] →
    Runs (.memberLeave port) s (fun u =>
      u.get F.FAB_TRK_STAT_MEMBERS [port.val / 8] + 2 ^ (port.val % 8) = s.get F.FAB_TRK_STAT_MEMBERS [port.val / 8] ∧
      u.get F.FAB_TRK_STAT_UP [port.val / 8] = s.get F.FAB_TRK_STAT_UP [port.val / 8] ∧
      (u.rd (Trip.port (8 * (port.val / 8)) 6).stat).getLsbD 2 = true ∧ (6, port.val) ∈ u.flt.failed ∧ u.pget F.PP_STAT_LINK_STATE port.val = 5 ∧
      (∃ a, u.anchor (port.val / 8) = some a ∧ .kfp (8 * (port.val / 8) + a) (.join (port.val % 8) 1) ∈ u.sent.drop s.sent.length) ∧ u.fwd = s.fwd ∧ u.cfg = s.cfg)) ∧
  (∀ (s : State) (port : Fin 144) (mem : Fin 8) (i k : Nat), s.sealed = false → s.ownMember (port.val / 8) mem.val = i → i < 8 →
    (s.get F.FAB_TRK_STAT_MEMBERS [port.val / 8]).testBit i = true → (s.get F.FAB_TRK_STAT_MEMBERS [port.val / 8]).testBit k = true → k ≠ i →
    s.role (8 * (port.val / 8) + i) = 2 → s.inL0 (8 * (port.val / 8) + i) = true →
    (s.tk (port.val / 8)).copies = [] → s.fwd.trunkq.lookD (port.val / 8) [] = [] →
    Runs (.kfpJoinLeave port mem) s (fun u =>
      u.get F.FAB_TRK_STAT_MEMBERS [port.val / 8] + 2 ^ i = s.get F.FAB_TRK_STAT_MEMBERS [port.val / 8] ∧
      (u.rd (Trip.port (8 * (port.val / 8)) 6).stat).getLsbD 2 = true ∧ (6, 8 * (port.val / 8) + i) ∈ u.flt.failed ∧
      u.pget F.PP_STAT_LINK_STATE (8 * (port.val / 8) + i) = 5 ∧ u.fwd = s.fwd ∧ u.cfg = s.cfg)) ∧
  (∀ (s : State) (port : Fin 144), s.sealed = false → s.get F.FAB_TRK_STAT_MEMBERS [port.val / 8] = 2 ^ (port.val % 8) →
    Runs (.memberLeave port) s (fun u =>
      u.get F.FAB_TRK_STAT_MEMBERS [port.val / 8] = 0 ∧ u.get F.FAB_TRK_STAT_UP [port.val / 8] = 0 ∧ u.get F.FAB_TRK_STAT_TRUNK_LOST [port.val / 8] = 1 ∧
      u.rd ⟨.FAB_TRK_SEQ, [port.val / 8]⟩ = 0 ∧ (u.rd (Trip.port (8 * (port.val / 8)) 6).stat).getLsbD 1 = true ∧ (u.tk (port.val / 8)).copies = [] ∧
      u.pget F.PT_CONT_CONTAINED (8 * (port.val / 8)) = 1 ∧ u.pget F.PT_CONT_C_ROUTE (8 * (port.val / 8)) = 1)) ∧
  (∀ (s : State) (j : Fin 18), s.sealed = false → s.tkOn j.val = true → 0 < s.get F.FAB_TRK_STAT_MEMBERS [j.val] →
    Runs (.trunkLost j) s (fun u =>
      u.get F.FAB_TRK_STAT_MEMBERS [j.val] = 0 ∧ u.get F.FAB_TRK_STAT_UP [j.val] = 0 ∧ u.get F.FAB_TRK_STAT_TRUNK_LOST [j.val] = 1 ∧
      u.rd ⟨.FAB_TRK_SEQ, [j.val]⟩ = 0 ∧ (u.rd (Trip.port (8 * j.val) 6).stat).getLsbD 1 = true ∧ (u.tk j.val).copies = [] ∧
      u.pget F.PT_CONT_CONTAINED (8 * j.val) = 1 ∧ u.pget F.PT_CONT_C_ROUTE (8 * j.val) = 1))

/-- Outside the safe state. A permitted write of a whole register without an effect of its own writes its RW fields, clears the RW1C bits that
are written 1, keeps its RO fields, and changes no other register. An access that lies in no block, or is no aligned plain access of 4 or 8
bytes, one that the gate refuses, and one to a block whose clock enable is 0, in that order, are each answered with their code, raise their
event, and are logged where the log is free. A tenant's access that breaks the rule of its BAR changes nothing, and a write to its counter
view is refused as by the gate. -/
def Obligations.accesses_by_address : Prop :=
  (∀ (s : State) (who : Init) (off : Nat) (x : Reg) (v : W64), s.sealed = false → (∀ i, who ≠ .tenant i) → Reg.ofOffset off = some (x, 0) →
    x.n ∈ [RN.PT_DOZE, .PT_GATE_CFG, .PT_CONG, .PT_GATE_STAT, .RTR_LINK, .SEC_GATE_LOG, .PT_WIN_LOG, .PT_TRK_CFG, .PT_CPL_LOG, .FAB_MGR] →
    s.checkAcc who true true off (if x.n.wide then 8 else 4) = (s, .ok) →
    Runs (.registerWrite who off (if x.n.wide then 8 else 4) v) s (fun u =>
      (∀ f ∈ x.n.fields, (f.ty = .rw → fget (u.rd x) f.lo f.w = fget v f.lo f.w) ∧ (f.ty = .ro → fget (u.rd x) f.lo f.w = fget (s.rd x) f.lo f.w) ∧
        (f.ty = .rw1c → fget (u.rd x) f.lo f.w = fget (s.rd x &&& ~~~v) f.lo f.w)) ∧
      s.only u [x] [] ∧ (who ≠ .owner → u.sent = s.sent ++ [.answer who 0 []]))) ∧
  (∀ (s : State) (who : Init) (off size : Nat) (v : W64), s.sealed = false → (∀ i, who ≠ .tenant i) → off < 2 ^ 26 → slotOf off = none →
    Runs (.registerWrite who off size v) s (fun u =>
      (s.on F.GLB_UNMAP_LOG_VALID [] = false → u.get F.GLB_UNMAP_LOG_VALID [] = 1 ∧ u.get F.GLB_UNMAP_LOG_OFFSET [] = off ∧
        u.get F.GLB_UNMAP_LOG_WRITE [] = 1 ∧ u.get F.GLB_UNMAP_LOG_CAUSE [] = 0) ∧
      (s.on F.GLB_UNMAP_LOG_VALID [] = true → u.rd ⟨.GLB_UNMAP_LOG, []⟩ = s.rd ⟨.GLB_UNMAP_LOG, []⟩) ∧ s.raises u .glb 0 ∧
      s.only u [⟨.GLB_UNMAP_LOG, []⟩] [.glb] ∧ (who ≠ .owner → u.sent.getLast? = some (.answer who 1 [])))) ∧
  (∀ (s : State) (who : Init) (off size : Nat) (write plain : Bool), s.sealed = false → (∀ i, who ≠ .tenant i) → off < 2 ^ 26 →
    (slotOf off).isSome = true → plain = false ∨ (size ≠ 4 ∧ size ≠ 8) ∨ off % size ≠ 0 →
    Runs (.bar0UnmappedAccess who off size write plain) s (fun u =>
      (s.on F.GLB_UNMAP_LOG_VALID [] = false → u.get F.GLB_UNMAP_LOG_VALID [] = 1 ∧ u.get F.GLB_UNMAP_LOG_OFFSET [] = off ∧
        u.get F.GLB_UNMAP_LOG_WRITE [] = bit write ∧ u.get F.GLB_UNMAP_LOG_CAUSE [] = 1) ∧
      (s.on F.GLB_UNMAP_LOG_VALID [] = true → u.rd ⟨.GLB_UNMAP_LOG, []⟩ = s.rd ⟨.GLB_UNMAP_LOG, []⟩) ∧ s.raises u .glb 0 ∧
      s.only u [⟨.GLB_UNMAP_LOG, []⟩] [.glb] ∧ (who ≠ .owner → u.sent.getLast? = some (.answer who 1 [])))) ∧
  (∀ (s : State) (who : Init) (off size slot o b : Nat) (v : W64), s.sealed = false → (∀ i, who ≠ .tenant i) → slotOf off = some (slot, o) →
    size = 4 ∨ size = 8 → off % size = 0 → s.gateRefused (s.gateBankOf (s.checkStn who)) slot (s.levelOf who) 1 o size = some b → slot < 256 → b < 2 ^ 24 →
    Runs (.registerWrite who off size v) s (fun u =>
      (s.on F.SEC_GATE_LOG_VALID [] = false → u.get F.SEC_GATE_LOG_VALID [] = 1 ∧ u.get F.SEC_GATE_LOG_SLOT [] = slot ∧
        u.get F.SEC_GATE_LOG_OFFSET [] = b ∧ u.get F.SEC_GATE_LOG_KIND [] = 1 ∧ u.get F.SEC_GATE_LOG_LEVEL [] = levelCode (s.levelOf who)) ∧
      (s.on F.SEC_GATE_LOG_VALID [] = true → u.rd ⟨.SEC_GATE_LOG, []⟩ = s.rd ⟨.SEC_GATE_LOG, []⟩) ∧ s.raises u .sec 0 ∧ s.counts u ⟨.PMG_CNT, [2]⟩ ∧
      s.only u [⟨.SEC_GATE_LOG, []⟩, ⟨.PMG_CNT, [2]⟩] [.sec, .pmg] ∧ (who ≠ .owner → u.sent.getLast? = some (.answer who 0x80 [])))) ∧
  (∀ (s : State) (who : Init) (off size slot o : Nat) (v : W64), s.sealed = false → (∀ i, who ≠ .tenant i) → slotOf off = some (slot, o) →
    size = 4 ∨ size = 8 → off % size = 0 → s.gateRefused (s.gateBankOf (s.checkStn who)) slot (s.levelOf who) 1 o size = none → s.clkEn slot = false →
    slot < 256 → o < 2 ^ 24 →
    Runs (.registerWrite who off size v) s (fun u =>
      (s.on F.CPW_GATED_LOG_VALID [] = false → u.get F.CPW_GATED_LOG_VALID [] = 1 ∧ u.get F.CPW_GATED_LOG_SLOT [] = slot ∧ u.get F.CPW_GATED_LOG_OFFSET [] = o) ∧
      (s.on F.CPW_GATED_LOG_VALID [] = true → u.rd ⟨.CPW_GATED_LOG, []⟩ = s.rd ⟨.CPW_GATED_LOG, []⟩) ∧ s.raises u .cpw 0 ∧
      s.only u [⟨.CPW_GATED_LOG, []⟩] [.cpw] ∧ (who ≠ .owner → u.sent.getLast? = some (.answer who 0x81 [])))) ∧
  (∀ (s : State) (i : Fin 1072) (off size : Nat) (v : W64), s.sealed = false → instForm off size true true = false →
    Runs (.registerWrite (.tenant i) off size v) s (fun u => u = s)) ∧
  (∀ (s : State) (i : Fin 1072) (off size : Nat) (v : W64), s.sealed = false → 1 ≤ size → off / 0x1000 = 3 → off % 0x1000 + size ≤ 0x1000 →
    s.on F.SEC_GATE_LOG_VALID [] = false →
    Runs (.registerWrite (.tenant i) off size v) s (fun u =>
      u.get F.SEC_GATE_LOG_VALID [] = 1 ∧ u.get F.SEC_GATE_LOG_KIND [] = 1 ∧ u.get F.SEC_GATE_LOG_LEVEL [] = 2 ∧ u.get F.SEC_GATE_LOG_INST [] = i.val ∧
      s.raises u .sec 0 ∧ s.counts u ⟨.PMG_CNT, [2]⟩ ∧ s.only u [⟨.SEC_GATE_LOG, []⟩, ⟨.PMG_CNT, [2]⟩] [.sec, .pmg]))

/-- REG_READ answers a register's word, REG_WRITE writes it; in the safe state and in a management restart reads outside GLB and GSV, writes,
SPDM and SET_ENDPOINT_ID answer 0x81, and reads of GLB and GSV still answer data. JNL_READ always answers the entries asked for, and 0x01
for a bad COUNT. SPDM answers by the request; the 17th session is refused. A relay request acts where it names this device and its epoch is
not below the one recorded, a higher epoch is recorded, one for another device goes on by its route, an older one is ignored. -/
def Obligations.endpoint_and_relay_requests : Prop :=
  (∀ (s : State) (off : W32) (len : Fin 256) (x : Reg), s.sealed = false → s.restarting = false → Reg.ofOffset off.toNat = some (x, 0) →
    x.n ∈ [RN.PT_DOZE, .PT_CONG, .RTR_LINK, .SEC_GATE_LOG, .PT_TRK_CFG, .FAB_MGR, .GLB_ID, .GSV_STAT] → len.val = (if x.n.wide then 8 else 4) →
    s.checkAcc .sideband false true off.toNat len.val = (s, .ok) →
    Runs (.regRead off len) s (fun u => u = { s with sent := s.sent ++ [.answer .sideband 0 (leBytes len.val (readWord x.n.fields (s.rd x)).toNat)] })) ∧
  (∀ (s : State) (off : W32) (len : Fin 256) (x : Reg), s.sealed = true → Reg.ofOffset off.toNat = some (x, 0) → x.n ∈ [RN.GLB_ID, .GSV_STAT] →
    len.val = (if x.n.wide then 8 else 4) → off.toNat % len.val = 0 →
    s.gateRefused (s.gateBankOf (s.checkStn .sideband)) x.slotOff.1 .o 0 x.slotOff.2 len.val = none →
    Runs (.regRead off len) s (fun u => u = { s with sent := s.sent ++ [.answer .sideband 0 (leBytes len.val (readWord x.n.fields (s.rd x)).toNat)] })) ∧
  (∀ (s : State) (off : W32) (len : Fin 256), s.sealed = true ∨ s.restarting = true → (slotOf off.toNat).all (fun p => p.1 != 0 && p.1 != 2) = true →
    Runs (.regRead off len) s (fun u => u = { s with sent := s.sent ++ [.answer .sideband 0x81 []] })) ∧
  (∀ (s : State) (off : W32) (len : Fin 256), s.sealed = false → s.restarting = false → len.val ≠ 4 → len.val ≠ 8 →
    Runs (.regRead off len) s (fun u => u = { s with sent := s.sent ++ [.answer .sideband 0x01 []] })) ∧
  (∀ (s : State) (off : W32) (len : Fin 256) (x : Reg) (v : W64), s.sealed = false → s.restarting = false → Reg.ofOffset off.toNat = some (x, 0) →
    x.n ∈ [RN.PT_DOZE, .PT_CONG, .FAB_MGR] → len.val = 4 → s.checkAcc .sideband true true off.toNat 4 = (s, .ok) →
    Runs (.regWrite off len v) s (fun u =>
      (∀ f ∈ x.n.fields, f.ty = .rw → fget (u.rd x) f.lo f.w = fget v f.lo f.w) ∧ s.only u [x] [] ∧ u.sent = s.sent ++ [.answer .sideband 0 []])) ∧
  (∀ (s : State) (off : W32) (len : Fin 256) (v : W64), s.sealed = true ∨ s.restarting = true →
    Runs (.regWrite off len v) s (fun u => u = { s with sent := s.sent ++ [.answer .sideband 0x81 []] })) ∧
  (∀ (s : State) (first : W64) (count : Fin 256), 1 ≤ count.val → count.val ≤ 7 → s.journal.any (fun e => e.seq == first.toNat) = true →
    Runs (.jnlRead first count) s (fun u => u = { s with sent := s.sent ++ [.answer .sideband 0 (
      leBytes 1 (s.journal.filter (fun e => decide (first.toNat ≤ e.seq) && decide (e.seq < first.toNat + count.val))).length ++
        (s.journal.filter (fun e => decide (first.toNat ≤ e.seq) && decide (e.seq < first.toNat + count.val))).flatMap (fun e => e.bytes 0))] })) ∧
  (∀ (s : State) (first : W64) (count : Fin 256), count.val = 0 ∨ 7 < count.val →
    Runs (.jnlRead first count) s (fun u => u = { s with sent := s.sent ++ [.answer .sideband 0x01 []] })) ∧
  (∀ (s : State) (e : Fin 256), s.sealed = false → s.restarting = false → e.val ≠ 0 → e.val ≠ 0xFF →
    Runs (.setEndpointId e) s (fun u => u = { s with
      mgr := { s.mgr with eid := e.val }, sent := s.sent ++ [.answer .sideband 0 [BitVec.ofNat 8 e.val]] })) ∧
  (∀ (s : State) (eid : Fin 256), s.sealed = true ∨ s.restarting = true →
    Runs (.setEndpointId eid) s (fun u => u = { s with sent := s.sent ++ [.answer .sideband 0x81 []] })) ∧
  (∀ (s : State) (pub : List Byte) (n : Nat), s.sealed = false → s.restarting = false → s.secDown = false → s.sec.sess.length < 16 →
    (List.range 16).find? (fun k => !s.sec.sess.contains k) = some n →
    Runs (.spdmRequest (.keyExchange pub)) s (fun u => u = { s with
      sec := { s.sec with sess := s.sec.sess ++ [n] }, sent := s.sent ++ [.spdm (.session n)] })) ∧
  (∀ (s : State) (pub : List Byte), s.sealed = false → s.restarting = false → s.secDown = false → 16 ≤ s.sec.sess.length →
    Runs (.spdmRequest (.keyExchange pub)) s (fun u => u = { s with sent := s.sent ++ [.spdm .busy] })) ∧
  (∀ (s : State) (ix : Nat) (nonce m : List Byte), s.sealed = false → s.restarting = false → s.secDown = false → 1 ≤ ix → ix ≤ 11 → s.sec.meas.look ix = some m →
    Runs (.spdmRequest (.getMeasurements ix nonce)) s (fun u =>
      u = { s with sent := s.sent ++ [.spdm (.signed ix [(ix, m)] (Config.deviceSign (nonce ++ BitVec.ofNat 8 ix :: m)))] })) ∧
  (∀ (s : State) (j : Fin 18) (epoch : W32) (dst : BitVec 14) (env : McrEnv) (off len : Nat) (x : Reg), s.sealed = false → s.restarting = false →
    s.get F.FAB_DEV_ROLE [] ≠ 0 → s.tkOn j.val = true → dst.toNat = s.devNum * 256 + 0xFF → epoch.toNat = s.get F.FAB_DEV_MGR_EPOCH [] →
    Reg.ofOffset off = some (x, 0) → x.n ∈ [RN.PT_DOZE, .PT_CONG, .RTR_LINK, .FAB_MGR] → len = 4 → s.checkAcc .relay false true off 4 = (s, .ok) →
    Runs (.relayRequest j epoch dst (.read off len) env) s (fun u =>
      u = { s with sent := s.sent ++ [.answer .relay 0 (leBytes 4 (readWord x.n.fields (s.rd x)).toNat)] })) ∧
  (∀ (s : State) (j : Fin 18) (epoch : W32) (dst : BitVec 14) (env : McrEnv) (off len : Nat) (v : W64) (x : Reg), s.sealed = false → s.restarting = false →
    s.get F.FAB_DEV_ROLE [] ≠ 0 → s.tkOn j.val = true → dst.toNat = s.devNum * 256 + 0xFF → s.get F.FAB_DEV_MGR_EPOCH [] < epoch.toNat → s.acting = false →
    Reg.ofOffset off = some (x, 0) → x.n ∈ [RN.PT_DOZE, .PT_CONG, .FAB_MGR] → len = 4 → s.checkAcc .relay true true off 4 = (s, .ok) →
    Runs (.relayRequest j epoch dst (.write off len v) env) s (fun u =>
      u.get F.FAB_DEV_MGR_EPOCH [] = epoch.toNat ∧ u.get F.FAB_DEV_MGR [] = s.get F.FAB_DEV_MGR [] ∧
      (∀ f ∈ x.n.fields, f.ty = .rw → fget (u.rd x) f.lo f.w = fget v f.lo f.w) ∧ s.only u [x, ⟨.FAB_DEV, []⟩] [] ∧ u.sent = s.sent ++ [.answer .relay 0 []])) ∧
  (∀ (s : State) (j : Fin 18) (epoch : W32) (dst : BitVec 14) (q : RelayReq) (env : McrEnv), s.sealed = false →
    s.get F.FAB_DEV_ROLE [] ≠ 0 → s.tkOn j.val = true → dst.toNat % 256 = 0xFF → dst.toNat / 256 < 33 → dst.toNat / 256 ≠ s.devNum →
    s.reachesDev (dst.toNat / 256) = true →
    Runs (.relayRequest j epoch dst q env) s (fun u => u = { s with sent := s.sent ++ [.fab (dst.toNat / 256) (.relay q)] })) ∧
  (∀ (s : State) (j : Fin 18) (epoch : W32) (dst : BitVec 14) (q : RelayReq) (env : McrEnv), s.sealed = false →
    dst.toNat = s.devNum * 256 + 0xFF → epoch.toNat < s.get F.FAB_DEV_MGR_EPOCH [] → Runs (.relayRequest j epoch dst q env) s (fun u => u = s))

/-- Outside the safe state. The boot ROM starts recovery where BOOT_SEL says so; otherwise it runs the recorded image if that verifies, else the
other one with FALLBACK, and recovers if neither does. One update runs at a time. A component that verifies is ready, one that does not ends
the update with AUTH_FAIL. ActivateFirmware on a boot image starts a management restart, on the Mule firmware queues the clusters in
service, and an activation that is not up within 200 ms restarts on the old image. A management restart sets ACTIVE, and its end clears it,
counts it, measures it, is journaled and raises its event. -/
def Obligations.boot_updates_and_restarts : Prop :=
  (∀ (s : State) (bc : BootCfg) (readErr : List (Fin 2)), s.sealed = false → s.mayBoot = true → s.on F.CPW_STRAP_BOOT_SEL [] = true →
    Runs (.bootRom bc readErr) s (fun u =>
      u.get F.SEC_BOOT_RECOVERY [] = 1 ∧ u.get F.SEC_BOOT_READY [] = 0 ∧ (∀ x ∈ romSlots, u.clkEn x = true) ∧
      s.only u (⟨.SEC_BOOT, []⟩ :: (List.range 7).map (fun k => ⟨.CPW_CLKEN, [k]⟩)) [])) ∧
  (∀ (s : State) (bc : BootCfg) (readErr : List (Fin 2)), s.sealed = false → s.mayBoot = true → s.on F.CPW_STRAP_BOOT_SEL [] = false →
    s.tryImage s.activeImage (readErr.map (fun y => y.val)) ≠ 0 → s.tryImage (1 - s.activeImage) (readErr.map (fun y => y.val)) ≠ 0 →
    Runs (.bootRom bc readErr) s (fun u =>
      u.get F.SEC_BOOT_RECOVERY [] = 1 ∧ u.get F.SEC_BOOT_READY [] = 0 ∧
      u.get F.SEC_BOOT_FAIL_CAUSE [] = s.tryImage (1 - s.activeImage) (readErr.map (fun y => y.val)) ∧
      s.only u (⟨.SEC_BOOT, []⟩ :: (List.range 7).map (fun k => ⟨.CPW_CLKEN, [k]⟩)) [])) ∧
  (∀ (s : State) (bc : BootCfg) (readErr : List (Fin 2)) (k : Nat), s.sealed = false → s.mayBoot = true → s.on F.CPW_STRAP_BOOT_SEL [] = false →
    s.sec.record = some k → k < 2 →
    Runs (.bootRom bc readErr) s (fun u =>
      (s.tryImage k (readErr.map (fun y => y.val)) = 0 → u.get F.SEC_BOOT_READY [] = 1 ∧ u.get F.SEC_BOOT_IMAGE [] = k ∧ u.sec.running = k ∧
        u.get F.SEC_BOOT_SVN [] = leAt (s.sec.flash.lookD k []) 6 1 ∧ u.get F.SEC_BOOT_VERSION [] = leAt (s.sec.flash.lookD k []) 8 4) ∧
      (s.tryImage k (readErr.map (fun y => y.val)) ≠ 0 → s.tryImage (1 - k) (readErr.map (fun y => y.val)) = 0 →
        u.get F.SEC_BOOT_READY [] = 1 ∧ u.get F.SEC_BOOT_IMAGE [] = 1 - k ∧ u.get F.SEC_BOOT_FALLBACK [] = 1 ∧
        u.get F.SEC_BOOT_FAIL_CAUSE [] = s.tryImage k (readErr.map (fun y => y.val)) ∧ (u.rd (Trip.sec).stat).getLsbD 3 = true))) ∧
  (∀ (s : State) (comp : W16), s.sealed = false → s.restarting = false → s.sec.upd = none → comp = 1 ∨ (comp = 2 ∧ s.on F.SEC_BOOT_RECOVERY [] = false) →
    Runs (.requestUpdate comp) s (fun u => u = { s with
      sec := { s.sec with upd := some comp.toNat, ready := none }, sent := s.sent ++ [.answer .sideband 0 []] })) ∧
  (∀ (s : State) (comp : W16), s.sealed = false → s.sec.upd.isSome = true →
    Runs (.requestUpdate comp) s (fun u => u = { s with sent := s.sent ++ [.answer .sideband 0x81 []] })) ∧
  (∀ (s : State) (data : List Byte), s.sealed = false → s.sec.upd = some 2 →
    Runs (.firmwareTransferDone data) s (fun u =>
      (s.muleVerify data = true → u = { s with sec := { s.sec with ready := some (2, data) }, sent := s.sent ++ [.answer .sideband 0 []] }) ∧
      (s.muleVerify data = false → u.sec = { s.sec with upd := none } ∧ s.raises u .sec 4 ∧ u.sent.getLast? = some (.answer .sideband 1 []) ∧
        { s with sec := u.sec }.only u [] [.sec]))) ∧
  (∀ (s : State) (data : List Byte), s.sealed = false → s.sec.upd = some 1 → s.on F.SEC_BOOT_RECOVERY [] = false →
    Runs (.firmwareTransferDone data) s (fun u =>
      u.sec.flash.lookD (1 - s.activeImage) [] = data ∧
      (s.bootVerify data = 0 → u.sec.ready = some (1, data) ∧ u.sent = s.sent ++ [.answer .sideband 0 []] ∧ u.regs = s.regs) ∧
      (s.bootVerify data ≠ 0 → u.sec.upd = none ∧ s.raises u .sec 4 ∧ u.sent.getLast? = some (.answer .sideband 1 [])))) ∧
  (∀ (s : State), s.sealed = false → s.sec.ready = none →
    Runs .activateFirmware s (fun u => u = { s with sent := s.sent ++ [.answer .sideband 0x84 []] })) ∧
  (∀ (s : State) (data : List Byte), s.sealed = false → s.restarting = false → s.on F.SEC_BOOT_RECOVERY [] = false → s.sec.ready = some (1, data) →
    Runs .activateFirmware s (fun u =>
      u.get F.MGR_RESTART_ACTIVE [] = 1 ∧ u.mgr.reason = 2 ∧ u.sec.activating = some (s.sec.running, s.now) ∧ u.sec.sess = [] ∧
      u.sent = s.sent ++ [.answer .sideband 0 []] ∧ s.keeps u [⟨.MGR_RESTART, []⟩] [])) ∧
  (∀ (s : State) (data : List Byte), s.sealed = false → s.restarting = false → s.on F.SEC_BOOT_RECOVERY [] = false → s.sec.ready = some (2, data) →
    Runs .activateFirmware s (fun u =>
      u.mule.fw = some data ∧ u.mule.updQueue = (List.range 16).filter (fun k => s.mcIn k) ∧ u.sec.ready = none ∧
      u.sent = s.sent ++ [.answer .sideband 0 []] ∧ u.regs = s.regs)) ∧
  (∀ (s : State) (k t : Nat), s.sealed = false → s.sec.activating = some (k, t) → t + 200000000 ≤ s.now →
    Runs .activationTimeout s (fun u =>
      u.sec.activating = none ∧ u.sec.failedAct = true ∧ u.sec.running = s.sec.running ∧ u.get F.MGR_RESTART_ACTIVE [] = 1 ∧ u.mgr.reason = 2 ∧
      u.journal.getLast?.map (fun e => e.kind) = some 5 ∧ s.keeps u [⟨.MGR_RESTART, []⟩, ⟨.MGR_JNL_SEQ, []⟩] [])) ∧
  (∀ (s : State) (k t : Nat), s.sealed = false → s.sec.activating = some (k, t) → s.now < t + 200000000 → Runs .activationTimeout s (fun u => u = s)) ∧
  (∀ (s : State) (k : Nat), s.sealed = false → s.restarting = false → s.mgr.restart = some k →
    Runs .managementRestart s (fun u =>
      u.get F.MGR_RESTART_ACTIVE [] = 1 ∧ u.mgr = { s.mgr with restart := none, restartAt := s.now, reason := k } ∧
      { s with mgr := u.mgr, flt := u.flt }.only u [⟨.MGR_RESTART, []⟩] [])) ∧
  (∀ (s : State), s.sealed = false → s.on F.MGR_RESTART_ACTIVE [] = true → s.sec.activating = none → s.fwd.swaps = [] → s.mgr.run = none → s.mgr.queue = [] →
    s.mesh.inbox.lookD stnMgt0 [] = [] →
    Runs .mgmtRestartUp s (fun u =>
      u.get F.MGR_RESTART_ACTIVE [] = 0 ∧ u.get F.MGR_RESTART_COUNT [] = min 255 (s.get F.MGR_RESTART_COUNT [] + 1) ∧
      u.get F.MGR_RESTART_LAST_US [] = min 0xFFFF ((s.now - s.mgr.restartAt) / 10000) ∧ u.journal.getLast?.map (fun e => e.kind) = some 4 ∧
      (u.rd (Trip.mgr).stat).getLsbD 3 = true)) ∧
  (∀ (s : State), s.sealed = false → s.on F.MGR_RESTART_ACTIVE [] = false → Runs .mgmtRestartUp s (fun u => u = s))

/-- Outside the safe state, on a device with a fabric role that does not act. PREPARE makes an Idle device Prepared and answers READY, or BUSY
under another transaction, or the first failed check. COMMIT sets T, or swaps at once with LATE after T; at T the staged routes become
active. ABORT, and 100 ms without either, return the device to Idle. Two time exchanges make SYNC 1 with the offset to slew. A port control
message acts only for the port's remote binding; a link report sets the slot's remote link, and a link lost unasked contains the vDSP. The
first number sticks. -/
def Obligations.a_device_in_a_transaction : Prop :=
  (∀ (s : State) (id : W16) (sets : List (Fin 4)), s.sealed = false → s.get F.FAB_DEV_ROLE [] ≠ 0 → s.acting = false → s.get F.FAB_TXN_STATE [] = 0 →
    s.fwd.swaps = [] → (∀ k ∈ sets, k = 0 ∨ k = 3) → (∀ x ∈ s.fab.staged, x.1 = id.toNat → s.chgCheck x.2 = 0) →
    Runs (.fabricPrepare id sets) s (fun u =>
      u.get F.FAB_TXN_STATE [] = 1 ∧ u.get F.FAB_TXN_TXN_ID [] = id.toNat ∧ u.fab.staged = s.fab.staged.filter (fun x => x.1 == id.toNat) ∧
      u.fab.sets = sets.map (fun k => k.val) ∧ u.fab.due = none ∧ u.fab.readyAt = s.now ∧
      u.sent = s.sent ++ [.fab (s.get F.FAB_DEV_MGR []) (.answer id.toNat 0)] ∧ { s with fab := u.fab }.only u [⟨.FAB_TXN, []⟩] [])) ∧
  (∀ (s : State) (id : W16) (sets : List (Fin 4)) (c : FabChg), s.sealed = false → s.get F.FAB_DEV_ROLE [] ≠ 0 → s.acting = false →
    s.get F.FAB_TXN_STATE [] = 0 → s.fwd.swaps = [] → (∀ k ∈ sets, k = 0 ∨ k = 3) → s.fab.staged = [(id.toNat, c)] → s.chgCheck c ≠ 0 →
    Runs (.fabricPrepare id sets) s (fun u => u = { s with
      fab := { s.fab with staged := [] }, sent := s.sent ++ [.fab (s.get F.FAB_DEV_MGR []) (.answer id.toNat (s.chgCheck c))] })) ∧
  (∀ (s : State) (id : W16) (sets : List (Fin 4)), s.sealed = false → s.get F.FAB_DEV_ROLE [] ≠ 0 → s.acting = false →
    s.get F.FAB_TXN_STATE [] = 1 ∨ s.get F.FAB_TXN_STATE [] = 2 → s.get F.FAB_TXN_TXN_ID [] ≠ id.toNat →
    Runs (.fabricPrepare id sets) s (fun u => u = { s with sent := s.sent ++ [.fab (s.get F.FAB_DEV_MGR []) (.answer id.toNat 0x14)] })) ∧
  (∀ (s : State) (id : W16) (T : W64), s.sealed = false → s.get F.FAB_DEV_ROLE [] ≠ 0 → s.acting = false → s.get F.FAB_TXN_STATE [] = 1 →
    s.get F.FAB_TXN_TXN_ID [] = id.toNat → s.fabTime ≤ T.toNat →
    Runs (.fabricCommit id T) s (fun u => u = { s with
      fab := { s.fab with due := some T.toNat }, sent := s.sent ++ [.fab (s.get F.FAB_DEV_MGR []) (.ack id.toNat)] })) ∧
  (∀ (s : State) (id : W16) (T : W64), s.sealed = false → s.get F.FAB_DEV_ROLE [] ≠ 0 → s.acting = false → s.get F.FAB_TXN_STATE [] = 1 →
    s.get F.FAB_TXN_TXN_ID [] = id.toNat → T.toNat < s.fabTime → s.fab.sets = [3] → s.fab.staged = [] → s.fwd.own = [] →
    Runs (.fabricCommit id T) s (fun u =>
      u.get F.FAB_TXN_LATE [] = 1 ∧ (u.rd (Trip.fab).stat).getLsbD 4 = true ∧ u.get F.FAB_TXN_STATE [] = 0 ∧ u.fab.rtBank = 1 - s.fab.rtBank ∧
      .fab (s.get F.FAB_DEV_MGR []) (.ack id.toNat) ∈ u.sent.drop s.sent.length)) ∧
  (∀ (s : State) (T : Nat), s.sealed = false → s.get F.FAB_TXN_STATE [] = 1 → s.fab.due = some T → T ≤ s.fabTime → s.fab.sets = [3] → s.fab.staged = [] →
    s.fwd.own = [] → s.fab.txn = none → s.mgr.queue = [] →
    Runs .commitTimeReached s (fun u =>
      u.get F.FAB_TXN_STATE [] = 0 ∧ u.fab.rtBank = 1 - s.fab.rtBank ∧ u.fab.due = none ∧
      (∀ d < 33, u.rd ⟨.FAB_RT, [0, d]⟩ = s.rd ⟨.FAB_RT, [1 - s.fab.rtBank, d]⟩ ∧ u.rd ⟨.FAB_RT, [1, d]⟩ = s.rd ⟨.FAB_RT, [1 - s.fab.rtBank, d]⟩ ∨ 2 ≤ s.fab.rtBank) ∧
      u.journal.getLast?.map (fun e => (e.seq, e.kind)) = some (s.get F.MGR_JNL_SEQ_SEQ [], 3))) ∧
  (∀ (s : State) (T : Nat), s.sealed = false → s.fab.due = some T → s.fabTime < T → s.fab.txn = none → s.mgr.queue = [] →
    Runs .commitTimeReached s (fun u => s.only u [⟨.MGR_MCR_STAT, []⟩] [])) ∧
  (∀ (s : State) (id : W16), s.sealed = false → s.get F.FAB_DEV_ROLE [] ≠ 0 → s.acting = false → s.get F.FAB_TXN_STATE [] = 1 →
    s.get F.FAB_TXN_TXN_ID [] = id.toNat → s.fab.sets = [] →
    Runs (.fabricAbort id) s (fun u =>
      u.get F.FAB_TXN_STATE [] = 0 ∧ u.fab = { s.fab with staged := [], sets := [], due := none } ∧
      u.sent = s.sent ++ [.fab (s.get F.FAB_DEV_MGR []) (.ack id.toNat)] ∧ { s with fab := u.fab }.only u [⟨.FAB_TXN, []⟩] [])) ∧
  (∀ (s : State), s.sealed = false → s.get F.FAB_TXN_STATE [] = 1 → s.fab.due = none → s.fab.readyAt + 100000000 ≤ s.now → s.fab.sets = [] →
    Runs .preparedTimeout s (fun u =>
      u.get F.FAB_TXN_STATE [] = 0 ∧ u.get F.FAB_TXN_SELF_ABORT [] = 1 ∧ u.fab = { s.fab with staged := [], sets := [], due := none } ∧
      s.raises u .fab 5 ∧ { s with fab := u.fab }.only u [⟨.FAB_TXN, []⟩] [.fab])) ∧
  (∀ (s : State), s.sealed = false → s.now < s.fab.readyAt + 100000000 → Runs .preparedTimeout s (fun u => u = s)) ∧
  (∀ (s : State) (t1 t2 t3 t4 : W64) (off : Int), s.sealed = false → s.get F.FAB_DEV_ROLE [] ≠ 0 → s.acting = false → s.devNum ≠ 0x3F →
    2 * off = ((t2.toNat : Int) - t1.toNat) + ((t3.toNat : Int) - t4.toNat) → -32768 ≤ off → off ≤ 32767 → s.fab.syncs = 1 →
    Runs (.timeSyncExchange t1 t2 t3 t4) s (fun u =>
      u.get F.FAB_TIME_STAT_OFFSET [] = (off % 65536).toNat ∧ u.get F.FAB_TIME_STAT_SYNC [] = 1 ∧ u.fab = { s.fab with slew := off, syncs := 2 } ∧
      { s with fab := u.fab }.only u [⟨.FAB_TIME_STAT, []⟩] [])) ∧
  (∀ (s : State) (src : BitVec 14) (port : Fin 144) (act : PortAct), s.sealed = false → s.fwd.rbound.look port.val ≠ some src.toNat →
    Runs (.portControlMessage src port act) s (fun u => u = s)) ∧
  (∀ (s : State) (src : BitVec 14) (port : Fin 144), s.sealed = false → s.fwd.rbound.look port.val = some src.toNat → s.role port.val = 2 → s.inL0 port.val = true →
    Runs (.portControlMessage src port .retrain) s (fun u => u.pget F.PP_STAT_LINK_STATE port.val = 5 ∧ u.fwd = s.fwd)) ∧
  (∀ (s : State) (src : BitVec 14) (port : Fin 144), s.sealed = false → s.fwd.rbound.look port.val = some src.toNat →
    Runs (.portControlMessage src port .linkDisable) s (fun u => (port.val, 1) ∈ u.lnk.remoteOff)) ∧
  (∀ (s : State) (src : BitVec 14) (port : Fin 144) (c : Nat), s.sealed = false → s.fwd.rbound.look port.val = some src.toNat →
    Runs (.portControlMessage src port (.mps c)) s (fun u => u = { s with fab := { s.fab with mps := s.fab.mps.put port.val c } })) ∧
  (∀ (s : State) (gpid : BitVec 14) (rate : Fin 8) (width : Fin 17) (v sl : Nat), s.sealed = false → s.remoteSlot gpid.toNat = some (v, sl) →
    Runs (.linkReport gpid true rate width) s (fun u =>
      (v, sl) ∈ u.vsx.remoteUp ∧ u.vsx.remoteLink.look (v, sl) = some (rate.val, width.val) ∧ u.fwd = s.fwd)) ∧
  (∀ (s : State) (gpid : BitVec 14) (rate : Fin 8) (width : Fin 17) (v sl : Nat), s.sealed = false → s.remoteSlot gpid.toNat = some (v, sl) →
    s.contained v sl = false → (v, sl) ∈ s.vsx.remoteUp → (v, sl) ∉ s.vsx.remoteRst → s.cf (.vdsp v sl) .slotPower = 0 → s.cf (.vdsp v sl) .linkDisable = 0 →
    Runs (.linkReport gpid false rate width) s (fun u =>
      (v, sl) ∉ u.vsx.remoteUp ∧ u.get F.VST_CONT_CONTAINED [v, sl] = 1 ∧ u.get F.VST_CONT_CAUSE [v, sl] = 5 ∧ (u.rd (Trip.vst).stat).getLsbD 2 = true)) ∧
  (∀ (s : State) (gpid : BitVec 14) (up : Bool) (rate : Fin 8) (width : Fin 17), s.sealed = false → s.remoteSlot gpid.toNat = none →
    Runs (.linkReport gpid up rate width) s (fun u => u = s)) ∧
  (∀ (s : State) (num : Fin 33), s.sealed = false → s.get F.FAB_DEV_ROLE [] ≠ 0 → s.devNum = 0x3F →
    Runs (.deviceNumberWrite num) s (fun u =>
      u.get F.FAB_DEV_NUM [] = num.val ∧ u.get F.FAB_DEV_MGR [] = (if s.get F.FAB_DEV_MGR [] = 0x3F then 0 else s.get F.FAB_DEV_MGR []) ∧
      { s with lnk := u.lnk }.only u [⟨.FAB_DEV, []⟩, ⟨.FAB_TIME_STAT, []⟩] [])) ∧
  (∀ (s : State) (num : Fin 33), s.sealed = false → s.devNum ≠ 0x3F → Runs (.deviceNumberWrite num) s (fun u => u = s))

/-- Outside the safe state. Discovery numbers a partner, the first standby 1, and refuses a second Bellwether or a topology that is no fabric.
The last READY commits at fabric time plus MARGIN, a REFUSE or 1 ms aborts; acknowledgements end the resends, which come every 100 µs. The
standby keeps and acknowledges what it is sent; without its acknowledgement in 1 ms the Bellwether goes on with STANDBY_LOST. Without a
heartbeat for HB_LOSS, and none heard by a worker, the standby raises the epoch and takes over. A higher epoch deposes an acting device. -/
def Obligations.the_bellwether_and_its_standby : Prop :=
  (∀ (s : State) (dev : Fin 33) (j pj : Fin 18) (tab : Option (Fin 33)) (links : List (Fin 33 × Fin 18 × Fin 18)), s.sealed = false → s.acting = true →
    dev.val ∈ s.fab.devs →
    Runs (.deviceDiscovery dev j pj 1 tab links) s (fun u =>
      u.get F.FAB_DEV_DUAL_MGR [] = 1 ∧ s.raises u .fab 0 ∧ s.only u [⟨.FAB_DEV, []⟩] [.fab])) ∧
  (∀ (s : State) (dev : Fin 33) (j pj : Fin 18) (tab : Option (Fin 33)), s.sealed = false → s.acting = true → s.devNum = dev.val → dev.val ∈ s.fab.devs →
    1 ∉ s.fab.devs → topoOk (s.fab.devs ++ [1]) (s.fab.links ++ [(dev.val, j.val, 1, pj.val)]) s.devNum = true → s.fab.txn = none →
    Runs (.deviceDiscovery dev j pj 2 tab []) s (fun u =>
      .fab 0x3F (.relay (.number j.val 1)) ∈ u.sent.drop s.sent.length ∧ u.fab.devs = s.fab.devs ++ [1] ∧
      u.fab.links = s.fab.links ++ [(dev.val, j.val, 1, pj.val)] ∧ u.fab.lastTxn = (s.fab.lastTxn + 1) % 65536)) ∧
  (∀ (s : State) (dev : Fin 33) (j pj : Fin 18) (n : Fin 33), s.sealed = false → s.acting = true → dev.val ∈ s.fab.devs → n.val ∉ s.fab.devs →
    topoOk (s.fab.devs ++ [n.val]) (s.fab.links ++ [(dev.val, j.val, n.val, pj.val)]) s.devNum = false →
    Runs (.deviceDiscovery dev j pj 3 (some n) []) s (fun u =>
      u.get F.FAB_DEV_TOPO_REFUSED [] = 1 ∧ s.raises u .fab 2 ∧ s.only u [⟨.FAB_DEV, []⟩] [.fab])) ∧
  (∀ (s : State) (dev : Fin 33) (id : W16) (t : FabTxn) (d : Nat), s.sealed = false → s.fab.txn = some t → t.id = id.toNat → t.phase = 1 → t.status = 0 →
    t.left = [dev.val] → dev.val ∈ t.devs → dev.val ≠ s.devNum → d ∈ t.devs → d ≠ s.devNum → s.mgr.queue = [] →
    Runs (.prepareAnswer dev id 0) s (fun u =>
      .fab d (.commit t.id (s.fabTime + max 20 (s.get F.FAB_MGR_MARGIN []) * 1000)) ∈ u.sent.drop s.sent.length ∧
      u.fab.txn.map (fun x => (x.phase, x.left, x.time)) =
        some (2, t.devs.filter (fun y => y != s.devNum), s.fabTime + max 20 (s.get F.FAB_MGR_MARGIN []) * 1000))) ∧
  (∀ (s : State) (dev : Fin 33) (id : W16) (status : Fin 256) (t : FabTxn) (d : Nat), s.sealed = false → s.fab.txn = some t → t.id = id.toNat → t.phase = 1 →
    t.status = 0 → status ≠ 0 → t.left = [dev.val] → dev.val ∈ t.devs → dev.val ≠ s.devNum → d ∈ t.devs → d ≠ s.devNum → s.mgr.queue = [] →
    Runs (.prepareAnswer dev id status) s (fun u =>
      .fab d (.abort t.id) ∈ u.sent.drop s.sent.length ∧ u.fab.txn.map (fun x => (x.phase, x.status)) = some (3, status.val))) ∧
  (∀ (s : State) (t : FabTxn) (d : Nat), s.sealed = false → s.fab.txn = some t → t.phase = 1 → t.status = 0 → t.left ≠ [] → t.at_ + 1000000 ≤ s.now →
    d ∈ t.devs → d ≠ s.devNum → s.mgr.queue = [] →
    Runs .prepareTimeout s (fun u =>
      .fab d (.abort t.id) ∈ u.sent.drop s.sent.length ∧ u.fab.txn.map (fun x => (x.phase, x.status)) = some (3, 0x15))) ∧
  (∀ (s : State) (t : FabTxn), s.sealed = false → s.fab.txn = some t → s.now < t.at_ + 1000000 → Runs .prepareTimeout s (fun u => u = s)) ∧
  (∀ (s : State) (dev : Fin 33) (id : W16) (t : FabTxn), s.sealed = false → s.fab.txn = some t → t.id = id.toNat → t.phase = 2 →
    t.left.filter (fun y => y != dev.val) ≠ [] → s.mgr.queue = [] →
    Runs (.commitAcknowledge dev id) s (fun u =>
      u.fab = { s.fab with txn := some { t with left := t.left.filter (fun y => y != dev.val) } } ∧
      { s with fab := u.fab }.only u [⟨.MGR_MCR_STAT, []⟩] [])) ∧
  (∀ (s : State) (dev : Fin 33) (id : W16) (t : FabTxn), s.sealed = false → s.fab.txn = some t → t.id = id.toNat → t.phase = 3 → t.left = [dev.val] →
    t.job = none → t.take = 0 → s.fab.waiting = [] → s.fab.owed = [] → s.mgr.queue = [] →
    Runs (.commitAcknowledge dev id) s (fun u => u.fab.txn = none ∧ { s with fab := u.fab }.only u [⟨.MGR_MCR_STAT, []⟩] [])) ∧
  (∀ (s : State) (t : FabTxn), s.sealed = false → s.fab.txn = some t → t.phase = 2 → t.sent + 100000 ≤ s.now →
    Runs .txnResend s (fun u => u = { s with
      fab := { s.fab with txn := some { t with sent := s.now } }, sent := s.sent ++ t.left.map (fun d => .fab d (.commit t.id t.time)) })) ∧
  (∀ (s : State) (t : FabTxn), s.sealed = false → s.fab.txn = some t → s.now < t.sent + 100000 → Runs .txnResend s (fun u => u = s)) ∧
  (∀ (s : State) (links : List (Fin 33 × Fin 18 × Fin 33 × Fin 18)), s.sealed = false → s.acting = false →
    Runs (.heartbeat links) s (fun u => u = { s with fab := { s.fab with hbAt := s.now } })) ∧
  (∀ (s : State) (links : List (Fin 33 × Fin 18 × Fin 33 × Fin 18)) (d : Nat), s.sealed = false → s.acting = true → d ∈ s.fab.devs → d ≠ s.devNum →
    s.reachesDev d = true →
    Runs (.heartbeat links) s (fun u => .fab d .heartbeat ∈ u.sent.drop s.sent.length)) ∧
  (∀ (s : State) (id : Nat) (devs : List Nat), s.sealed = false → s.devNum = 1 → s.acting = false →
    Runs (.standbyUpdate (.txn id devs)) s (fun u => u = { s with
      fab := { s.fab with mirTxn := some (id, devs) }, sent := s.sent ++ [.fab (s.get F.FAB_DEV_MGR []) .standbyAck] })) ∧
  (∀ (s : State) (b : List Byte), s.sealed = false → s.devNum = 1 → s.acting = false →
    Runs (.standbyUpdate (.change b)) s (fun u => u = { s with
      fab := { s.fab with mirror := s.fab.mirror ++ [b], mirTxn := none }, sent := s.sent ++ [.fab (s.get F.FAB_DEV_MGR []) .standbyAck] })) ∧
  (∀ (s : State) (t : FabTxn) (w d : Nat), s.sealed = false → s.fab.ackWait = some w → s.fab.txn = some t → t.phase = 0 → d ∈ t.devs → d ≠ s.devNum →
    s.mgr.queue = [] →
    Runs .standbyAcknowledge s (fun u =>
      .fab d (.prepare t.id t.sets) ∈ u.sent.drop s.sent.length ∧ u.fab.ackWait = none ∧
      u.fab.txn.map (fun x => (x.phase, x.left, x.at_)) = some (1, t.devs.filter (fun y => y != s.devNum), s.now))) ∧
  (∀ (s : State) (t : FabTxn) (w d : Nat), s.sealed = false → s.fab.ackWait = some w → w + 1000000 ≤ s.now → s.fab.txn = some t → t.phase = 0 → d ∈ t.devs →
    d ≠ s.devNum → s.mgr.queue = [] →
    Runs .standbyAckTimeout s (fun u =>
      u.get F.FAB_MGR_STANDBY_LOST [] = 1 ∧ (u.rd (Trip.fab).stat).getLsbD 3 = true ∧ .fab d (.prepare t.id t.sets) ∈ u.sent.drop s.sent.length)) ∧
  (∀ (s : State) (w : Nat), s.sealed = false → s.fab.ackWait = some w → s.now < w + 1000000 → Runs .standbyAckTimeout s (fun u => u = s)) ∧
  (∀ (s : State) (committed : Bool) (d : Nat), s.sealed = false → s.devNum = 1 → s.get F.FAB_DEV_ROLE [] = 2 → s.acting = false →
    s.fab.hbAt + max 1 (s.get F.FAB_MGR_HB_LOSS []) * 1000000 ≤ s.now → s.fab.mirTxn = none → s.get F.FAB_DEV_MGR_EPOCH [] + 1 < 2 ^ 32 →
    d ∈ s.fab.devs → d ≠ 1 → d ≠ s.get F.FAB_DEV_MGR [] → s.reachesDev d = true →
    Runs (.heartbeatLoss false committed) s (fun u =>
      u.get F.FAB_DEV_MGR_EPOCH [] = s.get F.FAB_DEV_MGR_EPOCH [] + 1 ∧ u.get F.FAB_DEV_MGR [] = 1 ∧ s.get F.FAB_DEV_MGR [] ∉ u.fab.devs ∧
      .fab d (.epoch (s.get F.FAB_DEV_MGR_EPOCH [] + 1) 1) ∈ u.sent.drop s.sent.length)) ∧
  (∀ (s : State) (committed : Bool), s.sealed = false → Runs (.heartbeatLoss true committed) s (fun u => u = s)) ∧
  (∀ (s : State) (heard committed : Bool), s.sealed = false → s.now < s.fab.hbAt + max 1 (s.get F.FAB_MGR_HB_LOSS []) * 1000000 →
    Runs (.heartbeatLoss heard committed) s (fun u => u = s)) ∧
  (∀ (s : State) (epoch : W32) (num : Fin 64), s.sealed = false → s.get F.FAB_DEV_ROLE [] ≠ 0 → s.acting = true →
    s.get F.FAB_DEV_MGR_EPOCH [] < epoch.toNat → s.fab.owed = [] → s.mgr.parked = [] → s.mgr.queue = [] →
    Runs (.mgrEpochMessage epoch num) s (fun u =>
      u.get F.FAB_DEV_MGR_EPOCH [] = epoch.toNat ∧ u.get F.FAB_DEV_MGR [] = num.val ∧ u.get F.FAB_DEV_ACTING [] = 0 ∧ u.get F.FAB_DEV_DEPOSED [] = 1 ∧
      s.raises u .fab 7 ∧ u.fab.txn = none ∧ u.fab.devs = [] ∧ { s with fab := u.fab }.only u [⟨.FAB_DEV, []⟩, ⟨.MGR_MCR_STAT, []⟩] [.fab])) ∧
  (∀ (s : State) (epoch : W32) (num : Fin 64), s.sealed = false → epoch.toNat ≤ s.get F.FAB_DEV_MGR_EPOCH [] → s.mgr.queue = [] →
    Runs (.mgrEpochMessage epoch num) s (fun u => s.only u [⟨.MGR_MCR_STAT, []⟩] []))

/-- Outside the safe state. A permitted nudge of an enabled queue pair reads its record, or asks for one more read while one is under way; any
other offset does nothing. Polls read POLL µs after the last read, not before. A record with SQ_TAIL or CQ_HEAD out of range, or a failed
read, puts the queue pair into the error state; a new tail fetches the descriptor at its place in the ring. A descriptor takes the free
ledger entry with its fields and CRC, Queued, or Closing with the status of the first check that fails. -/
def Obligations.doorbells_and_descriptors : Prop :=
  (∀ (s : State) (i : Fin 1072) (off : Fin 4096) (q : Nat), s.sealed = false → off.val = 0x40 * q → q < 8 →
    s.checkSlot (.tenant i) true 201 off.val 4 = (s, .ok) → s.on F.QP_CTL_EN [i.val, q] = true → s.on F.QP_STAT_ERROR [i.val, q] = false →
    (s.qps i.val q).busy = false → s.dmFetches i.val = true →
    Runs (.nudge i off) s (fun u =>
      u.sent = s.sent ++ [.hostRead (.dmf i.val) (s.rd ⟨.QP_DB_ADDR, [i.val, q]⟩).toNat 16 (s.get F.QP_CFG_TC [i.val, q])] ∧
      u.qps i.val q = { s.qps i.val q with want := false, busy := true, isPoll := false, pollAt := s.now } ∧ u = { s with dm := u.dm, sent := u.sent })) ∧
  (∀ (s : State) (i : Fin 1072) (off : Fin 4096) (q : Nat), s.sealed = false → off.val = 0x40 * q → q < 8 →
    s.checkSlot (.tenant i) true 201 off.val 4 = (s, .ok) → s.on F.QP_CTL_EN [i.val, q] = true → (s.qps i.val q).busy = true →
    Runs (.nudge i off) s (fun u => (u.qps i.val q).want = true ∧ u = { s with dm := u.dm })) ∧
  (∀ (s : State) (i : Fin 1072) (off : Fin 4096), s.sealed = false → s.checkSlot (.tenant i) true 201 off.val 4 = (s, .ok) →
    off.val % 0x40 ≠ 0 ∨ 0x200 ≤ off.val ∨ s.on F.QP_CTL_EN [i.val, off.val / 0x40] = false → Runs (.nudge i off) s (fun u => u = s)) ∧
  (∀ (s : State) (i : Fin 1072) (q : Fin 8), s.sealed = false → s.on F.QP_CTL_EN [i.val, q.val] = true → s.on F.QP_STAT_ERROR [i.val, q.val] = false →
    s.get F.QP_CFG_POLL_MODE [i.val, q.val] = 1 → (s.qps i.val q.val).busy = false → s.dmFetches i.val = true →
    (s.qps i.val q.val).pollAt + 1000 * min 1000 (max 1 (s.get F.QP_CFG_POLL [i.val, q.val])) ≤ s.now →
    Runs (.pollTimer i q) s (fun u =>
      u.sent = s.sent ++ [.hostRead (.dmf i.val) (s.rd ⟨.QP_DB_ADDR, [i.val, q.val]⟩).toNat 16 (s.get F.QP_CFG_TC [i.val, q.val])] ∧
      u.qps i.val q.val = { s.qps i.val q.val with want := false, busy := true, isPoll := true, pollAt := s.now } ∧ u = { s with dm := u.dm, sent := u.sent })) ∧
  (∀ (s : State) (i : Fin 1072) (q : Fin 8), s.sealed = false → s.get F.QP_CFG_POLL_MODE [i.val, q.val] = 0 ∨
    s.now < (s.qps i.val q.val).pollAt + 1000 * min 1000 (max 1 (s.get F.QP_CFG_POLL [i.val, q.val])) → Runs (.pollTimer i q) s (fun u => u = s)) ∧
  (∀ (s : State) (i : Fin 1072) (q : Fin 8), s.sealed = false → s.on F.QP_STAT_CQ_WAIT [i.val, q.val] = true → s.on F.QP_CTL_EN [i.val, q.val] = true →
    s.on F.QP_STAT_ERROR [i.val, q.val] = false → (s.qps i.val q.val).busy = false → s.dmFetches i.val = true →
    (s.qps i.val q.val).pollAt + 1000 * min 1000 (max 1 (s.get F.QP_CFG_POLL [i.val, q.val])) ≤ s.now →
    Runs (.cqWaitPoll i q) s (fun u =>
      u.sent = s.sent ++ [.hostRead (.dmf i.val) (s.rd ⟨.QP_DB_ADDR, [i.val, q.val]⟩).toNat 16 (s.get F.QP_CFG_TC [i.val, q.val])] ∧
      (u.qps i.val q.val).busy = true ∧ u = { s with dm := u.dm, sent := u.sent })) ∧
  (∀ (s : State) (i : Fin 1072) (q : Fin 8), s.sealed = false → s.on F.QP_STAT_CQ_WAIT [i.val, q.val] = false → Runs (.cqWaitPoll i q) s (fun u => u = s)) ∧
  (∀ (s : State) (i : Fin 1072) (q : Fin 8) (t h : W32), s.sealed = false → s.on F.QP_CTL_EN [i.val, q.val] = true → s.on F.QP_STAT_ERROR [i.val, q.val] = false →
    (s.qps i.val q.val).busy = true → (s.qps i.val q.val).want = false → (s.qps i.val q.val).reading = false → (s.qps i.val q.val).got = none →
    (s.qps i.val q.val).offer = none → s.dmFetches i.val = true → s.qpEntries i.val q.val = [] →
    t.toNat ≠ s.get F.QP_STAT_ACCEPTED [i.val, q.val] →
    (t.toNat + 2 ^ 32 - s.get F.QP_STAT_ACCEPTED [i.val, q.val]) % 2 ^ 32 ≤ 2 ^ s.get F.QP_CFG_SQ_SIZE [i.val, q.val] →
    (s.get F.QP_STAT_ACCEPTED [i.val, q.val] + 2 ^ 32 - h.toNat) % 2 ^ 32 ≤ 2 ^ s.get F.QP_CFG_CQ_SIZE [i.val, q.val] →
    Runs (.doorbellReadDone i q (some (t, h))) s (fun u =>
      (u.qps i.val q.val).tail = t.toNat ∧ (u.qps i.val q.val).head = h.toNat ∧ (u.qps i.val q.val).busy = false ∧ (u.qps i.val q.val).reading = true ∧
      u.sent = s.sent ++ [.hostRead (.dmf i.val) ((s.rd ⟨.QP_SQ_BASE, [i.val, q.val]⟩).toNat +
        64 * (s.get F.QP_STAT_ACCEPTED [i.val, q.val] % 2 ^ s.get F.QP_CFG_SQ_SIZE [i.val, q.val])) 64 (s.get F.QP_CFG_TC [i.val, q.val])] ∧
      s.keeps u [⟨.QP_STAT, [i.val, q.val]⟩] [])) ∧
  (∀ (s : State) (i : Fin 1072) (q : Fin 8) (t h : W32), s.sealed = false → s.on F.QP_CTL_EN [i.val, q.val] = true → s.on F.QP_STAT_ERROR [i.val, q.val] = false →
    (s.qps i.val q.val).busy = true →
    2 ^ s.get F.QP_CFG_SQ_SIZE [i.val, q.val] < (t.toNat + 2 ^ 32 - s.get F.QP_STAT_ACCEPTED [i.val, q.val]) % 2 ^ 32 →
    Runs (.doorbellReadDone i q (some (t, h))) s (fun u =>
      u.get F.QP_ERR_DB_RANGE [i.val, q.val] = 1 ∧ u.get F.QP_STAT_ERROR [i.val, q.val] = 1 ∧ (u.qps i.val q.val).busy = false ∧
      (s.on F.QP_IRQ_EN [i.val, q.val] = false → u.sent = s.sent))) ∧
  (∀ (s : State) (i : Fin 1072) (q : Fin 8) (t h : W32), s.sealed = false → s.on F.QP_CTL_EN [i.val, q.val] = true → s.on F.QP_STAT_ERROR [i.val, q.val] = false →
    (s.qps i.val q.val).busy = true →
    2 ^ s.get F.QP_CFG_CQ_SIZE [i.val, q.val] < (s.get F.QP_STAT_ACCEPTED [i.val, q.val] + 2 ^ 32 - h.toNat) % 2 ^ 32 →
    Runs (.doorbellReadDone i q (some (t, h))) s (fun u =>
      u.get F.QP_ERR_CQ_RANGE [i.val, q.val] = 1 ∧ u.get F.QP_STAT_ERROR [i.val, q.val] = 1)) ∧
  (∀ (s : State) (i : Fin 1072) (q : Fin 8), s.sealed = false → s.on F.QP_CTL_EN [i.val, q.val] = true → s.on F.QP_STAT_ERROR [i.val, q.val] = false →
    (s.qps i.val q.val).busy = true →
    Runs (.doorbellReadDone i q none) s (fun u => u.get F.QP_ERR_DB_READ [i.val, q.val] = 1 ∧ u.get F.QP_STAT_ERROR [i.val, q.val] = 1)) ∧
  (∀ (s : State) (i : Fin 1072) (q : Fin 8), s.sealed = false → s.on F.QP_CTL_EN [i.val, q.val] = true → s.on F.QP_STAT_ERROR [i.val, q.val] = false →
    (s.qps i.val q.val).reading = true →
    Runs (.descriptorReadDone i q none) s (fun u => u.get F.QP_ERR_DESC_READ [i.val, q.val] = 1 ∧ u.get F.QP_STAT_ERROR [i.val, q.val] = 1)) ∧
  (∀ (s : State) (i : Fin 1072) (q : Fin 8) (d : List Byte) (x : Nat), s.sealed = false → s.on F.QP_CTL_EN [i.val, q.val] = true →
    s.on F.QP_STAT_ERROR [i.val, q.val] = false → (s.qps i.val q.val).reading = true → (s.qps i.val q.val).offer = none → s.qpEntries i.val q.val = [] →
    d.length = 64 → s.cqFree i.val q.val = true → s.ledgerShare i.val = true → s.freeEntry i.val = some x →
    Runs (.descriptorReadDone i q (some d)) s (fun u =>
      (u.qps i.val q.val).offer = some x ∧ (u.qps i.val q.val).reading = false ∧ x ∈ u.dm.pend ∧
      (u.led x).inst = i.val ∧ (u.led x).qp = q.val ∧ (u.led x).seq = s.get F.QP_STAT_ACCEPTED [i.val, q.val] ∧ (u.led x).opcode = leAt d 1 1 ∧
      (u.led x).user = leAt d 4 4 ∧ (u.led x).crc = (crc32c 0 d).toNat ∧ (u.led x).status = s.dmCheck i.val d ∧
      (u.led x).state = (if s.dmCheck i.val d = 0 then 1 else 3) ∧
      (leAt d 0 1 ≠ 1 → (u.led x).status = 0x21) ∧ (leAt d 0 1 = 1 → 0x0A < leAt d 1 1 → (u.led x).status = 0x20) ∧
      (leAt d 0 1 = 1 → (leAt d 1 1 = 7 → (s.get F.DM_ACCEPT_ACCEPT [i.val]).testBit 0 = false → (u.led x).status = 0x27)) ∧
      u.get F.DMG_INST_USE_ENTRIES [i.val] = s.get F.DMG_INST_USE_ENTRIES [i.val] + 1 ∧
      u.get F.QP_STAT_ACCEPTED [i.val, q.val] = s.get F.QP_STAT_ACCEPTED [i.val, q.val]))

/-- Outside the safe state, for a permitted access of the instance outside an FLR. DM_ACCEPT takes offered features while the instance is idle;
addresses and sizes are taken where aligned, in range and not in use; EN starts the counts at 0, only when idle, and its clearing stops the
front end. QP_IRQ takes its value; the moderation sends one message once the count or time is reached. The receive ring's EN writes its
Running ring entry. DL_SEL, DL_CFG, LOG_EN, QUIESCE and FLUSH act on the log of a physical function, refused where the spec says. -/
def Obligations.queue_pair_and_ring_set_up : Prop :=
  (∀ (s : State) (i : Fin 1072) (v : W64), s.granted (.tenant i) true ⟨.DM_ACCEPT, [i.val]⟩ 8 → s.dm.flr.look i.val = none →
    v &&& ~~~(s.rd ⟨.DM_FEATURES, [i.val]⟩) = 0 → v.toNat < 64 → s.instBusy i.val = false →
    Runs (.dmAcceptWrite i v) s (fun u => u.get F.DM_ACCEPT_ACCEPT [i.val] = v.toNat ∧ s.only u [⟨.DM_ACCEPT, [i.val]⟩] [])) ∧
  (∀ (s : State) (i : Fin 1072) (v : W64), s.granted (.tenant i) true ⟨.DM_ACCEPT, [i.val]⟩ 8 → s.dm.flr.look i.val = none →
    v &&& ~~~(s.rd ⟨.DM_FEATURES, [i.val]⟩) ≠ 0 ∨ s.instBusy i.val = true →
    Runs (.dmAcceptWrite i v) s (fun u => u.get F.DM_STAT_ACCEPT_REFUSED [i.val] = 1 ∧ s.only u [⟨.DM_STAT, [i.val]⟩] [])) ∧
  (∀ (s : State) (i : Fin 1072) (q : Fin 8) (v : W64), s.granted (.tenant i) true ⟨.QP_SQ_BASE, [i.val, q.val]⟩ 8 → s.dm.flr.look i.val = none →
    s.on F.QP_CTL_EN [i.val, q.val] = false → v.toNat % 4096 = 0 →
    Runs (.qpCfgWrite i q 0 v) s (fun u => u.rd ⟨.QP_SQ_BASE, [i.val, q.val]⟩ = v ∧ s.only u [⟨.QP_SQ_BASE, [i.val, q.val]⟩] [])) ∧
  (∀ (s : State) (i : Fin 1072) (q : Fin 8) (v : W64), s.granted (.tenant i) true ⟨.QP_DB_ADDR, [i.val, q.val]⟩ 8 → s.dm.flr.look i.val = none →
    v.toNat % 16 ≠ 0 ∨ (s.on F.QP_CTL_EN [i.val, q.val] = true ∧ v ≠ s.rd ⟨.QP_DB_ADDR, [i.val, q.val]⟩) →
    Runs (.qpCfgWrite i q 2 v) s (fun u => u.get F.QP_CFG_CFG_REFUSED [i.val, q.val] = 1 ∧ s.only u [⟨.QP_CFG, [i.val, q.val]⟩] [])) ∧
  (∀ (s : State) (i : Fin 1072) (q : Fin 8) (v : W64), s.granted (.tenant i) true ⟨.QP_CFG, [i.val, q.val]⟩ 4 → s.dm.flr.look i.val = none →
    s.on F.QP_CTL_EN [i.val, q.val] = false → 4 ≤ fget v 0 5 → fget v 0 5 ≤ 16 → 4 ≤ fget v 5 5 → fget v 5 5 ≤ 16 →
    Runs (.qpCfgWrite i q 3 v) s (fun u =>
      u.get F.QP_CFG_SQ_SIZE [i.val, q.val] = fget v 0 5 ∧ u.get F.QP_CFG_CQ_SIZE [i.val, q.val] = fget v 5 5 ∧ u.get F.QP_CFG_TC [i.val, q.val] = fget v 10 3 ∧
      u.get F.QP_CFG_POLL_MODE [i.val, q.val] = fget v 13 2 ∧ u.get F.QP_CFG_POLL [i.val, q.val] = fget v 16 10 ∧ s.only u [⟨.QP_CFG, [i.val, q.val]⟩] [])) ∧
  (∀ (s : State) (i : Fin 1072) (q : Fin 8), s.granted (.tenant i) true ⟨.QP_CTL, [i.val, q.val]⟩ 4 → s.dm.flr.look i.val = none →
    s.on F.QP_CTL_EN [i.val, q.val] = false → s.on F.QP_STAT_IDLE [i.val, q.val] = true →
    Runs (.qpEnable i q) s (fun u =>
      u.get F.QP_CTL_EN [i.val, q.val] = 1 ∧ u.get F.QP_STAT_ACCEPTED [i.val, q.val] = 0 ∧ u.get F.QP_STAT_ERROR [i.val, q.val] = 0 ∧
      (u.qps i.val q.val).tail = 0 ∧ (u.qps i.val q.val).head = 0 ∧ u.get F.DMG_INST_USE_ENABLED [i.val] = 1 ∧
      { s with dm := u.dm }.only u [⟨.QP_CTL, [i.val, q.val]⟩, ⟨.QP_STAT, [i.val, q.val]⟩, ⟨.DMG_INST_USE, [i.val]⟩, ⟨.DMG_SHARE, []⟩] [])) ∧
  (∀ (s : State) (i : Fin 1072) (q : Fin 8), s.granted (.tenant i) true ⟨.QP_CTL, [i.val, q.val]⟩ 4 → s.dm.flr.look i.val = none →
    s.on F.QP_CTL_EN [i.val, q.val] = false → s.on F.QP_STAT_IDLE [i.val, q.val] = false →
    Runs (.qpEnable i q) s (fun u => u.get F.QP_ERR_ENABLE_REFUSED [i.val, q.val] = 1 ∧ s.only u [⟨.QP_ERR, [i.val, q.val]⟩] [])) ∧
  (∀ (s : State) (i : Fin 1072) (q : Fin 8), s.granted (.tenant i) true ⟨.QP_CTL, [i.val, q.val]⟩ 4 → s.dm.flr.look i.val = none →
    Runs (.qpDisable i q) s (fun u =>
      u.get F.QP_CTL_EN [i.val, q.val] = 0 ∧ u.get F.QP_STAT_CQ_WAIT [i.val, q.val] = 0 ∧ u.get F.QP_STAT_LEDGER_WAIT [i.val, q.val] = 0 ∧
      (u.qps i.val q.val).want = false ∧ u.get F.QP_STAT_ACCEPTED [i.val, q.val] = s.get F.QP_STAT_ACCEPTED [i.val, q.val] ∧
      { s with dm := u.dm }.only u [⟨.QP_CTL, [i.val, q.val]⟩, ⟨.QP_STAT, [i.val, q.val]⟩, ⟨.DMG_INST_USE, [i.val]⟩, ⟨.DMG_SHARE, []⟩] [])) ∧
  (∀ (s : State) (i : Fin 1072) (q : Fin 9) (v : W32), q.val < 8 → s.granted (.tenant i) true ⟨.QP_IRQ, [i.val, q.val]⟩ 4 → s.dm.flr.look i.val = none →
    (s.qps i.val q.val).irq = 0 →
    Runs (.qpIrqWrite i q v) s (fun u =>
      u.get F.QP_IRQ_EN [i.val, q.val] = fget (v.zeroExtend 64) 0 1 ∧ u.get F.QP_IRQ_VEC [i.val, q.val] = fget (v.zeroExtend 64) 1 3 ∧
      u.get F.QP_IRQ_COUNT [i.val, q.val] = fget (v.zeroExtend 64) 8 8 ∧ u.get F.QP_IRQ_TIME [i.val, q.val] = fget (v.zeroExtend 64) 16 10 ∧
      s.only u [⟨.QP_IRQ, [i.val, q.val]⟩, ⟨.QP_STAT, [i.val, q.val]⟩] [])) ∧
  (∀ (s : State) (i : Fin 1072) (q : Fin 9), s.sealed = false → q.val < 8 → s.on F.QP_IRQ_EN [i.val, q.val] = true → 0 < (s.qps i.val q.val).irq →
    s.get F.QP_IRQ_COUNT [i.val, q.val] ≤ (s.qps i.val q.val).irq ∨
      (s.qps i.val q.val).irqAt + min 1000 (s.get F.QP_IRQ_TIME [i.val, q.val]) * 1000 ≤ s.now →
    s.on F.IMSIX_CTRL_MASK [i.val, s.get F.QP_IRQ_VEC [i.val, q.val]] = false → s.dmIssue i.val = true →
    Runs (.irqModerationTick i q) s (fun u =>
      u.sent.drop s.sent.length ≠ [] ∧ (u.sent.drop s.sent.length).head? = some (.imsix i.val (s.get F.QP_IRQ_VEC [i.val, q.val])) ∧
      (u.qps i.val q.val).irq = 0 ∧ s.counts u ⟨.DMG_CNT, [i.val, 5]⟩)) ∧
  (∀ (s : State) (i : Fin 1072) (q : Fin 9), s.sealed = false → q.val < 8 → (s.qps i.val q.val).irq < max 1 (s.get F.QP_IRQ_COUNT [i.val, q.val]) →
    s.now < (s.qps i.val q.val).irqAt + min 1000 (s.get F.QP_IRQ_TIME [i.val, q.val]) * 1000 → Runs (.irqModerationTick i q) s (fun u => u = s)) ∧
  (∀ (s : State) (i : Fin 1072) (v : W64) (y : Nat), s.granted (.tenant i) true ⟨.RX_CFG, [i.val]⟩ 4 → s.dm.flr.look i.val = none →
    v.getLsbD 0 = true → 4 ≤ fget v 1 5 → fget v 1 5 ≤ 16 → s.on F.RX_CFG_EN [i.val] = false → s.on F.RX_CFG_IDLE [i.val] = true →
    (s.get F.DM_ACCEPT_ACCEPT [i.val]).testBit 0 = true → s.ringOf i.val = none → s.ringPlace i.val = some y →
    Runs (.rxCfgWrite i 2 v) s (fun u =>
      u.get F.RX_CFG_EN [i.val] = 1 ∧ u.get F.RX_CFG_SIZE [i.val] = fget v 1 5 ∧ u.get F.RX_STAT_DELIVERED [i.val] = 0 ∧
      u.led y = { state := 2, kind := 1, inst := i.val } ∧ y ∈ u.dm.pend ∧ u.get F.DMG_INST_USE_ENABLED [i.val] = 1)) ∧
  (∀ (s : State) (i : Fin 1072) (v : W64), s.granted (.tenant i) true ⟨.RX_CFG, [i.val]⟩ 4 → s.dm.flr.look i.val = none →
    fget v 1 5 < 4 ∨ 16 < fget v 1 5 ∨ (v.getLsbD 0 = true ∧ s.on F.RX_CFG_EN [i.val] = false ∧ (s.get F.DM_ACCEPT_ACCEPT [i.val]).testBit 0 = false) →
    Runs (.rxCfgWrite i 2 v) s (fun u => u.get F.RX_CFG_CFG_REFUSED [i.val] = 1 ∧ s.only u [⟨.RX_CFG, [i.val]⟩] [])) ∧
  (∀ (s : State) (i : Fin 1072) (v : W64), s.granted (.tenant i) true ⟨.RX_BASE, [i.val]⟩ 8 → s.dm.flr.look i.val = none →
    s.on F.RX_CFG_EN [i.val] = false → v.toNat % 4096 = 0 →
    Runs (.rxCfgWrite i 0 v) s (fun u => u.rd ⟨.RX_BASE, [i.val]⟩ = v ∧ s.only u [⟨.RX_BASE, [i.val]⟩] [])) ∧
  (∀ (s : State) (i : Fin 1072) (v : W32), s.granted (.tenant i) true ⟨.DL_SEL, [i.val]⟩ 4 → s.dm.flr.look i.val = none → i.val < 48 →
    v.toNat % 2048 = i.val ∨ (48 + s.get F.DMG_VF_FIRST [i.val] ≤ v.toNat % 2048 ∧
      v.toNat % 2048 < 48 + s.get F.DMG_VF_FIRST [i.val] + s.get F.DMG_VF_COUNT [i.val]) →
    Runs (.dlSelWrite i v) s (fun u =>
      u.get F.DL_SEL_INST [i.val] = v.toNat % 2048 ∧ s.only u [⟨.DL_SEL, [i.val]⟩, ⟨.DL_CTL, [i.val]⟩, ⟨.DL_STAT, [i.val]⟩] [])) ∧
  (∀ (s : State) (i : Fin 1072) (v : W32), s.granted (.tenant i) true ⟨.DL_SEL, [i.val]⟩ 4 → s.dm.flr.look i.val = none → i.val < 48 →
    v.toNat % 2048 ≠ i.val → v.toNat % 2048 < 48 →
    Runs (.dlSelWrite i v) s (fun u => u.get F.DL_STAT_REFUSED [i.val] = 1 ∧ s.only u [⟨.DL_STAT, [i.val]⟩] [])) ∧
  (∀ (s : State) (i : Fin 1072) (v : W64), s.granted (.tenant i) true ⟨.DL_BASE, [i.val]⟩ 8 → s.dm.flr.look i.val = none → i.val < 48 → s.dm.logged = [] →
    Runs (.dlCfgWrite i 0 v) s (fun u => u.get F.DL_BASE_ADDR [i.val] = fget v 12 52 ∧ s.only u [⟨.DL_BASE, [i.val]⟩] [])) ∧
  (∀ (s : State) (i : Fin 1072) (r : Fin 3) (v : W64),
    s.granted (.tenant i) true ⟨if r = 0 then .DL_BASE else if r = 1 then .DL_DB_ADDR else .DL_CFG, [i.val]⟩ (if r = 2 then 4 else 8) →
    s.dm.flr.look i.val = none → i.val < 48 → i.val ∈ s.dm.logged →
    Runs (.dlCfgWrite i r v) s (fun u => u.get F.DL_STAT_REFUSED [i.val] = 1 ∧ s.only u [⟨.DL_STAT, [i.val]⟩] [])) ∧
  (∀ (s : State) (i : Fin 1072), s.granted (.tenant i) true ⟨.DL_CTL, [i.val]⟩ 4 → s.dm.flr.look i.val = none → i.val < 48 →
    (s.get F.DM_ACCEPT_ACCEPT [i.val]).testBit 4 = true → s.dm.logged = [] →
    Runs (.dlLogEn i true) s (fun u =>
      u.dm.logged = [s.get F.DL_SEL_INST [i.val]] ∧ u.get F.DL_CTL_LOG_EN [i.val] = 1 ∧ u.get F.DL_STAT_LOGGING [i.val] = 1 ∧
      { s with dm := u.dm }.only u [⟨.DL_CTL, [i.val]⟩, ⟨.DL_STAT, [i.val]⟩] [])) ∧
  (∀ (s : State) (i : Fin 1072), s.granted (.tenant i) true ⟨.DL_CTL, [i.val]⟩ 4 → s.dm.flr.look i.val = none → i.val < 48 →
    Runs (.dlLogEn i false) s (fun u =>
      u.dm.logged = s.dm.logged.filter (fun j => j != s.get F.DL_SEL_INST [i.val]) ∧ u.get F.DL_CTL_LOG_EN [i.val] = 0 ∧
      { s with dm := u.dm }.only u [⟨.DL_CTL, [i.val]⟩, ⟨.DL_STAT, [i.val]⟩] [])) ∧
  (∀ (s : State) (i : Fin 1072), s.granted (.tenant i) true ⟨.DL_CTL, [i.val]⟩ 4 → s.dm.flr.look i.val = none → i.val < 48 →
    s.get F.DL_SEL_INST [i.val] ∉ s.dm.quiesced →
    Runs (.dlQuiesce i true) s (fun u =>
      s.get F.DL_SEL_INST [i.val] ∈ u.dm.quiesced ∧ u.dmFetches (s.get F.DL_SEL_INST [i.val]) = false ∧ u.get F.DL_CTL_QUIESCE [i.val] = 1 ∧
      { s with dm := u.dm }.only u [⟨.DL_CTL, [i.val]⟩, ⟨.DL_STAT, [i.val]⟩] [])) ∧
  (∀ (s : State) (i : Fin 1072), s.granted (.tenant i) true ⟨.DL_CTL, [i.val]⟩ 4 → s.dm.flr.look i.val = none → i.val < 48 →
    Runs (.dlFlush i) s (fun u => u.get F.DL_CTL_FLUSH [i.val] = 0 ∧ s.only u [⟨.DL_CTL, [i.val]⟩] []))

/-- Outside the safe state. The acknowledgement of an offered entry puts it in both copies and accepts the descriptor; that of a Free entry
removes it from both; what the read of the copies found is reported, and a live entry that no copy gives seals the device with cause 6. A
written record's entry is written Free; a failed flush read gives status 0x14. A failed slice sets its pair moving, or out where it holds
nothing; a live entry moves to an open pair. An epoch advances EPOCH and recomputes the quotas on a change. A front end moves to the next
cluster in service and compares what it reads again with the CRC. -/
def Obligations.ledger_entries : Prop :=
  (∀ (s : State) (x : Fin 262144) (e : LedE), s.sealed = false → s.dm.mv = [] → s.dm.even.look x.val = some e → x.val ∈ s.dm.pend → e.kind = 0 → e.state = 1 →
    e.opcode = 1 → (s.qps e.inst e.qp).offer = some x.val → (s.qps e.inst e.qp).skip = false → s.dm.todo.look x.val = none → s.dm.flr = [] →
    (∀ y ∈ s.entriesOf e.inst, y = x.val) →
    Runs (.ledgerWriteAck x .clean) s (fun u =>
      u.dm.even.look x.val = some e ∧ u.dm.odd.look x.val = some e ∧ x.val ∉ u.dm.pend ∧ (u.qps e.inst e.qp).offer = none ∧
      u.get F.QP_STAT_ACCEPTED [e.inst, e.qp] = (s.get F.QP_STAT_ACCEPTED [e.inst, e.qp] + 1) % 2 ^ 32 ∧ s.counts u ⟨.DMG_CNT, [e.inst, 0]⟩)) ∧
  (∀ (s : State) (x : Fin 262144) (e : LedE), s.sealed = false → s.dm.mv = [] → s.dm.even.look x.val = some e → x.val ∈ s.dm.pend → e.kind = 0 → e.state = 0 →
    s.dm.ringWait = [] → (s.qps e.inst e.qp).got = none →
    Runs (.ledgerWriteAck x .clean) s (fun u => u.dm.even.look x.val = none ∧ u.dm.odd.look x.val = none ∧ x.val ∉ u.dm.pend ∧ u.dm.acc.look x.val = none)) ∧
  (∀ (s : State) (x : Fin 262144) (chk : LedChk), s.sealed = false → x.val ∉ s.dm.pend → Runs (.ledgerWriteAck x chk) s (fun u => u = s)) ∧
  (∀ (s : State) (x : Fin 262144), s.sealed = false → x.val ∈ s.dm.pend → (s.led x.val).state ≠ 0 →
    Runs (.ledgerWriteAck x .lost) s (fun u => u.sealed = true ∧ u.get F.GSV_SEAL_CAUSE [] = 6 ∧ u.dm = s.dm)) ∧
  (∀ (s : State) (x : Fin 262144), s.sealed = false → x.val ∈ s.dm.pend →
    Runs (.ledgerWriteAck x .ueEven) s (fun u => (u.rd (Trip.lsl (2 * (x.val / 65536))).stat).getLsbD 1 = true)) ∧
  (∀ (s : State) (x : Fin 262144), s.sealed = false → x.val ∈ s.dm.recs → x.val ∉ s.dm.pend → s.oddServes (x.val / 65536) = false →
    Runs (.entryRetire x) s (fun u =>
      u.led x.val = { s.led x.val with state := 0 } ∧ x.val ∈ u.dm.pend ∧ u.dm.odd = s.dm.odd ∧
      { s with dm := u.dm }.only u [⟨.LSL_STAT, [2 * (x.val / 65536)]⟩, ⟨.LSL_STAT, [2 * (x.val / 65536) + 1]⟩] [])) ∧
  (∀ (s : State) (x : Fin 262144), s.sealed = false → x.val ∉ s.dm.recs ∨ x.val ∈ s.dm.pend → Runs (.entryRetire x) s (fun u => u = s)) ∧
  (∀ (s : State) (x : Fin 262144), s.sealed = false → x.val ∈ s.dm.flush → (s.led x.val).kind = 0 → (s.led x.val).state = 3 → (s.led x.val).status = 0 →
    (s.qps (s.led x.val).inst (s.led x.val).qp).got = none →
    Runs (.flushReadDone x false) s (fun u => (u.led x.val).status = 0x14 ∧ (u.led x.val).state = 3 ∧ x.val ∉ u.dm.flush ∧ x.val ∈ u.dm.flushed)) ∧
  (∀ (s : State) (x : Fin 262144) (a : Acpt) (t : Nat × Nat), s.sealed = false → x.val ∈ s.dm.flush → s.qpEntries (s.led x.val).inst (s.led x.val).qp = [x.val] →
    (s.led x.val).state = 3 → (s.led x.val).kind = 0 → (s.led x.val).status = 0 → x.val ∉ s.dm.pend → x.val ∉ s.dm.recs →
    (s.qps (s.led x.val).inst (s.led x.val).qp).offer = none → (s.qps (s.led x.val).inst (s.led x.val).qp).got = none →
    s.dmIssue (s.led x.val).inst = true → s.dm.acc.look x.val = some a → dFlag a.d 0 = false → s.dm.last.look x.val = some t → s.dm.logged = [] →
    Runs (.flushReadDone x true) s (fun u =>
      (u.sent.drop s.sent.length).head? = some (.hostWrite (.dmf (s.led x.val).inst)
        ((s.rd ⟨.QP_CQ_BASE, [(s.led x.val).inst, (s.led x.val).qp]⟩).toNat + 16 * ((s.led x.val).seq % 2 ^ s.get F.QP_CFG_CQ_SIZE [(s.led x.val).inst, (s.led x.val).qp]))
        (recBytes (s.led x.val) (s.get F.QP_CFG_CQ_SIZE [(s.led x.val).inst, (s.led x.val).qp])) (s.get F.QP_CFG_TC [(s.led x.val).inst, (s.led x.val).qp]) false false) ∧
      x.val ∈ u.dm.recs ∧ s.counts u ⟨.DMG_CNT, [(s.led x.val).inst, 1]⟩)) ∧
  (∀ (s : State) (k : Fin 8) (x : Nat), s.sealed = false → s.pairIn (k.val / 2) = true → s.dm.mv = [] → x ∈ s.ledKeys → x / 65536 = k.val / 2 → s.dm.pend = [] →
    (∀ y ∈ s.ledKeys, (s.qps (s.led y).inst (s.led y).qp).offer = none) → (k.val % 2 = 0 → (s.dm.odd.look x).isSome = true) →
    Runs (.ledgerSliceFailed k) s (fun u =>
      u.get F.LSL_STAT_MOVING [2 * (k.val / 2)] = 1 ∧ u.get F.LSL_STAT_MOVING [2 * (k.val / 2) + 1] = 1 ∧
      u.dm.mv.look (k.val / 2) = some (if k.val % 2 = 0 then k.val + 1 else k.val - 1) ∧ (5, k.val / 2) ∈ u.flt.failed ∧
      (u.rd (Trip.lsl k.val).stat).getLsbD 1 = true)) ∧
  (∀ (s : State) (k : Fin 8), s.sealed = false → s.pairIn (k.val / 2) = true → s.dm.mv = [] → s.dm.even = [] → s.dm.odd = [] → s.dm.pend = [] →
    Runs (.ledgerSliceFailed k) s (fun u =>
      u.get F.LSL_STAT_PAIR_OUT [2 * (k.val / 2)] = 1 ∧ u.get F.LSL_STAT_PAIR_OUT [2 * (k.val / 2) + 1] = 1 ∧ u.dm.mv = [])) ∧
  (∀ (s : State) (x : Fin 262144) (j y : Nat), s.sealed = false → s.dm.mv = [(x.val / 65536, j)] → x.val ∈ s.ledKeys → x.val ∉ s.dm.pend →
    (s.led x.val).kind = 0 → (s.led x.val).state ≠ 0 →
    (List.range 4).findSome? (fun n => if s.pairOpen n then s.freeIn n else none) = some y → s.dm.acc.look y = none →
    Runs (.ledgerEntryMove x true) s (fun u => u.led y = s.led x.val ∧ x.val ∉ u.ledKeys ∧ u.dm.acc.look y = s.dm.acc.look x.val)) ∧
  (∀ (s : State) (x : Fin 262144) (j : Nat), s.sealed = false → s.dm.mv.look (x.val / 65536) = some j → x.val ∈ s.ledKeys →
    Runs (.ledgerEntryMove x false) s (fun u => u.sealed = true ∧ u.get F.GSV_SEAL_CAUSE [] = 6 ∧ u.dm = s.dm)) ∧
  (∀ (s : State), s.sealed = false →
    s.dm.epochOf ≠ (max 1 s.dm.nEn, (below 4 (fun k => s.pairIn k)).length, (below 16 (fun k => s.ssIn k)).length) →
    Runs .schedulingEpoch s (fun u =>
      u.get F.DMG_SHARE_EPOCH [] = (s.get F.DMG_SHARE_EPOCH [] + 1) % 2 ^ 20 ∧
      u.get F.DMG_SHARE_LQUOTA [] = 64464 * (below 4 (fun k => s.pairIn k)).length / max 1 s.dm.nEn ∧
      u.get F.DMG_SHARE_SQUOTA [] = 1024 * (below 16 (fun k => s.ssIn k)).length / max 1 s.dm.nEn ∧ s.raises u .dmg 2 ∧
      { s with dm := u.dm }.only u [⟨.DMG_SHARE, []⟩] [.dmg])) ∧
  (∀ (s : State), s.sealed = false →
    s.dm.epochOf = (max 1 s.dm.nEn, (below 4 (fun k => s.pairIn k)).length, (below 16 (fun k => s.ssIn k)).length) →
    Runs .schedulingEpoch s (fun u =>
      u.get F.DMG_SHARE_EPOCH [] = (s.get F.DMG_SHARE_EPOCH [] + 1) % 2 ^ 20 ∧ u.get F.DMG_SHARE_LQUOTA [] = s.get F.DMG_SHARE_LQUOTA [] ∧
      s.only u [⟨.DMG_SHARE, []⟩] [])) ∧
  (∀ (s : State) (i : Fin 1072) (k : Nat), s.sealed = false → s.nextMc (i.val % 16) = some k → k ≠ s.get F.DM_STAT_SERVING [i.val] →
    s.get F.MCL_STAT_STATE [s.get F.DM_STAT_SERVING [i.val]] ≠ 2 → Runs (.servingClusterMove i) s (fun u => u.get F.DM_STAT_SERVING [i.val] = k)) ∧
  (∀ (s : State) (i : Fin 1072), s.sealed = false → s.nextMc (i.val % 16) = some (s.get F.DM_STAT_SERVING [i.val]) →
    Runs (.servingClusterMove i) s (fun u => u = s)) ∧
  (∀ (s : State) (x : Fin 262144) (b : List Byte) (a : Acpt), s.sealed = false → s.dm.reread = [x.val] → x.val ∉ s.dm.pend → s.dm.acc.look x.val = some a →
    b.length = 64 → (crc32c 0 b).toNat = (s.led x.val).crc → (s.led x.val).opcode = 1 → (s.led x.val).state = 1 →
    Runs (.descriptorRereadDone x (some b) none) s (fun u =>
      u.dm.acc.look x.val = some { a with d := b, held := true } ∧ u.dm.reread = [] ∧ u.get F.DM_STAT_MOVING [(s.led x.val).inst] = 0)) ∧
  (∀ (s : State) (x : Fin 262144) (b : List Byte) (a : Acpt), s.sealed = false → s.dm.reread = [x.val] → x.val ∉ s.dm.pend → s.dm.acc.look x.val = some a →
    b.length = 64 → (crc32c 0 b).toNat ≠ (s.led x.val).crc → (s.led x.val).state = 1 → (s.led x.val).status = 0 → (s.led x.val).kind = 0 →
    Runs (.descriptorRereadDone x (some b) none) s (fun u =>
      (u.led x.val).status = 0x22 ∧ (u.led x.val).result = 4096 * (s.led x.val).cdone ∧ u.dm.reread = []))

/-- Outside the safe state. In its turn a ready COPY chunk takes an idle thread near staging and a buffer, and reads its source; its commit
writes the bytes, counts them, frees both, and with the last chunk closes the entry with RESULT = LEN; a failed chunk ends it with the
status and offset. An atomic completion writes RESULT and NI = 2. A reservation request takes the next slot of a ring with room, its answer
is recorded; the RX record is taken or ends deliveries. An FLR clears the enables and abandons the entries no Mule works on; its completion
frees the entries and resets the registers. -/
def Obligations.chunks_rings_and_function_resets : Prop :=
  (∀ (s : State) (x : Fin 262144) (t : Fin 256) (ck b n : Nat) (a : Acpt), s.sealed = false → s.readyChunk x.val = some ck → s.dm.acc.look x.val = some a →
    leAt a.d 1 1 = 1 → s.thrFree t.val = true → s.nearStaging (t.val / 16) = true → s.instReady (s.led x.val).inst = true →
    s.shGrants (768 + (s.led x.val).inst) = true → s.myTurn (s.led x.val).inst = true → s.dm.bufs = [] → (s.led x.val).state = 1 →
    (below 16 (fun k => s.ssIn k)).head? = some b → n = min 4096 (leAt a.d 8 4 - 4096 * ck) → 0 < n → n ≤ 128 <<< min 5 (s.cf (.dmf a.src.fn) .mrrs) →
    (s.led x.val).inst < 1072 →
    Runs (.chunkAssign x t none) s (fun u =>
      u.thrBusy t.val = true ∧ u.get F.MCL_THR_STATE [t.val / 16, t.val % 16] = 1 ∧ u.get F.MCL_THR_INST [t.val / 16, t.val % 16] = (s.led x.val).inst ∧
      u.chunksOf x.val = s.chunksOf x.val ++ [{ c := ck, thr := t.val, buf := some (1024 * b) }] ∧ u.led x.val = { s.led x.val with state := 2 } ∧
      u.dm.bufs.look (1024 * b) = some (s.led x.val).inst ∧ u.dm.rr = (s.led x.val).inst ∧
      u.sent = s.sent ++ [.hostRead (.dmf a.src.fn) (a.src.base + (leAt a.d 16 8 + 4096 * ck)) n
        (s.get F.QP_CFG_TC [(s.led x.val).inst, (s.led x.val).qp]) (dFlag a.d 3)])) ∧
  (∀ (s : State) (x : Fin 262144) (t : Fin 256) (got : Option (List Byte)), s.sealed = false →
    s.thrFree t.val = false ∨ s.readyChunk x.val = none ∨ s.instReady (s.led x.val).inst = false → Runs (.chunkAssign x t got) s (fun u => u = s)) ∧
  (∀ (s : State) (x c : Fin 262144) (g : ChunkGot) (a : Acpt) (k : Chk) (n : Nat), s.sealed = false → s.dm.acc.look x.val = some a → leAt a.d 1 1 = 1 →
    (s.led x.val).opcode = 1 → (s.led x.val).kind = 0 → (s.led x.val).state = 2 → (s.led x.val).status = 0 → (s.led x.val).cwin = 0 →
    (s.led x.val).cdone = c.val → s.chunksOf x.val = [k] → k.c = c.val → k.got = none → x.val ∉ s.dm.pend → g.err = 0 → s.dm.logged = [] →
    n = leAt a.d 8 4 - 4096 * c.val → 0 < n → n ≤ 4096 → g.a.length = n → n ≤ 128 <<< min 5 (s.cf (.dmf a.dst.fn) .mps) → a.dst.lim = none →
    s.dm.flr = [] → (s.qps (s.led x.val).inst (s.led x.val).qp).got = none →
    Runs (.chunkCommit x c g) s (fun u =>
      (.hostWrite (.dmf a.dst.fn) (a.dst.base + (leAt a.d 24 8 + 4096 * c.val)) g.a
        (s.get F.QP_CFG_TC [(s.led x.val).inst, (s.led x.val).qp]) (dFlag a.d 3) (dFlag a.d 4)) ∈ u.sent.drop s.sent.length ∧
      (u.led x.val).state = 3 ∧ (u.led x.val).status = 0 ∧ (u.led x.val).result = leAt a.d 8 4 ∧ (u.led x.val).cdone = c.val + 1 ∧
      u.chunksOf x.val = [] ∧ u.thrBusy k.thr = false ∧
      s.counts u ⟨.DMG_CNT, [(s.led x.val).inst, 3]⟩ n ∧ s.counts u ⟨.DMG_CNT, [(s.led x.val).inst, 4]⟩ n)) ∧
  (∀ (s : State) (x c : Fin 262144) (g : ChunkGot) (a : Acpt) (k : Chk), s.sealed = false → s.dm.acc.look x.val = some a → leAt a.d 1 1 = 1 →
    (s.led x.val).opcode = 1 → (s.led x.val).kind = 0 → (s.led x.val).state = 2 → (s.led x.val).status = 0 → s.chunksOf x.val = [k] → k.c = c.val →
    k.got = none → x.val ∉ s.dm.pend → g.err ≠ 0 → s.dm.flr = [] → (s.qps (s.led x.val).inst (s.led x.val).qp).got = none →
    Runs (.chunkCommit x c g) s (fun u =>
      (u.led x.val).state = 3 ∧ (u.led x.val).status = g.err ∧ (u.led x.val).result = g.off ∧ u.thrBusy k.thr = false)) ∧
  (∀ (s : State) (x : Fin 262144) (ok : Bool) (v : W64), s.sealed = false → (s.led x.val).kind = 0 → (s.led x.val).opcode = 8 → (s.led x.val).ni = 1 →
    (s.led x.val).state = 2 → x.val ∉ s.dm.pend →
    Runs (.atomicCompletion x ok v) s (fun u =>
      u.led x.val = { s.led x.val with result := if ok then v.toNat else 0, status := if ok then 0 else 0x13, ni := 2 } ∧ x.val ∈ u.dm.pend)) ∧
  (∀ (s : State) (x : Fin 80) (t e th y : Nat), s.sealed = false → s.mesh.inbox.lookD x.val [] = [.ringReq t e th] → s.ringOf t = some y → y ∉ s.dm.pend →
    (s.led y).resV = false → (s.led y).state = 2 → s.on F.RX_CFG_EN [t] = true → (s.rxs t).bad = false →
    ((s.led y).delivered + 2 ^ 32 - (s.rxs t).head) % 2 ^ 32 < 2 ^ s.get F.RX_CFG_SIZE [t] →
    s.dm.occ.look (t, (s.led y).delivered % 2 ^ s.get F.RX_CFG_SIZE [t]) = none →
    Runs (.ringReservationRequest x) s (fun u =>
      u.led y = { s.led y with
        delivered := ((s.led y).delivered + 1) % 2 ^ 32, resIdx := e, resV := true, resSlot := (s.led y).delivered % 2 ^ s.get F.RX_CFG_SIZE [t] } ∧
      y ∈ u.dm.pend ∧ u.get F.RX_STAT_DELIVERED [t] = ((s.led y).delivered + 1) % 2 ^ 32 ∧ u.mesh.inbox.lookD x.val [] = [])) ∧
  (∀ (s : State) (x : Fin 80), s.sealed = false → s.mesh.inbox.lookD x.val [] = [] → Runs (.ringReservationRequest x) s (fun u => u = s)) ∧
  (∀ (s : State) (x : Fin 80) (th y slot : Nat), s.sealed = false → s.mesh.inbox.lookD x.val [] = [.ringAns th slot] → slot < 65536 →
    s.ledKeys.find? (fun z => (s.led z).kind == 0 && (s.led z).opcode == 7 && (s.led z).ni == 1 && (s.chunksOf z).any (fun k => k.thr == th)) = some y →
    Runs (.ringReservationAnswer x) s (fun u => u.led y = { s.led y with cwin := slot, ni := 2 } ∧ y ∈ u.dm.pend)) ∧
  (∀ (s : State) (i : Fin 1072) (w : Nat × Nat) (h : W32), s.sealed = false → (s.rxs i.val).waiting = some w →
    (s.get F.RX_STAT_DELIVERED [i.val] + 2 ^ 32 - h.toNat) % 2 ^ 32 ≤ 2 ^ s.get F.RX_CFG_SIZE [i.val] → s.dm.ringWait = [] →
    Runs (.rxDoorbellReadDone i (some h)) s (fun u => (u.rxs i.val).head = h.toNat ∧ (u.rxs i.val).waiting = none)) ∧
  (∀ (s : State) (i : Fin 1072) (w : Nat × Nat), s.sealed = false → (s.rxs i.val).waiting = some w → s.dm.ringWait = [] →
    Runs (.rxDoorbellReadDone i none) s (fun u => u.get F.RX_STAT_DB_READ [i.val] = 1 ∧ (u.rxs i.val).bad = true ∧ (u.rxs i.val).waiting = none)) ∧
  (∀ (s : State) (i : Fin 1072) (got : Option W32), s.sealed = false → (s.rxs i.val).waiting = none → Runs (.rxDoorbellReadDone i got) s (fun u => u = s)) ∧
  (∀ (s : State) (i : Fin 1072), s.sealed = false → 48 ≤ i.val → s.dm.flr.look i.val = none → s.dm.chunks = [] → s.dm.mv = [] →
    Runs (.instanceFlr i) s (fun u =>
      (∀ q < 8, u.get F.QP_CTL_EN [i.val, q] = 0) ∧ u.get F.RX_CFG_EN [i.val] = 0 ∧ u.get F.DM_ACCEPT_ACCEPT [i.val] = 0 ∧
      u.get F.DMG_INST_USE_ENABLED [i.val] = 0 ∧ u.dm.flr.look i.val = some s.now ∧
      (∀ y ∈ s.entriesOf i.val, (s.led y).state ≠ 0 → (u.led y).state = 4) ∧ u.dmIssue i.val = false)) ∧
  (∀ (s : State) (i : Fin 1072), s.sealed = false → i.val < 48 →
    Runs (.instanceFlr i) s (fun u => u.cf (.dmf i.val) .vfEnable = 0 ∧ (u.dm.flr.look i.val).isSome = true)) ∧
  (∀ (s : State) (i : Fin 1072), s.sealed = false → (s.dm.flr.look i.val).isSome = true → s.dm.chunks = [] → s.dm.mv = [] → 
    Runs (.flrComplete i) s (fun u =>
      u.dm.flr.look i.val = none ∧ u.entriesOf i.val = [] ∧ u.get F.DM_STAT_SERVING [i.val] = s.get F.DM_STAT_SERVING [i.val] ∧
      u.rd ⟨.DM_ACCEPT, [i.val]⟩ = (⟨.DM_ACCEPT, [i.val]⟩ : Reg).rst ∧ u.rd ⟨.RX_CFG, [i.val]⟩ = (⟨.RX_CFG, [i.val]⟩ : Reg).rst ∧
      (∀ q < 8, u.rd ⟨.QP_CFG, [i.val, q]⟩ = (⟨.QP_CFG, [i.val, q]⟩ : Reg).rst ∧ u.rd ⟨.QP_STAT, [i.val, q]⟩ = (⟨.QP_STAT, [i.val, q]⟩ : Reg).rst ∧
        u.qps i.val q = {}))) ∧
  (∀ (s : State) (i : Fin 1072), s.sealed = false → s.dm.flr.look i.val = none → Runs (.flrComplete i) s (fun u => u = s))

/-- Outside the safe state, when a Mule in service issues the instruction of its next ready thread, ADD to CRC and TIME write into gD the value
that the operation table gives, with arithmetic modulo 2^64; g0 discards it. The PC advances by 4, the Mule's counter of retired
instructions counts, and nothing else changes but the sampling state if sampling runs. -/
def Obligations.register_instructions : Prop :=
  (∀ (s : State) (m : Fin 64) (t : Nat) (h : Thr) (i : MIns), s.issues m t h i → i.mn = .add →
    Runs (.mAdd m) s (fun u => s.computes u m t h i.d (h.r i.a + h.r i.b))) ∧
  (∀ (s : State) (m : Fin 64) (t : Nat) (h : Thr) (i : MIns), s.issues m t h i → i.mn = .sub →
    Runs (.mSub m) s (fun u => s.computes u m t h i.d (h.r i.a - h.r i.b))) ∧
  (∀ (s : State) (m : Fin 64) (t : Nat) (h : Thr) (i : MIns), s.issues m t h i → i.mn = .and →
    Runs (.mAnd m) s (fun u => s.computes u m t h i.d (h.r i.a &&& h.r i.b))) ∧
  (∀ (s : State) (m : Fin 64) (t : Nat) (h : Thr) (i : MIns), s.issues m t h i → i.mn = .or →
    Runs (.mOr m) s (fun u => s.computes u m t h i.d (h.r i.a ||| h.r i.b))) ∧
  (∀ (s : State) (m : Fin 64) (t : Nat) (h : Thr) (i : MIns), s.issues m t h i → i.mn = .xor →
    Runs (.mXor m) s (fun u => s.computes u m t h i.d (h.r i.a ^^^ h.r i.b))) ∧
  (∀ (s : State) (m : Fin 64) (t : Nat) (h : Thr) (i : MIns), s.issues m t h i → i.mn = .sll →
    Runs (.mSll m) s (fun u => s.computes u m t h i.d (h.r i.a <<< (h.g i.b % 64)))) ∧
  (∀ (s : State) (m : Fin 64) (t : Nat) (h : Thr) (i : MIns), s.issues m t h i → i.mn = .srl →
    Runs (.mSrl m) s (fun u => s.computes u m t h i.d (h.r i.a >>> (h.g i.b % 64)))) ∧
  (∀ (s : State) (m : Fin 64) (t : Nat) (h : Thr) (i : MIns), s.issues m t h i → i.mn = .sra →
    Runs (.mSra m) s (fun u => s.computes u m t h i.d ((h.r i.a).sshiftRight (h.g i.b % 64)))) ∧
  (∀ (s : State) (m : Fin 64) (t : Nat) (h : Thr) (i : MIns), s.issues m t h i → i.mn = .rotr →
    Runs (.mRotr m) s (fun u => s.computes u m t h i.d ((h.r i.a).rotateRight (h.g i.b % 64)))) ∧
  (∀ (s : State) (m : Fin 64) (t : Nat) (h : Thr) (i : MIns), s.issues m t h i → i.mn = .slt →
    Runs (.mSlt m) s (fun u => s.computes u m t h i.d (if (h.r i.a).slt (h.r i.b) then 1 else 0))) ∧
  (∀ (s : State) (m : Fin 64) (t : Nat) (h : Thr) (i : MIns), s.issues m t h i → i.mn = .sltu →
    Runs (.mSltu m) s (fun u => s.computes u m t h i.d (if h.r i.a < h.r i.b then 1 else 0))) ∧
  (∀ (s : State) (m : Fin 64) (t : Nat) (h : Thr) (i : MIns), s.issues m t h i → i.mn = .mul →
    Runs (.mMul m) s (fun u => s.computes u m t h i.d (h.r i.a * h.r i.b))) ∧
  (∀ (s : State) (m : Fin 64) (t : Nat) (h : Thr) (i : MIns), s.issues m t h i → i.mn = .mulhu →
    Runs (.mMulhu m) s (fun u => s.computes u m t h i.d ((((h.r i.a).zeroExtend 128 * (h.r i.b).zeroExtend 128) >>> 64).truncate 64))) ∧
  (∀ (s : State) (m : Fin 64) (t : Nat) (h : Thr) (i : MIns), s.issues m t h i → i.mn = .minu →
    Runs (.mMinu m) s (fun u => s.computes u m t h i.d (if h.r i.a < h.r i.b then h.r i.a else h.r i.b))) ∧
  (∀ (s : State) (m : Fin 64) (t : Nat) (h : Thr) (i : MIns), s.issues m t h i → i.mn = .maxu →
    Runs (.mMaxu m) s (fun u => s.computes u m t h i.d (if h.r i.a < h.r i.b then h.r i.b else h.r i.a))) ∧
  (∀ (s : State) (m : Fin 64) (t : Nat) (h : Thr) (i : MIns), s.issues m t h i → i.mn = .clz →
    Runs (.mClz m) s (fun u => s.computes u m t h i.d (BitVec.clz (h.r i.a)))) ∧
  (∀ (s : State) (m : Fin 64) (t : Nat) (h : Thr) (i : MIns), s.issues m t h i → i.mn = .popc →
    Runs (.mPopc m) s (fun u => s.computes u m t h i.d (BitVec.ofNat 64 ((List.range 64).countP (h.r i.a).getLsbD)))) ∧
  (∀ (s : State) (m : Fin 64) (t : Nat) (h : Thr) (i : MIns), s.issues m t h i → i.mn = .bswap →
    Runs (.mBswap m) s (fun u => s.computes u m t h i.d ((List.range 8).foldl (fun v k => v ||| ((h.r i.a).extractLsb' (8 * k) 8).zeroExtend 64 <<< (56 - 8 * k)) 0))) ∧
  (∀ (s : State) (m : Fin 64) (t : Nat) (h : Thr) (i : MIns), s.issues m t h i → i.mn = .crc →
    Runs (.mCrc m) s (fun u => s.computes u m t h i.d ((crcRaw ((h.r i.a).truncate 32) (leBytes 8 (h.g i.b))).zeroExtend 64))) ∧
  (∀ (s : State) (m : Fin 64) (t : Nat) (h : Thr) (i : MIns), s.issues m t h i → i.mn = .time →
    Runs (.mTime m) s (fun u => s.computes u m t h i.d (BitVec.ofNat 64 s.now)))

/-- Outside the safe state, when a Mule in service issues the instruction of its next ready thread, ADDI, LIH and SLTI take the immediate
sign-extended, ANDI, ORI and XORI zero-extended, and SHI shifts or rotates by IMM[5:0] as IMM[7:6] says. The PC advances by 4, the
instruction retires, and nothing else changes but the sampling state if sampling runs. -/
def Obligations.immediate_instructions : Prop :=
  (∀ (s : State) (m : Fin 64) (t : Nat) (h : Thr) (i : MIns), s.issues m t h i → i.mn = .addi →
    Runs (.mAddi m) s (fun u => s.computes u m t h i.d (h.r i.a + i.im))) ∧
  (∀ (s : State) (m : Fin 64) (t : Nat) (h : Thr) (i : MIns), s.issues m t h i → i.mn = .andi →
    Runs (.mAndi m) s (fun u => s.computes u m t h i.d (h.r i.a &&& BitVec.ofNat 64 i.imm))) ∧
  (∀ (s : State) (m : Fin 64) (t : Nat) (h : Thr) (i : MIns), s.issues m t h i → i.mn = .ori →
    Runs (.mOri m) s (fun u => s.computes u m t h i.d (h.r i.a ||| BitVec.ofNat 64 i.imm))) ∧
  (∀ (s : State) (m : Fin 64) (t : Nat) (h : Thr) (i : MIns), s.issues m t h i → i.mn = .xori →
    Runs (.mXori m) s (fun u => s.computes u m t h i.d (h.r i.a ^^^ BitVec.ofNat 64 i.imm))) ∧
  (∀ (s : State) (m : Fin 64) (t : Nat) (h : Thr) (i : MIns), s.issues m t h i → i.mn = .shi →
    Runs (.mShi m) s (fun u => s.computes u m t h i.d (if i.imm / 64 = 0 then h.r i.a <<< (i.imm % 64) else if i.imm / 64 = 1 then h.r i.a >>> (i.imm % 64) else
      if i.imm / 64 = 2 then (h.r i.a).sshiftRight (i.imm % 64) else (h.r i.a).rotateRight (i.imm % 64)))) ∧
  (∀ (s : State) (m : Fin 64) (t : Nat) (h : Thr) (i : MIns), s.issues m t h i → i.mn = .lih →
    Runs (.mLih m) s (fun u => s.computes u m t h i.d (i.im <<< 16))) ∧
  (∀ (s : State) (m : Fin 64) (t : Nat) (h : Thr) (i : MIns), s.issues m t h i → i.mn = .slti →
    Runs (.mSlti m) s (fun u => s.computes u m t h i.d (if (h.r i.a).slt i.im then 1 else 0)))

/-- Outside the safe state, when a Mule in service issues a load or store whose local address gA + IMM is naturally aligned, lies in a region
that permits it, and is not refused by the gate at level O: a load takes the bytes zero-extended into gD; a store writes the low bytes of gS
at that address, low byte first, and every other byte of every memory stays. The PC advances by 4 and the instruction retires. Data memory
addresses and the two windows of staging buffers read as the region table lays them out. -/
def Obligations.loads_and_stores : Prop :=
  (∀ (s : State) (m : Fin 64) (t : Nat) (h : Thr) (i : MIns), s.issues m t h i → i.mn = .ld8u → s.mayAccess t h (h.ea i) 1 false →
    Runs (.mLd8u m) s (fun u => s.computes u m t h i.d (BitVec.ofNat 64 (leNat (s.locRead t h (h.ea i) 1))))) ∧
  (∀ (s : State) (m : Fin 64) (t : Nat) (h : Thr) (i : MIns), s.issues m t h i → i.mn = .ld16u → s.mayAccess t h (h.ea i) 2 false →
    Runs (.mLd16u m) s (fun u => s.computes u m t h i.d (BitVec.ofNat 64 (leNat (s.locRead t h (h.ea i) 2))))) ∧
  (∀ (s : State) (m : Fin 64) (t : Nat) (h : Thr) (i : MIns), s.issues m t h i → i.mn = .ld32u → s.mayAccess t h (h.ea i) 4 false →
    Runs (.mLd32u m) s (fun u => s.computes u m t h i.d (BitVec.ofNat 64 (leNat (s.locRead t h (h.ea i) 4))))) ∧
  (∀ (s : State) (m : Fin 64) (t : Nat) (h : Thr) (i : MIns), s.issues m t h i → i.mn = .ld64 → s.mayAccess t h (h.ea i) 8 false →
    Runs (.mLd64 m) s (fun u => s.computes u m t h i.d (BitVec.ofNat 64 (leNat (s.locRead t h (h.ea i) 8))))) ∧
  (∀ (s : State) (m : Fin 64) (t : Nat) (h : Thr) (i : MIns), s.issues m t h i → i.mn = .st8 → s.mayAccess t h (h.ea i) 1 true →
    Runs (.mSt8 m) s (fun u => s.stores u m t h i 1)) ∧
  (∀ (s : State) (m : Fin 64) (t : Nat) (h : Thr) (i : MIns), s.issues m t h i → i.mn = .st16 → s.mayAccess t h (h.ea i) 2 true →
    Runs (.mSt16 m) s (fun u => s.stores u m t h i 2)) ∧
  (∀ (s : State) (m : Fin 64) (t : Nat) (h : Thr) (i : MIns), s.issues m t h i → i.mn = .st32 → s.mayAccess t h (h.ea i) 4 true →
    Runs (.mSt32 m) s (fun u => s.stores u m t h i 4)) ∧
  (∀ (s : State) (m : Fin 64) (t : Nat) (h : Thr) (i : MIns), s.issues m t h i → i.mn = .st64 → s.mayAccess t h (h.ea i) 8 true →
    Runs (.mSt64 m) s (fun u => s.stores u m t h i 8)) ∧
  (∀ (s : State) (t : Nat) (h : Thr) (a n : Nat), a + n ≤ 0x80000 → s.locRead t h a n = memRead s.mule.dmem (0x80000 * (t / 16) + a) n) ∧
  (∀ (s : State) (t : Nat) (h : Thr) (b a n : Nat), h.buf = some b → 0x100000 ≤ a → a + n ≤ 0x101000 → s.locRead t h a n = memRead s.mule.stg (4096 * b + (a - 0x100000)) n) ∧
  (∀ (s : State) (t : Nat) (h : Thr) (b a n : Nat), h.stepBuf = some b → 0x101000 ≤ a → a + n ≤ 0x102000 → s.locRead t h a n = memRead s.mule.stg (4096 * b + (a - 0x101000)) n)

/-- Outside the safe state, when a Mule in service issues a branch, the PC moves by 4 times the sign-extended OFF from the branch itself if gA
compares with gB as named, and by 4 otherwise. JAL and JALR write the return address into gD (g0 discards it); JAL goes to PC + 4 times OFF,
and JALR to gA + IMM as gA stood before, when that address is a multiple of 4. The instruction retires and nothing else changes but the
sampling state if sampling runs. -/
def Obligations.branches_and_jumps : Prop :=
  (∀ (s : State) (m : Fin 64) (t : Nat) (h : Thr) (i : MIns), s.issues m t h i → i.mn = .beq → Runs (.mBeq m) s (fun u =>
    s.retires u m t (h.goto (if h.r i.a = h.r i.b then BitVec.ofNat 64 h.pc + 4 * i.im else h.after)))) ∧
  (∀ (s : State) (m : Fin 64) (t : Nat) (h : Thr) (i : MIns), s.issues m t h i → i.mn = .bne → Runs (.mBne m) s (fun u =>
    s.retires u m t (h.goto (if h.r i.a ≠ h.r i.b then BitVec.ofNat 64 h.pc + 4 * i.im else h.after)))) ∧
  (∀ (s : State) (m : Fin 64) (t : Nat) (h : Thr) (i : MIns), s.issues m t h i → i.mn = .blt → Runs (.mBlt m) s (fun u =>
    s.retires u m t (h.goto (if (h.r i.a).slt (h.r i.b) = true then BitVec.ofNat 64 h.pc + 4 * i.im else h.after)))) ∧
  (∀ (s : State) (m : Fin 64) (t : Nat) (h : Thr) (i : MIns), s.issues m t h i → i.mn = .bge → Runs (.mBge m) s (fun u =>
    s.retires u m t (h.goto (if (h.r i.b).sle (h.r i.a) = true then BitVec.ofNat 64 h.pc + 4 * i.im else h.after)))) ∧
  (∀ (s : State) (m : Fin 64) (t : Nat) (h : Thr) (i : MIns), s.issues m t h i → i.mn = .bltu → Runs (.mBltu m) s (fun u =>
    s.retires u m t (h.goto (if h.r i.a < h.r i.b then BitVec.ofNat 64 h.pc + 4 * i.im else h.after)))) ∧
  (∀ (s : State) (m : Fin 64) (t : Nat) (h : Thr) (i : MIns), s.issues m t h i → i.mn = .bgeu → Runs (.mBgeu m) s (fun u =>
    s.retires u m t (h.goto (if h.r i.b ≤ h.r i.a then BitVec.ofNat 64 h.pc + 4 * i.im else h.after)))) ∧
  (∀ (s : State) (m : Fin 64) (t : Nat) (h : Thr) (i : MIns), s.issues m t h i → i.mn = .jal → Runs (.mJal m) s (fun u =>
    s.retires u m t ((h.put i.d h.after).goto (BitVec.ofNat 64 h.pc + 4 * (BitVec.ofNat 21 i.imm).signExtend 64)))) ∧
  (∀ (s : State) (m : Fin 64) (t : Nat) (h : Thr) (i : MIns), s.issues m t h i → i.mn = .jalr → h.ea i % 4 = 0 → Runs (.mJalr m) s (fun u =>
    s.retires u m t ((h.put i.d h.after).goto (h.r i.a + i.im))))

/-- Outside the safe state. An illegal word, a fetch outside the code, a misaligned fetch, load, store or jump target, an access outside the
regions, a stream outside its ranges, an instruction that the program's kind does not permit, a SPUT beyond 62 records, and the run limit
each end the invocation: the thread is free, the event and the fault counter show it, MCL_FAULT logs it if it is not valid, the descriptor
has status 0x41 (0x43 for the run limit) and RESULT as the table gives, and no memory changes. A command whose mnemonic is not that of the
instruction at the PC, or to a Mule without a ready thread, changes nothing. -/
def Obligations.mule_faults : Prop :=
  (∀ (s : State) (m : Fin 64) (t : Nat) (h : Thr) (mn : Mn) (c : Nat), s.turn m t h → s.fetch t h = .error (c, none) → Runs (muleCmd m mn) s (fun u => s.faults u m t h c 0)) ∧
  (∀ (s : State) (t : Nat) (h : Thr), h.codeSize < h.pc + 4 → s.fetch t h = .error (2, none)) ∧
  (∀ (s : State) (t : Nat) (h : Thr), h.o = false → h.pc + 4 ≤ 0x10000 → h.pc % 4 = 0 → mDecode (leNat (memRead s.mule.imem (0x20000 * (t / 4) + h.pc) 4)) = none →
    s.fetch t h = .error (1, none)) ∧
  (∀ (s : State) (m : Fin 64) (t : Nat) (h : Thr) (i : MIns), s.issues m t h i → i.mn ∈ [.ld8u, .ld16u, .ld32u, .ld64, .st8, .st16, .st32, .st64] → h.ea i % mSize i.mn ≠ 0 →
    Runs (muleCmd m i.mn) s (fun u => s.faults u m t h 3 (h.ea i))) ∧
  (∀ (s : State) (m : Fin 64) (t : Nat) (h : Thr) (i : MIns), s.issues m t h i → i.mn ∈ [.ld8u, .ld16u, .ld32u, .ld64] → h.ea i % mSize i.mn = 0 → s.localOk t h (h.ea i) (mSize i.mn) false = false →
    Runs (muleCmd m i.mn) s (fun u => s.faults u m t h 4 (h.ea i))) ∧
  (∀ (s : State) (m : Fin 64) (t : Nat) (h : Thr) (i : MIns), s.issues m t h i → i.mn ∈ [.st8, .st16, .st32, .st64] → h.ea i % mSize i.mn = 0 → s.localOk t h (h.ea i) (mSize i.mn) true = false →
    Runs (muleCmd m i.mn) s (fun u => s.faults u m t h 4 (h.ea i))) ∧
  (∀ (s : State) (m : Fin 64) (t : Nat) (h : Thr) (i : MIns), s.issues m t h i → i.mn = .jalr → h.ea i % 4 ≠ 0 → Runs (.mJalr m) s (fun u => s.faults u m t h 3 0)) ∧
  (∀ (s : State) (m : Fin 64) (t : Nat) (h : Thr) (i : MIns), s.issues m t h i → i.mn ∈ [.srdS, .srdD] → (s.dm.acc.look h.idx).isSome = true → h.g i.b = 0 ∨ 4096 < h.g i.b ∨ dLen (s.descOf h.idx) < h.g i.a + h.g i.b ∨
    s.localOk t h (h.g i.d) (h.g i.b) true = false → Runs (muleCmd m i.mn) s (fun u => s.faults u m t h 5 (h.g i.a))) ∧
  (∀ (s : State) (m : Fin 64) (t : Nat) (h : Thr) (i : MIns), s.issues m t h i → i.mn = .swrD → (s.dm.acc.look h.idx).isSome = true → h.o = true → s.progIdem (s.descOf h.idx) = false → Runs (.mSwrD m) s (fun u => s.faults u m t h 6 0)) ∧
  (∀ (s : State) (m : Fin 64) (t : Nat) (h : Thr) (i : MIns), s.issues m t h i → i.mn = .sput ∨ i.mn = .step → h.o = false ∨ s.progIdem (s.descOf h.idx) = true → Runs (muleCmd m i.mn) s (fun u => s.faults u m t h 6 0)) ∧
  (∀ (s : State) (m : Fin 64) (t : Nat) (h : Thr) (i : MIns), s.issues m t h i → i.mn = .sput → 62 ≤ h.sputs.length → Runs (.mSput m) s (fun u => s.faults u m t h 6 0)) ∧
  (∀ (s : State) (t : Fin 256) (h : Thr), s.sealed = false → s.thr t.val = some h → h.o = true → h.t0 + s.get F.DMG_PROG_RUN_LIMIT [h.slot] * 1000 < s.now → h.step = none →
    Runs (.runLimitExceeded t) s (fun u => s.faults u ⟨t.val / 4, by omega⟩ t.val h 7 0)) ∧
  (∀ (s : State) (t : Fin 256) (h : Thr), s.sealed = false → s.thr t.val = some h → h.o = false ∨ s.now ≤ h.t0 + s.get F.DMG_PROG_RUN_LIMIT [h.slot] * 1000 ∨
    h.step.isSome = true ∧ s.settledX h.idx = true ∧ (s.led h.idx).ni = 1 → Runs (.runLimitExceeded t) s (fun u => u = s)) ∧
  (∀ (s : State) (m : Fin 64) (t : Nat) (h : Thr) (mn : Mn) (i : MIns), s.issues m t h i → i.mn ≠ mn → Runs (muleCmd m mn) s (fun u => u = s)) ∧
  (∀ (s : State) (m : Fin 64) (mn : Mn), s.sealed = false → s.muleIn m.val = false ∨ s.nextThr m.val = none → Runs (muleCmd m mn) s (fun u => u = s))

/-- Outside the safe state. SRD.S and SRD.D within their ranges issue the reads of the source or destination offset, split at
Max_Read_Request_Size, and the thread goes on; SWR.D issues the writes split at Max_Payload_Size, where the program is idempotent; SPUT
records a step write, where it is not; with 64 requests outstanding a stream instruction waits. SWAIT goes on at once without streams and
else waits, until the last one ends. A landed read puts its bytes at its local address, first byte lowest, and no other byte changes; a
released write leaves the list; a failure ends the invocation with its status and the offset. -/
def Obligations.stream_instructions : Prop :=
  (∀ (s : State) (m : Fin 64) (t : Nat) (h : Thr) (i : MIns) (a : Acpt), s.issues m t h i → i.mn = .srdS → s.dm.acc.look h.idx = some a → streamRangeOk a.d (h.g i.a) (h.g i.b) = true →
    s.localOk t h (h.g i.d) (h.g i.b) true = true → s.thrGate t h 1 (h.g i.d) (h.g i.b) = none → s.streamOut m.val < 64 →
    Runs (.mSrdS m) s (fun u =>
      (s.sends (hostReads a.src.fn (128 <<< min 5 (s.cf (.dmf a.src.fn) .mrrs)) (a.src.base + (dSrc a.d + h.g i.a)) (h.g i.b) (s.qpTc (s.led h.idx).inst (s.led h.idx).qp)
        (dFlag a.d 3))).retires u m t { h.goto h.after with reads := h.reads ++ [{ dst := false, off := h.g i.a, len := h.g i.b, loc := h.g i.d }] })) ∧
  (∀ (s : State) (m : Fin 64) (t : Nat) (h : Thr) (i : MIns) (a : Acpt), s.issues m t h i → i.mn = .srdD → s.dm.acc.look h.idx = some a → streamRangeOk a.d (h.g i.a) (h.g i.b) = true →
    s.localOk t h (h.g i.d) (h.g i.b) true = true → s.thrGate t h 1 (h.g i.d) (h.g i.b) = none → s.streamOut m.val < 64 →
    Runs (.mSrdD m) s (fun u =>
      (s.sends (hostReads a.dst.fn (128 <<< min 5 (s.cf (.dmf a.dst.fn) .mrrs)) (a.dst.base + (dDst a.d + h.g i.a)) (h.g i.b) (s.qpTc (s.led h.idx).inst (s.led h.idx).qp)
        (dFlag a.d 3))).retires u m t { h.goto h.after with reads := h.reads ++ [{ dst := true, off := h.g i.a, len := h.g i.b, loc := h.g i.d }] })) ∧
  (∀ (s : State) (m : Fin 64) (t : Nat) (h : Thr) (i : MIns), s.issues m t h i → i.mn ∈ [.srdS, .srdD, .swrD] → (s.dm.acc.look h.idx).isSome = true → streamRangeOk (s.descOf h.idx) (h.g i.a) (h.g i.b) = true →
    s.localOk t h (h.g i.d) (h.g i.b) (decide (i.mn ≠ .swrD)) = true → s.thrGate t h (if i.mn = .swrD then 0 else 1) (h.g i.d) (h.g i.b) = none → 64 ≤ s.streamOut m.val →
    (i.mn = .swrD → h.o = true → s.progIdem (s.descOf h.idx) = true) →
    Runs (muleCmd m i.mn) s (fun u => u = { s with mule := { s.mule with last := s.mule.last.put m.val (t % 4) } })) ∧
  (∀ (s : State) (m : Fin 64) (t : Nat) (h : Thr) (i : MIns) (a : Acpt), s.issues m t h i → i.mn = .swrD → s.dm.acc.look h.idx = some a → (h.o = true → s.progIdem a.d = true) → streamRangeOk a.d (h.g i.a) (h.g i.b) = true →
    s.localOk t h (h.g i.d) (h.g i.b) false = true → s.thrGate t h 0 (h.g i.d) (h.g i.b) = none → s.streamOut m.val < 64 →
    Runs (.mSwrD m) s (fun u =>
      s.sent ++ hostWrites a.dst.fn (128 <<< min 5 (s.cf (.dmf a.dst.fn) .mps)) (a.dst.base + (dDst a.d + h.g i.a)) (s.locRead t h (h.g i.d) (h.g i.b))
        (s.qpTc (s.led h.idx).inst (s.led h.idx).qp) (dFlag a.d 3) (dFlag a.d 4) <+: u.sent ∧
      u.thr t = some { h.goto h.after with writes := h.writes ++ [(h.g i.a, h.g i.b)] } ∧ s.counts u ⟨.MCL_CNT, [m.val / 4, m.val % 4, 0]⟩ ∧
      s.counts u ⟨.MCL_CNT, [m.val / 4, m.val % 4, 3]⟩ (h.g i.b) ∧ u.mule = { s.mule with thr := u.mule.thr, last := u.mule.last } ∧ u.cfg = s.cfg)) ∧
  (∀ (s : State) (m : Fin 64) (t : Nat) (h : Thr) (i : MIns), s.issues m t h i → i.mn = .sput → h.o = true → s.progIdem (s.descOf h.idx) = false → h.sputs.length < 62 → streamRangeOk (s.descOf h.idx) (h.g i.a) (h.g i.b) = true →
    0x101000 ≤ h.g i.d → h.g i.d + h.g i.b ≤ 0x101E00 →
    Runs (.mSput m) s (fun u => s.retires u m t { h.goto h.after with sputs := h.sputs ++ [(h.g i.d - 0x101000, h.g i.b, h.g i.a)] })) ∧
  (∀ (s : State) (m : Fin 64) (t : Nat) (h : Thr) (i : MIns), s.issues m t h i → i.mn = .swait → h.reads = [] → h.writes = [] → Runs (.mSwait m) s (fun u => s.retires u m t (h.goto h.after))) ∧
  (∀ (s : State) (m : Fin 64) (t : Nat) (h : Thr) (i : MIns), s.issues m t h i → i.mn = .swait → h.reads ≠ [] ∨ h.writes ≠ [] → Runs (.mSwait m) s (fun u =>
      u.thr t = some { h.goto h.after with waiting := true, fin := none } ∧ u.get F.MCL_THR_STATE [t / 16, t % 16] = 2 ∧
      u.mule = { s.mule with thr := u.mule.thr, last := u.mule.last })) ∧
  (∀ (s : State) (t : Fin 256) (h : Thr) (n : Nat) (r : SRead) (got : List Byte), s.sealed = false → s.thr t.val = some h → h.reads[n]? = some r →
    h.waiting = false → h.step = none →
    Runs (.mStreamLanded t false n got 0) s (fun u =>
      u.thr t.val = some { h with reads := h.reads.eraseIdx n } ∧
      s.fills u (h.locOf t.val r.loc) (padTo r.len got) ∧
      s.counts u ⟨.MCL_CNT, [t.val / 16, t.val / 4 % 4, 2]⟩ r.len ∧ u.mule.imem = s.mule.imem)) ∧
  (∀ (s : State) (t : Fin 256) (h : Thr) (n : Nat) (w : Nat × Nat) (got : List Byte), s.sealed = false → s.thr t.val = some h → h.writes[n]? = some w →
    h.waiting = false → h.step = none →
    Runs (.mStreamLanded t true n got 0) s (fun u => u.thr t.val = some { h with writes := h.writes.eraseIdx n } ∧ u.mule = { s.mule with thr := u.mule.thr })) ∧
  (∀ (s : State) (t : Fin 256) (h : Thr) (w : Nat × Nat) (got : List Byte), s.sealed = false → s.thr t.val = some h → h.writes = [w] → h.reads = [] →
    h.waiting = true → h.fin = none → h.step = none →
    Runs (.mStreamLanded t true 0 got 0) s (fun u => u.thr t.val = some { h with writes := [], waiting := false } ∧ u.get F.MCL_THR_STATE [t.val / 16, t.val % 16] = 1)) ∧
  (∀ (s : State) (t : Fin 256) (h : Thr) (n : Nat) (r : SRead) (got : List Byte) (err : Fin 256), s.sealed = false → s.thr t.val = some h → h.reads[n]? = some r → err.val ≠ 0 →
    (s.led h.idx).state = 2 → (s.led h.idx).status = 0 →
    Runs (.mStreamLanded t false n got err) s (fun u => u.thr t.val = none ∧ (u.led h.idx).status = err.val ∧ (u.led h.idx).result = r.off ∧
      u.mule = { s.mule with thr := u.mule.thr }))

/-- Outside the safe state. A STEP that the quota and the ledger permit writes the header with the checkpoint and the records behind the step
buffer's data, copies the whole buffer to a mirror in a slice of another row group, and writes NI = 1 and both buffers into the entry; else
it waits. When both copies hold that, the writes of the records are issued in order; when the last is released, RESULT = checkpoint and NI =
2 are written; when both copies hold that, the mirror is free and the thread goes on. END of a whole program closes the descriptor with
RESULT gA, ABORT with status 0x42 and RESULT gA; with streams outstanding both wait first. -/
def Obligations.steps_and_ends : Prop :=
  (∀ (s : State) (m : Fin 64) (t : Nat) (h : Thr) (i : MIns) (b mb : Nat) (s1 : State), s.issues m t h i → i.mn = .step → h.o = true → s.progIdem (s.descOf h.idx) = false → s.stagingShare h.inst = true → s.settledX h.idx = true →
    h.stepBuf = some b → s.takeBuf h.inst (fun k => decide (k / 4 ≠ b / 1024 / 4)) = some (mb, s1) →
    Runs (.mStep m) s (fun u =>
      mb / 1024 / 4 ≠ b / 1024 / 4 ∧ u.thr t = some { h.goto h.after with mirror := some mb, step := some (h.g i.a) } ∧ u.get F.MCL_THR_STATE [t / 16, t % 16] = 3 ∧
      memRead u.mule.stg (4096 * b + 0xE00) 512 = stepBytes (h.g i.a) h.sputs ∧ memRead u.mule.stg (4096 * b) 0xE00 = memRead s.mule.stg (4096 * b) 0xE00 ∧
      memRead u.mule.stg (4096 * mb) 4096 = memRead u.mule.stg (4096 * b) 4096 ∧ u.led h.idx = { s.led h.idx with ni := 1, cwin := b + 2 ^ 14 * mb } ∧
      h.idx ∈ u.dm.pend ∧ u.dm.bufs.look mb = some h.inst ∧ u.mule.dmem = s.mule.dmem ∧ u.mule.imem = s.mule.imem ∧ u.sent = s.sent)) ∧
  (∀ (s : State) (m : Fin 64) (t : Nat) (h : Thr) (i : MIns), s.issues m t h i → i.mn = .step → h.o = true → s.progIdem (s.descOf h.idx) = false → s.stagingShare h.inst = false ∨ s.settledX h.idx = false →
    Runs (.mStep m) s (fun u => u = { s with mule := { s.mule with last := s.mule.last.put m.val (t % 4) } })) ∧
  (∀ (s : State) (x : Fin 262144) (e : LedE) (k : Chk) (h : Thr) (a : Acpt), s.sealed = false → s.dm.mv = [] → s.dm.even.look x.val = some e → x.val ∈ s.dm.pend → e.kind = 0 → e.state = 2 →
    (s.qps e.inst e.qp).offer ≠ some x.val → s.dm.flr = [] → s.chunksOf x.val = [k] → s.thr k.thr = some h → h.idx = x.val → s.dm.acc.look x.val = some a → s.dm.todo.look x.val = some 4 → h.sputs ≠ [] →
    Runs (.ledgerWriteAck x .clean) s (fun u => u.thr k.thr = some { h with writes := h.sputs.map (fun r => (r.2.2, r.2.1)) } ∧ u.dm.odd.look x.val = some e ∧
      (match h.sputs with
        | r :: _ => s.sent ++ hostWrites a.dst.fn (128 <<< min 5 (s.cf (.dmf a.dst.fn) .mps)) (a.dst.base + (dDst a.d + r.2.2)) (memRead s.mule.stg (4096 * h.stepBuf.getD 0 + r.1) r.2.1)
          (s.qpTc e.inst e.qp) (dFlag a.d 3) (dFlag a.d 4) <+: u.sent
        | [] => True))) ∧
  (∀ (s : State) (x : Fin 262144) (e : LedE) (k : Chk) (h : Thr) (a : Acpt), s.sealed = false → s.dm.mv = [] → s.dm.even.look x.val = some e → x.val ∈ s.dm.pend → e.kind = 0 → e.state = 2 →
    (s.qps e.inst e.qp).offer ≠ some x.val → s.dm.flr = [] → s.chunksOf x.val = [k] → s.thr k.thr = some h → h.idx = x.val → s.dm.acc.look x.val = some a → s.dm.todo.look x.val = some 4 → h.sputs = [] → h.step = some e.seq →
    Runs (.ledgerWriteAck x .clean) s (fun u => u.led x.val = { e with result := e.seq, ni := 2 } ∧ x.val ∈ u.dm.pend)) ∧
  (∀ (s : State) (x : Fin 262144) (e : LedE) (k : Chk) (h : Thr) (a : Acpt) (mb : Nat), s.sealed = false → s.dm.mv = [] → s.dm.even.look x.val = some e → x.val ∈ s.dm.pend → e.kind = 0 → e.state = 2 →
    (s.qps e.inst e.qp).offer ≠ some x.val → s.dm.flr = [] → s.chunksOf x.val = [k] → s.thr k.thr = some h → h.idx = x.val → s.dm.acc.look x.val = some a → s.dm.todo.look x.val = some 5 → h.mirror = some mb → h.again = false →
    Runs (.ledgerWriteAck x .clean) s (fun u => u.thr k.thr = some { h with mirror := none, sputs := [], step := none } ∧
      u.get F.MCL_THR_STATE [k.thr / 16, k.thr % 16] = 1 ∧ u.dm.bufs.look mb = none)) ∧
  (∀ (s : State) (t : Fin 256) (h : Thr) (w : Nat × Nat) (ck : Nat) (got : List Byte), s.sealed = false → s.thr t.val = some h → h.writes = [w] → h.reads = [] → h.step = some ck →
    Runs (.mStreamLanded t true 0 got 0) s (fun u => u.led h.idx = { s.led h.idx with result := ck, ni := 2 } ∧ h.idx ∈ u.dm.pend ∧ u.thr t.val = some { h with writes := [] })) ∧
  (∀ (s : State) (m : Fin 64) (t : Nat) (h : Thr) (i : MIns) (e : LedE), s.issues m t h i → i.mn = .end_ → h.reads = [] → h.writes = [] → s.led h.idx = e → e.state = 2 → e.status = 0 → e.cdone = 0 → h.c = 0 → s.nChunks (s.descOf h.idx) = 1 →
    dOp (s.descOf h.idx) = 0xA →
    Runs (.mEnd m) s (fun u => u.thr t = none ∧ (u.led h.idx).state = 3 ∧ (u.led h.idx).status = 0 ∧ (u.led h.idx).result = h.g i.a ∧ (u.led h.idx).cdone = 1 ∧ h.idx ∈ u.dm.pend ∧
      (u.get F.MCL_STAT_THR_BUSY [t / 16]).testBit (t % 16) = false ∧ s.counts u ⟨.MCL_CNT, [m.val / 4, m.val % 4, 4]⟩ ∧ s.counts u ⟨.MCL_CNT, [m.val / 4, m.val % 4, 0]⟩ ∧
      u.mule.dmem = s.mule.dmem ∧ u.mule.imem = s.mule.imem ∧ u.mule.stg = s.mule.stg ∧ u.sent = s.sent)) ∧
  (∀ (s : State) (m : Fin 64) (t : Nat) (h : Thr) (i : MIns) (e : LedE), s.issues m t h i → i.mn = .abort → h.reads = [] → h.writes = [] → s.led h.idx = e → e.state = 2 → e.status = 0 →
    Runs (.mAbort m) s (fun u => u.thr t = none ∧ (u.led h.idx).status = 0x42 ∧ (u.led h.idx).result = h.g i.a ∧ h.idx ∈ u.dm.pend ∧
      (u.get F.MCL_STAT_THR_BUSY [t / 16]).testBit (t % 16) = false ∧ s.counts u ⟨.MCL_CNT, [m.val / 4, m.val % 4, 0]⟩ ∧
      u.mule.dmem = s.mule.dmem ∧ u.mule.imem = s.mule.imem ∧ u.mule.stg = s.mule.stg ∧ u.sent = s.sent)) ∧
  (∀ (s : State) (m : Fin 64) (t : Nat) (h : Thr) (i : MIns), s.issues m t h i → i.mn ∈ [.end_, .abort] → h.reads ≠ [] ∨ h.writes ≠ [] → Runs (muleCmd m i.mn) s (fun u =>
      u.thr t = some { h.goto h.after with waiting := true, fin := some (if i.mn = .abort then 1 else 0, h.g i.a) } ∧ u.get F.MCL_THR_STATE [t / 16, t % 16] = 2 ∧ u.dm = s.dm))

/-- Outside the safe state. An uncorrectable error in a Mule's memory fails that Mule, one in data memory or an ISOLATE fails the cluster. A
firmware update takes the next cluster, unless a failure is being handled; once it is empty it holds the image's code in each Mule and its
data, reports version and SVN and is in service again, or it stays out with FW_FAIL and the update stops; 20 µs after the start the chunks
in progress become unassigned, not before. A permitted access of MCL_MEM_DATA reads or writes the 8 bytes at MCL_MEM_ADDR, low byte first,
and no other byte, and the address advances by 8 modulo 2^20; a write into instruction memory below level V is refused. That data memory
errors show at the cluster's first Mule is the model's choice. -/
def Obligations.clusters_and_their_memories : Prop :=
  (∀ (s : State) (k : Fin 16) (j : Fin 4), s.sealed = false → s.isFailed 2 (4 * k.val + j.val) = false →
    Runs (.muleMemoryUe k (some j)) s (fun u => s.raises u (.mule (4 * k.val + j.val)) 3 ∧ (2, 4 * k.val + j.val) ∈ u.flt.failed ∧ u.muleIn (4 * k.val + j.val) = false ∧
      u.get F.MCL_STAT_STATE [k.val] = s.get F.MCL_STAT_STATE [k.val])) ∧
  (∀ (s : State) (k : Fin 16), s.sealed = false → s.isFailed 3 k.val = false →
    Runs (.muleMemoryUe k none) s (fun u => s.raises u (.mule (4 * k.val)) 3 ∧ (3, k.val) ∈ u.flt.failed ∧ u.get F.MCL_STAT_STATE [k.val] = 2)) ∧
  (∀ (s : State) (who : Init) (k : Fin 16), s.granted who true ⟨.MCL_CTL, [k.val]⟩ 4 → s.on F.MCL_CTL_ISOLATE [k.val] = false → s.isFailed 3 k.val = false →
    Runs (.clusterIsolate who k) s (fun u => u.on F.MCL_CTL_ISOLATE [k.val] = true ∧ (3, k.val) ∈ u.flt.failed ∧ u.get F.MCL_STAT_STATE [k.val] = 2)) ∧
  (∀ (s : State) (who : Init) (k : Fin 16), s.granted who true ⟨.MCL_CTL, [k.val]⟩ 4 → s.on F.MCL_CTL_ISOLATE [k.val] = true →
    Runs (.clusterIsolate who k) s (fun u => u.regs = s.regs ∧ u.flt = s.flt ∧ u.mule = s.mule)) ∧
  (∀ (s : State) (k : Fin 16) (img : List Byte) (l : List Nat) (ok : Bool), s.sealed = false → s.mule.fw = some img → s.mule.updating = none → s.mule.updQueue = k.val :: l →
    s.on F.GSV_DEG_BUSY [] = false → s.get F.GSV_DEG_QUEUED [] = 0 → s.get F.MCL_STAT_STATE [k.val] = 0 →
    Runs (.muleFirmwareUpdate k ok) s (fun u => u.get F.MCL_STAT_STATE [k.val] = 1 ∧ u.mule.updating = some (k.val, s.now) ∧ s.only { u with mule := s.mule } [⟨.MCL_STAT, [k.val]⟩] [])) ∧
  (∀ (s : State) (k : Fin 16) (img : List Byte) (l : List Nat) (ok : Bool), s.sealed = false → s.mule.fw = some img → s.mule.updating = none → s.mule.updQueue = k.val :: l →
    s.on F.GSV_DEG_BUSY [] = true ∨ s.get F.GSV_DEG_QUEUED [] ≠ 0 → Runs (.muleFirmwareUpdate k ok) s (fun u => u = s)) ∧
  (∀ (s : State) (k : Fin 16) (img : List Byte) (t : Nat) (x y : Nat) (l : List Nat), s.sealed = false → s.mule.fw = some img → s.mule.updating = some (k.val, t) → s.mule.updQueue = x :: y :: l → s.mcEmpty k.val = true →
    (∀ p < 4, s.get F.DMG_PROG_STATE [p] ≠ 2) → 64 ≤ img.length → 64 + leAt img 8 4 + leAt img 12 4 ≤ img.length → leAt img 8 4 ≤ 0x10000 → leAt img 12 4 ≤ 0x40000 →
    Runs (.muleFirmwareUpdate k true) s (fun u => u.get F.MCL_STAT_STATE [k.val] = 0 ∧ u.get F.MCL_FW_VERSION [k.val] = leAt img 28 4 ∧ u.get F.MCL_FW_SVN [k.val] = leAt img 32 4 ∧
      u.mule.updating = none ∧ u.mule.updQueue = y :: l ∧ u.mule.fw = some img ∧
      (∀ j < 4, memRead u.mule.imem (0x20000 * (4 * k.val + j)) (leAt img 8 4) = (img.drop 64).take (leAt img 8 4)) ∧
      memRead u.mule.dmem (0x80000 * k.val) (leAt img 12 4) = (img.drop (64 + leAt img 8 4)).take (leAt img 12 4))) ∧
  (∀ (s : State) (k : Fin 16) (img : List Byte) (t : Nat) (q : List Nat), s.sealed = false → s.mule.fw = some img → s.mule.updating = some (k.val, t) → s.mule.updQueue = q → s.mcEmpty k.val = true →
    Runs (.muleFirmwareUpdate k false) s (fun u => u.get F.MCL_STAT_STATE [k.val] = 2 ∧ u.get F.MCL_STAT_FW_FAIL [k.val] = 1 ∧ u.mule = { s.mule with updating := none, updQueue := [], fw := none } ∧
      s.only { u with mule := s.mule } [⟨.MCL_STAT, [k.val]⟩] [])) ∧
  (∀ (s : State) (k : Fin 16) (t : Nat), s.sealed = false → s.mule.updating = some (k.val, t) → t + 20000 ≤ s.now → s.dm.mv = [] → (∀ x ∈ s.ledKeys, ∀ c ∈ s.chunksOf x, c.thr / 16 = k.val) → s.ledKeys ≠ [] →
    (∀ x ∈ s.ledKeys, (s.led x).state = 2) →
    Runs (.clusterDrainTimeout k) s (fun u => ∀ x ∈ s.ledKeys, u.chunksOf x = [])) ∧
  (∀ (s : State) (k : Fin 16) (t : Nat), s.sealed = false → s.mule.updating = some (k.val, t) → s.now < t + 20000 → Runs (.clusterDrainTimeout k) s (fun u => u = s)) ∧
  (∀ (s : State) (who : Init) (k : Fin 16) (v : W64) (a : Nat), s.granted who true ⟨.MCL_MEM_DATA, [k.val]⟩ 8 → s.memWord k.val = some (true, a) → s.get F.MCL_MEM_ADDR_ADDR [k.val] % 8 = 0 → s.levelOf who = .v →
    Runs (.mclMemDataAccess who k true v) s (fun u => stored s.mule.imem u.mule.imem a (leBytes 8 v.toNat) ∧ u.mule = { s.mule with imem := u.mule.imem } ∧
      u.get F.MCL_MEM_ADDR_ADDR [k.val] = (s.get F.MCL_MEM_ADDR_ADDR [k.val] + 8) % 2 ^ 20)) ∧
  (∀ (s : State) (who : Init) (k : Fin 16) (v : W64) (a : Nat), s.granted who false ⟨.MCL_MEM_DATA, [k.val]⟩ 8 → s.memWord k.val = some (true, a) → s.get F.MCL_MEM_ADDR_ADDR [k.val] % 8 = 0 →
    Runs (.mclMemDataAccess who k false v) s (fun u => u.rd ⟨.MCL_MEM_DATA, [k.val]⟩ = BitVec.ofNat 64 (leNat (memRead s.mule.imem a 8)) ∧ u.mule = s.mule ∧
      u.get F.MCL_MEM_ADDR_ADDR [k.val] = (s.get F.MCL_MEM_ADDR_ADDR [k.val] + 8) % 2 ^ 20)) ∧
  (∀ (s : State) (who : Init) (k : Fin 16) (v : W64) (a : Nat), s.granted who true ⟨.MCL_MEM_DATA, [k.val]⟩ 8 → s.memWord k.val = some (false, a) → s.get F.MCL_MEM_ADDR_ADDR [k.val] % 8 = 0 →
    Runs (.mclMemDataAccess who k true v) s (fun u => stored s.mule.dmem u.mule.dmem a (leBytes 8 v.toNat) ∧ u.mule = { s.mule with dmem := u.mule.dmem } ∧
      u.get F.MCL_MEM_ADDR_ADDR [k.val] = (s.get F.MCL_MEM_ADDR_ADDR [k.val] + 8) % 2 ^ 20)) ∧
  (∀ (s : State) (who : Init) (k : Fin 16) (v : W64) (a : Nat), s.granted who false ⟨.MCL_MEM_DATA, [k.val]⟩ 8 → s.memWord k.val = some (false, a) → s.get F.MCL_MEM_ADDR_ADDR [k.val] % 8 = 0 →
    Runs (.mclMemDataAccess who k false v) s (fun u => u.rd ⟨.MCL_MEM_DATA, [k.val]⟩ = BitVec.ofNat 64 (leNat (memRead s.mule.dmem a 8)) ∧ u.mule = s.mule ∧
      u.get F.MCL_MEM_ADDR_ADDR [k.val] = (s.get F.MCL_MEM_ADDR_ADDR [k.val] + 8) % 2 ^ 20)) ∧
  (∀ (s : State) (who : Init) (k : Fin 16) (v : W64), s.granted who true ⟨.MCL_MEM_DATA, [k.val]⟩ 8 → s.on F.MCL_MEM_ADDR_IMEM [k.val] = true → s.levelOf who = .o ∨ s.levelOf who = .t →
    Runs (.mclMemDataAccess who k true v) s (fun u => u.mule = s.mule ∧ s.raises u .sec 0 ∧ u.get F.MCL_MEM_ADDR_ADDR [k.val] = s.get F.MCL_MEM_ADDR_ADDR [k.val]))

/-- Outside the safe state, a parity mismatch, a supply below or above its trip, over-temperature, the loss of every timebase, and a
disagreement of the Goose copies each seal the device with the cause and detail of the table: CAUSE, DETAIL and TIME in us stand in
GSV_SEAL, SAFE, FAULT_N and SAFE_N are asserted, the journal's newest entry is the Goose's with GSV_SEAL, and nothing else changes (a
supply's bit in SUP_OK apart). A scan that finds no mismatch changes nothing. In the safe state a further cause sets MORE within 10 us of
entry and is otherwise ignored. -/
def Obligations.sealed_causes : Prop :=
  (∀ (s : State) (slot : Fin 256), s.sealed = false → Runs (.errorRegisterScan (some slot)) s (fun u => s.seals u 1 slot.val ∧ u.get F.GSV_STAT_SUP_OK [] = s.get F.GSV_STAT_SUP_OK [])) ∧
  (∀ (s : State), s.sealed = false → Runs (.errorRegisterScan none) s (fun u => u = s)) ∧
  (∀ (s : State) (rail : Fin 5), s.sealed = false → Runs (.underVoltage rail) s (fun u => s.seals u 2 rail.val ∧
    ∀ k < 5, (u.get F.GSV_STAT_SUP_OK []).testBit k = ((s.get F.GSV_STAT_SUP_OK []).testBit k && k != rail.val))) ∧
  (∀ (s : State) (rail : Fin 5), s.sealed = false → Runs (.overVoltage rail) s (fun u => s.seals u 3 rail.val ∧
    ∀ k < 5, (u.get F.GSV_STAT_SUP_OK []).testBit k = ((s.get F.GSV_STAT_SUP_OK []).testBit k && k != rail.val))) ∧
  (∀ (s : State) (sensor : Fin 16), s.sealed = false → Runs (.overTemperature sensor) s (fun u => s.seals u 4 sensor.val)) ∧
  (∀ (s : State), s.sealed = false → Runs .allTimebasesLost s (fun u => s.seals u 5 0)) ∧
  (∀ (s : State), s.sealed = false → Runs .gooseMismatch s (fun u => s.seals u 7 0)) ∧
  (∀ (s : State) (slot : Fin 256), s.sealed = true → Runs (.errorRegisterScan (some slot)) s (fun u => s.sealedMore u)) ∧
  (∀ (s : State) (rail : Fin 5), s.sealed = true → Runs (.underVoltage rail) s (fun u => s.sealedMore u)) ∧
  (∀ (s : State) (rail : Fin 5), s.sealed = true → Runs (.overVoltage rail) s (fun u => s.sealedMore u)) ∧
  (∀ (s : State) (sensor : Fin 16), s.sealed = true → Runs (.overTemperature sensor) s (fun u => s.sealedMore u)) ∧
  (∀ (s : State), s.sealed = true → Runs .allTimebasesLost s (fun u => s.sealedMore u)) ∧
  (∀ (s : State), s.sealed = true → Runs .gooseMismatch s (fun u => s.sealedMore u))

/-- Outside the safe state. A permitted write of ERR_STAT clears the bits written 1 and one of ERR_MASK takes the value in the bits that the
triple has; ERR_INT is ERR_STAT and not ERR_MASK, and nothing else changes but messages. A counted event advances LK_TOTAL, and COUNT while
it is below THRESHOLD; at THRESHOLD a Mule, cluster or staging slice is lasting and declared failed; with THRESHOLD 0, or once lasting, it
only counts. A leak tick that is due takes 1 from a COUNT above 0 that is not lasting; LK_CFG sets COUNT to 0 and restarts the schedule. A
handling takes the first declaration; its end advances DONE, OUT for a part that stays out, raises DEG_DONE and clears BUSY when none waits.
A reading below 110 °C changes nothing but the reading. A beat is recorded; one core silent for 10 ms is reset and declared, all of them
start a restart, or after three within 10 s MGMT_DOWN. -/
def Obligations.triples_leaky_counters_and_degraded_handling : Prop :=
  (∀ (s : State) (who : Init) (x : Trip) (v : W32), s.granted who true x.stat 4 →
    Runs (.errStatWrite who x v) s (fun u => u.rd x.stat = s.rd x.stat &&& ~~~(v.zeroExtend 64) ∧ u.rd x.int = u.rd x.stat &&& ~~~(s.rd x.mask) ∧ s.only u [] [x])) ∧
  (∀ (s : State) (who : Init) (x : Trip) (v : W32), s.granted who true x.mask 4 →
    Runs (.errMaskWrite who x v) s (fun u => (∀ f ∈ x.mask.n.fields, fget (u.rd x.mask) f.lo f.w = fget (v.zeroExtend 64) f.lo f.w) ∧ u.rd x.int = s.rd x.stat &&& ~~~(u.rd x.mask) ∧ u.rd x.stat = s.rd x.stat ∧
      s.only u [x.mask] [x])) ∧
  (∀ (s : State) (blk : Fin 5) (n : Fin 96) (k : Fin 6) (e : Fin 16384), s.sealed = false → leakUnit blk.val n.val k.val = true →
    s.get F.LK_STAT_COUNT [blk.val, n.val, k.val] + 1 < s.get F.LK_CFG_THRESHOLD [blk.val, n.val, k.val] →
    Runs (.leakyCount blk n k e) s (fun u =>
      u.get F.LK_STAT_COUNT [blk.val, n.val, k.val] = s.get F.LK_STAT_COUNT [blk.val, n.val, k.val] + 1 ∧
      u.get F.LK_STAT_LASTING [blk.val, n.val, k.val] = s.get F.LK_STAT_LASTING [blk.val, n.val, k.val] ∧ s.counts u ⟨.LK_TOTAL, [blk.val, n.val, k.val]⟩ ∧
      { u with regs := s.regs, sent := s.sent, msiWait := s.msiWait } = s)) ∧
  (∀ (s : State) (blk : Fin 5) (n : Fin 96) (k : Fin 6) (e : Fin 16384), s.sealed = false → leakUnit blk.val n.val k.val = true →
    s.get F.LK_CFG_THRESHOLD [blk.val, n.val, k.val] = 0 ∨ s.on F.LK_STAT_LASTING [blk.val, n.val, k.val] = true →
    Runs (.leakyCount blk n k e) s (fun u =>
      u.get F.LK_STAT_COUNT [blk.val, n.val, k.val] = (if s.get F.LK_STAT_COUNT [blk.val, n.val, k.val] < s.get F.LK_CFG_THRESHOLD [blk.val, n.val, k.val]
        then s.get F.LK_STAT_COUNT [blk.val, n.val, k.val] + 1 else s.get F.LK_STAT_COUNT [blk.val, n.val, k.val]) ∧
      u.get F.LK_STAT_LASTING [blk.val, n.val, k.val] = s.get F.LK_STAT_LASTING [blk.val, n.val, k.val] ∧ s.counts u ⟨.LK_TOTAL, [blk.val, n.val, k.val]⟩ ∧
      { u with regs := s.regs, sent := s.sent, msiWait := s.msiWait } = s)) ∧
  (∀ (s : State) (n : Fin 96) (k : Fin 6) (e : Fin 16384), s.sealed = false → n.val < 16 → k.val < 4 →
    s.get F.LK_STAT_COUNT [2, n.val, k.val] + 1 = s.get F.LK_CFG_THRESHOLD [2, n.val, k.val] → s.on F.LK_STAT_LASTING [2, n.val, k.val] = false →
    Runs (.leakyCount 2 n k e) s (fun u => u.get F.LK_STAT_LASTING [2, n.val, k.val] = 1 ∧ u.get F.LK_STAT_COUNT [2, n.val, k.val] = s.get F.LK_CFG_THRESHOLD [2, n.val, k.val] ∧
      (2, 4 * n.val + k.val) ∈ u.flt.failed ∧ (u.rd (Trip.mule (4 * n.val + k.val)).stat).getLsbD 2 = true)) ∧
  (∀ (s : State) (n : Fin 96) (e : Fin 16384), s.sealed = false → n.val < 16 → s.get F.LK_STAT_COUNT [2, n.val, 4] + 1 = s.get F.LK_CFG_THRESHOLD [2, n.val, 4] →
    s.on F.LK_STAT_LASTING [2, n.val, 4] = false → Runs (.leakyCount 2 n 4 e) s (fun u => u.get F.LK_STAT_LASTING [2, n.val, 4] = 1 ∧ (3, n.val) ∈ u.flt.failed)) ∧
  (∀ (s : State) (n : Fin 96) (e : Fin 16384), s.sealed = false → n.val < 16 → s.get F.LK_STAT_COUNT [3, n.val, 0] + 1 = s.get F.LK_CFG_THRESHOLD [3, n.val, 0] →
    s.on F.LK_STAT_LASTING [3, n.val, 0] = false → Runs (.leakyCount 3 n 0 e) s (fun u => u.get F.LK_STAT_LASTING [3, n.val, 0] = 1 ∧ (4, n.val) ∈ u.flt.failed)) ∧
  (∀ (s : State) (blk : Fin 5) (n : Fin 96) (k : Fin 6), s.sealed = false → leakUnit blk.val n.val k.val = true →
    s.leakLast blk.val n.val k.val + s.leakNs blk.val n.val k.val ≤ s.now →
    Runs (.leakTick blk n k) s (fun u =>
      u.get F.LK_STAT_COUNT [blk.val, n.val, k.val] = (if s.on F.LK_STAT_LASTING [blk.val, n.val, k.val] = true then s.get F.LK_STAT_COUNT [blk.val, n.val, k.val]
        else s.get F.LK_STAT_COUNT [blk.val, n.val, k.val] - 1) ∧
      u.leakLast blk.val n.val k.val = s.leakLast blk.val n.val k.val + s.leakNs blk.val n.val k.val ∧
      s.only { u with flt := s.flt } [⟨.LK_STAT, [blk.val, n.val, k.val]⟩] [])) ∧
  (∀ (s : State) (blk : Fin 5) (n : Fin 96) (k : Fin 6), s.sealed = false → s.now < s.leakLast blk.val n.val k.val + s.leakNs blk.val n.val k.val →
    Runs (.leakTick blk n k) s (fun u => u = s)) ∧
  (∀ (s : State) (blk n k : Nat), 0 < s.get F.LK_CFG_WINDOW [blk, n, k] → 0 < s.get F.LK_CFG_THRESHOLD [blk, n, k] →
    s.leakNs blk n k = 1000 * max 1 (s.get F.LK_CFG_WINDOW [blk, n, k] * 1000 / s.get F.LK_CFG_THRESHOLD [blk, n, k])) ∧
  (∀ (s : State) (who : Init) (blk : Fin 5) (n : Fin 96) (k : Fin 6) (v : W64), leakUnit blk.val n.val k.val = true →
    s.granted who true ⟨.LK_CFG, [blk.val, n.val, k.val]⟩ 8 →
    Runs (.lkCfgWrite who blk n k v) s (fun u =>
      u.get F.LK_CFG_THRESHOLD [blk.val, n.val, k.val] = fget v F.LK_CFG_THRESHOLD.lo F.LK_CFG_THRESHOLD.w ∧
      u.get F.LK_CFG_WINDOW [blk.val, n.val, k.val] = fget v F.LK_CFG_WINDOW.lo F.LK_CFG_WINDOW.w ∧
      u.get F.LK_STAT_COUNT [blk.val, n.val, k.val] = 0 ∧ u.get F.LK_STAT_LASTING [blk.val, n.val, k.val] = s.get F.LK_STAT_LASTING [blk.val, n.val, k.val] ∧
      u.leakLast blk.val n.val k.val = s.now ∧
      s.only { u with flt := s.flt } [⟨.LK_CFG, [blk.val, n.val, k.val]⟩, ⟨.LK_STAT, [blk.val, n.val, k.val]⟩] [])) ∧
  (∀ (s : State) (ty ix : Nat) (rest : List (Nat × Nat)), s.sealed = false → s.restarting = false → s.flt.cur = none → s.flt.queue = (ty, ix) :: rest → 2 ≤ ty → ty < 16 → ix < 2 ^ 16 →
    Runs .degradedHandling s (fun u =>
      u.flt = { s.flt with cur := some (ty, ix), queue := rest } ∧ u.on F.GSV_DEG_BUSY [] = true ∧ u.get F.GSV_DEG_LAST_TYPE [] = ty ∧
      u.get F.GSV_DEG_LAST_INDEX [] = ix % 2 ^ F.GSV_DEG_LAST_INDEX.w ∧ u.get F.GSV_DEG_QUEUED [] = min 127 rest.length ∧ s.only { u with flt := s.flt } [⟨.GSV_DEG, []⟩] [])) ∧
  (∀ (s : State), s.sealed = false → s.flt.cur ≠ none ∨ s.flt.queue = [] → Runs .degradedHandling s (fun u => u = s)) ∧
  (∀ (s : State) (ty ix : Nat), s.sealed = false → s.restarting = false → s.flt.cur = some (ty, ix) → 2 ≤ ty → s.degReady ty ix = true →
    Runs .degradedHandlingDone s (fun u =>
      u.flt.cur = none ∧ u.get F.GSV_DEG_DONE [] = satAdd F.GSV_DEG_DONE.w (s.get F.GSV_DEG_DONE []) 1 ∧ s.raises u .gsv 1 ∧
      u.get F.GSV_DEG_OUT [] = (if ty ≤ 7 ∨ ty = 12 then satAdd F.GSV_DEG_OUT.w (s.get F.GSV_DEG_OUT []) 1 else s.get F.GSV_DEG_OUT []) ∧
      u.on F.GSV_DEG_BUSY [] = (if s.flt.queue = [] then false else s.on F.GSV_DEG_BUSY []) ∧ (ty ≤ 7 ∨ ty = 12 → u.faultN = true) ∧
      (ty ≠ 10 → u.flt.failed = s.flt.failed) ∧ s.only { u with flt := s.flt } [⟨.GSV_DEG, []⟩] [.gsv])) ∧
  (∀ (s : State) (ty ix : Nat), s.sealed = false → s.flt.cur = some (ty, ix) → s.degReady ty ix = false → Runs .degradedHandlingDone s (fun u => u = s)) ∧
  (∀ (s : State) (sensor : Fin 16) (temp : Fin 256), s.sealed = false → sext 8 temp.val < 110 →
    Runs (.tempWarn sensor temp) s (fun u => u.get F.GSV_STAT_TEMP_WARN [] = s.get F.GSV_STAT_TEMP_WARN [] ∧ u.get F.GSV_STAT_TEMP_MAX [] = temp.val ∧
      u.get F.GSV_STAT_TEMP_SENSOR [] = sensor.val ∧ u.sent = s.sent ∧ s.only u [⟨.GSV_STAT, []⟩] [])) ∧
  (∀ (s : State) (who : Init) (mask : Fin 16), s.granted who true ⟨.GSV_HB, []⟩ 4 →
    Runs (.heartbeatBeat who mask) s (fun u => (∀ c < 4, u.flt.beat.lookD c 0 = if Nat.testBit mask.val c then s.now else s.flt.beat.lookD c 0) ∧ u.regs = s.regs)) ∧
  (∀ (s : State) (core : Fin 4), s.sealed = false → s.flt.beat.lookD core.val 0 + 10000000 ≤ s.now → (∃ c ∈ [0, 1, 2, 3], s.now < s.flt.beat.lookD c 0 + 10000000) →
    s.on F.GSV_STAT_MGMT_DOWN [] = false → (10, core.val) ∉ s.flt.failed →
    Runs (.coreHeartbeatLoss core) s (fun u => (u.get F.GSV_HB_LOST []).testBit core.val = true ∧ s.raises u .gsv 2 ∧ u.flt.queue = s.flt.queue ++ [(10, core.val)] ∧
      u.flt.beat.lookD core.val 0 = s.now ∧ u.sealed = false)) ∧
  (∀ (s : State) (core : Fin 4), s.sealed = false → s.now < s.flt.beat.lookD core.val 0 + 10000000 → Runs (.coreHeartbeatLoss core) s (fun u => u = s)) ∧
  (∀ (s : State), s.sealed = false → (∀ c < 4, s.flt.beat.lookD c 0 + 10000000 ≤ s.now) → s.on F.GSV_STAT_MGMT_DOWN [] = false →
    (s.flt.restarts.filter (fun r => decide (s.now < r + 10000000000))).length < 3 →
    Runs .allCoresHeartbeatLoss s (fun u => u.on F.MGR_RESTART_ACTIVE [] = true ∧ u.get F.GSV_HB_RESTARTS [] = satAdd F.GSV_HB_RESTARTS.w (s.get F.GSV_HB_RESTARTS []) 1 ∧
      (∀ c < 4, u.flt.beat.lookD c 0 = s.now) ∧ u.on F.GSV_STAT_MGMT_DOWN [] = false ∧ u.sealed = false ∧
      s.only { u with flt := s.flt, mgr := s.mgr } [⟨.MGR_RESTART, []⟩, ⟨.GSV_HB, []⟩] [])) ∧
  (∀ (s : State), s.sealed = false → (∀ c < 4, s.flt.beat.lookD c 0 + 10000000 ≤ s.now) → s.on F.GSV_STAT_MGMT_DOWN [] = false →
    3 ≤ (s.flt.restarts.filter (fun r => decide (s.now < r + 10000000000))).length →
    Runs .allCoresHeartbeatLoss s (fun u => u.on F.GSV_STAT_MGMT_DOWN [] = true ∧ s.raises u .gsv 3 ∧ u.get F.GSV_HB_RESTARTS [] = s.get F.GSV_HB_RESTARTS [] ∧
      u.sealed = false ∧ s.only u [⟨.GSV_STAT, []⟩] [.gsv])) ∧
  (∀ (s : State) (c : Nat), s.sealed = false → c < 4 → s.now < s.flt.beat.lookD c 0 + 10000000 → Runs .allCoresHeartbeatLoss s (fun u => u = s))

/-- Outside the safe state. A source becomes READY when its conditions permit and a PLL without a source takes the first READY one in PRIO
order; LOCKED starts the timebase at 0. The loss of a source clears READY and raises TB_LOST; of the active one it declares a type 11 fault
and starts a fallback to the first READY source, which when done writes ACTIVE and SEL, counts and raises TB_FALLBACK. A write of CPW_TB_CFG
that names a target not READY, or any target while a switch is under way, or a PRIO that is no permutation, or a trunk above 17, is refused;
else it is taken and a new SEL starts a switch. CPW_TILE_REF and CPW_REFOUT refuse source 3, an enabled tile, or a SRC change of an enabled
output. -/
def Obligations.timebase_sources_and_references : Prop :=
  (∀ (s : State) (src : Fin 4) (o : Fin 256), s.sealed = false → s.sourceMay src.val = true → s.cpw.chosen = true → s.cpw.switch = none →
    s.srcReady (s.get F.CPW_TB_STAT_ACTIVE []) = true →
    Runs (.sourceReady src o) s (fun u => u.srcReady src.val = true ∧ (∀ c < 4, c ≠ src.val → u.srcReady c = s.srcReady c) ∧ u.get (measField src.val) [] = o.val ∧
      u.cpw = s.cpw ∧ (11, src.val) ∉ u.flt.failed ∧ u.get F.CPW_TB_STAT_ACTIVE [] = s.get F.CPW_TB_STAT_ACTIVE [])) ∧
  (∀ (s : State) (src : Fin 4) (o : Fin 256), s.sealed = false → s.cpw.latched = true → s.cpw.chosen = false → s.sourceMay src.val = true → s.get F.CPW_TB_STAT_READY [] = 0 →
    s.cpw.switch = none → s.on F.CPW_TB_STAT_LOCKED [] = false → src.val ∈ prioList (s.get F.CPW_TB_CFG_PRIO []) →
    Runs (.sourceReady src o) s (fun u => u.srcReady src.val = true ∧ u.cpw.chosen = true ∧ u.get F.CPW_TB_STAT_ACTIVE [] = src.val ∧ u.get F.CPW_TB_CFG_SEL [] = src.val ∧
      u.get (measField src.val) [] = 0)) ∧
  (∀ (s : State) (o : Fin 256), s.sealed = false → s.cpw.oscDone = false ∨ s.on F.CPW_TB_STAT_XTAL_ABSENT [] = true → Runs (.sourceReady 3 o) s (fun u => u = s)) ∧
  (∀ (s : State), s.sealed = false → s.cpw.chosen = true → s.on F.CPW_TB_STAT_LOCKED [] = false →
    Runs .pllLocked s (fun u => u.on F.CPW_TB_STAT_LOCKED [] = true ∧ u.now = 0 ∧ s.keeps u ([⟨.CPW_TB_STAT, []⟩, ⟨.CPW_TIME, []⟩] ++ (List.range 24).map (fun n => ⟨.CPW_REFOUT, [n]⟩)) [] ∧
      { u with regs := s.regs } = s)) ∧
  (∀ (s : State), s.sealed = false → s.cpw.chosen = false ∨ s.on F.CPW_TB_STAT_LOCKED [] = true → Runs .pllLocked s (fun u => u = s)) ∧
  (∀ (s : State), s.sealed = false → s.cpw.pwrOk = true → s.on F.CPW_TB_STAT_XTAL_ABSENT [] = false → Runs .oscWaitExpiry s (fun u => u = { s with cpw := { s.cpw with oscDone := true } })) ∧
  (∀ (s : State), s.sealed = false → s.cpw.pwrOk = true → s.cpw.chosen = false →
    Runs .sourceWaitTimeout s (fun u => u = { s with cpw := { s.cpw with noSource := true } } ∧ u.faultN = true)) ∧
  (∀ (s : State), s.sealed = false → s.cpw.chosen = true → Runs .sourceWaitTimeout s (fun u => u = s)) ∧
  (∀ (s : State) (src : Fin 4), s.sealed = false → s.srcReady src.val = false → Runs (.timebaseSourceLost src) s (fun u => u = s)) ∧
  (∀ (s : State) (src : Fin 4), s.sealed = false → 2 ≤ src.val → s.srcReady src.val = true → s.cpw.switch = none → s.get F.CPW_TB_STAT_ACTIVE [] ≠ src.val →
    Runs (.timebaseSourceLost src) s (fun u => u.srcReady src.val = false ∧ s.raises u .cpw 3 ∧ u.flt = s.flt ∧ u.cpw = s.cpw ∧
      u.get F.CPW_TB_STAT_ACTIVE [] = s.get F.CPW_TB_STAT_ACTIVE [] ∧
      s.only u ([⟨.CPW_TB_STAT, []⟩] ++ (List.range 24).map (fun n => ⟨.CPW_REFOUT, [n]⟩)) [.cpw])) ∧
  (∀ (s : State) (src : Fin 4) (c : Nat), s.sealed = false → 2 ≤ src.val → s.srcReady src.val = true → s.cpw.switch = none → s.cpw.chosen = true → s.on F.CPW_TB_STAT_LOCKED [] = true →
    s.get F.CPW_TB_STAT_ACTIVE [] = src.val → (11, src.val) ∉ s.flt.failed → (prioList (s.get F.CPW_TB_CFG_PRIO [])).find? (fun k => s.srcReady k && k != src.val) = some c →
    Runs (.timebaseSourceLost src) s (fun u => u.srcReady src.val = false ∧ u.cpw.switch = some (c, true) ∧ u.on F.CPW_TB_STAT_SWITCHING [] = true ∧
      u.flt.queue = s.flt.queue ++ [(11, src.val)] ∧ s.raises u .cpw 3 ∧ u.now = s.now ∧ u.get F.CPW_TB_STAT_ACTIVE [] = src.val)) ∧
  (∀ (s : State) (src : Fin 4) (c : Nat) (fb : Bool), s.sealed = false → 2 ≤ src.val → s.srcReady src.val = true → s.cpw.switch = some (c, fb) → c ≠ src.val →
    Runs (.timebaseSourceLost src) s (fun u => u.srcReady src.val = false ∧ u.cpw.switch = some (c, fb) ∧ u.flt = s.flt)) ∧
  (∀ (s : State) (c : Nat), s.sealed = false → c < 4 → s.cpw.switch = some (c, true) →
    Runs .timebaseSwitchDone s (fun u => u.get F.CPW_TB_STAT_ACTIVE [] = c ∧ u.get F.CPW_TB_CFG_SEL [] = c ∧ u.on F.CPW_TB_STAT_SWITCHING [] = false ∧ u.cpw.switch = none ∧
      u.get F.CPW_TB_STAT_FALLBACKS [] = satAdd F.CPW_TB_STAT_FALLBACKS.w (s.get F.CPW_TB_STAT_FALLBACKS []) 1 ∧ s.raises u .cpw 1 ∧ u.get (measField c) [] = 0 ∧ u.now = s.now)) ∧
  (∀ (s : State) (c : Nat), s.sealed = false → c < 4 → s.cpw.switch = some (c, false) →
    Runs .timebaseSwitchDone s (fun u => u.get F.CPW_TB_STAT_ACTIVE [] = c ∧ u.on F.CPW_TB_STAT_SWITCHING [] = false ∧ u.cpw.switch = none ∧
      u.get F.CPW_TB_STAT_FALLBACKS [] = s.get F.CPW_TB_STAT_FALLBACKS [] ∧ u.flt = s.flt ∧ u.sent = s.sent ∧ s.keeps u [⟨.CPW_TB_STAT, []⟩, ⟨.CPW_TB_MEAS, []⟩] [])) ∧
  (∀ (s : State), s.sealed = false → s.cpw.switch = none → Runs .timebaseSwitchDone s (fun u => u = s)) ∧
  (∀ (s : State) (who : Init) (v : W32), s.granted who true ⟨.CPW_TB_CFG, []⟩ 4 →
    (∃ c ∈ [0, 1, 2, 3], c ∉ prioList (fget (v.zeroExtend 64) 2 8)) ∨ 17 < fget (v.zeroExtend 64) 10 5 ∨
      (fget (v.zeroExtend 64) 0 2 ≠ s.get F.CPW_TB_CFG_SEL [] ∧ (s.srcReady (fget (v.zeroExtend 64) 0 2) = false ∨ s.on F.CPW_TB_STAT_SWITCHING [] = true)) →
    Runs (.timebaseSwitch who v) s (fun u => u.on F.CPW_TB_CFG_REFUSED [] = true ∧ u.get F.CPW_TB_CFG_SEL [] = s.get F.CPW_TB_CFG_SEL [] ∧
      u.get F.CPW_TB_CFG_PRIO [] = s.get F.CPW_TB_CFG_PRIO [] ∧ s.raises u .cpw 2 ∧ s.only u [⟨.CPW_TB_CFG, []⟩] [.cpw])) ∧
  (∀ (s : State) (who : Init) (v : W32), s.granted who true ⟨.CPW_TB_CFG, []⟩ 4 → (∀ c ∈ [0, 1, 2, 3], c ∈ prioList (fget (v.zeroExtend 64) 2 8)) → fget (v.zeroExtend 64) 10 5 ≤ 17 →
    fget (v.zeroExtend 64) 0 2 ≠ s.get F.CPW_TB_CFG_SEL [] → s.srcReady (fget (v.zeroExtend 64) 0 2) = true → s.on F.CPW_TB_STAT_SWITCHING [] = false → s.srcReady 2 = false →
    Runs (.timebaseSwitch who v) s (fun u => u.get F.CPW_TB_CFG_SEL [] = fget (v.zeroExtend 64) 0 2 ∧ u.get F.CPW_TB_CFG_PRIO [] = fget (v.zeroExtend 64) 2 8 ∧
      u.get F.CPW_TB_CFG_RECOV_TRK [] = fget (v.zeroExtend 64) 10 5 ∧ u.cpw.switch = some (fget (v.zeroExtend 64) 0 2, false) ∧ u.on F.CPW_TB_STAT_SWITCHING [] = true ∧
      u.get F.CPW_TB_STAT_ACTIVE [] = s.get F.CPW_TB_STAT_ACTIVE [] ∧ u.flt = s.flt)) ∧
  (∀ (s : State) (who : Init) (t : Fin 36) (v : W32), s.granted who true ⟨.CPW_TILE_REF, [t.val]⟩ 4 → fget (v.zeroExtend 64) 0 2 ≠ 3 → fget (v.zeroExtend 64) 2 2 ≠ 3 → s.tileEnabled t.val = false →
    Runs (.tileRefWrite who t v) s (fun u => u.get F.CPW_TILE_REF_SRC [t.val] = fget (v.zeroExtend 64) 0 2 ∧ u.get F.CPW_TILE_REF_MODE [t.val] = fget (v.zeroExtend 64) 2 2 ∧
      s.only u [⟨.CPW_TILE_REF, [t.val]⟩] [])) ∧
  (∀ (s : State) (who : Init) (t : Fin 36) (v : W32), s.granted who true ⟨.CPW_TILE_REF, [t.val]⟩ 4 → fget (v.zeroExtend 64) 0 2 = 3 ∨ fget (v.zeroExtend 64) 2 2 = 3 ∨ s.tileEnabled t.val = true →
    Runs (.tileRefWrite who t v) s (fun u => u.on F.CPW_TILE_REF_REFUSED [t.val] = true ∧ u.get F.CPW_TILE_REF_SRC [t.val] = s.get F.CPW_TILE_REF_SRC [t.val] ∧
      u.get F.CPW_TILE_REF_MODE [t.val] = s.get F.CPW_TILE_REF_MODE [t.val] ∧ s.only u [⟨.CPW_TILE_REF, [t.val]⟩] [])) ∧
  (∀ (s : State) (who : Init) (n : Fin 24) (v : W32), s.granted who true ⟨.CPW_REFOUT, [n.val]⟩ 4 → fget (v.zeroExtend 64) 1 2 ≠ 3 →
    s.on F.CPW_REFOUT_EN [n.val] = false ∨ fget (v.zeroExtend 64) 1 2 = s.get F.CPW_REFOUT_SRC [n.val] →
    Runs (.refoutWrite who n v) s (fun u => u.get F.CPW_REFOUT_EN [n.val] = fget (v.zeroExtend 64) 0 1 ∧ u.get F.CPW_REFOUT_SRC [n.val] = fget (v.zeroExtend 64) 1 2 ∧
      u.get F.CPW_REFOUT_SSC_DEPTH [n.val] = fget (v.zeroExtend 64) 3 4 ∧
      u.on F.CPW_REFOUT_RUNNING [n.val] = (v.getLsbD 0 && (if fget (v.zeroExtend 64) 1 2 < 2 then s.srcReady (fget (v.zeroExtend 64) 1 2) else s.on F.CPW_TB_STAT_LOCKED [])) ∧
      s.only u ((List.range 24).map (fun k => ⟨.CPW_REFOUT, [k]⟩)) [])) ∧
  (∀ (s : State) (who : Init) (n : Fin 24) (v : W32), s.granted who true ⟨.CPW_REFOUT, [n.val]⟩ 4 → fget (v.zeroExtend 64) 1 2 = 3 ∨
    (s.on F.CPW_REFOUT_EN [n.val] = true ∧ fget (v.zeroExtend 64) 1 2 ≠ s.get F.CPW_REFOUT_SRC [n.val]) →
    Runs (.refoutWrite who n v) s (fun u => u.on F.CPW_REFOUT_REFUSED [n.val] = true ∧ u.get F.CPW_REFOUT_SRC [n.val] = s.get F.CPW_REFOUT_SRC [n.val] ∧
      u.get F.CPW_REFOUT_EN [n.val] = s.get F.CPW_REFOUT_EN [n.val] ∧ s.only u [⟨.CPW_REFOUT, [n.val]⟩] []))

/-- Outside the safe state. A write of ON to an Off domain starts its exit, one of OFF its entry, or the request is refused with the cause of
the table: both written 5, a sequence under way 2, a tile in use 1, the last cluster or a second staging group 3, a Mule firmware update 4;
ON to an On domain and OFF to an Off one change nothing. An entry ends when nothing uses the domain, or 20 us after its start: the domain is
Off and its memories and clock enables are lost. An exit that ends well puts the domain into service with its clock enables, one that fails
returns it to Off with cause 6 and EXIT_FAIL. -/
def Obligations.power_domains : Prop :=
  (∀ (s : State) (who : Init) (d : Fin 56), s.granted who true ⟨.CPW_PD, [d.val]⟩ 4 →
    Runs (.pdOn who d true) s (fun u => u.get F.CPW_PD_CAUSE [d.val] = 5 ∧ u.on F.CPW_PD_REFUSED [d.val] = true ∧ u.get F.CPW_PD_STATE [d.val] = s.get F.CPW_PD_STATE [d.val] ∧
      s.raises u .cpw 4 ∧ s.only u [⟨.CPW_PD, [d.val]⟩] [.cpw])) ∧
  (∀ (s : State) (who : Init) (d : Fin 56), s.granted who true ⟨.CPW_PD, [d.val]⟩ 4 → s.get F.CPW_PD_STATE [d.val] = 0 → (36 ≤ d.val → ∀ k < 20, s.get F.CPW_PD_STATE [36 + k] < 2) →
    d.val < 36 ∨ 52 ≤ d.val ∨ s.mule.fw = none →
    Runs (.pdOn who d false) s (fun u => u.get F.CPW_PD_STATE [d.val] = 3 ∧ u.cpw.pdAt.look d.val = some s.now ∧ s.only { u with cpw := s.cpw } [⟨.CPW_PD, [d.val]⟩] [])) ∧
  (∀ (s : State) (who : Init) (d : Fin 56), s.granted who true ⟨.CPW_PD, [d.val]⟩ 4 → s.get F.CPW_PD_STATE [d.val] = 1 → Runs (.pdOn who d false) s (fun u => u.regs = s.regs ∧ u.cpw = s.cpw)) ∧
  (∀ (s : State) (who : Init) (d : Fin 56), s.granted who true ⟨.CPW_PD, [d.val]⟩ 4 → s.get F.CPW_PD_STATE [d.val] ≠ 1 →
    2 ≤ s.get F.CPW_PD_STATE [d.val] ∨ (36 ≤ d.val ∧ ∃ k ∈ List.range 20, 2 ≤ s.get F.CPW_PD_STATE [36 + k]) →
    Runs (.pdOn who d false) s (fun u => u.get F.CPW_PD_CAUSE [d.val] = 2 ∧ u.on F.CPW_PD_REFUSED [d.val] = true ∧ s.raises u .cpw 4 ∧ s.only u [⟨.CPW_PD, [d.val]⟩] [.cpw])) ∧
  (∀ (s : State) (who : Init) (d : Fin 56), s.granted who true ⟨.CPW_PD, [d.val]⟩ 4 → s.get F.CPW_PD_STATE [d.val] = 0 → Runs (.pdOff who d) s (fun u => u.regs = s.regs ∧ u.cpw = s.cpw)) ∧
  (∀ (s : State) (who : Init) (d : Fin 56), s.granted who true ⟨.CPW_PD, [d.val]⟩ 4 → s.get F.CPW_PD_STATE [d.val] = 1 → d.val < 36 →
    s.get F.PT_CUT_CUT [d.val] ≠ 0 ∨ s.get F.PT_TRK_STAT_LIVE [d.val] ≠ 0 →
    Runs (.pdOff who d) s (fun u => u.get F.CPW_PD_CAUSE [d.val] = 1 ∧ u.get F.CPW_PD_STATE [d.val] = 1 ∧ s.raises u .cpw 4 ∧ s.only u [⟨.CPW_PD, [d.val]⟩] [.cpw])) ∧
  (∀ (s : State) (who : Init) (d : Fin 56), s.granted who true ⟨.CPW_PD, [d.val]⟩ 4 → s.get F.CPW_PD_STATE [d.val] = 1 → 36 ≤ d.val → d.val < 52 → (∀ k < 20, s.get F.CPW_PD_STATE [36 + k] < 2) →
    (∀ k < 16, k ≠ d.val - 36 → s.mcIn k = false) →
    Runs (.pdOff who d) s (fun u => u.get F.CPW_PD_CAUSE [d.val] = 3 ∧ u.get F.CPW_PD_STATE [d.val] = 1 ∧ s.raises u .cpw 4 ∧ s.only u [⟨.CPW_PD, [d.val]⟩] [.cpw])) ∧
  (∀ (s : State) (who : Init) (d : Fin 56), s.granted who true ⟨.CPW_PD, [d.val]⟩ 4 → s.get F.CPW_PD_STATE [d.val] = 1 → 36 ≤ d.val → d.val < 52 → (∀ k < 20, s.get F.CPW_PD_STATE [36 + k] < 2) →
    (∃ k ∈ List.range 16, k ≠ d.val - 36 ∧ s.mcIn k = true) → s.mule.fw ≠ none →
    Runs (.pdOff who d) s (fun u => u.get F.CPW_PD_CAUSE [d.val] = 4 ∧ u.get F.CPW_PD_STATE [d.val] = 1 ∧ s.raises u .cpw 4 ∧ s.only u [⟨.CPW_PD, [d.val]⟩] [.cpw])) ∧
  (∀ (s : State) (who : Init) (d : Fin 56), s.granted who true ⟨.CPW_PD, [d.val]⟩ 4 → s.get F.CPW_PD_STATE [d.val] = 1 → 36 ≤ d.val → d.val < 52 → (∀ k < 20, s.get F.CPW_PD_STATE [36 + k] < 2) →
    (∃ k ∈ List.range 16, k ≠ d.val - 36 ∧ s.mcIn k = true) → s.mule.fw = none → s.get F.MCL_STAT_THR_BUSY [d.val - 36] ≠ 0 →
    Runs (.pdOff who d) s (fun u => u.get F.CPW_PD_STATE [d.val] = 2 ∧ u.get F.MCL_STAT_STATE [d.val - 36] = 3 ∧ u.cpw.pdAt.look d.val = some s.now ∧ u.mule = s.mule ∧
      s.only { u with cpw := s.cpw } [⟨.CPW_PD, [d.val]⟩, ⟨.MCL_STAT, [d.val - 36]⟩] [])) ∧
  (∀ (s : State) (who : Init) (d : Fin 56), s.granted who true ⟨.CPW_PD, [d.val]⟩ 4 → s.get F.CPW_PD_STATE [d.val] = 1 → d.val < 36 → s.get F.PT_CUT_CUT [d.val] = 0 → s.get F.PT_TRK_STAT_LIVE [d.val] = 0 →
    s.fwd.leases = [] → Runs (.pdOff who d) s (fun u => u.get F.CPW_PD_STATE [d.val] = 0 ∧ u.clkEn (16 + d.val) = false)) ∧
  (∀ (s : State) (d : Fin 56), s.sealed = false → s.get F.CPW_PD_STATE [d.val] ≠ 2 → Runs (.pdEntryDrainTimeout d) s (fun u => u = s)) ∧
  (∀ (s : State) (d : Fin 56), s.sealed = false → s.get F.CPW_PD_STATE [d.val] = 2 → s.pdIdle d.val = false → s.now < s.cpw.pdAt.lookD d.val 0 + 20000 →
    Runs (.pdEntryDrainTimeout d) s (fun u => u = s)) ∧
  (∀ (s : State) (d : Fin 56), s.sealed = false → s.get F.CPW_PD_STATE [d.val] = 2 → s.pdIdle d.val = true → 36 ≤ d.val → d.val < 52 →
    Runs (.pdEntryDrainTimeout d) s (fun u => u.get F.CPW_PD_STATE [d.val] = 0 ∧ u.clkEn (160 + (d.val - 36)) = false ∧ u.get F.MCL_STAT_STATE [d.val - 36] = 3 ∧
      (∀ a ∈ [0, 0x7FFFF, 0x60008], memGet u.mule.dmem (0x80000 * (d.val - 36) + a) = 0 ∧ memGet u.mule.imem (0x80000 * (d.val - 36) + a) = 0) ∧ u.mule.stg = s.mule.stg)) ∧
  (∀ (s : State) (d : Fin 56), s.sealed = false → s.get F.CPW_PD_STATE [d.val] = 3 →
    Runs (.pdExitDone d false) s (fun u => u.get F.CPW_PD_STATE [d.val] = 0 ∧ u.get F.CPW_PD_CAUSE [d.val] = 6 ∧ u.on F.CPW_PD_REFUSED [d.val] = true ∧ s.raises u .cpw 5 ∧
      s.only { u with cpw := s.cpw } [⟨.CPW_PD, [d.val]⟩] [.cpw])) ∧
  (∀ (s : State) (d : Fin 56), s.sealed = false → s.get F.CPW_PD_STATE [d.val] = 3 →
    Runs (.pdExitDone d true) s (fun u => u.get F.CPW_PD_STATE [d.val] = 1 ∧ (∀ slot ∈ domainSlots d.val, u.clkEn slot = true) ∧
      (d.val < 36 → u.get F.PT_WIN_BANK_ACTIVE [d.val] = s.winBank) ∧
      (36 ≤ d.val → d.val < 52 → u.get F.MCL_STAT_STATE [d.val - 36] = if (3, d.val - 36) ∈ s.flt.failed then 2 else 0))) ∧
  (∀ (s : State) (d : Fin 56) (ok : Bool), s.sealed = false → s.get F.CPW_PD_STATE [d.val] ≠ 3 → Runs (.pdExitDone d ok) s (fun u => u = s))

/-- Outside the safe state, PWR_OK falling is a power-on reset that keeps the journal and its SEQ, RESET_N falling with PWR_OK high a cold
reset, which keeps GSV_SEAL too, a permitted write of CPW_RST.WARM at level V or O a warm reset, which also keeps the straps, the timebase,
RWS fields and LK_TOTAL; LAST and WARMS tell them apart, and after each the ledger, memories, bindings and declared failures are empty.
VDD_AON below its threshold ends even the safe state and clears the journal too. The straps are latched when the later of PWR_OK and RESET_N
rises, and only then. PWR_OK and RESET_N are ignored in the safe state. -/
def Obligations.device_resets_and_power_up : Prop :=
  (∀ (s : State), s.cpw.aon = false → Runs .powerOnReset s (fun u => u = { s with cpw := { s.cpw with aon := true } })) ∧
  (∀ (s : State) (st : BitVec 14), s.sealed = false → s.cpw.aon = true → s.cpw.pwrOk = false → s.cpw.resetN = true →
    Runs (.pwrOkRise st) s (fun u => u.cpw.pwrOk = true ∧ u.cpw.latched = true ∧ (u.rd ⟨.CPW_STRAP, []⟩).toNat = st.toNat ∧ u.get F.FAB_DEV_ROLE [] = st.toNat % 4 ∧
      u.get F.GSV_STAT_SUP_OK [] = 31 ∧ u.on F.CPW_TB_STAT_XTAL_ABSENT [] = decide (st.toNat / 4 % 8 = 7))) ∧
  (∀ (s : State) (st : BitVec 14), s.sealed = false → s.cpw.aon = true → s.cpw.pwrOk = false → s.cpw.resetN = false →
    Runs (.pwrOkRise st) s (fun u => u.cpw = { s.cpw with pwrOk := true } ∧ u.rd ⟨.CPW_STRAP, []⟩ = s.rd ⟨.CPW_STRAP, []⟩)) ∧
  (∀ (s : State) (st : BitVec 14), s.sealed = true ∨ s.cpw.aon = false ∨ s.cpw.pwrOk = true → Runs (.pwrOkRise st) s (fun u => u = s)) ∧
  (∀ (s : State) (st : BitVec 14), s.sealed = false → s.cpw.resetN = false → s.cpw.pwrOk = true →
    Runs (.resetNRise st) s (fun u => u.cpw.resetN = true ∧ u.cpw.latched = true ∧ (u.rd ⟨.CPW_STRAP, []⟩).toNat = st.toNat)) ∧
  (∀ (s : State) (st : BitVec 14), s.sealed = false → s.cpw.resetN = false → s.cpw.pwrOk = false →
    Runs (.resetNRise st) s (fun u => u = { s with cpw := { s.cpw with resetN := true } })) ∧
  (∀ (s : State) (st : BitVec 14), s.sealed = true ∨ s.cpw.resetN = true → Runs (.resetNRise st) s (fun u => u = s)) ∧
  (∀ (s : State), s.sealed = false → s.cpw.pwrOk = true →
    Runs .pwrOkFall s (fun u => u.cpw.pwrOk = false ∧ u.journal = s.journal ∧ u.rd ⟨.MGR_JNL_SEQ, []⟩ = s.rd ⟨.MGR_JNL_SEQ, []⟩ ∧
      u.rd ⟨.GSV_SEAL, []⟩ = (⟨.GSV_SEAL, []⟩ : Reg).rst ∧ u.get F.CPW_RST_LAST [] = 0 ∧ u.get F.CPW_RST_WARMS [] = 0 ∧ u.now = 0 ∧
      u.rd ⟨.SEC_FUSE, []⟩ = s.rd ⟨.SEC_FUSE, []⟩ ∧ u.dm = {} ∧ u.mule = {} ∧ u.mesh = {} ∧ u.fwd = {} ∧ u.flt.failed = [] ∧ u.pending = s.pending)) ∧
  (∀ (s : State), s.sealed = true ∨ s.cpw.pwrOk = false → Runs .pwrOkFall s (fun u => u = s)) ∧
  (∀ (s : State), s.sealed = false → s.cpw.resetN = true → s.cpw.pwrOk = true →
    Runs .coldReset s (fun u => u.cpw.resetN = false ∧ u.cpw.pwrOk = true ∧ u.cpw.latched = false ∧ u.get F.CPW_RST_LAST [] = 1 ∧ u.get F.CPW_RST_WARMS [] = 0 ∧ u.now = 0 ∧
      u.journal = s.journal ∧ u.rd ⟨.MGR_JNL_SEQ, []⟩ = s.rd ⟨.MGR_JNL_SEQ, []⟩ ∧ u.rd ⟨.GSV_SEAL, []⟩ = s.rd ⟨.GSV_SEAL, []⟩ ∧
      u.rd ⟨.SEC_FUSE, []⟩ = s.rd ⟨.SEC_FUSE, []⟩ ∧ u.dm = {} ∧ u.mule = {} ∧ u.mesh = {} ∧ u.fwd = {} ∧ u.flt.failed = [] ∧ u.pending = s.pending)) ∧
  (∀ (s : State), s.sealed = true ∨ s.cpw.resetN = false → Runs .coldReset s (fun u => u = s)) ∧
  (∀ (s : State) (who : Init), s.granted who true ⟨.CPW_RST, []⟩ 4 → (∀ i, who ≠ .tenant i) → s.srcReady 2 = false →
    Runs (.warmReset who) s (fun u => u.cpw = { s.cpw with pdAt := [] } ∧ u.get F.CPW_RST_LAST [] = 2 ∧ u.get F.CPW_RST_WARMS [] = satAdd 8 (s.get F.CPW_RST_WARMS []) 1 ∧
      u.now = s.now ∧ u.journal = s.journal ∧ u.rd ⟨.MGR_JNL_SEQ, []⟩ = s.rd ⟨.MGR_JNL_SEQ, []⟩ ∧ u.rd ⟨.GSV_SEAL, []⟩ = s.rd ⟨.GSV_SEAL, []⟩ ∧
      u.rd ⟨.CPW_STRAP, []⟩ = s.rd ⟨.CPW_STRAP, []⟩ ∧ u.rd ⟨.CPW_TB_STAT, []⟩ = s.rd ⟨.CPW_TB_STAT, []⟩ ∧ u.get F.CPW_TB_CFG_SEL [] = s.get F.CPW_TB_CFG_SEL [] ∧
      u.get F.CPW_TB_CFG_PRIO [] = s.get F.CPW_TB_CFG_PRIO [] ∧ (∀ d < 56, u.get F.CPW_PD_STATE [d] = 0) ∧ (∀ w < 8, u.get F.CPW_CLKEN_EN [w] = 0) ∧
      u.dm = {} ∧ u.mule = {} ∧ u.mesh = {} ∧ u.fwd.rowsUsed = s.fwd.rowsUsed ∧ u.fwd.retired = s.fwd.retired ∧ u.fwd.own = [] ∧ u.flt.failed = [] ∧ u.pending = s.pending)) ∧
  (∀ (s : State) (who : Init), s.sealed = true → Runs (.warmReset who) s (fun u => u = s)) ∧
  (∀ (s : State), Runs .vddAonBelowResetThreshold s (fun u => u.sealed = false ∧ u.cpw.aon = false ∧ u.cpw.pwrOk = false ∧ u.journal = [] ∧ u.get F.MGR_JNL_SEQ_SEQ [] = 0 ∧
      u.rd ⟨.GSV_SEAL, []⟩ = (⟨.GSV_SEAL, []⟩ : Reg).rst ∧ u.rd ⟨.SEC_FUSE, []⟩ = s.rd ⟨.SEC_FUSE, []⟩ ∧ u.sec.flash = s.sec.flash ∧ u.dm = {} ∧ u.mule = {} ∧ u.flt.failed = [] ∧
      u.now = 0 ∧ u.pending = s.pending))

/-- Outside the safe state. A permitted write of PT_CNT_CLR, MCL_CNT_CLR, FAB_CNT_CLR or PMG_CNT_CLR returns each counter of the groups whose
bits are 1, OVF with it, to 0, and every other register keeps its word. At the first multiple of WINDOW after the window began, the four
counts stand in the latches, SEQ advances by one modulo 2^32, the counts are 0 and BW_WINDOW is raised; before that nothing happens. A
permitted write of PT_BW_CFG discards the counts, starts the next window at the next multiple of the new WINDOW (1 to 10,000 ms) and leaves
the latches and SEQ. -/
def Obligations.counter_clears_and_bandwidth_windows : Prop :=
  (∀ (s : State) (who : Init) (t : Fin 36) (v : W32), s.granted who true ⟨.PT_CNT_CLR, [t.val]⟩ 4 →
    Runs (.ptCntClr who t v) s (fun u =>
      (∀ b < 4, ∀ c < 24, u.rd ⟨.PT_CNT, [t.val, b, c]⟩ = if v.getLsbD b then 0 else s.rd ⟨.PT_CNT, [t.val, b, c]⟩) ∧
      (∀ c < 4, u.rd ⟨.PT_TCNT, [t.val, c]⟩ = if v.getLsbD 4 then 0 else s.rd ⟨.PT_TCNT, [t.val, c]⟩) ∧
      s.only u (s.listed (fun r => (r.n == .PT_CNT || r.n == .PT_TCNT) && r.ix.head? == some t.val)) [])) ∧
  (∀ (s : State) (who : Init) (k : Fin 16) (v : W32), s.granted who true ⟨.MCL_CNT_CLR, [k.val]⟩ 4 →
    Runs (.mclCntClr who k v) s (fun u =>
      (∀ j < 4, ∀ c < 8, u.rd ⟨.MCL_CNT, [k.val, j, c]⟩ = if v.getLsbD j then 0 else s.rd ⟨.MCL_CNT, [k.val, j, c]⟩) ∧
      s.only u (s.listed (fun r => r.n == .MCL_CNT && r.ix.head? == some k.val)) [])) ∧
  (∀ (s : State) (who : Init) (v : W32), s.granted who true ⟨.FAB_CNT_CLR, []⟩ 4 →
    Runs (.fabCntClr who v) s (fun u =>
      (∀ j < 18, ∀ c < 16, u.rd ⟨.FAB_CNT, [j, c]⟩ = if v.getLsbD j then 0 else s.rd ⟨.FAB_CNT, [j, c]⟩) ∧
      s.only u (s.listed (fun r => r.n == .FAB_CNT)) [])) ∧
  (∀ (s : State) (who : Init) (v : W32), s.granted who true ⟨.PMG_CNT_CLR, []⟩ 4 →
    Runs (.pmgCntClr who v) s (fun u =>
      (∀ c < 5, u.rd ⟨.PMG_CNT, [c]⟩ = if v.getLsbD 0 then 0 else s.rd ⟨.PMG_CNT, [c]⟩) ∧ s.only u (s.listed (fun r => r.n == .PMG_CNT)) [])) ∧
  (∀ (s : State) (p : Fin 144), s.sealed = false → s.perf.bwFrom.lookD p.val 0 < s.now / s.bwNs p.val * s.bwNs p.val →
    Runs (.bwWindowEnd p) s (fun u =>
      (∀ c < 4, u.get F.PT_BW_LATCH_COUNT [p.val / 4, p.val % 4, c] = s.perf.bw.lookD (p.val, c) 0 % 2 ^ F.PT_BW_LATCH_COUNT.w ∧ u.perf.bw.lookD (p.val, c) 0 = 0) ∧
      u.get F.PT_BW_SEQ_SEQ [p.val / 4, p.val % 4] = (s.get F.PT_BW_SEQ_SEQ [p.val / 4, p.val % 4] + 1) % 2 ^ F.PT_BW_SEQ_SEQ.w ∧
      s.raises u (.port p.val 7) 1 ∧ u.perf.bwFrom.lookD p.val 0 = s.now / s.bwNs p.val * s.bwNs p.val ∧
      s.only { u with perf := s.perf } ([⟨.PT_BW_SEQ, [p.val / 4, p.val % 4]⟩] ++ (List.range 4).map (fun c => ⟨.PT_BW_LATCH, [p.val / 4, p.val % 4, c]⟩)) [.port p.val 7])) ∧
  (∀ (s : State) (p : Fin 144), s.sealed = false → s.now / s.bwNs p.val * s.bwNs p.val ≤ s.perf.bwFrom.lookD p.val 0 → Runs (.bwWindowEnd p) s (fun u => u = s)) ∧
  (∀ (s : State) (who : Init) (p : Fin 144) (v : W32), s.granted who true ⟨.PT_BW_CFG, [p.val / 4, p.val % 4]⟩ 4 →
    Runs (.bwCfgWrite who p v) s (fun u =>
      u.get F.PT_BW_CFG_WINDOW [p.val / 4, p.val % 4] = fget (v.zeroExtend 64) 0 F.PT_BW_CFG_WINDOW.w ∧ (∀ c < 4, u.perf.bw.lookD (p.val, c) 0 = 0) ∧
      s.now < u.perf.bwFrom.lookD p.val 0 ∧ u.perf.bwFrom.lookD p.val 0 % u.bwNs p.val = 0 ∧ u.perf.bwFrom.lookD p.val 0 ≤ s.now + u.bwNs p.val ∧
      u.bwNs p.val = 1000000 * min 10000 (max 1 (fget (v.zeroExtend 64) 0 F.PT_BW_CFG_WINDOW.w)) ∧
      s.only { u with perf := s.perf } [⟨.PT_BW_CFG, [p.val / 4, p.val % 4]⟩] []))

/-- Outside the safe state, while sampling runs: the instruction that a Mule's precise count caught is written as the 32 bytes of its record
into the slot of the record count modulo the ring size, the count advances and LOST restarts; on a full ring it is dropped, counted in LOST,
and SAMPLE_OVERFLOW is raised. A skid tick that is due writes a record of each selected Mule in service and starts the next interval; one
that is not due does nothing. The doorbell record of a full ring is read at most once every 10 us; a failed read sets ERROR. A write of the
configuration, base or doorbell while EN is 1 is refused, but for one that only clears EN (the model's reading, its log says); setting EN
restarts the counts. -/
def Obligations.sampling_of_the_mules : Prop :=
  (∀ (s : State) (m : Fin 64) (t pc a time x : Nat), s.sealed = false → s.smpOn = true → s.hostIo = true → s.muleIn m.val = true → s.perf.caught.look m.val = some (t, pc, a, time, x) →
    s.smpFull = false →
    Runs (.preciseSample m) s (fun u =>
      u.sent = s.sent ++ [.hostWrite .mgmt ((s.rd ⟨.PMG_SMP_BASE, []⟩).toNat + 32 * (s.perf.written % 2 ^ s.smpSize))
        ((s.caughtSample m.val (t, pc, a, time, x)).bytes (s.get F.PMG_SMP_CFG_MODE []) (phaseOf s.perf.written s.smpSize) s.perf.lost) 0 false false] ∧
      u = { s with sent := u.sent, perf := { s.perf with written := (s.perf.written + 1) % 2 ^ 32, lost := 0, caught := s.perf.caught.del m.val } })) ∧
  (∀ (s : State) (m : Fin 64) (t pc a time x : Nat), s.sealed = false → s.smpOn = true → s.hostIo = true → s.muleIn m.val = true → s.perf.caught.look m.val = some (t, pc, a, time, x) →
    s.smpFull = true →
    Runs (.preciseSample m) s (fun u => u.perf = { s.perf with lost := s.perf.lost + 1, caught := s.perf.caught.del m.val } ∧ s.raises u .pmg 1 ∧
      s.only { u with perf := s.perf } [] [.pmg])) ∧
  (∀ (s : State) (m : Fin 64), s.sealed = false → s.perf.caught.look m.val = none ∨ s.smpOn = false ∨ s.muleIn m.val = false → Runs (.preciseSample m) s (fun u => u = s)) ∧
  (∀ (r : Sample) (mode phase lost : Nat), (r.bytes mode phase lost).length = 32 ∧ (r.level = 0 → leAt (r.bytes mode phase lost) 8 4 = 0)) ∧
  (∀ (s : State) (m : Fin 64), s.sealed = false → s.smpOn = true → s.hostIo = true → s.on F.PMG_SMP_CFG_MODE [] = true → s.perf.skidAt + s.skidNs ≤ s.now →
    (∀ k < 64, s.smpMule k = true → k = m.val) → s.smpMule m.val = true → s.smpFull = false →
    Runs .skidSample s (fun u =>
      u.sent = s.sent ++ [.hostWrite .mgmt ((s.rd ⟨.PMG_SMP_BASE, []⟩).toNat + 32 * (s.perf.written % 2 ^ s.smpSize))
        ((s.skidSample m.val).bytes 1 (phaseOf s.perf.written s.smpSize) s.perf.lost) 0 false false] ∧
      u = { s with sent := u.sent, perf := { s.perf with written := (s.perf.written + 1) % 2 ^ 32, lost := 0, skidAt := s.perf.skidAt + s.skidNs, skidRun := [] } })) ∧
  (∀ (s : State), s.sealed = false → s.smpOn = false ∨ s.on F.PMG_SMP_CFG_MODE [] = false ∨ s.now < s.perf.skidAt + s.skidNs → Runs .skidSample s (fun u => u = s)) ∧
  (∀ (s : State) (m : Nat), s.nextThr m = none → (∀ j < 4, (s.get F.MCL_STAT_THR_BUSY [(4 * m + j) / 16]).testBit ((4 * m + j) % 16) = false) →
    (s.skidSample m).state = 0 ∧ (s.skidSample m).pc = 0 ∧ (s.skidSample m).inst = 0 ∧ (s.skidSample m).prog = 0 ∧ (s.skidSample m).skid ≤ 16) ∧
  (∀ (s : State) (hd : W32), s.sealed = false → s.smpOn = true → s.hostIo = true → s.smpFull = true → s.perf.readAt + 10000 ≤ s.now →
    Runs (.sampleDoorbellRead true hd) s (fun u => u = { s with sent := s.sent ++ [.hostRead .mgmt (s.rd ⟨.PMG_SMP_DB, []⟩).toNat 16 0 false], perf := { s.perf with head := hd.toNat, readAt := s.now } })) ∧
  (∀ (s : State) (hd : W32), s.sealed = false → s.smpOn = true → s.hostIo = true → s.smpFull = true → s.perf.readAt + 10000 ≤ s.now →
    Runs (.sampleDoorbellRead false hd) s (fun u => u.on F.PMG_SMP_CFG_ERROR [] = true ∧ u.smpOn = false ∧ u.perf.head = s.perf.head ∧
      s.only { u with perf := s.perf } [⟨.PMG_SMP_CFG, []⟩] [])) ∧
  (∀ (s : State) (ok : Bool) (hd : W32), s.sealed = false → s.smpFull = false ∨ s.now < s.perf.readAt + 10000 → Runs (.sampleDoorbellRead ok hd) s (fun u => u = s)) ∧
  (∀ (s : State) (who : Init) (off : Fin 65536) (v : W64) (n : RN), (off.val, n) ∈ [(0x208, RN.PMG_SMP_BASE), (0x210, RN.PMG_SMP_DB)] → s.granted who true ⟨n, []⟩ 8 →
    s.on F.PMG_SMP_CFG_EN [] = true → Runs (.smpCfgWrite who off v) s (fun u => u.on F.PMG_SMP_CFG_REFUSED [] = true ∧ s.only u [⟨.PMG_SMP_CFG, []⟩] [])) ∧
  (∀ (s : State) (who : Init) (off : Fin 65536) (v : W64) (n : RN), (off.val, n) ∈ [(0x208, RN.PMG_SMP_BASE), (0x210, RN.PMG_SMP_DB)] → s.granted who true ⟨n, []⟩ 8 →
    s.on F.PMG_SMP_CFG_EN [] = false → Runs (.smpCfgWrite who off v) s (fun u => (∀ f ∈ n.fields, fget (u.rd ⟨n, []⟩) f.lo f.w = fget v f.lo f.w) ∧ s.only u [⟨n, []⟩] [])) ∧
  (∀ (s : State) (who : Init) (off : Fin 65536) (v : W64), off.val = 0x218 → s.granted who true ⟨.PMG_SMP_MASK, []⟩ 8 →
    Runs (.smpCfgWrite who off v) s (fun u => u.rd ⟨.PMG_SMP_MASK, []⟩ = v ∧ s.only u [⟨.PMG_SMP_MASK, []⟩] [])) ∧
  (∀ (s : State) (who : Init) (off : Fin 65536) (v : W64), off.val = 0x200 → s.granted who true ⟨.PMG_SMP_CFG, []⟩ 8 → s.on F.PMG_SMP_CFG_EN [] = false → v.getLsbD 0 = true →
    Runs (.smpCfgWrite who off v) s (fun u => u.on F.PMG_SMP_CFG_EN [] = true ∧ u.on F.PMG_SMP_CFG_ERROR [] = false ∧ u.get F.PMG_SMP_CFG_MODE [] = fget v 1 1 ∧
      u.get F.PMG_SMP_CFG_SIZE [] = fget v 2 5 ∧ u.get F.PMG_SMP_CFG_PERIOD [] = fget v 16 10 ∧ u.perf.written = 0 ∧ u.perf.lost = 0 ∧
      s.only { u with perf := s.perf } [⟨.PMG_SMP_CFG, []⟩] [])) ∧
  (∀ (s : State) (who : Init) (off : Fin 65536) (v : W64), off.val = 0x200 → s.granted who true ⟨.PMG_SMP_CFG, []⟩ 8 → s.on F.PMG_SMP_CFG_EN [] = true → v.getLsbD 0 = true →
    Runs (.smpCfgWrite who off v) s (fun u => u.on F.PMG_SMP_CFG_REFUSED [] = true ∧ u.on F.PMG_SMP_CFG_EN [] = true ∧ u.get F.PMG_SMP_CFG_MODE [] = s.get F.PMG_SMP_CFG_MODE [] ∧
      u.get F.PMG_SMP_CFG_SIZE [] = s.get F.PMG_SMP_CFG_SIZE [] ∧ u.get F.PMG_SMP_CFG_PERIOD [] = s.get F.PMG_SMP_CFG_PERIOD [] ∧ s.only u [⟨.PMG_SMP_CFG, []⟩] [])) ∧
  (∀ (s : State) (who : Init) (off : Fin 65536) (v : W64), s.sealed = false → off.val ∉ [0x200, 0x208, 0x210, 0x218] → Runs (.smpCfgWrite who off v) s (fun u => u = s))
end

