-- ==== Sys2Proof/Laws/Bits.lean ====
section
/-!
SUPPORT. Laws of the fields of a word: a field written is the field read, and the bits beside it stay.
-/

namespace Sys2Proof.Machine

theorem fget_testBit (v : W64) (lo w j : Nat) : (fget v lo w).testBit j = (decide (j < w) && v.getLsbD (lo + j)) := by
  simp [fget, Nat.testBit_mod_two_pow, BitVec.getLsbD, Nat.testBit_shiftRight]

theorem fget_lt (v : W64) (lo w : Nat) : fget v lo w < 2 ^ w := Nat.mod_lt _ (Nat.two_pow_pos w)

theorem fmask_getLsbD (lo w j : Nat) : (fmask lo w).getLsbD j = (decide (j < 64) && decide (lo ≤ j) && decide (j < lo + w)) := by
  simp only [fmask, BitVec.getLsbD_ofNat, Nat.testBit_shiftLeft, Nat.testBit_two_pow_sub_one]
  by_cases h1 : lo ≤ j
  · have : (j - lo < w) ↔ (j < lo + w) := by omega
    simp [h1, this]
  · simp [h1]

theorem fset_getLsbD (v : W64) (lo w x j : Nat) (hj : j < 64) :
    (fset v lo w x).getLsbD j = if lo ≤ j ∧ j < lo + w then x.testBit (j - lo) else v.getLsbD j := by
  simp only [fset, BitVec.getLsbD_or, BitVec.getLsbD_and, BitVec.getLsbD_not, fmask_getLsbD, BitVec.getLsbD_ofNat,
    Nat.testBit_shiftLeft, Nat.testBit_mod_two_pow, hj]
  by_cases h1 : lo ≤ j
  · by_cases h2 : j < lo + w
    · have h3 : j - lo < w := by omega
      simp [h1, h2, h3]
    · have h3 : ¬ j - lo < w := by omega
      simp [h1, h2, h3]
  · simp [h1]

theorem fget_fset_same (v : W64) (lo w x : Nat) (h : lo + w ≤ 64) : fget (fset v lo w x) lo w = x % 2 ^ w := by
  apply Nat.eq_of_testBit_eq
  intro j
  rw [fget_testBit, Nat.testBit_mod_two_pow]
  by_cases hj : j < w
  · rw [fset_getLsbD _ _ _ _ _ (by omega), if_pos (by omega)]
    simp [hj]
  · simp [hj]

theorem fget_fset_disj (v : W64) (lo w x lo' w' : Nat) (h : lo' + w' ≤ lo ∨ lo + w ≤ lo') (h64 : lo' + w' ≤ 64) :
    fget (fset v lo w x) lo' w' = fget v lo' w' := by
  apply Nat.eq_of_testBit_eq
  intro j
  rw [fget_testBit, fget_testBit]
  by_cases hj : j < w'
  · rw [fset_getLsbD _ _ _ _ _ (by omega), if_neg (by omega)]
  · simp [hj]

theorem fset_fget_self (v : W64) (lo w : Nat) : fset v lo w (fget v lo w) = v := by
  apply BitVec.eq_of_getLsbD_eq
  intro j hj
  rw [fset_getLsbD _ _ _ _ _ hj]
  split
  · rename_i h
    rw [fget_testBit]
    have h1 : j - lo < w := by omega
    have h2 : lo + (j - lo) = j := by omega
    simp [h1, h2]
  · rfl

@[simp] theorem bit_true : bit true = 1 := rfl
@[simp] theorem bit_false : bit false = 0 := rfl

end Sys2Proof.Machine
end

