-- ==== Sys2Proof/Laws/Map.lean ====
section
/-!
SUPPORT. Laws of the finite maps: what a key holds after `put`, `del` and `upd`.
-/

namespace Sys2Proof.Machine

@[simp] theorem AMap.look_nil {κ α : Type} [DecidableEq κ] (k : κ) : AMap.look ([] : AMap κ α) k = none := rfl

theorem AMap.look_cons {κ α : Type} [DecidableEq κ] (m : AMap κ α) (k k' : κ) (v : α) :
    AMap.look ((k, v) :: m) k' = if k = k' then some v else m.look k' := by
  unfold AMap.look
  by_cases h : k = k' <;> simp [h]

@[simp] theorem AMap.look_del_same {κ α : Type} [DecidableEq κ] (m : AMap κ α) (k : κ) : (m.del k).look k = none := by
  unfold AMap.look AMap.del
  simp [List.find?_filter]

theorem AMap.look_del_ne {κ α : Type} [DecidableEq κ] (m : AMap κ α) {k k' : κ} (h : k' ≠ k) : (m.del k).look k' = m.look k' := by
  unfold AMap.look AMap.del
  induction m with
  | nil => rfl
  | cons p t ih =>
    by_cases h1 : p.1 = k
    · simp [h1, h.symm]
      simpa using ih
    · by_cases h2 : p.1 = k'
      · simp [h2, h]
      · simp [h1, h2]
        simpa using ih

@[simp] theorem AMap.look_put_same {κ α : Type} [DecidableEq κ] (m : AMap κ α) (k : κ) (v : α) : (m.put k v).look k = some v := by
  simp [AMap.put, AMap.look_cons]

theorem AMap.look_put_ne {κ α : Type} [DecidableEq κ] (m : AMap κ α) {k k' : κ} (v : α) (h : k' ≠ k) :
    (m.put k v).look k' = m.look k' := by
  simp [AMap.put, AMap.look_cons, h.symm, AMap.look_del_ne m h]

@[simp] theorem AMap.lookD_put_same {κ α : Type} [DecidableEq κ] (m : AMap κ α) (k : κ) (v d : α) : (m.put k v).lookD k d = v := by
  simp [AMap.lookD]

theorem AMap.lookD_put_ne {κ α : Type} [DecidableEq κ] (m : AMap κ α) {k k' : κ} (v d : α) (h : k' ≠ k) :
    (m.put k v).lookD k' d = m.lookD k' d := by
  simp [AMap.lookD, AMap.look_put_ne m v h]

theorem AMap.lookD_put {κ α : Type} [DecidableEq κ] (m : AMap κ α) (k k' : κ) (v d : α) :
    (m.put k v).lookD k' d = if k' = k then v else m.lookD k' d := by
  by_cases h : k' = k
  · subst h; simp
  · simp [h, AMap.lookD_put_ne m v d h]

@[simp] theorem AMap.lookD_del_same {κ α : Type} [DecidableEq κ] (m : AMap κ α) (k : κ) (d : α) : (m.del k).lookD k d = d := by
  simp [AMap.lookD]

theorem AMap.lookD_del_ne {κ α : Type} [DecidableEq κ] (m : AMap κ α) {k k' : κ} (d : α) (h : k' ≠ k) :
    (m.del k).lookD k' d = m.lookD k' d := by
  simp [AMap.lookD, AMap.look_del_ne m h]

end Sys2Proof.Machine
end

