-- ==== Sys2Proof/Laws/Regs.lean ====
section
/-!
SUPPORT. Laws of the register operations: what a register and a field hold after a write, and that a write of a register touches nothing but
that register.
-/

namespace Sys2Proof.Machine

/-! ### Words -/

@[simp] theorem State.rd_wr_same (s : State) (r : Reg) (v : W64) : (s.wr r v).rd r = v := by
  simp [State.rd, State.wr, rmRd]

theorem State.rd_wr_ne (s : State) {r r' : Reg} (v : W64) (h : r' ≠ r) : (s.wr r v).rd r' = s.rd r' := by
  simp [State.rd, State.wr, rmRd, AMap.lookD_put_ne _ _ _ h]

theorem State.rd_wr (s : State) (r r' : Reg) (v : W64) : (s.wr r v).rd r' = if r' = r then v else s.rd r' := by
  by_cases h : r' = r
  · subst h; simp
  · simp [h, State.rd_wr_ne s v h]

@[simp] theorem State.rd_resetReg_same (s : State) (r : Reg) : (s.resetReg r).rd r = r.rst := by
  simp [State.rd, State.resetReg, rmRd]

theorem State.rd_resetReg_ne (s : State) {r r' : Reg} (h : r' ≠ r) : (s.resetReg r).rd r' = s.rd r' := by
  simp [State.rd, State.resetReg, rmRd, AMap.lookD_del_ne _ _ h]

theorem State.get_eq (s : State) (f : Fld) (ix : List Nat) : s.get f ix = fget (s.rd ⟨f.reg, ix⟩) f.lo f.w := rfl

theorem State.set_eq (s : State) (f : Fld) (ix : List Nat) (v : Nat) :
    s.set f ix v = s.wr ⟨f.reg, ix⟩ (fset (s.rd ⟨f.reg, ix⟩) f.lo f.w v) := rfl

/-! ### Fields -/

theorem State.get_set_same (s : State) (f : Fld) (ix : List Nat) (v : Nat) (h : f.lo + f.w ≤ 64) :
    (s.set f ix v).get f ix = v % 2 ^ f.w := by
  simp [State.get_eq, State.set_eq, fget_fset_same _ _ _ _ h]

/-- A write of one field leaves a field of another register, or beside it in the same register, as it was. -/
theorem State.get_set_disj (s : State) (f g : Fld) (ix iy : List Nat) (v : Nat)
    (h : (⟨g.reg, iy⟩ : Reg) ≠ ⟨f.reg, ix⟩ ∨ ((g.lo + g.w ≤ f.lo ∨ f.lo + f.w ≤ g.lo) ∧ g.lo + g.w ≤ 64)) :
    (s.set f ix v).get g iy = s.get g iy := by
  rw [State.get_eq, State.set_eq, State.rd_wr]
  by_cases e : (⟨g.reg, iy⟩ : Reg) = ⟨f.reg, ix⟩
  · rw [if_pos e]
    rcases h with h | h
    · exact absurd e h
    · rw [fget_fset_disj _ _ _ _ _ _ h.1 h.2, ← e]; rfl
  · rw [if_neg e]; rfl

theorem State.rd_set_ne (s : State) (f : Fld) (ix : List Nat) (v : Nat) {r : Reg} (h : r ≠ ⟨f.reg, ix⟩) : (s.set f ix v).rd r = s.rd r :=
  s.rd_wr_ne _ h

theorem State.get_lt (s : State) (f : Fld) (ix : List Nat) : s.get f ix < 2 ^ f.w := fget_lt _ _ _

theorem State.get_setB (s : State) (f : Fld) (ix : List Nat) (b : Bool) (h : f.lo + f.w ≤ 64) (hw : 0 < f.w) :
    (s.setB f ix b).get f ix = bit b := by
  rw [State.setB, State.get_set_same _ _ _ _ h]
  have : 2 ^ 1 ≤ 2 ^ f.w := Nat.pow_le_pow_right (by decide) hw
  cases b <;> simp [bit] <;> omega

theorem State.get_bump (s : State) (f : Fld) (ix : List Nat) (n : Nat) (h : f.lo + f.w ≤ 64) :
    (s.bump f ix n).get f ix = min (s.get f ix + n) (2 ^ f.w - 1) := by
  rw [State.bump, State.get_set_same _ _ _ _ h, satAdd]
  have := Nat.two_pow_pos f.w
  exact Nat.mod_eq_of_lt (by omega)

/-! ### The parts of the state that a register write leaves alone -/

@[simp] theorem State.wr_cfg (s : State) (r : Reg) (v : W64) : (s.wr r v).cfg = s.cfg := rfl
@[simp] theorem State.wr_mesh (s : State) (r : Reg) (v : W64) : (s.wr r v).mesh = s.mesh := rfl
@[simp] theorem State.wr_fwd (s : State) (r : Reg) (v : W64) : (s.wr r v).fwd = s.fwd := rfl
@[simp] theorem State.wr_shp (s : State) (r : Reg) (v : W64) : (s.wr r v).shp = s.shp := rfl
@[simp] theorem State.wr_vsx (s : State) (r : Reg) (v : W64) : (s.wr r v).vsx = s.vsx := rfl
@[simp] theorem State.wr_lnk (s : State) (r : Reg) (v : W64) : (s.wr r v).lnk = s.lnk := rfl
@[simp] theorem State.wr_trunk (s : State) (r : Reg) (v : W64) : (s.wr r v).trunk = s.trunk := rfl
@[simp] theorem State.wr_fab (s : State) (r : Reg) (v : W64) : (s.wr r v).fab = s.fab := rfl
@[simp] theorem State.wr_mgr (s : State) (r : Reg) (v : W64) : (s.wr r v).mgr = s.mgr := rfl
@[simp] theorem State.wr_sec (s : State) (r : Reg) (v : W64) : (s.wr r v).sec = s.sec := rfl
@[simp] theorem State.wr_cpw (s : State) (r : Reg) (v : W64) : (s.wr r v).cpw = s.cpw := rfl
@[simp] theorem State.wr_dm (s : State) (r : Reg) (v : W64) : (s.wr r v).dm = s.dm := rfl
@[simp] theorem State.wr_mule (s : State) (r : Reg) (v : W64) : (s.wr r v).mule = s.mule := rfl
@[simp] theorem State.wr_flt (s : State) (r : Reg) (v : W64) : (s.wr r v).flt = s.flt := rfl
@[simp] theorem State.wr_perf (s : State) (r : Reg) (v : W64) : (s.wr r v).perf = s.perf := rfl
@[simp] theorem State.wr_journal (s : State) (r : Reg) (v : W64) : (s.wr r v).journal = s.journal := rfl
@[simp] theorem State.wr_msiWait (s : State) (r : Reg) (v : W64) : (s.wr r v).msiWait = s.msiWait := rfl
@[simp] theorem State.wr_sent (s : State) (r : Reg) (v : W64) : (s.wr r v).sent = s.sent := rfl
@[simp] theorem State.wr_pending (s : State) (r : Reg) (v : W64) : (s.wr r v).pending = s.pending := rfl

@[simp] theorem State.rd_emit (s : State) (o : Out) (r : Reg) : (s.emit o).rd r = s.rd r := rfl
@[simp] theorem State.get_emit (s : State) (o : Out) (f : Fld) (ix : List Nat) : (s.emit o).get f ix = s.get f ix := rfl
@[simp] theorem State.regs_emit (s : State) (o : Out) : (s.emit o).regs = s.regs := rfl
@[simp] theorem State.sent_emit (s : State) (o : Out) : (s.emit o).sent = s.sent ++ [o] := rfl

@[simp] theorem State.when_true (s : State) (f : State → State) : s.when true f = f s := rfl
@[simp] theorem State.when_false (s : State) (f : State → State) : s.when false f = s := rfl

/-! ### A command outside and in the safe state -/

theorem State.live_next (s : State) (f : State → State) (h : s.sealed = false) : s.live f = .next (f s) := by simp [State.live, h]

theorem State.live_sealed (s : State) (f : State → State) (h : s.sealed = true) : s.live f = .next s := by simp [State.live, h]

end Sys2Proof.Machine
end

