-- ==== Sys2Proof/Laws/Frame.lean ====
section
/-!
SUPPORT. What each shared operation leaves alone: register and field writes, messages sent, events, counters, and the accesses that command rows
make to one register.
-/

namespace Sys2Proof.Machine

/-! ### Composition of frames -/

theorem State.only_refl (s : State) (l : List Reg) (xs : List Trip) : s.only s l xs := ⟨fun _ _ _ => rfl, rfl⟩

theorem State.only_trans {s t u : State} {l l' : List Reg} {xs xs' : List Trip} (h : s.only t l xs) (h' : t.only u l' xs') :
    s.only u (l ++ l') (xs ++ xs') := by
  constructor
  · intro r hr hx
    simp only [List.mem_append, not_or] at hr
    rw [h'.1 r hr.2 (fun x m => hx x (List.mem_append_right _ m)), h.1 r hr.1 (fun x m => hx x (List.mem_append_left _ m))]
  · have a := h.2
    have b := h'.2
    cases s; cases t; cases u
    simp at a b ⊢
    exact ⟨b.1.trans a.1, b.2.1.trans a.2.1, b.2.2.1.trans a.2.2.1, b.2.2.2.1.trans a.2.2.2.1, b.2.2.2.2.1.trans a.2.2.2.2.1,
      b.2.2.2.2.2.1.trans a.2.2.2.2.2.1, b.2.2.2.2.2.2.1.trans a.2.2.2.2.2.2.1, b.2.2.2.2.2.2.2.1.trans a.2.2.2.2.2.2.2.1,
      b.2.2.2.2.2.2.2.2.1.trans a.2.2.2.2.2.2.2.2.1, b.2.2.2.2.2.2.2.2.2.1.trans a.2.2.2.2.2.2.2.2.2.1,
      b.2.2.2.2.2.2.2.2.2.2.1.trans a.2.2.2.2.2.2.2.2.2.2.1, b.2.2.2.2.2.2.2.2.2.2.2.1.trans a.2.2.2.2.2.2.2.2.2.2.2.1,
      b.2.2.2.2.2.2.2.2.2.2.2.2.1.trans a.2.2.2.2.2.2.2.2.2.2.2.2.1, b.2.2.2.2.2.2.2.2.2.2.2.2.2.1.trans a.2.2.2.2.2.2.2.2.2.2.2.2.2.1,
      b.2.2.2.2.2.2.2.2.2.2.2.2.2.2.1.trans a.2.2.2.2.2.2.2.2.2.2.2.2.2.2.1,
      b.2.2.2.2.2.2.2.2.2.2.2.2.2.2.2.1.trans a.2.2.2.2.2.2.2.2.2.2.2.2.2.2.2.1,
      b.2.2.2.2.2.2.2.2.2.2.2.2.2.2.2.2.trans a.2.2.2.2.2.2.2.2.2.2.2.2.2.2.2.2⟩

theorem State.only_mono {s t : State} {l l' : List Reg} {xs xs' : List Trip} (h : s.only t l xs) (hl : ∀ r ∈ l, r ∈ l') (hx : ∀ x ∈ xs, x ∈ xs') :
    s.only t l' xs' :=
  ⟨fun r hr hr' => h.1 r (fun m => hr (hl r m)) (fun x m => hr' x (hx x m)), h.2⟩

theorem State.only_wr (s : State) (r : Reg) (v : W64) : s.only (s.wr r v) [r] [] :=
  ⟨fun r' hr _ => s.rd_wr_ne v (by simpa using hr), rfl⟩

theorem State.only_set (s : State) (f : Fld) (ix : List Nat) (v : Nat) : s.only (s.set f ix v) [⟨f.reg, ix⟩] [] := s.only_wr _ _

theorem State.only_resetReg (s : State) (r : Reg) : s.only (s.resetReg r) [r] [] :=
  ⟨fun _ hr _ => s.rd_resetReg_ne (by simpa using hr), rfl⟩

theorem State.only_emit (s : State) (o : Out) : s.only (s.emit o) [] [] := ⟨fun _ _ _ => rfl, rfl⟩

theorem State.only_when (s : State) (c : Bool) (f : State → State) {l : List Reg} {xs : List Trip} (h : s.only (f s) l xs) :
    s.only (s.when c f) l xs := by
  cases c
  · exact s.only_refl l xs
  · exact h

/-! ### Events -/

theorem State.sendMsix_rd (s : State) (v : Nat) {r : Reg} (h : r.n ≠ .MSIX_PBA) : (s.sendMsix v).rd r = s.rd r := by
  unfold State.sendMsix
  split
  · exact s.rd_set_ne _ _ _ (fun e => h (by rw [e]))
  · split <;> rfl

theorem State.sendMsix_rest (s : State) (v : Nat) : { s.sendMsix v with regs := s.regs, sent := s.sent, msiWait := s.msiWait } = s := by
  unfold State.sendMsix
  split
  · rfl
  · split <;> rfl

theorem State.sendSource_rd (s : State) (v : Nat) {r : Reg} (h : r.n ≠ .MSIX_PBA) : (s.sendSource v).rd r = s.rd r := by
  unfold State.sendSource State.when
  split
  · exact s.sendMsix_rd _ h
  · rfl

theorem State.sendSource_rest (s : State) (v : Nat) : { s.sendSource v with regs := s.regs, sent := s.sent, msiWait := s.msiWait } = s := by
  unfold State.sendSource State.when
  split
  · exact s.sendMsix_rest _
  · rfl

end Sys2Proof.Machine

namespace Sys2Proof

open Machine

theorem Trip.stat_ne_int (x : Trip) : x.stat ≠ x.int := by
  cases x with
  | port p e => rcases e with _ | _ | _ | _ | _ | _ | _ | _ | e <;> simp [Trip.stat, Trip.int]
  | tile t e => rcases e with _ | _ | _ | _ | e <;> simp [Trip.stat, Trip.int]
  | _ => simp [Trip.stat, Trip.int]

theorem Trip.mask_ne_int (x : Trip) : x.mask ≠ x.int := by
  cases x with
  | port p e => rcases e with _ | _ | _ | _ | _ | _ | _ | _ | e <;> simp [Trip.stat, Trip.int, Trip.mask]
  | tile t e => rcases e with _ | _ | _ | _ | e <;> simp [Trip.stat, Trip.int, Trip.mask]
  | _ => simp [Trip.mask, Trip.int]

theorem Trip.mask_ne_stat (x : Trip) : x.mask ≠ x.stat := by
  cases x with
  | port p e => rcases e with _ | _ | _ | _ | _ | _ | _ | _ | e <;> simp [Trip.stat, Trip.mask]
  | tile t e => rcases e with _ | _ | _ | _ | e <;> simp [Trip.stat, Trip.mask]
  | _ => simp [Trip.mask, Trip.stat]

theorem Trip.stat_not_pba (x : Trip) : x.stat.n ≠ .MSIX_PBA := by
  cases x with
  | port p e => rcases e with _ | _ | _ | _ | _ | _ | _ | _ | e <;> simp [Trip.stat]
  | tile t e => rcases e with _ | _ | _ | _ | e <;> simp [Trip.stat]
  | _ => simp [Trip.stat]

theorem Trip.int_not_pba (x : Trip) : x.int.n ≠ .MSIX_PBA := by
  cases x with
  | port p e => rcases e with _ | _ | _ | _ | _ | _ | _ | _ | e <;> simp [Trip.int]
  | tile t e => rcases e with _ | _ | _ | _ | e <;> simp [Trip.int]
  | _ => simp [Trip.int]

end Sys2Proof

namespace Sys2Proof.Machine

theorem State.event_rd_stat (s : State) (x : Trip) (b : Nat) : (s.event x b).rd x.stat = s.rd x.stat ||| BitVec.ofNat 64 (2 ^ b) := by
  have h : ∀ t : State, ∀ c, (t.when c (·.sendSource (x.source b))).rd x.stat = t.rd x.stat := by
    intro t c
    cases c
    · rfl
    · exact t.sendSource_rd _ x.stat_not_pba
  unfold State.event
  simp only [h]
  rw [State.updInt, State.rd_wr_ne _ _ x.stat_ne_int, State.rd_wr_same, Nat.one_shiftLeft]

theorem State.event_rd_int (s : State) (x : Trip) (b : Nat) : (s.event x b).rd x.int = (s.event x b).rd x.stat &&& ~~~(s.rd x.mask) := by
  have h : ∀ t : State, ∀ c, (t.when c (·.sendSource (x.source b))).rd x.int = t.rd x.int := by
    intro t c
    cases c
    · rfl
    · exact t.sendSource_rd _ x.int_not_pba
  rw [State.event_rd_stat]
  unfold State.event
  simp only [h]
  rw [State.updInt, State.rd_wr_same, State.errInt, State.rd_wr_same, State.rd_wr_ne _ _ x.mask_ne_stat, Nat.one_shiftLeft]

theorem State.event_rd_ne (s : State) (x : Trip) (b : Nat) {r : Reg} (h1 : r ≠ x.stat) (h2 : r ≠ x.int) (h3 : r.n ≠ .MSIX_PBA) :
    (s.event x b).rd r = s.rd r := by
  have h : ∀ t : State, ∀ c, (t.when c (·.sendSource (x.source b))).rd r = t.rd r := by
    intro t c
    cases c
    · rfl
    · exact t.sendSource_rd _ h3
  unfold State.event
  simp only [h]
  rw [State.updInt, State.rd_wr_ne _ _ h2, State.rd_wr_ne _ _ h1]

/-- Everything that raising an event can change. -/
theorem State.event_rest (s : State) (x : Trip) (b : Nat) : { s.event x b with regs := s.regs, sent := s.sent, msiWait := s.msiWait } = s := by
  have h : ∀ t : State, ∀ c, t.regs = t.regs → { t.when c (·.sendSource (x.source b)) with regs := s.regs, sent := s.sent, msiWait := s.msiWait } =
      { t with regs := s.regs, sent := s.sent, msiWait := s.msiWait } := by
    intro t c _
    cases c
    · rfl
    · have := congrArg (fun u : State => { u with regs := s.regs, sent := s.sent, msiWait := s.msiWait }) (t.sendSource_rest (x.source b))
      exact this
  unfold State.event
  simp only []
  rw [h _ _ rfl]
  rfl

theorem State.raises_event (s : State) (x : Trip) (b : Nat) : s.raises (s.event x b) x b := ⟨s.event_rd_stat x b, s.event_rd_int x b⟩

theorem State.only_event (s : State) (x : Trip) (b : Nat) : s.only (s.event x b) [] [x] :=
  ⟨fun _ _ hx => s.event_rd_ne x b (hx x (by simp)).1 (hx x (by simp)).2.1 (hx x (by simp)).2.2, s.event_rest x b⟩

/-! ### Counters -/

theorem State.only_count (s : State) (r : Reg) (n : Nat) (ov : Option (Trip × Nat)) :
    s.only (s.count r n ov) [r] (ov.toList.map (·.1)) := by
  unfold State.count
  simp only []
  split
  · cases ov with
    | none => exact s.only_wr _ _
    | some xb =>
      have := State.only_trans (s.only_wr r (fset (fset (s.rd r) 0 48 (satAdd 48 (fget (s.rd r) 0 48) n)) 48 1 1)) (State.only_event _ xb.1 xb.2)
      simpa using this
  · exact State.only_mono (s.only_wr _ _) (fun _ m => m) (by simp)

/-! ### Accesses of command rows to one register -/

theorem State.only_answerWrite (s : State) (who : Init) (a : Acc) : s.only (s.answerWrite who a) [] [] := by
  unfold State.answerWrite
  split
  · exact s.only_refl _ _
  · exact s.only_refl _ _
  · exact s.only_emit _

@[simp] theorem State.rd_answerWrite (s : State) (who : Init) (a : Acc) (r : Reg) : (s.answerWrite who a).rd r = s.rd r :=
  (s.only_answerWrite who a).1 r (by simp) (by simp)

@[simp] theorem State.get_answerWrite (s : State) (who : Init) (a : Acc) (f : Fld) (ix : List Nat) :
    (s.answerWrite who a).get f ix = s.get f ix := by
  rw [State.get_eq, State.rd_answerWrite, State.get_eq]

/-- A write that the gate and the clocks permit does its effect and is answered. -/
theorem State.writeReg_granted {s : State} {who : Init} {r : Reg} {size : Nat} (h : s.granted who true r size) (f : State → State) :
    s.writeReg who r size f = (f s).answerWrite who .ok := by
  obtain ⟨_, h1, h2⟩ := h
  rw [bit_true] at h1
  simp [State.writeReg, State.checkSlot, h1, h2]

theorem State.granted_awake {s : State} {who : Init} {w : Bool} {r : Reg} {size : Nat} (h : s.granted who w r size) : s.sealed = false := h.1

end Sys2Proof.Machine
end

