-- ==== Sys2Proof/Laws/State.lean ====
section
/-!
SUPPORT. The fields of the state after each of its updates: what the update writes, and that every other field is as it was.
-/

namespace Sys2Proof.Machine

/-! ### `State.wr`: the other fields are in Laws/Regs.lean -/

@[simp] theorem State.wr_regs (s : State) (r : Reg) (v : W64) : (s.wr r v).regs = s.regs.put r v := rfl

/-! ### `State.set` -/

@[simp] theorem State.set_cfg (s : State) (f : Fld) (ix : List Nat) (v : Nat) : (s.set f ix v).cfg = s.cfg := rfl
@[simp] theorem State.set_mesh (s : State) (f : Fld) (ix : List Nat) (v : Nat) : (s.set f ix v).mesh = s.mesh := rfl
@[simp] theorem State.set_fwd (s : State) (f : Fld) (ix : List Nat) (v : Nat) : (s.set f ix v).fwd = s.fwd := rfl
@[simp] theorem State.set_shp (s : State) (f : Fld) (ix : List Nat) (v : Nat) : (s.set f ix v).shp = s.shp := rfl
@[simp] theorem State.set_vsx (s : State) (f : Fld) (ix : List Nat) (v : Nat) : (s.set f ix v).vsx = s.vsx := rfl
@[simp] theorem State.set_lnk (s : State) (f : Fld) (ix : List Nat) (v : Nat) : (s.set f ix v).lnk = s.lnk := rfl
@[simp] theorem State.set_trunk (s : State) (f : Fld) (ix : List Nat) (v : Nat) : (s.set f ix v).trunk = s.trunk := rfl
@[simp] theorem State.set_fab (s : State) (f : Fld) (ix : List Nat) (v : Nat) : (s.set f ix v).fab = s.fab := rfl
@[simp] theorem State.set_mgr (s : State) (f : Fld) (ix : List Nat) (v : Nat) : (s.set f ix v).mgr = s.mgr := rfl
@[simp] theorem State.set_sec (s : State) (f : Fld) (ix : List Nat) (v : Nat) : (s.set f ix v).sec = s.sec := rfl
@[simp] theorem State.set_cpw (s : State) (f : Fld) (ix : List Nat) (v : Nat) : (s.set f ix v).cpw = s.cpw := rfl
@[simp] theorem State.set_dm (s : State) (f : Fld) (ix : List Nat) (v : Nat) : (s.set f ix v).dm = s.dm := rfl
@[simp] theorem State.set_mule (s : State) (f : Fld) (ix : List Nat) (v : Nat) : (s.set f ix v).mule = s.mule := rfl
@[simp] theorem State.set_flt (s : State) (f : Fld) (ix : List Nat) (v : Nat) : (s.set f ix v).flt = s.flt := rfl
@[simp] theorem State.set_perf (s : State) (f : Fld) (ix : List Nat) (v : Nat) : (s.set f ix v).perf = s.perf := rfl
@[simp] theorem State.set_journal (s : State) (f : Fld) (ix : List Nat) (v : Nat) : (s.set f ix v).journal = s.journal := rfl
@[simp] theorem State.set_msiWait (s : State) (f : Fld) (ix : List Nat) (v : Nat) : (s.set f ix v).msiWait = s.msiWait := rfl
@[simp] theorem State.set_sent (s : State) (f : Fld) (ix : List Nat) (v : Nat) : (s.set f ix v).sent = s.sent := rfl
@[simp] theorem State.set_pending (s : State) (f : Fld) (ix : List Nat) (v : Nat) : (s.set f ix v).pending = s.pending := rfl

/-! ### `State.setB` -/

@[simp] theorem State.setB_cfg (s : State) (f : Fld) (ix : List Nat) (b : Bool) : (s.setB f ix b).cfg = s.cfg := rfl
@[simp] theorem State.setB_mesh (s : State) (f : Fld) (ix : List Nat) (b : Bool) : (s.setB f ix b).mesh = s.mesh := rfl
@[simp] theorem State.setB_fwd (s : State) (f : Fld) (ix : List Nat) (b : Bool) : (s.setB f ix b).fwd = s.fwd := rfl
@[simp] theorem State.setB_shp (s : State) (f : Fld) (ix : List Nat) (b : Bool) : (s.setB f ix b).shp = s.shp := rfl
@[simp] theorem State.setB_vsx (s : State) (f : Fld) (ix : List Nat) (b : Bool) : (s.setB f ix b).vsx = s.vsx := rfl
@[simp] theorem State.setB_lnk (s : State) (f : Fld) (ix : List Nat) (b : Bool) : (s.setB f ix b).lnk = s.lnk := rfl
@[simp] theorem State.setB_trunk (s : State) (f : Fld) (ix : List Nat) (b : Bool) : (s.setB f ix b).trunk = s.trunk := rfl
@[simp] theorem State.setB_fab (s : State) (f : Fld) (ix : List Nat) (b : Bool) : (s.setB f ix b).fab = s.fab := rfl
@[simp] theorem State.setB_mgr (s : State) (f : Fld) (ix : List Nat) (b : Bool) : (s.setB f ix b).mgr = s.mgr := rfl
@[simp] theorem State.setB_sec (s : State) (f : Fld) (ix : List Nat) (b : Bool) : (s.setB f ix b).sec = s.sec := rfl
@[simp] theorem State.setB_cpw (s : State) (f : Fld) (ix : List Nat) (b : Bool) : (s.setB f ix b).cpw = s.cpw := rfl
@[simp] theorem State.setB_dm (s : State) (f : Fld) (ix : List Nat) (b : Bool) : (s.setB f ix b).dm = s.dm := rfl
@[simp] theorem State.setB_mule (s : State) (f : Fld) (ix : List Nat) (b : Bool) : (s.setB f ix b).mule = s.mule := rfl
@[simp] theorem State.setB_flt (s : State) (f : Fld) (ix : List Nat) (b : Bool) : (s.setB f ix b).flt = s.flt := rfl
@[simp] theorem State.setB_perf (s : State) (f : Fld) (ix : List Nat) (b : Bool) : (s.setB f ix b).perf = s.perf := rfl
@[simp] theorem State.setB_journal (s : State) (f : Fld) (ix : List Nat) (b : Bool) : (s.setB f ix b).journal = s.journal := rfl
@[simp] theorem State.setB_msiWait (s : State) (f : Fld) (ix : List Nat) (b : Bool) : (s.setB f ix b).msiWait = s.msiWait := rfl
@[simp] theorem State.setB_sent (s : State) (f : Fld) (ix : List Nat) (b : Bool) : (s.setB f ix b).sent = s.sent := rfl
@[simp] theorem State.setB_pending (s : State) (f : Fld) (ix : List Nat) (b : Bool) : (s.setB f ix b).pending = s.pending := rfl

/-! ### `State.bump` -/

@[simp] theorem State.bump_cfg (s : State) (f : Fld) (ix : List Nat) (n : Nat) : (s.bump f ix n).cfg = s.cfg := rfl
@[simp] theorem State.bump_mesh (s : State) (f : Fld) (ix : List Nat) (n : Nat) : (s.bump f ix n).mesh = s.mesh := rfl
@[simp] theorem State.bump_fwd (s : State) (f : Fld) (ix : List Nat) (n : Nat) : (s.bump f ix n).fwd = s.fwd := rfl
@[simp] theorem State.bump_shp (s : State) (f : Fld) (ix : List Nat) (n : Nat) : (s.bump f ix n).shp = s.shp := rfl
@[simp] theorem State.bump_vsx (s : State) (f : Fld) (ix : List Nat) (n : Nat) : (s.bump f ix n).vsx = s.vsx := rfl
@[simp] theorem State.bump_lnk (s : State) (f : Fld) (ix : List Nat) (n : Nat) : (s.bump f ix n).lnk = s.lnk := rfl
@[simp] theorem State.bump_trunk (s : State) (f : Fld) (ix : List Nat) (n : Nat) : (s.bump f ix n).trunk = s.trunk := rfl
@[simp] theorem State.bump_fab (s : State) (f : Fld) (ix : List Nat) (n : Nat) : (s.bump f ix n).fab = s.fab := rfl
@[simp] theorem State.bump_mgr (s : State) (f : Fld) (ix : List Nat) (n : Nat) : (s.bump f ix n).mgr = s.mgr := rfl
@[simp] theorem State.bump_sec (s : State) (f : Fld) (ix : List Nat) (n : Nat) : (s.bump f ix n).sec = s.sec := rfl
@[simp] theorem State.bump_cpw (s : State) (f : Fld) (ix : List Nat) (n : Nat) : (s.bump f ix n).cpw = s.cpw := rfl
@[simp] theorem State.bump_dm (s : State) (f : Fld) (ix : List Nat) (n : Nat) : (s.bump f ix n).dm = s.dm := rfl
@[simp] theorem State.bump_mule (s : State) (f : Fld) (ix : List Nat) (n : Nat) : (s.bump f ix n).mule = s.mule := rfl
@[simp] theorem State.bump_flt (s : State) (f : Fld) (ix : List Nat) (n : Nat) : (s.bump f ix n).flt = s.flt := rfl
@[simp] theorem State.bump_perf (s : State) (f : Fld) (ix : List Nat) (n : Nat) : (s.bump f ix n).perf = s.perf := rfl
@[simp] theorem State.bump_journal (s : State) (f : Fld) (ix : List Nat) (n : Nat) : (s.bump f ix n).journal = s.journal := rfl
@[simp] theorem State.bump_msiWait (s : State) (f : Fld) (ix : List Nat) (n : Nat) : (s.bump f ix n).msiWait = s.msiWait := rfl
@[simp] theorem State.bump_sent (s : State) (f : Fld) (ix : List Nat) (n : Nat) : (s.bump f ix n).sent = s.sent := rfl
@[simp] theorem State.bump_pending (s : State) (f : Fld) (ix : List Nat) (n : Nat) : (s.bump f ix n).pending = s.pending := rfl

/-! ### `State.incr` -/

@[simp] theorem State.incr_cfg (s : State) (f : Fld) (ix : List Nat) (n : Nat) : (s.incr f ix n).cfg = s.cfg := rfl
@[simp] theorem State.incr_mesh (s : State) (f : Fld) (ix : List Nat) (n : Nat) : (s.incr f ix n).mesh = s.mesh := rfl
@[simp] theorem State.incr_fwd (s : State) (f : Fld) (ix : List Nat) (n : Nat) : (s.incr f ix n).fwd = s.fwd := rfl
@[simp] theorem State.incr_shp (s : State) (f : Fld) (ix : List Nat) (n : Nat) : (s.incr f ix n).shp = s.shp := rfl
@[simp] theorem State.incr_vsx (s : State) (f : Fld) (ix : List Nat) (n : Nat) : (s.incr f ix n).vsx = s.vsx := rfl
@[simp] theorem State.incr_lnk (s : State) (f : Fld) (ix : List Nat) (n : Nat) : (s.incr f ix n).lnk = s.lnk := rfl
@[simp] theorem State.incr_trunk (s : State) (f : Fld) (ix : List Nat) (n : Nat) : (s.incr f ix n).trunk = s.trunk := rfl
@[simp] theorem State.incr_fab (s : State) (f : Fld) (ix : List Nat) (n : Nat) : (s.incr f ix n).fab = s.fab := rfl
@[simp] theorem State.incr_mgr (s : State) (f : Fld) (ix : List Nat) (n : Nat) : (s.incr f ix n).mgr = s.mgr := rfl
@[simp] theorem State.incr_sec (s : State) (f : Fld) (ix : List Nat) (n : Nat) : (s.incr f ix n).sec = s.sec := rfl
@[simp] theorem State.incr_cpw (s : State) (f : Fld) (ix : List Nat) (n : Nat) : (s.incr f ix n).cpw = s.cpw := rfl
@[simp] theorem State.incr_dm (s : State) (f : Fld) (ix : List Nat) (n : Nat) : (s.incr f ix n).dm = s.dm := rfl
@[simp] theorem State.incr_mule (s : State) (f : Fld) (ix : List Nat) (n : Nat) : (s.incr f ix n).mule = s.mule := rfl
@[simp] theorem State.incr_flt (s : State) (f : Fld) (ix : List Nat) (n : Nat) : (s.incr f ix n).flt = s.flt := rfl
@[simp] theorem State.incr_perf (s : State) (f : Fld) (ix : List Nat) (n : Nat) : (s.incr f ix n).perf = s.perf := rfl
@[simp] theorem State.incr_journal (s : State) (f : Fld) (ix : List Nat) (n : Nat) : (s.incr f ix n).journal = s.journal := rfl
@[simp] theorem State.incr_msiWait (s : State) (f : Fld) (ix : List Nat) (n : Nat) : (s.incr f ix n).msiWait = s.msiWait := rfl
@[simp] theorem State.incr_sent (s : State) (f : Fld) (ix : List Nat) (n : Nat) : (s.incr f ix n).sent = s.sent := rfl
@[simp] theorem State.incr_pending (s : State) (f : Fld) (ix : List Nat) (n : Nat) : (s.incr f ix n).pending = s.pending := rfl

/-! ### `State.pset` -/

@[simp] theorem State.pset_cfg (s : State) (f : Fld) (p v : Nat) : (s.pset f p v).cfg = s.cfg := rfl
@[simp] theorem State.pset_mesh (s : State) (f : Fld) (p v : Nat) : (s.pset f p v).mesh = s.mesh := rfl
@[simp] theorem State.pset_fwd (s : State) (f : Fld) (p v : Nat) : (s.pset f p v).fwd = s.fwd := rfl
@[simp] theorem State.pset_shp (s : State) (f : Fld) (p v : Nat) : (s.pset f p v).shp = s.shp := rfl
@[simp] theorem State.pset_vsx (s : State) (f : Fld) (p v : Nat) : (s.pset f p v).vsx = s.vsx := rfl
@[simp] theorem State.pset_lnk (s : State) (f : Fld) (p v : Nat) : (s.pset f p v).lnk = s.lnk := rfl
@[simp] theorem State.pset_trunk (s : State) (f : Fld) (p v : Nat) : (s.pset f p v).trunk = s.trunk := rfl
@[simp] theorem State.pset_fab (s : State) (f : Fld) (p v : Nat) : (s.pset f p v).fab = s.fab := rfl
@[simp] theorem State.pset_mgr (s : State) (f : Fld) (p v : Nat) : (s.pset f p v).mgr = s.mgr := rfl
@[simp] theorem State.pset_sec (s : State) (f : Fld) (p v : Nat) : (s.pset f p v).sec = s.sec := rfl
@[simp] theorem State.pset_cpw (s : State) (f : Fld) (p v : Nat) : (s.pset f p v).cpw = s.cpw := rfl
@[simp] theorem State.pset_dm (s : State) (f : Fld) (p v : Nat) : (s.pset f p v).dm = s.dm := rfl
@[simp] theorem State.pset_mule (s : State) (f : Fld) (p v : Nat) : (s.pset f p v).mule = s.mule := rfl
@[simp] theorem State.pset_flt (s : State) (f : Fld) (p v : Nat) : (s.pset f p v).flt = s.flt := rfl
@[simp] theorem State.pset_perf (s : State) (f : Fld) (p v : Nat) : (s.pset f p v).perf = s.perf := rfl
@[simp] theorem State.pset_journal (s : State) (f : Fld) (p v : Nat) : (s.pset f p v).journal = s.journal := rfl
@[simp] theorem State.pset_msiWait (s : State) (f : Fld) (p v : Nat) : (s.pset f p v).msiWait = s.msiWait := rfl
@[simp] theorem State.pset_sent (s : State) (f : Fld) (p v : Nat) : (s.pset f p v).sent = s.sent := rfl
@[simp] theorem State.pset_pending (s : State) (f : Fld) (p v : Nat) : (s.pset f p v).pending = s.pending := rfl

/-! ### `State.resetReg` -/

@[simp] theorem State.resetReg_regs (s : State) (r : Reg) : (s.resetReg r).regs = s.regs.del r := rfl
@[simp] theorem State.resetReg_cfg (s : State) (r : Reg) : (s.resetReg r).cfg = s.cfg := rfl
@[simp] theorem State.resetReg_mesh (s : State) (r : Reg) : (s.resetReg r).mesh = s.mesh := rfl
@[simp] theorem State.resetReg_fwd (s : State) (r : Reg) : (s.resetReg r).fwd = s.fwd := rfl
@[simp] theorem State.resetReg_shp (s : State) (r : Reg) : (s.resetReg r).shp = s.shp := rfl
@[simp] theorem State.resetReg_vsx (s : State) (r : Reg) : (s.resetReg r).vsx = s.vsx := rfl
@[simp] theorem State.resetReg_lnk (s : State) (r : Reg) : (s.resetReg r).lnk = s.lnk := rfl
@[simp] theorem State.resetReg_trunk (s : State) (r : Reg) : (s.resetReg r).trunk = s.trunk := rfl
@[simp] theorem State.resetReg_fab (s : State) (r : Reg) : (s.resetReg r).fab = s.fab := rfl
@[simp] theorem State.resetReg_mgr (s : State) (r : Reg) : (s.resetReg r).mgr = s.mgr := rfl
@[simp] theorem State.resetReg_sec (s : State) (r : Reg) : (s.resetReg r).sec = s.sec := rfl
@[simp] theorem State.resetReg_cpw (s : State) (r : Reg) : (s.resetReg r).cpw = s.cpw := rfl
@[simp] theorem State.resetReg_dm (s : State) (r : Reg) : (s.resetReg r).dm = s.dm := rfl
@[simp] theorem State.resetReg_mule (s : State) (r : Reg) : (s.resetReg r).mule = s.mule := rfl
@[simp] theorem State.resetReg_flt (s : State) (r : Reg) : (s.resetReg r).flt = s.flt := rfl
@[simp] theorem State.resetReg_perf (s : State) (r : Reg) : (s.resetReg r).perf = s.perf := rfl
@[simp] theorem State.resetReg_journal (s : State) (r : Reg) : (s.resetReg r).journal = s.journal := rfl
@[simp] theorem State.resetReg_msiWait (s : State) (r : Reg) : (s.resetReg r).msiWait = s.msiWait := rfl
@[simp] theorem State.resetReg_sent (s : State) (r : Reg) : (s.resetReg r).sent = s.sent := rfl
@[simp] theorem State.resetReg_pending (s : State) (r : Reg) : (s.resetReg r).pending = s.pending := rfl

/-! ### `State.clearRegs` -/

@[simp] theorem State.clearRegs_regs (s : State) (p : Reg → Bool) : (s.clearRegs p).regs = s.regs.filter (fun e => !p e.1) := rfl
@[simp] theorem State.clearRegs_cfg (s : State) (p : Reg → Bool) : (s.clearRegs p).cfg = s.cfg := rfl
@[simp] theorem State.clearRegs_mesh (s : State) (p : Reg → Bool) : (s.clearRegs p).mesh = s.mesh := rfl
@[simp] theorem State.clearRegs_fwd (s : State) (p : Reg → Bool) : (s.clearRegs p).fwd = s.fwd := rfl
@[simp] theorem State.clearRegs_shp (s : State) (p : Reg → Bool) : (s.clearRegs p).shp = s.shp := rfl
@[simp] theorem State.clearRegs_vsx (s : State) (p : Reg → Bool) : (s.clearRegs p).vsx = s.vsx := rfl
@[simp] theorem State.clearRegs_lnk (s : State) (p : Reg → Bool) : (s.clearRegs p).lnk = s.lnk := rfl
@[simp] theorem State.clearRegs_trunk (s : State) (p : Reg → Bool) : (s.clearRegs p).trunk = s.trunk := rfl
@[simp] theorem State.clearRegs_fab (s : State) (p : Reg → Bool) : (s.clearRegs p).fab = s.fab := rfl
@[simp] theorem State.clearRegs_mgr (s : State) (p : Reg → Bool) : (s.clearRegs p).mgr = s.mgr := rfl
@[simp] theorem State.clearRegs_sec (s : State) (p : Reg → Bool) : (s.clearRegs p).sec = s.sec := rfl
@[simp] theorem State.clearRegs_cpw (s : State) (p : Reg → Bool) : (s.clearRegs p).cpw = s.cpw := rfl
@[simp] theorem State.clearRegs_dm (s : State) (p : Reg → Bool) : (s.clearRegs p).dm = s.dm := rfl
@[simp] theorem State.clearRegs_mule (s : State) (p : Reg → Bool) : (s.clearRegs p).mule = s.mule := rfl
@[simp] theorem State.clearRegs_flt (s : State) (p : Reg → Bool) : (s.clearRegs p).flt = s.flt := rfl
@[simp] theorem State.clearRegs_perf (s : State) (p : Reg → Bool) : (s.clearRegs p).perf = s.perf := rfl
@[simp] theorem State.clearRegs_journal (s : State) (p : Reg → Bool) : (s.clearRegs p).journal = s.journal := rfl
@[simp] theorem State.clearRegs_msiWait (s : State) (p : Reg → Bool) : (s.clearRegs p).msiWait = s.msiWait := rfl
@[simp] theorem State.clearRegs_sent (s : State) (p : Reg → Bool) : (s.clearRegs p).sent = s.sent := rfl
@[simp] theorem State.clearRegs_pending (s : State) (p : Reg → Bool) : (s.clearRegs p).pending = s.pending := rfl

/-! ### `State.updInt` -/

@[simp] theorem State.updInt_cfg (s : State) (x : Trip) : (s.updInt x).cfg = s.cfg := rfl
@[simp] theorem State.updInt_mesh (s : State) (x : Trip) : (s.updInt x).mesh = s.mesh := rfl
@[simp] theorem State.updInt_fwd (s : State) (x : Trip) : (s.updInt x).fwd = s.fwd := rfl
@[simp] theorem State.updInt_shp (s : State) (x : Trip) : (s.updInt x).shp = s.shp := rfl
@[simp] theorem State.updInt_vsx (s : State) (x : Trip) : (s.updInt x).vsx = s.vsx := rfl
@[simp] theorem State.updInt_lnk (s : State) (x : Trip) : (s.updInt x).lnk = s.lnk := rfl
@[simp] theorem State.updInt_trunk (s : State) (x : Trip) : (s.updInt x).trunk = s.trunk := rfl
@[simp] theorem State.updInt_fab (s : State) (x : Trip) : (s.updInt x).fab = s.fab := rfl
@[simp] theorem State.updInt_mgr (s : State) (x : Trip) : (s.updInt x).mgr = s.mgr := rfl
@[simp] theorem State.updInt_sec (s : State) (x : Trip) : (s.updInt x).sec = s.sec := rfl
@[simp] theorem State.updInt_cpw (s : State) (x : Trip) : (s.updInt x).cpw = s.cpw := rfl
@[simp] theorem State.updInt_dm (s : State) (x : Trip) : (s.updInt x).dm = s.dm := rfl
@[simp] theorem State.updInt_mule (s : State) (x : Trip) : (s.updInt x).mule = s.mule := rfl
@[simp] theorem State.updInt_flt (s : State) (x : Trip) : (s.updInt x).flt = s.flt := rfl
@[simp] theorem State.updInt_perf (s : State) (x : Trip) : (s.updInt x).perf = s.perf := rfl
@[simp] theorem State.updInt_journal (s : State) (x : Trip) : (s.updInt x).journal = s.journal := rfl
@[simp] theorem State.updInt_msiWait (s : State) (x : Trip) : (s.updInt x).msiWait = s.msiWait := rfl
@[simp] theorem State.updInt_sent (s : State) (x : Trip) : (s.updInt x).sent = s.sent := rfl
@[simp] theorem State.updInt_pending (s : State) (x : Trip) : (s.updInt x).pending = s.pending := rfl

/-! ### `State.cfSet` -/

@[simp] theorem State.cfSet_regs (s : State) (fn : FnId) (f : CfgF) (v : Nat) : (s.cfSet fn f v).regs = s.regs := rfl
@[simp] theorem State.cfSet_cfg (s : State) (fn : FnId) (f : CfgF) (v : Nat) : (s.cfSet fn f v).cfg = s.cfg.put (fn, f) v := rfl
@[simp] theorem State.cfSet_mesh (s : State) (fn : FnId) (f : CfgF) (v : Nat) : (s.cfSet fn f v).mesh = s.mesh := rfl
@[simp] theorem State.cfSet_fwd (s : State) (fn : FnId) (f : CfgF) (v : Nat) : (s.cfSet fn f v).fwd = s.fwd := rfl
@[simp] theorem State.cfSet_shp (s : State) (fn : FnId) (f : CfgF) (v : Nat) : (s.cfSet fn f v).shp = s.shp := rfl
@[simp] theorem State.cfSet_vsx (s : State) (fn : FnId) (f : CfgF) (v : Nat) : (s.cfSet fn f v).vsx = s.vsx := rfl
@[simp] theorem State.cfSet_lnk (s : State) (fn : FnId) (f : CfgF) (v : Nat) : (s.cfSet fn f v).lnk = s.lnk := rfl
@[simp] theorem State.cfSet_trunk (s : State) (fn : FnId) (f : CfgF) (v : Nat) : (s.cfSet fn f v).trunk = s.trunk := rfl
@[simp] theorem State.cfSet_fab (s : State) (fn : FnId) (f : CfgF) (v : Nat) : (s.cfSet fn f v).fab = s.fab := rfl
@[simp] theorem State.cfSet_mgr (s : State) (fn : FnId) (f : CfgF) (v : Nat) : (s.cfSet fn f v).mgr = s.mgr := rfl
@[simp] theorem State.cfSet_sec (s : State) (fn : FnId) (f : CfgF) (v : Nat) : (s.cfSet fn f v).sec = s.sec := rfl
@[simp] theorem State.cfSet_cpw (s : State) (fn : FnId) (f : CfgF) (v : Nat) : (s.cfSet fn f v).cpw = s.cpw := rfl
@[simp] theorem State.cfSet_dm (s : State) (fn : FnId) (f : CfgF) (v : Nat) : (s.cfSet fn f v).dm = s.dm := rfl
@[simp] theorem State.cfSet_mule (s : State) (fn : FnId) (f : CfgF) (v : Nat) : (s.cfSet fn f v).mule = s.mule := rfl
@[simp] theorem State.cfSet_flt (s : State) (fn : FnId) (f : CfgF) (v : Nat) : (s.cfSet fn f v).flt = s.flt := rfl
@[simp] theorem State.cfSet_perf (s : State) (fn : FnId) (f : CfgF) (v : Nat) : (s.cfSet fn f v).perf = s.perf := rfl
@[simp] theorem State.cfSet_journal (s : State) (fn : FnId) (f : CfgF) (v : Nat) : (s.cfSet fn f v).journal = s.journal := rfl
@[simp] theorem State.cfSet_msiWait (s : State) (fn : FnId) (f : CfgF) (v : Nat) : (s.cfSet fn f v).msiWait = s.msiWait := rfl
@[simp] theorem State.cfSet_sent (s : State) (fn : FnId) (f : CfgF) (v : Nat) : (s.cfSet fn f v).sent = s.sent := rfl
@[simp] theorem State.cfSet_pending (s : State) (fn : FnId) (f : CfgF) (v : Nat) : (s.cfSet fn f v).pending = s.pending := rfl

/-! ### `State.cfReset` -/

@[simp] theorem State.cfReset_regs (s : State) (p : FnId → Bool) (k : Bool) : (s.cfReset p k).regs = s.regs := rfl
@[simp] theorem State.cfReset_mesh (s : State) (p : FnId → Bool) (k : Bool) : (s.cfReset p k).mesh = s.mesh := rfl
@[simp] theorem State.cfReset_fwd (s : State) (p : FnId → Bool) (k : Bool) : (s.cfReset p k).fwd = s.fwd := rfl
@[simp] theorem State.cfReset_shp (s : State) (p : FnId → Bool) (k : Bool) : (s.cfReset p k).shp = s.shp := rfl
@[simp] theorem State.cfReset_vsx (s : State) (p : FnId → Bool) (k : Bool) : (s.cfReset p k).vsx = s.vsx := rfl
@[simp] theorem State.cfReset_lnk (s : State) (p : FnId → Bool) (k : Bool) : (s.cfReset p k).lnk = s.lnk := rfl
@[simp] theorem State.cfReset_trunk (s : State) (p : FnId → Bool) (k : Bool) : (s.cfReset p k).trunk = s.trunk := rfl
@[simp] theorem State.cfReset_fab (s : State) (p : FnId → Bool) (k : Bool) : (s.cfReset p k).fab = s.fab := rfl
@[simp] theorem State.cfReset_mgr (s : State) (p : FnId → Bool) (k : Bool) : (s.cfReset p k).mgr = s.mgr := rfl
@[simp] theorem State.cfReset_sec (s : State) (p : FnId → Bool) (k : Bool) : (s.cfReset p k).sec = s.sec := rfl
@[simp] theorem State.cfReset_cpw (s : State) (p : FnId → Bool) (k : Bool) : (s.cfReset p k).cpw = s.cpw := rfl
@[simp] theorem State.cfReset_dm (s : State) (p : FnId → Bool) (k : Bool) : (s.cfReset p k).dm = s.dm := rfl
@[simp] theorem State.cfReset_mule (s : State) (p : FnId → Bool) (k : Bool) : (s.cfReset p k).mule = s.mule := rfl
@[simp] theorem State.cfReset_flt (s : State) (p : FnId → Bool) (k : Bool) : (s.cfReset p k).flt = s.flt := rfl
@[simp] theorem State.cfReset_perf (s : State) (p : FnId → Bool) (k : Bool) : (s.cfReset p k).perf = s.perf := rfl
@[simp] theorem State.cfReset_journal (s : State) (p : FnId → Bool) (k : Bool) : (s.cfReset p k).journal = s.journal := rfl
@[simp] theorem State.cfReset_msiWait (s : State) (p : FnId → Bool) (k : Bool) : (s.cfReset p k).msiWait = s.msiWait := rfl
@[simp] theorem State.cfReset_sent (s : State) (p : FnId → Bool) (k : Bool) : (s.cfReset p k).sent = s.sent := rfl
@[simp] theorem State.cfReset_pending (s : State) (p : FnId → Bool) (k : Bool) : (s.cfReset p k).pending = s.pending := rfl

/-! ### `State.emit` -/

@[simp] theorem State.emit_regs (s : State) (o : Out) : (s.emit o).regs = s.regs := rfl
@[simp] theorem State.emit_cfg (s : State) (o : Out) : (s.emit o).cfg = s.cfg := rfl
@[simp] theorem State.emit_mesh (s : State) (o : Out) : (s.emit o).mesh = s.mesh := rfl
@[simp] theorem State.emit_fwd (s : State) (o : Out) : (s.emit o).fwd = s.fwd := rfl
@[simp] theorem State.emit_shp (s : State) (o : Out) : (s.emit o).shp = s.shp := rfl
@[simp] theorem State.emit_vsx (s : State) (o : Out) : (s.emit o).vsx = s.vsx := rfl
@[simp] theorem State.emit_lnk (s : State) (o : Out) : (s.emit o).lnk = s.lnk := rfl
@[simp] theorem State.emit_trunk (s : State) (o : Out) : (s.emit o).trunk = s.trunk := rfl
@[simp] theorem State.emit_fab (s : State) (o : Out) : (s.emit o).fab = s.fab := rfl
@[simp] theorem State.emit_mgr (s : State) (o : Out) : (s.emit o).mgr = s.mgr := rfl
@[simp] theorem State.emit_sec (s : State) (o : Out) : (s.emit o).sec = s.sec := rfl
@[simp] theorem State.emit_cpw (s : State) (o : Out) : (s.emit o).cpw = s.cpw := rfl
@[simp] theorem State.emit_dm (s : State) (o : Out) : (s.emit o).dm = s.dm := rfl
@[simp] theorem State.emit_mule (s : State) (o : Out) : (s.emit o).mule = s.mule := rfl
@[simp] theorem State.emit_flt (s : State) (o : Out) : (s.emit o).flt = s.flt := rfl
@[simp] theorem State.emit_perf (s : State) (o : Out) : (s.emit o).perf = s.perf := rfl
@[simp] theorem State.emit_journal (s : State) (o : Out) : (s.emit o).journal = s.journal := rfl
@[simp] theorem State.emit_msiWait (s : State) (o : Out) : (s.emit o).msiWait = s.msiWait := rfl
@[simp] theorem State.emit_sent (s : State) (o : Out) : (s.emit o).sent = s.sent ++ [o] := rfl
@[simp] theorem State.emit_pending (s : State) (o : Out) : (s.emit o).pending = s.pending := rfl

/-! ### `State.withPending` -/

@[simp] theorem State.withPending_regs (s : State) (q : List Instr) : (s.withPending q).regs = s.regs := rfl
@[simp] theorem State.withPending_cfg (s : State) (q : List Instr) : (s.withPending q).cfg = s.cfg := rfl
@[simp] theorem State.withPending_mesh (s : State) (q : List Instr) : (s.withPending q).mesh = s.mesh := rfl
@[simp] theorem State.withPending_fwd (s : State) (q : List Instr) : (s.withPending q).fwd = s.fwd := rfl
@[simp] theorem State.withPending_shp (s : State) (q : List Instr) : (s.withPending q).shp = s.shp := rfl
@[simp] theorem State.withPending_vsx (s : State) (q : List Instr) : (s.withPending q).vsx = s.vsx := rfl
@[simp] theorem State.withPending_lnk (s : State) (q : List Instr) : (s.withPending q).lnk = s.lnk := rfl
@[simp] theorem State.withPending_trunk (s : State) (q : List Instr) : (s.withPending q).trunk = s.trunk := rfl
@[simp] theorem State.withPending_fab (s : State) (q : List Instr) : (s.withPending q).fab = s.fab := rfl
@[simp] theorem State.withPending_mgr (s : State) (q : List Instr) : (s.withPending q).mgr = s.mgr := rfl
@[simp] theorem State.withPending_sec (s : State) (q : List Instr) : (s.withPending q).sec = s.sec := rfl
@[simp] theorem State.withPending_cpw (s : State) (q : List Instr) : (s.withPending q).cpw = s.cpw := rfl
@[simp] theorem State.withPending_dm (s : State) (q : List Instr) : (s.withPending q).dm = s.dm := rfl
@[simp] theorem State.withPending_mule (s : State) (q : List Instr) : (s.withPending q).mule = s.mule := rfl
@[simp] theorem State.withPending_flt (s : State) (q : List Instr) : (s.withPending q).flt = s.flt := rfl
@[simp] theorem State.withPending_perf (s : State) (q : List Instr) : (s.withPending q).perf = s.perf := rfl
@[simp] theorem State.withPending_journal (s : State) (q : List Instr) : (s.withPending q).journal = s.journal := rfl
@[simp] theorem State.withPending_msiWait (s : State) (q : List Instr) : (s.withPending q).msiWait = s.msiWait := rfl
@[simp] theorem State.withPending_sent (s : State) (q : List Instr) : (s.withPending q).sent = s.sent := rfl
@[simp] theorem State.withPending_pending (s : State) (q : List Instr) : (s.withPending q).pending = q := rfl

/-! ### `State.setLeakAt` -/

@[simp] theorem State.setLeakAt_regs (s : State) (a b c t : Nat) : (s.setLeakAt a b c t).regs = s.regs := rfl
@[simp] theorem State.setLeakAt_cfg (s : State) (a b c t : Nat) : (s.setLeakAt a b c t).cfg = s.cfg := rfl
@[simp] theorem State.setLeakAt_mesh (s : State) (a b c t : Nat) : (s.setLeakAt a b c t).mesh = s.mesh := rfl
@[simp] theorem State.setLeakAt_fwd (s : State) (a b c t : Nat) : (s.setLeakAt a b c t).fwd = s.fwd := rfl
@[simp] theorem State.setLeakAt_shp (s : State) (a b c t : Nat) : (s.setLeakAt a b c t).shp = s.shp := rfl
@[simp] theorem State.setLeakAt_vsx (s : State) (a b c t : Nat) : (s.setLeakAt a b c t).vsx = s.vsx := rfl
@[simp] theorem State.setLeakAt_lnk (s : State) (a b c t : Nat) : (s.setLeakAt a b c t).lnk = s.lnk := rfl
@[simp] theorem State.setLeakAt_trunk (s : State) (a b c t : Nat) : (s.setLeakAt a b c t).trunk = s.trunk := rfl
@[simp] theorem State.setLeakAt_fab (s : State) (a b c t : Nat) : (s.setLeakAt a b c t).fab = s.fab := rfl
@[simp] theorem State.setLeakAt_mgr (s : State) (a b c t : Nat) : (s.setLeakAt a b c t).mgr = s.mgr := rfl
@[simp] theorem State.setLeakAt_sec (s : State) (a b c t : Nat) : (s.setLeakAt a b c t).sec = s.sec := rfl
@[simp] theorem State.setLeakAt_cpw (s : State) (a b c t : Nat) : (s.setLeakAt a b c t).cpw = s.cpw := rfl
@[simp] theorem State.setLeakAt_dm (s : State) (a b c t : Nat) : (s.setLeakAt a b c t).dm = s.dm := rfl
@[simp] theorem State.setLeakAt_mule (s : State) (a b c t : Nat) : (s.setLeakAt a b c t).mule = s.mule := rfl
@[simp] theorem State.setLeakAt_perf (s : State) (a b c t : Nat) : (s.setLeakAt a b c t).perf = s.perf := rfl
@[simp] theorem State.setLeakAt_journal (s : State) (a b c t : Nat) : (s.setLeakAt a b c t).journal = s.journal := rfl
@[simp] theorem State.setLeakAt_msiWait (s : State) (a b c t : Nat) : (s.setLeakAt a b c t).msiWait = s.msiWait := rfl
@[simp] theorem State.setLeakAt_sent (s : State) (a b c t : Nat) : (s.setLeakAt a b c t).sent = s.sent := rfl
@[simp] theorem State.setLeakAt_pending (s : State) (a b c t : Nat) : (s.setLeakAt a b c t).pending = s.pending := rfl

/-! ### `State.tkUp` -/

@[simp] theorem State.tkUp_regs (s : State) (j : Nat) (f : TrunkSt → TrunkSt) : (s.tkUp j f).regs = s.regs := rfl
@[simp] theorem State.tkUp_cfg (s : State) (j : Nat) (f : TrunkSt → TrunkSt) : (s.tkUp j f).cfg = s.cfg := rfl
@[simp] theorem State.tkUp_mesh (s : State) (j : Nat) (f : TrunkSt → TrunkSt) : (s.tkUp j f).mesh = s.mesh := rfl
@[simp] theorem State.tkUp_fwd (s : State) (j : Nat) (f : TrunkSt → TrunkSt) : (s.tkUp j f).fwd = s.fwd := rfl
@[simp] theorem State.tkUp_shp (s : State) (j : Nat) (f : TrunkSt → TrunkSt) : (s.tkUp j f).shp = s.shp := rfl
@[simp] theorem State.tkUp_vsx (s : State) (j : Nat) (f : TrunkSt → TrunkSt) : (s.tkUp j f).vsx = s.vsx := rfl
@[simp] theorem State.tkUp_lnk (s : State) (j : Nat) (f : TrunkSt → TrunkSt) : (s.tkUp j f).lnk = s.lnk := rfl
@[simp] theorem State.tkUp_trunk (s : State) (j : Nat) (f : TrunkSt → TrunkSt) : (s.tkUp j f).trunk = s.trunk.put j (f (s.tk j)) := rfl
@[simp] theorem State.tkUp_fab (s : State) (j : Nat) (f : TrunkSt → TrunkSt) : (s.tkUp j f).fab = s.fab := rfl
@[simp] theorem State.tkUp_mgr (s : State) (j : Nat) (f : TrunkSt → TrunkSt) : (s.tkUp j f).mgr = s.mgr := rfl
@[simp] theorem State.tkUp_sec (s : State) (j : Nat) (f : TrunkSt → TrunkSt) : (s.tkUp j f).sec = s.sec := rfl
@[simp] theorem State.tkUp_cpw (s : State) (j : Nat) (f : TrunkSt → TrunkSt) : (s.tkUp j f).cpw = s.cpw := rfl
@[simp] theorem State.tkUp_dm (s : State) (j : Nat) (f : TrunkSt → TrunkSt) : (s.tkUp j f).dm = s.dm := rfl
@[simp] theorem State.tkUp_mule (s : State) (j : Nat) (f : TrunkSt → TrunkSt) : (s.tkUp j f).mule = s.mule := rfl
@[simp] theorem State.tkUp_flt (s : State) (j : Nat) (f : TrunkSt → TrunkSt) : (s.tkUp j f).flt = s.flt := rfl
@[simp] theorem State.tkUp_perf (s : State) (j : Nat) (f : TrunkSt → TrunkSt) : (s.tkUp j f).perf = s.perf := rfl
@[simp] theorem State.tkUp_journal (s : State) (j : Nat) (f : TrunkSt → TrunkSt) : (s.tkUp j f).journal = s.journal := rfl
@[simp] theorem State.tkUp_msiWait (s : State) (j : Nat) (f : TrunkSt → TrunkSt) : (s.tkUp j f).msiWait = s.msiWait := rfl
@[simp] theorem State.tkUp_sent (s : State) (j : Nat) (f : TrunkSt → TrunkSt) : (s.tkUp j f).sent = s.sent := rfl
@[simp] theorem State.tkUp_pending (s : State) (j : Nat) (f : TrunkSt → TrunkSt) : (s.tkUp j f).pending = s.pending := rfl

/-! ### `State.meshUp` -/

@[simp] theorem State.meshUp_regs (s : State) (f : Mesh → Mesh) : (s.meshUp f).regs = s.regs := rfl
@[simp] theorem State.meshUp_cfg (s : State) (f : Mesh → Mesh) : (s.meshUp f).cfg = s.cfg := rfl
@[simp] theorem State.meshUp_mesh (s : State) (f : Mesh → Mesh) : (s.meshUp f).mesh = f s.mesh := rfl
@[simp] theorem State.meshUp_fwd (s : State) (f : Mesh → Mesh) : (s.meshUp f).fwd = s.fwd := rfl
@[simp] theorem State.meshUp_shp (s : State) (f : Mesh → Mesh) : (s.meshUp f).shp = s.shp := rfl
@[simp] theorem State.meshUp_vsx (s : State) (f : Mesh → Mesh) : (s.meshUp f).vsx = s.vsx := rfl
@[simp] theorem State.meshUp_lnk (s : State) (f : Mesh → Mesh) : (s.meshUp f).lnk = s.lnk := rfl
@[simp] theorem State.meshUp_trunk (s : State) (f : Mesh → Mesh) : (s.meshUp f).trunk = s.trunk := rfl
@[simp] theorem State.meshUp_fab (s : State) (f : Mesh → Mesh) : (s.meshUp f).fab = s.fab := rfl
@[simp] theorem State.meshUp_mgr (s : State) (f : Mesh → Mesh) : (s.meshUp f).mgr = s.mgr := rfl
@[simp] theorem State.meshUp_sec (s : State) (f : Mesh → Mesh) : (s.meshUp f).sec = s.sec := rfl
@[simp] theorem State.meshUp_cpw (s : State) (f : Mesh → Mesh) : (s.meshUp f).cpw = s.cpw := rfl
@[simp] theorem State.meshUp_dm (s : State) (f : Mesh → Mesh) : (s.meshUp f).dm = s.dm := rfl
@[simp] theorem State.meshUp_mule (s : State) (f : Mesh → Mesh) : (s.meshUp f).mule = s.mule := rfl
@[simp] theorem State.meshUp_flt (s : State) (f : Mesh → Mesh) : (s.meshUp f).flt = s.flt := rfl
@[simp] theorem State.meshUp_perf (s : State) (f : Mesh → Mesh) : (s.meshUp f).perf = s.perf := rfl
@[simp] theorem State.meshUp_journal (s : State) (f : Mesh → Mesh) : (s.meshUp f).journal = s.journal := rfl
@[simp] theorem State.meshUp_msiWait (s : State) (f : Mesh → Mesh) : (s.meshUp f).msiWait = s.msiWait := rfl
@[simp] theorem State.meshUp_sent (s : State) (f : Mesh → Mesh) : (s.meshUp f).sent = s.sent := rfl
@[simp] theorem State.meshUp_pending (s : State) (f : Mesh → Mesh) : (s.meshUp f).pending = s.pending := rfl

/-! ### `State.fwdUp` -/

@[simp] theorem State.fwdUp_regs (s : State) (f : FwdSt → FwdSt) : (s.fwdUp f).regs = s.regs := rfl
@[simp] theorem State.fwdUp_cfg (s : State) (f : FwdSt → FwdSt) : (s.fwdUp f).cfg = s.cfg := rfl
@[simp] theorem State.fwdUp_mesh (s : State) (f : FwdSt → FwdSt) : (s.fwdUp f).mesh = s.mesh := rfl
@[simp] theorem State.fwdUp_fwd (s : State) (f : FwdSt → FwdSt) : (s.fwdUp f).fwd = f s.fwd := rfl
@[simp] theorem State.fwdUp_shp (s : State) (f : FwdSt → FwdSt) : (s.fwdUp f).shp = s.shp := rfl
@[simp] theorem State.fwdUp_vsx (s : State) (f : FwdSt → FwdSt) : (s.fwdUp f).vsx = s.vsx := rfl
@[simp] theorem State.fwdUp_lnk (s : State) (f : FwdSt → FwdSt) : (s.fwdUp f).lnk = s.lnk := rfl
@[simp] theorem State.fwdUp_trunk (s : State) (f : FwdSt → FwdSt) : (s.fwdUp f).trunk = s.trunk := rfl
@[simp] theorem State.fwdUp_fab (s : State) (f : FwdSt → FwdSt) : (s.fwdUp f).fab = s.fab := rfl
@[simp] theorem State.fwdUp_mgr (s : State) (f : FwdSt → FwdSt) : (s.fwdUp f).mgr = s.mgr := rfl
@[simp] theorem State.fwdUp_sec (s : State) (f : FwdSt → FwdSt) : (s.fwdUp f).sec = s.sec := rfl
@[simp] theorem State.fwdUp_cpw (s : State) (f : FwdSt → FwdSt) : (s.fwdUp f).cpw = s.cpw := rfl
@[simp] theorem State.fwdUp_dm (s : State) (f : FwdSt → FwdSt) : (s.fwdUp f).dm = s.dm := rfl
@[simp] theorem State.fwdUp_mule (s : State) (f : FwdSt → FwdSt) : (s.fwdUp f).mule = s.mule := rfl
@[simp] theorem State.fwdUp_flt (s : State) (f : FwdSt → FwdSt) : (s.fwdUp f).flt = s.flt := rfl
@[simp] theorem State.fwdUp_perf (s : State) (f : FwdSt → FwdSt) : (s.fwdUp f).perf = s.perf := rfl
@[simp] theorem State.fwdUp_journal (s : State) (f : FwdSt → FwdSt) : (s.fwdUp f).journal = s.journal := rfl
@[simp] theorem State.fwdUp_msiWait (s : State) (f : FwdSt → FwdSt) : (s.fwdUp f).msiWait = s.msiWait := rfl
@[simp] theorem State.fwdUp_sent (s : State) (f : FwdSt → FwdSt) : (s.fwdUp f).sent = s.sent := rfl
@[simp] theorem State.fwdUp_pending (s : State) (f : FwdSt → FwdSt) : (s.fwdUp f).pending = s.pending := rfl

/-! ### `State.lnkUp` -/

@[simp] theorem State.lnkUp_regs (s : State) (f : LnkSt → LnkSt) : (s.lnkUp f).regs = s.regs := rfl
@[simp] theorem State.lnkUp_cfg (s : State) (f : LnkSt → LnkSt) : (s.lnkUp f).cfg = s.cfg := rfl
@[simp] theorem State.lnkUp_mesh (s : State) (f : LnkSt → LnkSt) : (s.lnkUp f).mesh = s.mesh := rfl
@[simp] theorem State.lnkUp_fwd (s : State) (f : LnkSt → LnkSt) : (s.lnkUp f).fwd = s.fwd := rfl
@[simp] theorem State.lnkUp_shp (s : State) (f : LnkSt → LnkSt) : (s.lnkUp f).shp = s.shp := rfl
@[simp] theorem State.lnkUp_vsx (s : State) (f : LnkSt → LnkSt) : (s.lnkUp f).vsx = s.vsx := rfl
@[simp] theorem State.lnkUp_lnk (s : State) (f : LnkSt → LnkSt) : (s.lnkUp f).lnk = f s.lnk := rfl
@[simp] theorem State.lnkUp_trunk (s : State) (f : LnkSt → LnkSt) : (s.lnkUp f).trunk = s.trunk := rfl
@[simp] theorem State.lnkUp_fab (s : State) (f : LnkSt → LnkSt) : (s.lnkUp f).fab = s.fab := rfl
@[simp] theorem State.lnkUp_mgr (s : State) (f : LnkSt → LnkSt) : (s.lnkUp f).mgr = s.mgr := rfl
@[simp] theorem State.lnkUp_sec (s : State) (f : LnkSt → LnkSt) : (s.lnkUp f).sec = s.sec := rfl
@[simp] theorem State.lnkUp_cpw (s : State) (f : LnkSt → LnkSt) : (s.lnkUp f).cpw = s.cpw := rfl
@[simp] theorem State.lnkUp_dm (s : State) (f : LnkSt → LnkSt) : (s.lnkUp f).dm = s.dm := rfl
@[simp] theorem State.lnkUp_mule (s : State) (f : LnkSt → LnkSt) : (s.lnkUp f).mule = s.mule := rfl
@[simp] theorem State.lnkUp_flt (s : State) (f : LnkSt → LnkSt) : (s.lnkUp f).flt = s.flt := rfl
@[simp] theorem State.lnkUp_perf (s : State) (f : LnkSt → LnkSt) : (s.lnkUp f).perf = s.perf := rfl
@[simp] theorem State.lnkUp_journal (s : State) (f : LnkSt → LnkSt) : (s.lnkUp f).journal = s.journal := rfl
@[simp] theorem State.lnkUp_msiWait (s : State) (f : LnkSt → LnkSt) : (s.lnkUp f).msiWait = s.msiWait := rfl
@[simp] theorem State.lnkUp_sent (s : State) (f : LnkSt → LnkSt) : (s.lnkUp f).sent = s.sent := rfl
@[simp] theorem State.lnkUp_pending (s : State) (f : LnkSt → LnkSt) : (s.lnkUp f).pending = s.pending := rfl

/-! ### `State.fabUp` -/

@[simp] theorem State.fabUp_regs (s : State) (f : FabSt → FabSt) : (s.fabUp f).regs = s.regs := rfl
@[simp] theorem State.fabUp_cfg (s : State) (f : FabSt → FabSt) : (s.fabUp f).cfg = s.cfg := rfl
@[simp] theorem State.fabUp_mesh (s : State) (f : FabSt → FabSt) : (s.fabUp f).mesh = s.mesh := rfl
@[simp] theorem State.fabUp_fwd (s : State) (f : FabSt → FabSt) : (s.fabUp f).fwd = s.fwd := rfl
@[simp] theorem State.fabUp_shp (s : State) (f : FabSt → FabSt) : (s.fabUp f).shp = s.shp := rfl
@[simp] theorem State.fabUp_vsx (s : State) (f : FabSt → FabSt) : (s.fabUp f).vsx = s.vsx := rfl
@[simp] theorem State.fabUp_lnk (s : State) (f : FabSt → FabSt) : (s.fabUp f).lnk = s.lnk := rfl
@[simp] theorem State.fabUp_trunk (s : State) (f : FabSt → FabSt) : (s.fabUp f).trunk = s.trunk := rfl
@[simp] theorem State.fabUp_fab (s : State) (f : FabSt → FabSt) : (s.fabUp f).fab = f s.fab := rfl
@[simp] theorem State.fabUp_mgr (s : State) (f : FabSt → FabSt) : (s.fabUp f).mgr = s.mgr := rfl
@[simp] theorem State.fabUp_sec (s : State) (f : FabSt → FabSt) : (s.fabUp f).sec = s.sec := rfl
@[simp] theorem State.fabUp_cpw (s : State) (f : FabSt → FabSt) : (s.fabUp f).cpw = s.cpw := rfl
@[simp] theorem State.fabUp_dm (s : State) (f : FabSt → FabSt) : (s.fabUp f).dm = s.dm := rfl
@[simp] theorem State.fabUp_mule (s : State) (f : FabSt → FabSt) : (s.fabUp f).mule = s.mule := rfl
@[simp] theorem State.fabUp_flt (s : State) (f : FabSt → FabSt) : (s.fabUp f).flt = s.flt := rfl
@[simp] theorem State.fabUp_perf (s : State) (f : FabSt → FabSt) : (s.fabUp f).perf = s.perf := rfl
@[simp] theorem State.fabUp_journal (s : State) (f : FabSt → FabSt) : (s.fabUp f).journal = s.journal := rfl
@[simp] theorem State.fabUp_msiWait (s : State) (f : FabSt → FabSt) : (s.fabUp f).msiWait = s.msiWait := rfl
@[simp] theorem State.fabUp_sent (s : State) (f : FabSt → FabSt) : (s.fabUp f).sent = s.sent := rfl
@[simp] theorem State.fabUp_pending (s : State) (f : FabSt → FabSt) : (s.fabUp f).pending = s.pending := rfl

/-! ### `State.mgrUp` -/

@[simp] theorem State.mgrUp_regs (s : State) (f : MgrSt → MgrSt) : (s.mgrUp f).regs = s.regs := rfl
@[simp] theorem State.mgrUp_cfg (s : State) (f : MgrSt → MgrSt) : (s.mgrUp f).cfg = s.cfg := rfl
@[simp] theorem State.mgrUp_mesh (s : State) (f : MgrSt → MgrSt) : (s.mgrUp f).mesh = s.mesh := rfl
@[simp] theorem State.mgrUp_fwd (s : State) (f : MgrSt → MgrSt) : (s.mgrUp f).fwd = s.fwd := rfl
@[simp] theorem State.mgrUp_shp (s : State) (f : MgrSt → MgrSt) : (s.mgrUp f).shp = s.shp := rfl
@[simp] theorem State.mgrUp_vsx (s : State) (f : MgrSt → MgrSt) : (s.mgrUp f).vsx = s.vsx := rfl
@[simp] theorem State.mgrUp_lnk (s : State) (f : MgrSt → MgrSt) : (s.mgrUp f).lnk = s.lnk := rfl
@[simp] theorem State.mgrUp_trunk (s : State) (f : MgrSt → MgrSt) : (s.mgrUp f).trunk = s.trunk := rfl
@[simp] theorem State.mgrUp_fab (s : State) (f : MgrSt → MgrSt) : (s.mgrUp f).fab = s.fab := rfl
@[simp] theorem State.mgrUp_mgr (s : State) (f : MgrSt → MgrSt) : (s.mgrUp f).mgr = f s.mgr := rfl
@[simp] theorem State.mgrUp_sec (s : State) (f : MgrSt → MgrSt) : (s.mgrUp f).sec = s.sec := rfl
@[simp] theorem State.mgrUp_cpw (s : State) (f : MgrSt → MgrSt) : (s.mgrUp f).cpw = s.cpw := rfl
@[simp] theorem State.mgrUp_dm (s : State) (f : MgrSt → MgrSt) : (s.mgrUp f).dm = s.dm := rfl
@[simp] theorem State.mgrUp_mule (s : State) (f : MgrSt → MgrSt) : (s.mgrUp f).mule = s.mule := rfl
@[simp] theorem State.mgrUp_flt (s : State) (f : MgrSt → MgrSt) : (s.mgrUp f).flt = s.flt := rfl
@[simp] theorem State.mgrUp_perf (s : State) (f : MgrSt → MgrSt) : (s.mgrUp f).perf = s.perf := rfl
@[simp] theorem State.mgrUp_journal (s : State) (f : MgrSt → MgrSt) : (s.mgrUp f).journal = s.journal := rfl
@[simp] theorem State.mgrUp_msiWait (s : State) (f : MgrSt → MgrSt) : (s.mgrUp f).msiWait = s.msiWait := rfl
@[simp] theorem State.mgrUp_sent (s : State) (f : MgrSt → MgrSt) : (s.mgrUp f).sent = s.sent := rfl
@[simp] theorem State.mgrUp_pending (s : State) (f : MgrSt → MgrSt) : (s.mgrUp f).pending = s.pending := rfl

/-! ### `State.secUp` -/

@[simp] theorem State.secUp_regs (s : State) (f : SecSt → SecSt) : (s.secUp f).regs = s.regs := rfl
@[simp] theorem State.secUp_cfg (s : State) (f : SecSt → SecSt) : (s.secUp f).cfg = s.cfg := rfl
@[simp] theorem State.secUp_mesh (s : State) (f : SecSt → SecSt) : (s.secUp f).mesh = s.mesh := rfl
@[simp] theorem State.secUp_fwd (s : State) (f : SecSt → SecSt) : (s.secUp f).fwd = s.fwd := rfl
@[simp] theorem State.secUp_shp (s : State) (f : SecSt → SecSt) : (s.secUp f).shp = s.shp := rfl
@[simp] theorem State.secUp_vsx (s : State) (f : SecSt → SecSt) : (s.secUp f).vsx = s.vsx := rfl
@[simp] theorem State.secUp_lnk (s : State) (f : SecSt → SecSt) : (s.secUp f).lnk = s.lnk := rfl
@[simp] theorem State.secUp_trunk (s : State) (f : SecSt → SecSt) : (s.secUp f).trunk = s.trunk := rfl
@[simp] theorem State.secUp_fab (s : State) (f : SecSt → SecSt) : (s.secUp f).fab = s.fab := rfl
@[simp] theorem State.secUp_mgr (s : State) (f : SecSt → SecSt) : (s.secUp f).mgr = s.mgr := rfl
@[simp] theorem State.secUp_sec (s : State) (f : SecSt → SecSt) : (s.secUp f).sec = f s.sec := rfl
@[simp] theorem State.secUp_cpw (s : State) (f : SecSt → SecSt) : (s.secUp f).cpw = s.cpw := rfl
@[simp] theorem State.secUp_dm (s : State) (f : SecSt → SecSt) : (s.secUp f).dm = s.dm := rfl
@[simp] theorem State.secUp_mule (s : State) (f : SecSt → SecSt) : (s.secUp f).mule = s.mule := rfl
@[simp] theorem State.secUp_flt (s : State) (f : SecSt → SecSt) : (s.secUp f).flt = s.flt := rfl
@[simp] theorem State.secUp_perf (s : State) (f : SecSt → SecSt) : (s.secUp f).perf = s.perf := rfl
@[simp] theorem State.secUp_journal (s : State) (f : SecSt → SecSt) : (s.secUp f).journal = s.journal := rfl
@[simp] theorem State.secUp_msiWait (s : State) (f : SecSt → SecSt) : (s.secUp f).msiWait = s.msiWait := rfl
@[simp] theorem State.secUp_sent (s : State) (f : SecSt → SecSt) : (s.secUp f).sent = s.sent := rfl
@[simp] theorem State.secUp_pending (s : State) (f : SecSt → SecSt) : (s.secUp f).pending = s.pending := rfl

/-! ### `State.cpwUp` -/

@[simp] theorem State.cpwUp_regs (s : State) (f : CpwSt → CpwSt) : (s.cpwUp f).regs = s.regs := rfl
@[simp] theorem State.cpwUp_cfg (s : State) (f : CpwSt → CpwSt) : (s.cpwUp f).cfg = s.cfg := rfl
@[simp] theorem State.cpwUp_mesh (s : State) (f : CpwSt → CpwSt) : (s.cpwUp f).mesh = s.mesh := rfl
@[simp] theorem State.cpwUp_fwd (s : State) (f : CpwSt → CpwSt) : (s.cpwUp f).fwd = s.fwd := rfl
@[simp] theorem State.cpwUp_shp (s : State) (f : CpwSt → CpwSt) : (s.cpwUp f).shp = s.shp := rfl
@[simp] theorem State.cpwUp_vsx (s : State) (f : CpwSt → CpwSt) : (s.cpwUp f).vsx = s.vsx := rfl
@[simp] theorem State.cpwUp_lnk (s : State) (f : CpwSt → CpwSt) : (s.cpwUp f).lnk = s.lnk := rfl
@[simp] theorem State.cpwUp_trunk (s : State) (f : CpwSt → CpwSt) : (s.cpwUp f).trunk = s.trunk := rfl
@[simp] theorem State.cpwUp_fab (s : State) (f : CpwSt → CpwSt) : (s.cpwUp f).fab = s.fab := rfl
@[simp] theorem State.cpwUp_mgr (s : State) (f : CpwSt → CpwSt) : (s.cpwUp f).mgr = s.mgr := rfl
@[simp] theorem State.cpwUp_sec (s : State) (f : CpwSt → CpwSt) : (s.cpwUp f).sec = s.sec := rfl
@[simp] theorem State.cpwUp_cpw (s : State) (f : CpwSt → CpwSt) : (s.cpwUp f).cpw = f s.cpw := rfl
@[simp] theorem State.cpwUp_dm (s : State) (f : CpwSt → CpwSt) : (s.cpwUp f).dm = s.dm := rfl
@[simp] theorem State.cpwUp_mule (s : State) (f : CpwSt → CpwSt) : (s.cpwUp f).mule = s.mule := rfl
@[simp] theorem State.cpwUp_flt (s : State) (f : CpwSt → CpwSt) : (s.cpwUp f).flt = s.flt := rfl
@[simp] theorem State.cpwUp_perf (s : State) (f : CpwSt → CpwSt) : (s.cpwUp f).perf = s.perf := rfl
@[simp] theorem State.cpwUp_journal (s : State) (f : CpwSt → CpwSt) : (s.cpwUp f).journal = s.journal := rfl
@[simp] theorem State.cpwUp_msiWait (s : State) (f : CpwSt → CpwSt) : (s.cpwUp f).msiWait = s.msiWait := rfl
@[simp] theorem State.cpwUp_sent (s : State) (f : CpwSt → CpwSt) : (s.cpwUp f).sent = s.sent := rfl
@[simp] theorem State.cpwUp_pending (s : State) (f : CpwSt → CpwSt) : (s.cpwUp f).pending = s.pending := rfl

/-! ### `State.dmUp` -/

@[simp] theorem State.dmUp_regs (s : State) (f : DmSt → DmSt) : (s.dmUp f).regs = s.regs := rfl
@[simp] theorem State.dmUp_cfg (s : State) (f : DmSt → DmSt) : (s.dmUp f).cfg = s.cfg := rfl
@[simp] theorem State.dmUp_mesh (s : State) (f : DmSt → DmSt) : (s.dmUp f).mesh = s.mesh := rfl
@[simp] theorem State.dmUp_fwd (s : State) (f : DmSt → DmSt) : (s.dmUp f).fwd = s.fwd := rfl
@[simp] theorem State.dmUp_shp (s : State) (f : DmSt → DmSt) : (s.dmUp f).shp = s.shp := rfl
@[simp] theorem State.dmUp_vsx (s : State) (f : DmSt → DmSt) : (s.dmUp f).vsx = s.vsx := rfl
@[simp] theorem State.dmUp_lnk (s : State) (f : DmSt → DmSt) : (s.dmUp f).lnk = s.lnk := rfl
@[simp] theorem State.dmUp_trunk (s : State) (f : DmSt → DmSt) : (s.dmUp f).trunk = s.trunk := rfl
@[simp] theorem State.dmUp_fab (s : State) (f : DmSt → DmSt) : (s.dmUp f).fab = s.fab := rfl
@[simp] theorem State.dmUp_mgr (s : State) (f : DmSt → DmSt) : (s.dmUp f).mgr = s.mgr := rfl
@[simp] theorem State.dmUp_sec (s : State) (f : DmSt → DmSt) : (s.dmUp f).sec = s.sec := rfl
@[simp] theorem State.dmUp_cpw (s : State) (f : DmSt → DmSt) : (s.dmUp f).cpw = s.cpw := rfl
@[simp] theorem State.dmUp_dm (s : State) (f : DmSt → DmSt) : (s.dmUp f).dm = f s.dm := rfl
@[simp] theorem State.dmUp_mule (s : State) (f : DmSt → DmSt) : (s.dmUp f).mule = s.mule := rfl
@[simp] theorem State.dmUp_flt (s : State) (f : DmSt → DmSt) : (s.dmUp f).flt = s.flt := rfl
@[simp] theorem State.dmUp_perf (s : State) (f : DmSt → DmSt) : (s.dmUp f).perf = s.perf := rfl
@[simp] theorem State.dmUp_journal (s : State) (f : DmSt → DmSt) : (s.dmUp f).journal = s.journal := rfl
@[simp] theorem State.dmUp_msiWait (s : State) (f : DmSt → DmSt) : (s.dmUp f).msiWait = s.msiWait := rfl
@[simp] theorem State.dmUp_sent (s : State) (f : DmSt → DmSt) : (s.dmUp f).sent = s.sent := rfl
@[simp] theorem State.dmUp_pending (s : State) (f : DmSt → DmSt) : (s.dmUp f).pending = s.pending := rfl

/-! ### `State.muleUp` -/

@[simp] theorem State.muleUp_regs (s : State) (f : MuleSt → MuleSt) : (s.muleUp f).regs = s.regs := rfl
@[simp] theorem State.muleUp_cfg (s : State) (f : MuleSt → MuleSt) : (s.muleUp f).cfg = s.cfg := rfl
@[simp] theorem State.muleUp_mesh (s : State) (f : MuleSt → MuleSt) : (s.muleUp f).mesh = s.mesh := rfl
@[simp] theorem State.muleUp_fwd (s : State) (f : MuleSt → MuleSt) : (s.muleUp f).fwd = s.fwd := rfl
@[simp] theorem State.muleUp_shp (s : State) (f : MuleSt → MuleSt) : (s.muleUp f).shp = s.shp := rfl
@[simp] theorem State.muleUp_vsx (s : State) (f : MuleSt → MuleSt) : (s.muleUp f).vsx = s.vsx := rfl
@[simp] theorem State.muleUp_lnk (s : State) (f : MuleSt → MuleSt) : (s.muleUp f).lnk = s.lnk := rfl
@[simp] theorem State.muleUp_trunk (s : State) (f : MuleSt → MuleSt) : (s.muleUp f).trunk = s.trunk := rfl
@[simp] theorem State.muleUp_fab (s : State) (f : MuleSt → MuleSt) : (s.muleUp f).fab = s.fab := rfl
@[simp] theorem State.muleUp_mgr (s : State) (f : MuleSt → MuleSt) : (s.muleUp f).mgr = s.mgr := rfl
@[simp] theorem State.muleUp_sec (s : State) (f : MuleSt → MuleSt) : (s.muleUp f).sec = s.sec := rfl
@[simp] theorem State.muleUp_cpw (s : State) (f : MuleSt → MuleSt) : (s.muleUp f).cpw = s.cpw := rfl
@[simp] theorem State.muleUp_dm (s : State) (f : MuleSt → MuleSt) : (s.muleUp f).dm = s.dm := rfl
@[simp] theorem State.muleUp_mule (s : State) (f : MuleSt → MuleSt) : (s.muleUp f).mule = f s.mule := rfl
@[simp] theorem State.muleUp_flt (s : State) (f : MuleSt → MuleSt) : (s.muleUp f).flt = s.flt := rfl
@[simp] theorem State.muleUp_perf (s : State) (f : MuleSt → MuleSt) : (s.muleUp f).perf = s.perf := rfl
@[simp] theorem State.muleUp_journal (s : State) (f : MuleSt → MuleSt) : (s.muleUp f).journal = s.journal := rfl
@[simp] theorem State.muleUp_msiWait (s : State) (f : MuleSt → MuleSt) : (s.muleUp f).msiWait = s.msiWait := rfl
@[simp] theorem State.muleUp_sent (s : State) (f : MuleSt → MuleSt) : (s.muleUp f).sent = s.sent := rfl
@[simp] theorem State.muleUp_pending (s : State) (f : MuleSt → MuleSt) : (s.muleUp f).pending = s.pending := rfl

/-! ### `State.perfUp` -/

@[simp] theorem State.perfUp_regs (s : State) (f : PerfSt → PerfSt) : (s.perfUp f).regs = s.regs := rfl
@[simp] theorem State.perfUp_cfg (s : State) (f : PerfSt → PerfSt) : (s.perfUp f).cfg = s.cfg := rfl
@[simp] theorem State.perfUp_mesh (s : State) (f : PerfSt → PerfSt) : (s.perfUp f).mesh = s.mesh := rfl
@[simp] theorem State.perfUp_fwd (s : State) (f : PerfSt → PerfSt) : (s.perfUp f).fwd = s.fwd := rfl
@[simp] theorem State.perfUp_shp (s : State) (f : PerfSt → PerfSt) : (s.perfUp f).shp = s.shp := rfl
@[simp] theorem State.perfUp_vsx (s : State) (f : PerfSt → PerfSt) : (s.perfUp f).vsx = s.vsx := rfl
@[simp] theorem State.perfUp_lnk (s : State) (f : PerfSt → PerfSt) : (s.perfUp f).lnk = s.lnk := rfl
@[simp] theorem State.perfUp_trunk (s : State) (f : PerfSt → PerfSt) : (s.perfUp f).trunk = s.trunk := rfl
@[simp] theorem State.perfUp_fab (s : State) (f : PerfSt → PerfSt) : (s.perfUp f).fab = s.fab := rfl
@[simp] theorem State.perfUp_mgr (s : State) (f : PerfSt → PerfSt) : (s.perfUp f).mgr = s.mgr := rfl
@[simp] theorem State.perfUp_sec (s : State) (f : PerfSt → PerfSt) : (s.perfUp f).sec = s.sec := rfl
@[simp] theorem State.perfUp_cpw (s : State) (f : PerfSt → PerfSt) : (s.perfUp f).cpw = s.cpw := rfl
@[simp] theorem State.perfUp_dm (s : State) (f : PerfSt → PerfSt) : (s.perfUp f).dm = s.dm := rfl
@[simp] theorem State.perfUp_mule (s : State) (f : PerfSt → PerfSt) : (s.perfUp f).mule = s.mule := rfl
@[simp] theorem State.perfUp_flt (s : State) (f : PerfSt → PerfSt) : (s.perfUp f).flt = s.flt := rfl
@[simp] theorem State.perfUp_perf (s : State) (f : PerfSt → PerfSt) : (s.perfUp f).perf = f s.perf := rfl
@[simp] theorem State.perfUp_journal (s : State) (f : PerfSt → PerfSt) : (s.perfUp f).journal = s.journal := rfl
@[simp] theorem State.perfUp_msiWait (s : State) (f : PerfSt → PerfSt) : (s.perfUp f).msiWait = s.msiWait := rfl
@[simp] theorem State.perfUp_sent (s : State) (f : PerfSt → PerfSt) : (s.perfUp f).sent = s.sent := rfl
@[simp] theorem State.perfUp_pending (s : State) (f : PerfSt → PerfSt) : (s.perfUp f).pending = s.pending := rfl

end Sys2Proof.Machine
end

