-- ==== Sys2Proof/Laws/Faults.lean ====
section
/-!
SUPPORT. What the shared operations of fault handling do: journal entries, declarations, and the entry into the safe state.
-/

namespace Sys2Proof.Machine

/-! ### The journal -/

/-- An update of the journal and of one register, undone. -/
theorem State.undo_journal (s : State) (j : List JEntry) (f : Fld) (ix : List Nat) (v : Nat) :
    { ({ s with journal := j } : State).set f ix v with regs := s.regs, journal := s.journal } = s := rfl

/-- A journal entry changes the journal and the next sequence number. -/
theorem State.journalAdd_shape (s : State) (kind orig cmdSeq origId : Nat) (body result : List Byte) :
    ∃ j v, s.journalAdd kind orig cmdSeq origId body result = ({ s with journal := j } : State).set F.MGR_JNL_SEQ_SEQ [] v := ⟨_, _, rfl⟩

/-- Everything that a journal entry changes (R490, R491). -/
theorem State.journalAdd_rest (s : State) (kind orig cmdSeq origId : Nat) (body result : List Byte) :
    { s.journalAdd kind orig cmdSeq origId body result with regs := s.regs, journal := s.journal } = s := by
  obtain ⟨j, v, e⟩ := s.journalAdd_shape kind orig cmdSeq origId body result
  generalize s.journalAdd kind orig cmdSeq origId body result = t at *
  subst e
  exact s.undo_journal ..

theorem State.journalAdd_rd_ne (s : State) (kind orig cmdSeq origId : Nat) (body result : List Byte) {r : Reg} (h : r ≠ ⟨.MGR_JNL_SEQ, []⟩) :
    (s.journalAdd kind orig cmdSeq origId body result).rd r = s.rd r := by
  obtain ⟨j, v, e⟩ := s.journalAdd_shape kind orig cmdSeq origId body result
  rw [e]
  exact State.rd_wr_ne _ _ h

/-! ### Declarations -/

/-- A part that is out of service already is declared without effect (R451). -/
theorem State.declare_again {s : State} {ty ix : Nat} (h : (ty, ix) ∈ s.flt.failed) : s.declare ty ix = s := by
  simp [State.declare, h]

/-- A declared part is failed, and waits for its handling behind the ones before it (R461). -/
theorem State.declare_failed (s : State) (ty ix : Nat) : (ty, ix) ∈ (s.declare ty ix).flt.failed := by
  unfold State.declare
  split
  · assumption
  · simp [State.journalAdd]

theorem State.declare_queue {s : State} {ty ix : Nat} (h : (ty, ix) ∉ s.flt.failed) : (s.declare ty ix).flt.queue = s.flt.queue ++ [(ty, ix)] := by
  simp [State.declare, h, State.journalAdd]

/-- Everything that a declaration changes. -/
theorem State.declare_rest (s : State) (ty ix : Nat) :
    { s.declare ty ix with regs := s.regs, journal := s.journal, flt := s.flt } = s := by
  unfold State.declare
  split <;> rfl

/-! ### The safe state -/

/-- In the safe state a further cause sets at most MORE (R467). -/
theorem State.sealDev_sealed {s : State} (h : s.sealed = true) (cause detail : Nat) :
    s.sealDev cause detail = if s.now < s.flt.sealAt + 10000 then s.setB F.GSV_SEAL_MORE [] true else s := by
  simp [State.sealDev, h]

/-- Everything that the entry into the safe state changes (R467). -/
theorem State.sealDev_rest (s : State) (cause detail : Nat) :
    { s.sealDev cause detail with regs := s.regs, journal := s.journal, flt := s.flt } = s := by
  unfold State.sealDev
  split
  · split <;> rfl
  · rfl

end Sys2Proof.Machine
end

