-- ==== Sys2Proof/Laws/Memory.lean ====
section
/-!
SUPPORT. The laws of the byte memories: every write keeps the canonical form, a byte written reads back, every other byte stays, and two
memories in canonical form that read alike are equal.
-/

namespace Sys2Proof.Machine

/-! ### The canonical form -/

theorem Memory.from_mono {lo hi : Nat} {m : Memory} (h : Memory.from hi m = true) (le : lo ≤ hi) : Memory.from lo m = true := by
  cases m with
  | nil => rfl
  | cons p t =>
    simp only [Memory.from, Bool.and_eq_true, decide_eq_true_eq] at h ⊢
    exact ⟨⟨Nat.le_trans le h.1.1, h.1.2⟩, h.2⟩

/-- A write of a byte at or above the bound keeps the form. -/
theorem memSet_from {m : Memory} {lo a : Nat} (v : Byte) (h : Memory.from lo m = true) (le : lo ≤ a) : Memory.from lo (memSet m a v) = true := by
  induction m generalizing lo with
  | nil =>
    unfold memSet
    split
    · rfl
    · simp_all [Memory.from]
  | cons p t ih =>
    obtain ⟨b, w⟩ := p
    simp only [Memory.from, Bool.and_eq_true, decide_eq_true_eq] at h
    unfold memSet
    split
    · split
      · simp only [Memory.from, Bool.and_eq_true, decide_eq_true_eq]
        exact h
      · rename_i hab hv
        simp only [Memory.from, Bool.and_eq_true, decide_eq_true_eq, bne_iff_ne, ne_eq]
        exact ⟨⟨le, hv⟩, ⟨by omega, by simpa using h.1.2⟩, h.2⟩
    · split
      · split
        · exact Memory.from_mono h.2 (by omega)
        · rename_i e hv
          simp only [Memory.from, Bool.and_eq_true, decide_eq_true_eq, bne_iff_ne, ne_eq]
          exact ⟨⟨le, hv⟩, e ▸ h.2⟩
      · simp only [Memory.from, Bool.and_eq_true, decide_eq_true_eq]
        exact ⟨h.1, ih h.2 (by omega)⟩

/-- A write of a byte keeps the canonical form. -/
theorem memSet_wf {m : Memory} (a : Nat) (v : Byte) (h : m.wf = true) : (memSet m a v).wf = true := memSet_from v h (Nat.zero_le a)

/-- A write of bytes keeps the canonical form. -/
theorem memWrite_wf {m : Memory} (a : Nat) (l : List Byte) (h : m.wf = true) : (memWrite m a l).wf = true := by
  induction l generalizing m a with
  | nil => exact h
  | cons v vs ih => exact ih (a + 1) (memSet_wf a v h)

/-- The entries of some addresses alone keep the form. -/
theorem Memory.from_filter {m : Memory} {lo : Nat} (p : Host.Cell → Bool) (h : Memory.from lo m = true) : Memory.from lo (m.filter p) = true := by
  induction m generalizing lo with
  | nil => rfl
  | cons c t ih =>
    obtain ⟨b, w⟩ := c
    simp only [Memory.from, Bool.and_eq_true, decide_eq_true_eq] at h
    rw [List.filter_cons]
    split
    · simp only [Memory.from, Bool.and_eq_true, decide_eq_true_eq]
      exact ⟨h.1, ih h.2⟩
    · exact Memory.from_mono (ih h.2) (by omega)

/-! ### Reading after writing -/

/-- No byte below the bound is listed. -/
theorem memGet_below {m : Memory} {lo a : Nat} (h : Memory.from lo m = true) (lt : a < lo) : memGet m a = 0 := by
  induction m generalizing lo with
  | nil => rfl
  | cons p t ih =>
    obtain ⟨b, w⟩ := p
    simp only [Memory.from, Bool.and_eq_true, decide_eq_true_eq] at h
    unfold memGet
    rw [if_neg (by omega)]
    exact ih h.2 (by omega)

/-- The byte written reads back, and every other byte stays. -/
theorem memGet_memSet_from {m : Memory} {lo : Nat} (a b : Nat) (v : Byte) (h : Memory.from lo m = true) :
    memGet (memSet m a v) b = if b = a then v else memGet m b := by
  induction m generalizing lo with
  | nil =>
    unfold memSet
    split
    · rename_i hv
      simp [memGet, hv]
    · simp [memGet]
  | cons p t ih =>
    obtain ⟨c, w⟩ := p
    simp only [Memory.from, Bool.and_eq_true, decide_eq_true_eq] at h
    unfold memSet
    split
    · rename_i hac
      split
      · rename_i hv
        by_cases e : b = a
        · subst e
          rw [if_pos rfl, hv]
          unfold memGet
          rw [if_neg (by omega)]
          exact memGet_below h.2 (by omega)
        · rw [if_neg e]
      · by_cases e : b = a
        · simp [memGet, e]
        · simp [memGet, e]
    · split
      · rename_i e
        subst e
        split
        · rename_i hv
          by_cases e : b = a
          · subst e
            rw [if_pos rfl, hv]
            exact memGet_below h.2 (by omega)
          · rw [if_neg e]
            unfold memGet
            rw [if_neg e]
            cases t <;> simp [memGet]
        · by_cases e : b = a
          · simp [memGet, e]
          · simp [memGet, e]
      · rename_i h1 h2
        have := ih h.2
        by_cases e : b = c
        · subst e
          rw [if_neg (fun x => h2 x.symm)]
          simp [memGet]
        · simp only [memGet, if_neg e]
          exact this

theorem memGet_memSet {m : Memory} (a b : Nat) (v : Byte) (h : m.wf = true) : memGet (memSet m a v) b = if b = a then v else memGet m b :=
  memGet_memSet_from a b v h

/-- The bytes written read back, and every other byte stays. -/
theorem memGet_memWrite {m : Memory} (a : Nat) (l : List Byte) (x : Nat) (h : m.wf = true) :
    memGet (memWrite m a l) x = if a ≤ x ∧ x < a + l.length then l.getD (x - a) 0 else memGet m x := by
  induction l generalizing m a with
  | nil =>
    rw [if_neg (by simp)]
    rfl
  | cons v vs ih =>
    show memGet (memWrite (memSet m a v) (a + 1) vs) x = _
    rw [ih (a + 1) (memSet_wf a v h), memGet_memSet a x v h]
    simp only [List.length_cons]
    by_cases h1 : x = a
    · subst h1
      rw [if_neg (by omega), if_pos rfl, if_pos (by omega), Nat.sub_self]
      rfl
    · by_cases h2 : a + 1 ≤ x ∧ x < a + 1 + vs.length
      · rw [if_pos h2, if_pos (by omega), show x - a = (x - (a + 1)) + 1 by omega]
        rfl
      · rw [if_neg h2, if_neg h1, if_neg (by omega)]

/-- Bytes outside a write read as before. -/
theorem memRead_memWrite_out {m : Memory} (a : Nat) (l : List Byte) (b n : Nat) (h : m.wf = true) (out : b + n ≤ a ∨ a + l.length ≤ b) :
    memRead (memWrite m a l) b n = memRead m b n := by
  unfold memRead
  refine List.map_congr_left (fun k hk => ?_)
  have := List.mem_range.1 hk
  rw [memGet_memWrite a l (b + k) h, if_neg (by omega)]

/-- The bytes of a write read back. -/
theorem memRead_memWrite {m : Memory} (a : Nat) (l : List Byte) (h : m.wf = true) : memRead (memWrite m a l) a l.length = l := by
  unfold memRead
  apply List.ext_getElem
  · simp
  · intro k h1 h2
    simp only [List.getElem_map, List.getElem_range]
    rw [memGet_memWrite a l (a + k) h, if_pos (by omega), show a + k - a = k by omega]
    simp [List.getD, h2]

/-! ### Equality -/

/-- Memories in canonical form that read alike at every address are equal data. -/
theorem Memory.ext_from {m n : Memory} {lo : Nat} (hm : Memory.from lo m = true) (hn : Memory.from lo n = true)
    (h : ∀ a, memGet m a = memGet n a) : m = n := by
  induction m generalizing n lo with
  | nil =>
    cases n with
    | nil => rfl
    | cons p t =>
      obtain ⟨b, w⟩ := p
      have hb := h b
      simp only [Memory.from, Bool.and_eq_true, decide_eq_true_eq, bne_iff_ne, ne_eq] at hn
      simp [memGet] at hb
      exact absurd hb.symm hn.1.2
  | cons p t ih =>
    obtain ⟨b, w⟩ := p
    simp only [Memory.from, Bool.and_eq_true, decide_eq_true_eq, bne_iff_ne, ne_eq] at hm
    cases n with
    | nil =>
      have hb := h b
      simp [memGet] at hb
      exact absurd hb hm.1.2
    | cons q u =>
      obtain ⟨c, x⟩ := q
      simp only [Memory.from, Bool.and_eq_true, decide_eq_true_eq, bne_iff_ne, ne_eq] at hn
      have hbc : b = c := by
        rcases Nat.lt_trichotomy b c with l | e | l
        · have hb := h b
          simp only [memGet, if_true, if_neg (Nat.ne_of_lt l)] at hb
          rw [memGet_below hn.2 (by omega)] at hb
          exact absurd hb hm.1.2
        · exact e
        · have hb := h c
          simp only [memGet, if_true, if_neg (Nat.ne_of_lt l)] at hb
          rw [memGet_below hm.2 (by omega)] at hb
          exact absurd hb.symm hn.1.2
      subst hbc
      have hw : w = x := by simpa [memGet] using h b
      subst hw
      rw [ih hm.2 hn.2 (fun a => ?_)]
      by_cases e : a = b
      · subst e
        rw [memGet_below hm.2 (by omega), memGet_below hn.2 (by omega)]
      · simpa [memGet, e] using h a

theorem Memory.ext {m n : Memory} (hm : m.wf = true) (hn : n.wf = true) (h : ∀ a, memGet m a = memGet n a) : m = n :=
  Memory.ext_from hm hn h

end Sys2Proof.Machine
end

