-- ==== Sys2Proof/Tests/Slice0.lean ====
section
/-!
SUPPORT. The model's own tests: a refused ill-formed TLP for each check of `Tlp.wf`, Mule instruction words written out from the encoding of
chapter 13, worked examples of the spec, and for each statement with hypotheses states and operands that meet them.
-/

namespace Sys2Proof.Tests

open Machine

set_option Elab.async false

/-- A device with every clock enable 1 and the gates as the boot firmware installs them. -/
def up : State := (List.range 7).foldl (fun (s : State) (k : Nat) => s.set F.CPW_CLKEN_EN [k] 0xFFFFFFFF) State.reset

/-- The device with fields set. -/
def upW (l : List (Fld × List Nat × Nat)) : State := l.foldl (fun s f => s.set f.1 f.2.1 f.2.2) up

/-- A device whose virtual switch 2 has upstream port 0 (x8) and, in slot 1, vDSP 7 on downstream port 4 (x8), both links in L0. -/
def net : State :=
  { upW [(F.PT_CUT_CUT, [0], 5), (F.PP_CTL_ENABLE, [0, 0], 1), (F.PP_STAT_LINK_STATE, [0, 0], 3), (F.PP_STAT_WIDTH, [0, 0], 8),
      (F.PT_CUT_CUT, [1], 5), (F.PP_CTL_ENABLE, [1, 0], 1), (F.PP_CTL_ROLE, [1, 0], 1), (F.PP_STAT_LINK_STATE, [1, 0], 3),
      (F.PP_STAT_WIDTH, [1, 0], 8), (F.VST_STAT_STATE, [2], 1), (F.VST_STAT_UP_PORT, [2], 0), (F.VST_SLOT_ALLOC, [2, 1], 1),
      (F.VST_SLOT_VDSP, [2, 1], 7), (F.VST_SLOT_KIND, [2, 1], 1), (F.VST_SLOT_TARGET, [2, 1], 4), (F.VST_SLOT_PRESENT, [2, 1], 1)] with
    fwd := { own := [(7, (2, 1))], act := [2] } }

/-- The device with configuration fields set. -/
def cfsOf (s : State) (l : List (FnId × CfgF × Nat)) : State := l.foldl (fun s f => s.cfSet f.1 f.2.1 f.2.2) s

/-- The device with fields set, from any device. -/
def setW (s : State) (l : List (Fld × List Nat × Nat)) : State := l.foldl (fun s f => s.set f.1 f.2.1 f.2.2) s

/-- The same device with the owner's command ring enabled, its management function a bus master, and device number 0x3F. -/
def ring : State := cfsOf (setW net [(F.MGR_MCR_CFG_EN, [], 1), (F.MGR_MCR_CFG_CMD_SIZE, [], 4), (F.MGR_MCR_CFG_RSP_SIZE, [], 4)]) [(.mgmt, .bme, 1)]


/-- The same device with a memory window on the slot, its tables installed. -/
def live : State :=
  let s := cfsOf (setW net [(F.CPW_PD_STATE, [0], 1), (F.CPW_PD_STATE, [1], 1)]) [(.vdsp 2 1, .mse, 1), (.vdsp 2 1, .memBase, 0x1000), (.vdsp 2 1, .memLimit, 0x1FFF), (.up 2, .busPri, 1), (.up 2, .busSec, 2)]
  { s with fwd := { s.fwd with tabs := [(0, s.snap)] } }

/-- A 64-byte posted write of the host to the card. -/
def wr64 : Tlp := { kind := .mwr, rid := 0x100, addr := 0x1040, len := 64, data := List.replicate 64 7 }

/-- A 64-byte read of the host from the card. -/
def rd64 : Tlp := { kind := .mrd, rid := 0x100, tag := 9, addr := 0x1040, len := 64 }

/-- The decision of a route. -/
def decOf (r : Route) : Dec := match r with | .fwd d => d | _ => { egress := 0, sc := 0, tlp := wr64 }

/-- The packet of a write of the host to the card. -/
def pkt64 : Pkt := { dest := 1, src := 0, srcId := 0, egress := 4, sc := 1, kind := 0, bytes := 76, vdsp := 7, body := .tlp wr64 }

/-- The entry of a read of the host from the card. -/
def ent64 : TrkE :=
  { reqId := 0x100, tag := 9, egress := 4, etag := 0x101, slot := 0, kind := .mrd, sc := 1, vdsp := 7, remain := 64, tAlloc := 0, to_ := 50000000, addr := 0x1040 }

/-- The same device with a function group in the slot: function 0 is the function 0x300 behind shared port 4, whose link partner and the host's give credit. -/
def grp : State :=
  { setW live [(F.VST_SLOT_KIND, [2, 1], 2), (F.VST_FB_A_VALID, [5], 1), (F.VST_FB_A_VS, [5], 2), (F.VST_FB_A_VDSP, [5], 7), (F.VST_FB_A_SHARED_PORT, [5], 4),
      (F.VST_FB_A_REAL_RID, [5], 0x300), (F.VST_SLOT_NFUNC, [2, 1], 1)] with
    fwd := { live.fwd with fc := [((0, 2), (4, 16))] } }

/-- A worker whose trunk 17 has four x2 members in L0. -/
def trk0 : State :=
  (List.range 4).foldl (fun (s : State) (k : Nat) => setW s [(F.PP_CTL_ROLE, [34, k], 2), (F.PP_CTL_ENABLE, [34, k], 1), (F.PP_STAT_LINK_STATE, [34, k], 3),
    (F.PP_STAT_WIDTH, [34, k], 2), (F.PP_STAT_RATE, [34, k], 6)])
    (setW up [(F.PT_CUT_CUT, [34], 1), (F.FAB_DEV_ROLE, [], 2), (F.FAB_DEV_NUM, [], 3), (F.FAB_TRK_CFG_EN, [17], 1)])

/-- The same device with the trunk up on members 0 and 1. -/
def trk : State := setW trk0 [(F.FAB_TRK_STAT_UP, [17], 1), (F.FAB_TRK_STAT_MEMBERS, [17], 3), (F.FAB_TRK_STAT_VER_MIN, [17], 1)]

/-- A data packet of a completion. -/
def kd : KData := { tseq := 1, sc := 1, kind := 2, dst := 3 * 256 + 136, src := 0x405, tlp := { kind := .cpl, data := List.replicate 64 7 } }

/-- A packet for the trunk. -/
def tpkt : Pkt := { dest := 0, src := 0, srcId := 0, egress := 136, sc := 1, kind := 0, bytes := 76, dst := 0x405, body := .tlp wr64 }

/-- A Bellwether that acts as device 0, with trunk 17 up. -/
def bell : State := { setW trk [(F.FAB_DEV_ROLE, [], 1), (F.FAB_DEV_NUM, [], 0), (F.FAB_DEV_MGR, [], 0), (F.FAB_DEV_ACTING, [], 1), (F.FAB_TIME_STAT_SYNC, [], 1)] with fab := { devs := [0] } }

/-- Instance 5 with queue pair 0 enabled, its function a bus master on bus 4. -/
def dm0 : State := cfsOf (setW up [(F.QP_CTL_EN, [5, 0], 1), (F.QP_CFG_SQ_SIZE, [5, 0], 4), (F.QP_CFG_CQ_SIZE, [5, 0], 4), (F.QP_SQ_BASE_ADDR, [5, 0], 0x10),
    (F.QP_CQ_BASE_ADDR, [5, 0], 0x20), (F.QP_DB_ADDR_ADDR, [5, 0], 0x300), (F.RX_CFG_SIZE, [5], 4)]) [(.dmf 5, .bme, 1), (.dmp 5, .busSec, 4)]

/-- A descriptor of version 1 with an opcode and LEN, from 0x1000 to 0x2000. -/
def desc (op len : Nat) : List Byte := [1, BitVec.ofNat 8 op, 0, 0] ++ leBytes 4 0x77 ++ leBytes 4 len ++ [0, 0, 0, 0] ++ leBytes 8 0x1000 ++ leBytes 8 0x2000 ++ List.replicate 32 0

/-- The ledger entry of a COPY of 64 bytes. -/
def ent : LedE := { state := 1, inst := 5, opcode := 1, user := 0x77, crc := (crc32c 0 (desc 1 64)).toNat }

/-- The descriptor of that entry as its front end holds it. -/
def cpy : Acpt := { d := desc 1 64, src := { fn := 5 }, dst := { fn := 5 } }

/-- Instance 5 with an entry in both copies of pair 1, clusters and staging powered. -/
def led (e : LedE) (f : DmSt → DmSt) : State :=
  { setW dm0 [(F.QP_STAT_ACCEPTED, [5, 0], 1), (F.DMG_INST_USE_ENTRIES, [5], 1)] with
    dm := f { dm0.dm with even := [(65536, e)], odd := [(65536, e)], acc := [(65536, cpy)] } }

/-- The same, with cluster 0 and staging slice 0 in service. -/
def run (e : LedE) (f : DmSt → DmSt) : State :=
  setW (led e f) [(F.MCL_STAT_STATE, [0], 0), (F.MCL_STAT_MULE_OK, [0], 15), (F.CPW_PD_STATE, [36], 1), (F.CPW_PD_STATE, [52], 1), (F.DMG_SHARE_SQUOTA, [], 16)]

/-- The ring entry of instance 5 in both copies of pair 1 beside the other entry. -/
def rng (g : LedE) (f : DmSt → DmSt) : State :=
  setW (run { ent with opcode := 7, state := 2, ni := 1 } (fun d => f { d with even := [(65536, { ent with opcode := 7, state := 2, ni := 1 }), (130001, g)], odd := [(65536, ent), (130001, g)] }))
    [(F.RX_CFG_EN, [5], 1)]

/-- An invocation of the entry 65536 at level V with registers. -/
def thrd (rs : AMap Nat Nat) : Thr := { idx := 65536, inst := 5, regs := rs, pc := 0x40, buf := some 3 }

/-- Cluster 0 whose thread 0 holds an invocation, with instructions from its PC on in the code of Mule 0. -/
def mulT (l : List MIns) (h : Thr) : State :=
  let s := setW (run { ent with state := 2 } id) [(F.MCL_THR_STATE, [0, 0], 1), (F.MCL_STAT_THR_BUSY, [0], 1)]
  { s with mule := { s.mule with thr := [(0, h)], imem := memWrite [] (h.codeBase + h.pc) (l.flatMap (fun i => leBytes 4 (mEncode i))),
                                 dmem := memWrite [] 0x60000 [0x91, 0x82, 0x73, 0x64, 0x55, 0x46, 0x37, 0x28, 0x19], stg := memWrite [] 0x3010 [0xAA, 0xBB] } }

/-- The same at level V with registers. -/
def mul (l : List MIns) (rs : AMap Nat Nat) : State := mulT l (thrd rs)

/-- The same with a program whose thread stands at a STEP, staging slice 4 of the next row group in service beside slice 0. -/
def step2 (i : MIns) (h : Thr) : State :=
  let s := setW (mulT [i] h) [(F.CPW_PD_STATE, [53], 1)]
  { s with dm := { s.dm with bufs := [(5, 5)] } }

/-- That state after the mirror buffer is taken. -/
def took (s : State) : State := match s.takeBuf 5 (fun k => decide (k / 4 ≠ 0)) with | some p => p.2 | none => s

/-- Cluster 0 with MCL_MEM_ADDR at instruction memory. -/
def opgate : State := setW (mul [] []) [(F.MCL_MEM_ADDR_IMEM, [0], 1)]

/-- Cluster 1 under update, with no invocation and its instances served by cluster 2. -/
def upd (img : List Byte) : State :=
  let s := setW (mul [] []) [(F.MCL_STAT_STATE, [1], 1)]
  { s with regs := s.regs ++ (List.range 67).map (fun k => ((⟨.DM_STAT, [16 * k + 1]⟩ : Reg), packW [(2, 4, 2)])),
           mule := { fw := some img, updQueue := [1, 2], updating := some (1, 0) } }

/-- A key that a list of pairs does not have is looked up in what follows. -/
theorem look_append {κ α : Type} [DecidableEq κ] (a b : AMap κ α) (k : κ) (h : ∀ p ∈ a, p.1 ≠ k) : AMap.look (a ++ b) k = AMap.look b k := by
  unfold AMap.look
  rw [List.find?_append, List.find?_eq_none.2 (fun p hp => by simpa using h p hp)]
  rfl

/-- Cluster 1 of that device is empty. -/
theorem upd_empty (img : List Byte) : (upd img).mcEmpty 1 = true := by
  have busy : (upd img).get F.MCL_STAT_THR_BUSY [1] = 0 := by
    show fget (rmRd ((setW (mul [] []) [(F.MCL_STAT_STATE, [1], 1)]).regs ++ _) _) _ _ = 0
    decide +kernel
  have key : ∀ i, i < 1072 → rmRd (upd img).regs ⟨.DM_STAT, [i]⟩ = if i % 16 = 1 then packW [(2, 4, 2)] else packW [(2, 4, i % 16)] := by
    intro i hi
    have h1 : AMap.look (upd img).regs (⟨.DM_STAT, [i]⟩ : Reg) =
        AMap.look ((List.range 67).map (fun k => ((⟨.DM_STAT, [16 * k + 1]⟩ : Reg), packW [(2, 4, 2)]))) ⟨.DM_STAT, [i]⟩ := by
      refine look_append _ _ _ (fun p hp e => ?_)
      have : ∀ p ∈ (setW (mul [] []) [(F.MCL_STAT_STATE, [1], 1)]).regs, p.1.n ≠ .DM_STAT := by decide +kernel
      exact this p hp (by rw [e])
    unfold rmRd AMap.lookD
    rw [h1]
    unfold AMap.look
    rw [List.find?_map]
    by_cases h : i % 16 = 1
    · rw [if_pos h]
      have : ((List.range 67).find? ((fun p : Reg × W64 => decide (p.1 = ⟨.DM_STAT, [i]⟩)) ∘ fun k => ((⟨.DM_STAT, [16 * k + 1]⟩ : Reg), packW [(2, 4, 2)]))).isSome = true := by
        rw [List.find?_isSome]
        exact ⟨i / 16, List.mem_range.2 (by omega), by simp; omega⟩
      obtain ⟨k, hk⟩ := Option.isSome_iff_exists.1 this
      rw [hk]
      rfl
    · rw [if_neg h, List.find?_eq_none.2]
      · rfl
      · intro k _
        simp
        omega
  unfold State.mcEmpty
  rw [busy]
  simp only [BEq.rfl, Bool.true_and, Bool.not_eq_true']
  rw [List.any_eq_false]
  intro i hi
  have hi := List.mem_range.1 hi
  have e := key i hi
  unfold State.on State.get rmGet
  rw [e]
  have hc : ∀ r < 16, (fget (if r = 1 then packW [(2, 4, 2)] else packW [(2, 4, r)]) 2 4 == 1 ||
      fget (if r = 1 then packW [(2, 4, 2)] else packW [(2, 4, r)]) 1 1 == 1) = false := by decide +kernel
  simpa using hc (i % 16) (Nat.mod_lt _ (by decide))

/-- The device with fields and a power state. -/
def pwr (l : List (Fld × List Nat × Nat)) (c : CpwSt) : State := { upW l with cpw := c }

/-- A running device with a journal, a declared failure and a thread. -/
def rstS : State :=
  { setW (mul [] []) [(F.CPW_TIME_TIME, [], 77), (F.MGR_JNL_SEQ_SEQ, [], 1), (F.CPW_STRAP_OSC_WAIT, [], 3), (F.CPW_RST_WARMS, [], 255), (F.CPW_TB_CFG_SEL, [], 1),
      (F.GSV_SEAL_CAUSE, [], 5)] with
    cpw := { pwrOk := true, latched := true, chosen := true }, flt := { failed := [(2, 5)] }, journal := [{ seq := 0, time := 5, kind := 2, orig := 5 }] }

/-- A device with counters above 0. -/
def cnts : State :=
  { up with regs := ([⟨.PT_CNT, [3, 1, 2]⟩, ⟨.PT_CNT, [3, 2, 2]⟩, ⟨.PT_CNT, [4, 1, 2]⟩, ⟨.PT_TCNT, [3, 1]⟩, ⟨.MCL_CNT, [2, 0, 5]⟩, ⟨.MCL_CNT, [2, 1, 5]⟩, ⟨.MCL_CNT, [3, 0, 5]⟩,
    ⟨.FAB_CNT, [3, 1]⟩, ⟨.FAB_CNT, [4, 1]⟩, ⟨.PMG_CNT, [2]⟩] : List Reg).map (fun r => (r, 0x1FFFFFFFFFFFF)) ++ up.regs }

/-- What sampling has caught. -/
def smpP : PerfSt := { caught := [(2, (9, 0x40, 0x60000, 5, 41))] }

/-- Cluster 0 in service on a device that samples with a configuration, its ring at 0x9000 of the owner host. -/
def smp (w : W64) : State :=
  let s := cfsOf (mul [] []) [(.mgmt, .bme, 1)]
  { s with regs := (⟨.PMG_SMP_CFG, []⟩, w + 0x20) :: (⟨.PMG_SMP_BASE, []⟩, 0x9000) :: s.regs }

/-- The state after a step. -/
def nxt (s : State) : State := match step s with | .next t => t | _ => s

/-- A device with the operator key of slot 0 fused. -/
def opKey (s : State) : State :=
  let t := s.set F.SEC_FUSE_O_FUSED [] 1
  { t with sec := { t.sec with moduli := [(0, List.replicate 384 1)], oper := [(0, List.replicate 32 1)] } }

/-- Chapter 19's example: the registers and gate slots of four BAR0 offsets. -/
theorem test_bar0_offsets :
    [0x01181180, 0x02041040, 0x01602050, 0x029C8004].map Reg.ofOffset =
      [some (⟨.PT_BUF_CFG, [6, 3]⟩, 0), some (⟨.RTR_ESC_CTL, [65]⟩, 0), some (⟨.SH_STAT, [386]⟩, 0), some (⟨.DM_STAT, [200]⟩, 0)] ∧
    [0x01181180, 0x02041040, 0x01602050, 0x029C8004].map (fun o => (slotOf o).map (·.1)) = [some 22, some 129, some 40, some 201] ∧
    Reg.ofOffset 0x00060000 = none := by decide +kernel

/-- The device of the examples of chapters 2 and 5: PT6 cut with code 2, PT14 and PT15 an x16 pair, the regions of port 24 set. -/
def cut6 : State :=
  setW State.reset [(F.PT_CUT_CUT, [6], 2), (F.PT_CUT_CUT, [14], 6), (F.PT_CUT_CUT, [15], 7), (F.PT_BUF_CFG_SC1, [6, 0], 32), (F.PT_BUF_CFG_SC2, [6, 0], 128),
    (F.PT_BUF_CFG_SC3, [6, 0], 32)]

/-- The ports of those cuts, their lanes, and the class regions of PT6 in KiB. -/
theorem test_cuts_and_regions :
    [24, 25, 26, 27, 56, 57, 60, 63].map cut6.portWidth = [4, 0, 2, 2, 16, 0, 0, 0] ∧
    (List.range 8).map (cut6.portOfLane 6) = [some 24, some 24, some 24, some 24, some 26, some 26, some 27, some 27] ∧
    [24, 26, 27].map (fun p => (List.range 4).map (fun c => cut6.region p c / 1024)) = [[32, 128, 512, 128], [16, 96, 192, 96], [16, 96, 192, 96]] := by
  decide +kernel

/-- The device of chapter 6's example: router 65 is failed. -/
def bad65 : State := setW State.reset [(F.RTR_CTL_FAILED, [65], 1)]

/-- The routers that a packet passes by the escape column of its destination. -/
def walk (col : List (Nat × Nat)) : Nat → Nat → List Nat
  | 0, _ => []
  | k + 1, n => n :: ((AMap.look col n).bind (neighbour n)).toList.flatMap (walk col k)

/-- Two levels differ from the distance to the root, router 60's vector has 55 bits, and the escape path to router 71 has the 13 hops of the example. -/
theorem test_escape_around_router_65 :
    bad65.levels.filter (fun e => e.2 ≠ ((e.1 % 12 : Int) - 5).natAbs + ((e.1 / 12 : Int) - 3).natAbs) = [(89, 6), (77, 5)] ∧
    ((List.range 96).filter (bad65.crosses 60)).length = 55 ∧
    walk (bad65.escColumn 71) 20 60 = [60, 48, 49, 50, 51, 52, 53, 54, 55, 56, 57, 58, 59, 71] := by decide +kernel

/-- Chapter 14's example: the shaper 626 of a capped tenant, its credit 0. -/
def capped : State :=
  { setW State.reset [(F.SH_CFG_EN, [626], 1), (F.SH_CFG_ECHO_EN, [626], 1), (F.SH_CFG_RATE, [626], 4000), (F.SH_CFG_RATE_MIN, [626], 1000),
      (F.SH_CFG_DEC_SHIFT, [626], 3), (F.SH_CFG_AI_STEP, [626], 16), (F.SH_LIM_HI, [626], 65536), (F.SH_LIM_LO_MAG, [626], 8192), (F.SH_LIM_HOLD, [626], 8),
      (F.SH_STAT_RATE_CUR, [626], 4000), (F.CPW_TIME_TIME, [], 10000)] with
    shp := [(626, { credit := 0, at_ := 10000 })] }

/-- A write of 272 bytes leaves −272 and waits 6.8 ns; an echo takes 40 GB/s to 35 GB/s. -/
theorem test_capped_tenant :
    (capped.shCharge 626 272).shCredit 626 = -27200 ∧
    ((capped.shCharge 626 272).set F.CPW_TIME_TIME [] 10006).shGrants 626 = false ∧
    ((capped.shCharge 626 272).set F.CPW_TIME_TIME [] 10007).shGrants 626 = true ∧
    (capped.shEcho 626).get F.SH_STAT_RATE_CUR [626] = 3500 := by decide +kernel

/-- Chapter 15's example: the leak interval of a flit counter at its defaults. -/
theorem test_leak_interval : State.reset.leakNs 1 51 3 = 31250000 := by decide +kernel

/-- A TLP that the form allows, and for each check of `Tlp.wf` one that it refuses. -/
theorem test_tlp_wf :
    ({ kind := .mwr, rid := 0xFFFF, tag := 0x3FFF, addr := 0xFFFFFFFFFFFFFFFC, len := 4, data := [1, 2, 3, 4], tc := 7 } : Tlp).wf = true ∧
    ([{ kind := .mrd, rid := 0x10000 }, { kind := .mrd, tag := 0x4000 }, { kind := .mrd, addr := 2 ^ 64 }, { kind := .mrd, len := 4097 },
      { kind := .mwr, data := List.replicate 4097 0 }, { kind := .mrd, tc := 8 }, { kind := .mrd, at_ := 4 }, { kind := .cfgrd, tid := 0x10000 },
      { kind := .msg, code := 256 }, { kind := .cpl, cid := 0x10000 }, { kind := .cpl, status := 8 }] : List Tlp).all (fun t => !t.wf) = true := by
  decide +kernel

/-- The table of R549: Vendor ID, Device ID, Revision ID and Class Code of the functions. -/
theorem test_identities :
    ([.up 0, .vdsp 0 1, .dmp 0, .mgmt, .dmf 3, .dmf 100] : List FnId).map (fun f => [CfgF.vendorId, .deviceId, .revision, .classCode].map (State.reset.cfgVal f)) =
      [[0x1F2B, 0x0280, 0xA1, 0x060400], [0x1F2B, 0x0281, 0xA1, 0x060400], [0x1F2B, 0x0281, 0xA1, 0x060400], [0x1F2B, 0x0288, 0xA1, 0x058000],
        [0x1F2B, 0x0290, 0xA1, 0x088000], [0x1F2B, 0x0291, 0xA1, 0x088000]] := by decide +kernel

/-- A Type 0 request is for the upstream port whatever bus it names; behind slot 1, on the secondary bus 3, a request becomes Type 0 (R96, R109). -/
theorem test_configuration_requests :
    live.routeHost live.snap 0 2 { kind := .cfgrd, tid := 0x700, cfg0 := true } live.routePort = .fn (.up 2) ∧
    live.routeHost live.snap 0 2 { kind := .cfgrd, tid := 0x208 } live.routePort = .fn (.vdsp 2 1) ∧
    (live.snap.downType 2 1 { kind := .cfgrd, tid := 0x000 }).cfg0 = true ∧
    (live.snap.downType 2 1 { kind := .cfgrd, tid := 0x300 }).cfg0 = false := by decide +kernel


/-! ### a step runs the command in front -/

/-- A command in front; an empty queue before the timebase runs, in the safe state, and on a running device. -/
theorem test_a_step_runs_the_command_in_front_hypotheses :
    ({ up with pending := [.warmReset (.core 0), .coldReset] } : State).pending = .warmReset (.core 0) :: [.coldReset] ∧
    (up.pending = [] ∧ up.on F.CPW_TB_STAT_LOCKED [] = false) ∧
    (let s := upW [(F.CPW_TB_STAT_LOCKED, [], 1), (F.GSV_STAT_SAFE, [], 1)]; s.pending = [] ∧ s.on F.CPW_TB_STAT_LOCKED [] = true ∧ s.sealed = true) ∧
    (let s := upW [(F.CPW_TB_STAT_LOCKED, [], 1)]; s.pending = [] ∧ s.on F.CPW_TB_STAT_LOCKED [] = true) := by
  and_intros <;> first | rfl | decide +kernel

/-! ### temperature warning -/

theorem test_temperature_warning_hypotheses :
    (up.sealed = false ∧ 110 ≤ sext 8 110) := by
  and_intros <;> first | decide +kernel | rfl | exact BitVec.isLt _ | exact Nat.zero_le _

/-! ### clock enable writes -/

theorem test_clock_enable_writes_hypotheses :
    ((upW [(F.CPW_CLKEN_EN, [0], 0xFFFFFFFF)] : State).granted (.core 0 : Init) true ⟨.CPW_CLKEN, [0]⟩ 4) := by
  and_intros <;> first | decide +kernel | rfl | exact BitVec.isLt _ | exact Nat.zero_le _

/-! ### the safe state holds -/

theorem test_the_safe_state_holds_hypotheses :
    (({ upW [(F.GSV_STAT_SAFE, [], 1)] with pending := [.coldReset, .gooseMismatch] } : State).latched ∧
    ({ upW [(F.GSV_STAT_SAFE, [], 1)] with pending := [.coldReset, .gooseMismatch] } : State).cpw.aon = true ∧ step
    ({ upW [(F.GSV_STAT_SAFE, [], 1)] with pending := [.coldReset, .gooseMismatch] } : State) = .next (nxt
    { upW [(F.GSV_STAT_SAFE, [], 1)] with pending := [.coldReset, .gooseMismatch] } : State)) := by
  and_intros <;> first | decide +kernel | rfl | exact BitVec.isLt _ | exact Nat.zero_le _

/-! ### mule words decode to their encodings -/

theorem test_mule_words_decode_to_their_encodings_hypotheses :
    (({ mn := .jal, d := 31, imm := 0x1FFFFF } : MIns).wf = true) ∧ ((0x00190261 : Nat) < 2 ^ 32 ∧ mDecode (0x00190261 : Nat) = some
    ({ mn := .bne, a := 9, b := 0, imm := 0x19 } : MIns)) ∧ ((∀ m ∈ Mn.all, m.hits 0 = false)) := by
  and_intros <;> first | decide +kernel | rfl | exact BitVec.isLt _ | exact Nat.zero_le _

/-- The words that the log append program writes beside its instructions (R434), and an all-zero word (R417). -/
theorem test_words_of_the_worked_example :
    mDecode 0x00190261 = some { mn := .bne, a := 9, b := 0, imm := 25 } ∧ mDecode 0x00080502 = some { mn := .addi, d := 20, a := 0, imm := 8 } ∧
    mDecode 0x003402F0 = some { mn := .srdD, d := 11, a := 0, b := 20 } ∧ mDecode 0x00800030 = some { mn := .swait } ∧
    mDecode 0x00160120 = some { mn := .beq, a := 4, b := 0, imm := 22 } ∧ mDecode 0x001426E4 = some { mn := .bltu, a := 27, b := 4, imm := 20 } ∧
    mDecode 0x00100587 = some { mn := .lih, d := 22, imm := 16 } ∧ mDecode 0x000405B0 = some { mn := .srdS, d := 22, a := 0, b := 4 } ∧
    mDecode 0x0064BDB0 = some { mn := .sput, d := 22, a := 23, b := 4 } ∧ mDecode 0x0000D031 = some { mn := .step, a := 26 } ∧
    mDecode 0x0000A832 = some { mn := .end_, a := 21 } ∧ mDecode 0x00414546 = some { mn := .shi, d := 21, a := 8, imm := 0x41 } ∧
    mDecode 0x0020A832 = some { mn := .abort, a := 21 } ∧ mDecode 0 = none := by
  decide +kernel

/-! ### operator programs are confined -/

theorem test_operator_programs_are_confined_hypotheses :
    (mulT [{ mn := .st8, d := 2, a := 1 }] { thrd [(1, 0x60000)] with o := true }).turn 0 0 { thrd [(1, 0x60000)] with o := true } := by
  and_intros <;> decide +kernel

/-! ### memories stay canonical -/

theorem test_memories_stay_canonical_hypotheses :
    ((mul [{ mn := .st8, d := 2, a := 1 }] [(1, 0x60000)] : State).memOk) ∧ ((mul [] [] : State).memOk) ∧ ((mul [] [] : State).memOk) ∧ ((mul []
    [] : State).memOk) := by
  and_intros <;> first | decide +kernel | rfl | exact BitVec.isLt _ | exact Nat.zero_le _

/-! ### lane register writes -/

theorem test_lane_register_writes_hypotheses :
    ((upW [(F.PT_CUT_CUT_REFUSED, [3], 1)] : State).granted (.owner : Init) true ⟨.PT_CUT, [3]⟩ 4 ∧ fget ((0x100 : W32).zeroExtend 64) 0 4 =
    (upW [(F.PT_CUT_CUT_REFUSED, [3], 1)] : State).get F.PT_CUT_CUT [3]) ∧ (up.granted (.owner : Init) true ⟨.PT_CUT, [3]⟩ 4 ∧ fget ((6 :
    W32).zeroExtend 64) 0 4 ≠ up.get F.PT_CUT_CUT [3] ∧ fget ((6 : W32).zeroExtend 64) 0 4 < 8 ∧ up.tileEnabled 3 = false) ∧ (up.granted (.owner
    : Init) true ⟨.PT_CUT, [3]⟩ 4 ∧ fget ((15 : W32).zeroExtend 64) 0 4 ≠ up.get F.PT_CUT_CUT [3] ∧ ((8 ≤ fget ((15 : W32).zeroExtend 64) 0 4 ∨
    up.tileEnabled 3 = true))) ∧ (up.granted (.sideband : Init) true ⟨.LN_CTL, [35, 7]⟩ 4 ∧ 2 = fget ((0x27 : W32).zeroExtend 64) 4 3 ∧ ((2 = 0
    ∨ (up.laneIdle 35 7 = true ∧ (2 = 1 ∨ 2 = 2 ∨ (2 = 3 ∧ up.get F.LN_PAT_CHK_LOCK [35, 7] = 1)))))) ∧ (up.granted (.sideband : Init) true
    ⟨.LN_CTL, [35, 7]⟩ 4 ∧ 3 = fget ((0x37 : W32).zeroExtend 64) 4 3 ∧ (¬ (3 = 0 ∨ (up.laneIdle 35 7 = true ∧ (3 = 1 ∨ 3 = 2 ∨ (3 = 3 ∧ up.get
    F.LN_PAT_CHK_LOCK [35, 7] = 1)))))) ∧ (up.granted (.owner : Init) true ⟨.LN_PAT, [0, 0]⟩ 4 ∧ (0x2B : W32).getLsbD 13 = false ∧ ((((0x2B :
    W32).getLsbD 0 = false ∧ (0x2B : W32).getLsbD 1 = false) ∨ up.patOk 0 0 (fget ((0x2B : W32).zeroExtend 64) 2 4) = true))) ∧ (up.granted
    (.owner : Init) true ⟨.LN_PAT, [0, 0]⟩ 4 ∧ (0x1D : W32).getLsbD 13 = false ∧ (((0x1D : W32).getLsbD 0 = true ∨ (0x1D : W32).getLsbD 1 =
    true)) ∧ up.patOk 0 0 (fget ((0x1D : W32).zeroExtend 64) 2 4) = false) ∧ (({ up with lnk := { margin := [(35, 7)] } } : State).granted
    (.owner : Init) true ⟨.LN_EYE, [35, 7]⟩ 8 ∧ (35, 7) ∈ ({ up with lnk := { margin := [(35, 7)] } } : State).lnk.margin) ∧
    (({ up with lnk := { eqRun := [(35, 7)] } } : State).granted (.owner : Init) true ⟨.LN_EYE, [35, 7]⟩ 8 ∧ (35, 7) ∉
    ({ up with lnk := { eqRun := [(35, 7)] } } : State).lnk.margin) := by
  and_intros <;> first | decide +kernel | rfl | exact BitVec.isLt _ | exact Nat.zero_le _

/-! ### lane pattern and sampler events -/

theorem test_lane_pattern_and_sampler_events_hypotheses :
    ((upW [(F.PT_CUT_CUT, [2], 5)] : State).sealed = false) ∧ ((upW [(F.LN_PAT_CHK_EN, [35, 7], 1)] : State).sealed = false ∧ (upW
    [(F.LN_PAT_CHK_EN, [35, 7], 1)] : State).get F.LN_PAT_CHK_EN [35, 7] = 1) ∧ ((upW [(F.LN_PAT_CHK_LOCK, [0, 1], 1), (F.LN_PAT_ERR_COUNT, [0,
    1], 0xFFFFFFFFFFFE)] : State).sealed = false ∧ (upW [(F.LN_PAT_CHK_LOCK, [0, 1], 1), (F.LN_PAT_ERR_COUNT, [0, 1], 0xFFFFFFFFFFFE)] :
    State).get F.LN_PAT_CHK_LOCK [0, 1] = 1) ∧ ((upW [(F.LN_PAT_INJ_MODE, [0, 1], 1), (F.LN_PAT_GEN_EN, [0, 1], 1), (F.LN_PAT_CHK_LOCK, [0, 1],
    1)] : State).granted (.owner : Init) true ⟨.LN_PAT, [0, 1]⟩ 4 ∧ (upW [(F.LN_PAT_INJ_MODE, [0, 1], 1), (F.LN_PAT_GEN_EN, [0, 1], 1),
    (F.LN_PAT_CHK_LOCK, [0, 1], 1)] : State).get F.LN_PAT_INJ_MODE [0, 1] = 1) ∧ ((upW [(F.LN_PAT_INJ_MODE, [0, 1], 2), (F.LN_PAT_GEN_EN, [0,
    1], 1), (F.LN_PAT_CHK_LOCK, [0, 1], 1), (F.LN_PAT_ERR_COUNT, [0, 1], 0xFFFFFFFFFFFE)] : State).sealed = false ∧ (upW [(F.LN_PAT_INJ_MODE,
    [0, 1], 2), (F.LN_PAT_GEN_EN, [0, 1], 1), (F.LN_PAT_CHK_LOCK, [0, 1], 1), (F.LN_PAT_ERR_COUNT, [0, 1], 0xFFFFFFFFFFFE)] : State).get
    F.LN_PAT_INJ_MODE [0, 1] = 2) ∧ (({ up with lnk := { eyeWait := [(1, 2)] } } : State).sealed = false ∧ (1, 2) ∈
    ({ up with lnk := { eyeWait := [(1, 2)] } } : State).lnk.eyeWait ∧ (1, 2) ∉ ({ up with lnk := { eyeWait := [(1, 2)] } } : State).lnk.eqRun)
    ∧ ((upW [(F.LN_EYE_START, [1, 2], 1)] : State).sealed = false ∧ (upW [(F.LN_EYE_START, [1, 2], 1)] : State).get F.LN_EYE_START [1, 2] = 1 ∧
    (1, 2) ∉ (upW [(F.LN_EYE_START, [1, 2], 1)] : State).lnk.eyeWait) := by
  and_intros <;> first | decide +kernel | rfl | exact BitVec.isLt _ | exact Nat.zero_le _

/-! ### equalization and margining -/

theorem test_equalization_and_margining_hypotheses :
    (up.sealed = false ∧ up.get F.LN_TXEQ_OVR [35, 7] = 0 ∧ 15 ≤ 15 ∧ 6 ≤ 21 ∧ 15 + 42 + 6 = 63 ∧ 21 + 15 + 6 ≤ 42) ∧ (up.sealed = false ∧
    ((up.get F.LN_TXEQ_OVR [35, 7] = 1 ∨ 15 < 16 ∨ 21 < 5 ∨ 16 + 42 + 5 ≠ 63 ∨ 42 < 21 + 16 + 5))) ∧
    (({ up with lnk := { margin := [(0, 0), (1, 1)] } } : State).sealed = false) ∧ (({ up with lnk := { eqRun := [(0, 0)] } } : State).sealed =
    false ∧ (0, 0) ∈ ({ up with lnk := { eqRun := [(0, 0)] } } : State).lnk.eqRun) ∧ ((upW [(F.PT_CUT_CUT, [0], 5), (F.PP_STAT_LINK_STATE, [0,
    0], 3), (F.PP_STAT_RATE, [0, 0], 3)] : State).sealed = false ∧ (upW [(F.PT_CUT_CUT, [0], 5), (F.PP_STAT_LINK_STATE, [0, 0], 3),
    (F.PP_STAT_RATE, [0, 0], 3)] : State).portOfLane 0 7 = some 0 ∧ (upW [(F.PT_CUT_CUT, [0], 5), (F.PP_STAT_LINK_STATE, [0, 0], 3),
    (F.PP_STAT_RATE, [0, 0], 3)] : State).inL0 0 = true ∧ (upW [(F.PT_CUT_CUT, [0], 5), (F.PP_STAT_LINK_STATE, [0, 0], 3), (F.PP_STAT_RATE, [0,
    0], 3)] : State).role 0 ≠ 2 ∧ 3 ≤ (upW [(F.PT_CUT_CUT, [0], 5), (F.PP_STAT_LINK_STATE, [0, 0], 3), (F.PP_STAT_RATE, [0, 0], 3)] :
    State).pget F.PP_STAT_RATE 0 ∧ 32 ≤ 32 ∧ 64 ≤ 64 ∧ (0, 7) ∉ (upW [(F.PT_CUT_CUT, [0], 5), (F.PP_STAT_LINK_STATE, [0, 0], 3),
    (F.PP_STAT_RATE, [0, 0], 3)] : State).lnk.eqRun) ∧ ((upW [(F.PT_CUT_CUT, [0], 5)] : State).sealed = false ∧ (upW [(F.PT_CUT_CUT, [0], 5)] :
    State).portOfLane 0 7 = some 0) := by
  and_intros <;> first | decide +kernel | rfl | exact BitVec.isLt _ | exact Nat.zero_le _

/-! ### lanes left out and miswired -/

theorem test_lanes_left_out_and_miswired_hypotheses :
    ((upW [(F.PT_CUT_CUT, [0], 5), (F.PP_STAT_LINK_STATE, [0, 0], 3), (F.PP_STAT_WIDTH, [0, 0], 8)] : State).sealed = false ∧ (upW
    [(F.PT_CUT_CUT, [0], 5), (F.PP_STAT_LINK_STATE, [0, 0], 3), (F.PP_STAT_WIDTH, [0, 0], 8)] : State).portOfLane 0 7 = some 0 ∧ (0, 7) ∉ (upW
    [(F.PT_CUT_CUT, [0], 5), (F.PP_STAT_LINK_STATE, [0, 0], 3), (F.PP_STAT_WIDTH, [0, 0], 8)] : State).lnk.badLanes) ∧ ((upW [(F.PP_CTL_ENABLE,
    [35, 3], 1), (F.PP_CTL_DEGRADE_EN, [35, 3], 1), (F.PP_STAT_LINK_STATE, [35, 3], 3)] : State).sealed = false ∧ (upW [(F.PP_CTL_ENABLE, [35,
    3], 1), (F.PP_CTL_DEGRADE_EN, [35, 3], 1), (F.PP_STAT_LINK_STATE, [35, 3], 3)] : State).pget F.PP_CTL_ENABLE 143 = 1) ∧ ((upW
    [(F.PT_CUT_CUT, [2], 5), (F.PP_CTL_ENABLE, [2, 0], 1), (F.PP_CTL_ROLE, [2, 0], 2)] : State).sealed = false ∧ (upW [(F.PT_CUT_CUT, [2], 5),
    (F.PP_CTL_ENABLE, [2, 0], 1), (F.PP_CTL_ROLE, [2, 0], 2)] : State).portOfLane 2 7 = some 8 ∧ (upW [(F.PT_CUT_CUT, [2], 5), (F.PP_CTL_ENABLE,
    [2, 0], 1), (F.PP_CTL_ROLE, [2, 0], 2)] : State).role 8 = 2 ∧ (upW [(F.PT_CUT_CUT, [2], 5), (F.PP_CTL_ENABLE, [2, 0], 1), (F.PP_CTL_ROLE,
    [2, 0], 2)] : State).pget F.PP_CTL_ENABLE 8 = 1 ∧ (upW [(F.PT_CUT_CUT, [2], 5), (F.PP_CTL_ENABLE, [2, 0], 1), (F.PP_CTL_ROLE, [2, 0], 2)] :
    State).lnk.badMarks.lookD (2, 7) 0 ≠ 7) ∧ ((upW [(F.PT_CUT_CUT, [2], 5), (F.PP_CTL_ENABLE, [2, 0], 1), (F.PP_CTL_ROLE, [2, 0], 2)] :
    State).sealed = false ∧ (upW [(F.PT_CUT_CUT, [2], 5), (F.PP_CTL_ENABLE, [2, 0], 1), (F.PP_CTL_ROLE, [2, 0], 2)] : State).portOfLane 2 7 =
    some 8 ∧ (upW [(F.PT_CUT_CUT, [2], 5), (F.PP_CTL_ENABLE, [2, 0], 1), (F.PP_CTL_ROLE, [2, 0], 2)] : State).role 8 = 2 ∧ (upW [(F.PT_CUT_CUT,
    [2], 5), (F.PP_CTL_ENABLE, [2, 0], 1), (F.PP_CTL_ROLE, [2, 0], 2)] : State).pget F.PP_CTL_ENABLE 8 = 1 ∧ (upW [(F.PT_CUT_CUT, [2], 5),
    (F.PP_CTL_ENABLE, [2, 0], 1), (F.PP_CTL_ROLE, [2, 0], 2)] : State).lanesOf 8 = (2, 0) :: ([(2, 1), (2, 2), (2, 3), (2, 4), (2, 5), (2, 6),
    (2, 7)] : List (Nat × Nat)) ∧ (upW [(F.PT_CUT_CUT, [2], 5), (F.PP_CTL_ENABLE, [2, 0], 1), (F.PP_CTL_ROLE, [2, 0], 2)] : State).lnk.mark.look
    8 = none ∧ ((7 = 8 * 2 + 7 - (8 * 2 + 0) ∨ 7 + (8 * 2 + 7 - (8 * 2 + 0)) + 1 = 8))) ∧
    (({ upW [(F.PT_CUT_CUT, [2], 5), (F.PP_CTL_ENABLE, [2, 0], 1), (F.PP_CTL_ROLE, [2, 0], 2)] with lnk := { mark := [(8, (1, 2))] } } :
    State).sealed = false ∧
    ({ upW [(F.PT_CUT_CUT, [2], 5), (F.PP_CTL_ENABLE, [2, 0], 1), (F.PP_CTL_ROLE, [2, 0], 2)] with lnk := { mark := [(8, (1, 2))] } } :
    State).portOfLane 2 7 = some 8 ∧
    ({ upW [(F.PT_CUT_CUT, [2], 5), (F.PP_CTL_ENABLE, [2, 0], 1), (F.PP_CTL_ROLE, [2, 0], 2)] with lnk := { mark := [(8, (1, 2))] } } :
    State).role 8 = 2 ∧
    ({ upW [(F.PT_CUT_CUT, [2], 5), (F.PP_CTL_ENABLE, [2, 0], 1), (F.PP_CTL_ROLE, [2, 0], 2)] with lnk := { mark := [(8, (1, 2))] } } :
    State).pget F.PP_CTL_ENABLE 8 = 1 ∧
    ({ upW [(F.PT_CUT_CUT, [2], 5), (F.PP_CTL_ENABLE, [2, 0], 1), (F.PP_CTL_ROLE, [2, 0], 2)] with lnk := { mark := [(8, (1, 2))] } } :
    State).lnk.mark.look 8 = some ((1, 2) : Nat × Nat) ∧ ((1, 2) : Nat × Nat) ≠ (1, 3)) := by
  and_intros <;> first | decide +kernel | rfl | exact BitVec.isLt _ | exact Nat.zero_le _

/-! ### port register writes -/

theorem test_port_register_writes_hypotheses :
    ((upW [(F.PP_CTL_ENABLE, [35, 3], 1)] : State).granted (.owner : Init) true ⟨.PP_CTL, [143 / 4, 143 % 4]⟩ 4 ∧ (upW [(F.PP_CTL_ENABLE, [35,
    3], 1)] : State).pget F.PP_CTL_ENABLE 143 = 1 ∧ (0x1F3 : W32).getLsbD 0 = true ∧ (0x1F3 : W32).getLsbD 9 = false) ∧ ((upW [(F.PT_CUT_CUT,
    [35], 1)] : State).granted (.owner : Init) true ⟨.PP_CTL, [143 / 4, 143 % 4]⟩ 4 ∧ (upW [(F.PT_CUT_CUT, [35], 1)] : State).pget
    F.PP_CTL_ENABLE 143 = 0 ∧ (0x171 : W32).getLsbD 0 = true ∧ (0x171 : W32).getLsbD 9 = false ∧ fget ((0x171 : W32).zeroExtend 64) 1 2 = (upW
    [(F.PT_CUT_CUT, [35], 1)] : State).pget F.PP_CTL_ROLE 143 ∧ (upW [(F.PT_CUT_CUT, [35], 1)] : State).portWidth 143 ≠ 0 ∧ (upW [(F.PT_CUT_CUT,
    [35], 1)] : State).pget F.PT_CONT_C_VDSP 143 = 0 ∧ (upW [(F.PT_CUT_CUT, [35], 1)] : State).portOff 143 = false ∧ (upW [(F.PT_CUT_CUT, [35],
    1)] : State).pget F.PP_STAT_LINK_STATE 143 = 0) ∧ (up.granted (.sideband : Init) true ⟨.PP_CTL, [143 / 4, 143 % 4]⟩ 4 ∧ up.pget
    F.PP_CTL_ENABLE 143 = 0 ∧ (0x12C : W32).getLsbD 0 = false ∧ fget ((0x12C : W32).zeroExtend 64) 1 2 ≠ 3 ∧ ¬ (fget ((0x12C : W32).zeroExtend
    64) 1 2 = 2 ∧ up.winNames 143 = true)) ∧
    (({ upW [(F.PT_CUT_CUT, [0], 5), (F.PP_CTL_ENABLE, [0, 0], 1), (F.PP_STAT_LINK_STATE, [0, 0], 3)] with lnk := { badLanes := [(0, 1), (1, 1)], rateCap := [(0, 2)] } }
    : State).granted (.owner : Init) true ⟨.PP_CTL, [0 / 4, 0 % 4]⟩ 4 ∧
    ({ upW [(F.PT_CUT_CUT, [0], 5), (F.PP_CTL_ENABLE, [0, 0], 1), (F.PP_STAT_LINK_STATE, [0, 0], 3)] with lnk := { badLanes := [(0, 1), (1, 1)], rateCap := [(0, 2)] } }
    : State).pget F.PP_CTL_ENABLE 0 = 1) ∧ (up.granted (.owner : Init) true ⟨.PT_BUF_CFG, [143 / 4, 143 % 4]⟩ 4 ∧ up.pget F.PP_CTL_ENABLE 143 =
    0 ∧ fget ((0x0808B0 : W32).zeroExtend 64) 0 8 + fget ((0x0808B0 : W32).zeroExtend 64) 8 8 + fget ((0x0808B0 : W32).zeroExtend 64) 16 8 = 192
    ∧ 8 ≤ fget ((0x0808B0 : W32).zeroExtend 64) 0 8 ∧ 8 ≤ fget ((0x0808B0 : W32).zeroExtend 64) 8 8 ∧ 8 ≤ fget ((0x0808B0 : W32).zeroExtend 64)
    16 8) ∧ (up.granted (.owner : Init) true ⟨.PT_BUF_CFG, [143 / 4, 143 % 4]⟩ 4 ∧ ((fget ((0x0807B1 : W32).zeroExtend 64) 0 8 + fget ((0x0807B1
    : W32).zeroExtend 64) 8 8 + fget ((0x0807B1 : W32).zeroExtend 64) 16 8 ≠ 192 ∨ fget ((0x0807B1 : W32).zeroExtend 64) 0 8 < 8 ∨ fget
    ((0x0807B1 : W32).zeroExtend 64) 8 8 < 8 ∨ fget ((0x0807B1 : W32).zeroExtend 64) 16 8 < 8 ∨ (up.pget F.PP_CTL_ENABLE 143 = 1 ∧ fget
    ((0x0807B1 : W32).zeroExtend 64) 0 8 ≠ up.pget F.PT_BUF_CFG_SC1 143)))) := by
  and_intros <;> first | decide +kernel | rfl | exact BitVec.isLt _ | exact Nat.zero_le _

/-! ### training and link state -/

theorem test_training_and_link_state_hypotheses :
    ((upW [(F.PT_CUT_CUT, [0], 5), (F.PP_CTL_ENABLE, [0, 0], 1), (F.PP_CTL_ROLE, [0, 0], 1), (F.PP_STAT_LINK_STATE, [0, 0], 2),
    (F.PP_STAT_DEGRADED, [0, 0], 1), (F.CPW_PD_STATE, [0], 1)] : State).sealed = false ∧ (upW [(F.PT_CUT_CUT, [0], 5), (F.PP_CTL_ENABLE, [0, 0],
    1), (F.PP_CTL_ROLE, [0, 0], 1), (F.PP_STAT_LINK_STATE, [0, 0], 2), (F.PP_STAT_DEGRADED, [0, 0], 1), (F.CPW_PD_STATE, [0], 1)] :
    State).canTrain 0 6 8 true true = true) ∧ ((upW [(F.PP_STAT_LINK_STATE, [35, 3], 7)] : State).sealed = false ∧ (upW [(F.PP_STAT_LINK_STATE,
    [35, 3], 7)] : State).pget F.PP_STAT_LINK_STATE 143 ∈ [2, 7] ∧ (upW [(F.PP_STAT_LINK_STATE, [35, 3], 7)] : State).role 143 ≠ 2) ∧ ((upW
    [(F.PP_STAT_LINK_STATE, [35, 3], 2), (F.PP_CTL_ROLE, [35, 3], 2)] : State).sealed = false ∧ (upW [(F.PP_STAT_LINK_STATE, [35, 3], 2),
    (F.PP_CTL_ROLE, [35, 3], 2)] : State).pget F.PP_STAT_LINK_STATE 143 ∈ [2, 7] ∧ (upW [(F.PP_STAT_LINK_STATE, [35, 3], 2), (F.PP_CTL_ROLE,
    [35, 3], 2)] : State).role 143 = 2) ∧ ((upW [(F.PT_CUT_CUT, [0], 5), (F.PP_CTL_ENABLE, [0, 0], 1), (F.PP_CTL_ROLE, [0, 0], 1),
    (F.PP_STAT_LINK_STATE, [0, 0], 3)] : State).sealed = false ∧ (upW [(F.PT_CUT_CUT, [0], 5), (F.PP_CTL_ENABLE, [0, 0], 1), (F.PP_CTL_ROLE, [0,
    0], 1), (F.PP_STAT_LINK_STATE, [0, 0], 3)] : State).role 0 = 1 ∧ (upW [(F.PT_CUT_CUT, [0], 5), (F.PP_CTL_ENABLE, [0, 0], 1), (F.PP_CTL_ROLE,
    [0, 0], 1), (F.PP_STAT_LINK_STATE, [0, 0], 3)] : State).pget F.PP_STAT_LINK_STATE 0 ∈ [3, 4, 5, 6]) ∧ ((upW [(F.PP_STAT_LINK_STATE, [35, 3],
    1), (F.PP_CTL_ENABLE, [35, 3], 1)] : State).sealed = false ∧ (upW [(F.PP_STAT_LINK_STATE, [35, 3], 1), (F.PP_CTL_ENABLE, [35, 3], 1)] :
    State).pget F.PP_STAT_LINK_STATE 143 ∈ [1, 2] ∧ (upW [(F.PP_STAT_LINK_STATE, [35, 3], 1), (F.PP_CTL_ENABLE, [35, 3], 1)] : State).pget
    F.PP_CTL_ENABLE 143 = 1 ∧ (upW [(F.PP_STAT_LINK_STATE, [35, 3], 1), (F.PP_CTL_ENABLE, [35, 3], 1)] : State).role 143 ≠ 2) ∧ ((upW
    [(F.PT_CUT_CUT, [0], 5), (F.PP_STAT_LINK_STATE, [0, 0], 8), (F.LN_PAT_GEN_EN, [0, 7], 1)] : State).sealed = false ∧ (upW [(F.PT_CUT_CUT,
    [0], 5), (F.PP_STAT_LINK_STATE, [0, 0], 8), (F.LN_PAT_GEN_EN, [0, 7], 1)] : State).pget F.PP_STAT_LINK_STATE 0 = 8) := by
  and_intros <;> first | decide +kernel | rfl | exact BitVec.isLt _ | exact Nat.zero_le _

/-! ### link power management -/

theorem test_link_power_management_hypotheses :
    (({ upW [(F.PP_STAT_LINK_STATE, [35, 3], 6), (F.PP_STAT_L0P_WIDTH, [35, 3], 4)] with lnk := { l1Width := [(143, 4)] } } : State).sealed =
    false ∧ ({ upW [(F.PP_STAT_LINK_STATE, [35, 3], 6), (F.PP_STAT_L0P_WIDTH, [35, 3], 4)] with lnk := { l1Width := [(143, 4)] } } : State).pget
    F.PP_STAT_LINK_STATE 143 = 6 ∧
    ({ upW [(F.PP_STAT_LINK_STATE, [35, 3], 6), (F.PP_STAT_L0P_WIDTH, [35, 3], 4)] with lnk := { l1Width := [(143, 4)] } } :
    State).lnk.l1Width.lookD 143 0 < 32) ∧ ((upW [(F.PP_PM_CLKREQ_GPIO, [35, 3], 63), (F.PP_STAT_LINK_STATE, [35, 3], 6)] : State).sealed =
    false ∧ (upW [(F.PP_PM_CLKREQ_GPIO, [35, 3], 63), (F.PP_STAT_LINK_STATE, [35, 3], 6)] : State).drives 143 false = true) ∧ ((upW
    [(F.PP_PM_L0P_EN, [0, 0], 1), (F.PP_STAT_FLIT, [0, 0], 1), (F.PP_STAT_LINK_STATE, [0, 0], 3), (F.PP_STAT_WIDTH, [0, 0], 8),
    (F.PP_STAT_L0P_WIDTH, [0, 0], 8)] : State).sealed = false ∧ (upW [(F.PP_PM_L0P_EN, [0, 0], 1), (F.PP_STAT_FLIT, [0, 0], 1),
    (F.PP_STAT_LINK_STATE, [0, 0], 3), (F.PP_STAT_WIDTH, [0, 0], 8), (F.PP_STAT_L0P_WIDTH, [0, 0], 8)] : State).pget F.PP_PM_L0P_EN 0 = 1 ∧ (upW
    [(F.PP_PM_L0P_EN, [0, 0], 1), (F.PP_STAT_FLIT, [0, 0], 1), (F.PP_STAT_LINK_STATE, [0, 0], 3), (F.PP_STAT_WIDTH, [0, 0], 8),
    (F.PP_STAT_L0P_WIDTH, [0, 0], 8)] : State).inL0 0 = true ∧ (upW [(F.PP_PM_L0P_EN, [0, 0], 1), (F.PP_STAT_FLIT, [0, 0], 1),
    (F.PP_STAT_LINK_STATE, [0, 0], 3), (F.PP_STAT_WIDTH, [0, 0], 8), (F.PP_STAT_L0P_WIDTH, [0, 0], 8)] : State).pget F.PP_STAT_FLIT 0 = 1) ∧
    ((upW [(F.PP_STAT_FLIT, [0, 0], 1), (F.PP_STAT_LINK_STATE, [0, 0], 3), (F.PP_STAT_WIDTH, [0, 0], 8), (F.PP_STAT_L0P_WIDTH, [0, 0], 8)] :
    State).sealed = false ∧ (upW [(F.PP_STAT_FLIT, [0, 0], 1), (F.PP_STAT_LINK_STATE, [0, 0], 3), (F.PP_STAT_WIDTH, [0, 0], 8),
    (F.PP_STAT_L0P_WIDTH, [0, 0], 8)] : State).inL0 0 = true ∧ (upW [(F.PP_STAT_FLIT, [0, 0], 1), (F.PP_STAT_LINK_STATE, [0, 0], 3),
    (F.PP_STAT_WIDTH, [0, 0], 8), (F.PP_STAT_L0P_WIDTH, [0, 0], 8)] : State).pget F.PP_STAT_FLIT 0 = 1 ∧ 4 ∈ [1, 2, 4, 8, 16] ∧ 4 ≤ (upW
    [(F.PP_STAT_FLIT, [0, 0], 1), (F.PP_STAT_LINK_STATE, [0, 0], 3), (F.PP_STAT_WIDTH, [0, 0], 8), (F.PP_STAT_L0P_WIDTH, [0, 0], 8)] :
    State).pget F.PP_STAT_WIDTH 0 ∧ (upW [(F.PP_STAT_FLIT, [0, 0], 1), (F.PP_STAT_LINK_STATE, [0, 0], 3), (F.PP_STAT_WIDTH, [0, 0], 8),
    (F.PP_STAT_L0P_WIDTH, [0, 0], 8)] : State).l0pMin 0 ≤ 4 ∧ ((4 = (upW [(F.PP_STAT_FLIT, [0, 0], 1), (F.PP_STAT_LINK_STATE, [0, 0], 3),
    (F.PP_STAT_WIDTH, [0, 0], 8), (F.PP_STAT_L0P_WIDTH, [0, 0], 8)] : State).pget F.PP_STAT_WIDTH 0 ∨ (upW [(F.PP_STAT_FLIT, [0, 0], 1),
    (F.PP_STAT_LINK_STATE, [0, 0], 3), (F.PP_STAT_WIDTH, [0, 0], 8), (F.PP_STAT_L0P_WIDTH, [0, 0], 8)] : State).l0pFull 0 ((upW
    [(F.PP_STAT_FLIT, [0, 0], 1), (F.PP_STAT_LINK_STATE, [0, 0], 3), (F.PP_STAT_WIDTH, [0, 0], 8), (F.PP_STAT_L0P_WIDTH, [0, 0], 8)] :
    State).lnk.util.lookD 0 0) = false))) ∧ (((cfsOf (setW net [(F.CPW_TIME_TIME, [], 100000)]) [(.up 2, .aspmL1, 1)]) : State).sealed = false ∧
    ((cfsOf (setW net [(F.CPW_TIME_TIME, [], 100000)]) [(.up 2, .aspmL1, 1)]) : State).vsOfPort 0 = some 2 ∧ ((cfsOf (setW net
    [(F.CPW_TIME_TIME, [], 100000)]) [(.up 2, .aspmL1, 1)]) : State).role 0 = 0 ∧ ((cfsOf (setW net [(F.CPW_TIME_TIME, [], 100000)]) [(.up 2,
    .aspmL1, 1)]) : State).inL0 0 = true ∧ ((cfsOf (setW net [(F.CPW_TIME_TIME, [], 100000)]) [(.up 2, .aspmL1, 1)]) : State).cf (.up 2) .aspmL1
    = 1 ∧ ((cfsOf (setW net [(F.CPW_TIME_TIME, [], 100000)]) [(.up 2, .aspmL1, 1)]) : State).pget F.PP_PM_L1_IDLE 0 ≠ 0 ∧ ((cfsOf (setW net
    [(F.CPW_TIME_TIME, [], 100000)]) [(.up 2, .aspmL1, 1)]) : State).lnk.lastTlp.lookD 0 0 + ((cfsOf (setW net [(F.CPW_TIME_TIME, [], 100000)])
    [(.up 2, .aspmL1, 1)]) : State).pget F.PP_PM_L1_IDLE 0 * 1000 ≤ ((cfsOf (setW net [(F.CPW_TIME_TIME, [], 100000)]) [(.up 2, .aspmL1, 1)]) :
    State).now ∧ (∀ e ∈ ((cfsOf (setW net [(F.CPW_TIME_TIME, [], 100000)]) [(.up 2, .aspmL1, 1)]) : State).fwd.trk, ¬ (e.1.1 = 0 / 4 ∧ e.2.slot
    = 0 % 4))) ∧ (((cfsOf net [(.vdsp 2 1, .aspmL1, 1)]) : State).sealed = false ∧ ((cfsOf net [(.vdsp 2 1, .aspmL1, 1)]) : State).portBinding 4
    = some (2, 1) ∧ ((cfsOf net [(.vdsp 2 1, .aspmL1, 1)]) : State).role 4 = 1 ∧ ((cfsOf net [(.vdsp 2 1, .aspmL1, 1)]) : State).inL0 4 = true ∧
    ((cfsOf net [(.vdsp 2 1, .aspmL1, 1)]) : State).cf (.vdsp 2 1) .aspmL1 = 1) ∧ (net.sealed = false ∧ net.boundSlots 4 = [(2, 1)] ∧ net.get
    F.VST_SLOT_KIND [2, 1] ≠ 0 ∧ 1 < 32 ∧ ((∀ x < 32, x ≠ 1 → net.get F.VST_SLOT_KIND [2, x] = 0)) ∧ 1000 ≠ net.cf (.up 2) .ltrSent - 1 ∧ 1000 ≤
    1000) := by
  and_intros <;> first | decide +kernel | rfl | exact BitVec.isLt _ | exact Nat.zero_le _

/-! ### conventional resets -/

theorem test_conventional_resets_hypotheses :
    (net.sealed = false ∧ (∀ q < 144, ¬ (net.role q = 0 ∧ net.pget F.PP_RST_PERST_IN_EN q = 1 ∧ net.pget F.PP_RST_PERST_IN_SEL q = 15 ∧ net.pget
    F.PP_CTL_ENABLE q = 1))) ∧ (((cfsOf (setW net [(F.PP_RST_PERST_IN_EN, [0, 0], 1), (F.PP_RST_PERST_IN_SEL, [0, 0], 15)]) [(.up 2, .bme, 1),
    (.up 2, .aerUncMask, 0), (.up 2, .mps, 2)]) : State).sealed = false ∧ ((cfsOf (setW net [(F.PP_RST_PERST_IN_EN, [0, 0], 1),
    (F.PP_RST_PERST_IN_SEL, [0, 0], 15)]) [(.up 2, .bme, 1), (.up 2, .aerUncMask, 0), (.up 2, .mps, 2)]) : State).role 0 = 0 ∧ ((cfsOf (setW net
    [(F.PP_RST_PERST_IN_EN, [0, 0], 1), (F.PP_RST_PERST_IN_SEL, [0, 0], 15)]) [(.up 2, .bme, 1), (.up 2, .aerUncMask, 0), (.up 2, .mps, 2)]) :
    State).pget F.PP_RST_PERST_IN_EN 0 = 1 ∧ ((cfsOf (setW net [(F.PP_RST_PERST_IN_EN, [0, 0], 1), (F.PP_RST_PERST_IN_SEL, [0, 0], 15)]) [(.up
    2, .bme, 1), (.up 2, .aerUncMask, 0), (.up 2, .mps, 2)]) : State).pget F.PP_RST_PERST_IN_SEL 0 = 15 ∧ ((cfsOf (setW net
    [(F.PP_RST_PERST_IN_EN, [0, 0], 1), (F.PP_RST_PERST_IN_SEL, [0, 0], 15)]) [(.up 2, .bme, 1), (.up 2, .aerUncMask, 0), (.up 2, .mps, 2)]) :
    State).pget F.PP_CTL_ENABLE 0 = 1 ∧ ((cfsOf (setW net [(F.PP_RST_PERST_IN_EN, [0, 0], 1), (F.PP_RST_PERST_IN_SEL, [0, 0], 15)]) [(.up 2,
    .bme, 1), (.up 2, .aerUncMask, 0), (.up 2, .mps, 2)]) : State).vsOfPort 0 = some 2 ∧ ((∀ q < 144, q ≠ 0 → ¬ (((cfsOf (setW net
    [(F.PP_RST_PERST_IN_EN, [0, 0], 1), (F.PP_RST_PERST_IN_SEL, [0, 0], 15)]) [(.up 2, .bme, 1), (.up 2, .aerUncMask, 0), (.up 2, .mps, 2)]) :
    State).pget F.PP_RST_PERST_IN_EN q = 1 ∧ ((cfsOf (setW net [(F.PP_RST_PERST_IN_EN, [0, 0], 1), (F.PP_RST_PERST_IN_SEL, [0, 0], 15)]) [(.up
    2, .bme, 1), (.up 2, .aerUncMask, 0), (.up 2, .mps, 2)]) : State).pget F.PP_RST_PERST_IN_SEL q = 15)))) ∧
    (({ net with lnk := { perstIn := [15, 0] } } : State).sealed = false) ∧ (((cfsOf net [(.up 2, .bme, 1), (.up 2, .aerUncMask, 0), (.up 2,
    .busSec, 2)]) : State).sealed = false ∧ ((cfsOf net [(.up 2, .bme, 1), (.up 2, .aerUncMask, 0), (.up 2, .busSec, 2)]) : State).role 0 = 0 ∧
    ((cfsOf net [(.up 2, .bme, 1), (.up 2, .aerUncMask, 0), (.up 2, .busSec, 2)]) : State).pget F.PP_STAT_LINK_STATE 0 ∈ [3, 4, 5, 6] ∧ ((cfsOf
    net [(.up 2, .bme, 1), (.up 2, .aerUncMask, 0), (.up 2, .busSec, 2)]) : State).vsOfPort 0 = some 2) ∧ (((cfsOf net [(.up 2, .bme, 1), (.vdsp
    2 1, .memBase, 7), (.vdsp 2 1, .bme, 1)]) : State).sealed = false ∧ ((cfsOf net [(.up 2, .bme, 1), (.vdsp 2 1, .memBase, 7), (.vdsp 2 1,
    .bme, 1)]) : State).get F.VST_STAT_STATE [2] = 1 ∧ 1 < 32) ∧ (((setW net [(F.VST_SLOT_KIND, [2, 1], 0), (F.VST_CONT_CONTAINED, [2, 1], 1)])
    : State).sealed = false ∧ ((setW net [(F.VST_SLOT_KIND, [2, 1], 0), (F.VST_CONT_CONTAINED, [2, 1], 1)]) : State).slotThere 2 1 = true ∧
    ((setW net [(F.VST_SLOT_KIND, [2, 1], 0), (F.VST_CONT_CONTAINED, [2, 1], 1)]) : State).get F.VST_SLOT_KIND [2, 1] = 0 ∧ (∀ e ∈ ((setW net
    [(F.VST_SLOT_KIND, [2, 1], 0), (F.VST_CONT_CONTAINED, [2, 1], 1)]) : State).fwd.trk, e.2.vdsp ≠ ((setW net [(F.VST_SLOT_KIND, [2, 1], 0),
    (F.VST_CONT_CONTAINED, [2, 1], 1)]) : State).get F.VST_SLOT_VDSP [2, 1]) ∧ ((setW net [(F.VST_SLOT_KIND, [2, 1], 0), (F.VST_CONT_CONTAINED,
    [2, 1], 1)]) : State).fwd.lostQ = []) ∧ (net.sealed = false ∧ net.slotThere 2 1 = true ∧ net.get F.VST_SLOT_KIND [2, 1] = 1 ∧ 4 = net.get
    F.VST_SLOT_TARGET [2, 1] % 256 ∧ (∀ e ∈ net.fwd.trk, e.2.vdsp ≠ net.get F.VST_SLOT_VDSP [2, 1]) ∧ net.fwd.lostQ = [] ∧ net.pget
    F.PP_STAT_LINK_STATE 4 ∈ [3, 4, 5, 6]) ∧
    (({ setW net [(F.PP_RST_PERST_OUT_EN, [1, 0], 1), (F.CPW_TIME_TIME, [], 100000)] with lnk := { perstOut := [(4, 0)] } } : State).sealed =
    false ∧ ({ setW net [(F.PP_RST_PERST_OUT_EN, [1, 0], 1), (F.CPW_TIME_TIME, [], 100000)] with lnk := { perstOut := [(4, 0)] } } :
    State).perstWanted 4 = false ∧
    ({ setW net [(F.PP_RST_PERST_OUT_EN, [1, 0], 1), (F.CPW_TIME_TIME, [], 100000)] with lnk := { perstOut := [(4, 0)] } } :
    State).lnk.perstOut.look 4 = some 0 ∧ 0 + max 100
    (({ setW net [(F.PP_RST_PERST_OUT_EN, [1, 0], 1), (F.CPW_TIME_TIME, [], 100000)] with lnk := { perstOut := [(4, 0)] } } : State).pget
    F.PP_RST_HOLD 4) * 1000 ≤
    ({ setW net [(F.PP_RST_PERST_OUT_EN, [1, 0], 1), (F.CPW_TIME_TIME, [], 100000)] with lnk := { perstOut := [(4, 0)] } } : State).now) ∧
    (({ setW net [(F.PP_RST_PERST_OUT_EN, [1, 0], 1), (F.CPW_TIME_TIME, [], 99999)] with lnk := { perstOut := [(4, 0)] } } : State).sealed =
    false ∧ ({ setW net [(F.PP_RST_PERST_OUT_EN, [1, 0], 1), (F.CPW_TIME_TIME, [], 99999)] with lnk := { perstOut := [(4, 0)] } } :
    State).lnk.perstOut.look 4 = some 0 ∧
    ((({ setW net [(F.PP_RST_PERST_OUT_EN, [1, 0], 1), (F.CPW_TIME_TIME, [], 99999)] with lnk := { perstOut := [(4, 0)] } } : State).perstWanted
    4 = true ∨ (({ setW net [(F.PP_RST_PERST_OUT_EN, [1, 0], 1), (F.CPW_TIME_TIME, [], 99999)] with lnk := { perstOut := [(4, 0)] } } :
    State).drives 4 true = true ∧
    ({ setW net [(F.PP_RST_PERST_OUT_EN, [1, 0], 1), (F.CPW_TIME_TIME, [], 99999)] with lnk := { perstOut := [(4, 0)] } } : State).now < 0 + max
    100 (({ setW net [(F.PP_RST_PERST_OUT_EN, [1, 0], 1), (F.CPW_TIME_TIME, [], 99999)] with lnk := { perstOut := [(4, 0)] } } : State).pget
    F.PP_RST_HOLD 4) * 1000)))) := by
  and_intros <;> first | decide +kernel | rfl | exact BitVec.isLt _ | exact Nat.zero_le _

/-! ### link ide keys and failure -/

theorem test_link_ide_keys_and_failure_hypotheses :
    (net.sealed = false ∧ net.role 0 = 0 ∧ net.dlUp 0 = true) ∧ (({ net with lnk := { ideKeys := [(4, 1)], ideBad := [4] } } : State).sealed =
    false ∧ (4, 1) ∈ ({ net with lnk := { ideKeys := [(4, 1)], ideBad := [4] } } : State).lnk.ideKeys ∧
    ({ net with lnk := { ideKeys := [(4, 1)], ideBad := [4] } } : State).inL0 4 = true) ∧
    (({ upW [(F.PP_STAT_IDE_SECURE, [35, 3], 1)] with lnk := { ideKeys := [(143, 1), (2, 0)], ideSlot := [(143, 1)] } } : State).sealed = false
    ∧ ({ upW [(F.PP_STAT_IDE_SECURE, [35, 3], 1)] with lnk := { ideKeys := [(143, 1), (2, 0)], ideSlot := [(143, 1)] } } : State).pget
    F.PP_STAT_IDE_SECURE 143 = 1 ∧
    ({ upW [(F.PP_STAT_IDE_SECURE, [35, 3], 1)] with lnk := { ideKeys := [(143, 1), (2, 0)], ideSlot := [(143, 1)] } } : State).role 143 = 0 ∧
    ({ upW [(F.PP_STAT_IDE_SECURE, [35, 3], 1)] with lnk := { ideKeys := [(143, 1), (2, 0)], ideSlot := [(143, 1)] } } : State).vsOfPort 143 =
    none ∧ ({ upW [(F.PP_STAT_IDE_SECURE, [35, 3], 1)] with lnk := { ideKeys := [(143, 1), (2, 0)], ideSlot := [(143, 1)] } } : State).fwd.tags
    = []) ∧ (({ setW net [(F.PP_STAT_IDE_SECURE, [1, 0], 1)] with lnk := { ideKeys := [(4, 1), (2, 0)], ideSlot := [(4, 1)] } } : State).sealed
    = false ∧ ({ setW net [(F.PP_STAT_IDE_SECURE, [1, 0], 1)] with lnk := { ideKeys := [(4, 1), (2, 0)], ideSlot := [(4, 1)] } } : State).pget
    F.PP_STAT_IDE_SECURE 4 = 1 ∧
    ({ setW net [(F.PP_STAT_IDE_SECURE, [1, 0], 1)] with lnk := { ideKeys := [(4, 1), (2, 0)], ideSlot := [(4, 1)] } } : State).role 4 = 1) ∧
    (net.sealed = false ∧ net.pget F.PP_STAT_IDE_SECURE 4 = 0) := by
  and_intros <;> first | decide +kernel | rfl | exact BitVec.isLt _ | exact Nat.zero_le _

/-! ### commands that change configuration -/

theorem test_commands_that_change_configuration_hypotheses :
    (ring.mcrReady ({ user := 7 } : McrCx)) ∧ (((setW ring [(F.PT_WIN_E_EN, [0, 0, 1, 15], 1), (F.PT_WIN_E_RD, [3, 1, 1, 15], 1)]) :
    State).mcrReady ({ orig := 3, user := 0xFFFFFFFF } : McrCx)) ∧ (net.mcrReady ({ orig := 1 } : McrCx) ∧ 2 < 48 ∧ 1 < 32 ∧ 1 ≤ 1 ∧ net.get
    F.VST_STAT_STATE [2] = 1 ∧ net.get F.VST_SLOT_ALLOC [2, 1] = 1) ∧ (net.mcrReady ({ orig := 1 } : McrCx) ∧ 2 < 48 ∧ net.get F.VST_STAT_STATE
    [2] = 1 ∧ net.cf (.dmf 2) .vfEnable ≠ 1 ∧ 0 < (16 : W16).toNat ∧ (16 : W16).toNat ≤ 1024 ∧ ((∀ v < 48, v ≠ 2 → net.get F.DMG_VF_COUNT [v] =
    0))) ∧ (ring.mcrReady ({} : McrCx) ∧ 1 ≤ 1 ∧ 1 ≠ ring.winBank ∧ 143 < 144 ∧ 63 < 64 ∧ 7 ≤ 7 ∧ (0 : W16).toNat < 2 ^ 14 ∧ (0x1000 :
    W64).toNat % 4096 = 0 ∧ (0x1FFF : W64).toNat % 4096 = 4095 ∧ (0x1000 : W64).toNat ≤ (0x1FFF : W64).toNat ∧ ring.pget F.PP_CTL_ROLE 143 ≠ 2 ∧
    ring.shared 143 = false ∧ ring.mgr.winClaim ∈ [none, some (({} : McrCx).orig, ({} : McrCx).origId)]) ∧ (up.mcrReady
    ({ orig := 2, origId := 5 } : McrCx) ∧ 1 ≤ 1 ∧ 1 ≠ up.gateActive ∧ 0 ≤ 1 ∧ 7 ≤ 7 ∧ 7 ≤ 7 ∧ 0 ≤ 7 ∧ (0 : W32).toNat < 2 ^ 24 ∧ (0 :
    W32).toNat < 2 ^ 24 ∧ up.gateWriteOk 160 0 0 7 7 0 (0 : W32).toNat (0 : W32).toNat = true ∧ up.mgr.gateClaim ∈ [none, some
    (({ orig := 2, origId := 5 } : McrCx).orig, ({ orig := 2, origId := 5 } : McrCx).origId)]) ∧ (((setW net [(F.DMG_REACH_GEN, [4095], 15)]) :
    State).mcrReady ({ orig := 1 } : McrCx) ∧ (4095 : W16).toNat < 4096 ∧ 0 ≤ 1 ∧ 7 ≤ 7 ∧ (2 : W16).toNat < 1072 ∧ 2 < 48 ∧ (0 : W16).toNat <
    1072 ∧ (0x1000 : W64).toNat % 4096 = 0 ∧ (0x1FFF : W64).toNat % 4096 = 4095 ∧ (0x1000 : W64).toNat ≤ (0x1FFF : W64).toNat ∧ ((setW net
    [(F.DMG_REACH_GEN, [4095], 15)]) : State).instActive (2 : W16).toNat = true ∧ (if 0 = 0 then ((setW net [(F.DMG_REACH_GEN, [4095], 15)]) :
    State).get F.VST_STAT_STATE [2] = 1 else ((setW net [(F.DMG_REACH_GEN, [4095], 15)]) : State).instActive (0 : W16).toNat = true) ∧ ((setW
    net [(F.DMG_REACH_GEN, [4095], 15)]) : State).get F.DMG_REACH_VALID [(4095 : W16).toNat] = 0) ∧ (((setW net [(F.DMG_REACH_GEN, [4095], 15),
    (F.DMG_REACH_VALID, [4095], 1)]) : State).mcrReady ({ orig := 1 } : McrCx) ∧ (4095 : W16).toNat < 4096 ∧ ((setW net [(F.DMG_REACH_GEN,
    [4095], 15), (F.DMG_REACH_VALID, [4095], 1)]) : State).get F.DMG_REACH_VALID [(4095 : W16).toNat] = 1 ∧ ((setW net [(F.DMG_REACH_GEN,
    [4095], 15), (F.DMG_REACH_VALID, [4095], 1)]) : State).get F.DMG_REACH_USE_USE [(4095 : W16).toNat] = 0) ∧ (((setW net [(F.SH_CFG_RATE,
    [1839], 5)]) : State).mcrReady ({ orig := 1 } : McrCx) ∧ (1839 : W16).toNat < 1840) ∧ (ring.mcrReady ({} : McrCx) ∧ ({} : McrCx).orig = 0 ∧
    ring.hostIo = true ∧ 4 ≤ 4 ∧ 4 ≤ 20 ∧ (0x1000 : W64).toNat % 4096 = 0 ∧ (0x10 : W64).toNat % 16 = 0) ∧ (ring.mcrReady ({} : McrCx) ∧ ({} :
    McrCx).orig = 0 ∧ ring.hostIo = true) := by
  and_intros <;> first | decide +kernel | rfl | exact BitVec.isLt _ | exact Nat.zero_le _

/-! ### commands that swap tables -/

theorem test_commands_that_swap_tables_hypotheses :
    (up.mcrReady ({ orig := 1 } : McrCx) ∧ 47 < 48 ∧ 143 < 144 ∧ 1 ≤ 32 ∧ 32 ≤ 32 ∧ up.get F.VST_STAT_STATE [47] = 0 ∧ up.pget F.PP_CTL_ROLE 143
    = 0 ∧ up.vsOfPort 143 = none ∧ 32 ≤ up.get F.VST_GLB_FREE_SLOTS [] ∧ ((List.range 1024).filter (fun x => !(up.fwd.own.map (·.1) ++
    up.fwd.drains.flatMap (·.vdsps)).contains x)).length ≥ 32) ∧ (((setW net [(F.VST_SLOT_KIND, [2, 1], 0)]) : State).mcrReady ({ orig := 1 } :
    McrCx) ∧ 2 < 48 ∧ ((setW net [(F.VST_SLOT_KIND, [2, 1], 0)]) : State).vsDeleteCheck 2 = 0) ∧ (ring.mcrReady ({} : McrCx) ∧ 2 < 48 ∧ ring.get
    F.VST_STAT_STATE [2] = 1 ∧ (∀ k < 8, (0x6AAA : W16).toNat / 4 ^ k % 4 ≠ 0)) ∧ (((setW ring [(F.VST_SLOT_ALLOC, [2, 31], 1),
    (F.VST_SLOT_VDSP, [2, 31], 9), (F.PP_CTL_ROLE, [35, 3], 1)]) : State).mcrReady ({} : McrCx) ∧ 2 < 48 ∧ 31 < 32 ∧ 143 < 144 ∧ ((setW ring
    [(F.VST_SLOT_ALLOC, [2, 31], 1), (F.VST_SLOT_VDSP, [2, 31], 9), (F.PP_CTL_ROLE, [35, 3], 1)]) : State).slotCheck 2 31 = 0 ∧ ((setW ring
    [(F.VST_SLOT_ALLOC, [2, 31], 1), (F.VST_SLOT_VDSP, [2, 31], 9), (F.PP_CTL_ROLE, [35, 3], 1)]) : State).targetCheck 143 = 0) ∧
    (({ setW ring [(F.VST_SLOT_KIND, [2, 1], 0), (F.PP_CTL_ROLE, [35, 3], 1)] with vsx := { shared := [{ port := 143, buses := 1, memBase := 0, memSize := 0x1000, mps := 0, mrrs := 0, fns := [{ rid := 0x100, numVfs := 0, bars := [] }] }] } }
    : State).mcrReady ({} : McrCx) ∧ 2 < 48 ∧ 1 < 32 ∧ 143 < 144 ∧ 0 = 0 ∧
    ({ setW ring [(F.VST_SLOT_KIND, [2, 1], 0), (F.PP_CTL_ROLE, [35, 3], 1)] with vsx := { shared := [{ port := 143, buses := 1, memBase := 0, memSize := 0x1000, mps := 0, mrrs := 0, fns := [{ rid := 0x100, numVfs := 0, bars := [] }] }] } }
    : State).slotCheck 2 1 = 0 ∧
    ({ setW ring [(F.VST_SLOT_KIND, [2, 1], 0), (F.PP_CTL_ROLE, [35, 3], 1)] with vsx := { shared := [{ port := 143, buses := 1, memBase := 0, memSize := 0x1000, mps := 0, mrrs := 0, fns := [{ rid := 0x100, numVfs := 0, bars := [] }] }] } }
    : State).groupCheck [(143, (0x100 : W16).toNat, 0)] = 0 ∧
    ({ setW ring [(F.VST_SLOT_KIND, [2, 1], 0), (F.PP_CTL_ROLE, [35, 3], 1)] with vsx := { shared := [{ port := 143, buses := 1, memBase := 0, memSize := 0x1000, mps := 0, mrrs := 0, fns := [{ rid := 0x100, numVfs := 0, bars := [] }] }] } }
    : State).freeFbs 1 = some [0]) ∧ (ring.mcrReady ({} : McrCx) ∧ ring.mgr.winClaim ∈ [none, some (({} : McrCx).orig, ({} : McrCx).origId)] ∧
    ring.winOverlap (1 - ring.winBank) = false) ∧ (((setW ring [(F.PT_WIN_E_EN, [0, 1, 1, 0], 1), (F.PT_WIN_LIMIT_LIMIT, [0, 1, 1, 0], 0xFFF),
    (F.PT_WIN_E_EN, [0, 1, 1, 1], 1), (F.PT_WIN_LIMIT_LIMIT, [0, 1, 1, 1], 0xFFF)]) : State).mcrReady ({} : McrCx) ∧ ((setW ring
    [(F.PT_WIN_E_EN, [0, 1, 1, 0], 1), (F.PT_WIN_LIMIT_LIMIT, [0, 1, 1, 0], 0xFFF), (F.PT_WIN_E_EN, [0, 1, 1, 1], 1), (F.PT_WIN_LIMIT_LIMIT, [0,
    1, 1, 1], 0xFFF)]) : State).mgr.winClaim ∈ [none, some (({} : McrCx).orig, ({} : McrCx).origId)] ∧ ((setW ring [(F.PT_WIN_E_EN, [0, 1, 1,
    0], 1), (F.PT_WIN_LIMIT_LIMIT, [0, 1, 1, 0], 0xFFF), (F.PT_WIN_E_EN, [0, 1, 1, 1], 1), (F.PT_WIN_LIMIT_LIMIT, [0, 1, 1, 1], 0xFFF)]) :
    State).winOverlap (1 - ((setW ring [(F.PT_WIN_E_EN, [0, 1, 1, 0], 1), (F.PT_WIN_LIMIT_LIMIT, [0, 1, 1, 0], 0xFFF), (F.PT_WIN_E_EN, [0, 1, 1,
    1], 1), (F.PT_WIN_LIMIT_LIMIT, [0, 1, 1, 1], 0xFFF)]) : State).winBank) = true) ∧ (up.mcrReady ({ orig := 2 } : McrCx) ∧ up.mgr.gateClaim ∈
    [none, some (({ orig := 2 } : McrCx).orig, ({ orig := 2 } : McrCx).origId)] ∧ up.gateOverlap (1 - up.gateActive) = false) := by
  and_intros <;> first | decide +kernel | rfl | exact BitVec.isLt _ | exact Nat.zero_le _

/-! ### unbinding -/

theorem test_unbinding_hypotheses :
    (ring.mcrReady ({} : McrCx) ∧ 2 < 48 ∧ 1 < 32 ∧ 1 ≤ 60 ∧ 60 ≤ 60 ∧ ring.get F.VST_STAT_STATE [2] = 1 ∧ ring.get F.VST_SLOT_ALLOC [2, 1] = 1
    ∧ ring.get F.VST_SLOT_KIND [2, 1] ≠ 0 ∧ ring.get F.VST_SLOT_UNBIND_PEND [2, 1] = 0 ∧ ring.cf (.vdsp 2 1) .slotPower ≠ 1) ∧ (((cfsOf ring
    [(.vdsp 2 1, .slotPower, 1)]) : State).mcrReady ({ orig := 2 } : McrCx) ∧ 2 < 48 ∧ 1 < 32 ∧ 1 ≤ 1 ∧ 1 ≤ 60 ∧ ((cfsOf ring [(.vdsp 2 1,
    .slotPower, 1)]) : State).get F.VST_STAT_STATE [2] = 1 ∧ ((cfsOf ring [(.vdsp 2 1, .slotPower, 1)]) : State).get F.VST_SLOT_ALLOC [2, 1] = 1
    ∧ ((cfsOf ring [(.vdsp 2 1, .slotPower, 1)]) : State).get F.VST_SLOT_KIND [2, 1] = 1 ∧ ((cfsOf ring [(.vdsp 2 1, .slotPower, 1)]) :
    State).get F.VST_SLOT_UNBIND_PEND [2, 1] = 0 ∧ ((cfsOf ring [(.vdsp 2 1, .slotPower, 1)]) : State).cf (.vdsp 2 1) .slotPower = 1) ∧
    (ring.mcrReady ({} : McrCx) ∧ 2 < 48 ∧ 1 < 32 ∧ ring.get F.VST_STAT_STATE [2] = 1 ∧ ring.get F.VST_SLOT_ALLOC [2, 1] = 1 ∧ ring.get
    F.VST_SLOT_KIND [2, 1] = 1) ∧
    (({ setW ring [(F.VST_SLOT_UNBIND_PEND, [2, 1], 1), (F.CPW_TIME_TIME, [], 1000)] with mgr := { parked := [({ cx := {}, op := some (.unbind 2 1 0 1) }, .unbind 2 1)] }, vsx := { unbinds := [{ vs := 2, slot := 1, seq := 0, till := 1000 }] } }
    : State).sealed = false ∧
    ({ setW ring [(F.VST_SLOT_UNBIND_PEND, [2, 1], 1), (F.CPW_TIME_TIME, [], 1000)] with mgr := { parked := [({ cx := {}, op := some (.unbind 2 1 0 1) }, .unbind 2 1)] }, vsx := { unbinds := [{ vs := 2, slot := 1, seq := 0, till := 1000 }] } }
    : State).restarting = false ∧
    ({ setW ring [(F.VST_SLOT_UNBIND_PEND, [2, 1], 1), (F.CPW_TIME_TIME, [], 1000)] with mgr := { parked := [({ cx := {}, op := some (.unbind 2 1 0 1) }, .unbind 2 1)] }, vsx := { unbinds := [{ vs := 2, slot := 1, seq := 0, till := 1000 }] } }
    : State).mgr.queue = [] ∧
    ({ setW ring [(F.VST_SLOT_UNBIND_PEND, [2, 1], 1), (F.CPW_TIME_TIME, [], 1000)] with mgr := { parked := [({ cx := {}, op := some (.unbind 2 1 0 1) }, .unbind 2 1)] }, vsx := { unbinds := [{ vs := 2, slot := 1, seq := 0, till := 1000 }] } }
    : State).mgr.parked = [(({ cx := {}, op := some (.unbind 2 1 0 1) } : McrJob), .unbind 2 1)] ∧
    ({ setW ring [(F.VST_SLOT_UNBIND_PEND, [2, 1], 1), (F.CPW_TIME_TIME, [], 1000)] with mgr := { parked := [({ cx := {}, op := some (.unbind 2 1 0 1) }, .unbind 2 1)] }, vsx := { unbinds := [{ vs := 2, slot := 1, seq := 0, till := 1000 }] } }
    : State).mgr.run = none ∧ (∃ w ∈
    ({ setW ring [(F.VST_SLOT_UNBIND_PEND, [2, 1], 1), (F.CPW_TIME_TIME, [], 1000)] with mgr := { parked := [({ cx := {}, op := some (.unbind 2 1 0 1) }, .unbind 2 1)] }, vsx := { unbinds := [{ vs := 2, slot := 1, seq := 0, till := 1000 }] } }
    : State).vsx.unbinds, w.vs = 2 ∧ w.slot = 1 ∧ w.till ≤
    ({ setW ring [(F.VST_SLOT_UNBIND_PEND, [2, 1], 1), (F.CPW_TIME_TIME, [], 1000)] with mgr := { parked := [({ cx := {}, op := some (.unbind 2 1 0 1) }, .unbind 2 1)] }, vsx := { unbinds := [{ vs := 2, slot := 1, seq := 0, till := 1000 }] } }
    : State).now)) := by
  and_intros <;> first | decide +kernel | rfl | exact BitVec.isLt _ | exact Nat.zero_le _

/-! ### shared ports and function configuration -/

theorem test_shared_ports_and_function_configuration_hypotheses :
    (((setW up [(F.PP_CTL_ROLE, [35, 3], 1)]) : State).mcrReady ({ orig := 1 } : McrCx) ∧ 143 < 144 ∧ 1 ≤ 8 ∧ 8 ≤ 8 ∧ 5 ≤ 5 ∧ 5 ≤ 5 ∧ (0x1000 :
    W64).toNat ≤ (0x1FFF : W64).toNat ∧ ((setW up [(F.PP_CTL_ROLE, [35, 3], 1)]) : State).pget F.PP_CTL_ROLE 143 = 1 ∧ ((setW up
    [(F.PP_CTL_ROLE, [35, 3], 1)]) : State).shared 143 = false ∧ ((setW up [(F.PP_CTL_ROLE, [35, 3], 1)]) : State).portTaken 143 = false ∧
    ((setW up [(F.PP_CTL_ROLE, [35, 3], 1)]) : State).winNames 143 = false ∧ fnsFit
    ([{ rid := 0x800, numVfs := 1, bars := [{ k := 0, real := 0x1000, size := 0x1000 }] }] : List SharedFn) 8 (0x1000 : W64).toNat (0x1FFF :
    W64).toNat = true) ∧
    (({ up with vsx := { shared := [{ port := 143, buses := 1, memBase := 0, memSize := 0x1000, mps := 0, mrrs := 0, fns := [] }], reconfig := [143] } }
    : State).mcrReady ({ orig := 1 } : McrCx) ∧ 143 < 144 ∧
    ({ up with vsx := { shared := [{ port := 143, buses := 1, memBase := 0, memSize := 0x1000, mps := 0, mrrs := 0, fns := [] }], reconfig := [143] } }
    : State).shared 143 = true ∧ (∀ k ∈
    ({ up with vsx := { shared := [{ port := 143, buses := 1, memBase := 0, memSize := 0x1000, mps := 0, mrrs := 0, fns := [] }], reconfig := [143] } }
    : State).snap.fbs,
    ({ up with vsx := { shared := [{ port := 143, buses := 1, memBase := 0, memSize := 0x1000, mps := 0, mrrs := 0, fns := [] }], reconfig := [143] } }
    : State).get F.VST_FB_A_SHARED_PORT [k] ≠ 143)) ∧ (({ setW up [(F.PP_STAT_LINK_STATE, [35, 3], 3)] with vsx := { reconfig := [143] } } :
    State).sealed = false ∧ 143 ∈ ({ setW up [(F.PP_STAT_LINK_STATE, [35, 3], 3)] with vsx := { reconfig := [143] } } : State).vsx.reconfig ∧
    ({ setW up [(F.PP_STAT_LINK_STATE, [35, 3], 3)] with vsx := { reconfig := [143] } } : State).inL0 143 = true ∧
    ({ setW up [(F.PP_STAT_LINK_STATE, [35, 3], 3)] with vsx := { reconfig := [143] } } : State).boundSlots 143 = [] ∧
    ({ setW up [(F.PP_STAT_LINK_STATE, [35, 3], 3)] with vsx := { reconfig := [143] } } : State).fwd.rbound.look 143 = none) ∧
    (({ setW up [(F.PP_STAT_LINK_STATE, [35, 3], 3)] with vsx := { shared := [{ port := 143, buses := 1, memBase := 0, memSize := 0x1000, mps := 0, mrrs := 0, fns := [] }] } }
    : State).mcrReady ({ orig := 1 } : McrCx) ∧ 143 < 144 ∧ (0xFFC : W16).toNat < 4096 ∧ (0xFFC : W16).toNat % 4 = 0 ∧ 15 ≤ 15 ∧
    ({ setW up [(F.PP_STAT_LINK_STATE, [35, 3], 3)] with vsx := { shared := [{ port := 143, buses := 1, memBase := 0, memSize := 0x1000, mps := 0, mrrs := 0, fns := [] }] } }
    : State).shared 143 = true ∧
    (({ setW up [(F.PP_STAT_LINK_STATE, [35, 3], 3)] with vsx := { shared := [{ port := 143, buses := 1, memBase := 0, memSize := 0x1000, mps := 0, mrrs := 0, fns := [] }] } }
    : State).snap.fbByRid 143 (0x100 : W16).toNat).isNone = true ∧
    ({ setW up [(F.PP_STAT_LINK_STATE, [35, 3], 3)] with vsx := { shared := [{ port := 143, buses := 1, memBase := 0, memSize := 0x1000, mps := 0, mrrs := 0, fns := [] }] } }
    : State).inL0 143 = true) ∧
    (({ setW up [(F.PP_STAT_LINK_STATE, [35, 3], 3)] with vsx := { shared := [{ port := 143, buses := 1, memBase := 0, memSize := 0x1000, mps := 0, mrrs := 0, fns := [] }] } }
    : State).mcrReady ({ orig := 1 } : McrCx) ∧ 143 < 144 ∧ (0xFFC : W16).toNat < 4096 ∧ (0xFFC : W16).toNat % 4 = 0 ∧ 15 ≤ 15 ∧
    ({ setW up [(F.PP_STAT_LINK_STATE, [35, 3], 3)] with vsx := { shared := [{ port := 143, buses := 1, memBase := 0, memSize := 0x1000, mps := 0, mrrs := 0, fns := [] }] } }
    : State).shared 143 = true ∧
    (({ setW up [(F.PP_STAT_LINK_STATE, [35, 3], 3)] with vsx := { shared := [{ port := 143, buses := 1, memBase := 0, memSize := 0x1000, mps := 0, mrrs := 0, fns := [] }] } }
    : State).snap.fbByRid 143 (0x100 : W16).toNat).isNone = true ∧
    ({ setW up [(F.PP_STAT_LINK_STATE, [35, 3], 3)] with vsx := { shared := [{ port := 143, buses := 1, memBase := 0, memSize := 0x1000, mps := 0, mrrs := 0, fns := [] }] } }
    : State).inL0 143 = true) ∧ (ring.mcrReady ({} : McrCx) ∧ ({} : McrCx).orig = 0 ∧ ring.hostIo = true ∧ 2 < 48 ∧ 1 < 32 ∧ ring.slotThere 2 1
    = true ∧ ring.get F.VST_SLOT_KIND [2, 1] ≠ 2) ∧ (((setW ring [(F.VST_SLOT_KIND, [2, 1], 2)]) : State).mcrReady ({} : McrCx) ∧ ({} :
    McrCx).orig = 0 ∧ ((setW ring [(F.VST_SLOT_KIND, [2, 1], 2)]) : State).hostIo = true ∧ 2 < 48 ∧ 1 < 32 ∧ ((setW ring [(F.VST_SLOT_KIND, [2,
    1], 2)]) : State).slotThere 2 1 = true ∧ ((setW ring [(F.VST_SLOT_KIND, [2, 1], 2)]) : State).get F.VST_SLOT_KIND [2, 1] = 2) ∧
    (({ setW ring [(F.VST_SLOT_KIND, [2, 1], 0), (F.FAB_DEV_NUM, [], 1), (F.FAB_DEV_ROLE, [], 1), (F.FAB_DEV_ACTING, [], 1), (F.FAB_DEV_MGR, [], 1)] with fab := { devs := [1, 2], links := [(1, 0, 2, 0)] } }
    : State).mcrReady ({} : McrCx) ∧ 2 < 48 ∧ 1 < 32 ∧ (0x205 : W16).toNat < 2 ^ 14 ∧
    ({ setW ring [(F.VST_SLOT_KIND, [2, 1], 0), (F.FAB_DEV_NUM, [], 1), (F.FAB_DEV_ROLE, [], 1), (F.FAB_DEV_ACTING, [], 1), (F.FAB_DEV_MGR, [], 1)] with fab := { devs := [1, 2], links := [(1, 0, 2, 0)] } }
    : State).controlPlane ({} : McrCx) = true ∧
    ({ setW ring [(F.VST_SLOT_KIND, [2, 1], 0), (F.FAB_DEV_NUM, [], 1), (F.FAB_DEV_ROLE, [], 1), (F.FAB_DEV_ACTING, [], 1), (F.FAB_DEV_MGR, [], 1)] with fab := { devs := [1, 2], links := [(1, 0, 2, 0)] } }
    : State).acting = true ∧
    ({ setW ring [(F.VST_SLOT_KIND, [2, 1], 0), (F.FAB_DEV_NUM, [], 1), (F.FAB_DEV_ROLE, [], 1), (F.FAB_DEV_ACTING, [], 1), (F.FAB_DEV_MGR, [], 1)] with fab := { devs := [1, 2], links := [(1, 0, 2, 0)] } }
    : State).devNum ∈
    ({ setW ring [(F.VST_SLOT_KIND, [2, 1], 0), (F.FAB_DEV_NUM, [], 1), (F.FAB_DEV_ROLE, [], 1), (F.FAB_DEV_ACTING, [], 1), (F.FAB_DEV_MGR, [], 1)] with fab := { devs := [1, 2], links := [(1, 0, 2, 0)] } }
    : State).fab.devs ∧ (0x205 : W16).toNat / 256 ∈
    ({ setW ring [(F.VST_SLOT_KIND, [2, 1], 0), (F.FAB_DEV_NUM, [], 1), (F.FAB_DEV_ROLE, [], 1), (F.FAB_DEV_ACTING, [], 1), (F.FAB_DEV_MGR, [], 1)] with fab := { devs := [1, 2], links := [(1, 0, 2, 0)] } }
    : State).fab.devs ∧ (0x205 : W16).toNat / 256 ≠
    ({ setW ring [(F.VST_SLOT_KIND, [2, 1], 0), (F.FAB_DEV_NUM, [], 1), (F.FAB_DEV_ROLE, [], 1), (F.FAB_DEV_ACTING, [], 1), (F.FAB_DEV_MGR, [], 1)] with fab := { devs := [1, 2], links := [(1, 0, 2, 0)] } }
    : State).devNum ∧
    ({ setW ring [(F.VST_SLOT_KIND, [2, 1], 0), (F.FAB_DEV_NUM, [], 1), (F.FAB_DEV_ROLE, [], 1), (F.FAB_DEV_ACTING, [], 1), (F.FAB_DEV_MGR, [], 1)] with fab := { devs := [1, 2], links := [(1, 0, 2, 0)] } }
    : State).slotCheck 2 1 = 0 ∧ (routeOf
    ({ setW ring [(F.VST_SLOT_KIND, [2, 1], 0), (F.FAB_DEV_NUM, [], 1), (F.FAB_DEV_ROLE, [], 1), (F.FAB_DEV_ACTING, [], 1), (F.FAB_DEV_MGR, [], 1)] with fab := { devs := [1, 2], links := [(1, 0, 2, 0)] } }
    : State).fab.links
    (({ setW ring [(F.VST_SLOT_KIND, [2, 1], 0), (F.FAB_DEV_NUM, [], 1), (F.FAB_DEV_ROLE, [], 1), (F.FAB_DEV_ACTING, [], 1), (F.FAB_DEV_MGR, [], 1)] with fab := { devs := [1, 2], links := [(1, 0, 2, 0)] } }
    : State).get F.FAB_DEV_MGR [])
    ({ setW ring [(F.VST_SLOT_KIND, [2, 1], 0), (F.FAB_DEV_NUM, [], 1), (F.FAB_DEV_ROLE, [], 1), (F.FAB_DEV_ACTING, [], 1), (F.FAB_DEV_MGR, [], 1)] with fab := { devs := [1, 2], links := [(1, 0, 2, 0)] } }
    : State).devNum ((0x205 : W16).toNat / 256)).isSome = true ∧ (routeOf
    ({ setW ring [(F.VST_SLOT_KIND, [2, 1], 0), (F.FAB_DEV_NUM, [], 1), (F.FAB_DEV_ROLE, [], 1), (F.FAB_DEV_ACTING, [], 1), (F.FAB_DEV_MGR, [], 1)] with fab := { devs := [1, 2], links := [(1, 0, 2, 0)] } }
    : State).fab.links
    (({ setW ring [(F.VST_SLOT_KIND, [2, 1], 0), (F.FAB_DEV_NUM, [], 1), (F.FAB_DEV_ROLE, [], 1), (F.FAB_DEV_ACTING, [], 1), (F.FAB_DEV_MGR, [], 1)] with fab := { devs := [1, 2], links := [(1, 0, 2, 0)] } }
    : State).get F.FAB_DEV_MGR []) ((0x205 : W16).toNat / 256)
    ({ setW ring [(F.VST_SLOT_KIND, [2, 1], 0), (F.FAB_DEV_NUM, [], 1), (F.FAB_DEV_ROLE, [], 1), (F.FAB_DEV_ACTING, [], 1), (F.FAB_DEV_MGR, [], 1)] with fab := { devs := [1, 2], links := [(1, 0, 2, 0)] } }
    : State).devNum).isSome = true) := by
  and_intros <;> first | decide +kernel | rfl | exact BitVec.isLt _ | exact Nat.zero_le _

/-! ### programs keys and statistics -/

theorem test_programs_keys_and_statistics_hypotheses :
    ((opKey ring : State).mcrReady ({} : McrCx) ∧ ({} : McrCx).orig = 0 ∧ (opKey ring : State).hostIo = true ∧ 3 < 4 ∧ (opKey ring :
    State).secDown = false ∧ (opKey ring : State).get F.DMG_PROG_STATE [3] = 0 ∧ imageOk 0 (452 : W32).toNat ([0x4D, 0x4C, 0x50, 0x4F, 1, 0, 1,
    0, 4, 0, 0, 0, 0, 0, 0, 0, 0, 0, 0, 0, 7, 0, 0, 0, 0, 0x10, 0, 0, 9, 0, 0, 0, 0, 0, 0, 0] ++ List.replicate 28 0 ++ [1, 2, 3, 4] ++
    List.replicate 384 0 : List Byte) = true) ∧ (ring.mcrReady ({} : McrCx) ∧ ({} : McrCx).orig = 0 ∧ ring.hostIo = true ∧ 3 < 4 ∧ ring.secDown
    = false ∧ ring.get F.DMG_PROG_STATE [3] = 0 ∧ imageOk 0 (64 : W32).toNat (List.replicate 64 0 : List Byte) = false) ∧ (((setW up
    [(F.DMG_PROG_STATE, [3], 2)]) : State).mcrReady ({ orig := 1 } : McrCx) ∧ 3 < 4 ∧ ((setW up [(F.DMG_PROG_STATE, [3], 2)]) : State).get
    F.DMG_PROG_STATE [3] = 2 ∧ ((setW up [(F.DMG_PROG_STATE, [3], 2)]) : State).get F.DMG_PROG_USE_USE [3] = 0) ∧ (((setW ring
    [(F.SEC_FUSE_O_FUSED, [], 7)]) : State).mcrReady ({} : McrCx) ∧ ({} : McrCx).orig = 0 ∧ ((setW ring [(F.SEC_FUSE_O_FUSED, [], 7)]) :
    State).hostIo = true ∧ 3 < 4 ∧ (((setW ring [(F.SEC_FUSE_O_FUSED, [], 7)]) : State).get F.SEC_FUSE_O_FUSED []).testBit 3 = false ∧
    (List.replicate 384 1 : List Byte).length = 384) ∧ (((setW up [(F.SEC_FUSE_O_REVOKED, [], 1)]) : State).mcrReady ({ orig := 1 } : McrCx) ∧
    ({ orig := 1 } : McrCx).orig ≠ 3 ∧ 3 < 4 ∧ 1 ≤ 1 ∧ ((1 = 0 → 3 ≠ ((setW up [(F.SEC_FUSE_O_REVOKED, [], 1)]) : State).sec.keyId ∧ ((setW up
    [(F.SEC_FUSE_O_REVOKED, [], 1)]) : State).lastVendor 3 = false))) ∧ (((setW up [(F.SEC_FUSE_V_REVOKED, [], 7)]) : State).mcrReady
    ({ orig := 1 } : McrCx) ∧ ({ orig := 1 } : McrCx).orig ≠ 3 ∧ 3 < 4 ∧ ((3 = ((setW up [(F.SEC_FUSE_V_REVOKED, [], 7)]) : State).sec.keyId ∨
    ((setW up [(F.SEC_FUSE_V_REVOKED, [], 7)]) : State).lastVendor 3 = true))) ∧ (((setW up [(F.SEC_FUSE_MIN_BOOT, [], 3), (F.SEC_BOOT_SVN, [],
    5)]) : State).mcrReady ({ orig := 1 } : McrCx) ∧ ({ orig := 1 } : McrCx).orig ≠ 3 ∧ 5 ≤ 64 ∧ 0 ≤ 2 ∧ ((0 = 0 → ((setW up
    [(F.SEC_FUSE_MIN_BOOT, [], 3), (F.SEC_BOOT_SVN, [], 5)]) : State).get F.SEC_FUSE_MIN_BOOT [] ≤ 5 ∧ 5 ≤ ((setW up [(F.SEC_FUSE_MIN_BOOT, [],
    3), (F.SEC_BOOT_SVN, [], 5)]) : State).get F.SEC_BOOT_SVN [])) ∧ ((0 = 1 → ((setW up [(F.SEC_FUSE_MIN_BOOT, [], 3), (F.SEC_BOOT_SVN, [],
    5)]) : State).get F.SEC_FUSE_MIN_MULE [] ≤ 5 ∧ 5 ≤ ((setW up [(F.SEC_FUSE_MIN_BOOT, [], 3), (F.SEC_BOOT_SVN, [], 5)]) : State).sec.muleSvn))
    ∧ ((0 = 2 → ((setW up [(F.SEC_FUSE_MIN_BOOT, [], 3), (F.SEC_BOOT_SVN, [], 5)]) : State).get F.SEC_FUSE_MIN_PROG [] ≤ 5))) ∧ (((setW up
    [(F.SEC_FUSE_MIN_BOOT, [], 3), (F.SEC_BOOT_SVN, [], 5)]) : State).mcrReady ({ orig := 1 } : McrCx) ∧ ({ orig := 1 } : McrCx).orig ≠ 3 ∧ 6 ≤
    64 ∧ ((6 < ((setW up [(F.SEC_FUSE_MIN_BOOT, [], 3), (F.SEC_BOOT_SVN, [], 5)]) : State).get F.SEC_FUSE_MIN_BOOT [] ∨ ((setW up
    [(F.SEC_FUSE_MIN_BOOT, [], 3), (F.SEC_BOOT_SVN, [], 5)]) : State).get F.SEC_BOOT_SVN [] < 6))) ∧ (ring.mcrReady ({} : McrCx) ∧ ({} :
    McrCx).orig = 0 ∧ ring.hostIo = true ∧ 7 ≤ 8 ∧ (0 : W16).toNat + (1 : W16).toNat ≤ (statsShape 7).1) ∧ (ring.mcrReady ({ irq := true } :
    McrCx)) ∧ (net.mcrReady ({ orig := 1 } : McrCx) ∧ 4 < 144 ∧ net.role 4 = 1 ∧ net.secDown = false ∧ net.inL0 4 = true) ∧
    (({ setW net [(F.PP_STAT_IDE_SECURE, [1, 0], 1)] with lnk := { ideSlot := [(4, 0)] } } : State).mcrReady ({ orig := 1 } : McrCx) ∧ 4 < 144 ∧
    ({ setW net [(F.PP_STAT_IDE_SECURE, [1, 0], 1)] with lnk := { ideSlot := [(4, 0)] } } : State).role 4 = 1 ∧
    ({ setW net [(F.PP_STAT_IDE_SECURE, [1, 0], 1)] with lnk := { ideSlot := [(4, 0)] } } : State).secDown = false ∧
    ({ setW net [(F.PP_STAT_IDE_SECURE, [1, 0], 1)] with lnk := { ideSlot := [(4, 0)] } } : State).inL0 4 = true ∧
    ({ setW net [(F.PP_STAT_IDE_SECURE, [1, 0], 1)] with lnk := { ideSlot := [(4, 0)] } } : State).pget F.PP_STAT_IDE_SECURE 4 = 1) ∧
    (({ setW net [(F.PP_STAT_IDE_SECURE, [1, 0], 1)] with lnk := { ideSlot := [(4, 0)], ideKeys := [(4, 0), (5, 1)], ideBad := [4] } } :
    State).mcrReady ({ orig := 1 } : McrCx) ∧ 4 < 144 ∧
    ({ setW net [(F.PP_STAT_IDE_SECURE, [1, 0], 1)] with lnk := { ideSlot := [(4, 0)], ideKeys := [(4, 0), (5, 1)], ideBad := [4] } } :
    State).role 4 = 1) := by
  and_intros <;> first | decide +kernel | rfl | exact BitVec.isLt _ | exact Nat.zero_le _

/-! ### command ring -/

theorem test_command_ring_hypotheses :
    (ring.granted (.owner : Init) true ⟨.MGR_NUDGE, []⟩ 4 ∧ ring.mcrOn = true ∧ ring.hostIo = true ∧ ring.restarting = false ∧ ((16 : W32).toNat
    + 2 ^ 32 - ring.mgr.fetched) % 2 ^ 32 ≤ 2 ^ ring.get F.MGR_MCR_CFG_CMD_SIZE [] ∧ (ring.get F.MGR_MCR_STAT_RSP_WRITTEN [] + 2 ^ 32 - (0 :
    W32).toNat) % 2 ^ 32 ≤ 2 ^ ring.get F.MGR_MCR_CFG_RSP_SIZE []) ∧ (ring.granted (.owner : Init) true ⟨.MGR_NUDGE, []⟩ 4 ∧ ring.mcrOn = true ∧
    ring.hostIo = true ∧ ring.restarting = false ∧ 2 ^ ring.get F.MGR_MCR_CFG_CMD_SIZE [] < ((17 : W32).toNat + 2 ^ 32 - ring.mgr.fetched) % 2 ^
    32) ∧ (((cfsOf ring [(.mgmt, .bme, 0)]) : State).granted (.owner : Init) true ⟨.MGR_NUDGE, []⟩ 4 ∧ ((cfsOf ring [(.mgmt, .bme, 0)]) :
    State).mcrOn = true ∧ ((cfsOf ring [(.mgmt, .bme, 0)]) : State).hostIo = false) ∧
    (({ setW ring [(F.MGR_MCR_CFG_POLL, [], 1), (F.CPW_TIME_TIME, [], 1000)] with mgr := { fetched := 2 ^ 32 - 1 } } : State).sealed = false ∧
    ({ setW ring [(F.MGR_MCR_CFG_POLL, [], 1), (F.CPW_TIME_TIME, [], 1000)] with mgr := { fetched := 2 ^ 32 - 1 } } : State).mcrOn = true ∧
    ({ setW ring [(F.MGR_MCR_CFG_POLL, [], 1), (F.CPW_TIME_TIME, [], 1000)] with mgr := { fetched := 2 ^ 32 - 1 } } : State).hostIo = true ∧
    ({ setW ring [(F.MGR_MCR_CFG_POLL, [], 1), (F.CPW_TIME_TIME, [], 1000)] with mgr := { fetched := 2 ^ 32 - 1 } } : State).restarting = false
    ∧ ({ setW ring [(F.MGR_MCR_CFG_POLL, [], 1), (F.CPW_TIME_TIME, [], 1000)] with mgr := { fetched := 2 ^ 32 - 1 } } : State).get
    F.MGR_MCR_CFG_POLL [] ≠ 0 ∧ ({ setW ring [(F.MGR_MCR_CFG_POLL, [], 1), (F.CPW_TIME_TIME, [], 1000)] with mgr := { fetched := 2 ^ 32 - 1 } }
    : State).mgr.pollAt + 1000 * min 1000
    (({ setW ring [(F.MGR_MCR_CFG_POLL, [], 1), (F.CPW_TIME_TIME, [], 1000)] with mgr := { fetched := 2 ^ 32 - 1 } } : State).get
    F.MGR_MCR_CFG_POLL []) ≤ ({ setW ring [(F.MGR_MCR_CFG_POLL, [], 1), (F.CPW_TIME_TIME, [], 1000)] with mgr := { fetched := 2 ^ 32 - 1 } } :
    State).now ∧ ((15 : W32).toNat + 2 ^ 32 -
    ({ setW ring [(F.MGR_MCR_CFG_POLL, [], 1), (F.CPW_TIME_TIME, [], 1000)] with mgr := { fetched := 2 ^ 32 - 1 } } : State).mgr.fetched) % 2 ^
    32 ≤ 2 ^ ({ setW ring [(F.MGR_MCR_CFG_POLL, [], 1), (F.CPW_TIME_TIME, [], 1000)] with mgr := { fetched := 2 ^ 32 - 1 } } : State).get
    F.MGR_MCR_CFG_CMD_SIZE [] ∧ (({ setW ring [(F.MGR_MCR_CFG_POLL, [], 1), (F.CPW_TIME_TIME, [], 1000)] with mgr := { fetched := 2 ^ 32 - 1 } }
    : State).get F.MGR_MCR_STAT_RSP_WRITTEN [] + 2 ^ 32 - (0 : W32).toNat) % 2 ^ 32 ≤ 2 ^
    ({ setW ring [(F.MGR_MCR_CFG_POLL, [], 1), (F.CPW_TIME_TIME, [], 1000)] with mgr := { fetched := 2 ^ 32 - 1 } } : State).get
    F.MGR_MCR_CFG_RSP_SIZE []) ∧ (({ ring with mgr := { want := true } } : State).sealed = false ∧ ({ ring with mgr := { want := true } } :
    State).mcrOn = true ∧ ({ ring with mgr := { want := true } } : State).hostIo = true ∧ ({ ring with mgr := { want := true } } :
    State).restarting = false ∧ ({ ring with mgr := { want := true } } : State).mgr.want = true) ∧
    (({ ring with mgr := { fetched := 17, tail := 18, rspHead := 16 } } : State).sealed = false ∧
    ({ ring with mgr := { fetched := 17, tail := 18, rspHead := 16 } } : State).mayFetch = true ∧
    ({ ring with mgr := { fetched := 17, tail := 18, rspHead := 16 } } : State).hostIo = true ∧
    ({ ring with mgr := { fetched := 17, tail := 18, rspHead := 16 } } : State).mgr.fetched ≠
    ({ ring with mgr := { fetched := 17, tail := 18, rspHead := 16 } } : State).mgr.tail) ∧
    (({ ring with mgr := { fetched := 2 ^ 32 - 1, tail := 0, rspHead := 2 ^ 32 - 1 } } : State).mcrReady ({ user := 0xFFFFFFFF, irq := true } :
    McrCx) ∧ ({ user := 0xFFFFFFFF, irq := true } : McrCx).orig = 0 ∧ ({ user := 0xFFFFFFFF, irq := true } : McrCx).user < 2 ^ 32 ∧
    ({ ring with mgr := { fetched := 2 ^ 32 - 1, tail := 0, rspHead := 2 ^ 32 - 1 } } : State).hostIo = true ∧
    ({ ring with mgr := { fetched := 2 ^ 32 - 1, tail := 0, rspHead := 2 ^ 32 - 1 } } : State).mgr.fetched ≠
    ({ ring with mgr := { fetched := 2 ^ 32 - 1, tail := 0, rspHead := 2 ^ 32 - 1 } } : State).mgr.tail) ∧ (({ ring with mgr := { tail := 1 } }
    : State).mcrReady ({ user := 5 } : McrCx) ∧ ({ user := 5 } : McrCx).orig = 0 ∧ ({ user := 5 } : McrCx).user = leAt ([2, 0, 0, 0x3F, 5] ++
    List.replicate 59 0 : List Byte) 4 4 ∧ ([2, 0, 0, 0x3F, 5] ++ List.replicate 59 0 : List Byte).length = 64 ∧
    ({ ring with mgr := { tail := 1 } } : State).hostIo = true ∧ ({ ring with mgr := { tail := 1 } } : State).mgr.fetched ≠
    ({ ring with mgr := { tail := 1 } } : State).mgr.tail ∧ leAt ([2, 0, 0, 0x3F, 5] ++ List.replicate 59 0 : List Byte) 0 1 ≠ 1) ∧ (up.granted
    (.owner : Init) true ⟨.MGR_DB_ADDR, []⟩ 8 ∧ up.get F.MGR_MCR_CFG_EN [] = 0 ∧ (0x7FFFFFF0 : W64).toNat % 16 = 0) ∧ (up.granted (.owner :
    Init) true ⟨.MGR_CMD_BASE, []⟩ 8 ∧ (0x7FFFF800 : W64).toNat % 4096 ≠ 0) ∧ (((setW up [(F.MGR_MCR_STAT_IDLE, [], 1), (F.MGR_RSP_DONE_DONE,
    [63], 3), (F.MGR_MCR_STAT_RSP_WRITTEN, [], 9)]) : State).granted (.owner : Init) true ⟨.MGR_MCR_CFG, []⟩ 4 ∧ ((setW up
    [(F.MGR_MCR_STAT_IDLE, [], 1), (F.MGR_RSP_DONE_DONE, [63], 3), (F.MGR_MCR_STAT_RSP_WRITTEN, [], 9)]) : State).get F.MGR_MCR_CFG_EN [] = 0 ∧
    ((setW up [(F.MGR_MCR_STAT_IDLE, [], 1), (F.MGR_RSP_DONE_DONE, [63], 3), (F.MGR_MCR_STAT_RSP_WRITTEN, [], 9)]) : State).get
    F.MGR_MCR_STAT_IDLE [] = 1 ∧ (0x99 : W64).getLsbD 0 = true ∧ 4 ≤ fget (0x99 : W64) 1 4 ∧ fget (0x99 : W64) 1 4 ≤ 12 ∧ 4 ≤ fget (0x99 : W64)
    5 4 ∧ fget (0x99 : W64) 5 4 ≤ 12) := by
  and_intros <;> first | decide +kernel | rfl | exact BitVec.isLt _ | exact Nat.zero_le _

/-! ### parked commands and completed swaps -/

theorem test_parked_commands_and_completed_swaps_hypotheses :
    (({ setW up [(F.DMG_PROG_STATE, [3], 3)] with mgr := { parked := [({ cx := { orig := 3 }, id := 5, op := some (.progUnload 3), entry := entryOf { orig := 3 } (.progUnload 3) }, .prog 3)] } }
    : State).sealed = false ∧
    ({ setW up [(F.DMG_PROG_STATE, [3], 3)] with mgr := { parked := [({ cx := { orig := 3 }, id := 5, op := some (.progUnload 3), entry := entryOf { orig := 3 } (.progUnload 3) }, .prog 3)] } }
    : State).restarting = false ∧
    ({ setW up [(F.DMG_PROG_STATE, [3], 3)] with mgr := { parked := [({ cx := { orig := 3 }, id := 5, op := some (.progUnload 3), entry := entryOf { orig := 3 } (.progUnload 3) }, .prog 3)] } }
    : State).mgr.run = none ∧
    ({ setW up [(F.DMG_PROG_STATE, [3], 3)] with mgr := { parked := [({ cx := { orig := 3 }, id := 5, op := some (.progUnload 3), entry := entryOf { orig := 3 } (.progUnload 3) }, .prog 3)] } }
    : State).mgr.queue = [] ∧ 3 < 4 ∧
    ({ setW up [(F.DMG_PROG_STATE, [3], 3)] with mgr := { parked := [({ cx := { orig := 3 }, id := 5, op := some (.progUnload 3), entry := entryOf { orig := 3 } (.progUnload 3) }, .prog 3)] } }
    : State).mgr.parked = [(({ cx := { orig := 3 }, id := 5, op := some (.progUnload 3), entry := entryOf { orig := 3 } (.progUnload 3) } :
    McrJob), .prog 3)] ∧ ({ cx := { orig := 3 }, id := 5, op := some (.progUnload 3), entry := entryOf { orig := 3 } (.progUnload 3) } :
    McrJob).op = some (.progUnload 3) ∧
    ({ cx := { orig := 3 }, id := 5, op := some (.progUnload 3), entry := entryOf { orig := 3 } (.progUnload 3) } : McrJob).cx.orig = 3 ∧
    ({ cx := { orig := 3 }, id := 5, op := some (.progUnload 3), entry := entryOf { orig := 3 } (.progUnload 3) } : McrJob).answered = false ∧
    ({ setW up [(F.DMG_PROG_STATE, [3], 3)] with mgr := { parked := [({ cx := { orig := 3 }, id := 5, op := some (.progUnload 3), entry := entryOf { orig := 3 } (.progUnload 3) }, .prog 3)] } }
    : State).get F.DMG_PROG_USE_USE [3] = 0) ∧
    (({ setW up [(F.DMG_PROG_USE_USE, [3], 1)] with mgr := { parked := [({ cx := { orig := 3 }, id := 5, op := some (.progUnload 3) }, .prog 3)] } }
    : State).sealed = false ∧
    ({ setW up [(F.DMG_PROG_USE_USE, [3], 1)] with mgr := { parked := [({ cx := { orig := 3 }, id := 5, op := some (.progUnload 3) }, .prog 3)] } }
    : State).restarting = false ∧
    ({ setW up [(F.DMG_PROG_USE_USE, [3], 1)] with mgr := { parked := [({ cx := { orig := 3 }, id := 5, op := some (.progUnload 3) }, .prog 3)] } }
    : State).mgr.queue = [] ∧
    ({ setW up [(F.DMG_PROG_USE_USE, [3], 1)] with mgr := { parked := [({ cx := { orig := 3 }, id := 5, op := some (.progUnload 3) }, .prog 3)] } }
    : State).mgr.parked = [(({ cx := { orig := 3 }, id := 5, op := some (.progUnload 3) } : McrJob), .prog 3)] ∧
    ({ setW up [(F.DMG_PROG_USE_USE, [3], 1)] with mgr := { parked := [({ cx := { orig := 3 }, id := 5, op := some (.progUnload 3) }, .prog 3)] } }
    : State).get F.DMG_PROG_USE_USE [3] ≠ 0) ∧
    (({ up with mgr := { parked := [({ cx := { orig := 3 }, id := 5, op := some (.reachClear 4095) }, .reach 4095)] } } : State).sealed = false
    ∧ ({ up with mgr := { parked := [({ cx := { orig := 3 }, id := 5, op := some (.reachClear 4095) }, .reach 4095)] } } : State).restarting =
    false ∧ ({ up with mgr := { parked := [({ cx := { orig := 3 }, id := 5, op := some (.reachClear 4095) }, .reach 4095)] } } : State).mgr.run
    = none ∧ ({ up with mgr := { parked := [({ cx := { orig := 3 }, id := 5, op := some (.reachClear 4095) }, .reach 4095)] } } :
    State).mgr.queue = [] ∧ ({ up with mgr := { parked := [({ cx := { orig := 3 }, id := 5, op := some (.reachClear 4095) }, .reach 4095)] } } :
    State).mgr.parked = [(({ cx := { orig := 3 }, id := 5, op := some (.reachClear 4095) } : McrJob), .reach 4095)] ∧
    ({ cx := { orig := 3 }, id := 5, op := some (.reachClear 4095) } : McrJob).op = some (.reachClear 4095) ∧
    ({ cx := { orig := 3 }, id := 5, op := some (.reachClear 4095) } : McrJob).cx.orig = 3 ∧
    ({ cx := { orig := 3 }, id := 5, op := some (.reachClear 4095) } : McrJob).answered = false ∧
    ({ up with mgr := { parked := [({ cx := { orig := 3 }, id := 5, op := some (.reachClear 4095) }, .reach 4095)] } } : State).get
    F.DMG_REACH_USE_USE [4095] = 0) ∧
    (({ setW up [(F.DMG_REACH_USE_USE, [4095], 1)] with mgr := { parked := [({ cx := { orig := 3 }, id := 5, op := some (.reachClear 4095) }, .reach 4095)] } }
    : State).sealed = false ∧
    ({ setW up [(F.DMG_REACH_USE_USE, [4095], 1)] with mgr := { parked := [({ cx := { orig := 3 }, id := 5, op := some (.reachClear 4095) }, .reach 4095)] } }
    : State).restarting = false ∧
    ({ setW up [(F.DMG_REACH_USE_USE, [4095], 1)] with mgr := { parked := [({ cx := { orig := 3 }, id := 5, op := some (.reachClear 4095) }, .reach 4095)] } }
    : State).mgr.queue = [] ∧
    ({ setW up [(F.DMG_REACH_USE_USE, [4095], 1)] with mgr := { parked := [({ cx := { orig := 3 }, id := 5, op := some (.reachClear 4095) }, .reach 4095)] } }
    : State).mgr.parked = [(({ cx := { orig := 3 }, id := 5, op := some (.reachClear 4095) } : McrJob), .reach 4095)] ∧
    ({ setW up [(F.DMG_REACH_USE_USE, [4095], 1)] with mgr := { parked := [({ cx := { orig := 3 }, id := 5, op := some (.reachClear 4095) }, .reach 4095)] } }
    : State).get F.DMG_REACH_USE_USE [4095] ≠ 0) ∧
    (({ setW up [(F.PT_WIN_E_EN, [35, 1, 3, 15], 1), (F.PT_WIN_BANK_SWAP_PEND, [35], 1)] with fwd := { swaps := [⟨.win, 1, [], true, .none⟩] } }
    : State).sealed = false ∧
    ({ setW up [(F.PT_WIN_E_EN, [35, 1, 3, 15], 1), (F.PT_WIN_BANK_SWAP_PEND, [35], 1)] with fwd := { swaps := [⟨.win, 1, [], true, .none⟩] } }
    : State).restarting = false ∧
    ({ setW up [(F.PT_WIN_E_EN, [35, 1, 3, 15], 1), (F.PT_WIN_BANK_SWAP_PEND, [35], 1)] with fwd := { swaps := [⟨.win, 1, [], true, .none⟩] } }
    : State).mgr.queue = [] ∧
    ({ setW up [(F.PT_WIN_E_EN, [35, 1, 3, 15], 1), (F.PT_WIN_BANK_SWAP_PEND, [35], 1)] with fwd := { swaps := [⟨.win, 1, [], true, .none⟩] } }
    : State).mgr.parked = [] ∧
    ({ setW up [(F.PT_WIN_E_EN, [35, 1, 3, 15], 1), (F.PT_WIN_BANK_SWAP_PEND, [35], 1)] with fwd := { swaps := [⟨.win, 1, [], true, .none⟩] } }
    : State).fwd.drains = [] ∧
    ({ setW up [(F.PT_WIN_E_EN, [35, 1, 3, 15], 1), (F.PT_WIN_BANK_SWAP_PEND, [35], 1)] with fwd := { swaps := [⟨.win, 1, [], true, .none⟩] } }
    : State).mesh.inbox = [] ∧
    ({ setW up [(F.PT_WIN_E_EN, [35, 1, 3, 15], 1), (F.PT_WIN_BANK_SWAP_PEND, [35], 1)] with fwd := { swaps := [⟨.win, 1, [], true, .none⟩] } }
    : State).fwd.swaps = [⟨.win, 1, [], true, .none⟩]) ∧
    (({ setW up [(F.PT_FWD_EPOCH_DRAIN, [35], 1), (F.VST_FB_A_VALID, [7], 1)] with fwd := { drains := [⟨1, [3], [7], some 4, 2, 1⟩] } } :
    State).sealed = false ∧
    ({ setW up [(F.PT_FWD_EPOCH_DRAIN, [35], 1), (F.VST_FB_A_VALID, [7], 1)] with fwd := { drains := [⟨1, [3], [7], some 4, 2, 1⟩] } } :
    State).mgr.queue = [] ∧
    ({ setW up [(F.PT_FWD_EPOCH_DRAIN, [35], 1), (F.VST_FB_A_VALID, [7], 1)] with fwd := { drains := [⟨1, [3], [7], some 4, 2, 1⟩] } } :
    State).mgr.parked = [] ∧
    ({ setW up [(F.PT_FWD_EPOCH_DRAIN, [35], 1), (F.VST_FB_A_VALID, [7], 1)] with fwd := { drains := [⟨1, [3], [7], some 4, 2, 1⟩] } } :
    State).fwd.swaps = [] ∧
    ({ setW up [(F.PT_FWD_EPOCH_DRAIN, [35], 1), (F.VST_FB_A_VALID, [7], 1)] with fwd := { drains := [⟨1, [3], [7], some 4, 2, 1⟩] } } :
    State).lookedUp = []) := by
  and_intros <;> first | decide +kernel | rfl | exact BitVec.isLt _ | exact Nat.zero_le _

/-! ### sideband commands and journal mirror -/

theorem test_sideband_commands_and_journal_mirror_hypotheses :
    (((setW up [(F.GSV_STAT_SAFE, [], 1)]) : State).sealed = true) ∧ (up.sealed = false ∧ (List.replicate 63 0 : List Byte).length ≠ 64) ∧
    (({ up with mgr := { subBusy := true } } : State).sealed = false ∧ (List.replicate 64 0 : List Byte).length = 64 ∧
    ({ up with mgr := { subBusy := true } } : State).restarting = false ∧ ({ up with mgr := { subBusy := true } } : State).mgr.subBusy = true ∧
    ({ up with mgr := { subBusy := true } } : State).mgr.queue = [] ∧ ({ up with mgr := { subBusy := true } } : State).mgr.run = none) ∧
    (up.mcrReady ({ orig := 1, user := 0xFFFFFFFF } : McrCx) ∧ ({ orig := 1, user := 0xFFFFFFFF } : McrCx).orig = 1 ∧
    ({ orig := 1, user := 0xFFFFFFFF } : McrCx).user < 2 ^ 32) ∧
    (({ setW ring [(F.MGR_JNL_STAT_MIRROR_EN, [], 1), (F.MGR_JNL_SEQ_SEQ, [], 2), (F.MGR_JNL_STAT_MIRRORED, [], 16)] with journal := [{ seq := 1, time := 0, kind := 3, orig := 0 }], mgr := { mirNext := 1, mirSize := 4, mirHead := 1 } }
    : State).sealed = false ∧
    ({ setW ring [(F.MGR_JNL_STAT_MIRROR_EN, [], 1), (F.MGR_JNL_SEQ_SEQ, [], 2), (F.MGR_JNL_STAT_MIRRORED, [], 16)] with journal := [{ seq := 1, time := 0, kind := 3, orig := 0 }], mgr := { mirNext := 1, mirSize := 4, mirHead := 1 } }
    : State).restarting = false ∧
    ({ setW ring [(F.MGR_JNL_STAT_MIRROR_EN, [], 1), (F.MGR_JNL_SEQ_SEQ, [], 2), (F.MGR_JNL_STAT_MIRRORED, [], 16)] with journal := [{ seq := 1, time := 0, kind := 3, orig := 0 }], mgr := { mirNext := 1, mirSize := 4, mirHead := 1 } }
    : State).hostIo = true ∧
    ({ setW ring [(F.MGR_JNL_STAT_MIRROR_EN, [], 1), (F.MGR_JNL_SEQ_SEQ, [], 2), (F.MGR_JNL_STAT_MIRRORED, [], 16)] with journal := [{ seq := 1, time := 0, kind := 3, orig := 0 }], mgr := { mirNext := 1, mirSize := 4, mirHead := 1 } }
    : State).get F.MGR_JNL_STAT_MIRROR_EN [] = 1 ∧
    ({ setW ring [(F.MGR_JNL_STAT_MIRROR_EN, [], 1), (F.MGR_JNL_SEQ_SEQ, [], 2), (F.MGR_JNL_STAT_MIRRORED, [], 16)] with journal := [{ seq := 1, time := 0, kind := 3, orig := 0 }], mgr := { mirNext := 1, mirSize := 4, mirHead := 1 } }
    : State).mgr.mirPause = false ∧
    ({ setW ring [(F.MGR_JNL_STAT_MIRROR_EN, [], 1), (F.MGR_JNL_SEQ_SEQ, [], 2), (F.MGR_JNL_STAT_MIRRORED, [], 16)] with journal := [{ seq := 1, time := 0, kind := 3, orig := 0 }], mgr := { mirNext := 1, mirSize := 4, mirHead := 1 } }
    : State).mgr.mirNext <
    ({ setW ring [(F.MGR_JNL_STAT_MIRROR_EN, [], 1), (F.MGR_JNL_SEQ_SEQ, [], 2), (F.MGR_JNL_STAT_MIRRORED, [], 16)] with journal := [{ seq := 1, time := 0, kind := 3, orig := 0 }], mgr := { mirNext := 1, mirSize := 4, mirHead := 1 } }
    : State).get F.MGR_JNL_SEQ_SEQ [] ∧
    ({ setW ring [(F.MGR_JNL_STAT_MIRROR_EN, [], 1), (F.MGR_JNL_SEQ_SEQ, [], 2), (F.MGR_JNL_STAT_MIRRORED, [], 16)] with journal := [{ seq := 1, time := 0, kind := 3, orig := 0 }], mgr := { mirNext := 1, mirSize := 4, mirHead := 1 } }
    : State).journal.head? = some ({ seq := 1, time := 0, kind := 3, orig := 0 } : JEntry) ∧ ({ seq := 1, time := 0, kind := 3, orig := 0 } :
    JEntry).seq =
    ({ setW ring [(F.MGR_JNL_STAT_MIRROR_EN, [], 1), (F.MGR_JNL_SEQ_SEQ, [], 2), (F.MGR_JNL_STAT_MIRRORED, [], 16)] with journal := [{ seq := 1, time := 0, kind := 3, orig := 0 }], mgr := { mirNext := 1, mirSize := 4, mirHead := 1 } }
    : State).mgr.mirNext ∧
    ({ setW ring [(F.MGR_JNL_STAT_MIRROR_EN, [], 1), (F.MGR_JNL_SEQ_SEQ, [], 2), (F.MGR_JNL_STAT_MIRRORED, [], 16)] with journal := [{ seq := 1, time := 0, kind := 3, orig := 0 }], mgr := { mirNext := 1, mirSize := 4, mirHead := 1 } }
    : State).mirFull = false) ∧
    (({ setW ring [(F.MGR_JNL_STAT_MIRROR_EN, [], 1), (F.MGR_JNL_SEQ_SEQ, [], 2), (F.MGR_JNL_STAT_MIRRORED, [], 16)] with journal := [{ seq := 1, time := 0, kind := 3, orig := 0 }], mgr := { mirNext := 1, mirSize := 4, mirHead := 0 } }
    : State).sealed = false ∧
    ({ setW ring [(F.MGR_JNL_STAT_MIRROR_EN, [], 1), (F.MGR_JNL_SEQ_SEQ, [], 2), (F.MGR_JNL_STAT_MIRRORED, [], 16)] with journal := [{ seq := 1, time := 0, kind := 3, orig := 0 }], mgr := { mirNext := 1, mirSize := 4, mirHead := 0 } }
    : State).restarting = false ∧
    ({ setW ring [(F.MGR_JNL_STAT_MIRROR_EN, [], 1), (F.MGR_JNL_SEQ_SEQ, [], 2), (F.MGR_JNL_STAT_MIRRORED, [], 16)] with journal := [{ seq := 1, time := 0, kind := 3, orig := 0 }], mgr := { mirNext := 1, mirSize := 4, mirHead := 0 } }
    : State).hostIo = true ∧
    ({ setW ring [(F.MGR_JNL_STAT_MIRROR_EN, [], 1), (F.MGR_JNL_SEQ_SEQ, [], 2), (F.MGR_JNL_STAT_MIRRORED, [], 16)] with journal := [{ seq := 1, time := 0, kind := 3, orig := 0 }], mgr := { mirNext := 1, mirSize := 4, mirHead := 0 } }
    : State).get F.MGR_JNL_STAT_MIRROR_EN [] = 1 ∧
    ({ setW ring [(F.MGR_JNL_STAT_MIRROR_EN, [], 1), (F.MGR_JNL_SEQ_SEQ, [], 2), (F.MGR_JNL_STAT_MIRRORED, [], 16)] with journal := [{ seq := 1, time := 0, kind := 3, orig := 0 }], mgr := { mirNext := 1, mirSize := 4, mirHead := 0 } }
    : State).mgr.mirPause = false ∧
    ({ setW ring [(F.MGR_JNL_STAT_MIRROR_EN, [], 1), (F.MGR_JNL_SEQ_SEQ, [], 2), (F.MGR_JNL_STAT_MIRRORED, [], 16)] with journal := [{ seq := 1, time := 0, kind := 3, orig := 0 }], mgr := { mirNext := 1, mirSize := 4, mirHead := 0 } }
    : State).mgr.mirNext <
    ({ setW ring [(F.MGR_JNL_STAT_MIRROR_EN, [], 1), (F.MGR_JNL_SEQ_SEQ, [], 2), (F.MGR_JNL_STAT_MIRRORED, [], 16)] with journal := [{ seq := 1, time := 0, kind := 3, orig := 0 }], mgr := { mirNext := 1, mirSize := 4, mirHead := 0 } }
    : State).get F.MGR_JNL_SEQ_SEQ [] ∧
    ({ setW ring [(F.MGR_JNL_STAT_MIRROR_EN, [], 1), (F.MGR_JNL_SEQ_SEQ, [], 2), (F.MGR_JNL_STAT_MIRRORED, [], 16)] with journal := [{ seq := 1, time := 0, kind := 3, orig := 0 }], mgr := { mirNext := 1, mirSize := 4, mirHead := 0 } }
    : State).journal.head? = some ({ seq := 1, time := 0, kind := 3, orig := 0 } : JEntry) ∧ ({ seq := 1, time := 0, kind := 3, orig := 0 } :
    JEntry).seq =
    ({ setW ring [(F.MGR_JNL_STAT_MIRROR_EN, [], 1), (F.MGR_JNL_SEQ_SEQ, [], 2), (F.MGR_JNL_STAT_MIRRORED, [], 16)] with journal := [{ seq := 1, time := 0, kind := 3, orig := 0 }], mgr := { mirNext := 1, mirSize := 4, mirHead := 0 } }
    : State).mgr.mirNext ∧
    ({ setW ring [(F.MGR_JNL_STAT_MIRROR_EN, [], 1), (F.MGR_JNL_SEQ_SEQ, [], 2), (F.MGR_JNL_STAT_MIRRORED, [], 16)] with journal := [{ seq := 1, time := 0, kind := 3, orig := 0 }], mgr := { mirNext := 1, mirSize := 4, mirHead := 0 } }
    : State).mirFull = true) ∧ (({ setW ring [(F.MGR_JNL_STAT_MIRRORED, [], 16)] with mgr := { mirSize := 4, mirPause := true } } :
    State).sealed = false ∧ ({ setW ring [(F.MGR_JNL_STAT_MIRRORED, [], 16)] with mgr := { mirSize := 4, mirPause := true } } :
    State).restarting = false ∧ ({ setW ring [(F.MGR_JNL_STAT_MIRRORED, [], 16)] with mgr := { mirSize := 4, mirPause := true } } :
    State).hostIo = true ∧ ({ setW ring [(F.MGR_JNL_STAT_MIRRORED, [], 16)] with mgr := { mirSize := 4, mirPause := true } } :
    State).mgr.mirPause = true) := by
  and_intros <;> first | decide +kernel | rfl | exact BitVec.isLt _ | exact Nat.zero_le _

/-! ### tlps that arrive and wait -/

theorem test_tlps_that_arrive_and_wait_hypotheses :
    (live.sealed = false ∧ ((live.countRecv 0 wr64) : State) = live.countRecv 0 wr64 ∧ live.portWidth 0 ≠ 0 ∧ live.inL0 0 = true ∧ live.role 0 ≠
    2 ∧ 0 ∉ live.lnk.ideBad ∧ wr64.kind = .mwr ∧ wr64.malformed = false ∧ wr64.idePrefix = false ∧ wr64.ecrc = false ∧ wr64.ecrcBad = false ∧
    wr64.poison = false ∧ wr64.carries = 0 ∧ ((live.countRecv 0 wr64) : State).senderOf (((live.countRecv 0 wr64) : State).tableOf (0 / 4)) 0
    wr64 = .host 2 ∧ tlpPayload wr64 ≤ ((live.countRecv 0 wr64) : State).mpsOf (((live.countRecv 0 wr64) : State).tableOf (0 / 4)) 0 (.host 2) ∧
    (((live.countRecv 0 wr64) : State).useCredit 0 wr64).routeFrom (((live.countRecv 0 wr64) : State).tableOf (0 / 4)) (0 / 4) (.host 2) wr64 =
    .fwd ((decOf (live.routeFrom (live.tableOf 0) 0 (.host 2) wr64)) : Dec) ∧ ((((decOf (live.routeFrom (live.tableOf 0) 0 (.host 2) wr64)) :
    Dec).egress < 144 → ((live.countRecv 0 wr64) : State).pget F.PT_CONT_CONTAINED ((decOf (live.routeFrom (live.tableOf 0) 0 (.host 2) wr64)) :
    Dec).egress = 0)) ∧ (((live.countRecv 0 wr64) : State).useCredit 0 wr64).streamLoad (0, ((decOf (live.routeFrom (live.tableOf 0) 0 (.host 2)
    wr64)) : Dec).egress, ((decOf (live.routeFrom (live.tableOf 0) 0 (.host 2) wr64)) : Dec).sc) < 4096 ∧ tlpClass ((decOf (live.routeFrom
    (live.tableOf 0) 0 (.host 2) wr64)) : Dec).tlp = 0 ∧ live.fwd.waits = [] ∧ live.fwd.lostQ = [] ∧ ((live.countRecv 0 wr64) : State).escVec
    (((live.countRecv 0 wr64) : State).exitRouter (0 / 4) ((decOf (live.routeFrom (live.tableOf 0) 0 (.host 2) wr64)) : Dec).egress)
    (((live.countRecv 0 wr64) : State).entryRouter (((decOf (live.routeFrom (live.tableOf 0) 0 (.host 2) wr64)) : Dec).egress / 4)) = false) ∧
    (live.sealed = false ∧ ((live.countRecv 0 { wr64 with malformed := true }) : State) = live.countRecv 0 ({ wr64 with malformed := true } :
    Tlp) ∧ live.portWidth 0 ≠ 0 ∧ live.inL0 0 = true ∧ live.role 0 ≠ 2 ∧ 0 ∉ live.lnk.ideBad ∧ ({ wr64 with malformed := true } : Tlp).malformed
    = true ∧ live.fwd.lostQ = [] ∧ ((live.countRecv 0 { wr64 with malformed := true }) : State).isTrunk 0 = false ∧ ((live.countRecv 0
    { wr64 with malformed := true }) : State).senderOf (((live.countRecv 0 { wr64 with malformed := true }) : State).tableOf (0 / 4)) 0
    ({ wr64 with malformed := true } : Tlp) = .host 2) ∧ (live.sealed = false ∧ live.portWidth 0 ≠ 0 ∧ live.inL0 0 = true ∧ live.role 0 ≠ 2 ∧ 0
    ∉ live.lnk.ideBad ∧ live.senderOf (live.tableOf (0 / 4)) 0 wr64 = .host 2) ∧
    (({ live with fwd := { live.fwd with leases := [((0, 4), [0x101, 0x102])], waits := [⟨0, 0, { egress := 4, sc := 1, vdsp := 7, bvdsp := 7, tlp := rd64 }, rd64, 0⟩] } }
    : State).sealed = false ∧
    ({ live with fwd := { live.fwd with leases := [((0, 4), [0x101, 0x102])], waits := [⟨0, 0, { egress := 4, sc := 1, vdsp := 7, bvdsp := 7, tlp := rd64 }, rd64, 0⟩] } }
    : State).fwd.waits[0]? = some (⟨0, 0, { egress := 4, sc := 1, vdsp := 7, bvdsp := 7, tlp := rd64 }, rd64, 0⟩ : WaitNp) ∧ tlpClass (⟨0, 0,
    { egress := 4, sc := 1, vdsp := 7, bvdsp := 7, tlp := rd64 }, rd64, 0⟩ : WaitNp).req = 1 ∧
    ({ live with fwd := { live.fwd with leases := [((0, 4), [0x101, 0x102])], waits := [⟨0, 0, { egress := 4, sc := 1, vdsp := 7, bvdsp := 7, tlp := rd64 }, rd64, 0⟩] } }
    : State).npReady (⟨0, 0, { egress := 4, sc := 1, vdsp := 7, bvdsp := 7, tlp := rd64 }, rd64, 0⟩ : WaitNp).src (⟨0, 0,
    { egress := 4, sc := 1, vdsp := 7, bvdsp := 7, tlp := rd64 }, rd64, 0⟩ : WaitNp).dec 16383 = some (16383, (0x101 : Nat))) ∧
    (({ live with fwd := { live.fwd with waits := [⟨0, 0, { egress := 4, sc := 1, vdsp := 7, bvdsp := 7, tlp := rd64 }, rd64, 0⟩] } } :
    State).sealed = false ∧
    ({ live with fwd := { live.fwd with waits := [⟨0, 0, { egress := 4, sc := 1, vdsp := 7, bvdsp := 7, tlp := rd64 }, rd64, 0⟩] } } :
    State).fwd.waits[0]? = some (⟨0, 0, { egress := 4, sc := 1, vdsp := 7, bvdsp := 7, tlp := rd64 }, rd64, 0⟩ : WaitNp) ∧
    ({ live with fwd := { live.fwd with waits := [⟨0, 0, { egress := 4, sc := 1, vdsp := 7, bvdsp := 7, tlp := rd64 }, rd64, 0⟩] } } :
    State).npReady (⟨0, 0, { egress := 4, sc := 1, vdsp := 7, bvdsp := 7, tlp := rd64 }, rd64, 0⟩ : WaitNp).src (⟨0, 0,
    { egress := 4, sc := 1, vdsp := 7, bvdsp := 7, tlp := rd64 }, rd64, 0⟩ : WaitNp).dec 0 = none) ∧
    (({ setW live [(F.PT_TRK_CFG_TO_VAL, [1, 0], 1), (F.PT_TRK_CFG_TO_UNIT, [1, 0], 0), (F.CPW_TIME_TIME, [], 1001)] with fwd := { live.fwd with waits := [⟨0, 0, { egress := 4, sc := 1, vdsp := 7, bvdsp := 7, tlp := rd64 }, rd64, 0⟩] } }
    : State).sealed = false ∧
    ({ setW live [(F.PT_TRK_CFG_TO_VAL, [1, 0], 1), (F.PT_TRK_CFG_TO_UNIT, [1, 0], 0), (F.CPW_TIME_TIME, [], 1001)] with fwd := { live.fwd with waits := [⟨0, 0, { egress := 4, sc := 1, vdsp := 7, bvdsp := 7, tlp := rd64 }, rd64, 0⟩] } }
    : State).fwd.waits[0]? = some (⟨0, 0, { egress := 4, sc := 1, vdsp := 7, bvdsp := 7, tlp := rd64 }, rd64, 0⟩ : WaitNp) ∧ tlpClass (⟨0, 0,
    { egress := 4, sc := 1, vdsp := 7, bvdsp := 7, tlp := rd64 }, rd64, 0⟩ : WaitNp).req = 1 ∧ (⟨0, 0,
    { egress := 4, sc := 1, vdsp := 7, bvdsp := 7, tlp := rd64 }, rd64, 0⟩ : WaitNp).src < 144 ∧ (⟨0, 0,
    { egress := 4, sc := 1, vdsp := 7, bvdsp := 7, tlp := rd64 }, rd64, 0⟩ : WaitNp).since +
    ({ setW live [(F.PT_TRK_CFG_TO_VAL, [1, 0], 1), (F.PT_TRK_CFG_TO_UNIT, [1, 0], 0), (F.CPW_TIME_TIME, [], 1001)] with fwd := { live.fwd with waits := [⟨0, 0, { egress := 4, sc := 1, vdsp := 7, bvdsp := 7, tlp := rd64 }, rd64, 0⟩] } }
    : State).timeoutNs (⟨0, 0, { egress := 4, sc := 1, vdsp := 7, bvdsp := 7, tlp := rd64 }, rd64, 0⟩ : WaitNp).dec.egress <
    ({ setW live [(F.PT_TRK_CFG_TO_VAL, [1, 0], 1), (F.PT_TRK_CFG_TO_UNIT, [1, 0], 0), (F.CPW_TIME_TIME, [], 1001)] with fwd := { live.fwd with waits := [⟨0, 0, { egress := 4, sc := 1, vdsp := 7, bvdsp := 7, tlp := rd64 }, rd64, 0⟩] } }
    : State).now ∧
    ({ setW live [(F.PT_TRK_CFG_TO_VAL, [1, 0], 1), (F.PT_TRK_CFG_TO_UNIT, [1, 0], 0), (F.CPW_TIME_TIME, [], 1001)] with fwd := { live.fwd with waits := [⟨0, 0, { egress := 4, sc := 1, vdsp := 7, bvdsp := 7, tlp := rd64 }, rd64, 0⟩] } }
    : State).isTrunk (⟨0, 0, { egress := 4, sc := 1, vdsp := 7, bvdsp := 7, tlp := rd64 }, rd64, 0⟩ : WaitNp).src = false) ∧
    (({ setW live [(F.PT_TRK_CFG_TO_VAL, [1, 0], 1), (F.PT_TRK_CFG_TO_UNIT, [1, 0], 0), (F.CPW_TIME_TIME, [], 1000)] with fwd := { live.fwd with waits := [⟨0, 0, { egress := 4, sc := 1, vdsp := 7, bvdsp := 7, tlp := rd64 }, rd64, 0⟩] } }
    : State).sealed = false ∧
    ({ setW live [(F.PT_TRK_CFG_TO_VAL, [1, 0], 1), (F.PT_TRK_CFG_TO_UNIT, [1, 0], 0), (F.CPW_TIME_TIME, [], 1000)] with fwd := { live.fwd with waits := [⟨0, 0, { egress := 4, sc := 1, vdsp := 7, bvdsp := 7, tlp := rd64 }, rd64, 0⟩] } }
    : State).fwd.waits[0]? = some (⟨0, 0, { egress := 4, sc := 1, vdsp := 7, bvdsp := 7, tlp := rd64 }, rd64, 0⟩ : WaitNp) ∧
    ({ setW live [(F.PT_TRK_CFG_TO_VAL, [1, 0], 1), (F.PT_TRK_CFG_TO_UNIT, [1, 0], 0), (F.CPW_TIME_TIME, [], 1000)] with fwd := { live.fwd with waits := [⟨0, 0, { egress := 4, sc := 1, vdsp := 7, bvdsp := 7, tlp := rd64 }, rd64, 0⟩] } }
    : State).now ≤ (⟨0, 0, { egress := 4, sc := 1, vdsp := 7, bvdsp := 7, tlp := rd64 }, rd64, 0⟩ : WaitNp).since +
    ({ setW live [(F.PT_TRK_CFG_TO_VAL, [1, 0], 1), (F.PT_TRK_CFG_TO_UNIT, [1, 0], 0), (F.CPW_TIME_TIME, [], 1000)] with fwd := { live.fwd with waits := [⟨0, 0, { egress := 4, sc := 1, vdsp := 7, bvdsp := 7, tlp := rd64 }, rd64, 0⟩] } }
    : State).timeoutNs (⟨0, 0, { egress := 4, sc := 1, vdsp := 7, bvdsp := 7, tlp := rd64 }, rd64, 0⟩ : WaitNp).dec.egress) := by
  and_intros <;> first | decide +kernel | rfl | exact BitVec.isLt _ | exact Nat.zero_le _

/-! ### delivery confirmation and scheduling -/

theorem test_delivery_confirmation_and_scheduling_hypotheses :
    (({ live with mesh := { landed := [(1, 5)], pkts := [(5, { pkt64 with seq := 65535 })] }, fwd := { live.fwd with gates := [((0, 4, 1), { base := 65535 })] } }
    : State).sealed = false ∧
    ({ live with mesh := { landed := [(1, 5)], pkts := [(5, { pkt64 with seq := 65535 })] }, fwd := { live.fwd with gates := [((0, 4, 1), { base := 65535 })] } }
    : State).mesh.landed = [(1, 5)] ∧
    ({ live with mesh := { landed := [(1, 5)], pkts := [(5, { pkt64 with seq := 65535 })] }, fwd := { live.fwd with gates := [((0, 4, 1), { base := 65535 })] } }
    : State).mesh.pkts.look 5 = some ({ pkt64 with seq := 65535 } : Pkt) ∧ ({ pkt64 with seq := 65535 } : Pkt).body = .tlp wr64 ∧
    ({ pkt64 with seq := 65535 } : Pkt).kind = 0 ∧ ({ pkt64 with seq := 65535 } : Pkt).stomp = 0 ∧ ({ pkt64 with seq := 65535 } : Pkt).egress <
    144 ∧ ({ pkt64 with seq := 65535 } : Pkt).mark = false ∧ ({ pkt64 with seq := 65535 } : Pkt).bytes ≤ 5120 ∧
    ({ live with mesh := { landed := [(1, 5)], pkts := [(5, { pkt64 with seq := 65535 })] }, fwd := { live.fwd with gates := [((0, 4, 1), { base := 65535 })] } }
    : State).powered (({ pkt64 with seq := 65535 } : Pkt).egress / 4) = true ∧
    ({ live with mesh := { landed := [(1, 5)], pkts := [(5, { pkt64 with seq := 65535 })] }, fwd := { live.fwd with gates := [((0, 4, 1), { base := 65535 })] } }
    : State).gq ({ pkt64 with seq := 65535 } : Pkt).egress ({ pkt64 with seq := 65535 } : Pkt).sc = [] ∧
    ({ live with mesh := { landed := [(1, 5)], pkts := [(5, { pkt64 with seq := 65535 })] }, fwd := { live.fwd with gates := [((0, 4, 1), { base := 65535 })] } }
    : State).sq ({ pkt64 with seq := 65535 } : Pkt).egress ({ pkt64 with seq := 65535 } : Pkt).sc = [] ∧
    ({ live with mesh := { landed := [(1, 5)], pkts := [(5, { pkt64 with seq := 65535 })] }, fwd := { live.fwd with gates := [((0, 4, 1), { base := 65535 })] } }
    : State).gate ({ pkt64 with seq := 65535 } : Pkt).key = { base := ({ pkt64 with seq := 65535 } : Pkt).seq } ∧ ({ pkt64 with seq := 65535 } :
    Pkt).seq < 65536 ∧
    ({ live with mesh := { landed := [(1, 5)], pkts := [(5, { pkt64 with seq := 65535 })] }, fwd := { live.fwd with gates := [((0, 4, 1), { base := 65535 })] } }
    : State).scopeDrops ({ pkt64 with seq := 65535 } : Pkt) = false ∧
    ({ live with mesh := { landed := [(1, 5)], pkts := [(5, { pkt64 with seq := 65535 })] }, fwd := { live.fwd with gates := [((0, 4, 1), { base := 65535 })] } }
    : State).fwd.lostQ = []) ∧ (({ live with mesh := { landed := [(1, 5)], pkts := [(5, { pkt64 with seq := 65535 })] } } : State).sealed =
    false ∧ ({ live with mesh := { landed := [(1, 5)], pkts := [(5, { pkt64 with seq := 65535 })] } } : State).mesh.landed = [(1, 5)] ∧
    ({ live with mesh := { landed := [(1, 5)], pkts := [(5, { pkt64 with seq := 65535 })] } } : State).mesh.pkts.look 5 = some
    ({ pkt64 with seq := 65535 } : Pkt) ∧ ({ pkt64 with seq := 65535 } : Pkt).body = .tlp wr64 ∧ ({ pkt64 with seq := 65535 } : Pkt).stomp = 0 ∧
    ({ pkt64 with seq := 65535 } : Pkt).egress < 144 ∧ ({ live with mesh := { landed := [(1, 5)], pkts := [(5, { pkt64 with seq := 65535 })] } }
    : State).powered (({ pkt64 with seq := 65535 } : Pkt).egress / 4) = true ∧
    (({ live with mesh := { landed := [(1, 5)], pkts := [(5, { pkt64 with seq := 65535 })] } } : State).gate ({ pkt64 with seq := 65535 } :
    Pkt).key).dup ({ pkt64 with seq := 65535 } : Pkt).seq = true ∧
    ({ live with mesh := { landed := [(1, 5)], pkts := [(5, { pkt64 with seq := 65535 })] } } : State).fwd.lostQ = []) ∧
    (({ live with mesh := { inbox := [(0, [.resend 0 4 1 3])] }, fwd := { live.fwd with held := [(((0, 4, 1), 3), { pkt64 with seq := 3 })] } }
    : State).sealed = false ∧
    ({ live with mesh := { inbox := [(0, [.resend 0 4 1 3])] }, fwd := { live.fwd with held := [(((0, 4, 1), 3), { pkt64 with seq := 3 })] } } :
    State).mesh.inbox.lookD 0 [] = [.resend 0 4 1 3] ∧
    ({ live with mesh := { inbox := [(0, [.resend 0 4 1 3])] }, fwd := { live.fwd with held := [(((0, 4, 1), 3), { pkt64 with seq := 3 })] } } :
    State).heldOf (0, 4, 1) 3 = some ({ pkt64 with seq := 3 } : Pkt) ∧
    ({ live with mesh := { inbox := [(0, [.resend 0 4 1 3])] }, fwd := { live.fwd with held := [(((0, 4, 1), 3), { pkt64 with seq := 3 })] } } :
    State).fwd.lostQ = [] ∧
    ({ live with mesh := { inbox := [(0, [.resend 0 4 1 3])] }, fwd := { live.fwd with held := [(((0, 4, 1), 3), { pkt64 with seq := 3 })] } } :
    State).escVec
    (({ live with mesh := { inbox := [(0, [.resend 0 4 1 3])] }, fwd := { live.fwd with held := [(((0, 4, 1), 3), { pkt64 with seq := 3 })] } }
    : State).exitRouter (pktStn ({ pkt64 with seq := 3 } : Pkt)) ({ pkt64 with seq := 3 } : Pkt).egress) ({ pkt64 with seq := 3 } : Pkt).dest =
    false) ∧
    (({ live with mesh := { inbox := [(0, [.tailConf 0 4 1 3])] }, fwd := { live.fwd with held := [(((0, 4, 1), 3), { pkt64 with seq := 3 })], credit := [((0, 0), (1, 4))] } }
    : State).sealed = false ∧
    ({ live with mesh := { inbox := [(0, [.tailConf 0 4 1 3])] }, fwd := { live.fwd with held := [(((0, 4, 1), 3), { pkt64 with seq := 3 })], credit := [((0, 0), (1, 4))] } }
    : State).mesh.inbox.lookD 0 [] = [.tailConf 0 4 1 3] ∧
    ({ live with mesh := { inbox := [(0, [.tailConf 0 4 1 3])] }, fwd := { live.fwd with held := [(((0, 4, 1), 3), { pkt64 with seq := 3 })], credit := [((0, 0), (1, 4))] } }
    : State).heldOf (0, 4, 1) 3 = some ({ pkt64 with seq := 3 } : Pkt) ∧ ({ pkt64 with seq := 3 } : Pkt).kind = 0 ∧ ({ pkt64 with seq := 3 } :
    Pkt).body = .tlp wr64 ∧ ({ pkt64 with seq := 3 } : Pkt).made = false ∧ 0 < 144 ∧
    ({ live with mesh := { inbox := [(0, [.tailConf 0 4 1 3])] }, fwd := { live.fwd with held := [(((0, 4, 1), 3), { pkt64 with seq := 3 })], credit := [((0, 0), (1, 4))] } }
    : State).isTrunk 0 = false ∧
    ({ live with mesh := { inbox := [(0, [.tailConf 0 4 1 3])] }, fwd := { live.fwd with held := [(((0, 4, 1), 3), { pkt64 with seq := 3 })], credit := [((0, 0), (1, 4))] } }
    : State).fwd.waits = [] ∧
    ({ live with mesh := { inbox := [(0, [.tailConf 0 4 1 3])] }, fwd := { live.fwd with held := [(((0, 4, 1), 3), { pkt64 with seq := 3 })], credit := [((0, 0), (1, 4))] } }
    : State).fwd.relWait = []) ∧ (live.sealed = false ∧ (∀ c < 4, live.sq 143 c = [])) ∧
    (({ live with fwd := { live.fwd with shq := [((4, 0), [{ pkt64 with sc := 0 }])], fc := [((4, 0), (1, 4))] } } : State).sealed = false ∧ 16
    = 4 * 4 ∧ ({ live with fwd := { live.fwd with shq := [((4, 0), [{ pkt64 with sc := 0 }])], fc := [((4, 0), (1, 4))] } } : State).sq 4 0 =
    ({ pkt64 with sc := 0 } : Pkt) :: ([] : List Pkt) ∧ ({ pkt64 with sc := 0 } : Pkt).body = .tlp wr64 ∧
    ({ live with fwd := { live.fwd with shq := [((4, 0), [{ pkt64 with sc := 0 }])], fc := [((4, 0), (1, 4))] } } : State).isTrunk 4 = false ∧
    ({ live with fwd := { live.fwd with shq := [((4, 0), [{ pkt64 with sc := 0 }])], fc := [((4, 0), (1, 4))] } } : State).eligible 4 0 = true ∧
    ({ live with fwd := { live.fwd with shq := [((4, 0), [{ pkt64 with sc := 0 }])], fc := [((4, 0), (1, 4))] } } : State).gq 4 0 = []) ∧
    (({ setW live [(F.SH_CFG_EN, [16], 1)] with shp := [(16, { credit := -1, at_ := 0 })] } : State).sealed = false ∧
    ({ setW live [(F.SH_CFG_EN, [16], 1)] with shp := [(16, { credit := -1, at_ := 0 })] } : State).shGrants 16 = false) ∧
    (({ live with fwd := { live.fwd with shq := [((4, 0), [{ pkt64 with sc := 0 }])], fc := [((4, 0), (1, 4))] } } : State).sealed = false ∧
    ({ live with fwd := { live.fwd with shq := [((4, 0), [{ pkt64 with sc := 0 }])], fc := [((4, 0), (1, 4))] } } : State).pon F.PP_CTL_SAF 4 =
    false ∧ ({ live with fwd := { live.fwd with shq := [((4, 0), [{ pkt64 with sc := 0 }])], fc := [((4, 0), (1, 4))] } } : State).sq 4 0 =
    ({ pkt64 with sc := 0 } : Pkt) :: ([] : List Pkt) ∧ ({ pkt64 with sc := 0 } : Pkt).body = .tlp wr64 ∧
    ({ live with fwd := { live.fwd with shq := [((4, 0), [{ pkt64 with sc := 0 }])], fc := [((4, 0), (1, 4))] } } : State).isTrunk 4 = false ∧
    ({ live with fwd := { live.fwd with shq := [((4, 0), [{ pkt64 with sc := 0 }])], fc := [((4, 0), (1, 4))] } } : State).eligible 4 0 = true ∧
    ({ live with fwd := { live.fwd with shq := [((4, 0), [{ pkt64 with sc := 0 }])], fc := [((4, 0), (1, 4))] } } : State).gq 4 0 = []) ∧
    (((setW live [(F.PP_CTL_SAF, [1, 0], 1)]) : State).sealed = false ∧ ((setW live [(F.PP_CTL_SAF, [1, 0], 1)]) : State).pon F.PP_CTL_SAF 4 =
    true) ∧ (({ live with fwd := { live.fwd with deficit := [((143, 3), 5)], rrs := [((143, 0), 2)] } } : State).granted (.owner : Init) true
    ⟨.PT_SCHED, [143 / 4, 143 % 4]⟩ 4) := by
  and_intros <;> first | decide +kernel | rfl | exact BitVec.isLt _ | exact Nat.zero_le _

/-! ### losses and timeouts on the path -/

theorem test_losses_and_timeouts_on_the_path_hypotheses :
    (({ (setW live [(F.CPW_TIME_TIME, [], 50000000)]) with fwd := { live.fwd with trk := [((0, 16383), ent64)] } } : State).sealed = false ∧
    ({ (setW live [(F.CPW_TIME_TIME, [], 50000000)]) with fwd := { live.fwd with trk := [((0, 16383), ent64)] } } : State).trkOf 0 16383 = some
    ent64 ∧ ent64.expired = false ∧ ent64.confirmed = false ∧ ent64.to_ ≤
    ((({ (setW live [(F.CPW_TIME_TIME, [], 50000000)]) with fwd := { live.fwd with trk := [((0, 16383), ent64)] } } : State).now / 1000 + 2 ^ 32
    - ent64.tAlloc) % 2 ^ 32) * 1000 ∧
    ({ (setW live [(F.CPW_TIME_TIME, [], 50000000)]) with fwd := { live.fwd with trk := [((0, 16383), ent64)] } } : State).escVec
    (({ (setW live [(F.CPW_TIME_TIME, [], 50000000)]) with fwd := { live.fwd with trk := [((0, 16383), ent64)] } } : State).exitRouter 0
    ent64.egress) (({ (setW live [(F.CPW_TIME_TIME, [], 50000000)]) with fwd := { live.fwd with trk := [((0, 16383), ent64)] } } :
    State).entryRouter (ent64.egress / 4)) = false) ∧
    (({ (setW live [(F.CPW_TIME_TIME, [], 49999999)]) with fwd := { live.fwd with trk := [((0, 16383), ent64)] } } : State).sealed = false ∧
    ({ (setW live [(F.CPW_TIME_TIME, [], 49999999)]) with fwd := { live.fwd with trk := [((0, 16383), ent64)] } } : State).trkOf 0 16383 = some
    ent64 ∧ ((({ (setW live [(F.CPW_TIME_TIME, [], 49999999)]) with fwd := { live.fwd with trk := [((0, 16383), ent64)] } } : State).now / 1000
    + 2 ^ 32 - ent64.tAlloc) % 2 ^ 32) * 1000 < ent64.to_) ∧
    (({ live with mesh := { inbox := [(35, [.expiry 143 0x3FFF])] }, fwd := { live.fwd with tags := [((143, 0x3FFF), .live 0 5)] } } :
    State).sealed = false ∧
    ({ live with mesh := { inbox := [(35, [.expiry 143 0x3FFF])] }, fwd := { live.fwd with tags := [((143, 0x3FFF), .live 0 5)] } } :
    State).mesh.inbox.lookD 35 [] = [.expiry 143 (0x3FFF : Nat)] ∧ 143 < 144 ∧
    ({ live with mesh := { inbox := [(35, [.expiry 143 0x3FFF])] }, fwd := { live.fwd with tags := [((143, 0x3FFF), .live 0 5)] } } :
    State).tagSt 143 (0x3FFF : Nat) = .live 0 5 ∧
    ({ live with mesh := { inbox := [(35, [.expiry 143 0x3FFF])] }, fwd := { live.fwd with tags := [((143, 0x3FFF), .live 0 5)] } } :
    State).trkOf 0 5 = none ∧
    ({ live with mesh := { inbox := [(35, [.expiry 143 0x3FFF])] }, fwd := { live.fwd with tags := [((143, 0x3FFF), .live 0 5)] } } :
    State).fwd.lostQ = []) ∧ (({ live with mesh := { inbox := [(35, [.expiry 143 0x3FFF])] } } : State).sealed = false ∧
    ({ live with mesh := { inbox := [(35, [.expiry 143 0x3FFF])] } } : State).mesh.inbox.lookD 35 [] = [.expiry 143 (0x3FFF : Nat)] ∧
    ({ live with mesh := { inbox := [(35, [.expiry 143 0x3FFF])] } } : State).tagSt 143 (0x3FFF : Nat) = .pool) ∧
    (({ (setW live [(F.CPW_TIME_TIME, [], 50)]) with fwd := { live.fwd with tags := [((143, 0x3FFF), .tomb (some 50)), ((143, 0x3FFE), .tomb (some 50))] } }
    : State).sealed = false ∧
    ({ (setW live [(F.CPW_TIME_TIME, [], 50)]) with fwd := { live.fwd with tags := [((143, 0x3FFF), .tomb (some 50)), ((143, 0x3FFE), .tomb (some 50))] } }
    : State).tagSt 143 0x3FFF = .tomb (some 50) ∧ 50 ≤
    ({ (setW live [(F.CPW_TIME_TIME, [], 50)]) with fwd := { live.fwd with tags := [((143, 0x3FFF), .tomb (some 50)), ((143, 0x3FFE), .tomb (some 50))] } }
    : State).now) ∧ (({ (setW live [(F.CPW_TIME_TIME, [], 49)]) with fwd := { live.fwd with tags := [((143, 0x3FFF), .tomb (some 50))] } } :
    State).sealed = false ∧
    ({ (setW live [(F.CPW_TIME_TIME, [], 49)]) with fwd := { live.fwd with tags := [((143, 0x3FFF), .tomb (some 50))] } } : State).tagSt 143
    0x3FFF = .tomb (some 50) ∧
    ({ (setW live [(F.CPW_TIME_TIME, [], 49)]) with fwd := { live.fwd with tags := [((143, 0x3FFF), .tomb (some 50))] } } : State).now < 50) ∧
    (({ (setW live [(F.PT_GATE_CFG_GAP_TIMEOUT, [35], 1), (F.CPW_TIME_TIME, [], 1000004)]) with fwd := { live.fwd with gates := [((163, 143, 3), { base := 1, got := [2], since := some 5 })] } }
    : State).sealed = false ∧
    (({ (setW live [(F.PT_GATE_CFG_GAP_TIMEOUT, [35], 1), (F.CPW_TIME_TIME, [], 1000004)]) with fwd := { live.fwd with gates := [((163, 143, 3), { base := 1, got := [2], since := some 5 })] } }
    : State).gate (163, 143, 3)).since = some 5 ∧
    ({ (setW live [(F.PT_GATE_CFG_GAP_TIMEOUT, [35], 1), (F.CPW_TIME_TIME, [], 1000004)]) with fwd := { live.fwd with gates := [((163, 143, 3), { base := 1, got := [2], since := some 5 })] } }
    : State).now < 5 + max 1
    (({ (setW live [(F.PT_GATE_CFG_GAP_TIMEOUT, [35], 1), (F.CPW_TIME_TIME, [], 1000004)]) with fwd := { live.fwd with gates := [((163, 143, 3), { base := 1, got := [2], since := some 5 })] } }
    : State).get F.PT_GATE_CFG_GAP_TIMEOUT [143 / 4]) * 1000000) ∧
    (({ (setW live [(F.PT_GATE_CFG_GAP_TIMEOUT, [35], 1), (F.CPW_TIME_TIME, [], 1000005)]) with fwd := { live.fwd with gates := [((163, 143, 3), { base := 1, got := [2], since := some 5 })] } }
    : State).sealed = false ∧ 144 ≤ 163 ∧
    ({ (setW live [(F.PT_GATE_CFG_GAP_TIMEOUT, [35], 1), (F.CPW_TIME_TIME, [], 1000005)]) with fwd := { live.fwd with gates := [((163, 143, 3), { base := 1, got := [2], since := some 5 })] } }
    : State).rerouting = false ∧
    (({ (setW live [(F.PT_GATE_CFG_GAP_TIMEOUT, [35], 1), (F.CPW_TIME_TIME, [], 1000005)]) with fwd := { live.fwd with gates := [((163, 143, 3), { base := 1, got := [2], since := some 5 })] } }
    : State).gate (163, 143, 3)).since = some 5 ∧ 5 + max 1
    (({ (setW live [(F.PT_GATE_CFG_GAP_TIMEOUT, [35], 1), (F.CPW_TIME_TIME, [], 1000005)]) with fwd := { live.fwd with gates := [((163, 143, 3), { base := 1, got := [2], since := some 5 })] } }
    : State).get F.PT_GATE_CFG_GAP_TIMEOUT [143 / 4]) * 1000000 ≤
    ({ (setW live [(F.PT_GATE_CFG_GAP_TIMEOUT, [35], 1), (F.CPW_TIME_TIME, [], 1000005)]) with fwd := { live.fwd with gates := [((163, 143, 3), { base := 1, got := [2], since := some 5 })] } }
    : State).now ∧
    ({ (setW live [(F.PT_GATE_CFG_GAP_TIMEOUT, [35], 1), (F.CPW_TIME_TIME, [], 1000005)]) with fwd := { live.fwd with gates := [((163, 143, 3), { base := 1, got := [2], since := some 5 })] } }
    : State).fwd.lostQ = [] ∧
    ({ (setW live [(F.PT_GATE_CFG_GAP_TIMEOUT, [35], 1), (F.CPW_TIME_TIME, [], 1000005)]) with fwd := { live.fwd with gates := [((163, 143, 3), { base := 1, got := [2], since := some 5 })] } }
    : State).fwd.held = [] ∧
    ({ (setW live [(F.PT_GATE_CFG_GAP_TIMEOUT, [35], 1), (F.CPW_TIME_TIME, [], 1000005)]) with fwd := { live.fwd with gates := [((163, 143, 3), { base := 1, got := [2], since := some 5 })] } }
    : State).gq 143 3 = []) ∧
    (({ (setW live [(F.LK_CFG_THRESHOLD, [0, 0, 4], 0)]) with fwd := { live.fwd with held := [(((0, 4, 1), 3), { pkt64 with seq := 3 })] } } :
    State).sealed = false ∧ 0 < 144 ∧
    ({ (setW live [(F.LK_CFG_THRESHOLD, [0, 0, 4], 0)]) with fwd := { live.fwd with held := [(((0, 4, 1), 3), { pkt64 with seq := 3 })] } } :
    State).sq 4 1 = [] ∧
    ({ (setW live [(F.LK_CFG_THRESHOLD, [0, 0, 4], 0)]) with fwd := { live.fwd with held := [(((0, 4, 1), 3), { pkt64 with seq := 3 })] } } :
    State).gq 4 1 = [] ∧
    ({ (setW live [(F.LK_CFG_THRESHOLD, [0, 0, 4], 0)]) with fwd := { live.fwd with held := [(((0, 4, 1), 3), { pkt64 with seq := 3 })] } } :
    State).heldOf (0, 4, 1) (3 : W16).toNat = some ({ pkt64 with seq := 3 } : Pkt) ∧
    ({ (setW live [(F.LK_CFG_THRESHOLD, [0, 0, 4], 0)]) with fwd := { live.fwd with held := [(((0, 4, 1), 3), { pkt64 with seq := 3 })] } } :
    State).mesh.pkts = [] ∧
    ({ (setW live [(F.LK_CFG_THRESHOLD, [0, 0, 4], 0)]) with fwd := { live.fwd with held := [(((0, 4, 1), 3), { pkt64 with seq := 3 })] } } :
    State).fwd.lostQ = [] ∧
    ({ (setW live [(F.LK_CFG_THRESHOLD, [0, 0, 4], 0)]) with fwd := { live.fwd with held := [(((0, 4, 1), 3), { pkt64 with seq := 3 })] } } :
    State).get F.LK_CFG_THRESHOLD [0, 0 / 4, 4] = 0 ∧
    ({ (setW live [(F.LK_CFG_THRESHOLD, [0, 0, 4], 0)]) with fwd := { live.fwd with held := [(((0, 4, 1), 3), { pkt64 with seq := 3 })] } } :
    State).escVec
    (({ (setW live [(F.LK_CFG_THRESHOLD, [0, 0, 4], 0)]) with fwd := { live.fwd with held := [(((0, 4, 1), 3), { pkt64 with seq := 3 })] } } :
    State).exitRouter (pktStn ({ pkt64 with seq := 3 } : Pkt)) ({ pkt64 with seq := 3 } : Pkt).egress) ({ pkt64 with seq := 3 } : Pkt).dest =
    false) ∧
    (({ (setW live [(F.PT_TRK_CFG_STALL, [1, 0], 1), (F.CPW_TIME_TIME, [], 1000005)]) with fwd := { live.fwd with stallAt := [(4, 5)], shq := [((4, 0), [{ pkt64 with sc := 0, kind := 2, body := .tlp { kind := .cpl } }])] } }
    : State).sealed = false ∧
    ({ (setW live [(F.PT_TRK_CFG_STALL, [1, 0], 1), (F.CPW_TIME_TIME, [], 1000005)]) with fwd := { live.fwd with stallAt := [(4, 5)], shq := [((4, 0), [{ pkt64 with sc := 0, kind := 2, body := .tlp { kind := .cpl } }])] } }
    : State).fwd.stallAt.look 4 = some 5 ∧ (∃ c < 4,
    ({ (setW live [(F.PT_TRK_CFG_STALL, [1, 0], 1), (F.CPW_TIME_TIME, [], 1000005)]) with fwd := { live.fwd with stallAt := [(4, 5)], shq := [((4, 0), [{ pkt64 with sc := 0, kind := 2, body := .tlp { kind := .cpl } }])] } }
    : State).sq 4 c ≠ []) ∧ 5 + min 1000 (max 1
    (({ (setW live [(F.PT_TRK_CFG_STALL, [1, 0], 1), (F.CPW_TIME_TIME, [], 1000005)]) with fwd := { live.fwd with stallAt := [(4, 5)], shq := [((4, 0), [{ pkt64 with sc := 0, kind := 2, body := .tlp { kind := .cpl } }])] } }
    : State).pget F.PT_TRK_CFG_STALL 4)) * 1000000 ≤
    ({ (setW live [(F.PT_TRK_CFG_STALL, [1, 0], 1), (F.CPW_TIME_TIME, [], 1000005)]) with fwd := { live.fwd with stallAt := [(4, 5)], shq := [((4, 0), [{ pkt64 with sc := 0, kind := 2, body := .tlp { kind := .cpl } }])] } }
    : State).now ∧
    ({ (setW live [(F.PT_TRK_CFG_STALL, [1, 0], 1), (F.CPW_TIME_TIME, [], 1000005)]) with fwd := { live.fwd with stallAt := [(4, 5)], shq := [((4, 0), [{ pkt64 with sc := 0, kind := 2, body := .tlp { kind := .cpl } }])] } }
    : State).pget F.PT_CONT_CONTAINED 4 = 0 ∧
    ({ (setW live [(F.PT_TRK_CFG_STALL, [1, 0], 1), (F.CPW_TIME_TIME, [], 1000005)]) with fwd := { live.fwd with stallAt := [(4, 5)], shq := [((4, 0), [{ pkt64 with sc := 0, kind := 2, body := .tlp { kind := .cpl } }])] } }
    : State).role 4 = 1 ∧
    ({ (setW live [(F.PT_TRK_CFG_STALL, [1, 0], 1), (F.CPW_TIME_TIME, [], 1000005)]) with fwd := { live.fwd with stallAt := [(4, 5)], shq := [((4, 0), [{ pkt64 with sc := 0, kind := 2, body := .tlp { kind := .cpl } }])] } }
    : State).fwd.tags = [] ∧
    ({ (setW live [(F.PT_TRK_CFG_STALL, [1, 0], 1), (F.CPW_TIME_TIME, [], 1000005)]) with fwd := { live.fwd with stallAt := [(4, 5)], shq := [((4, 0), [{ pkt64 with sc := 0, kind := 2, body := .tlp { kind := .cpl } }])] } }
    : State).fwd.lostQ = [] ∧ (∀ c < 4,
    (({ (setW live [(F.PT_TRK_CFG_STALL, [1, 0], 1), (F.CPW_TIME_TIME, [], 1000005)]) with fwd := { live.fwd with stallAt := [(4, 5)], shq := [((4, 0), [{ pkt64 with sc := 0, kind := 2, body := .tlp { kind := .cpl } }])] } }
    : State).sq 4 c).all (fun p => p.kind == 2) = true ∧
    ({ (setW live [(F.PT_TRK_CFG_STALL, [1, 0], 1), (F.CPW_TIME_TIME, [], 1000005)]) with fwd := { live.fwd with stallAt := [(4, 5)], shq := [((4, 0), [{ pkt64 with sc := 0, kind := 2, body := .tlp { kind := .cpl } }])] } }
    : State).gq 4 c = []) ∧
    ({ (setW live [(F.PT_TRK_CFG_STALL, [1, 0], 1), (F.CPW_TIME_TIME, [], 1000005)]) with fwd := { live.fwd with stallAt := [(4, 5)], shq := [((4, 0), [{ pkt64 with sc := 0, kind := 2, body := .tlp { kind := .cpl } }])] } }
    : State).fwd.held = [] ∧
    ({ (setW live [(F.PT_TRK_CFG_STALL, [1, 0], 1), (F.CPW_TIME_TIME, [], 1000005)]) with fwd := { live.fwd with stallAt := [(4, 5)], shq := [((4, 0), [{ pkt64 with sc := 0, kind := 2, body := .tlp { kind := .cpl } }])] } }
    : State).snap.boundTo 1 4 = some
    (({ (setW live [(F.PT_TRK_CFG_STALL, [1, 0], 1), (F.CPW_TIME_TIME, [], 1000005)]) with fwd := { live.fwd with stallAt := [(4, 5)], shq := [((4, 0), [{ pkt64 with sc := 0, kind := 2, body := .tlp { kind := .cpl } }])] } }
    : State).get F.VST_SLOT_VDSP [2, 1], 2, 1) ∧
    ({ (setW live [(F.PT_TRK_CFG_STALL, [1, 0], 1), (F.CPW_TIME_TIME, [], 1000005)]) with fwd := { live.fwd with stallAt := [(4, 5)], shq := [((4, 0), [{ pkt64 with sc := 0, kind := 2, body := .tlp { kind := .cpl } }])] } }
    : State).get F.VST_SLOT_KIND [2, 1] = 1 ∧
    ({ (setW live [(F.PT_TRK_CFG_STALL, [1, 0], 1), (F.CPW_TIME_TIME, [], 1000005)]) with fwd := { live.fwd with stallAt := [(4, 5)], shq := [((4, 0), [{ pkt64 with sc := 0, kind := 2, body := .tlp { kind := .cpl } }])] } }
    : State).get F.VST_SLOT_TARGET [2, 1] = 4 ∧
    ({ (setW live [(F.PT_TRK_CFG_STALL, [1, 0], 1), (F.CPW_TIME_TIME, [], 1000005)]) with fwd := { live.fwd with stallAt := [(4, 5)], shq := [((4, 0), [{ pkt64 with sc := 0, kind := 2, body := .tlp { kind := .cpl } }])] } }
    : State).contained 2 1 = false ∧
    ({ (setW live [(F.PT_TRK_CFG_STALL, [1, 0], 1), (F.CPW_TIME_TIME, [], 1000005)]) with fwd := { live.fwd with stallAt := [(4, 5)], shq := [((4, 0), [{ pkt64 with sc := 0, kind := 2, body := .tlp { kind := .cpl } }])] } }
    : State).fwd.ingq = []) ∧
    (({ (setW live [(F.PT_TRK_CFG_STALL, [1, 0], 1), (F.CPW_TIME_TIME, [], 1000004)]) with fwd := { live.fwd with stallAt := [(4, 5)] } } :
    State).sealed = false ∧
    ({ (setW live [(F.PT_TRK_CFG_STALL, [1, 0], 1), (F.CPW_TIME_TIME, [], 1000004)]) with fwd := { live.fwd with stallAt := [(4, 5)] } } :
    State).fwd.stallAt.look 4 = some 5 ∧
    ({ (setW live [(F.PT_TRK_CFG_STALL, [1, 0], 1), (F.CPW_TIME_TIME, [], 1000004)]) with fwd := { live.fwd with stallAt := [(4, 5)] } } :
    State).now < 5 + min 1000 (max 1
    (({ (setW live [(F.PT_TRK_CFG_STALL, [1, 0], 1), (F.CPW_TIME_TIME, [], 1000004)]) with fwd := { live.fwd with stallAt := [(4, 5)] } } :
    State).pget F.PT_TRK_CFG_STALL 4)) * 1000000) ∧
    (({ (setW live [(F.VST_CONT_CONTAINED, [2, 1], 1), (F.VST_SLOT_CONTAINED, [2, 1], 1), (F.PT_CONT_C_VDSP, [1, 0], 1), (F.PP_STAT_LINK_STATE, [1, 0], 9)]) with fwd := { live.fwd with releasing := [7] } }
    : State).sealed = false ∧
    ({ (setW live [(F.VST_CONT_CONTAINED, [2, 1], 1), (F.VST_SLOT_CONTAINED, [2, 1], 1), (F.PT_CONT_C_VDSP, [1, 0], 1), (F.PP_STAT_LINK_STATE, [1, 0], 9)]) with fwd := { live.fwd with releasing := [7] } }
    : State).slotOfVdsp 7 = some (2, 1) ∧ 7 ∈
    ({ (setW live [(F.VST_CONT_CONTAINED, [2, 1], 1), (F.VST_SLOT_CONTAINED, [2, 1], 1), (F.PT_CONT_C_VDSP, [1, 0], 1), (F.PP_STAT_LINK_STATE, [1, 0], 9)]) with fwd := { live.fwd with releasing := [7] } }
    : State).fwd.releasing ∧
    ({ (setW live [(F.VST_CONT_CONTAINED, [2, 1], 1), (F.VST_SLOT_CONTAINED, [2, 1], 1), (F.PT_CONT_C_VDSP, [1, 0], 1), (F.PP_STAT_LINK_STATE, [1, 0], 9)]) with fwd := { live.fwd with releasing := [7] } }
    : State).vdspBusy 7 = false ∧
    ({ (setW live [(F.VST_CONT_CONTAINED, [2, 1], 1), (F.VST_SLOT_CONTAINED, [2, 1], 1), (F.PT_CONT_C_VDSP, [1, 0], 1), (F.PP_STAT_LINK_STATE, [1, 0], 9)]) with fwd := { live.fwd with releasing := [7] } }
    : State).get F.VST_SLOT_KIND [2, 1] = 1 ∧
    ({ (setW live [(F.VST_CONT_CONTAINED, [2, 1], 1), (F.VST_SLOT_CONTAINED, [2, 1], 1), (F.PT_CONT_C_VDSP, [1, 0], 1), (F.PP_STAT_LINK_STATE, [1, 0], 9)]) with fwd := { live.fwd with releasing := [7] } }
    : State).get F.VST_SLOT_TARGET [2, 1] < 144 ∧
    ({ (setW live [(F.VST_CONT_CONTAINED, [2, 1], 1), (F.VST_SLOT_CONTAINED, [2, 1], 1), (F.PT_CONT_C_VDSP, [1, 0], 1), (F.PP_STAT_LINK_STATE, [1, 0], 9)]) with fwd := { live.fwd with releasing := [7] } }
    : State).fwd.bindWait = []) ∧
    (({ (setW live [(F.LK_CFG_THRESHOLD, [0, 0, 5], 0)]) with fwd := { live.fwd with trk := [((0, 16383), ent64)] } } : State).sealed = false ∧
    ({ (setW live [(F.LK_CFG_THRESHOLD, [0, 0, 5], 0)]) with fwd := { live.fwd with trk := [((0, 16383), ent64)] } } : State).trkOf 0 16383 =
    some ent64 ∧ 0 < 36 ∧ ({ (setW live [(F.LK_CFG_THRESHOLD, [0, 0, 5], 0)]) with fwd := { live.fwd with trk := [((0, 16383), ent64)] } } :
    State).get F.LK_CFG_THRESHOLD [0, 0, 5] = 0) ∧
    (({ live with mesh := { inbox := [(35, [.trkLoss 0 5])] }, fwd := { live.fwd with tags := [((140, 0x101), .live 0 5)] } } : State).sealed =
    false ∧ ({ live with mesh := { inbox := [(35, [.trkLoss 0 5])] }, fwd := { live.fwd with tags := [((140, 0x101), .live 0 5)] } } :
    State).mesh.inbox.lookD 35 [] = [.trkLoss 0 5] ∧
    ({ live with mesh := { inbox := [(35, [.trkLoss 0 5])] }, fwd := { live.fwd with tags := [((140, 0x101), .live 0 5)] } } : State).fwd.tags =
    [((4 * 35, (0x101 : Nat)), .live 0 5)]) := by
  and_intros <;> first | decide +kernel | rfl | exact BitVec.isLt _ | exact Nat.zero_le _

/-! ### leases swaps and shaper ticks -/

theorem test_leases_swaps_and_shaper_ticks_hypotheses :
    (({ (setW live [(F.PT_FWD_CTL_TAG_MODE, [35, 3], 1)]) with mesh := { inbox := [(35, [.leaseReq 35 143])] } } : State).sealed = false ∧
    ({ (setW live [(F.PT_FWD_CTL_TAG_MODE, [35, 3], 1)]) with mesh := { inbox := [(35, [.leaseReq 35 143])] } } : State).mesh.inbox.lookD 35 []
    = [.leaseReq 35 143] ∧ 143 < 144 ∧ ([0, 1, 2, 3] : List Nat) =
    ({ (setW live [(F.PT_FWD_CTL_TAG_MODE, [35, 3], 1)]) with mesh := { inbox := [(35, [.leaseReq 35 143])] } } : State).poolTags 143
    (({ (setW live [(F.PT_FWD_CTL_TAG_MODE, [35, 3], 1)]) with mesh := { inbox := [(35, [.leaseReq 35 143])] } } : State).tagRange 143).2.1
    (({ (setW live [(F.PT_FWD_CTL_TAG_MODE, [35, 3], 1)]) with mesh := { inbox := [(35, [.leaseReq 35 143])] } } : State).tagRange 143).1
    (({ (setW live [(F.PT_FWD_CTL_TAG_MODE, [35, 3], 1)]) with mesh := { inbox := [(35, [.leaseReq 35 143])] } } : State).tagRange 143).2.2 ∧
    ([0, 1, 2, 3] : List Nat) ≠ []) ∧ (({ live with mesh := { inbox := [(35, [.leaseReq 35 143])] } } : State).sealed = false ∧
    ({ live with mesh := { inbox := [(35, [.leaseReq 35 143])] } } : State).mesh.inbox.lookD 35 [] = [.leaseReq 35 143] ∧
    ({ live with mesh := { inbox := [(35, [.leaseReq 35 143])] } } : State).poolTags 143
    (({ live with mesh := { inbox := [(35, [.leaseReq 35 143])] } } : State).tagRange 143).2.1
    (({ live with mesh := { inbox := [(35, [.leaseReq 35 143])] } } : State).tagRange 143).1
    (({ live with mesh := { inbox := [(35, [.leaseReq 35 143])] } } : State).tagRange 143).2.2 = []) ∧
    (({ live with mesh := { inbox := [(79, [.leaseGrant 143 [7, 8]])] }, fwd := { live.fwd with leaseAsk := [(79, 143)] } } : State).sealed =
    false ∧ ({ live with mesh := { inbox := [(79, [.leaseGrant 143 [7, 8]])] }, fwd := { live.fwd with leaseAsk := [(79, 143)] } } :
    State).mesh.inbox.lookD 79 [] = [.leaseGrant 143 ([7, 8] : List Nat)] ∧ 143 < 144) ∧
    (({ (setW live [(F.PT_FWD_CTL_TAG_MODE, [35, 3], 1), (F.CPW_TIME_TIME, [], 100005)]) with fwd := { live.fwd with leases := [((35, 143), [0, 1, 2, 3])], leaseIdle := [((35, 143), 5)] } }
    : State).sealed = false ∧
    ({ (setW live [(F.PT_FWD_CTL_TAG_MODE, [35, 3], 1), (F.CPW_TIME_TIME, [], 100005)]) with fwd := { live.fwd with leases := [((35, 143), [0, 1, 2, 3])], leaseIdle := [((35, 143), 5)] } }
    : State).fwd.leaseIdle.lookD (35, 143)
    ({ (setW live [(F.PT_FWD_CTL_TAG_MODE, [35, 3], 1), (F.CPW_TIME_TIME, [], 100005)]) with fwd := { live.fwd with leases := [((35, 143), [0, 1, 2, 3])], leaseIdle := [((35, 143), 5)] } }
    : State).now = 5 ∧ 5 + 100000 ≤
    ({ (setW live [(F.PT_FWD_CTL_TAG_MODE, [35, 3], 1), (F.CPW_TIME_TIME, [], 100005)]) with fwd := { live.fwd with leases := [((35, 143), [0, 1, 2, 3])], leaseIdle := [((35, 143), 5)] } }
    : State).now ∧ 0 <
    (({ (setW live [(F.PT_FWD_CTL_TAG_MODE, [35, 3], 1), (F.CPW_TIME_TIME, [], 100005)]) with fwd := { live.fwd with leases := [((35, 143), [0, 1, 2, 3])], leaseIdle := [((35, 143), 5)] } }
    : State).tagRange 143).2.2 ∧
    (({ (setW live [(F.PT_FWD_CTL_TAG_MODE, [35, 3], 1), (F.CPW_TIME_TIME, [], 100005)]) with fwd := { live.fwd with leases := [((35, 143), [0, 1, 2, 3])], leaseIdle := [((35, 143), 5)] } }
    : State).tagRange 143).2.2 ≤
    (({ (setW live [(F.PT_FWD_CTL_TAG_MODE, [35, 3], 1), (F.CPW_TIME_TIME, [], 100005)]) with fwd := { live.fwd with leases := [((35, 143), [0, 1, 2, 3])], leaseIdle := [((35, 143), 5)] } }
    : State).leaseOf 35 143).length) ∧
    (({ (setW live [(F.PT_FWD_CTL_TAG_MODE, [35, 3], 1), (F.CPW_TIME_TIME, [], 100004)]) with fwd := { live.fwd with leases := [((35, 143), [0, 1, 2, 3])], leaseIdle := [((35, 143), 5)] } }
    : State).sealed = false ∧
    ({ (setW live [(F.PT_FWD_CTL_TAG_MODE, [35, 3], 1), (F.CPW_TIME_TIME, [], 100004)]) with fwd := { live.fwd with leases := [((35, 143), [0, 1, 2, 3])], leaseIdle := [((35, 143), 5)] } }
    : State).now <
    ({ (setW live [(F.PT_FWD_CTL_TAG_MODE, [35, 3], 1), (F.CPW_TIME_TIME, [], 100004)]) with fwd := { live.fwd with leases := [((35, 143), [0, 1, 2, 3])], leaseIdle := [((35, 143), 5)] } }
    : State).fwd.leaseIdle.lookD (35, 143)
    ({ (setW live [(F.PT_FWD_CTL_TAG_MODE, [35, 3], 1), (F.CPW_TIME_TIME, [], 100004)]) with fwd := { live.fwd with leases := [((35, 143), [0, 1, 2, 3])], leaseIdle := [((35, 143), 5)] } }
    : State).now + 100000) ∧ (({ live with mesh := { inbox := [(76, [.swap .gate 1])] } } : State).sealed = false ∧
    ({ live with mesh := { inbox := [(76, [.swap .gate 1])] } } : State).mesh.inbox.lookD 76 [] = [.swap .gate 1]) ∧
    (({ live with mesh := { inbox := [(35, [.swap .fwd 1])] } } : State).sealed = false ∧
    ({ live with mesh := { inbox := [(35, [.swap .fwd 1])] } } : State).mesh.inbox.lookD 35 [] = [.swap .fwd 1] ∧ 35 < 36 ∧ 1 < 2 ^ 32) ∧
    (({ (setW live [(F.SH_CFG_EN, [585], 1), (F.SH_CFG_ECHO_EN, [585], 1), (F.SH_STAT_RATE_CUR, [585], 1000)]) with mesh := { inbox := [(0, [.echo 0 4 1 3 1])] } }
    : State).sealed = false ∧
    ({ (setW live [(F.SH_CFG_EN, [585], 1), (F.SH_CFG_ECHO_EN, [585], 1), (F.SH_STAT_RATE_CUR, [585], 1000)]) with mesh := { inbox := [(0, [.echo 0 4 1 3 1])] } }
    : State).mesh.inbox.lookD 0 [] = [.echo 0 4 1 3 1] ∧
    ({ (setW live [(F.SH_CFG_EN, [585], 1), (F.SH_CFG_ECHO_EN, [585], 1), (F.SH_STAT_RATE_CUR, [585], 1000)]) with mesh := { inbox := [(0, [.echo 0 4 1 3 1])] } }
    : State).role 0 = 0 ∧ 0 < 144 ∧
    ({ (setW live [(F.SH_CFG_EN, [585], 1), (F.SH_CFG_ECHO_EN, [585], 1), (F.SH_STAT_RATE_CUR, [585], 1000)]) with mesh := { inbox := [(0, [.echo 0 4 1 3 1])] } }
    : State).isTrunk 0 = false ∧
    ({ (setW live [(F.SH_CFG_EN, [585], 1), (F.SH_CFG_ECHO_EN, [585], 1), (F.SH_STAT_RATE_CUR, [585], 1000)]) with mesh := { inbox := [(0, [.echo 0 4 1 3 1])] } }
    : State).vsOfPort 0 = some 2 ∧
    ({ (setW live [(F.SH_CFG_EN, [585], 1), (F.SH_CFG_ECHO_EN, [585], 1), (F.SH_STAT_RATE_CUR, [585], 1000)]) with mesh := { inbox := [(0, [.echo 0 4 1 3 1])] } }
    : State).shTakes (576 + 4 * 2 + 1) = true ∧
    ({ (setW live [(F.SH_CFG_EN, [585], 1), (F.SH_CFG_ECHO_EN, [585], 1), (F.SH_STAT_RATE_CUR, [585], 1000)]) with mesh := { inbox := [(0, [.echo 0 4 1 3 1])] } }
    : State).shOpen (576 + 4 * 2 + 1) = true ∧
    ({ (setW live [(F.SH_CFG_EN, [585], 1), (F.SH_CFG_ECHO_EN, [585], 1), (F.SH_STAT_RATE_CUR, [585], 1000)]) with mesh := { inbox := [(0, [.echo 0 4 1 3 1])] } }
    : State).shDecreased (576 + 4 * 2 + 1) < 2 ^ F.SH_STAT_RATE_CUR.w) ∧
    (({ (setW live [(F.SH_CFG_EN, [585], 1), (F.SH_CFG_ECHO_EN, [585], 1), (F.SH_STAT_RATE_CUR, [585], 1000)]) with mesh := { inbox := [(0, [.echo 0 4 1 3 1])] }, shp := [(585, { credit := 0, at_ := 0, lastDec := some 0 })] }
    : State).sealed = false ∧
    ({ (setW live [(F.SH_CFG_EN, [585], 1), (F.SH_CFG_ECHO_EN, [585], 1), (F.SH_STAT_RATE_CUR, [585], 1000)]) with mesh := { inbox := [(0, [.echo 0 4 1 3 1])] }, shp := [(585, { credit := 0, at_ := 0, lastDec := some 0 })] }
    : State).mesh.inbox.lookD 0 [] = [.echo 0 4 1 3 1] ∧
    ({ (setW live [(F.SH_CFG_EN, [585], 1), (F.SH_CFG_ECHO_EN, [585], 1), (F.SH_STAT_RATE_CUR, [585], 1000)]) with mesh := { inbox := [(0, [.echo 0 4 1 3 1])] }, shp := [(585, { credit := 0, at_ := 0, lastDec := some 0 })] }
    : State).role 0 = 0 ∧ 0 < 144 ∧
    ({ (setW live [(F.SH_CFG_EN, [585], 1), (F.SH_CFG_ECHO_EN, [585], 1), (F.SH_STAT_RATE_CUR, [585], 1000)]) with mesh := { inbox := [(0, [.echo 0 4 1 3 1])] }, shp := [(585, { credit := 0, at_ := 0, lastDec := some 0 })] }
    : State).isTrunk 0 = false ∧
    ({ (setW live [(F.SH_CFG_EN, [585], 1), (F.SH_CFG_ECHO_EN, [585], 1), (F.SH_STAT_RATE_CUR, [585], 1000)]) with mesh := { inbox := [(0, [.echo 0 4 1 3 1])] }, shp := [(585, { credit := 0, at_ := 0, lastDec := some 0 })] }
    : State).vsOfPort 0 = some 2 ∧
    ({ (setW live [(F.SH_CFG_EN, [585], 1), (F.SH_CFG_ECHO_EN, [585], 1), (F.SH_STAT_RATE_CUR, [585], 1000)]) with mesh := { inbox := [(0, [.echo 0 4 1 3 1])] }, shp := [(585, { credit := 0, at_ := 0, lastDec := some 0 })] }
    : State).shTakes (576 + 4 * 2 + 1) = true ∧
    ({ (setW live [(F.SH_CFG_EN, [585], 1), (F.SH_CFG_ECHO_EN, [585], 1), (F.SH_STAT_RATE_CUR, [585], 1000)]) with mesh := { inbox := [(0, [.echo 0 4 1 3 1])] }, shp := [(585, { credit := 0, at_ := 0, lastDec := some 0 })] }
    : State).shOpen (576 + 4 * 2 + 1) = false) ∧
    (({ (setW live [(F.SH_CFG_EN, [1839], 1), (F.SH_CFG_RATE, [1839], 5000), (F.SH_STAT_RATE_CUR, [1839], 1000), (F.CPW_TIME_TIME, [], 1000000000)]) with shp := [(1839, { credit := 0, at_ := 0 })] }
    : State).sealed = false ∧
    ({ (setW live [(F.SH_CFG_EN, [1839], 1), (F.SH_CFG_RATE, [1839], 5000), (F.SH_STAT_RATE_CUR, [1839], 1000), (F.CPW_TIME_TIME, [], 1000000000)]) with shp := [(1839, { credit := 0, at_ := 0 })] }
    : State).shEn 1839 = true ∧
    (({ (setW live [(F.SH_CFG_EN, [1839], 1), (F.SH_CFG_RATE, [1839], 5000), (F.SH_STAT_RATE_CUR, [1839], 1000), (F.CPW_TIME_TIME, [], 1000000000)]) with shp := [(1839, { credit := 0, at_ := 0 })] }
    : State).sh 1839).ivStart +
    ({ (setW live [(F.SH_CFG_EN, [1839], 1), (F.SH_CFG_RATE, [1839], 5000), (F.SH_STAT_RATE_CUR, [1839], 1000), (F.CPW_TIME_TIME, [], 1000000000)]) with shp := [(1839, { credit := 0, at_ := 0 })] }
    : State).shHold 1839 ≤
    ({ (setW live [(F.SH_CFG_EN, [1839], 1), (F.SH_CFG_RATE, [1839], 5000), (F.SH_STAT_RATE_CUR, [1839], 1000), (F.CPW_TIME_TIME, [], 1000000000)]) with shp := [(1839, { credit := 0, at_ := 0 })] }
    : State).now ∧
    (({ (setW live [(F.SH_CFG_EN, [1839], 1), (F.SH_CFG_RATE, [1839], 5000), (F.SH_STAT_RATE_CUR, [1839], 1000), (F.CPW_TIME_TIME, [], 1000000000)]) with shp := [(1839, { credit := 0, at_ := 0 })] }
    : State).sh 1839).ivEcho = false ∧
    ({ (setW live [(F.SH_CFG_EN, [1839], 1), (F.SH_CFG_RATE, [1839], 5000), (F.SH_STAT_RATE_CUR, [1839], 1000), (F.CPW_TIME_TIME, [], 1000000000)]) with shp := [(1839, { credit := 0, at_ := 0 })] }
    : State).get F.SH_STAT_RATE_CUR [1839] +
    ({ (setW live [(F.SH_CFG_EN, [1839], 1), (F.SH_CFG_RATE, [1839], 5000), (F.SH_STAT_RATE_CUR, [1839], 1000), (F.CPW_TIME_TIME, [], 1000000000)]) with shp := [(1839, { credit := 0, at_ := 0 })] }
    : State).shAi 1839 ≤
    ({ (setW live [(F.SH_CFG_EN, [1839], 1), (F.SH_CFG_RATE, [1839], 5000), (F.SH_STAT_RATE_CUR, [1839], 1000), (F.CPW_TIME_TIME, [], 1000000000)]) with shp := [(1839, { credit := 0, at_ := 0 })] }
    : State).shRate 1839 ∧
    ({ (setW live [(F.SH_CFG_EN, [1839], 1), (F.SH_CFG_RATE, [1839], 5000), (F.SH_STAT_RATE_CUR, [1839], 1000), (F.CPW_TIME_TIME, [], 1000000000)]) with shp := [(1839, { credit := 0, at_ := 0 })] }
    : State).shRate 1839 < 2 ^ F.SH_STAT_RATE_CUR.w) ∧
    (({ (setW live [(F.SH_CFG_EN, [1839], 1), (F.SH_STAT_RATE_CUR, [1839], 1000), (F.CPW_TIME_TIME, [], 1000000000)]) with shp := [(1839, { credit := 0, at_ := 0, ivEcho := true })] }
    : State).sealed = false ∧
    ({ (setW live [(F.SH_CFG_EN, [1839], 1), (F.SH_STAT_RATE_CUR, [1839], 1000), (F.CPW_TIME_TIME, [], 1000000000)]) with shp := [(1839, { credit := 0, at_ := 0, ivEcho := true })] }
    : State).shEn 1839 = true ∧
    (({ (setW live [(F.SH_CFG_EN, [1839], 1), (F.SH_STAT_RATE_CUR, [1839], 1000), (F.CPW_TIME_TIME, [], 1000000000)]) with shp := [(1839, { credit := 0, at_ := 0, ivEcho := true })] }
    : State).sh 1839).ivStart +
    ({ (setW live [(F.SH_CFG_EN, [1839], 1), (F.SH_STAT_RATE_CUR, [1839], 1000), (F.CPW_TIME_TIME, [], 1000000000)]) with shp := [(1839, { credit := 0, at_ := 0, ivEcho := true })] }
    : State).shHold 1839 ≤
    ({ (setW live [(F.SH_CFG_EN, [1839], 1), (F.SH_STAT_RATE_CUR, [1839], 1000), (F.CPW_TIME_TIME, [], 1000000000)]) with shp := [(1839, { credit := 0, at_ := 0, ivEcho := true })] }
    : State).now ∧
    (({ (setW live [(F.SH_CFG_EN, [1839], 1), (F.SH_STAT_RATE_CUR, [1839], 1000), (F.CPW_TIME_TIME, [], 1000000000)]) with shp := [(1839, { credit := 0, at_ := 0, ivEcho := true })] }
    : State).sh 1839).ivEcho = true) ∧ (((setW live [(F.SH_CFG_EN, [1839], 1)]) : State).sealed = false ∧ ((setW live [(F.SH_CFG_EN, [1839],
    1)]) : State).now < (((setW live [(F.SH_CFG_EN, [1839], 1)]) : State).sh 1839).ivStart + ((setW live [(F.SH_CFG_EN, [1839], 1)]) :
    State).shHold 1839) ∧ (({ (setW live [(F.CPW_TIME_TIME, [], 1000)]) with shp := [(1839, { credit := 0, at_ := 0, winBytes := 55 })] } :
    State).sealed = false ∧ (({ (setW live [(F.CPW_TIME_TIME, [], 1000)]) with shp := [(1839, { credit := 0, at_ := 0, winBytes := 55 })] } :
    State).sh 1839).winStart + 1000 ≤
    ({ (setW live [(F.CPW_TIME_TIME, [], 1000)]) with shp := [(1839, { credit := 0, at_ := 0, winBytes := 55 })] } : State).now) ∧ (((setW live
    [(F.CPW_TIME_TIME, [], 999)]) : State).sealed = false ∧ ((setW live [(F.CPW_TIME_TIME, [], 999)]) : State).now < (((setW live
    [(F.CPW_TIME_TIME, [], 999)]) : State).sh 1839).winStart + 1000) := by
  and_intros <;> first | decide +kernel | rfl | exact BitVec.isLt _ | exact Nat.zero_le _

/-! ### flits credits and links of the mesh -/

theorem test_flits_credits_and_links_of_the_mesh_hypotheses :
    (({ live with mesh := { pkts := [(5, { pkt64 with dest := 95 })], fifos := [(⟨1, 3, false, 2⟩, [⟨5, 0, false⟩, ⟨5, 1, true⟩])] } } :
    State).sealed = false ∧
    ({ live with mesh := { pkts := [(5, { pkt64 with dest := 95 })], fifos := [(⟨1, 3, false, 2⟩, [⟨5, 0, false⟩, ⟨5, 1, true⟩])] } } :
    State).rtrOk 1 = true ∧
    ({ live with mesh := { pkts := [(5, { pkt64 with dest := 95 })], fifos := [(⟨1, 3, false, 2⟩, [⟨5, 0, false⟩, ⟨5, 1, true⟩])] } } :
    State).requesters
    ({ live with mesh := { pkts := [(5, { pkt64 with dest := 95 })], fifos := [(⟨1, 3, false, 2⟩, [⟨5, 0, false⟩, ⟨5, 1, true⟩])] } } :
    State).gateRoom 1 false 1 = [(((3, 2) : Nat × Nat), (⟨5, 0, false⟩ : Flit), ({ pkt64 with dest := 95 } : Pkt))] ∧
    (({ live with mesh := { pkts := [(5, { pkt64 with dest := 95 })], fifos := [(⟨1, 3, false, 2⟩, [⟨5, 0, false⟩, ⟨5, 1, true⟩])] } } :
    State).mesh.outs.lookD (1, 1, false) {}).holder = none ∧ outChan 1 1 false ((3, 2) : Nat × Nat).2 = some (⟨2, 3, false, 2⟩ : VcId) ∧ ((3, 2)
    : Nat × Nat).1 < 4) ∧ (({ live with mesh := { pkts := [(5, pkt64)], fifos := [(⟨1, 3, false, 2⟩, [⟨5, 1, true⟩])] } } : State).sealed =
    false ∧ ({ live with mesh := { pkts := [(5, pkt64)], fifos := [(⟨1, 3, false, 2⟩, [⟨5, 1, true⟩])] } } : State).rtrOk 1 = true ∧
    ({ live with mesh := { pkts := [(5, pkt64)], fifos := [(⟨1, 3, false, 2⟩, [⟨5, 1, true⟩])] } } : State).requesters
    ({ live with mesh := { pkts := [(5, pkt64)], fifos := [(⟨1, 3, false, 2⟩, [⟨5, 1, true⟩])] } } : State).gateRoom 1 false 4 = [(((3, 2) : Nat
    × Nat), (⟨5, 1, true⟩ : Flit), pkt64)] ∧ (({ live with mesh := { pkts := [(5, pkt64)], fifos := [(⟨1, 3, false, 2⟩, [⟨5, 1, true⟩])] } } :
    State).mesh.outs.lookD (1, 4, false) {}).holder = none ∧ ((3, 2) : Nat × Nat).1 < 4 ∧ (⟨5, 1, true⟩ : Flit).tail = true) ∧
    (({ live with mesh := { pkts := [(5, { pkt64 with dest := 95 })], fifos := [(⟨1, 4, false, 2⟩, [⟨5, 0, true⟩])] } } : State).sealed = false
    ∧ ({ live with mesh := { pkts := [(5, { pkt64 with dest := 95 })], fifos := [(⟨1, 4, false, 2⟩, [⟨5, 0, true⟩])] } } : State).rtrOk 1 = true
    ∧ ({ live with mesh := { pkts := [(5, { pkt64 with dest := 95 })], fifos := [(⟨1, 4, false, 2⟩, [⟨5, 0, true⟩])] } } : State).requesters
    ({ live with mesh := { pkts := [(5, { pkt64 with dest := 95 })], fifos := [(⟨1, 4, false, 2⟩, [⟨5, 0, true⟩])] } } : State).gateRoom 1 false
    1 = [(((4, 2) : Nat × Nat), (⟨5, 0, true⟩ : Flit), ({ pkt64 with dest := 95 } : Pkt))] ∧
    (({ live with mesh := { pkts := [(5, { pkt64 with dest := 95 })], fifos := [(⟨1, 4, false, 2⟩, [⟨5, 0, true⟩])] } } : State).mesh.outs.lookD
    (1, 1, false) {}).holder = none ∧ ((4, 2) : Nat × Nat).1 = 4 ∧ (⟨5, 0, true⟩ : Flit).idx = 0) ∧
    (({ live with mesh := { owed := [(⟨2, 3, false, 9⟩, 8)], cred := [(⟨2, 3, false, 9⟩, 0)] } } : State).sealed = false ∧ outChan 1 1 false 9 =
    some (⟨2, 3, false, 9⟩ : VcId) ∧ 0 < ({ live with mesh := { owed := [(⟨2, 3, false, 9⟩, 8)], cred := [(⟨2, 3, false, 9⟩, 0)] } } :
    State).mesh.owed.lookD (⟨2, 3, false, 9⟩ : VcId) 0) ∧ (live.sealed = false ∧ outChan 1 1 true 4 = some (⟨2, 3, true, 4⟩ : VcId) ∧
    live.mesh.owed.lookD (⟨2, 3, true, 4⟩ : VcId) 0 = 0) ∧
    (({ (setW live [(F.RTR_ARB_STARVE, [95], 3)]) with mesh := { waits := [((95, 4, true, 3, 4), 16)] } } : State).sealed = false ∧ max 16
    (({ (setW live [(F.RTR_ARB_STARVE, [95], 3)]) with mesh := { waits := [((95, 4, true, 3, 4), 16)] } } : State).get F.RTR_ARB_STARVE [95]) ≤
    ({ (setW live [(F.RTR_ARB_STARVE, [95], 3)]) with mesh := { waits := [((95, 4, true, 3, 4), 16)] } } : State).mesh.waits.lookD (95, 4, true,
    3, 4) 0 ∧ (3, 4) ∉ (({ (setW live [(F.RTR_ARB_STARVE, [95], 3)]) with mesh := { waits := [((95, 4, true, 3, 4), 16)] } } :
    State).mesh.outs.lookD (95, 4, true) {}).pend) ∧ (((setW live [(F.CPW_TIME_TIME, [], 77)]) : State).sealed = false) ∧ (((setW live
    [(F.RTR_LINK_WEST, [95], 1), (F.RTR_LINK_EAST, [94], 1)]) : State).sealed = false ∧ neighbour 95 3 = some 94 ∧ ((setW live
    [(F.RTR_LINK_WEST, [95], 1), (F.RTR_LINK_EAST, [94], 1)]) : State).linkState 95 3 = 1 ∧ (1, 4 * 95 + 3) ∉ ((setW live [(F.RTR_LINK_WEST,
    [95], 1), (F.RTR_LINK_EAST, [94], 1)]) : State).flt.failed) ∧ (((setW live [(F.RTR_LINK_WEST, [95], 2)]) : State).sealed = false ∧ ((setW
    live [(F.RTR_LINK_WEST, [95], 2)]) : State).linkState 95 3 ≠ 1) ∧ (((setW live [(F.RTR_LINK_WEST, [95], 1), (F.RTR_LINK_EAST, [94], 1)]) :
    State).sealed = false ∧ neighbour 95 3 = some 94 ∧ ((setW live [(F.RTR_LINK_WEST, [95], 1), (F.RTR_LINK_EAST, [94], 1)]) : State).linkState
    95 3 = 1 ∧ (1, 4 * 95 + 3) ∉ ((setW live [(F.RTR_LINK_WEST, [95], 1), (F.RTR_LINK_EAST, [94], 1)]) : State).flt.failed) ∧ (((setW live
    [(F.RTR_LINK_WEST, [95], 1), (F.RTR_LINK_EAST, [94], 1)]) : State).sealed = false ∧ ((setW live [(F.RTR_LINK_WEST, [95], 1),
    (F.RTR_LINK_EAST, [94], 1)]) : State).get F.RTR_CTL_FAILED [95] = 0 ∧ (0, 95) ∉ ((setW live [(F.RTR_LINK_WEST, [95], 1), (F.RTR_LINK_EAST,
    [94], 1)]) : State).flt.failed) := by
  and_intros <;> first | decide +kernel | rfl | exact BitVec.isLt _ | exact Nat.zero_le _

/-! ### router control and escape tables -/

theorem test_router_control_and_escape_tables_hypotheses :
    (up.granted (.owner : Init) true ⟨.RTR_CTL, [95]⟩ 4) ∧ (((setW up [(F.RTR_CNT_COUNT, [95, 15], 7)]) : State).granted (.core 0 : Init) true
    ⟨.RTR_CTL, [95]⟩ 4) ∧ (up.granted (.core 0 : Init) true ⟨.RTR_CTL, [95]⟩ 4) ∧ (up.granted (.core 0 : Init) true ⟨.RTR_ESC_TBL, [95, 1, 95]⟩
    4 ∧ up.get F.RTR_ESC_CTL_ACTIVE [95] ≠ 1) ∧ (up.granted (.core 0 : Init) true ⟨.RTR_ESCV, [95, 1, 0]⟩ 8 ∧ up.get F.RTR_ESC_CTL_ACTIVE [95] ≠
    1) ∧ (up.granted (.core 0 : Init) true ⟨.RTR_ESC_TBL, [95, 0, 95]⟩ 4 ∧ up.get F.RTR_ESC_CTL_ACTIVE [95] = 0) ∧ (((setW up
    [(F.RTR_ESC_CTL_FREEZE, [95], 1)]) : State).granted (.core 0 : Init) true ⟨.RTR_ESC_CTL, [95]⟩ 4 ∧ ((setW up [(F.RTR_ESC_CTL_FREEZE, [95],
    1)]) : State).mesh.injq = [] ∧ ((setW up [(F.RTR_ESC_CTL_FREEZE, [95], 1)]) : State).fwd.held = [] ∧ ((setW up [(F.RTR_ESC_CTL_FREEZE, [95],
    1)]) : State).fwd.lostQ = []) ∧ (((setW up [(F.RTR_ESC_CTL_ESC_EMPTY, [95], 0)]) : State).sealed = false ∧ ((setW up
    [(F.RTR_ESC_CTL_ESC_EMPTY, [95], 0)]) : State).escFlits 95 = false) ∧
    (({ up with mesh := { fifos := [(⟨95, 4, false, 8⟩, [⟨5, 0, true⟩])] } } : State).sealed = false ∧
    ({ up with mesh := { fifos := [(⟨95, 4, false, 8⟩, [⟨5, 0, true⟩])] } } : State).escFlits 95 = true) ∧ (((setW up [(F.RTR_ESC_CTL_FREEZE,
    [95], 1), (F.RTR_ESC_CTL_ESC_EMPTY, [95], 1)]) : State).granted (.core 0 : Init) true ⟨.RTR_ESC_CTL, [95]⟩ 4 ∧ ((setW up
    [(F.RTR_ESC_CTL_FREEZE, [95], 1), (F.RTR_ESC_CTL_ESC_EMPTY, [95], 1)]) : State).get F.RTR_ESC_CTL_FREEZE [95] = 1 ∧ ((setW up
    [(F.RTR_ESC_CTL_FREEZE, [95], 1), (F.RTR_ESC_CTL_ESC_EMPTY, [95], 1)]) : State).get F.RTR_ESC_CTL_ESC_EMPTY [95] = 1) ∧ (((setW up
    [(F.RTR_ESC_CTL_FREEZE, [95], 0), (F.RTR_ESC_CTL_ESC_EMPTY, [95], 1)]) : State).granted (.core 0 : Init) true ⟨.RTR_ESC_CTL, [95]⟩ 4 ∧
    ((((setW up [(F.RTR_ESC_CTL_FREEZE, [95], 0), (F.RTR_ESC_CTL_ESC_EMPTY, [95], 1)]) : State).get F.RTR_ESC_CTL_FREEZE [95] = 0 ∨ ((setW up
    [(F.RTR_ESC_CTL_FREEZE, [95], 0), (F.RTR_ESC_CTL_ESC_EMPTY, [95], 1)]) : State).get F.RTR_ESC_CTL_ESC_EMPTY [95] = 0))) ∧ (((setW up
    [(F.RTR_ESC_CTL_REROUTE, [95], 1), (F.RTR_ESC_CTL_REROUTE, [3], 1), (F.RTR_CTL_FAILED, [3], 1)]) : State).sealed = false ∧ ((∀ r < 96,
    ((setW up [(F.RTR_ESC_CTL_REROUTE, [95], 1), (F.RTR_ESC_CTL_REROUTE, [3], 1), (F.RTR_CTL_FAILED, [3], 1)]) : State).rtrOk r = true → ((setW
    up [(F.RTR_ESC_CTL_REROUTE, [95], 1), (F.RTR_ESC_CTL_REROUTE, [3], 1), (F.RTR_CTL_FAILED, [3], 1)]) : State).granted (.core 0 : Init) true
    ⟨.RTR_ESC_CTL, [r]⟩ 4))) ∧ (up.granted (.core 0 : Init) true ⟨.RTR_ISL_CTL, [95]⟩ 4 ∧ 1600 ≤ 2400 ∧ 2400 ≤ 2400 ∧ 2400 % 25 = 0) ∧
    (up.granted (.core 0 : Init) true ⟨.RTR_ISL_CTL, [95]⟩ 4 ∧ ((2401 < 1600 ∨ 2400 < 2401 ∨ 2401 % 25 ≠ 0))) ∧ (((setW up [(F.RTR_ISL_CTL_FREQ,
    [95], 2000)]) : State).sealed = false ∧ 2005 ≤ ((setW up [(F.RTR_ISL_CTL_FREQ, [95], 2000)]) : State).get F.RTR_ISL_CTL_FREQ [95] + 5 ∧
    ((setW up [(F.RTR_ISL_CTL_FREQ, [95], 2000)]) : State).get F.RTR_ISL_CTL_FREQ [95] ≤ 2005 + 5) ∧ (((setW up [(F.RTR_ISL_CTL_FREQ, [95],
    2000)]) : State).sealed = false ∧ ((((setW up [(F.RTR_ISL_CTL_FREQ, [95], 2000)]) : State).get F.RTR_ISL_CTL_FREQ [95] + 5 < 2006 ∨ 2006 + 5
    < ((setW up [(F.RTR_ISL_CTL_FREQ, [95], 2000)]) : State).get F.RTR_ISL_CTL_FREQ [95]))) ∧
    (({ setW up [(F.RTR_ISL_CTL_FREQ, [95], 2000), (F.RTR_ISL_STAT_SETTLED, [95], 1)] with mesh := { clkBad := [(95, 2)] } } : State).sealed =
    false ∧ ({ setW up [(F.RTR_ISL_CTL_FREQ, [95], 2000), (F.RTR_ISL_STAT_SETTLED, [95], 1)] with mesh := { clkBad := [(95, 2)] } } : State).get
    F.RTR_ISL_STAT_SETTLED [95] = 1 ∧
    ({ setW up [(F.RTR_ISL_CTL_FREQ, [95], 2000), (F.RTR_ISL_STAT_SETTLED, [95], 1)] with mesh := { clkBad := [(95, 2)] } } :
    State).mesh.clkBad.lookD 95 0 = 2 ∧
    ((({ setW up [(F.RTR_ISL_CTL_FREQ, [95], 2000), (F.RTR_ISL_STAT_SETTLED, [95], 1)] with mesh := { clkBad := [(95, 2)] } } : State).get
    F.RTR_ISL_CTL_FREQ [95] < 20 * (2101 -
    ({ setW up [(F.RTR_ISL_CTL_FREQ, [95], 2000), (F.RTR_ISL_STAT_SETTLED, [95], 1)] with mesh := { clkBad := [(95, 2)] } } : State).get
    F.RTR_ISL_CTL_FREQ [95]) ∨
    ({ setW up [(F.RTR_ISL_CTL_FREQ, [95], 2000), (F.RTR_ISL_STAT_SETTLED, [95], 1)] with mesh := { clkBad := [(95, 2)] } } : State).get
    F.RTR_ISL_CTL_FREQ [95] < 20 *
    (({ setW up [(F.RTR_ISL_CTL_FREQ, [95], 2000), (F.RTR_ISL_STAT_SETTLED, [95], 1)] with mesh := { clkBad := [(95, 2)] } } : State).get
    F.RTR_ISL_CTL_FREQ [95] - 2101)))) ∧
    (({ setW up [(F.RTR_ISL_CTL_FREQ, [95], 2000), (F.RTR_ISL_STAT_SETTLED, [95], 1)] with mesh := { clkBad := [(95, 2)] } } : State).sealed =
    false ∧ 20 * (2100 - ({ setW up [(F.RTR_ISL_CTL_FREQ, [95], 2000), (F.RTR_ISL_STAT_SETTLED, [95], 1)] with mesh := { clkBad := [(95, 2)] } }
    : State).get F.RTR_ISL_CTL_FREQ [95]) ≤
    ({ setW up [(F.RTR_ISL_CTL_FREQ, [95], 2000), (F.RTR_ISL_STAT_SETTLED, [95], 1)] with mesh := { clkBad := [(95, 2)] } } : State).get
    F.RTR_ISL_CTL_FREQ [95] ∧ 20 *
    (({ setW up [(F.RTR_ISL_CTL_FREQ, [95], 2000), (F.RTR_ISL_STAT_SETTLED, [95], 1)] with mesh := { clkBad := [(95, 2)] } } : State).get
    F.RTR_ISL_CTL_FREQ [95] - 2100) ≤
    ({ setW up [(F.RTR_ISL_CTL_FREQ, [95], 2000), (F.RTR_ISL_STAT_SETTLED, [95], 1)] with mesh := { clkBad := [(95, 2)] } } : State).get
    F.RTR_ISL_CTL_FREQ [95]) := by
  and_intros <;> first | decide +kernel | rfl | exact BitVec.isLt _ | exact Nat.zero_le _

/-! ### what a host writes to its slots -/

theorem test_what_a_host_writes_to_its_slots_hypotheses :
    (((cfsOf live [(.vdsp 2 1, .dllActive, 1)]) : State).sealed = false ∧ ((cfsOf live [(.vdsp 2 1, .dllActive, 1)]) : State).slotThere 2 1 =
    true ∧ ((cfsOf live [(.vdsp 2 1, .dllActive, 1)]) : State).cf (.vdsp 2 1) .slotPower = 0 ∧ ((cfsOf live [(.vdsp 2 1, .dllActive, 1)]) :
    State).get F.VST_SLOT_KIND [2, 1] = 1 ∧ ((cfsOf live [(.vdsp 2 1, .dllActive, 1)]) : State).inL0 (((cfsOf live [(.vdsp 2 1, .dllActive, 1)])
    : State).get F.VST_SLOT_TARGET [2, 1] % 256) = true ∧ ((cfsOf live [(.vdsp 2 1, .dllActive, 1)]) : State).fwd.tags = [] ∧ ((cfsOf live
    [(.vdsp 2 1, .dllActive, 1)]) : State).fwd.gateq = [] ∧ ((cfsOf live [(.vdsp 2 1, .dllActive, 1)]) : State).fwd.shq = [] ∧ ((cfsOf live
    [(.vdsp 2 1, .dllActive, 1)]) : State).fwd.lostQ = [] ∧ ((cfsOf live [(.vdsp 2 1, .dllActive, 1)]) : State).mgr.parked = [] ∧ ((cfsOf live
    [(.vdsp 2 1, .dllActive, 1)]) : State).mgr.queue = []) ∧ (((cfsOf live [(.vdsp 2 1, .slotPower, 1)]) : State).sealed = false ∧ ((cfsOf live
    [(.vdsp 2 1, .slotPower, 1)]) : State).slotThere 2 1 = true ∧ ((cfsOf live [(.vdsp 2 1, .slotPower, 1)]) : State).cf (.vdsp 2 1) .slotPower
    = bit true) ∧ (((cfsOf (setW live [(F.VST_SLOT_KIND, [2, 1], 0)]) [(.vdsp 2 1, .slotPower, 1)]) : State).sealed = false ∧ ((cfsOf (setW live
    [(F.VST_SLOT_KIND, [2, 1], 0)]) [(.vdsp 2 1, .slotPower, 1)]) : State).slotThere 2 1 = true ∧ ((cfsOf (setW live [(F.VST_SLOT_KIND, [2, 1],
    0)]) [(.vdsp 2 1, .slotPower, 1)]) : State).cf (.vdsp 2 1) .slotPower = 1 ∧ ((cfsOf (setW live [(F.VST_SLOT_KIND, [2, 1], 0)]) [(.vdsp 2 1,
    .slotPower, 1)]) : State).get F.VST_SLOT_KIND [2, 1] = 0) ∧ (((cfsOf live [(.vdsp 2 1, .dllActive, 1)]) : State).sealed = false ∧ ((cfsOf
    live [(.vdsp 2 1, .dllActive, 1)]) : State).slotThere 2 1 = true ∧ ((cfsOf live [(.vdsp 2 1, .dllActive, 1)]) : State).cf (.vdsp 2 1)
    .linkDisable = 0 ∧ ((cfsOf live [(.vdsp 2 1, .dllActive, 1)]) : State).get F.VST_SLOT_KIND [2, 1] = 1 ∧ ((cfsOf live [(.vdsp 2 1,
    .dllActive, 1)]) : State).inL0 (((cfsOf live [(.vdsp 2 1, .dllActive, 1)]) : State).get F.VST_SLOT_TARGET [2, 1] % 256) = true ∧ ((cfsOf
    live [(.vdsp 2 1, .dllActive, 1)]) : State).fwd.tags = [] ∧ ((cfsOf live [(.vdsp 2 1, .dllActive, 1)]) : State).fwd.gateq = [] ∧ ((cfsOf
    live [(.vdsp 2 1, .dllActive, 1)]) : State).fwd.shq = [] ∧ ((cfsOf live [(.vdsp 2 1, .dllActive, 1)]) : State).fwd.lostQ = []) ∧ (((cfsOf
    (setW live [(F.VST_SLOT_KIND, [2, 1], 0), (F.VST_CONT_CONTAINED, [2, 1], 1)]) [(.vdsp 2 1, .linkDisable, 1)]) : State).sealed = false ∧
    ((cfsOf (setW live [(F.VST_SLOT_KIND, [2, 1], 0), (F.VST_CONT_CONTAINED, [2, 1], 1)]) [(.vdsp 2 1, .linkDisable, 1)]) : State).slotThere 2 1
    = true ∧ ((cfsOf (setW live [(F.VST_SLOT_KIND, [2, 1], 0), (F.VST_CONT_CONTAINED, [2, 1], 1)]) [(.vdsp 2 1, .linkDisable, 1)]) : State).cf
    (.vdsp 2 1) .linkDisable = 1 ∧ ((cfsOf (setW live [(F.VST_SLOT_KIND, [2, 1], 0), (F.VST_CONT_CONTAINED, [2, 1], 1)]) [(.vdsp 2 1,
    .linkDisable, 1)]) : State).get F.VST_SLOT_KIND [2, 1] = 0 ∧ ((cfsOf (setW live [(F.VST_SLOT_KIND, [2, 1], 0), (F.VST_CONT_CONTAINED, [2,
    1], 1)]) [(.vdsp 2 1, .linkDisable, 1)]) : State).contained 2 1 = true) ∧ (live.sealed = false ∧ live.slotThere 2 1 = true ∧ live.get
    F.VST_SLOT_KIND [2, 1] = 1 ∧ live.inL0 (live.get F.VST_SLOT_TARGET [2, 1] % 256) = true) ∧ (((cfsOf live [(.vdsp 2 1, .dpcEnable, 2), (.vdsp
    2 1, .dllActive, 1)]) : State).sealed = false ∧ ((cfsOf live [(.vdsp 2 1, .dpcEnable, 2), (.vdsp 2 1, .dllActive, 1)]) : State).slotThere 2
    1 = true ∧ ((cfsOf live [(.vdsp 2 1, .dpcEnable, 2), (.vdsp 2 1, .dllActive, 1)]) : State).cf (.vdsp 2 1) .dpcEnable ≠ 0 ∧ ((cfsOf live
    [(.vdsp 2 1, .dpcEnable, 2), (.vdsp 2 1, .dllActive, 1)]) : State).contained 2 1 = false ∧ ((cfsOf live [(.vdsp 2 1, .dpcEnable, 2), (.vdsp
    2 1, .dllActive, 1)]) : State).fwd.tags = [] ∧ ((cfsOf live [(.vdsp 2 1, .dpcEnable, 2), (.vdsp 2 1, .dllActive, 1)]) : State).fwd.gateq =
    [] ∧ ((cfsOf live [(.vdsp 2 1, .dpcEnable, 2), (.vdsp 2 1, .dllActive, 1)]) : State).fwd.shq = [] ∧ ((cfsOf live [(.vdsp 2 1, .dpcEnable,
    2), (.vdsp 2 1, .dllActive, 1)]) : State).fwd.lostQ = []) ∧ (live.sealed = false ∧ live.slotThere 2 1 = true ∧ live.cf (.vdsp 2 1)
    .dpcEnable = 0) ∧ (((cfsOf (setW live [(F.VST_CONT_CONTAINED, [2, 1], 1)]) [(.vdsp 2 1, .dpcTrigger, 1)]) : State).sealed = false ∧ ((cfsOf
    (setW live [(F.VST_CONT_CONTAINED, [2, 1], 1)]) [(.vdsp 2 1, .dpcTrigger, 1)]) : State).slotThere 2 1 = true ∧ ((cfsOf (setW live
    [(F.VST_CONT_CONTAINED, [2, 1], 1)]) [(.vdsp 2 1, .dpcTrigger, 1)]) : State).cf (.vdsp 2 1) .dpcTrigger = 1 ∧ ((cfsOf (setW live
    [(F.VST_CONT_CONTAINED, [2, 1], 1)]) [(.vdsp 2 1, .dpcTrigger, 1)]) : State).contained 2 1 = true) ∧ (live.sealed = false ∧ live.vsOfPort 0
    = some 2 ∧ ({ kind := .cfgwr, fld := .busSec, data := [0xFF, 1] } : Tlp).fld = .busSec) ∧ (((cfsOf grp [(.mem 2 1 0, .intLine, 9)]) :
    State).sealed = false ∧ ((cfsOf grp [(.mem 2 1 0, .intLine, 9)]) : State).vsOfPort 0 = some 2 ∧ ((cfsOf grp [(.mem 2 1 0, .intLine, 9)]) :
    State).get F.VST_SLOT_KIND [2, 1] = 2 ∧ ((cfsOf grp [(.mem 2 1 0, .intLine, 9)]) : State).contained 2 1 = false ∧ ((cfsOf grp [(.mem 2 1 0,
    .intLine, 9)]) : State).snap.fbOf (((cfsOf grp [(.mem 2 1 0, .intLine, 9)]) : State).get F.VST_SLOT_VDSP [2, 1]) 0 = some 5 ∧ (2, 1, 0) ∉
    ((cfsOf grp [(.mem 2 1 0, .intLine, 9)]) : State).fwd.flrRrs ∧ ({ kind := .cfgrd, fld := .intLine, tag := 3 } : Tlp).kind = .cfgrd ∧
    ({ kind := .cfgrd, fld := .intLine, tag := 3 } : Tlp).fld = .intLine ∧ ((cfsOf grp [(.mem 2 1 0, .intLine, 9)]) : State).canAnswer 0 1) ∧
    (grp.sealed = false ∧ grp.vsOfPort 0 = some 2 ∧ grp.get F.VST_SLOT_KIND [2, 1] = 2 ∧ grp.contained 2 1 = false ∧ grp.snap.fbOf (grp.get
    F.VST_SLOT_VDSP [2, 1]) 0 = some 5 ∧ (2, 1, 0) ∉ grp.fwd.flrRrs ∧ ({ kind := .cfgwr, fld := .mps, data := [0xA] } : Tlp).kind = .cfgwr ∧
    ({ kind := .cfgwr, fld := .mps, data := [0xA] } : Tlp).fld = .mps) ∧ (({ grp with fwd := { grp.fwd with flrRrs := [(2, 1, 0)] } } :
    State).sealed = false ∧ ({ grp with fwd := { grp.fwd with flrRrs := [(2, 1, 0)] } } : State).vsOfPort 0 = some 2 ∧
    ({ grp with fwd := { grp.fwd with flrRrs := [(2, 1, 0)] } } : State).get F.VST_SLOT_KIND [2, 1] = 2 ∧
    ({ grp with fwd := { grp.fwd with flrRrs := [(2, 1, 0)] } } : State).contained 2 1 = false ∧
    ({ grp with fwd := { grp.fwd with flrRrs := [(2, 1, 0)] } } : State).snap.fbOf (({ grp with fwd := { grp.fwd with flrRrs := [(2, 1, 0)] } }
    : State).get F.VST_SLOT_VDSP [2, 1]) 0 = some 5 ∧ (2, 1, 0) ∈ ({ grp with fwd := { grp.fwd with flrRrs := [(2, 1, 0)] } } :
    State).fwd.flrRrs ∧ ({ kind := .cfgrd, fld := .vendorId, tag := 3 } : Tlp).kind = .cfgrd ∧
    ({ grp with fwd := { grp.fwd with flrRrs := [(2, 1, 0)] } } : State).canAnswer 0 1) ∧ (grp.sealed = false ∧ grp.fwd.trk = [] ∧ grp.fwd.lostQ
    = [] ∧ (grp.membersOf (grp.get F.VST_SLOT_VDSP [2, 1])).find? (fun m => m.1 == 0) = some (0, 4, (0x300 : Nat))) ∧
    (({ setW grp [(F.CPW_TIME_TIME, [], 100000007)] with fwd := { grp.fwd with flrRrs := [(2, 1, 0)], flrAt := [((2, 1, 0), 7)] } } :
    State).sealed = false ∧
    ({ setW grp [(F.CPW_TIME_TIME, [], 100000007)] with fwd := { grp.fwd with flrRrs := [(2, 1, 0)], flrAt := [((2, 1, 0), 7)] } } :
    State).fwd.flrAt.look (2, 1, 0) = some 7 ∧ 7 + 100000000 ≤
    ({ setW grp [(F.CPW_TIME_TIME, [], 100000007)] with fwd := { grp.fwd with flrRrs := [(2, 1, 0)], flrAt := [((2, 1, 0), 7)] } } : State).now)
    ∧ (({ setW grp [(F.CPW_TIME_TIME, [], 100000006)] with fwd := { grp.fwd with flrRrs := [(2, 1, 0)], flrAt := [((2, 1, 0), 7)] } } :
    State).sealed = false ∧
    ({ setW grp [(F.CPW_TIME_TIME, [], 100000006)] with fwd := { grp.fwd with flrRrs := [(2, 1, 0)], flrAt := [((2, 1, 0), 7)] } } :
    State).fwd.flrAt.look (2, 1, 0) = some 7 ∧
    ({ setW grp [(F.CPW_TIME_TIME, [], 100000006)] with fwd := { grp.fwd with flrRrs := [(2, 1, 0)], flrAt := [((2, 1, 0), 7)] } } : State).now
    < 7 + 100000000) := by
  and_intros <;> first | decide +kernel | rfl | exact BitVec.isLt _ | exact Nat.zero_le _

/-! ### trunk doze -/

theorem test_trunk_doze_hypotheses :
    (((setW trk [(F.PT_DOZE_IDLE_TIME, [34, 1], 1), (F.CPW_TIME_TIME, [], 1000)]) : State).sealed = false ∧ 0 < ((setW trk
    [(F.PT_DOZE_IDLE_TIME, [34, 1], 1), (F.CPW_TIME_TIME, [], 1000)]) : State).get F.PT_DOZE_IDLE_TIME [137 / 4, 137 % 4] ∧ ((setW trk
    [(F.PT_DOZE_IDLE_TIME, [34, 1], 1), (F.CPW_TIME_TIME, [], 1000)]) : State).awake (137 / 8) (137 % 8) = true ∧ ((setW trk
    [(F.PT_DOZE_IDLE_TIME, [34, 1], 1), (F.CPW_TIME_TIME, [], 1000)]) : State).anchor (137 / 8) ≠ some (137 % 8) ∧ 137 ∉ ((setW trk
    [(F.PT_DOZE_IDLE_TIME, [34, 1], 1), (F.CPW_TIME_TIME, [], 1000)]) : State).lnk.dozeAsk ∧ ((setW trk [(F.PT_DOZE_IDLE_TIME, [34, 1], 1),
    (F.CPW_TIME_TIME, [], 1000)]) : State).memQueued (137 / 8) (137 % 8) = 0 ∧ ((setW trk [(F.PT_DOZE_IDLE_TIME, [34, 1], 1), (F.CPW_TIME_TIME,
    [], 1000)]) : State).lnk.lastTlp.lookD 137 0 + min 1000 (((setW trk [(F.PT_DOZE_IDLE_TIME, [34, 1], 1), (F.CPW_TIME_TIME, [], 1000)]) :
    State).get F.PT_DOZE_IDLE_TIME [137 / 4, 137 % 4]) * 1000 ≤ ((setW trk [(F.PT_DOZE_IDLE_TIME, [34, 1], 1), (F.CPW_TIME_TIME, [], 1000)]) :
    State).now) ∧ (((setW trk [(F.PT_DOZE_IDLE_TIME, [34, 1], 1), (F.CPW_TIME_TIME, [], 999)]) : State).sealed = false ∧ ((setW trk
    [(F.PT_DOZE_IDLE_TIME, [34, 1], 1), (F.CPW_TIME_TIME, [], 999)]) : State).now < ((setW trk [(F.PT_DOZE_IDLE_TIME, [34, 1], 1),
    (F.CPW_TIME_TIME, [], 999)]) : State).lnk.lastTlp.lookD 137 0 + min 1000 (((setW trk [(F.PT_DOZE_IDLE_TIME, [34, 1], 1), (F.CPW_TIME_TIME,
    [], 999)]) : State).get F.PT_DOZE_IDLE_TIME [137 / 4, 137 % 4]) * 1000) ∧ (((setW trk [(F.CPW_TIME_TIME, [], 5)]) : State).sealed = false ∧
    ((setW trk [(F.CPW_TIME_TIME, [], 5)]) : State).awake (137 / 8) (137 % 8) = true ∧ 137 ∉ ((setW trk [(F.CPW_TIME_TIME, [], 5)]) :
    State).lnk.dozeAsk ∧ ((setW trk [(F.CPW_TIME_TIME, [], 5)]) : State).anchor (137 / 8) ≠ some (137 % 8) ∧ ((setW trk [(F.CPW_TIME_TIME, [],
    5)]) : State).memQueued (137 / 8) (137 % 8) = 0) ∧ (({ trk with lnk := { dozeAsk := [137] } } : State).sealed = false ∧
    ({ trk with lnk := { dozeAsk := [137] } } : State).awake (137 / 8) (137 % 8) = true ∧ 137 ∈ ({ trk with lnk := { dozeAsk := [137] } } :
    State).lnk.dozeAsk) ∧ (trk.sealed = false ∧ 136 ∉ trk.lnk.dozeAsk ∧ trk.anchor (136 / 8) = some (136 % 8)) ∧
    (({ setW trk [(F.LN_STAT_DOZE, [34, 2], 1)] with lnk := { doze := [(137, 5)] } } : State).sealed = false ∧
    ({ setW trk [(F.LN_STAT_DOZE, [34, 2], 1)] with lnk := { doze := [(137, 5)] } } : State).lnk.doze.look 137 = some 5 ∧
    ({ setW trk [(F.LN_STAT_DOZE, [34, 2], 1)] with lnk := { doze := [(137, 5)] } } : State).fwd.trunkq.lookD (137 / 8) [] = []) ∧
    (({ setW trk [(F.PT_DOZE_MAX_TIME, [34, 1], 1), (F.CPW_TIME_TIME, [], 1005)] with lnk := { doze := [(137, 5)] } } : State).sealed = false ∧
    ({ setW trk [(F.PT_DOZE_MAX_TIME, [34, 1], 1), (F.CPW_TIME_TIME, [], 1005)] with lnk := { doze := [(137, 5)] } } : State).lnk.doze.look 137
    = some 5 ∧ ({ setW trk [(F.PT_DOZE_MAX_TIME, [34, 1], 1), (F.CPW_TIME_TIME, [], 1005)] with lnk := { doze := [(137, 5)] } } :
    State).dozeLate 137 = false ∧
    ({ setW trk [(F.PT_DOZE_MAX_TIME, [34, 1], 1), (F.CPW_TIME_TIME, [], 1005)] with lnk := { doze := [(137, 5)] } } : State).fwd.trunkq.lookD
    (137 / 8) [] = []) ∧ (({ setW trk [(F.PT_DOZE_MAX_TIME, [34, 1], 1), (F.CPW_TIME_TIME, [], 1006)] with lnk := { doze := [(137, 5)] } } :
    State).sealed = false ∧ ({ setW trk [(F.PT_DOZE_MAX_TIME, [34, 1], 1), (F.CPW_TIME_TIME, [], 1006)] with lnk := { doze := [(137, 5)] } } :
    State).lnk.doze.look 137 = some 5 ∧ 5 + min 10000 (max 1
    (({ setW trk [(F.PT_DOZE_MAX_TIME, [34, 1], 1), (F.CPW_TIME_TIME, [], 1006)] with lnk := { doze := [(137, 5)] } } : State).get
    F.PT_DOZE_MAX_TIME [137 / 4, 137 % 4])) * 1000 <
    ({ setW trk [(F.PT_DOZE_MAX_TIME, [34, 1], 1), (F.CPW_TIME_TIME, [], 1006)] with lnk := { doze := [(137, 5)] } } : State).now) ∧
    (({ setW trk [(F.PT_DOZE_MAX_TIME, [34, 1], 1), (F.CPW_TIME_TIME, [], 1005)] with lnk := { doze := [(137, 5)] } } : State).sealed = false ∧
    ({ setW trk [(F.PT_DOZE_MAX_TIME, [34, 1], 1), (F.CPW_TIME_TIME, [], 1005)] with lnk := { doze := [(137, 5)] } } : State).lnk.doze.look 137
    = some 5 ∧ ({ setW trk [(F.PT_DOZE_MAX_TIME, [34, 1], 1), (F.CPW_TIME_TIME, [], 1005)] with lnk := { doze := [(137, 5)] } } : State).now ≤ 5
    + min 10000 (max 1 (({ setW trk [(F.PT_DOZE_MAX_TIME, [34, 1], 1), (F.CPW_TIME_TIME, [], 1005)] with lnk := { doze := [(137, 5)] } } :
    State).get F.PT_DOZE_MAX_TIME [137 / 4, 137 % 4])) * 1000 ∧
    ({ setW trk [(F.PT_DOZE_MAX_TIME, [34, 1], 1), (F.CPW_TIME_TIME, [], 1005)] with lnk := { doze := [(137, 5)] } } : State).get
    F.CPW_TILE_REF_MODE [137 / 8 * 2] ≠ 2) ∧ (({ trk with lnk := { shortRetrain := [137] } } : State).sealed = false ∧ 137 ∈
    ({ trk with lnk := { shortRetrain := [137] } } : State).lnk.shortRetrain ∧ ({ trk with lnk := { shortRetrain := [137] } } :
    State).fwd.trunkq.lookD (137 / 8) [] = []) := by
  and_intros <;> first | decide +kernel | rfl | exact BitVec.isLt _ | exact Nat.zero_le _

/-! ### trunk data acknowledgement and resend -/

theorem test_trunk_data_acknowledgement_and_resend_hypotheses :
    (({ trk with trunk := [(17, { badFlits := [(1, 7)] })] } : State).sealed = false ∧ ({ trk with trunk := [(17, { badFlits := [(1, 7)] })] } :
    State).role 137 = 2 ∧ ({ trk with trunk := [(17, { badFlits := [(1, 7)] })] } : State).inL0 137 = true) ∧
    (({ setW trk [(F.LK_CFG_THRESHOLD, [0, 34, 1], 0)] with trunk := [(17, { badFlits := [(1, 6)] })] } : State).sealed = false ∧
    ({ setW trk [(F.LK_CFG_THRESHOLD, [0, 34, 1], 0)] with trunk := [(17, { badFlits := [(1, 6)] })] } : State).role 137 = 2 ∧
    ({ setW trk [(F.LK_CFG_THRESHOLD, [0, 34, 1], 0)] with trunk := [(17, { badFlits := [(1, 6)] })] } : State).inL0 137 = true ∧
    (({ setW trk [(F.LK_CFG_THRESHOLD, [0, 34, 1], 0)] with trunk := [(17, { badFlits := [(1, 6)] })] } : State).tk (137 / 8)).badFlits.lookD
    (137 % 8) 0 = 6 ∧ 6 < 7 ∧ ({ setW trk [(F.LK_CFG_THRESHOLD, [0, 34, 1], 0)] with trunk := [(17, { badFlits := [(1, 6)] })] } : State).get
    F.LK_CFG_THRESHOLD [0, 137 / 4, 137 % 4] = 0) ∧
    (({ setW trk [(F.LK_CFG_THRESHOLD, [0, 34, 1], 0)] with trunk := [(17, { badFlits := [(1, 7)] })] } : State).sealed = false ∧
    ({ setW trk [(F.LK_CFG_THRESHOLD, [0, 34, 1], 0)] with trunk := [(17, { badFlits := [(1, 7)] })] } : State).role 137 = 2 ∧
    ({ setW trk [(F.LK_CFG_THRESHOLD, [0, 34, 1], 0)] with trunk := [(17, { badFlits := [(1, 7)] })] } : State).inL0 137 = true ∧
    (({ setW trk [(F.LK_CFG_THRESHOLD, [0, 34, 1], 0)] with trunk := [(17, { badFlits := [(1, 7)] })] } : State).tk (137 / 8)).badFlits.lookD
    (137 % 8) 0 = 7 ∧ ({ setW trk [(F.LK_CFG_THRESHOLD, [0, 34, 1], 0)] with trunk := [(17, { badFlits := [(1, 7)] })] } : State).get
    F.LK_CFG_THRESHOLD [0, 137 / 4, 137 % 4] = 0 ∧
    (({ setW trk [(F.LK_CFG_THRESHOLD, [0, 34, 1], 0)] with trunk := [(17, { badFlits := [(1, 7)] })] } : State).members (137 / 8)).any (fun i
    => i != 137 % 8) = true ∧ ({ setW trk [(F.LK_CFG_THRESHOLD, [0, 34, 1], 0)] with trunk := [(17, { badFlits := [(1, 7)] })] } :
    State).fwd.trunkq.lookD (137 / 8) [] = [] ∧
    (({ setW trk [(F.LK_CFG_THRESHOLD, [0, 34, 1], 0)] with trunk := [(17, { badFlits := [(1, 7)] })] } : State).tk (137 / 8)).copies = []) ∧
    (trk.sealed = false ∧ trk.tkOn (137 / 8) = true ∧ (trk.get F.FAB_TRK_STAT_MEMBERS [137 / 8]).testBit (137 % 8) = true ∧ kd.good = true ∧
    kd.stomp < 2 ∧ kd.prevV = false ∧ trk.kfp10 (137 / 8) = false ∧ (trk.tk (137 / 8)).copies = [] ∧ passed (trk.get F.FAB_TRK_SEQ_RX_CUM [137 /
    8]) kd.tseq = false ∧ (trk.tk (137 / 8)).store.look (trk.get F.FAB_TRK_SEQ_RX_CUM [137 / 8]) = none ∧ (trk.tk (137 / 8)).store.look kd.tseq
    = none ∧ kd.tseq ≠ trk.get F.FAB_TRK_SEQ_RX_CUM [137 / 8] ∧ trk.rxRoom (137 / 8) (137 % 8) kd = true ∧ trk.fwd.trunkq.lookD (137 / 8) [] =
    [] ∧ (∀ c < 4, trk.sq (8 * (137 / 8)) c = []) ∧ trk.fwd.lostQ = []) ∧ (((setW trk [(F.FAB_TRK_SEQ_RX_CUM, [17], 2)]) : State).sealed = false
    ∧ ((setW trk [(F.FAB_TRK_SEQ_RX_CUM, [17], 2)]) : State).tkOn (137 / 8) = true ∧ (((setW trk [(F.FAB_TRK_SEQ_RX_CUM, [17], 2)]) : State).get
    F.FAB_TRK_STAT_MEMBERS [137 / 8]).testBit (137 % 8) = true ∧ kd.good = true ∧ kd.stomp < 2 ∧ kd.prevV = false ∧ ((setW trk
    [(F.FAB_TRK_SEQ_RX_CUM, [17], 2)]) : State).kfp10 (137 / 8) = false ∧ (((setW trk [(F.FAB_TRK_SEQ_RX_CUM, [17], 2)]) : State).tk (137 /
    8)).copies = [] ∧ passed (((setW trk [(F.FAB_TRK_SEQ_RX_CUM, [17], 2)]) : State).get F.FAB_TRK_SEQ_RX_CUM [137 / 8]) kd.tseq = true ∧ ((setW
    trk [(F.FAB_TRK_SEQ_RX_CUM, [17], 2)]) : State).fwd.trunkq.lookD (137 / 8) [] = [] ∧ (∀ c < 4, ((setW trk [(F.FAB_TRK_SEQ_RX_CUM, [17], 2)])
    : State).sq (8 * (137 / 8)) c = []) ∧ ((setW trk [(F.FAB_TRK_SEQ_RX_CUM, [17], 2)]) : State).fwd.lostQ = []) ∧ (trk.sealed = false ∧
    trk.tkOn (137 / 8) = true ∧ (trk.get F.FAB_TRK_STAT_MEMBERS [137 / 8]).testBit (137 % 8) = true ∧ ({ kd with good := false } : KData).good =
    false) ∧
    (({ trk with trunk := [(17, { copies := [{ tseq := 0xFFFF, mem := 0, at_ := 0, tries := 0, mseq := 0, pkt := tpkt }, { tseq := 0, mem := 0, at_ := 0, pkt := tpkt }] })] }
    : State).sealed = false ∧
    ({ trk with trunk := [(17, { copies := [{ tseq := 0xFFFF, mem := 0, at_ := 0, tries := 0, mseq := 0, pkt := tpkt }, { tseq := 0, mem := 0, at_ := 0, pkt := tpkt }] })] }
    : State).tkOn (137 / 8) = true ∧
    (({ trk with trunk := [(17, { copies := [{ tseq := 0xFFFF, mem := 0, at_ := 0, tries := 0, mseq := 0, pkt := tpkt }, { tseq := 0, mem := 0, at_ := 0, pkt := tpkt }] })] }
    : State).get F.FAB_TRK_STAT_MEMBERS [137 / 8]).testBit (137 % 8) = true ∧
    ({ trk with trunk := [(17, { copies := [{ tseq := 0xFFFF, mem := 0, at_ := 0, tries := 0, mseq := 0, pkt := tpkt }, { tseq := 0, mem := 0, at_ := 0, pkt := tpkt }] })] }
    : State).fwd.trunkq.lookD (137 / 8) [] = [] ∧ (∀ c < 4,
    ({ trk with trunk := [(17, { copies := [{ tseq := 0xFFFF, mem := 0, at_ := 0, tries := 0, mseq := 0, pkt := tpkt }, { tseq := 0, mem := 0, at_ := 0, pkt := tpkt }] })] }
    : State).sq (8 * (137 / 8)) c = [])) ∧
    (({ trk with trunk := [(17, { copies := [{ tseq := 0xFFFF, mem := 0, at_ := 0, tries := 0, mseq := 0, pkt := tpkt }] })] } : State).sealed =
    false ∧ ({ trk with trunk := [(17, { copies := [{ tseq := 0xFFFF, mem := 0, at_ := 0, tries := 0, mseq := 0, pkt := tpkt }] })] } :
    State).tkOn (137 / 8) = true ∧
    (({ trk with trunk := [(17, { copies := [{ tseq := 0xFFFF, mem := 0, at_ := 0, tries := 0, mseq := 0, pkt := tpkt }] })] } : State).get
    F.FAB_TRK_STAT_MEMBERS [137 / 8]).testBit (137 % 8) = true ∧
    ({ trk with trunk := [(17, { copies := [{ tseq := 0xFFFF, mem := 0, at_ := 0, tries := 0, mseq := 0, pkt := tpkt }] })] } : State).kfp10
    (137 / 8) = false ∧
    ({ trk with trunk := [(17, { copies := [{ tseq := 0xFFFF, mem := 0, at_ := 0, tries := 0, mseq := 0, pkt := tpkt }] })] } :
    State).fwd.trunkq.lookD (137 / 8) [] = [] ∧
    (({ trk with trunk := [(17, { copies := [{ tseq := 0xFFFF, mem := 0, at_ := 0, tries := 0, mseq := 0, pkt := tpkt }] })] } : State).tk (137
    / 8)).copies = [({ tseq := 0xFFFF, mem := 0, at_ := 0, tries := 0, mseq := 0, pkt := tpkt } : KCopy)] ∧
    ({ tseq := 0xFFFF, mem := 0, at_ := 0, tries := 0, mseq := 0, pkt := tpkt } : KCopy).tseq = (0xFFFF : W16).toNat ∧ passed (0xFFFF :
    W16).toNat ({ tseq := 0xFFFF, mem := 0, at_ := 0, tries := 0, mseq := 0, pkt := tpkt } : KCopy).tseq = false ∧
    ({ tseq := 0xFFFF, mem := 0, at_ := 0, tries := 0, mseq := 0, pkt := tpkt } : KCopy).pkt.body = .tlp wr64 ∧
    (({ trk with trunk := [(17, { copies := [{ tseq := 0xFFFF, mem := 0, at_ := 0, tries := 0, mseq := 0, pkt := tpkt }] })] } :
    State).pickMember (137 / 8)).isSome = true) ∧ (trk.sealed = false ∧ trk.tkOn (137 / 8) = true ∧ (trk.get F.FAB_TRK_STAT_MEMBERS [137 /
    8]).testBit (137 % 8) = true ∧ trk.fwd.trunkq.lookD (137 / 8) [] = [] ∧ (∀ c < 4, trk.sq (8 * (137 / 8)) c = [])) ∧ (((setW
    { trk with fwd := { act := [2] } } [(F.VST_STAT_STATE, [2], 1), (F.VST_STAT_UP_PORT, [2], 0), (F.SH_CFG_EN, [585], 1), (F.SH_CFG_ECHO_EN,
    [585], 1), (F.SH_STAT_RATE_CUR, [585], 1000)]) : State).sealed = false ∧ ((setW { trk with fwd := { act := [2] } } [(F.VST_STAT_STATE, [2],
    1), (F.VST_STAT_UP_PORT, [2], 0), (F.SH_CFG_EN, [585], 1), (F.SH_CFG_ECHO_EN, [585], 1), (F.SH_STAT_RATE_CUR, [585], 1000)]) : State).tkOn
    (137 / 8) = true ∧ 768 / 256 = ((setW { trk with fwd := { act := [2] } } [(F.VST_STAT_STATE, [2], 1), (F.VST_STAT_UP_PORT, [2], 0),
    (F.SH_CFG_EN, [585], 1), (F.SH_CFG_ECHO_EN, [585], 1), (F.SH_STAT_RATE_CUR, [585], 1000)]) : State).get F.FAB_DEV_NUM [] ∧ 768 % 256 < 144 ∧
    ((setW { trk with fwd := { act := [2] } } [(F.VST_STAT_STATE, [2], 1), (F.VST_STAT_UP_PORT, [2], 0), (F.SH_CFG_EN, [585], 1),
    (F.SH_CFG_ECHO_EN, [585], 1), (F.SH_STAT_RATE_CUR, [585], 1000)]) : State).vsOfPort (768 % 256) = some 2 ∧ ((setW
    { trk with fwd := { act := [2] } } [(F.VST_STAT_STATE, [2], 1), (F.VST_STAT_UP_PORT, [2], 0), (F.SH_CFG_EN, [585], 1), (F.SH_CFG_ECHO_EN,
    [585], 1), (F.SH_STAT_RATE_CUR, [585], 1000)]) : State).shTakes (576 + 4 * 2 + 1) = true ∧ ((setW { trk with fwd := { act := [2] } }
    [(F.VST_STAT_STATE, [2], 1), (F.VST_STAT_UP_PORT, [2], 0), (F.SH_CFG_EN, [585], 1), (F.SH_CFG_ECHO_EN, [585], 1), (F.SH_STAT_RATE_CUR,
    [585], 1000)]) : State).shOpen (576 + 4 * 2 + 1) = true ∧ ((setW { trk with fwd := { act := [2] } } [(F.VST_STAT_STATE, [2], 1),
    (F.VST_STAT_UP_PORT, [2], 0), (F.SH_CFG_EN, [585], 1), (F.SH_CFG_ECHO_EN, [585], 1), (F.SH_STAT_RATE_CUR, [585], 1000)]) :
    State).shDecreased (576 + 4 * 2 + 1) < 2 ^ F.SH_STAT_RATE_CUR.w) ∧
    (({ setW trk [(F.FAB_TRK_CFG_RTO, [17], 1), (F.FAB_TRK_CFG_RETRY_MAX, [17], 2), (F.CPW_TIME_TIME, [], 1000)] with trunk := [(17, { copies := [{ tseq := 0xFFFF, mem := 0, at_ := 0, tries := 1, mseq := 0, pkt := tpkt }] })] }
    : State).sealed = false ∧
    (({ setW trk [(F.FAB_TRK_CFG_RTO, [17], 1), (F.FAB_TRK_CFG_RETRY_MAX, [17], 2), (F.CPW_TIME_TIME, [], 1000)] with trunk := [(17, { copies := [{ tseq := 0xFFFF, mem := 0, at_ := 0, tries := 1, mseq := 0, pkt := tpkt }] })] }
    : State).tk 17).copies = [({ tseq := 0xFFFF, mem := 0, at_ := 0, tries := 1, mseq := 0, pkt := tpkt } : KCopy)] ∧
    ({ tseq := 0xFFFF, mem := 0, at_ := 0, tries := 1, mseq := 0, pkt := tpkt } : KCopy).tseq = (0xFFFF : W16).toNat ∧
    ({ tseq := 0xFFFF, mem := 0, at_ := 0, tries := 1, mseq := 0, pkt := tpkt } : KCopy).at_ + max 1
    (({ setW trk [(F.FAB_TRK_CFG_RTO, [17], 1), (F.FAB_TRK_CFG_RETRY_MAX, [17], 2), (F.CPW_TIME_TIME, [], 1000)] with trunk := [(17, { copies := [{ tseq := 0xFFFF, mem := 0, at_ := 0, tries := 1, mseq := 0, pkt := tpkt }] })] }
    : State).get F.FAB_TRK_CFG_RTO [17]) * 1000 ≤
    ({ setW trk [(F.FAB_TRK_CFG_RTO, [17], 1), (F.FAB_TRK_CFG_RETRY_MAX, [17], 2), (F.CPW_TIME_TIME, [], 1000)] with trunk := [(17, { copies := [{ tseq := 0xFFFF, mem := 0, at_ := 0, tries := 1, mseq := 0, pkt := tpkt }] })] }
    : State).now ∧ ({ tseq := 0xFFFF, mem := 0, at_ := 0, tries := 1, mseq := 0, pkt := tpkt } : KCopy).tries < max 1
    (({ setW trk [(F.FAB_TRK_CFG_RTO, [17], 1), (F.FAB_TRK_CFG_RETRY_MAX, [17], 2), (F.CPW_TIME_TIME, [], 1000)] with trunk := [(17, { copies := [{ tseq := 0xFFFF, mem := 0, at_ := 0, tries := 1, mseq := 0, pkt := tpkt }] })] }
    : State).get F.FAB_TRK_CFG_RETRY_MAX [17]) ∧ ({ tseq := 0xFFFF, mem := 0, at_ := 0, tries := 1, mseq := 0, pkt := tpkt } : KCopy).pkt.body =
    .tlp wr64 ∧
    ({ setW trk [(F.FAB_TRK_CFG_RTO, [17], 1), (F.FAB_TRK_CFG_RETRY_MAX, [17], 2), (F.CPW_TIME_TIME, [], 1000)] with trunk := [(17, { copies := [{ tseq := 0xFFFF, mem := 0, at_ := 0, tries := 1, mseq := 0, pkt := tpkt }] })] }
    : State).kfp10 17 = false ∧
    (({ setW trk [(F.FAB_TRK_CFG_RTO, [17], 1), (F.FAB_TRK_CFG_RETRY_MAX, [17], 2), (F.CPW_TIME_TIME, [], 1000)] with trunk := [(17, { copies := [{ tseq := 0xFFFF, mem := 0, at_ := 0, tries := 1, mseq := 0, pkt := tpkt }] })] }
    : State).pickMember 17).isSome = true) ∧
    (({ setW trk [(F.FAB_TRK_CFG_RTO, [17], 1), (F.CPW_TIME_TIME, [], 999)] with trunk := [(17, { copies := [{ tseq := 0xFFFF, mem := 0, at_ := 0, tries := 0, mseq := 0, pkt := tpkt }] })] }
    : State).sealed = false ∧
    (({ setW trk [(F.FAB_TRK_CFG_RTO, [17], 1), (F.CPW_TIME_TIME, [], 999)] with trunk := [(17, { copies := [{ tseq := 0xFFFF, mem := 0, at_ := 0, tries := 0, mseq := 0, pkt := tpkt }] })] }
    : State).tk 17).copies = [({ tseq := 0xFFFF, mem := 0, at_ := 0, tries := 0, mseq := 0, pkt := tpkt } : KCopy)] ∧
    ({ setW trk [(F.FAB_TRK_CFG_RTO, [17], 1), (F.CPW_TIME_TIME, [], 999)] with trunk := [(17, { copies := [{ tseq := 0xFFFF, mem := 0, at_ := 0, tries := 0, mseq := 0, pkt := tpkt }] })] }
    : State).now < ({ tseq := 0xFFFF, mem := 0, at_ := 0, tries := 0, mseq := 0, pkt := tpkt } : KCopy).at_ + max 1
    (({ setW trk [(F.FAB_TRK_CFG_RTO, [17], 1), (F.CPW_TIME_TIME, [], 999)] with trunk := [(17, { copies := [{ tseq := 0xFFFF, mem := 0, at_ := 0, tries := 0, mseq := 0, pkt := tpkt }] })] }
    : State).get F.FAB_TRK_CFG_RTO [17]) * 1000) ∧ (((setW trk [(F.FAB_TRK_SEQ_RX_CUM, [17], 2), (F.FAB_TRK_CFG_ACK_IDLE, [17], 1),
    (F.CPW_TIME_TIME, [], 16)]) : State).sealed = false ∧ ((setW trk [(F.FAB_TRK_SEQ_RX_CUM, [17], 2), (F.FAB_TRK_CFG_ACK_IDLE, [17], 1),
    (F.CPW_TIME_TIME, [], 16)]) : State).tkOn 17 = true ∧ ((setW trk [(F.FAB_TRK_SEQ_RX_CUM, [17], 2), (F.FAB_TRK_CFG_ACK_IDLE, [17], 1),
    (F.CPW_TIME_TIME, [], 16)]) : State).anchor 17 = some 0 ∧ (((setW trk [(F.FAB_TRK_SEQ_RX_CUM, [17], 2), (F.FAB_TRK_CFG_ACK_IDLE, [17], 1),
    (F.CPW_TIME_TIME, [], 16)]) : State).tk 17).cumSent ≠ ((setW trk [(F.FAB_TRK_SEQ_RX_CUM, [17], 2), (F.FAB_TRK_CFG_ACK_IDLE, [17], 1),
    (F.CPW_TIME_TIME, [], 16)]) : State).get F.FAB_TRK_SEQ_RX_CUM [17] ∧ (((setW trk [(F.FAB_TRK_SEQ_RX_CUM, [17], 2), (F.FAB_TRK_CFG_ACK_IDLE,
    [17], 1), (F.CPW_TIME_TIME, [], 16)]) : State).tk 17).cumAt + max 16 (((setW trk [(F.FAB_TRK_SEQ_RX_CUM, [17], 2), (F.FAB_TRK_CFG_ACK_IDLE,
    [17], 1), (F.CPW_TIME_TIME, [], 16)]) : State).get F.FAB_TRK_CFG_ACK_IDLE [17]) ≤ ((setW trk [(F.FAB_TRK_SEQ_RX_CUM, [17], 2),
    (F.FAB_TRK_CFG_ACK_IDLE, [17], 1), (F.CPW_TIME_TIME, [], 16)]) : State).now) ∧ (((setW trk [(F.FAB_TRK_SEQ_RX_CUM, [17], 2),
    (F.FAB_TRK_CFG_ACK_IDLE, [17], 1), (F.CPW_TIME_TIME, [], 15)]) : State).sealed = false ∧ ((setW trk [(F.FAB_TRK_SEQ_RX_CUM, [17], 2),
    (F.FAB_TRK_CFG_ACK_IDLE, [17], 1), (F.CPW_TIME_TIME, [], 15)]) : State).now < (((setW trk [(F.FAB_TRK_SEQ_RX_CUM, [17], 2),
    (F.FAB_TRK_CFG_ACK_IDLE, [17], 1), (F.CPW_TIME_TIME, [], 15)]) : State).tk 17).cumAt + max 16 (((setW trk [(F.FAB_TRK_SEQ_RX_CUM, [17], 2),
    (F.FAB_TRK_CFG_ACK_IDLE, [17], 1), (F.CPW_TIME_TIME, [], 15)]) : State).get F.FAB_TRK_CFG_ACK_IDLE [17])) := by
  and_intros <;> first | decide +kernel | rfl | exact BitVec.isLt _ | exact Nat.zero_le _

/-! ### trunk bring up -/

theorem test_trunk_bring_up_hypotheses :
    (trk.sealed = false ∧ trk.canJoin (138 / 8) (138 % 8) = true ∧ (trk.get F.FAB_TRK_STAT_MEMBERS [138 / 8]).testBit (138 % 8) = false ∧
    ({ verMaj := 2 } : Hello).verMaj ≠ 1) ∧ (((setW trk [(F.PP_STAT_WIDTH, [34, 3], 4), (F.PT_CUT_CUT, [34], 2)]) : State).sealed = false ∧
    ((setW trk [(F.PP_STAT_WIDTH, [34, 3], 4), (F.PT_CUT_CUT, [34], 2)]) : State).canJoin (138 / 8) (138 % 8) = true ∧ (((setW trk
    [(F.PP_STAT_WIDTH, [34, 3], 4), (F.PT_CUT_CUT, [34], 2)]) : State).get F.FAB_TRK_STAT_MEMBERS [138 / 8]).testBit (138 % 8) = false ∧ ({} :
    Hello).verMaj = 1 ∧ ((setW trk [(F.PP_STAT_WIDTH, [34, 3], 4), (F.PT_CUT_CUT, [34], 2)]) : State).widthsDiffer (138 / 8) = true) ∧
    (trk.sealed = false ∧ trk.canJoin (138 / 8) (138 % 8) = true ∧ (trk.get F.FAB_TRK_STAT_MEMBERS [138 / 8]).testBit (138 % 8) = false ∧
    ({ nonce := trk.ownNonce 17 } : Hello).verMaj = 1 ∧ trk.widthsDiffer (138 / 8) = false ∧ ({ nonce := trk.ownNonce 17 } : Hello).nonce =
    trk.ownNonce (138 / 8)) ∧ (({ trk with trunk := [(17, { peer := some (1, 8) })] } : State).sealed = false ∧
    ({ trk with trunk := [(17, { peer := some (1, 8) })] } : State).canJoin (138 / 8) (138 % 8) = true ∧
    ({ trk with trunk := [(17, { peer := some (1, 8) })] } : State).tkOn (138 / 8) = true ∧
    (({ trk with trunk := [(17, { peer := some (1, 8) })] } : State).get F.FAB_TRK_STAT_MEMBERS [138 / 8]).testBit (138 % 8) = false ∧
    ({ device := 1, trunkPort := 16, nonce := 2 ^ 32 } : Hello).verMaj = 1 ∧ ({ trk with trunk := [(17, { peer := some (1, 8) })] } :
    State).widthsDiffer (138 / 8) = false ∧ ({ trk with trunk := [(17, { peer := some (1, 8) })] } : State).ownNonce (138 / 8) <
    ({ device := 1, trunkPort := 16, nonce := 2 ^ 32 } : Hello).nonce ∧ (({ trk with trunk := [(17, { peer := some (1, 8) })] } : State).tk (138
    / 8)).peer = some (1, 8) ∧ (1, 8) ≠ (({ device := 1, trunkPort := 16, nonce := 2 ^ 32 } : Hello).device,
    ({ device := 1, trunkPort := 16, nonce := 2 ^ 32 } : Hello).trunkPort)) ∧ (trk0.sealed = false ∧ trk0.canJoin (138 / 8) (138 % 8) = true ∧
    trk0.tkOn (138 / 8) = false ∧ (trk0.get F.FAB_TRK_STAT_MEMBERS [138 / 8]).testBit (138 % 8) = false ∧
    ({ device := 1, trunkPort := 16, nonce := 2 ^ 32 } : Hello).verMaj = 1 ∧ ({ device := 1, trunkPort := 16, nonce := 2 ^ 32 } : Hello).device
    < 64 ∧ trk0.widthsDiffer (138 / 8) = false ∧ trk0.ownNonce (138 / 8) < ({ device := 1, trunkPort := 16, nonce := 2 ^ 32 } : Hello).nonce ∧
    trk0.tk (138 / 8) = {} ∧ trk0.fwd.trunkq.lookD (138 / 8) [] = []) ∧ (({ trk0 with trunk := [(17, { hello := [(2, {})] })] } : State).sealed
    = false ∧ ({ trk0 with trunk := [(17, { hello := [(2, {})] })] } : State).canJoin (138 / 8) (138 % 8) = true ∧
    ({ trk0 with trunk := [(17, { hello := [(2, {})] })] } : State).tkOn (138 / 8) = false ∧
    (({ trk0 with trunk := [(17, { hello := [(2, {})] })] } : State).get F.FAB_TRK_STAT_MEMBERS [138 / 8]).testBit (138 % 8) = false ∧
    (({ trk0 with trunk := [(17, { hello := [(2, {})] })] } : State).tk (138 / 8)).hello.look (138 % 8) = some ({} : Hello) ∧ ({} : Hello).nonce
    ≤ ({ trk0 with trunk := [(17, { hello := [(2, {})] })] } : State).ownNonce (138 / 8) ∧
    ({ trk0 with trunk := [(17, { hello := [(2, {})] })] } : State).fwd.trunkq.lookD (138 / 8) [] = []) ∧
    (({ trk with trunk := [(17, { hello := [(2, {})] })] } : State).sealed = false ∧ ({ trk with trunk := [(17, { hello := [(2, {})] })] } :
    State).canJoin (138 / 8) (138 % 8) = true ∧ ({ trk with trunk := [(17, { hello := [(2, {})] })] } : State).tkOn (138 / 8) = true ∧
    (({ trk with trunk := [(17, { hello := [(2, {})] })] } : State).get F.FAB_TRK_STAT_MEMBERS [138 / 8]).testBit (138 % 8) = false ∧
    (({ trk with trunk := [(17, { hello := [(2, {})] })] } : State).tk (138 / 8)).hello.look (138 % 8) = some ({} : Hello) ∧
    ({ trk with trunk := [(17, { hello := [(2, {})] })] } : State).fwd.trunkq.lookD (138 / 8) [] = []) ∧
    (({ trk with trunk := [(17, { hello := [(2, { nonce := 2 ^ 32 })] })] } : State).sealed = false ∧
    ({ trk with trunk := [(17, { hello := [(2, { nonce := 2 ^ 32 })] })] } : State).canJoin (138 / 8) (138 % 8) = true ∧
    ({ trk with trunk := [(17, { hello := [(2, { nonce := 2 ^ 32 })] })] } : State).tkOn (138 / 8) = true ∧
    (({ trk with trunk := [(17, { hello := [(2, { nonce := 2 ^ 32 })] })] } : State).get F.FAB_TRK_STAT_MEMBERS [138 / 8]).testBit (138 % 8) =
    false ∧ (({ trk with trunk := [(17, { hello := [(2, { nonce := 2 ^ 32 })] })] } : State).tk (138 / 8)).hello.look (138 % 8) = some
    ({ nonce := 2 ^ 32 } : Hello) ∧ ({ trk with trunk := [(17, { hello := [(2, { nonce := 2 ^ 32 })] })] } : State).ownNonce (138 / 8) <
    ({ nonce := 2 ^ 32 } : Hello).nonce ∧ ({ trk with trunk := [(17, { hello := [(2, { nonce := 2 ^ 32 })] })] } : State).fwd.trunkq.lookD (138
    / 8) [] = []) ∧ (trk0.sealed = false ∧ trk0.canJoin (139 / 8) (139 % 8) = true ∧ (trk0.get F.FAB_TRK_STAT_MEMBERS [139 / 8]).testBit (139 %
    8) = false ∧ 139 ∉ trk0.lnk.dozeAsk ∧ 139 % 8 ∉ (trk0.tk (139 / 8)).asked) ∧ (({ trk with trunk := [(17, { asked := [3] })] } :
    State).sealed = false ∧ ({ trk with trunk := [(17, { asked := [3] })] } : State).canJoin (139 / 8) (139 % 8) = true ∧
    (({ trk with trunk := [(17, { asked := [3] })] } : State).get F.FAB_TRK_STAT_MEMBERS [139 / 8]).testBit (139 % 8) = false ∧ 139 ∉
    ({ trk with trunk := [(17, { asked := [3] })] } : State).lnk.dozeAsk ∧ 139 % 8 ∈ (({ trk with trunk := [(17, { asked := [3] })] } :
    State).tk (139 / 8)).asked) ∧ (trk0.granted (.core 0 : Init) true ⟨.FAB_TRK_FC, [17]⟩ 8 ∧ (∃ c < 4, fget (0x0101010101010201 : W64) (16 * c)
    8 ≤ fget (0x0101010101010201 : W64) (16 * c + 8) 8)) ∧ (trk0.granted (.core 0 : Init) true ⟨.FAB_TRK_FC, [17]⟩ 8 ∧ (∀ c < 4, fget
    (0x0001000100010001 : W64) (16 * c + 8) 8 < fget (0x0001000100010001 : W64) (16 * c) 8 ∧ fget (0x0001000100010001 : W64) (16 * c) 8 ≤
    rxUnits c) ∧ trk0.tkOn 17 = false) ∧ (up.granted (.core 0 : Init) true ⟨.FAB_TRK_CFG, [17]⟩ 4 ∧ up.get F.FAB_DEV_ROLE [] = 0 ∧ (1 :
    W32).getLsbD 0 = true) ∧ (((setW trk0 [(F.FAB_TRK_CFG_EN, [17], 0)]) : State).granted (.core 0 : Init) true ⟨.FAB_TRK_CFG, [17]⟩ 4 ∧ ((setW
    trk0 [(F.FAB_TRK_CFG_EN, [17], 0)]) : State).get F.FAB_DEV_ROLE [] ≠ 0 ∧ ((setW trk0 [(F.FAB_TRK_CFG_EN, [17], 0)]) : State).on
    F.FAB_TRK_CFG_EN [17] = false ∧ (0xFFFFFFFF : W32).getLsbD 0 = true ∧ 2 ∈ ((setW trk0 [(F.FAB_TRK_CFG_EN, [17], 0)]) : State).kfpPorts 17 ∧
    ((setW trk0 [(F.FAB_TRK_CFG_EN, [17], 0)]) : State).inL0 (8 * 17 + 2) = true) := by
  and_intros <;> first | decide +kernel | rfl | exact BitVec.isLt _ | exact Nat.zero_le _

/-! ### trunk loss -/

theorem test_trunk_loss_hypotheses :
    (trk.sealed = false ∧ (trk.get F.FAB_TRK_STAT_MEMBERS [136 / 8]).testBit (136 % 8) = true ∧ (trk.get F.FAB_TRK_STAT_MEMBERS [136 /
    8]).testBit 1 = true ∧ 1 ≠ 136 % 8 ∧ trk.role 136 = 2 ∧ trk.inL0 136 = true ∧ (trk.tk (136 / 8)).copies = [] ∧ trk.fwd.trunkq.lookD (136 /
    8) [] = []) ∧ (({ trk with trunk := [(17, { hello := [(1, { member := 5 })] })] } : State).sealed = false ∧
    ({ trk with trunk := [(17, { hello := [(1, { member := 5 })] })] } : State).ownMember (136 / 8) 5 = 1 ∧ 1 < 8 ∧
    (({ trk with trunk := [(17, { hello := [(1, { member := 5 })] })] } : State).get F.FAB_TRK_STAT_MEMBERS [136 / 8]).testBit 1 = true ∧
    (({ trk with trunk := [(17, { hello := [(1, { member := 5 })] })] } : State).get F.FAB_TRK_STAT_MEMBERS [136 / 8]).testBit 0 = true ∧ 0 ≠ 1
    ∧ ({ trk with trunk := [(17, { hello := [(1, { member := 5 })] })] } : State).role (8 * (136 / 8) + 1) = 2 ∧
    ({ trk with trunk := [(17, { hello := [(1, { member := 5 })] })] } : State).inL0 (8 * (136 / 8) + 1) = true ∧
    (({ trk with trunk := [(17, { hello := [(1, { member := 5 })] })] } : State).tk (136 / 8)).copies = [] ∧
    ({ trk with trunk := [(17, { hello := [(1, { member := 5 })] })] } : State).fwd.trunkq.lookD (136 / 8) [] = []) ∧
    (({ setW trk [(F.FAB_TRK_STAT_MEMBERS, [17], 2)] with trunk := [(17, { copies := [{ tseq := 0xFFFF, mem := 0, at_ := 0, tries := 0, mseq := 0, pkt := tpkt }] })] }
    : State).sealed = false ∧
    ({ setW trk [(F.FAB_TRK_STAT_MEMBERS, [17], 2)] with trunk := [(17, { copies := [{ tseq := 0xFFFF, mem := 0, at_ := 0, tries := 0, mseq := 0, pkt := tpkt }] })] }
    : State).get F.FAB_TRK_STAT_MEMBERS [137 / 8] = 2 ^ (137 % 8)) ∧
    (({ trk with trunk := [(17, { copies := [{ tseq := 0xFFFF, mem := 0, at_ := 0, tries := 0, mseq := 0, pkt := tpkt }] })] } : State).sealed =
    false ∧ ({ trk with trunk := [(17, { copies := [{ tseq := 0xFFFF, mem := 0, at_ := 0, tries := 0, mseq := 0, pkt := tpkt }] })] } :
    State).tkOn 17 = true ∧ 0 <
    ({ trk with trunk := [(17, { copies := [{ tseq := 0xFFFF, mem := 0, at_ := 0, tries := 0, mseq := 0, pkt := tpkt }] })] } : State).get
    F.FAB_TRK_STAT_MEMBERS [17]) := by
  and_intros <;> first | decide +kernel | rfl | exact BitVec.isLt _ | exact Nat.zero_le _

/-! ### accesses by address -/

theorem test_accesses_by_address_hypotheses :
    (up.sealed = false ∧ (∀ i, (.core 0 : Init) ≠ .tenant i) ∧ Reg.ofOffset (0x50008 : Nat) = some ((⟨.FAB_MGR, []⟩ : Reg), 0) ∧ (⟨.FAB_MGR, []⟩
    : Reg).n ∈ [RN.PT_DOZE, .PT_GATE_CFG, .PT_CONG, .PT_GATE_STAT, .RTR_LINK, .SEC_GATE_LOG, .PT_WIN_LOG, .PT_TRK_CFG, .PT_CPL_LOG, .FAB_MGR] ∧
    up.checkAcc (.core 0 : Init) true true (0x50008 : Nat) (if (⟨.FAB_MGR, []⟩ : Reg).n.wide then 8 else 4) = (up, .ok)) ∧ (up.sealed = false ∧
    (∀ i, (.relay : Init) ≠ .tenant i) ∧ (0x110000 : Nat) < 2 ^ 26 ∧ slotOf (0x110000 : Nat) = none) ∧ (up.sealed = false ∧ (∀ i, (.core 1 :
    Init) ≠ .tenant i) ∧ (0x50002 : Nat) < 2 ^ 26 ∧ (slotOf (0x50002 : Nat)).isSome = true ∧ (true = false ∨ (4 ≠ 4 ∧ 4 ≠ 8) ∨ (0x50002 : Nat) %
    4 ≠ 0)) ∧ (((setW up [(F.SEC_GATE_BASE_O_PERM, [0, 5], 0), (F.SEC_GATE_BASE_V_PERM, [0, 5], 0), (F.SEC_GATE_BASE_O_PERM, [1, 5], 0),
    (F.SEC_GATE_BASE_V_PERM, [1, 5], 0)]) : State).sealed = false ∧ (∀ i, (.core 0 : Init) ≠ .tenant i) ∧ slotOf (0x50010 : Nat) = some (5, 16)
    ∧ (4 = 4 ∨ 4 = 8) ∧ (0x50010 : Nat) % 4 = 0 ∧ ((setW up [(F.SEC_GATE_BASE_O_PERM, [0, 5], 0), (F.SEC_GATE_BASE_V_PERM, [0, 5], 0),
    (F.SEC_GATE_BASE_O_PERM, [1, 5], 0), (F.SEC_GATE_BASE_V_PERM, [1, 5], 0)]) : State).gateRefused (((setW up [(F.SEC_GATE_BASE_O_PERM, [0, 5],
    0), (F.SEC_GATE_BASE_V_PERM, [0, 5], 0), (F.SEC_GATE_BASE_O_PERM, [1, 5], 0), (F.SEC_GATE_BASE_V_PERM, [1, 5], 0)]) : State).gateBankOf
    (((setW up [(F.SEC_GATE_BASE_O_PERM, [0, 5], 0), (F.SEC_GATE_BASE_V_PERM, [0, 5], 0), (F.SEC_GATE_BASE_O_PERM, [1, 5], 0),
    (F.SEC_GATE_BASE_V_PERM, [1, 5], 0)]) : State).checkStn (.core 0 : Init))) 5 (((setW up [(F.SEC_GATE_BASE_O_PERM, [0, 5], 0),
    (F.SEC_GATE_BASE_V_PERM, [0, 5], 0), (F.SEC_GATE_BASE_O_PERM, [1, 5], 0), (F.SEC_GATE_BASE_V_PERM, [1, 5], 0)]) : State).levelOf (.core 0 :
    Init)) 1 16 4 = some 16 ∧ 5 < 256 ∧ 16 < 2 ^ 24) ∧ (((setW up [(F.CPW_CLKEN_EN, [0], 0)]) : State).sealed = false ∧ (∀ i, (.core 0 : Init) ≠
    .tenant i) ∧ slotOf (0x50010 : Nat) = some (5, 16) ∧ (4 = 4 ∨ 4 = 8) ∧ (0x50010 : Nat) % 4 = 0 ∧ ((setW up [(F.CPW_CLKEN_EN, [0], 0)]) :
    State).gateRefused (((setW up [(F.CPW_CLKEN_EN, [0], 0)]) : State).gateBankOf (((setW up [(F.CPW_CLKEN_EN, [0], 0)]) : State).checkStn
    (.core 0 : Init))) 5 (((setW up [(F.CPW_CLKEN_EN, [0], 0)]) : State).levelOf (.core 0 : Init)) 1 16 4 = none ∧ ((setW up [(F.CPW_CLKEN_EN,
    [0], 0)]) : State).clkEn 5 = false ∧ 5 < 256 ∧ 16 < 2 ^ 24) ∧ (up.sealed = false ∧ instForm (0x1002 : Nat) 4 true true = false) ∧ (up.sealed
    = false ∧ 1 ≤ 1 ∧ (0x3FFF : Nat) / 0x1000 = 3 ∧ (0x3FFF : Nat) % 0x1000 + 1 ≤ 0x1000 ∧ up.on F.SEC_GATE_LOG_VALID [] = false) := by
  and_intros <;> first | decide +kernel | rfl | exact BitVec.isLt _ | exact Nat.zero_le _

/-! ### endpoint and relay requests -/

theorem test_endpoint_and_relay_requests_hypotheses :
    (up.sealed = false ∧ up.restarting = false ∧ Reg.ofOffset (0x50008 : W32).toNat = some ((⟨.FAB_MGR, []⟩ : Reg), 0) ∧ (⟨.FAB_MGR, []⟩ :
    Reg).n ∈ [RN.PT_DOZE, .PT_CONG, .RTR_LINK, .SEC_GATE_LOG, .PT_TRK_CFG, .FAB_MGR, .GLB_ID, .GSV_STAT] ∧ 4 = (if (⟨.FAB_MGR, []⟩ : Reg).n.wide
    then 8 else 4) ∧ up.checkAcc .sideband false true (0x50008 : W32).toNat 4 = (up, .ok)) ∧ (((setW up [(F.GSV_STAT_SAFE, [], 1)]) :
    State).sealed = true ∧ Reg.ofOffset (0x20000 : W32).toNat = some ((⟨.GSV_STAT, []⟩ : Reg), 0) ∧ (⟨.GSV_STAT, []⟩ : Reg).n ∈ [RN.GLB_ID,
    .GSV_STAT] ∧ 4 = (if (⟨.GSV_STAT, []⟩ : Reg).n.wide then 8 else 4) ∧ (0x20000 : W32).toNat % 4 = 0 ∧ ((setW up [(F.GSV_STAT_SAFE, [], 1)]) :
    State).gateRefused (((setW up [(F.GSV_STAT_SAFE, [], 1)]) : State).gateBankOf (((setW up [(F.GSV_STAT_SAFE, [], 1)]) : State).checkStn
    .sideband)) (⟨.GSV_STAT, []⟩ : Reg).slotOff.1 .o 0 (⟨.GSV_STAT, []⟩ : Reg).slotOff.2 4 = none) ∧ ((((setW up [(F.GSV_STAT_SAFE, [], 1)]) :
    State).sealed = true ∨ ((setW up [(F.GSV_STAT_SAFE, [], 1)]) : State).restarting = true) ∧ (slotOf (0x50010 : W32).toNat).all (fun p => p.1
    != 0 && p.1 != 2) = true) ∧ (up.sealed = false ∧ up.restarting = false ∧ 2 ≠ 4 ∧ 2 ≠ 8) ∧ (up.sealed = false ∧ up.restarting = false ∧
    Reg.ofOffset (0x50008 : W32).toNat = some ((⟨.FAB_MGR, []⟩ : Reg), 0) ∧ (⟨.FAB_MGR, []⟩ : Reg).n ∈ [RN.PT_DOZE, .PT_CONG, .FAB_MGR] ∧ 4 = 4
    ∧ up.checkAcc .sideband true true (0x50008 : W32).toNat 4 = (up, .ok)) ∧ ((((setW up [(F.MGR_RESTART_ACTIVE, [], 1)]) : State).sealed = true
    ∨ ((setW up [(F.MGR_RESTART_ACTIVE, [], 1)]) : State).restarting = true)) ∧ (1 ≤ 7 ∧ 7 ≤ 7 ∧
    ({ up with journal := [{ seq := 3, time := 0, kind := 4, orig := 4 }, { seq := 4, time := 0, kind := 4, orig := 4 }] } : State).journal.any
    (fun e => e.seq == (4 : W64).toNat) = true) ∧ ((8 = 0 ∨ 7 < 8)) ∧ (up.sealed = false ∧ up.restarting = false ∧ 9 ≠ 0 ∧ 9 ≠ 0xFF) ∧ ((((setW
    up [(F.MGR_RESTART_ACTIVE, [], 1)]) : State).sealed = true ∨ ((setW up [(F.MGR_RESTART_ACTIVE, [], 1)]) : State).restarting = true)) ∧
    (({ up with sec := { sess := [0, 2] } } : State).sealed = false ∧ ({ up with sec := { sess := [0, 2] } } : State).restarting = false ∧
    ({ up with sec := { sess := [0, 2] } } : State).secDown = false ∧ ({ up with sec := { sess := [0, 2] } } : State).sec.sess.length < 16 ∧
    (List.range 16).find? (fun k => !({ up with sec := { sess := [0, 2] } } : State).sec.sess.contains k) = some 1) ∧
    (({ up with sec := { sess := List.range 16 } } : State).sealed = false ∧ ({ up with sec := { sess := List.range 16 } } : State).restarting =
    false ∧ ({ up with sec := { sess := List.range 16 } } : State).secDown = false ∧ 16 ≤ ({ up with sec := { sess := List.range 16 } } :
    State).sec.sess.length) ∧ (({ up with sec := { meas := [(3, [1])] } } : State).sealed = false ∧ ({ up with sec := { meas := [(3, [1])] } } :
    State).restarting = false ∧ ({ up with sec := { meas := [(3, [1])] } } : State).secDown = false ∧ 1 ≤ 3 ∧ 3 ≤ 11 ∧
    ({ up with sec := { meas := [(3, [1])] } } : State).sec.meas.look 3 = some ([1] : List Byte)) ∧ (trk.sealed = false ∧ trk.restarting = false
    ∧ trk.get F.FAB_DEV_ROLE [] ≠ 0 ∧ trk.tkOn 17 = true ∧ (1023 : BitVec 14).toNat = trk.devNum * 256 + 0xFF ∧ (0 : W32).toNat = trk.get
    F.FAB_DEV_MGR_EPOCH [] ∧ Reg.ofOffset (0x50008 : Nat) = some ((⟨.FAB_MGR, []⟩ : Reg), 0) ∧ (⟨.FAB_MGR, []⟩ : Reg).n ∈ [RN.PT_DOZE, .PT_CONG,
    .RTR_LINK, .FAB_MGR] ∧ 4 = 4 ∧ trk.checkAcc .relay false true (0x50008 : Nat) 4 = (trk, .ok)) ∧ (trk.sealed = false ∧ trk.restarting = false
    ∧ trk.get F.FAB_DEV_ROLE [] ≠ 0 ∧ trk.tkOn 17 = true ∧ (1023 : BitVec 14).toNat = trk.devNum * 256 + 0xFF ∧ trk.get F.FAB_DEV_MGR_EPOCH [] <
    (5 : W32).toNat ∧ trk.acting = false ∧ Reg.ofOffset (0x50008 : Nat) = some ((⟨.FAB_MGR, []⟩ : Reg), 0) ∧ (⟨.FAB_MGR, []⟩ : Reg).n ∈
    [RN.PT_DOZE, .PT_CONG, .FAB_MGR] ∧ 4 = 4 ∧ trk.checkAcc .relay true true (0x50008 : Nat) 4 = (trk, .ok)) ∧ (((setW trk [(F.FAB_RT_EGRESS,
    [0, 5], 8)]) : State).sealed = false ∧ ((setW trk [(F.FAB_RT_EGRESS, [0, 5], 8)]) : State).get F.FAB_DEV_ROLE [] ≠ 0 ∧ ((setW trk
    [(F.FAB_RT_EGRESS, [0, 5], 8)]) : State).tkOn 17 = true ∧ (0x5FF : BitVec 14).toNat % 256 = 0xFF ∧ (0x5FF : BitVec 14).toNat / 256 < 33 ∧
    (0x5FF : BitVec 14).toNat / 256 ≠ ((setW trk [(F.FAB_RT_EGRESS, [0, 5], 8)]) : State).devNum ∧ ((setW trk [(F.FAB_RT_EGRESS, [0, 5], 8)]) :
    State).reachesDev ((0x5FF : BitVec 14).toNat / 256) = true) ∧ (((setW trk [(F.FAB_DEV_MGR_EPOCH, [], 2)]) : State).sealed = false ∧ (1023 :
    BitVec 14).toNat = ((setW trk [(F.FAB_DEV_MGR_EPOCH, [], 2)]) : State).devNum * 256 + 0xFF ∧ (1 : W32).toNat < ((setW trk
    [(F.FAB_DEV_MGR_EPOCH, [], 2)]) : State).get F.FAB_DEV_MGR_EPOCH []) := by
  and_intros <;> first | decide +kernel | rfl | exact BitVec.isLt _ | exact Nat.zero_le _

/-! ### boot updates and restarts -/

theorem test_boot_updates_and_restarts_hypotheses :
    (((setW State.reset [(F.CPW_TB_STAT_LOCKED, [], 1), (F.CPW_STRAP_BOOT_SEL, [], 1)]) : State).sealed = false ∧ ((setW State.reset
    [(F.CPW_TB_STAT_LOCKED, [], 1), (F.CPW_STRAP_BOOT_SEL, [], 1)]) : State).mayBoot = true ∧ ((setW State.reset [(F.CPW_TB_STAT_LOCKED, [], 1),
    (F.CPW_STRAP_BOOT_SEL, [], 1)]) : State).on F.CPW_STRAP_BOOT_SEL [] = true) ∧ (((setW State.reset [(F.CPW_TB_STAT_LOCKED, [], 1)]) :
    State).sealed = false ∧ ((setW State.reset [(F.CPW_TB_STAT_LOCKED, [], 1)]) : State).mayBoot = true ∧ ((setW State.reset
    [(F.CPW_TB_STAT_LOCKED, [], 1)]) : State).on F.CPW_STRAP_BOOT_SEL [] = false ∧ ((setW State.reset [(F.CPW_TB_STAT_LOCKED, [], 1)]) :
    State).tryImage ((setW State.reset [(F.CPW_TB_STAT_LOCKED, [], 1)]) : State).activeImage (([1] : List (Fin 2)).map (fun y => y.val)) ≠ 0 ∧
    ((setW State.reset [(F.CPW_TB_STAT_LOCKED, [], 1)]) : State).tryImage (1 - ((setW State.reset [(F.CPW_TB_STAT_LOCKED, [], 1)]) :
    State).activeImage) (([1] : List (Fin 2)).map (fun y => y.val)) ≠ 0) ∧ (((setW { State.reset with sec := { record := some 1 } }
    [(F.CPW_TB_STAT_LOCKED, [], 1)]) : State).sealed = false ∧ ((setW { State.reset with sec := { record := some 1 } } [(F.CPW_TB_STAT_LOCKED,
    [], 1)]) : State).mayBoot = true ∧ ((setW { State.reset with sec := { record := some 1 } } [(F.CPW_TB_STAT_LOCKED, [], 1)]) : State).on
    F.CPW_STRAP_BOOT_SEL [] = false ∧ ((setW { State.reset with sec := { record := some 1 } } [(F.CPW_TB_STAT_LOCKED, [], 1)]) :
    State).sec.record = some 1 ∧ 1 < 2) ∧ (up.sealed = false ∧ up.restarting = false ∧ up.sec.upd = none ∧ ((1 : W16) = 1 ∨ ((1 : W16) = 2 ∧
    up.on F.SEC_BOOT_RECOVERY [] = false))) ∧ (({ up with sec := { upd := some 1 } } : State).sealed = false ∧
    ({ up with sec := { upd := some 1 } } : State).sec.upd.isSome = true) ∧ (({ up with sec := { upd := some 2 } } : State).sealed = false ∧
    ({ up with sec := { upd := some 2 } } : State).sec.upd = some 2) ∧ (({ up with sec := { upd := some 1 } } : State).sealed = false ∧
    ({ up with sec := { upd := some 1 } } : State).sec.upd = some 1 ∧ ({ up with sec := { upd := some 1 } } : State).on F.SEC_BOOT_RECOVERY [] =
    false) ∧ (up.sealed = false ∧ up.sec.ready = none) ∧ (({ up with sec := { ready := some (1, [5]) } } : State).sealed = false ∧
    ({ up with sec := { ready := some (1, [5]) } } : State).restarting = false ∧ ({ up with sec := { ready := some (1, [5]) } } : State).on
    F.SEC_BOOT_RECOVERY [] = false ∧ ({ up with sec := { ready := some (1, [5]) } } : State).sec.ready = some (1, ([5] : List Byte))) ∧ (((setW
    { up with sec := { ready := some (2, [5]) } } [(F.CPW_PD_STATE, [36], 1)]) : State).sealed = false ∧ ((setW
    { up with sec := { ready := some (2, [5]) } } [(F.CPW_PD_STATE, [36], 1)]) : State).restarting = false ∧ ((setW
    { up with sec := { ready := some (2, [5]) } } [(F.CPW_PD_STATE, [36], 1)]) : State).on F.SEC_BOOT_RECOVERY [] = false ∧ ((setW
    { up with sec := { ready := some (2, [5]) } } [(F.CPW_PD_STATE, [36], 1)]) : State).sec.ready = some (2, ([5] : List Byte))) ∧ (((setW
    { up with sec := { activating := some (0, 5) } } [(F.CPW_TIME_TIME, [], 200000005)]) : State).sealed = false ∧ ((setW
    { up with sec := { activating := some (0, 5) } } [(F.CPW_TIME_TIME, [], 200000005)]) : State).sec.activating = some (0, 5) ∧ 5 + 200000000 ≤
    ((setW { up with sec := { activating := some (0, 5) } } [(F.CPW_TIME_TIME, [], 200000005)]) : State).now) ∧
    (({ up with sec := { activating := some (0, 5) } } : State).sealed = false ∧ ({ up with sec := { activating := some (0, 5) } } :
    State).sec.activating = some (0, 5) ∧ ({ up with sec := { activating := some (0, 5) } } : State).now < 5 + 200000000) ∧
    (({ up with mgr := { up.mgr with restart := some 0x1234 } } : State).sealed = false ∧
    ({ up with mgr := { up.mgr with restart := some 0x1234 } } : State).restarting = false ∧
    ({ up with mgr := { up.mgr with restart := some 0x1234 } } : State).mgr.restart = some (0x1234 : Nat)) ∧ (((setW up [(F.MGR_RESTART_ACTIVE,
    [], 1), (F.MGR_RESTART_COUNT, [], 255), (F.CPW_TIME_TIME, [], 50000)]) : State).sealed = false ∧ ((setW up [(F.MGR_RESTART_ACTIVE, [], 1),
    (F.MGR_RESTART_COUNT, [], 255), (F.CPW_TIME_TIME, [], 50000)]) : State).on F.MGR_RESTART_ACTIVE [] = true ∧ ((setW up
    [(F.MGR_RESTART_ACTIVE, [], 1), (F.MGR_RESTART_COUNT, [], 255), (F.CPW_TIME_TIME, [], 50000)]) : State).sec.activating = none ∧ ((setW up
    [(F.MGR_RESTART_ACTIVE, [], 1), (F.MGR_RESTART_COUNT, [], 255), (F.CPW_TIME_TIME, [], 50000)]) : State).fwd.swaps = [] ∧ ((setW up
    [(F.MGR_RESTART_ACTIVE, [], 1), (F.MGR_RESTART_COUNT, [], 255), (F.CPW_TIME_TIME, [], 50000)]) : State).mgr.run = none ∧ ((setW up
    [(F.MGR_RESTART_ACTIVE, [], 1), (F.MGR_RESTART_COUNT, [], 255), (F.CPW_TIME_TIME, [], 50000)]) : State).mgr.queue = [] ∧ ((setW up
    [(F.MGR_RESTART_ACTIVE, [], 1), (F.MGR_RESTART_COUNT, [], 255), (F.CPW_TIME_TIME, [], 50000)]) : State).mesh.inbox.lookD stnMgt0 [] = []) ∧
    (up.sealed = false ∧ up.on F.MGR_RESTART_ACTIVE [] = false) := by
  and_intros <;> first | decide +kernel | rfl | exact BitVec.isLt _ | exact Nat.zero_le _

/-! ### a device in a transaction -/

theorem test_a_device_in_a_transaction_hypotheses :
    (({ trk with fab := { staged := [(7, .route 1 2 3 1)] } } : State).sealed = false ∧ ({ trk with fab := { staged := [(7, .route 1 2 3 1)] } }
    : State).get F.FAB_DEV_ROLE [] ≠ 0 ∧ ({ trk with fab := { staged := [(7, .route 1 2 3 1)] } } : State).acting = false ∧
    ({ trk with fab := { staged := [(7, .route 1 2 3 1)] } } : State).get F.FAB_TXN_STATE [] = 0 ∧
    ({ trk with fab := { staged := [(7, .route 1 2 3 1)] } } : State).fwd.swaps = [] ∧ ((∀ k ∈ ([0, 3] : List (Fin 4)), k = 0 ∨ k = 3)) ∧ ((∀ x
    ∈ ({ trk with fab := { staged := [(7, .route 1 2 3 1)] } } : State).fab.staged, x.1 = (7 : W16).toNat →
    ({ trk with fab := { staged := [(7, .route 1 2 3 1)] } } : State).chgCheck x.2 = 0))) ∧
    (({ trk with fab := { staged := [(7, .unbind 1 2)] } } : State).sealed = false ∧ ({ trk with fab := { staged := [(7, .unbind 1 2)] } } :
    State).get F.FAB_DEV_ROLE [] ≠ 0 ∧ ({ trk with fab := { staged := [(7, .unbind 1 2)] } } : State).acting = false ∧
    ({ trk with fab := { staged := [(7, .unbind 1 2)] } } : State).get F.FAB_TXN_STATE [] = 0 ∧
    ({ trk with fab := { staged := [(7, .unbind 1 2)] } } : State).fwd.swaps = [] ∧ ((∀ k ∈ ([0] : List (Fin 4)), k = 0 ∨ k = 3)) ∧
    ({ trk with fab := { staged := [(7, .unbind 1 2)] } } : State).fab.staged = [((7 : W16).toNat, (.unbind 1 2 : FabChg))] ∧
    ({ trk with fab := { staged := [(7, .unbind 1 2)] } } : State).chgCheck (.unbind 1 2 : FabChg) ≠ 0) ∧ (((setW trk [(F.FAB_TXN_STATE, [], 2),
    (F.FAB_TXN_TXN_ID, [], 6)]) : State).sealed = false ∧ ((setW trk [(F.FAB_TXN_STATE, [], 2), (F.FAB_TXN_TXN_ID, [], 6)]) : State).get
    F.FAB_DEV_ROLE [] ≠ 0 ∧ ((setW trk [(F.FAB_TXN_STATE, [], 2), (F.FAB_TXN_TXN_ID, [], 6)]) : State).acting = false ∧ (((setW trk
    [(F.FAB_TXN_STATE, [], 2), (F.FAB_TXN_TXN_ID, [], 6)]) : State).get F.FAB_TXN_STATE [] = 1 ∨ ((setW trk [(F.FAB_TXN_STATE, [], 2),
    (F.FAB_TXN_TXN_ID, [], 6)]) : State).get F.FAB_TXN_STATE [] = 2) ∧ ((setW trk [(F.FAB_TXN_STATE, [], 2), (F.FAB_TXN_TXN_ID, [], 6)]) :
    State).get F.FAB_TXN_TXN_ID [] ≠ (7 : W16).toNat) ∧ (((setW trk [(F.FAB_TXN_STATE, [], 1), (F.FAB_TXN_TXN_ID, [], 7)]) : State).sealed =
    false ∧ ((setW trk [(F.FAB_TXN_STATE, [], 1), (F.FAB_TXN_TXN_ID, [], 7)]) : State).get F.FAB_DEV_ROLE [] ≠ 0 ∧ ((setW trk [(F.FAB_TXN_STATE,
    [], 1), (F.FAB_TXN_TXN_ID, [], 7)]) : State).acting = false ∧ ((setW trk [(F.FAB_TXN_STATE, [], 1), (F.FAB_TXN_TXN_ID, [], 7)]) : State).get
    F.FAB_TXN_STATE [] = 1 ∧ ((setW trk [(F.FAB_TXN_STATE, [], 1), (F.FAB_TXN_TXN_ID, [], 7)]) : State).get F.FAB_TXN_TXN_ID [] = (7 :
    W16).toNat ∧ ((setW trk [(F.FAB_TXN_STATE, [], 1), (F.FAB_TXN_TXN_ID, [], 7)]) : State).fabTime ≤ (100 : W64).toNat) ∧ (((setW
    { trk with fab := { sets := [3] } } [(F.FAB_TXN_STATE, [], 1), (F.FAB_TXN_TXN_ID, [], 7), (F.FAB_TIME_TIME, [], 100)]) : State).sealed =
    false ∧ ((setW { trk with fab := { sets := [3] } } [(F.FAB_TXN_STATE, [], 1), (F.FAB_TXN_TXN_ID, [], 7), (F.FAB_TIME_TIME, [], 100)]) :
    State).get F.FAB_DEV_ROLE [] ≠ 0 ∧ ((setW { trk with fab := { sets := [3] } } [(F.FAB_TXN_STATE, [], 1), (F.FAB_TXN_TXN_ID, [], 7),
    (F.FAB_TIME_TIME, [], 100)]) : State).acting = false ∧ ((setW { trk with fab := { sets := [3] } } [(F.FAB_TXN_STATE, [], 1),
    (F.FAB_TXN_TXN_ID, [], 7), (F.FAB_TIME_TIME, [], 100)]) : State).get F.FAB_TXN_STATE [] = 1 ∧ ((setW { trk with fab := { sets := [3] } }
    [(F.FAB_TXN_STATE, [], 1), (F.FAB_TXN_TXN_ID, [], 7), (F.FAB_TIME_TIME, [], 100)]) : State).get F.FAB_TXN_TXN_ID [] = (7 : W16).toNat ∧ (99
    : W64).toNat < ((setW { trk with fab := { sets := [3] } } [(F.FAB_TXN_STATE, [], 1), (F.FAB_TXN_TXN_ID, [], 7), (F.FAB_TIME_TIME, [], 100)])
    : State).fabTime ∧ ((setW { trk with fab := { sets := [3] } } [(F.FAB_TXN_STATE, [], 1), (F.FAB_TXN_TXN_ID, [], 7), (F.FAB_TIME_TIME, [],
    100)]) : State).fab.sets = [3] ∧ ((setW { trk with fab := { sets := [3] } } [(F.FAB_TXN_STATE, [], 1), (F.FAB_TXN_TXN_ID, [], 7),
    (F.FAB_TIME_TIME, [], 100)]) : State).fab.staged = [] ∧ ((setW { trk with fab := { sets := [3] } } [(F.FAB_TXN_STATE, [], 1),
    (F.FAB_TXN_TXN_ID, [], 7), (F.FAB_TIME_TIME, [], 100)]) : State).fwd.own = []) ∧ (((setW
    { trk with fab := { sets := [3], due := some 100 } } [(F.FAB_TXN_STATE, [], 1), (F.FAB_TIME_TIME, [], 100), (F.FAB_RT_EGRESS, [1, 4], 8)]) :
    State).sealed = false ∧ ((setW { trk with fab := { sets := [3], due := some 100 } } [(F.FAB_TXN_STATE, [], 1), (F.FAB_TIME_TIME, [], 100),
    (F.FAB_RT_EGRESS, [1, 4], 8)]) : State).get F.FAB_TXN_STATE [] = 1 ∧ ((setW { trk with fab := { sets := [3], due := some 100 } }
    [(F.FAB_TXN_STATE, [], 1), (F.FAB_TIME_TIME, [], 100), (F.FAB_RT_EGRESS, [1, 4], 8)]) : State).fab.due = some 100 ∧ 100 ≤ ((setW
    { trk with fab := { sets := [3], due := some 100 } } [(F.FAB_TXN_STATE, [], 1), (F.FAB_TIME_TIME, [], 100), (F.FAB_RT_EGRESS, [1, 4], 8)]) :
    State).fabTime ∧ ((setW { trk with fab := { sets := [3], due := some 100 } } [(F.FAB_TXN_STATE, [], 1), (F.FAB_TIME_TIME, [], 100),
    (F.FAB_RT_EGRESS, [1, 4], 8)]) : State).fab.sets = [3] ∧ ((setW { trk with fab := { sets := [3], due := some 100 } } [(F.FAB_TXN_STATE, [],
    1), (F.FAB_TIME_TIME, [], 100), (F.FAB_RT_EGRESS, [1, 4], 8)]) : State).fab.staged = [] ∧ ((setW
    { trk with fab := { sets := [3], due := some 100 } } [(F.FAB_TXN_STATE, [], 1), (F.FAB_TIME_TIME, [], 100), (F.FAB_RT_EGRESS, [1, 4], 8)]) :
    State).fwd.own = [] ∧ ((setW { trk with fab := { sets := [3], due := some 100 } } [(F.FAB_TXN_STATE, [], 1), (F.FAB_TIME_TIME, [], 100),
    (F.FAB_RT_EGRESS, [1, 4], 8)]) : State).fab.txn = none ∧ ((setW { trk with fab := { sets := [3], due := some 100 } } [(F.FAB_TXN_STATE, [],
    1), (F.FAB_TIME_TIME, [], 100), (F.FAB_RT_EGRESS, [1, 4], 8)]) : State).mgr.queue = []) ∧ (((setW { trk with fab := { due := some 100 } }
    [(F.FAB_TXN_STATE, [], 1), (F.FAB_TIME_TIME, [], 99)]) : State).sealed = false ∧ ((setW { trk with fab := { due := some 100 } }
    [(F.FAB_TXN_STATE, [], 1), (F.FAB_TIME_TIME, [], 99)]) : State).fab.due = some 100 ∧ ((setW { trk with fab := { due := some 100 } }
    [(F.FAB_TXN_STATE, [], 1), (F.FAB_TIME_TIME, [], 99)]) : State).fabTime < 100 ∧ ((setW { trk with fab := { due := some 100 } }
    [(F.FAB_TXN_STATE, [], 1), (F.FAB_TIME_TIME, [], 99)]) : State).fab.txn = none ∧ ((setW { trk with fab := { due := some 100 } }
    [(F.FAB_TXN_STATE, [], 1), (F.FAB_TIME_TIME, [], 99)]) : State).mgr.queue = []) ∧ (((setW trk [(F.FAB_TXN_STATE, [], 1), (F.FAB_TXN_TXN_ID,
    [], 7)]) : State).sealed = false ∧ ((setW trk [(F.FAB_TXN_STATE, [], 1), (F.FAB_TXN_TXN_ID, [], 7)]) : State).get F.FAB_DEV_ROLE [] ≠ 0 ∧
    ((setW trk [(F.FAB_TXN_STATE, [], 1), (F.FAB_TXN_TXN_ID, [], 7)]) : State).acting = false ∧ ((setW trk [(F.FAB_TXN_STATE, [], 1),
    (F.FAB_TXN_TXN_ID, [], 7)]) : State).get F.FAB_TXN_STATE [] = 1 ∧ ((setW trk [(F.FAB_TXN_STATE, [], 1), (F.FAB_TXN_TXN_ID, [], 7)]) :
    State).get F.FAB_TXN_TXN_ID [] = (7 : W16).toNat ∧ ((setW trk [(F.FAB_TXN_STATE, [], 1), (F.FAB_TXN_TXN_ID, [], 7)]) : State).fab.sets = [])
    ∧ (((setW trk [(F.FAB_TXN_STATE, [], 1), (F.CPW_TIME_TIME, [], 100000000)]) : State).sealed = false ∧ ((setW trk [(F.FAB_TXN_STATE, [], 1),
    (F.CPW_TIME_TIME, [], 100000000)]) : State).get F.FAB_TXN_STATE [] = 1 ∧ ((setW trk [(F.FAB_TXN_STATE, [], 1), (F.CPW_TIME_TIME, [],
    100000000)]) : State).fab.due = none ∧ ((setW trk [(F.FAB_TXN_STATE, [], 1), (F.CPW_TIME_TIME, [], 100000000)]) : State).fab.readyAt +
    100000000 ≤ ((setW trk [(F.FAB_TXN_STATE, [], 1), (F.CPW_TIME_TIME, [], 100000000)]) : State).now ∧ ((setW trk [(F.FAB_TXN_STATE, [], 1),
    (F.CPW_TIME_TIME, [], 100000000)]) : State).fab.sets = []) ∧ (((setW trk [(F.FAB_TXN_STATE, [], 1), (F.CPW_TIME_TIME, [], 99999999)]) :
    State).sealed = false ∧ ((setW trk [(F.FAB_TXN_STATE, [], 1), (F.CPW_TIME_TIME, [], 99999999)]) : State).now < ((setW trk [(F.FAB_TXN_STATE,
    [], 1), (F.CPW_TIME_TIME, [], 99999999)]) : State).fab.readyAt + 100000000) ∧ (({ trk with fab := { syncs := 1 } } : State).sealed = false ∧
    ({ trk with fab := { syncs := 1 } } : State).get F.FAB_DEV_ROLE [] ≠ 0 ∧ ({ trk with fab := { syncs := 1 } } : State).acting = false ∧
    ({ trk with fab := { syncs := 1 } } : State).devNum ≠ 0x3F ∧ 2 * (-100 : Int) = (((0 : W64).toNat : Int) - (100 : W64).toNat) + (((0 :
    W64).toNat : Int) - (100 : W64).toNat) ∧ -32768 ≤ (-100 : Int) ∧ (-100 : Int) ≤ 32767 ∧ ({ trk with fab := { syncs := 1 } } :
    State).fab.syncs = 1) ∧ (({ net with fwd := { net.fwd with rbound := [(4, 0x405)] } } : State).sealed = false ∧
    ({ net with fwd := { net.fwd with rbound := [(4, 0x405)] } } : State).fwd.rbound.look 4 ≠ some (0x406 : BitVec 14).toNat) ∧
    (({ trk with fwd := { trk.fwd with rbound := [(137, 0x405)] } } : State).sealed = false ∧
    ({ trk with fwd := { trk.fwd with rbound := [(137, 0x405)] } } : State).fwd.rbound.look 137 = some (0x405 : BitVec 14).toNat ∧
    ({ trk with fwd := { trk.fwd with rbound := [(137, 0x405)] } } : State).role 137 = 2 ∧
    ({ trk with fwd := { trk.fwd with rbound := [(137, 0x405)] } } : State).inL0 137 = true) ∧
    (({ net with fwd := { net.fwd with rbound := [(4, 0x405)] } } : State).sealed = false ∧
    ({ net with fwd := { net.fwd with rbound := [(4, 0x405)] } } : State).fwd.rbound.look 4 = some (0x405 : BitVec 14).toNat) ∧
    (({ net with fwd := { net.fwd with rbound := [(4, 0x405)] } } : State).sealed = false ∧
    ({ net with fwd := { net.fwd with rbound := [(4, 0x405)] } } : State).fwd.rbound.look 4 = some (0x405 : BitVec 14).toNat) ∧ (((setW net
    [(F.VST_SLOT_KIND, [2, 1], 3), (F.VST_SLOT_TARGET, [2, 1], 0x405)]) : State).sealed = false ∧ ((setW net [(F.VST_SLOT_KIND, [2, 1], 3),
    (F.VST_SLOT_TARGET, [2, 1], 0x405)]) : State).remoteSlot (0x405 : BitVec 14).toNat = some (2, 1)) ∧ (((setW
    { net with vsx := { net.vsx with remoteUp := [(2, 1)] } } [(F.VST_SLOT_KIND, [2, 1], 3), (F.VST_SLOT_TARGET, [2, 1], 0x405)]) :
    State).sealed = false ∧ ((setW { net with vsx := { net.vsx with remoteUp := [(2, 1)] } } [(F.VST_SLOT_KIND, [2, 1], 3), (F.VST_SLOT_TARGET,
    [2, 1], 0x405)]) : State).remoteSlot (0x405 : BitVec 14).toNat = some (2, 1) ∧ ((setW
    { net with vsx := { net.vsx with remoteUp := [(2, 1)] } } [(F.VST_SLOT_KIND, [2, 1], 3), (F.VST_SLOT_TARGET, [2, 1], 0x405)]) :
    State).contained 2 1 = false ∧ (2, 1) ∈ ((setW { net with vsx := { net.vsx with remoteUp := [(2, 1)] } } [(F.VST_SLOT_KIND, [2, 1], 3),
    (F.VST_SLOT_TARGET, [2, 1], 0x405)]) : State).vsx.remoteUp ∧ (2, 1) ∉ ((setW { net with vsx := { net.vsx with remoteUp := [(2, 1)] } }
    [(F.VST_SLOT_KIND, [2, 1], 3), (F.VST_SLOT_TARGET, [2, 1], 0x405)]) : State).vsx.remoteRst ∧ ((setW
    { net with vsx := { net.vsx with remoteUp := [(2, 1)] } } [(F.VST_SLOT_KIND, [2, 1], 3), (F.VST_SLOT_TARGET, [2, 1], 0x405)]) : State).cf
    (.vdsp 2 1) .slotPower = 0 ∧ ((setW { net with vsx := { net.vsx with remoteUp := [(2, 1)] } } [(F.VST_SLOT_KIND, [2, 1], 3),
    (F.VST_SLOT_TARGET, [2, 1], 0x405)]) : State).cf (.vdsp 2 1) .linkDisable = 0) ∧ (net.sealed = false ∧ net.remoteSlot (0x405 : BitVec
    14).toNat = none) ∧ (((setW trk [(F.FAB_DEV_NUM, [], 0x3F)]) : State).sealed = false ∧ ((setW trk [(F.FAB_DEV_NUM, [], 0x3F)]) : State).get
    F.FAB_DEV_ROLE [] ≠ 0 ∧ ((setW trk [(F.FAB_DEV_NUM, [], 0x3F)]) : State).devNum = 0x3F) ∧ (trk.sealed = false ∧ trk.devNum ≠ 0x3F) := by
  and_intros <;> first | decide +kernel | rfl | exact BitVec.isLt _ | exact Nat.zero_le _

/-! ### the bellwether and its standby -/

theorem test_the_bellwether_and_its_standby_hypotheses :
    (bell.sealed = false ∧ bell.acting = true ∧ 0 ∈ bell.fab.devs) ∧ (bell.sealed = false ∧ bell.acting = true ∧ bell.devNum = 0 ∧ 0 ∈
    bell.fab.devs ∧ 1 ∉ bell.fab.devs ∧ topoOk (bell.fab.devs ++ [1]) (bell.fab.links ++ [(0, 17, 1, 3)]) bell.devNum = true ∧ bell.fab.txn =
    none) ∧ (({ bell with fab := { devs := [0, 2, 3, 4, 5], links := [(0, 16, 2, 0), (2, 1, 3, 0), (3, 1, 4, 0)] } } : State).sealed = false ∧
    ({ bell with fab := { devs := [0, 2, 3, 4, 5], links := [(0, 16, 2, 0), (2, 1, 3, 0), (3, 1, 4, 0)] } } : State).acting = true ∧ 4 ∈
    ({ bell with fab := { devs := [0, 2, 3, 4, 5], links := [(0, 16, 2, 0), (2, 1, 3, 0), (3, 1, 4, 0)] } } : State).fab.devs ∧ 7 ∉
    ({ bell with fab := { devs := [0, 2, 3, 4, 5], links := [(0, 16, 2, 0), (2, 1, 3, 0), (3, 1, 4, 0)] } } : State).fab.devs ∧ topoOk
    (({ bell with fab := { devs := [0, 2, 3, 4, 5], links := [(0, 16, 2, 0), (2, 1, 3, 0), (3, 1, 4, 0)] } } : State).fab.devs ++ [7])
    (({ bell with fab := { devs := [0, 2, 3, 4, 5], links := [(0, 16, 2, 0), (2, 1, 3, 0), (3, 1, 4, 0)] } } : State).fab.links ++ [(4, 17, 7,
    3)]) ({ bell with fab := { devs := [0, 2, 3, 4, 5], links := [(0, 16, 2, 0), (2, 1, 3, 0), (3, 1, 4, 0)] } } : State).devNum = false) ∧
    (({ bell with fab := { txn := some { id := 9, phase := 1, left := [2], devs := [0, 2, 3] } } } : State).sealed = false ∧
    ({ bell with fab := { txn := some { id := 9, phase := 1, left := [2], devs := [0, 2, 3] } } } : State).fab.txn = some
    ({ id := 9, phase := 1, left := [2], devs := [0, 2, 3] } : FabTxn) ∧ ({ id := 9, phase := 1, left := [2], devs := [0, 2, 3] } : FabTxn).id =
    (9 : W16).toNat ∧ ({ id := 9, phase := 1, left := [2], devs := [0, 2, 3] } : FabTxn).phase = 1 ∧
    ({ id := 9, phase := 1, left := [2], devs := [0, 2, 3] } : FabTxn).status = 0 ∧ ({ id := 9, phase := 1, left := [2], devs := [0, 2, 3] } :
    FabTxn).left = [2] ∧ 2 ∈ ({ id := 9, phase := 1, left := [2], devs := [0, 2, 3] } : FabTxn).devs ∧ 2 ≠
    ({ bell with fab := { txn := some { id := 9, phase := 1, left := [2], devs := [0, 2, 3] } } } : State).devNum ∧ 3 ∈
    ({ id := 9, phase := 1, left := [2], devs := [0, 2, 3] } : FabTxn).devs ∧ 3 ≠
    ({ bell with fab := { txn := some { id := 9, phase := 1, left := [2], devs := [0, 2, 3] } } } : State).devNum ∧
    ({ bell with fab := { txn := some { id := 9, phase := 1, left := [2], devs := [0, 2, 3] } } } : State).mgr.queue = []) ∧
    (({ bell with fab := { txn := some { id := 9, phase := 1, left := [2], devs := [0, 2, 3] } } } : State).sealed = false ∧
    ({ bell with fab := { txn := some { id := 9, phase := 1, left := [2], devs := [0, 2, 3] } } } : State).fab.txn = some
    ({ id := 9, phase := 1, left := [2], devs := [0, 2, 3] } : FabTxn) ∧ ({ id := 9, phase := 1, left := [2], devs := [0, 2, 3] } : FabTxn).id =
    (9 : W16).toNat ∧ ({ id := 9, phase := 1, left := [2], devs := [0, 2, 3] } : FabTxn).phase = 1 ∧
    ({ id := 9, phase := 1, left := [2], devs := [0, 2, 3] } : FabTxn).status = 0 ∧ (0x14 : Fin 256) ≠ 0 ∧
    ({ id := 9, phase := 1, left := [2], devs := [0, 2, 3] } : FabTxn).left = [2] ∧ 2 ∈ ({ id := 9, phase := 1, left := [2], devs := [0, 2, 3] }
    : FabTxn).devs ∧ 2 ≠ ({ bell with fab := { txn := some { id := 9, phase := 1, left := [2], devs := [0, 2, 3] } } } : State).devNum ∧ 3 ∈
    ({ id := 9, phase := 1, left := [2], devs := [0, 2, 3] } : FabTxn).devs ∧ 3 ≠
    ({ bell with fab := { txn := some { id := 9, phase := 1, left := [2], devs := [0, 2, 3] } } } : State).devNum ∧
    ({ bell with fab := { txn := some { id := 9, phase := 1, left := [2], devs := [0, 2, 3] } } } : State).mgr.queue = []) ∧ (((setW
    { bell with fab := { txn := some { id := 9, phase := 1, left := [2], devs := [0, 2, 3] } } } [(F.CPW_TIME_TIME, [], 1000000)]) :
    State).sealed = false ∧ ((setW { bell with fab := { txn := some { id := 9, phase := 1, left := [2], devs := [0, 2, 3] } } }
    [(F.CPW_TIME_TIME, [], 1000000)]) : State).fab.txn = some ({ id := 9, phase := 1, left := [2], devs := [0, 2, 3] } : FabTxn) ∧
    ({ id := 9, phase := 1, left := [2], devs := [0, 2, 3] } : FabTxn).phase = 1 ∧ ({ id := 9, phase := 1, left := [2], devs := [0, 2, 3] } :
    FabTxn).status = 0 ∧ ({ id := 9, phase := 1, left := [2], devs := [0, 2, 3] } : FabTxn).left ≠ [] ∧
    ({ id := 9, phase := 1, left := [2], devs := [0, 2, 3] } : FabTxn).at_ + 1000000 ≤ ((setW
    { bell with fab := { txn := some { id := 9, phase := 1, left := [2], devs := [0, 2, 3] } } } [(F.CPW_TIME_TIME, [], 1000000)]) : State).now
    ∧ 3 ∈ ({ id := 9, phase := 1, left := [2], devs := [0, 2, 3] } : FabTxn).devs ∧ 3 ≠ ((setW
    { bell with fab := { txn := some { id := 9, phase := 1, left := [2], devs := [0, 2, 3] } } } [(F.CPW_TIME_TIME, [], 1000000)]) :
    State).devNum ∧ ((setW { bell with fab := { txn := some { id := 9, phase := 1, left := [2], devs := [0, 2, 3] } } } [(F.CPW_TIME_TIME, [],
    1000000)]) : State).mgr.queue = []) ∧ (((setW { bell with fab := { txn := some { id := 9, phase := 1, left := [2], devs := [0, 2, 3] } } }
    [(F.CPW_TIME_TIME, [], 999999)]) : State).sealed = false ∧ ((setW
    { bell with fab := { txn := some { id := 9, phase := 1, left := [2], devs := [0, 2, 3] } } } [(F.CPW_TIME_TIME, [], 999999)]) :
    State).fab.txn = some ({ id := 9, phase := 1, left := [2], devs := [0, 2, 3] } : FabTxn) ∧ ((setW
    { bell with fab := { txn := some { id := 9, phase := 1, left := [2], devs := [0, 2, 3] } } } [(F.CPW_TIME_TIME, [], 999999)]) : State).now <
    ({ id := 9, phase := 1, left := [2], devs := [0, 2, 3] } : FabTxn).at_ + 1000000) ∧
    (({ bell with fab := { txn := some { id := 9, phase := 2, left := [2, 3], devs := [0, 2, 3] } } } : State).sealed = false ∧
    ({ bell with fab := { txn := some { id := 9, phase := 2, left := [2, 3], devs := [0, 2, 3] } } } : State).fab.txn = some
    ({ id := 9, phase := 2, left := [2, 3], devs := [0, 2, 3] } : FabTxn) ∧ ({ id := 9, phase := 2, left := [2, 3], devs := [0, 2, 3] } :
    FabTxn).id = (9 : W16).toNat ∧ ({ id := 9, phase := 2, left := [2, 3], devs := [0, 2, 3] } : FabTxn).phase = 2 ∧
    ({ id := 9, phase := 2, left := [2, 3], devs := [0, 2, 3] } : FabTxn).left.filter (fun y => y != 2) ≠ [] ∧
    ({ bell with fab := { txn := some { id := 9, phase := 2, left := [2, 3], devs := [0, 2, 3] } } } : State).mgr.queue = []) ∧
    (({ bell with fab := { txn := some { id := 9, phase := 3, left := [2], devs := [0, 2, 3] } } } : State).sealed = false ∧
    ({ bell with fab := { txn := some { id := 9, phase := 3, left := [2], devs := [0, 2, 3] } } } : State).fab.txn = some
    ({ id := 9, phase := 3, left := [2], devs := [0, 2, 3] } : FabTxn) ∧ ({ id := 9, phase := 3, left := [2], devs := [0, 2, 3] } : FabTxn).id =
    (9 : W16).toNat ∧ ({ id := 9, phase := 3, left := [2], devs := [0, 2, 3] } : FabTxn).phase = 3 ∧
    ({ id := 9, phase := 3, left := [2], devs := [0, 2, 3] } : FabTxn).left = [2] ∧ ({ id := 9, phase := 3, left := [2], devs := [0, 2, 3] } :
    FabTxn).job = none ∧ ({ id := 9, phase := 3, left := [2], devs := [0, 2, 3] } : FabTxn).take = 0 ∧
    ({ bell with fab := { txn := some { id := 9, phase := 3, left := [2], devs := [0, 2, 3] } } } : State).fab.waiting = [] ∧
    ({ bell with fab := { txn := some { id := 9, phase := 3, left := [2], devs := [0, 2, 3] } } } : State).fab.owed = [] ∧
    ({ bell with fab := { txn := some { id := 9, phase := 3, left := [2], devs := [0, 2, 3] } } } : State).mgr.queue = []) ∧ (((setW
    { bell with fab := { txn := some { id := 9, phase := 2, left := [2, 3], devs := [0, 2, 3] } } } [(F.CPW_TIME_TIME, [], 100000)]) :
    State).sealed = false ∧ ((setW { bell with fab := { txn := some { id := 9, phase := 2, left := [2, 3], devs := [0, 2, 3] } } }
    [(F.CPW_TIME_TIME, [], 100000)]) : State).fab.txn = some ({ id := 9, phase := 2, left := [2, 3], devs := [0, 2, 3] } : FabTxn) ∧
    ({ id := 9, phase := 2, left := [2, 3], devs := [0, 2, 3] } : FabTxn).phase = 2 ∧
    ({ id := 9, phase := 2, left := [2, 3], devs := [0, 2, 3] } : FabTxn).sent + 100000 ≤ ((setW
    { bell with fab := { txn := some { id := 9, phase := 2, left := [2, 3], devs := [0, 2, 3] } } } [(F.CPW_TIME_TIME, [], 100000)]) :
    State).now) ∧ (((setW { bell with fab := { txn := some { id := 9, phase := 2, left := [2, 3], devs := [0, 2, 3] } } } [(F.CPW_TIME_TIME, [],
    99999)]) : State).sealed = false ∧ ((setW { bell with fab := { txn := some { id := 9, phase := 2, left := [2, 3], devs := [0, 2, 3] } } }
    [(F.CPW_TIME_TIME, [], 99999)]) : State).fab.txn = some ({ id := 9, phase := 2, left := [2, 3], devs := [0, 2, 3] } : FabTxn) ∧ ((setW
    { bell with fab := { txn := some { id := 9, phase := 2, left := [2, 3], devs := [0, 2, 3] } } } [(F.CPW_TIME_TIME, [], 99999)]) : State).now
    < ({ id := 9, phase := 2, left := [2, 3], devs := [0, 2, 3] } : FabTxn).sent + 100000) ∧ (trk.sealed = false ∧ trk.acting = false) ∧ (((setW
    { bell with fab := { devs := [0, 4] } } [(F.FAB_RT_EGRESS, [0, 4], 136)]) : State).sealed = false ∧ ((setW
    { bell with fab := { devs := [0, 4] } } [(F.FAB_RT_EGRESS, [0, 4], 136)]) : State).acting = true ∧ 4 ∈ ((setW
    { bell with fab := { devs := [0, 4] } } [(F.FAB_RT_EGRESS, [0, 4], 136)]) : State).fab.devs ∧ 4 ≠ ((setW
    { bell with fab := { devs := [0, 4] } } [(F.FAB_RT_EGRESS, [0, 4], 136)]) : State).devNum ∧ ((setW { bell with fab := { devs := [0, 4] } }
    [(F.FAB_RT_EGRESS, [0, 4], 136)]) : State).reachesDev 4 = true) ∧ (((setW trk [(F.FAB_DEV_NUM, [], 1)]) : State).sealed = false ∧ ((setW trk
    [(F.FAB_DEV_NUM, [], 1)]) : State).devNum = 1 ∧ ((setW trk [(F.FAB_DEV_NUM, [], 1)]) : State).acting = false) ∧ (((setW trk [(F.FAB_DEV_NUM,
    [], 1)]) : State).sealed = false ∧ ((setW trk [(F.FAB_DEV_NUM, [], 1)]) : State).devNum = 1 ∧ ((setW trk [(F.FAB_DEV_NUM, [], 1)]) :
    State).acting = false) ∧ (({ bell with fab := { ackWait := some 0, txn := some { id := 9, phase := 0, devs := [0, 2, 3] } } } :
    State).sealed = false ∧ ({ bell with fab := { ackWait := some 0, txn := some { id := 9, phase := 0, devs := [0, 2, 3] } } } :
    State).fab.ackWait = some 0 ∧ ({ bell with fab := { ackWait := some 0, txn := some { id := 9, phase := 0, devs := [0, 2, 3] } } } :
    State).fab.txn = some ({ id := 9, phase := 0, devs := [0, 2, 3] } : FabTxn) ∧ ({ id := 9, phase := 0, devs := [0, 2, 3] } : FabTxn).phase =
    0 ∧ 3 ∈ ({ id := 9, phase := 0, devs := [0, 2, 3] } : FabTxn).devs ∧ 3 ≠
    ({ bell with fab := { ackWait := some 0, txn := some { id := 9, phase := 0, devs := [0, 2, 3] } } } : State).devNum ∧
    ({ bell with fab := { ackWait := some 0, txn := some { id := 9, phase := 0, devs := [0, 2, 3] } } } : State).mgr.queue = []) ∧ (((setW
    { bell with fab := { ackWait := some 0, txn := some { id := 9, phase := 0, devs := [0, 2, 3] } } } [(F.CPW_TIME_TIME, [], 1000000)]) :
    State).sealed = false ∧ ((setW { bell with fab := { ackWait := some 0, txn := some { id := 9, phase := 0, devs := [0, 2, 3] } } }
    [(F.CPW_TIME_TIME, [], 1000000)]) : State).fab.ackWait = some 0 ∧ 0 + 1000000 ≤ ((setW
    { bell with fab := { ackWait := some 0, txn := some { id := 9, phase := 0, devs := [0, 2, 3] } } } [(F.CPW_TIME_TIME, [], 1000000)]) :
    State).now ∧ ((setW { bell with fab := { ackWait := some 0, txn := some { id := 9, phase := 0, devs := [0, 2, 3] } } } [(F.CPW_TIME_TIME,
    [], 1000000)]) : State).fab.txn = some ({ id := 9, phase := 0, devs := [0, 2, 3] } : FabTxn) ∧ ({ id := 9, phase := 0, devs := [0, 2, 3] } :
    FabTxn).phase = 0 ∧ 3 ∈ ({ id := 9, phase := 0, devs := [0, 2, 3] } : FabTxn).devs ∧ 3 ≠ ((setW
    { bell with fab := { ackWait := some 0, txn := some { id := 9, phase := 0, devs := [0, 2, 3] } } } [(F.CPW_TIME_TIME, [], 1000000)]) :
    State).devNum ∧ ((setW { bell with fab := { ackWait := some 0, txn := some { id := 9, phase := 0, devs := [0, 2, 3] } } } [(F.CPW_TIME_TIME,
    [], 1000000)]) : State).mgr.queue = []) ∧ (({ bell with fab := { ackWait := some 0 } } : State).sealed = false ∧
    ({ bell with fab := { ackWait := some 0 } } : State).fab.ackWait = some 0 ∧ ({ bell with fab := { ackWait := some 0 } } : State).now < 0 +
    1000000) ∧ (((setW { trk with fab := { devs := [0, 1, 4], links := [(1, 17, 4, 0)] } } [(F.FAB_DEV_NUM, [], 1), (F.FAB_RT_EGRESS, [0, 4],
    136), (F.CPW_TIME_TIME, [], 50000000), (F.FAB_DEV_MGR, [], 0)]) : State).sealed = false ∧ ((setW
    { trk with fab := { devs := [0, 1, 4], links := [(1, 17, 4, 0)] } } [(F.FAB_DEV_NUM, [], 1), (F.FAB_RT_EGRESS, [0, 4], 136),
    (F.CPW_TIME_TIME, [], 50000000), (F.FAB_DEV_MGR, [], 0)]) : State).devNum = 1 ∧ ((setW
    { trk with fab := { devs := [0, 1, 4], links := [(1, 17, 4, 0)] } } [(F.FAB_DEV_NUM, [], 1), (F.FAB_RT_EGRESS, [0, 4], 136),
    (F.CPW_TIME_TIME, [], 50000000), (F.FAB_DEV_MGR, [], 0)]) : State).get F.FAB_DEV_ROLE [] = 2 ∧ ((setW
    { trk with fab := { devs := [0, 1, 4], links := [(1, 17, 4, 0)] } } [(F.FAB_DEV_NUM, [], 1), (F.FAB_RT_EGRESS, [0, 4], 136),
    (F.CPW_TIME_TIME, [], 50000000), (F.FAB_DEV_MGR, [], 0)]) : State).acting = false ∧ ((setW
    { trk with fab := { devs := [0, 1, 4], links := [(1, 17, 4, 0)] } } [(F.FAB_DEV_NUM, [], 1), (F.FAB_RT_EGRESS, [0, 4], 136),
    (F.CPW_TIME_TIME, [], 50000000), (F.FAB_DEV_MGR, [], 0)]) : State).fab.hbAt + max 1 (((setW
    { trk with fab := { devs := [0, 1, 4], links := [(1, 17, 4, 0)] } } [(F.FAB_DEV_NUM, [], 1), (F.FAB_RT_EGRESS, [0, 4], 136),
    (F.CPW_TIME_TIME, [], 50000000), (F.FAB_DEV_MGR, [], 0)]) : State).get F.FAB_MGR_HB_LOSS []) * 1000000 ≤ ((setW
    { trk with fab := { devs := [0, 1, 4], links := [(1, 17, 4, 0)] } } [(F.FAB_DEV_NUM, [], 1), (F.FAB_RT_EGRESS, [0, 4], 136),
    (F.CPW_TIME_TIME, [], 50000000), (F.FAB_DEV_MGR, [], 0)]) : State).now ∧ ((setW
    { trk with fab := { devs := [0, 1, 4], links := [(1, 17, 4, 0)] } } [(F.FAB_DEV_NUM, [], 1), (F.FAB_RT_EGRESS, [0, 4], 136),
    (F.CPW_TIME_TIME, [], 50000000), (F.FAB_DEV_MGR, [], 0)]) : State).fab.mirTxn = none ∧ ((setW
    { trk with fab := { devs := [0, 1, 4], links := [(1, 17, 4, 0)] } } [(F.FAB_DEV_NUM, [], 1), (F.FAB_RT_EGRESS, [0, 4], 136),
    (F.CPW_TIME_TIME, [], 50000000), (F.FAB_DEV_MGR, [], 0)]) : State).get F.FAB_DEV_MGR_EPOCH [] + 1 < 2 ^ 32 ∧ 4 ∈ ((setW
    { trk with fab := { devs := [0, 1, 4], links := [(1, 17, 4, 0)] } } [(F.FAB_DEV_NUM, [], 1), (F.FAB_RT_EGRESS, [0, 4], 136),
    (F.CPW_TIME_TIME, [], 50000000), (F.FAB_DEV_MGR, [], 0)]) : State).fab.devs ∧ 4 ≠ 1 ∧ 4 ≠ ((setW
    { trk with fab := { devs := [0, 1, 4], links := [(1, 17, 4, 0)] } } [(F.FAB_DEV_NUM, [], 1), (F.FAB_RT_EGRESS, [0, 4], 136),
    (F.CPW_TIME_TIME, [], 50000000), (F.FAB_DEV_MGR, [], 0)]) : State).get F.FAB_DEV_MGR [] ∧ ((setW
    { trk with fab := { devs := [0, 1, 4], links := [(1, 17, 4, 0)] } } [(F.FAB_DEV_NUM, [], 1), (F.FAB_RT_EGRESS, [0, 4], 136),
    (F.CPW_TIME_TIME, [], 50000000), (F.FAB_DEV_MGR, [], 0)]) : State).reachesDev 4 = true) ∧ (trk.sealed = false) ∧ (trk.sealed = false ∧
    trk.now < trk.fab.hbAt + max 1 (trk.get F.FAB_MGR_HB_LOSS []) * 1000000) ∧ (bell.sealed = false ∧ bell.get F.FAB_DEV_ROLE [] ≠ 0 ∧
    bell.acting = true ∧ bell.get F.FAB_DEV_MGR_EPOCH [] < (4 : W32).toNat ∧ bell.fab.owed = [] ∧ bell.mgr.parked = [] ∧ bell.mgr.queue = []) ∧
    (bell.sealed = false ∧ (0 : W32).toNat ≤ bell.get F.FAB_DEV_MGR_EPOCH [] ∧ bell.mgr.queue = []) := by
  and_intros <;> first | decide +kernel | rfl | exact BitVec.isLt _ | exact Nat.zero_le _

/-! ### doorbells and descriptors -/

theorem test_doorbells_and_descriptors_hypotheses :
    (dm0.sealed = false ∧ 0 = 0x40 * 0 ∧ 0 < 8 ∧ dm0.checkSlot (.tenant 5) true 201 0 4 = (dm0, .ok) ∧ dm0.on F.QP_CTL_EN [5, 0] = true ∧ dm0.on
    F.QP_STAT_ERROR [5, 0] = false ∧ (dm0.qps 5 0).busy = false ∧ dm0.dmFetches 5 = true) ∧
    (({ dm0 with dm := { dm0.dm with qp := [((5, 0), { busy := true })] } } : State).sealed = false ∧ 0 = 0x40 * 0 ∧ 0 < 8 ∧
    ({ dm0 with dm := { dm0.dm with qp := [((5, 0), { busy := true })] } } : State).checkSlot (.tenant 5) true 201 0 4 =
    (({ dm0 with dm := { dm0.dm with qp := [((5, 0), { busy := true })] } } : State), .ok) ∧
    ({ dm0 with dm := { dm0.dm with qp := [((5, 0), { busy := true })] } } : State).on F.QP_CTL_EN [5, 0] = true ∧
    (({ dm0 with dm := { dm0.dm with qp := [((5, 0), { busy := true })] } } : State).qps 5 0).busy = true) ∧ (dm0.sealed = false ∧ dm0.checkSlot
    (.tenant 5) true 201 0x41 4 = (dm0, .ok) ∧ (0x41 % 0x40 ≠ 0 ∨ 0x200 ≤ 0x41 ∨ dm0.on F.QP_CTL_EN [5, 0x41 / 0x40] = false)) ∧ (((setW dm0
    [(F.QP_CFG_POLL_MODE, [5, 0], 1), (F.QP_CFG_POLL, [5, 0], 2), (F.CPW_TIME_TIME, [], 2000)]) : State).sealed = false ∧ ((setW dm0
    [(F.QP_CFG_POLL_MODE, [5, 0], 1), (F.QP_CFG_POLL, [5, 0], 2), (F.CPW_TIME_TIME, [], 2000)]) : State).on F.QP_CTL_EN [5, 0] = true ∧ ((setW
    dm0 [(F.QP_CFG_POLL_MODE, [5, 0], 1), (F.QP_CFG_POLL, [5, 0], 2), (F.CPW_TIME_TIME, [], 2000)]) : State).on F.QP_STAT_ERROR [5, 0] = false ∧
    ((setW dm0 [(F.QP_CFG_POLL_MODE, [5, 0], 1), (F.QP_CFG_POLL, [5, 0], 2), (F.CPW_TIME_TIME, [], 2000)]) : State).get F.QP_CFG_POLL_MODE [5,
    0] = 1 ∧ (((setW dm0 [(F.QP_CFG_POLL_MODE, [5, 0], 1), (F.QP_CFG_POLL, [5, 0], 2), (F.CPW_TIME_TIME, [], 2000)]) : State).qps 5 0).busy =
    false ∧ ((setW dm0 [(F.QP_CFG_POLL_MODE, [5, 0], 1), (F.QP_CFG_POLL, [5, 0], 2), (F.CPW_TIME_TIME, [], 2000)]) : State).dmFetches 5 = true ∧
    (((setW dm0 [(F.QP_CFG_POLL_MODE, [5, 0], 1), (F.QP_CFG_POLL, [5, 0], 2), (F.CPW_TIME_TIME, [], 2000)]) : State).qps 5 0).pollAt + 1000 *
    min 1000 (max 1 (((setW dm0 [(F.QP_CFG_POLL_MODE, [5, 0], 1), (F.QP_CFG_POLL, [5, 0], 2), (F.CPW_TIME_TIME, [], 2000)]) : State).get
    F.QP_CFG_POLL [5, 0])) ≤ ((setW dm0 [(F.QP_CFG_POLL_MODE, [5, 0], 1), (F.QP_CFG_POLL, [5, 0], 2), (F.CPW_TIME_TIME, [], 2000)]) :
    State).now) ∧ (((setW dm0 [(F.QP_CFG_POLL_MODE, [5, 0], 1), (F.QP_CFG_POLL, [5, 0], 2), (F.CPW_TIME_TIME, [], 1999)]) : State).sealed =
    false ∧ (((setW dm0 [(F.QP_CFG_POLL_MODE, [5, 0], 1), (F.QP_CFG_POLL, [5, 0], 2), (F.CPW_TIME_TIME, [], 1999)]) : State).get
    F.QP_CFG_POLL_MODE [5, 0] = 0 ∨ ((setW dm0 [(F.QP_CFG_POLL_MODE, [5, 0], 1), (F.QP_CFG_POLL, [5, 0], 2), (F.CPW_TIME_TIME, [], 1999)]) :
    State).now < (((setW dm0 [(F.QP_CFG_POLL_MODE, [5, 0], 1), (F.QP_CFG_POLL, [5, 0], 2), (F.CPW_TIME_TIME, [], 1999)]) : State).qps 5
    0).pollAt + 1000 * min 1000 (max 1 (((setW dm0 [(F.QP_CFG_POLL_MODE, [5, 0], 1), (F.QP_CFG_POLL, [5, 0], 2), (F.CPW_TIME_TIME, [], 1999)]) :
    State).get F.QP_CFG_POLL [5, 0])))) ∧ (((setW dm0 [(F.QP_STAT_CQ_WAIT, [5, 0], 1), (F.QP_CFG_POLL, [5, 0], 2), (F.CPW_TIME_TIME, [], 2000)])
    : State).sealed = false ∧ ((setW dm0 [(F.QP_STAT_CQ_WAIT, [5, 0], 1), (F.QP_CFG_POLL, [5, 0], 2), (F.CPW_TIME_TIME, [], 2000)]) : State).on
    F.QP_STAT_CQ_WAIT [5, 0] = true ∧ ((setW dm0 [(F.QP_STAT_CQ_WAIT, [5, 0], 1), (F.QP_CFG_POLL, [5, 0], 2), (F.CPW_TIME_TIME, [], 2000)]) :
    State).on F.QP_CTL_EN [5, 0] = true ∧ ((setW dm0 [(F.QP_STAT_CQ_WAIT, [5, 0], 1), (F.QP_CFG_POLL, [5, 0], 2), (F.CPW_TIME_TIME, [], 2000)])
    : State).on F.QP_STAT_ERROR [5, 0] = false ∧ (((setW dm0 [(F.QP_STAT_CQ_WAIT, [5, 0], 1), (F.QP_CFG_POLL, [5, 0], 2), (F.CPW_TIME_TIME, [],
    2000)]) : State).qps 5 0).busy = false ∧ ((setW dm0 [(F.QP_STAT_CQ_WAIT, [5, 0], 1), (F.QP_CFG_POLL, [5, 0], 2), (F.CPW_TIME_TIME, [],
    2000)]) : State).dmFetches 5 = true ∧ (((setW dm0 [(F.QP_STAT_CQ_WAIT, [5, 0], 1), (F.QP_CFG_POLL, [5, 0], 2), (F.CPW_TIME_TIME, [], 2000)])
    : State).qps 5 0).pollAt + 1000 * min 1000 (max 1 (((setW dm0 [(F.QP_STAT_CQ_WAIT, [5, 0], 1), (F.QP_CFG_POLL, [5, 0], 2), (F.CPW_TIME_TIME,
    [], 2000)]) : State).get F.QP_CFG_POLL [5, 0])) ≤ ((setW dm0 [(F.QP_STAT_CQ_WAIT, [5, 0], 1), (F.QP_CFG_POLL, [5, 0], 2), (F.CPW_TIME_TIME,
    [], 2000)]) : State).now) ∧ (dm0.sealed = false ∧ dm0.on F.QP_STAT_CQ_WAIT [5, 0] = false) ∧
    (({ setW dm0 [(F.QP_STAT_ACCEPTED, [5, 0], 0xFFFFFFFF)] with dm := { dm0.dm with qp := [((5, 0), { busy := true })] } } : State).sealed =
    false ∧ ({ setW dm0 [(F.QP_STAT_ACCEPTED, [5, 0], 0xFFFFFFFF)] with dm := { dm0.dm with qp := [((5, 0), { busy := true })] } } : State).on
    F.QP_CTL_EN [5, 0] = true ∧
    ({ setW dm0 [(F.QP_STAT_ACCEPTED, [5, 0], 0xFFFFFFFF)] with dm := { dm0.dm with qp := [((5, 0), { busy := true })] } } : State).on
    F.QP_STAT_ERROR [5, 0] = false ∧
    (({ setW dm0 [(F.QP_STAT_ACCEPTED, [5, 0], 0xFFFFFFFF)] with dm := { dm0.dm with qp := [((5, 0), { busy := true })] } } : State).qps 5
    0).busy = true ∧ (({ setW dm0 [(F.QP_STAT_ACCEPTED, [5, 0], 0xFFFFFFFF)] with dm := { dm0.dm with qp := [((5, 0), { busy := true })] } } :
    State).qps 5 0).want = false ∧
    (({ setW dm0 [(F.QP_STAT_ACCEPTED, [5, 0], 0xFFFFFFFF)] with dm := { dm0.dm with qp := [((5, 0), { busy := true })] } } : State).qps 5
    0).reading = false ∧ (({ setW dm0 [(F.QP_STAT_ACCEPTED, [5, 0], 0xFFFFFFFF)] with dm := { dm0.dm with qp := [((5, 0), { busy := true })] } }
    : State).qps 5 0).got = none ∧
    (({ setW dm0 [(F.QP_STAT_ACCEPTED, [5, 0], 0xFFFFFFFF)] with dm := { dm0.dm with qp := [((5, 0), { busy := true })] } } : State).qps 5
    0).offer = none ∧ ({ setW dm0 [(F.QP_STAT_ACCEPTED, [5, 0], 0xFFFFFFFF)] with dm := { dm0.dm with qp := [((5, 0), { busy := true })] } } :
    State).dmFetches 5 = true ∧
    ({ setW dm0 [(F.QP_STAT_ACCEPTED, [5, 0], 0xFFFFFFFF)] with dm := { dm0.dm with qp := [((5, 0), { busy := true })] } } : State).qpEntries 5
    0 = [] ∧ (2 : W32).toNat ≠
    ({ setW dm0 [(F.QP_STAT_ACCEPTED, [5, 0], 0xFFFFFFFF)] with dm := { dm0.dm with qp := [((5, 0), { busy := true })] } } : State).get
    F.QP_STAT_ACCEPTED [5, 0] ∧ ((2 : W32).toNat + 2 ^ 32 -
    ({ setW dm0 [(F.QP_STAT_ACCEPTED, [5, 0], 0xFFFFFFFF)] with dm := { dm0.dm with qp := [((5, 0), { busy := true })] } } : State).get
    F.QP_STAT_ACCEPTED [5, 0]) % 2 ^ 32 ≤ 2 ^
    ({ setW dm0 [(F.QP_STAT_ACCEPTED, [5, 0], 0xFFFFFFFF)] with dm := { dm0.dm with qp := [((5, 0), { busy := true })] } } : State).get
    F.QP_CFG_SQ_SIZE [5, 0] ∧
    (({ setW dm0 [(F.QP_STAT_ACCEPTED, [5, 0], 0xFFFFFFFF)] with dm := { dm0.dm with qp := [((5, 0), { busy := true })] } } : State).get
    F.QP_STAT_ACCEPTED [5, 0] + 2 ^ 32 - (0xFFFFFFFE : W32).toNat) % 2 ^ 32 ≤ 2 ^
    ({ setW dm0 [(F.QP_STAT_ACCEPTED, [5, 0], 0xFFFFFFFF)] with dm := { dm0.dm with qp := [((5, 0), { busy := true })] } } : State).get
    F.QP_CFG_CQ_SIZE [5, 0]) ∧
    (({ setW dm0 [(F.QP_STAT_ACCEPTED, [5, 0], 0xFFFFFFFF)] with dm := { dm0.dm with qp := [((5, 0), { busy := true })] } } : State).sealed =
    false ∧ ({ setW dm0 [(F.QP_STAT_ACCEPTED, [5, 0], 0xFFFFFFFF)] with dm := { dm0.dm with qp := [((5, 0), { busy := true })] } } : State).on
    F.QP_CTL_EN [5, 0] = true ∧
    ({ setW dm0 [(F.QP_STAT_ACCEPTED, [5, 0], 0xFFFFFFFF)] with dm := { dm0.dm with qp := [((5, 0), { busy := true })] } } : State).on
    F.QP_STAT_ERROR [5, 0] = false ∧
    (({ setW dm0 [(F.QP_STAT_ACCEPTED, [5, 0], 0xFFFFFFFF)] with dm := { dm0.dm with qp := [((5, 0), { busy := true })] } } : State).qps 5
    0).busy = true ∧ 2 ^ ({ setW dm0 [(F.QP_STAT_ACCEPTED, [5, 0], 0xFFFFFFFF)] with dm := { dm0.dm with qp := [((5, 0), { busy := true })] } }
    : State).get F.QP_CFG_SQ_SIZE [5, 0] < ((16 : W32).toNat + 2 ^ 32 -
    ({ setW dm0 [(F.QP_STAT_ACCEPTED, [5, 0], 0xFFFFFFFF)] with dm := { dm0.dm with qp := [((5, 0), { busy := true })] } } : State).get
    F.QP_STAT_ACCEPTED [5, 0]) % 2 ^ 32) ∧
    (({ setW dm0 [(F.QP_STAT_ACCEPTED, [5, 0], 0xFFFFFFFF)] with dm := { dm0.dm with qp := [((5, 0), { busy := true })] } } : State).sealed =
    false ∧ ({ setW dm0 [(F.QP_STAT_ACCEPTED, [5, 0], 0xFFFFFFFF)] with dm := { dm0.dm with qp := [((5, 0), { busy := true })] } } : State).on
    F.QP_CTL_EN [5, 0] = true ∧
    ({ setW dm0 [(F.QP_STAT_ACCEPTED, [5, 0], 0xFFFFFFFF)] with dm := { dm0.dm with qp := [((5, 0), { busy := true })] } } : State).on
    F.QP_STAT_ERROR [5, 0] = false ∧
    (({ setW dm0 [(F.QP_STAT_ACCEPTED, [5, 0], 0xFFFFFFFF)] with dm := { dm0.dm with qp := [((5, 0), { busy := true })] } } : State).qps 5
    0).busy = true ∧ 2 ^ ({ setW dm0 [(F.QP_STAT_ACCEPTED, [5, 0], 0xFFFFFFFF)] with dm := { dm0.dm with qp := [((5, 0), { busy := true })] } }
    : State).get F.QP_CFG_CQ_SIZE [5, 0] <
    (({ setW dm0 [(F.QP_STAT_ACCEPTED, [5, 0], 0xFFFFFFFF)] with dm := { dm0.dm with qp := [((5, 0), { busy := true })] } } : State).get
    F.QP_STAT_ACCEPTED [5, 0] + 2 ^ 32 - (0 : W32).toNat) % 2 ^ 32) ∧ (({ dm0 with dm := { dm0.dm with qp := [((5, 0), { busy := true })] } } :
    State).sealed = false ∧ ({ dm0 with dm := { dm0.dm with qp := [((5, 0), { busy := true })] } } : State).on F.QP_CTL_EN [5, 0] = true ∧
    ({ dm0 with dm := { dm0.dm with qp := [((5, 0), { busy := true })] } } : State).on F.QP_STAT_ERROR [5, 0] = false ∧
    (({ dm0 with dm := { dm0.dm with qp := [((5, 0), { busy := true })] } } : State).qps 5 0).busy = true) ∧
    (({ dm0 with dm := { dm0.dm with qp := [((5, 0), { reading := true })] } } : State).sealed = false ∧
    ({ dm0 with dm := { dm0.dm with qp := [((5, 0), { reading := true })] } } : State).on F.QP_CTL_EN [5, 0] = true ∧
    ({ dm0 with dm := { dm0.dm with qp := [((5, 0), { reading := true })] } } : State).on F.QP_STAT_ERROR [5, 0] = false ∧
    (({ dm0 with dm := { dm0.dm with qp := [((5, 0), { reading := true })] } } : State).qps 5 0).reading = true) ∧
    (({ dm0 with dm := { dm0.dm with qp := [((5, 0), { reading := true })] } } : State).sealed = false ∧
    ({ dm0 with dm := { dm0.dm with qp := [((5, 0), { reading := true })] } } : State).on F.QP_CTL_EN [5, 0] = true ∧
    ({ dm0 with dm := { dm0.dm with qp := [((5, 0), { reading := true })] } } : State).on F.QP_STAT_ERROR [5, 0] = false ∧
    (({ dm0 with dm := { dm0.dm with qp := [((5, 0), { reading := true })] } } : State).qps 5 0).reading = true ∧
    (({ dm0 with dm := { dm0.dm with qp := [((5, 0), { reading := true })] } } : State).qps 5 0).offer = none ∧
    ({ dm0 with dm := { dm0.dm with qp := [((5, 0), { reading := true })] } } : State).qpEntries 5 0 = [] ∧ (desc 1 0x40 : List Byte).length =
    64 ∧ ({ dm0 with dm := { dm0.dm with qp := [((5, 0), { reading := true })] } } : State).cqFree 5 0 = true ∧
    ({ dm0 with dm := { dm0.dm with qp := [((5, 0), { reading := true })] } } : State).ledgerShare 5 = true ∧
    ({ dm0 with dm := { dm0.dm with qp := [((5, 0), { reading := true })] } } : State).freeEntry 5 = some 65536) := by
  and_intros <;> first | decide +kernel | rfl | exact BitVec.isLt _ | exact Nat.zero_le _

/-! ### queue pair and ring set up -/

theorem test_queue_pair_and_ring_set_up_hypotheses :
    (((setW dm0 [(F.QP_CTL_EN, [5, 0], 0)]) : State).granted (.tenant 5) true ⟨.DM_ACCEPT, [5]⟩ 8 ∧ ((setW dm0 [(F.QP_CTL_EN, [5, 0], 0)]) :
    State).dm.flr.look 5 = none ∧ (0x3F : W64) &&& ~~~(((setW dm0 [(F.QP_CTL_EN, [5, 0], 0)]) : State).rd ⟨.DM_FEATURES, [5]⟩) = 0 ∧ (0x3F :
    W64).toNat < 64 ∧ ((setW dm0 [(F.QP_CTL_EN, [5, 0], 0)]) : State).instBusy 5 = false) ∧ (dm0.granted (.tenant 5) true ⟨.DM_ACCEPT, [5]⟩ 8 ∧
    dm0.dm.flr.look 5 = none ∧ ((1 : W64) &&& ~~~(dm0.rd ⟨.DM_FEATURES, [5]⟩) ≠ 0 ∨ dm0.instBusy 5 = true)) ∧ (((setW dm0 [(F.QP_CTL_EN, [5, 0],
    0)]) : State).granted (.tenant 5) true ⟨.QP_SQ_BASE, [5, 0]⟩ 8 ∧ ((setW dm0 [(F.QP_CTL_EN, [5, 0], 0)]) : State).dm.flr.look 5 = none ∧
    ((setW dm0 [(F.QP_CTL_EN, [5, 0], 0)]) : State).on F.QP_CTL_EN [5, 0] = false ∧ (0x7000 : W64).toNat % 4096 = 0) ∧ (dm0.granted (.tenant 5)
    true ⟨.QP_DB_ADDR, [5, 0]⟩ 8 ∧ dm0.dm.flr.look 5 = none ∧ ((0x10 : W64).toNat % 16 ≠ 0 ∨ (dm0.on F.QP_CTL_EN [5, 0] = true ∧ (0x10 : W64) ≠
    dm0.rd ⟨.QP_DB_ADDR, [5, 0]⟩))) ∧ (((setW dm0 [(F.QP_CTL_EN, [5, 0], 0)]) : State).granted (.tenant 5) true ⟨.QP_CFG, [5, 0]⟩ 4 ∧ ((setW dm0
    [(F.QP_CTL_EN, [5, 0], 0)]) : State).dm.flr.look 5 = none ∧ ((setW dm0 [(F.QP_CTL_EN, [5, 0], 0)]) : State).on F.QP_CTL_EN [5, 0] = false ∧
    4 ≤ fget (0x3FF7E04 : W64) 0 5 ∧ fget (0x3FF7E04 : W64) 0 5 ≤ 16 ∧ 4 ≤ fget (0x3FF7E04 : W64) 5 5 ∧ fget (0x3FF7E04 : W64) 5 5 ≤ 16) ∧
    (dm0.granted (.tenant 5) true ⟨.QP_CTL, [5, 1]⟩ 4 ∧ dm0.dm.flr.look 5 = none ∧ dm0.on F.QP_CTL_EN [5, 1] = false ∧ dm0.on F.QP_STAT_IDLE [5,
    1] = true) ∧ (((setW dm0 [(F.QP_STAT_IDLE, [5, 1], 0)]) : State).granted (.tenant 5) true ⟨.QP_CTL, [5, 1]⟩ 4 ∧ ((setW dm0 [(F.QP_STAT_IDLE,
    [5, 1], 0)]) : State).dm.flr.look 5 = none ∧ ((setW dm0 [(F.QP_STAT_IDLE, [5, 1], 0)]) : State).on F.QP_CTL_EN [5, 1] = false ∧ ((setW dm0
    [(F.QP_STAT_IDLE, [5, 1], 0)]) : State).on F.QP_STAT_IDLE [5, 1] = false) ∧ (dm0.granted (.tenant 5) true ⟨.QP_CTL, [5, 0]⟩ 4 ∧
    dm0.dm.flr.look 5 = none) ∧ (0 < 8 ∧ dm0.granted (.tenant 5) true ⟨.QP_IRQ, [5, 0]⟩ 4 ∧ dm0.dm.flr.look 5 = none ∧ (dm0.qps 5 0).irq = 0) ∧
    (({ setW dm0 [(F.QP_IRQ_EN, [5, 0], 1), (F.QP_IRQ_VEC, [5, 0], 3), (F.IMSIX_CTRL_MASK, [5, 3], 0), (F.QP_IRQ_COUNT, [5, 0], 2)] with dm := { dm0.dm with qp := [((5, 0), { irq := 2 })] } }
    : State).sealed = false ∧ 0 < 8 ∧
    ({ setW dm0 [(F.QP_IRQ_EN, [5, 0], 1), (F.QP_IRQ_VEC, [5, 0], 3), (F.IMSIX_CTRL_MASK, [5, 3], 0), (F.QP_IRQ_COUNT, [5, 0], 2)] with dm := { dm0.dm with qp := [((5, 0), { irq := 2 })] } }
    : State).on F.QP_IRQ_EN [5, 0] = true ∧ 0 <
    (({ setW dm0 [(F.QP_IRQ_EN, [5, 0], 1), (F.QP_IRQ_VEC, [5, 0], 3), (F.IMSIX_CTRL_MASK, [5, 3], 0), (F.QP_IRQ_COUNT, [5, 0], 2)] with dm := { dm0.dm with qp := [((5, 0), { irq := 2 })] } }
    : State).qps 5 0).irq ∧
    (({ setW dm0 [(F.QP_IRQ_EN, [5, 0], 1), (F.QP_IRQ_VEC, [5, 0], 3), (F.IMSIX_CTRL_MASK, [5, 3], 0), (F.QP_IRQ_COUNT, [5, 0], 2)] with dm := { dm0.dm with qp := [((5, 0), { irq := 2 })] } }
    : State).get F.QP_IRQ_COUNT [5, 0] ≤
    (({ setW dm0 [(F.QP_IRQ_EN, [5, 0], 1), (F.QP_IRQ_VEC, [5, 0], 3), (F.IMSIX_CTRL_MASK, [5, 3], 0), (F.QP_IRQ_COUNT, [5, 0], 2)] with dm := { dm0.dm with qp := [((5, 0), { irq := 2 })] } }
    : State).qps 5 0).irq ∨
    (({ setW dm0 [(F.QP_IRQ_EN, [5, 0], 1), (F.QP_IRQ_VEC, [5, 0], 3), (F.IMSIX_CTRL_MASK, [5, 3], 0), (F.QP_IRQ_COUNT, [5, 0], 2)] with dm := { dm0.dm with qp := [((5, 0), { irq := 2 })] } }
    : State).qps 5 0).irqAt + min 1000
    (({ setW dm0 [(F.QP_IRQ_EN, [5, 0], 1), (F.QP_IRQ_VEC, [5, 0], 3), (F.IMSIX_CTRL_MASK, [5, 3], 0), (F.QP_IRQ_COUNT, [5, 0], 2)] with dm := { dm0.dm with qp := [((5, 0), { irq := 2 })] } }
    : State).get F.QP_IRQ_TIME [5, 0]) * 1000 ≤
    ({ setW dm0 [(F.QP_IRQ_EN, [5, 0], 1), (F.QP_IRQ_VEC, [5, 0], 3), (F.IMSIX_CTRL_MASK, [5, 3], 0), (F.QP_IRQ_COUNT, [5, 0], 2)] with dm := { dm0.dm with qp := [((5, 0), { irq := 2 })] } }
    : State).now) ∧
    ({ setW dm0 [(F.QP_IRQ_EN, [5, 0], 1), (F.QP_IRQ_VEC, [5, 0], 3), (F.IMSIX_CTRL_MASK, [5, 3], 0), (F.QP_IRQ_COUNT, [5, 0], 2)] with dm := { dm0.dm with qp := [((5, 0), { irq := 2 })] } }
    : State).on F.IMSIX_CTRL_MASK [5,
    ({ setW dm0 [(F.QP_IRQ_EN, [5, 0], 1), (F.QP_IRQ_VEC, [5, 0], 3), (F.IMSIX_CTRL_MASK, [5, 3], 0), (F.QP_IRQ_COUNT, [5, 0], 2)] with dm := { dm0.dm with qp := [((5, 0), { irq := 2 })] } }
    : State).get F.QP_IRQ_VEC [5, 0]] = false ∧
    ({ setW dm0 [(F.QP_IRQ_EN, [5, 0], 1), (F.QP_IRQ_VEC, [5, 0], 3), (F.IMSIX_CTRL_MASK, [5, 3], 0), (F.QP_IRQ_COUNT, [5, 0], 2)] with dm := { dm0.dm with qp := [((5, 0), { irq := 2 })] } }
    : State).dmIssue 5 = true) ∧
    (({ setW dm0 [(F.QP_IRQ_EN, [5, 0], 1), (F.QP_IRQ_TIME, [5, 0], 1), (F.CPW_TIME_TIME, [], 999), (F.QP_IRQ_COUNT, [5, 0], 2)] with dm := { dm0.dm with qp := [((5, 0), { irq := 1 })] } }
    : State).sealed = false ∧ 0 < 8 ∧
    (({ setW dm0 [(F.QP_IRQ_EN, [5, 0], 1), (F.QP_IRQ_TIME, [5, 0], 1), (F.CPW_TIME_TIME, [], 999), (F.QP_IRQ_COUNT, [5, 0], 2)] with dm := { dm0.dm with qp := [((5, 0), { irq := 1 })] } }
    : State).qps 5 0).irq < max 1
    (({ setW dm0 [(F.QP_IRQ_EN, [5, 0], 1), (F.QP_IRQ_TIME, [5, 0], 1), (F.CPW_TIME_TIME, [], 999), (F.QP_IRQ_COUNT, [5, 0], 2)] with dm := { dm0.dm with qp := [((5, 0), { irq := 1 })] } }
    : State).get F.QP_IRQ_COUNT [5, 0]) ∧
    ({ setW dm0 [(F.QP_IRQ_EN, [5, 0], 1), (F.QP_IRQ_TIME, [5, 0], 1), (F.CPW_TIME_TIME, [], 999), (F.QP_IRQ_COUNT, [5, 0], 2)] with dm := { dm0.dm with qp := [((5, 0), { irq := 1 })] } }
    : State).now <
    (({ setW dm0 [(F.QP_IRQ_EN, [5, 0], 1), (F.QP_IRQ_TIME, [5, 0], 1), (F.CPW_TIME_TIME, [], 999), (F.QP_IRQ_COUNT, [5, 0], 2)] with dm := { dm0.dm with qp := [((5, 0), { irq := 1 })] } }
    : State).qps 5 0).irqAt + min 1000
    (({ setW dm0 [(F.QP_IRQ_EN, [5, 0], 1), (F.QP_IRQ_TIME, [5, 0], 1), (F.CPW_TIME_TIME, [], 999), (F.QP_IRQ_COUNT, [5, 0], 2)] with dm := { dm0.dm with qp := [((5, 0), { irq := 1 })] } }
    : State).get F.QP_IRQ_TIME [5, 0]) * 1000) ∧ (((setW dm0 [(F.DM_ACCEPT_ACCEPT, [5], 1)]) : State).granted (.tenant 5) true ⟨.RX_CFG, [5]⟩ 4
    ∧ ((setW dm0 [(F.DM_ACCEPT_ACCEPT, [5], 1)]) : State).dm.flr.look 5 = none ∧ (9 : W64).getLsbD 0 = true ∧ 4 ≤ fget (9 : W64) 1 5 ∧ fget (9 :
    W64) 1 5 ≤ 16 ∧ ((setW dm0 [(F.DM_ACCEPT_ACCEPT, [5], 1)]) : State).on F.RX_CFG_EN [5] = false ∧ ((setW dm0 [(F.DM_ACCEPT_ACCEPT, [5], 1)])
    : State).on F.RX_CFG_IDLE [5] = true ∧ (((setW dm0 [(F.DM_ACCEPT_ACCEPT, [5], 1)]) : State).get F.DM_ACCEPT_ACCEPT [5]).testBit 0 = true ∧
    ((setW dm0 [(F.DM_ACCEPT_ACCEPT, [5], 1)]) : State).ringOf 5 = none ∧ ((setW dm0 [(F.DM_ACCEPT_ACCEPT, [5], 1)]) : State).ringPlace 5 = some
    130001) ∧ (dm0.granted (.tenant 5) true ⟨.RX_CFG, [5]⟩ 4 ∧ dm0.dm.flr.look 5 = none ∧ (fget (9 : W64) 1 5 < 4 ∨ 16 < fget (9 : W64) 1 5 ∨
    ((9 : W64).getLsbD 0 = true ∧ dm0.on F.RX_CFG_EN [5] = false ∧ (dm0.get F.DM_ACCEPT_ACCEPT [5]).testBit 0 = false))) ∧ (dm0.granted (.tenant
    5) true ⟨.RX_BASE, [5]⟩ 8 ∧ dm0.dm.flr.look 5 = none ∧ dm0.on F.RX_CFG_EN [5] = false ∧ (0x1000 : W64).toNat % 4096 = 0) ∧ (dm0.granted
    (.tenant 5) true ⟨.DL_SEL, [5]⟩ 4 ∧ dm0.dm.flr.look 5 = none ∧ 5 < 48 ∧ ((5 : W32).toNat % 2048 = 5 ∨ (48 + dm0.get F.DMG_VF_FIRST [5] ≤ (5
    : W32).toNat % 2048 ∧ (5 : W32).toNat % 2048 < 48 + dm0.get F.DMG_VF_FIRST [5] + dm0.get F.DMG_VF_COUNT [5]))) ∧ (dm0.granted (.tenant 5)
    true ⟨.DL_SEL, [5]⟩ 4 ∧ dm0.dm.flr.look 5 = none ∧ 5 < 48 ∧ (6 : W32).toNat % 2048 ≠ 5 ∧ (6 : W32).toNat % 2048 < 48) ∧ (dm0.granted
    (.tenant 5) true ⟨.DL_BASE, [5]⟩ 8 ∧ dm0.dm.flr.look 5 = none ∧ 5 < 48 ∧ dm0.dm.logged = []) ∧
    (({ dm0 with dm := { dm0.dm with logged := [5] } } : State).granted (.tenant 5) true ⟨if 2 = 0 then .DL_BASE else if 2 = 1 then .DL_DB_ADDR
    else .DL_CFG, [5]⟩ (if 2 = 2 then 4 else 8) ∧ ({ dm0 with dm := { dm0.dm with logged := [5] } } : State).dm.flr.look 5 = none ∧ 5 < 48 ∧ 5 ∈
    ({ dm0 with dm := { dm0.dm with logged := [5] } } : State).dm.logged) ∧ (((setW dm0 [(F.DM_ACCEPT_ACCEPT, [5], 16), (F.DL_SEL_INST, [5],
    5)]) : State).granted (.tenant 5) true ⟨.DL_CTL, [5]⟩ 4 ∧ ((setW dm0 [(F.DM_ACCEPT_ACCEPT, [5], 16), (F.DL_SEL_INST, [5], 5)]) :
    State).dm.flr.look 5 = none ∧ 5 < 48 ∧ (((setW dm0 [(F.DM_ACCEPT_ACCEPT, [5], 16), (F.DL_SEL_INST, [5], 5)]) : State).get F.DM_ACCEPT_ACCEPT
    [5]).testBit 4 = true ∧ ((setW dm0 [(F.DM_ACCEPT_ACCEPT, [5], 16), (F.DL_SEL_INST, [5], 5)]) : State).dm.logged = []) ∧
    (({ dm0 with dm := { dm0.dm with logged := [0] } } : State).granted (.tenant 5) true ⟨.DL_CTL, [5]⟩ 4 ∧
    ({ dm0 with dm := { dm0.dm with logged := [0] } } : State).dm.flr.look 5 = none ∧ 5 < 48) ∧ (((setW dm0 [(F.DL_SEL_INST, [5], 5)]) :
    State).granted (.tenant 5) true ⟨.DL_CTL, [5]⟩ 4 ∧ ((setW dm0 [(F.DL_SEL_INST, [5], 5)]) : State).dm.flr.look 5 = none ∧ 5 < 48 ∧ ((setW dm0
    [(F.DL_SEL_INST, [5], 5)]) : State).get F.DL_SEL_INST [5] ∉ ((setW dm0 [(F.DL_SEL_INST, [5], 5)]) : State).dm.quiesced) ∧ (dm0.granted
    (.tenant 5) true ⟨.DL_CTL, [5]⟩ 4 ∧ dm0.dm.flr.look 5 = none ∧ 5 < 48) := by
  and_intros <;> first | decide +kernel | rfl | exact BitVec.isLt _ | exact Nat.zero_le _

/-! ### ledger entries -/

theorem test_ledger_entries_hypotheses :
    (((led ent (fun d => { d with odd := [], pend := [65536], qp := [((5, 0), { offer := some 65536 })] })) : State).sealed = false ∧ ((led ent
    (fun d => { d with odd := [], pend := [65536], qp := [((5, 0), { offer := some 65536 })] })) : State).dm.mv = [] ∧ ((led ent (fun d =>
    { d with odd := [], pend := [65536], qp := [((5, 0), { offer := some 65536 })] })) : State).dm.even.look 65536 = some ent ∧ 65536 ∈ ((led
    ent (fun d => { d with odd := [], pend := [65536], qp := [((5, 0), { offer := some 65536 })] })) : State).dm.pend ∧ ent.kind = 0 ∧ ent.state
    = 1 ∧ ent.opcode = 1 ∧ (((led ent (fun d => { d with odd := [], pend := [65536], qp := [((5, 0), { offer := some 65536 })] })) : State).qps
    ent.inst ent.qp).offer = some 65536 ∧ (((led ent (fun d =>
    { d with odd := [], pend := [65536], qp := [((5, 0), { offer := some 65536 })] })) : State).qps ent.inst ent.qp).skip = false ∧ ((led ent
    (fun d => { d with odd := [], pend := [65536], qp := [((5, 0), { offer := some 65536 })] })) : State).dm.todo.look 65536 = none ∧ ((led ent
    (fun d => { d with odd := [], pend := [65536], qp := [((5, 0), { offer := some 65536 })] })) : State).dm.flr = [] ∧ (∀ y ∈ ((led ent (fun d
    => { d with odd := [], pend := [65536], qp := [((5, 0), { offer := some 65536 })] })) : State).entriesOf ent.inst, y = 65536)) ∧ (((led
    { ent with state := 0 } (fun d => { d with odd := [(65536, ent)], pend := [65536] })) : State).sealed = false ∧ ((led
    { ent with state := 0 } (fun d => { d with odd := [(65536, ent)], pend := [65536] })) : State).dm.mv = [] ∧ ((led { ent with state := 0 }
    (fun d => { d with odd := [(65536, ent)], pend := [65536] })) : State).dm.even.look 65536 = some ({ ent with state := 0 } : LedE) ∧ 65536 ∈
    ((led { ent with state := 0 } (fun d => { d with odd := [(65536, ent)], pend := [65536] })) : State).dm.pend ∧ ({ ent with state := 0 } :
    LedE).kind = 0 ∧ ({ ent with state := 0 } : LedE).state = 0 ∧ ((led { ent with state := 0 } (fun d =>
    { d with odd := [(65536, ent)], pend := [65536] })) : State).dm.ringWait = [] ∧ (((led { ent with state := 0 } (fun d =>
    { d with odd := [(65536, ent)], pend := [65536] })) : State).qps ({ ent with state := 0 } : LedE).inst ({ ent with state := 0 } :
    LedE).qp).got = none) ∧ (((led ent id) : State).sealed = false ∧ 65536 ∉ ((led ent id) : State).dm.pend) ∧ (((led ent (fun d =>
    { d with pend := [65536] })) : State).sealed = false ∧ 65536 ∈ ((led ent (fun d => { d with pend := [65536] })) : State).dm.pend ∧ (((led
    ent (fun d => { d with pend := [65536] })) : State).led 65536).state ≠ 0) ∧ (((led ent (fun d => { d with pend := [65536] })) :
    State).sealed = false ∧ 65536 ∈ ((led ent (fun d => { d with pend := [65536] })) : State).dm.pend) ∧ (((led { ent with state := 3 } (fun d
    => { d with recs := [65536] })) : State).sealed = false ∧ 65536 ∈ ((led { ent with state := 3 } (fun d => { d with recs := [65536] })) :
    State).dm.recs ∧ 65536 ∉ ((led { ent with state := 3 } (fun d => { d with recs := [65536] })) : State).dm.pend ∧ ((led
    { ent with state := 3 } (fun d => { d with recs := [65536] })) : State).oddServes (65536 / 65536) = false) ∧ (((led { ent with state := 3 }
    (fun d => { d with recs := [65536], pend := [65536] })) : State).sealed = false ∧ (65536 ∉ ((led { ent with state := 3 } (fun d =>
    { d with recs := [65536], pend := [65536] })) : State).dm.recs ∨ 65536 ∈ ((led { ent with state := 3 } (fun d =>
    { d with recs := [65536], pend := [65536] })) : State).dm.pend)) ∧ (((led { ent with state := 3 } (fun d => { d with flush := [65536] })) :
    State).sealed = false ∧ 65536 ∈ ((led { ent with state := 3 } (fun d => { d with flush := [65536] })) : State).dm.flush ∧ (((led
    { ent with state := 3 } (fun d => { d with flush := [65536] })) : State).led 65536).kind = 0 ∧ (((led { ent with state := 3 } (fun d =>
    { d with flush := [65536] })) : State).led 65536).state = 3 ∧ (((led { ent with state := 3 } (fun d => { d with flush := [65536] })) :
    State).led 65536).status = 0 ∧ (((led { ent with state := 3 } (fun d => { d with flush := [65536] })) : State).qps (((led
    { ent with state := 3 } (fun d => { d with flush := [65536] })) : State).led 65536).inst (((led { ent with state := 3 } (fun d =>
    { d with flush := [65536] })) : State).led 65536).qp).got = none) ∧ (((led { ent with state := 3, result := 64 } (fun d =>
    { d with flush := [65536], last := [(65536, (5, 0x2040))] })) : State).sealed = false ∧ 65536 ∈ ((led { ent with state := 3, result := 64 }
    (fun d => { d with flush := [65536], last := [(65536, (5, 0x2040))] })) : State).dm.flush ∧ ((led { ent with state := 3, result := 64 } (fun
    d => { d with flush := [65536], last := [(65536, (5, 0x2040))] })) : State).qpEntries (((led { ent with state := 3, result := 64 } (fun d =>
    { d with flush := [65536], last := [(65536, (5, 0x2040))] })) : State).led 65536).inst (((led { ent with state := 3, result := 64 } (fun d
    => { d with flush := [65536], last := [(65536, (5, 0x2040))] })) : State).led 65536).qp = [65536] ∧ (((led
    { ent with state := 3, result := 64 } (fun d => { d with flush := [65536], last := [(65536, (5, 0x2040))] })) : State).led 65536).state = 3
    ∧ (((led { ent with state := 3, result := 64 } (fun d => { d with flush := [65536], last := [(65536, (5, 0x2040))] })) : State).led
    65536).kind = 0 ∧ (((led { ent with state := 3, result := 64 } (fun d => { d with flush := [65536], last := [(65536, (5, 0x2040))] })) :
    State).led 65536).status = 0 ∧ 65536 ∉ ((led { ent with state := 3, result := 64 } (fun d =>
    { d with flush := [65536], last := [(65536, (5, 0x2040))] })) : State).dm.pend ∧ 65536 ∉ ((led { ent with state := 3, result := 64 } (fun d
    => { d with flush := [65536], last := [(65536, (5, 0x2040))] })) : State).dm.recs ∧ (((led { ent with state := 3, result := 64 } (fun d =>
    { d with flush := [65536], last := [(65536, (5, 0x2040))] })) : State).qps (((led { ent with state := 3, result := 64 } (fun d =>
    { d with flush := [65536], last := [(65536, (5, 0x2040))] })) : State).led 65536).inst (((led { ent with state := 3, result := 64 } (fun d
    => { d with flush := [65536], last := [(65536, (5, 0x2040))] })) : State).led 65536).qp).offer = none ∧ (((led
    { ent with state := 3, result := 64 } (fun d => { d with flush := [65536], last := [(65536, (5, 0x2040))] })) : State).qps (((led
    { ent with state := 3, result := 64 } (fun d => { d with flush := [65536], last := [(65536, (5, 0x2040))] })) : State).led 65536).inst
    (((led { ent with state := 3, result := 64 } (fun d => { d with flush := [65536], last := [(65536, (5, 0x2040))] })) : State).led
    65536).qp).got = none ∧ ((led { ent with state := 3, result := 64 } (fun d => { d with flush := [65536], last := [(65536, (5, 0x2040))] }))
    : State).dmIssue (((led { ent with state := 3, result := 64 } (fun d => { d with flush := [65536], last := [(65536, (5, 0x2040))] })) :
    State).led 65536).inst = true ∧ ((led { ent with state := 3, result := 64 } (fun d =>
    { d with flush := [65536], last := [(65536, (5, 0x2040))] })) : State).dm.acc.look 65536 = some cpy ∧ dFlag cpy.d 0 = false ∧ ((led
    { ent with state := 3, result := 64 } (fun d => { d with flush := [65536], last := [(65536, (5, 0x2040))] })) : State).dm.last.look 65536 =
    some ((5, 0x2040) : Nat × Nat) ∧ ((led { ent with state := 3, result := 64 } (fun d =>
    { d with flush := [65536], last := [(65536, (5, 0x2040))] })) : State).dm.logged = []) ∧ (((led ent id) : State).sealed = false ∧ ((led ent
    id) : State).pairIn (2 / 2) = true ∧ ((led ent id) : State).dm.mv = [] ∧ 65536 ∈ ((led ent id) : State).ledKeys ∧ 65536 / 65536 = 2 / 2 ∧
    ((led ent id) : State).dm.pend = [] ∧ (∀ y ∈ ((led ent id) : State).ledKeys, (((led ent id) : State).qps (((led ent id) : State).led y).inst
    (((led ent id) : State).led y).qp).offer = none) ∧ ((2 % 2 = 0 → (((led ent id) : State).dm.odd.look 65536).isSome = true))) ∧ (dm0.sealed =
    false ∧ dm0.pairIn (7 / 2) = true ∧ dm0.dm.mv = [] ∧ dm0.dm.even = [] ∧ dm0.dm.odd = [] ∧ dm0.dm.pend = []) ∧ (((led ent (fun d =>
    { d with odd := [], mv := [(1, 2)] })) : State).sealed = false ∧ ((led ent (fun d => { d with odd := [], mv := [(1, 2)] })) : State).dm.mv =
    [(65536 / 65536, 2)] ∧ 65536 ∈ ((led ent (fun d => { d with odd := [], mv := [(1, 2)] })) : State).ledKeys ∧ 65536 ∉ ((led ent (fun d =>
    { d with odd := [], mv := [(1, 2)] })) : State).dm.pend ∧ (((led ent (fun d => { d with odd := [], mv := [(1, 2)] })) : State).led
    65536).kind = 0 ∧ (((led ent (fun d => { d with odd := [], mv := [(1, 2)] })) : State).led 65536).state ≠ 0 ∧ (List.range 4).findSome? (fun
    n => if ((led ent (fun d => { d with odd := [], mv := [(1, 2)] })) : State).pairOpen n then ((led ent (fun d =>
    { d with odd := [], mv := [(1, 2)] })) : State).freeIn n else none) = some 0 ∧ ((led ent (fun d => { d with odd := [], mv := [(1, 2)] })) :
    State).dm.acc.look 0 = none) ∧ (((led ent (fun d => { d with odd := [], mv := [(1, 2)] })) : State).sealed = false ∧ ((led ent (fun d =>
    { d with odd := [], mv := [(1, 2)] })) : State).dm.mv.look (65536 / 65536) = some 2 ∧ 65536 ∈ ((led ent (fun d =>
    { d with odd := [], mv := [(1, 2)] })) : State).ledKeys) ∧ (({ dm0 with dm := { dm0.dm with nEn := 7 } } : State).sealed = false ∧
    ({ dm0 with dm := { dm0.dm with nEn := 7 } } : State).dm.epochOf ≠ (max 1 ({ dm0 with dm := { dm0.dm with nEn := 7 } } : State).dm.nEn,
    (below 4 (fun k => ({ dm0 with dm := { dm0.dm with nEn := 7 } } : State).pairIn k)).length, (below 16 (fun k =>
    ({ dm0 with dm := { dm0.dm with nEn := 7 } } : State).ssIn k)).length)) ∧ (({ up with dm := { epochOf := (1, 4, 0) } } : State).sealed =
    false ∧ ({ up with dm := { epochOf := (1, 4, 0) } } : State).dm.epochOf = (max 1 ({ up with dm := { epochOf := (1, 4, 0) } } :
    State).dm.nEn, (below 4 (fun k => ({ up with dm := { epochOf := (1, 4, 0) } } : State).pairIn k)).length, (below 16 (fun k =>
    ({ up with dm := { epochOf := (1, 4, 0) } } : State).ssIn k)).length)) ∧ (((setW dm0 [(F.MCL_STAT_STATE, [0], 1), (F.MCL_STAT_STATE, [5],
    0), (F.DM_STAT_SERVING, [5], 0)]) : State).sealed = false ∧ ((setW dm0 [(F.MCL_STAT_STATE, [0], 1), (F.MCL_STAT_STATE, [5], 0),
    (F.DM_STAT_SERVING, [5], 0)]) : State).nextMc (5 % 16) = some 5 ∧ 5 ≠ ((setW dm0 [(F.MCL_STAT_STATE, [0], 1), (F.MCL_STAT_STATE, [5], 0),
    (F.DM_STAT_SERVING, [5], 0)]) : State).get F.DM_STAT_SERVING [5] ∧ ((setW dm0 [(F.MCL_STAT_STATE, [0], 1), (F.MCL_STAT_STATE, [5], 0),
    (F.DM_STAT_SERVING, [5], 0)]) : State).get F.MCL_STAT_STATE [((setW dm0 [(F.MCL_STAT_STATE, [0], 1), (F.MCL_STAT_STATE, [5], 0),
    (F.DM_STAT_SERVING, [5], 0)]) : State).get F.DM_STAT_SERVING [5]] ≠ 2) ∧ (((setW dm0 [(F.MCL_STAT_STATE, [5], 0), (F.DM_STAT_SERVING, [5],
    5)]) : State).sealed = false ∧ ((setW dm0 [(F.MCL_STAT_STATE, [5], 0), (F.DM_STAT_SERVING, [5], 5)]) : State).nextMc (5 % 16) = some (((setW
    dm0 [(F.MCL_STAT_STATE, [5], 0), (F.DM_STAT_SERVING, [5], 5)]) : State).get F.DM_STAT_SERVING [5])) ∧ (((led ent (fun d =>
    { d with reread := [65536], acc := [(65536, { cpy with held := false })] })) : State).sealed = false ∧ ((led ent (fun d =>
    { d with reread := [65536], acc := [(65536, { cpy with held := false })] })) : State).dm.reread = [65536] ∧ 65536 ∉ ((led ent (fun d =>
    { d with reread := [65536], acc := [(65536, { cpy with held := false })] })) : State).dm.pend ∧ ((led ent (fun d =>
    { d with reread := [65536], acc := [(65536, { cpy with held := false })] })) : State).dm.acc.look 65536 = some ({ cpy with held := false } :
    Acpt) ∧ (desc 1 64 : List Byte).length = 64 ∧ (crc32c 0 (desc 1 64 : List Byte)).toNat = (((led ent (fun d =>
    { d with reread := [65536], acc := [(65536, { cpy with held := false })] })) : State).led 65536).crc ∧ (((led ent (fun d =>
    { d with reread := [65536], acc := [(65536, { cpy with held := false })] })) : State).led 65536).opcode = 1 ∧ (((led ent (fun d =>
    { d with reread := [65536], acc := [(65536, { cpy with held := false })] })) : State).led 65536).state = 1) ∧ (((led ent (fun d =>
    { d with reread := [65536] })) : State).sealed = false ∧ ((led ent (fun d => { d with reread := [65536] })) : State).dm.reread = [65536] ∧
    65536 ∉ ((led ent (fun d => { d with reread := [65536] })) : State).dm.pend ∧ ((led ent (fun d => { d with reread := [65536] })) :
    State).dm.acc.look 65536 = some cpy ∧ (desc 1 65 : List Byte).length = 64 ∧ (crc32c 0 (desc 1 65 : List Byte)).toNat ≠ (((led ent (fun d =>
    { d with reread := [65536] })) : State).led 65536).crc ∧ (((led ent (fun d => { d with reread := [65536] })) : State).led 65536).state = 1 ∧
    (((led ent (fun d => { d with reread := [65536] })) : State).led 65536).status = 0 ∧ (((led ent (fun d => { d with reread := [65536] })) :
    State).led 65536).kind = 0) := by
  and_intros <;> first | decide +kernel | rfl | exact BitVec.isLt _ | exact Nat.zero_le _

/-! ### chunks rings and function resets -/

theorem test_chunks_rings_and_function_resets_hypotheses :
    (((run ent id) : State).sealed = false ∧ ((run ent id) : State).readyChunk 65536 = some 0 ∧ ((run ent id) : State).dm.acc.look 65536 = some
    cpy ∧ leAt cpy.d 1 1 = 1 ∧ ((run ent id) : State).thrFree 0 = true ∧ ((run ent id) : State).nearStaging (0 / 16) = true ∧ ((run ent id) :
    State).instReady (((run ent id) : State).led 65536).inst = true ∧ ((run ent id) : State).shGrants (768 + (((run ent id) : State).led
    65536).inst) = true ∧ ((run ent id) : State).myTurn (((run ent id) : State).led 65536).inst = true ∧ ((run ent id) : State).dm.bufs = [] ∧
    (((run ent id) : State).led 65536).state = 1 ∧ (below 16 (fun k => ((run ent id) : State).ssIn k)).head? = some 0 ∧ 64 = min 4096 (leAt
    cpy.d 8 4 - 4096 * 0) ∧ 0 < 64 ∧ 64 ≤ 128 <<< min 5 (((run ent id) : State).cf (.dmf cpy.src.fn) .mrrs) ∧ (((run ent id) : State).led
    65536).inst < 1072) ∧ (((setW (run ent id) [(F.MCL_STAT_THR_BUSY, [0], 1)]) : State).sealed = false ∧ (((setW (run ent id)
    [(F.MCL_STAT_THR_BUSY, [0], 1)]) : State).thrFree 0 = false ∨ ((setW (run ent id) [(F.MCL_STAT_THR_BUSY, [0], 1)]) : State).readyChunk 65536
    = none ∨ ((setW (run ent id) [(F.MCL_STAT_THR_BUSY, [0], 1)]) : State).instReady (((setW (run ent id) [(F.MCL_STAT_THR_BUSY, [0], 1)]) :
    State).led 65536).inst = false)) ∧ (((setW (run { ent with state := 2 } (fun d =>
    { d with chunks := [(65536, [{ c := 0, thr := 3, buf := some 9, got := none }])], bufs := [(9, 5)] })) [(F.MCL_STAT_THR_BUSY, [0], 8)]) :
    State).sealed = false ∧ ((setW (run { ent with state := 2 } (fun d =>
    { d with chunks := [(65536, [{ c := 0, thr := 3, buf := some 9, got := none }])], bufs := [(9, 5)] })) [(F.MCL_STAT_THR_BUSY, [0], 8)]) :
    State).dm.acc.look 65536 = some cpy ∧ leAt cpy.d 1 1 = 1 ∧ (((setW (run { ent with state := 2 } (fun d =>
    { d with chunks := [(65536, [{ c := 0, thr := 3, buf := some 9, got := none }])], bufs := [(9, 5)] })) [(F.MCL_STAT_THR_BUSY, [0], 8)]) :
    State).led 65536).opcode = 1 ∧ (((setW (run { ent with state := 2 } (fun d =>
    { d with chunks := [(65536, [{ c := 0, thr := 3, buf := some 9, got := none }])], bufs := [(9, 5)] })) [(F.MCL_STAT_THR_BUSY, [0], 8)]) :
    State).led 65536).kind = 0 ∧ (((setW (run { ent with state := 2 } (fun d =>
    { d with chunks := [(65536, [{ c := 0, thr := 3, buf := some 9, got := none }])], bufs := [(9, 5)] })) [(F.MCL_STAT_THR_BUSY, [0], 8)]) :
    State).led 65536).state = 2 ∧ (((setW (run { ent with state := 2 } (fun d =>
    { d with chunks := [(65536, [{ c := 0, thr := 3, buf := some 9, got := none }])], bufs := [(9, 5)] })) [(F.MCL_STAT_THR_BUSY, [0], 8)]) :
    State).led 65536).status = 0 ∧ (((setW (run { ent with state := 2 } (fun d =>
    { d with chunks := [(65536, [{ c := 0, thr := 3, buf := some 9, got := none }])], bufs := [(9, 5)] })) [(F.MCL_STAT_THR_BUSY, [0], 8)]) :
    State).led 65536).cwin = 0 ∧ (((setW (run { ent with state := 2 } (fun d =>
    { d with chunks := [(65536, [{ c := 0, thr := 3, buf := some 9, got := none }])], bufs := [(9, 5)] })) [(F.MCL_STAT_THR_BUSY, [0], 8)]) :
    State).led 65536).cdone = 0 ∧ ((setW (run { ent with state := 2 } (fun d =>
    { d with chunks := [(65536, [{ c := 0, thr := 3, buf := some 9, got := none }])], bufs := [(9, 5)] })) [(F.MCL_STAT_THR_BUSY, [0], 8)]) :
    State).chunksOf 65536 = [({ c := 0, thr := 3, buf := some 9, got := none } : Chk)] ∧ ({ c := 0, thr := 3, buf := some 9, got := none } :
    Chk).c = 0 ∧ ({ c := 0, thr := 3, buf := some 9, got := none } : Chk).got = none ∧ 65536 ∉ ((setW (run { ent with state := 2 } (fun d =>
    { d with chunks := [(65536, [{ c := 0, thr := 3, buf := some 9, got := none }])], bufs := [(9, 5)] })) [(F.MCL_STAT_THR_BUSY, [0], 8)]) :
    State).dm.pend ∧ ({ a := List.replicate 64 9, b := [], err := 0, off := 0 } : ChunkGot).err = 0 ∧ ((setW (run { ent with state := 2 } (fun d
    => { d with chunks := [(65536, [{ c := 0, thr := 3, buf := some 9, got := none }])], bufs := [(9, 5)] })) [(F.MCL_STAT_THR_BUSY, [0], 8)]) :
    State).dm.logged = [] ∧ 64 = leAt cpy.d 8 4 - 4096 * 0 ∧ 0 < 64 ∧ 64 ≤ 4096 ∧ ({ a := List.replicate 64 9, b := [], err := 0, off := 0 } :
    ChunkGot).a.length = 64 ∧ 64 ≤ 128 <<< min 5 (((setW (run { ent with state := 2 } (fun d =>
    { d with chunks := [(65536, [{ c := 0, thr := 3, buf := some 9, got := none }])], bufs := [(9, 5)] })) [(F.MCL_STAT_THR_BUSY, [0], 8)]) :
    State).cf (.dmf cpy.dst.fn) .mps) ∧ cpy.dst.lim = none ∧ ((setW (run { ent with state := 2 } (fun d =>
    { d with chunks := [(65536, [{ c := 0, thr := 3, buf := some 9, got := none }])], bufs := [(9, 5)] })) [(F.MCL_STAT_THR_BUSY, [0], 8)]) :
    State).dm.flr = [] ∧ (((setW (run { ent with state := 2 } (fun d =>
    { d with chunks := [(65536, [{ c := 0, thr := 3, buf := some 9, got := none }])], bufs := [(9, 5)] })) [(F.MCL_STAT_THR_BUSY, [0], 8)]) :
    State).qps (((setW (run { ent with state := 2 } (fun d =>
    { d with chunks := [(65536, [{ c := 0, thr := 3, buf := some 9, got := none }])], bufs := [(9, 5)] })) [(F.MCL_STAT_THR_BUSY, [0], 8)]) :
    State).led 65536).inst (((setW (run { ent with state := 2 } (fun d =>
    { d with chunks := [(65536, [{ c := 0, thr := 3, buf := some 9, got := none }])], bufs := [(9, 5)] })) [(F.MCL_STAT_THR_BUSY, [0], 8)]) :
    State).led 65536).qp).got = none) ∧ (((setW (run { ent with state := 2 } (fun d =>
    { d with chunks := [(65536, [{ c := 0, thr := 3, buf := some 9, got := none }])], bufs := [(9, 5)] })) [(F.MCL_STAT_THR_BUSY, [0], 8)]) :
    State).sealed = false ∧ ((setW (run { ent with state := 2 } (fun d =>
    { d with chunks := [(65536, [{ c := 0, thr := 3, buf := some 9, got := none }])], bufs := [(9, 5)] })) [(F.MCL_STAT_THR_BUSY, [0], 8)]) :
    State).dm.acc.look 65536 = some cpy ∧ leAt cpy.d 1 1 = 1 ∧ (((setW (run { ent with state := 2 } (fun d =>
    { d with chunks := [(65536, [{ c := 0, thr := 3, buf := some 9, got := none }])], bufs := [(9, 5)] })) [(F.MCL_STAT_THR_BUSY, [0], 8)]) :
    State).led 65536).opcode = 1 ∧ (((setW (run { ent with state := 2 } (fun d =>
    { d with chunks := [(65536, [{ c := 0, thr := 3, buf := some 9, got := none }])], bufs := [(9, 5)] })) [(F.MCL_STAT_THR_BUSY, [0], 8)]) :
    State).led 65536).kind = 0 ∧ (((setW (run { ent with state := 2 } (fun d =>
    { d with chunks := [(65536, [{ c := 0, thr := 3, buf := some 9, got := none }])], bufs := [(9, 5)] })) [(F.MCL_STAT_THR_BUSY, [0], 8)]) :
    State).led 65536).state = 2 ∧ (((setW (run { ent with state := 2 } (fun d =>
    { d with chunks := [(65536, [{ c := 0, thr := 3, buf := some 9, got := none }])], bufs := [(9, 5)] })) [(F.MCL_STAT_THR_BUSY, [0], 8)]) :
    State).led 65536).status = 0 ∧ ((setW (run { ent with state := 2 } (fun d =>
    { d with chunks := [(65536, [{ c := 0, thr := 3, buf := some 9, got := none }])], bufs := [(9, 5)] })) [(F.MCL_STAT_THR_BUSY, [0], 8)]) :
    State).chunksOf 65536 = [({ c := 0, thr := 3, buf := some 9, got := none } : Chk)] ∧ ({ c := 0, thr := 3, buf := some 9, got := none } :
    Chk).c = 0 ∧ ({ c := 0, thr := 3, buf := some 9, got := none } : Chk).got = none ∧ 65536 ∉ ((setW (run { ent with state := 2 } (fun d =>
    { d with chunks := [(65536, [{ c := 0, thr := 3, buf := some 9, got := none }])], bufs := [(9, 5)] })) [(F.MCL_STAT_THR_BUSY, [0], 8)]) :
    State).dm.pend ∧ ({ a := [], b := [], err := 0x12, off := 7 } : ChunkGot).err ≠ 0 ∧ ((setW (run { ent with state := 2 } (fun d =>
    { d with chunks := [(65536, [{ c := 0, thr := 3, buf := some 9, got := none }])], bufs := [(9, 5)] })) [(F.MCL_STAT_THR_BUSY, [0], 8)]) :
    State).dm.flr = [] ∧ (((setW (run { ent with state := 2 } (fun d =>
    { d with chunks := [(65536, [{ c := 0, thr := 3, buf := some 9, got := none }])], bufs := [(9, 5)] })) [(F.MCL_STAT_THR_BUSY, [0], 8)]) :
    State).qps (((setW (run { ent with state := 2 } (fun d =>
    { d with chunks := [(65536, [{ c := 0, thr := 3, buf := some 9, got := none }])], bufs := [(9, 5)] })) [(F.MCL_STAT_THR_BUSY, [0], 8)]) :
    State).led 65536).inst (((setW (run { ent with state := 2 } (fun d =>
    { d with chunks := [(65536, [{ c := 0, thr := 3, buf := some 9, got := none }])], bufs := [(9, 5)] })) [(F.MCL_STAT_THR_BUSY, [0], 8)]) :
    State).led 65536).qp).got = none) ∧ (((run { ent with state := 2, opcode := 8, ni := 1 } id) : State).sealed = false ∧ (((run
    { ent with state := 2, opcode := 8, ni := 1 } id) : State).led 65536).kind = 0 ∧ (((run { ent with state := 2, opcode := 8, ni := 1 } id) :
    State).led 65536).opcode = 8 ∧ (((run { ent with state := 2, opcode := 8, ni := 1 } id) : State).led 65536).ni = 1 ∧ (((run
    { ent with state := 2, opcode := 8, ni := 1 } id) : State).led 65536).state = 2 ∧ 65536 ∉ ((run
    { ent with state := 2, opcode := 8, ni := 1 } id) : State).dm.pend) ∧
    (({ rng { state := 2, kind := 1, inst := 5, delivered := 0xFFFFFFFF } (fun d => { d with rx := [(5, { head := 0xFFFFFFF8 })] }) with mesh := { inbox := [(70, [.ringReq 5 65536 3])] } }
    : State).sealed = false ∧
    ({ rng { state := 2, kind := 1, inst := 5, delivered := 0xFFFFFFFF } (fun d => { d with rx := [(5, { head := 0xFFFFFFF8 })] }) with mesh := { inbox := [(70, [.ringReq 5 65536 3])] } }
    : State).mesh.inbox.lookD 70 [] = [.ringReq 5 65536 3] ∧
    ({ rng { state := 2, kind := 1, inst := 5, delivered := 0xFFFFFFFF } (fun d => { d with rx := [(5, { head := 0xFFFFFFF8 })] }) with mesh := { inbox := [(70, [.ringReq 5 65536 3])] } }
    : State).ringOf 5 = some 130001 ∧ 130001 ∉
    ({ rng { state := 2, kind := 1, inst := 5, delivered := 0xFFFFFFFF } (fun d => { d with rx := [(5, { head := 0xFFFFFFF8 })] }) with mesh := { inbox := [(70, [.ringReq 5 65536 3])] } }
    : State).dm.pend ∧
    (({ rng { state := 2, kind := 1, inst := 5, delivered := 0xFFFFFFFF } (fun d => { d with rx := [(5, { head := 0xFFFFFFF8 })] }) with mesh := { inbox := [(70, [.ringReq 5 65536 3])] } }
    : State).led 130001).resV = false ∧
    (({ rng { state := 2, kind := 1, inst := 5, delivered := 0xFFFFFFFF } (fun d => { d with rx := [(5, { head := 0xFFFFFFF8 })] }) with mesh := { inbox := [(70, [.ringReq 5 65536 3])] } }
    : State).led 130001).state = 2 ∧
    ({ rng { state := 2, kind := 1, inst := 5, delivered := 0xFFFFFFFF } (fun d => { d with rx := [(5, { head := 0xFFFFFFF8 })] }) with mesh := { inbox := [(70, [.ringReq 5 65536 3])] } }
    : State).on F.RX_CFG_EN [5] = true ∧
    (({ rng { state := 2, kind := 1, inst := 5, delivered := 0xFFFFFFFF } (fun d => { d with rx := [(5, { head := 0xFFFFFFF8 })] }) with mesh := { inbox := [(70, [.ringReq 5 65536 3])] } }
    : State).rxs 5).bad = false ∧
    ((({ rng { state := 2, kind := 1, inst := 5, delivered := 0xFFFFFFFF } (fun d => { d with rx := [(5, { head := 0xFFFFFFF8 })] }) with mesh := { inbox := [(70, [.ringReq 5 65536 3])] } }
    : State).led 130001).delivered + 2 ^ 32 -
    (({ rng { state := 2, kind := 1, inst := 5, delivered := 0xFFFFFFFF } (fun d => { d with rx := [(5, { head := 0xFFFFFFF8 })] }) with mesh := { inbox := [(70, [.ringReq 5 65536 3])] } }
    : State).rxs 5).head) % 2 ^ 32 < 2 ^
    ({ rng { state := 2, kind := 1, inst := 5, delivered := 0xFFFFFFFF } (fun d => { d with rx := [(5, { head := 0xFFFFFFF8 })] }) with mesh := { inbox := [(70, [.ringReq 5 65536 3])] } }
    : State).get F.RX_CFG_SIZE [5] ∧
    ({ rng { state := 2, kind := 1, inst := 5, delivered := 0xFFFFFFFF } (fun d => { d with rx := [(5, { head := 0xFFFFFFF8 })] }) with mesh := { inbox := [(70, [.ringReq 5 65536 3])] } }
    : State).dm.occ.look (5,
    (({ rng { state := 2, kind := 1, inst := 5, delivered := 0xFFFFFFFF } (fun d => { d with rx := [(5, { head := 0xFFFFFFF8 })] }) with mesh := { inbox := [(70, [.ringReq 5 65536 3])] } }
    : State).led 130001).delivered % 2 ^
    ({ rng { state := 2, kind := 1, inst := 5, delivered := 0xFFFFFFFF } (fun d => { d with rx := [(5, { head := 0xFFFFFFF8 })] }) with mesh := { inbox := [(70, [.ringReq 5 65536 3])] } }
    : State).get F.RX_CFG_SIZE [5]) = none) ∧ (dm0.sealed = false ∧ dm0.mesh.inbox.lookD 70 [] = []) ∧
    (({ rng { state := 2, kind := 1, inst := 5 } (fun d => { d with chunks := [(65536, [{ c := 0, thr := 3, buf := none, got := none }])] }) with mesh := { inbox := [(36, [.ringAns 3 9])] } }
    : State).sealed = false ∧
    ({ rng { state := 2, kind := 1, inst := 5 } (fun d => { d with chunks := [(65536, [{ c := 0, thr := 3, buf := none, got := none }])] }) with mesh := { inbox := [(36, [.ringAns 3 9])] } }
    : State).mesh.inbox.lookD 36 [] = [.ringAns 3 9] ∧ 9 < 65536 ∧
    ({ rng { state := 2, kind := 1, inst := 5 } (fun d => { d with chunks := [(65536, [{ c := 0, thr := 3, buf := none, got := none }])] }) with mesh := { inbox := [(36, [.ringAns 3 9])] } }
    : State).ledKeys.find? (fun z =>
    (({ rng { state := 2, kind := 1, inst := 5 } (fun d => { d with chunks := [(65536, [{ c := 0, thr := 3, buf := none, got := none }])] }) with mesh := { inbox := [(36, [.ringAns 3 9])] } }
    : State).led z).kind == 0 &&
    (({ rng { state := 2, kind := 1, inst := 5 } (fun d => { d with chunks := [(65536, [{ c := 0, thr := 3, buf := none, got := none }])] }) with mesh := { inbox := [(36, [.ringAns 3 9])] } }
    : State).led z).opcode == 7 &&
    (({ rng { state := 2, kind := 1, inst := 5 } (fun d => { d with chunks := [(65536, [{ c := 0, thr := 3, buf := none, got := none }])] }) with mesh := { inbox := [(36, [.ringAns 3 9])] } }
    : State).led z).ni == 1 &&
    (({ rng { state := 2, kind := 1, inst := 5 } (fun d => { d with chunks := [(65536, [{ c := 0, thr := 3, buf := none, got := none }])] }) with mesh := { inbox := [(36, [.ringAns 3 9])] } }
    : State).chunksOf z).any (fun k => k.thr == 3)) = some 65536) ∧ (((rng { state := 2, kind := 1, inst := 5, delivered := 16 } (fun d =>
    { d with rx := [(5, { waiting := some (65536, 3) })] })) : State).sealed = false ∧ (((rng
    { state := 2, kind := 1, inst := 5, delivered := 16 } (fun d => { d with rx := [(5, { waiting := some (65536, 3) })] })) : State).rxs
    5).waiting = some ((65536, 3) : Nat × Nat) ∧ (((rng { state := 2, kind := 1, inst := 5, delivered := 16 } (fun d =>
    { d with rx := [(5, { waiting := some (65536, 3) })] })) : State).get F.RX_STAT_DELIVERED [5] + 2 ^ 32 - (0xFFFFFFF8 : W32).toNat) % 2 ^ 32
    ≤ 2 ^ ((rng { state := 2, kind := 1, inst := 5, delivered := 16 } (fun d => { d with rx := [(5, { waiting := some (65536, 3) })] })) :
    State).get F.RX_CFG_SIZE [5] ∧ ((rng { state := 2, kind := 1, inst := 5, delivered := 16 } (fun d =>
    { d with rx := [(5, { waiting := some (65536, 3) })] })) : State).dm.ringWait = []) ∧ (((rng
    { state := 2, kind := 1, inst := 5, delivered := 16 } (fun d => { d with rx := [(5, { waiting := some (65536, 3) })] })) : State).sealed =
    false ∧ (((rng { state := 2, kind := 1, inst := 5, delivered := 16 } (fun d => { d with rx := [(5, { waiting := some (65536, 3) })] })) :
    State).rxs 5).waiting = some ((65536, 3) : Nat × Nat) ∧ ((rng { state := 2, kind := 1, inst := 5, delivered := 16 } (fun d =>
    { d with rx := [(5, { waiting := some (65536, 3) })] })) : State).dm.ringWait = []) ∧ (dm0.sealed = false ∧ (dm0.rxs 5).waiting = none) ∧
    (({ setW dm0 [(F.QP_CTL_EN, [60, 1], 1)] with dm := { even := [(65536, { ent with inst := 60 })], odd := [(65536, { ent with inst := 60 })] } }
    : State).sealed = false ∧ 48 ≤ 60 ∧
    ({ setW dm0 [(F.QP_CTL_EN, [60, 1], 1)] with dm := { even := [(65536, { ent with inst := 60 })], odd := [(65536, { ent with inst := 60 })] } }
    : State).dm.flr.look 60 = none ∧
    ({ setW dm0 [(F.QP_CTL_EN, [60, 1], 1)] with dm := { even := [(65536, { ent with inst := 60 })], odd := [(65536, { ent with inst := 60 })] } }
    : State).dm.chunks = [] ∧
    ({ setW dm0 [(F.QP_CTL_EN, [60, 1], 1)] with dm := { even := [(65536, { ent with inst := 60 })], odd := [(65536, { ent with inst := 60 })] } }
    : State).dm.mv = []) ∧ (dm0.sealed = false ∧ 5 < 48) ∧
    (({ setW dm0 [(F.QP_CTL_EN, [60, 1], 1)] with dm := { flr := [(60, 0)], even := [(65536, { ent with inst := 60 })], odd := [(65536, { ent with inst := 60 })] } }
    : State).sealed = false ∧
    (({ setW dm0 [(F.QP_CTL_EN, [60, 1], 1)] with dm := { flr := [(60, 0)], even := [(65536, { ent with inst := 60 })], odd := [(65536, { ent with inst := 60 })] } }
    : State).dm.flr.look 60).isSome = true ∧
    ({ setW dm0 [(F.QP_CTL_EN, [60, 1], 1)] with dm := { flr := [(60, 0)], even := [(65536, { ent with inst := 60 })], odd := [(65536, { ent with inst := 60 })] } }
    : State).dm.chunks = [] ∧
    ({ setW dm0 [(F.QP_CTL_EN, [60, 1], 1)] with dm := { flr := [(60, 0)], even := [(65536, { ent with inst := 60 })], odd := [(65536, { ent with inst := 60 })] } }
    : State).dm.mv = []) ∧ (dm0.sealed = false ∧ dm0.dm.flr.look 5 = none) := by
  and_intros <;> first | decide +kernel | rfl | exact BitVec.isLt _ | exact Nat.zero_le _

/-! ### register instructions -/

theorem test_register_instructions_hypotheses :
    ((mul [{ mn := .add, d := 3, a := 1, b := 2, imm := 0 }] [(1, 0x8000000000000005), (2, 0xFFFFFFFFFFFFFFF1)] : State).issues 0 0 (thrd [(1,
    0x8000000000000005), (2, 0xFFFFFFFFFFFFFFF1)] : Thr) ({ mn := .add, d := 3, a := 1, b := 2, imm := 0 } : MIns) ∧
    ({ mn := .add, d := 3, a := 1, b := 2, imm := 0 } : MIns).mn = .add) ∧ ((mul [{ mn := .sub, d := 3, a := 1, b := 2, imm := 0 }] [(1,
    0x8000000000000005), (2, 0xFFFFFFFFFFFFFFF1)] : State).issues 0 0 (thrd [(1, 0x8000000000000005), (2, 0xFFFFFFFFFFFFFFF1)] : Thr)
    ({ mn := .sub, d := 3, a := 1, b := 2, imm := 0 } : MIns) ∧ ({ mn := .sub, d := 3, a := 1, b := 2, imm := 0 } : MIns).mn = .sub) ∧ ((mul
    [{ mn := .and, d := 3, a := 1, b := 2, imm := 0 }] [(1, 0x8000000000000005), (2, 0xFFFFFFFFFFFFFFF1)] : State).issues 0 0 (thrd [(1,
    0x8000000000000005), (2, 0xFFFFFFFFFFFFFFF1)] : Thr) ({ mn := .and, d := 3, a := 1, b := 2, imm := 0 } : MIns) ∧
    ({ mn := .and, d := 3, a := 1, b := 2, imm := 0 } : MIns).mn = .and) ∧ ((mul [{ mn := .or, d := 3, a := 1, b := 2, imm := 0 }] [(1,
    0x8000000000000005), (2, 0xFFFFFFFFFFFFFFF1)] : State).issues 0 0 (thrd [(1, 0x8000000000000005), (2, 0xFFFFFFFFFFFFFFF1)] : Thr)
    ({ mn := .or, d := 3, a := 1, b := 2, imm := 0 } : MIns) ∧ ({ mn := .or, d := 3, a := 1, b := 2, imm := 0 } : MIns).mn = .or) ∧ ((mul
    [{ mn := .xor, d := 3, a := 1, b := 2, imm := 0 }] [(1, 0x8000000000000005), (2, 0xFFFFFFFFFFFFFFF1)] : State).issues 0 0 (thrd [(1,
    0x8000000000000005), (2, 0xFFFFFFFFFFFFFFF1)] : Thr) ({ mn := .xor, d := 3, a := 1, b := 2, imm := 0 } : MIns) ∧
    ({ mn := .xor, d := 3, a := 1, b := 2, imm := 0 } : MIns).mn = .xor) ∧ ((mul [{ mn := .sll, d := 3, a := 1, b := 2, imm := 0 }] [(1,
    0x8000000000000005), (2, 0xFFFFFFFFFFFFFFF1)] : State).issues 0 0 (thrd [(1, 0x8000000000000005), (2, 0xFFFFFFFFFFFFFFF1)] : Thr)
    ({ mn := .sll, d := 3, a := 1, b := 2, imm := 0 } : MIns) ∧ ({ mn := .sll, d := 3, a := 1, b := 2, imm := 0 } : MIns).mn = .sll) ∧ ((mul
    [{ mn := .srl, d := 3, a := 1, b := 2, imm := 0 }] [(1, 0x8000000000000005), (2, 0xFFFFFFFFFFFFFFF1)] : State).issues 0 0 (thrd [(1,
    0x8000000000000005), (2, 0xFFFFFFFFFFFFFFF1)] : Thr) ({ mn := .srl, d := 3, a := 1, b := 2, imm := 0 } : MIns) ∧
    ({ mn := .srl, d := 3, a := 1, b := 2, imm := 0 } : MIns).mn = .srl) ∧ ((mul [{ mn := .sra, d := 3, a := 1, b := 2, imm := 0 }] [(1,
    0x8000000000000005), (2, 0xFFFFFFFFFFFFFFF1)] : State).issues 0 0 (thrd [(1, 0x8000000000000005), (2, 0xFFFFFFFFFFFFFFF1)] : Thr)
    ({ mn := .sra, d := 3, a := 1, b := 2, imm := 0 } : MIns) ∧ ({ mn := .sra, d := 3, a := 1, b := 2, imm := 0 } : MIns).mn = .sra) ∧ ((mul
    [{ mn := .rotr, d := 3, a := 1, b := 2, imm := 0 }] [(1, 0x8000000000000005), (2, 0xFFFFFFFFFFFFFFF1)] : State).issues 0 0 (thrd [(1,
    0x8000000000000005), (2, 0xFFFFFFFFFFFFFFF1)] : Thr) ({ mn := .rotr, d := 3, a := 1, b := 2, imm := 0 } : MIns) ∧
    ({ mn := .rotr, d := 3, a := 1, b := 2, imm := 0 } : MIns).mn = .rotr) ∧ ((mul [{ mn := .slt, d := 3, a := 1, b := 2, imm := 0 }] [(1,
    0x8000000000000005), (2, 0xFFFFFFFFFFFFFFF1)] : State).issues 0 0 (thrd [(1, 0x8000000000000005), (2, 0xFFFFFFFFFFFFFFF1)] : Thr)
    ({ mn := .slt, d := 3, a := 1, b := 2, imm := 0 } : MIns) ∧ ({ mn := .slt, d := 3, a := 1, b := 2, imm := 0 } : MIns).mn = .slt) ∧ ((mul
    [{ mn := .sltu, d := 3, a := 1, b := 2, imm := 0 }] [(1, 0x8000000000000005), (2, 0xFFFFFFFFFFFFFFF1)] : State).issues 0 0 (thrd [(1,
    0x8000000000000005), (2, 0xFFFFFFFFFFFFFFF1)] : Thr) ({ mn := .sltu, d := 3, a := 1, b := 2, imm := 0 } : MIns) ∧
    ({ mn := .sltu, d := 3, a := 1, b := 2, imm := 0 } : MIns).mn = .sltu) ∧ ((mul [{ mn := .mul, d := 3, a := 1, b := 2, imm := 0 }] [(1,
    0x8000000000000005), (2, 0xFFFFFFFFFFFFFFF1)] : State).issues 0 0 (thrd [(1, 0x8000000000000005), (2, 0xFFFFFFFFFFFFFFF1)] : Thr)
    ({ mn := .mul, d := 3, a := 1, b := 2, imm := 0 } : MIns) ∧ ({ mn := .mul, d := 3, a := 1, b := 2, imm := 0 } : MIns).mn = .mul) ∧ ((mul
    [{ mn := .mulhu, d := 3, a := 1, b := 2, imm := 0 }] [(1, 0x8000000000000005), (2, 0xFFFFFFFFFFFFFFF1)] : State).issues 0 0 (thrd [(1,
    0x8000000000000005), (2, 0xFFFFFFFFFFFFFFF1)] : Thr) ({ mn := .mulhu, d := 3, a := 1, b := 2, imm := 0 } : MIns) ∧
    ({ mn := .mulhu, d := 3, a := 1, b := 2, imm := 0 } : MIns).mn = .mulhu) ∧ ((mul [{ mn := .minu, d := 3, a := 1, b := 2, imm := 0 }] [(1,
    0x8000000000000005), (2, 0xFFFFFFFFFFFFFFF1)] : State).issues 0 0 (thrd [(1, 0x8000000000000005), (2, 0xFFFFFFFFFFFFFFF1)] : Thr)
    ({ mn := .minu, d := 3, a := 1, b := 2, imm := 0 } : MIns) ∧ ({ mn := .minu, d := 3, a := 1, b := 2, imm := 0 } : MIns).mn = .minu) ∧ ((mul
    [{ mn := .maxu, d := 3, a := 1, b := 2, imm := 0 }] [(1, 0x8000000000000005), (2, 0xFFFFFFFFFFFFFFF1)] : State).issues 0 0 (thrd [(1,
    0x8000000000000005), (2, 0xFFFFFFFFFFFFFFF1)] : Thr) ({ mn := .maxu, d := 3, a := 1, b := 2, imm := 0 } : MIns) ∧
    ({ mn := .maxu, d := 3, a := 1, b := 2, imm := 0 } : MIns).mn = .maxu) ∧ ((mul [{ mn := .clz, d := 3, a := 1, b := 0, imm := 0 }] [(1,
    0x8000000000000005), (2, 0xFFFFFFFFFFFFFFF1)] : State).issues 0 0 (thrd [(1, 0x8000000000000005), (2, 0xFFFFFFFFFFFFFFF1)] : Thr)
    ({ mn := .clz, d := 3, a := 1, b := 0, imm := 0 } : MIns) ∧ ({ mn := .clz, d := 3, a := 1, b := 0, imm := 0 } : MIns).mn = .clz) ∧ ((mul
    [{ mn := .popc, d := 3, a := 1, b := 0, imm := 0 }] [(1, 0x8000000000000005), (2, 0xFFFFFFFFFFFFFFF1)] : State).issues 0 0 (thrd [(1,
    0x8000000000000005), (2, 0xFFFFFFFFFFFFFFF1)] : Thr) ({ mn := .popc, d := 3, a := 1, b := 0, imm := 0 } : MIns) ∧
    ({ mn := .popc, d := 3, a := 1, b := 0, imm := 0 } : MIns).mn = .popc) ∧ ((mul [{ mn := .bswap, d := 3, a := 1, b := 0, imm := 0 }] [(1,
    0x8000000000000005), (2, 0xFFFFFFFFFFFFFFF1)] : State).issues 0 0 (thrd [(1, 0x8000000000000005), (2, 0xFFFFFFFFFFFFFFF1)] : Thr)
    ({ mn := .bswap, d := 3, a := 1, b := 0, imm := 0 } : MIns) ∧ ({ mn := .bswap, d := 3, a := 1, b := 0, imm := 0 } : MIns).mn = .bswap) ∧
    ((mul [{ mn := .crc, d := 3, a := 1, b := 2, imm := 0 }] [(1, 0x8000000000000005), (2, 0xFFFFFFFFFFFFFFF1)] : State).issues 0 0 (thrd [(1,
    0x8000000000000005), (2, 0xFFFFFFFFFFFFFFF1)] : Thr) ({ mn := .crc, d := 3, a := 1, b := 2, imm := 0 } : MIns) ∧
    ({ mn := .crc, d := 3, a := 1, b := 2, imm := 0 } : MIns).mn = .crc) ∧ ((mul [{ mn := .time, d := 3, a := 0, b := 0, imm := 0 }] [(1,
    0x8000000000000005), (2, 0xFFFFFFFFFFFFFFF1)] : State).issues 0 0 (thrd [(1, 0x8000000000000005), (2, 0xFFFFFFFFFFFFFFF1)] : Thr)
    ({ mn := .time, d := 3, a := 0, b := 0, imm := 0 } : MIns) ∧ ({ mn := .time, d := 3, a := 0, b := 0, imm := 0 } : MIns).mn = .time) := by
  and_intros <;> first | decide +kernel | rfl | exact BitVec.isLt _ | exact Nat.zero_le _

/-! ### immediate instructions -/

theorem test_immediate_instructions_hypotheses :
    ((mul [{ mn := .addi, d := 3, a := 1, b := 0, imm := 32767 }] [(1, 0x8000000000000005), (2, 0)] : State).issues 0 0 (thrd [(1,
    0x8000000000000005), (2, 0)] : Thr) ({ mn := .addi, d := 3, a := 1, b := 0, imm := 32767 } : MIns) ∧
    ({ mn := .addi, d := 3, a := 1, b := 0, imm := 32767 } : MIns).mn = .addi) ∧ ((mul [{ mn := .andi, d := 3, a := 1, b := 0, imm := 32767 }]
    [(1, 0x8000000000000005), (2, 0)] : State).issues 0 0 (thrd [(1, 0x8000000000000005), (2, 0)] : Thr)
    ({ mn := .andi, d := 3, a := 1, b := 0, imm := 32767 } : MIns) ∧ ({ mn := .andi, d := 3, a := 1, b := 0, imm := 32767 } : MIns).mn = .andi)
    ∧ ((mul [{ mn := .ori, d := 3, a := 1, b := 0, imm := 32767 }] [(1, 0x8000000000000005), (2, 0)] : State).issues 0 0 (thrd [(1,
    0x8000000000000005), (2, 0)] : Thr) ({ mn := .ori, d := 3, a := 1, b := 0, imm := 32767 } : MIns) ∧
    ({ mn := .ori, d := 3, a := 1, b := 0, imm := 32767 } : MIns).mn = .ori) ∧ ((mul [{ mn := .xori, d := 3, a := 1, b := 0, imm := 32767 }]
    [(1, 0x8000000000000005), (2, 0)] : State).issues 0 0 (thrd [(1, 0x8000000000000005), (2, 0)] : Thr)
    ({ mn := .xori, d := 3, a := 1, b := 0, imm := 32767 } : MIns) ∧ ({ mn := .xori, d := 3, a := 1, b := 0, imm := 32767 } : MIns).mn = .xori)
    ∧ ((mul [{ mn := .shi, d := 3, a := 1, b := 0, imm := 1 }] [(1, 0x8000000000000005), (2, 0)] : State).issues 0 0 (thrd [(1,
    0x8000000000000005), (2, 0)] : Thr) ({ mn := .shi, d := 3, a := 1, b := 0, imm := 1 } : MIns) ∧
    ({ mn := .shi, d := 3, a := 1, b := 0, imm := 1 } : MIns).mn = .shi) ∧ ((mul [{ mn := .lih, d := 3, a := 0, b := 0, imm := 32767 }] [(1,
    0x8000000000000005), (2, 0)] : State).issues 0 0 (thrd [(1, 0x8000000000000005), (2, 0)] : Thr)
    ({ mn := .lih, d := 3, a := 0, b := 0, imm := 32767 } : MIns) ∧ ({ mn := .lih, d := 3, a := 0, b := 0, imm := 32767 } : MIns).mn = .lih) ∧
    ((mul [{ mn := .slti, d := 3, a := 1, b := 0, imm := 32767 }] [(1, 0x8000000000000005), (2, 0)] : State).issues 0 0 (thrd [(1,
    0x8000000000000005), (2, 0)] : Thr) ({ mn := .slti, d := 3, a := 1, b := 0, imm := 32767 } : MIns) ∧
    ({ mn := .slti, d := 3, a := 1, b := 0, imm := 32767 } : MIns).mn = .slti) := by
  and_intros <;> first | decide +kernel | rfl | exact BitVec.isLt _ | exact Nat.zero_le _

/-! ### loads and stores -/

theorem test_loads_and_stores_hypotheses :
    ((mul [{ mn := .ld8u, d := 3, a := 1, b := 0, imm := 65528 }] [(1, 0x60008), (2, 0)] : State).issues 0 0 (thrd [(1, 0x60008), (2, 0)] : Thr)
    ({ mn := .ld8u, d := 3, a := 1, b := 0, imm := 65528 } : MIns) ∧ ({ mn := .ld8u, d := 3, a := 1, b := 0, imm := 65528 } : MIns).mn = .ld8u ∧
    (mul [{ mn := .ld8u, d := 3, a := 1, b := 0, imm := 65528 }] [(1, 0x60008), (2, 0)] : State).mayAccess 0 (thrd [(1, 0x60008), (2, 0)] : Thr)
    ((thrd [(1, 0x60008), (2, 0)] : Thr).ea ({ mn := .ld8u, d := 3, a := 1, b := 0, imm := 65528 } : MIns)) 1 false) ∧ ((mul
    [{ mn := .ld16u, d := 3, a := 1, b := 0, imm := 65528 }] [(1, 0x60008), (2, 0)] : State).issues 0 0 (thrd [(1, 0x60008), (2, 0)] : Thr)
    ({ mn := .ld16u, d := 3, a := 1, b := 0, imm := 65528 } : MIns) ∧ ({ mn := .ld16u, d := 3, a := 1, b := 0, imm := 65528 } : MIns).mn =
    .ld16u ∧ (mul [{ mn := .ld16u, d := 3, a := 1, b := 0, imm := 65528 }] [(1, 0x60008), (2, 0)] : State).mayAccess 0 (thrd [(1, 0x60008), (2,
    0)] : Thr) ((thrd [(1, 0x60008), (2, 0)] : Thr).ea ({ mn := .ld16u, d := 3, a := 1, b := 0, imm := 65528 } : MIns)) 2 false) ∧ ((mul
    [{ mn := .ld32u, d := 3, a := 1, b := 0, imm := 65528 }] [(1, 0x60008), (2, 0)] : State).issues 0 0 (thrd [(1, 0x60008), (2, 0)] : Thr)
    ({ mn := .ld32u, d := 3, a := 1, b := 0, imm := 65528 } : MIns) ∧ ({ mn := .ld32u, d := 3, a := 1, b := 0, imm := 65528 } : MIns).mn =
    .ld32u ∧ (mul [{ mn := .ld32u, d := 3, a := 1, b := 0, imm := 65528 }] [(1, 0x60008), (2, 0)] : State).mayAccess 0 (thrd [(1, 0x60008), (2,
    0)] : Thr) ((thrd [(1, 0x60008), (2, 0)] : Thr).ea ({ mn := .ld32u, d := 3, a := 1, b := 0, imm := 65528 } : MIns)) 4 false) ∧ ((mul
    [{ mn := .ld64, d := 3, a := 1, b := 0, imm := 65528 }] [(1, 0x60008), (2, 0)] : State).issues 0 0 (thrd [(1, 0x60008), (2, 0)] : Thr)
    ({ mn := .ld64, d := 3, a := 1, b := 0, imm := 65528 } : MIns) ∧ ({ mn := .ld64, d := 3, a := 1, b := 0, imm := 65528 } : MIns).mn = .ld64 ∧
    (mul [{ mn := .ld64, d := 3, a := 1, b := 0, imm := 65528 }] [(1, 0x60008), (2, 0)] : State).mayAccess 0 (thrd [(1, 0x60008), (2, 0)] : Thr)
    ((thrd [(1, 0x60008), (2, 0)] : Thr).ea ({ mn := .ld64, d := 3, a := 1, b := 0, imm := 65528 } : MIns)) 8 false) ∧ ((mul
    [{ mn := .st8, d := 2, a := 1, b := 0, imm := 65528 }] [(1, 0x60008), (2, 0x1122334455667788)] : State).issues 0 0 (thrd [(1, 0x60008), (2,
    0x1122334455667788)] : Thr) ({ mn := .st8, d := 2, a := 1, b := 0, imm := 65528 } : MIns) ∧
    ({ mn := .st8, d := 2, a := 1, b := 0, imm := 65528 } : MIns).mn = .st8 ∧ (mul [{ mn := .st8, d := 2, a := 1, b := 0, imm := 65528 }] [(1,
    0x60008), (2, 0x1122334455667788)] : State).mayAccess 0 (thrd [(1, 0x60008), (2, 0x1122334455667788)] : Thr) ((thrd [(1, 0x60008), (2,
    0x1122334455667788)] : Thr).ea ({ mn := .st8, d := 2, a := 1, b := 0, imm := 65528 } : MIns)) 1 true) ∧ ((mul
    [{ mn := .st16, d := 2, a := 1, b := 0, imm := 65528 }] [(1, 0x60008), (2, 0x1122334455667788)] : State).issues 0 0 (thrd [(1, 0x60008), (2,
    0x1122334455667788)] : Thr) ({ mn := .st16, d := 2, a := 1, b := 0, imm := 65528 } : MIns) ∧
    ({ mn := .st16, d := 2, a := 1, b := 0, imm := 65528 } : MIns).mn = .st16 ∧ (mul [{ mn := .st16, d := 2, a := 1, b := 0, imm := 65528 }]
    [(1, 0x60008), (2, 0x1122334455667788)] : State).mayAccess 0 (thrd [(1, 0x60008), (2, 0x1122334455667788)] : Thr) ((thrd [(1, 0x60008), (2,
    0x1122334455667788)] : Thr).ea ({ mn := .st16, d := 2, a := 1, b := 0, imm := 65528 } : MIns)) 2 true) ∧ ((mul
    [{ mn := .st32, d := 2, a := 1, b := 0, imm := 65528 }] [(1, 0x60008), (2, 0x1122334455667788)] : State).issues 0 0 (thrd [(1, 0x60008), (2,
    0x1122334455667788)] : Thr) ({ mn := .st32, d := 2, a := 1, b := 0, imm := 65528 } : MIns) ∧
    ({ mn := .st32, d := 2, a := 1, b := 0, imm := 65528 } : MIns).mn = .st32 ∧ (mul [{ mn := .st32, d := 2, a := 1, b := 0, imm := 65528 }]
    [(1, 0x60008), (2, 0x1122334455667788)] : State).mayAccess 0 (thrd [(1, 0x60008), (2, 0x1122334455667788)] : Thr) ((thrd [(1, 0x60008), (2,
    0x1122334455667788)] : Thr).ea ({ mn := .st32, d := 2, a := 1, b := 0, imm := 65528 } : MIns)) 4 true) ∧ ((mul
    [{ mn := .st64, d := 2, a := 1, b := 0, imm := 65528 }] [(1, 0x60008), (2, 0x1122334455667788)] : State).issues 0 0 (thrd [(1, 0x60008), (2,
    0x1122334455667788)] : Thr) ({ mn := .st64, d := 2, a := 1, b := 0, imm := 65528 } : MIns) ∧
    ({ mn := .st64, d := 2, a := 1, b := 0, imm := 65528 } : MIns).mn = .st64 ∧ (mul [{ mn := .st64, d := 2, a := 1, b := 0, imm := 65528 }]
    [(1, 0x60008), (2, 0x1122334455667788)] : State).mayAccess 0 (thrd [(1, 0x60008), (2, 0x1122334455667788)] : Thr) ((thrd [(1, 0x60008), (2,
    0x1122334455667788)] : Thr).ea ({ mn := .st64, d := 2, a := 1, b := 0, imm := 65528 } : MIns)) 8 true) ∧ (64 + 8 ≤ 0x80000) ∧
    (({ thrd [] with buf := some 7 } : Thr).buf = some 7 ∧ 0x100000 ≤ (0x100010 : Nat) ∧ (0x100010 : Nat) + 8 ≤ 0x101000) ∧
    (({ thrd [] with stepBuf := some 7 } : Thr).stepBuf = some 7 ∧ 0x101000 ≤ (0x101010 : Nat) ∧ (0x101010 : Nat) + 8 ≤ 0x102000) := by
  and_intros <;> first | decide +kernel | rfl | exact BitVec.isLt _ | exact Nat.zero_le _

/-! ### branches and jumps -/

theorem test_branches_and_jumps_hypotheses :
    ((mul [{ mn := .beq, d := 0, a := 1, b := 2, imm := 65534 }] [(1, 0x8000000000000005), (2, 0xFFFFFFFFFFFFFFF1)] : State).issues 0 0 (thrd
    [(1, 0x8000000000000005), (2, 0xFFFFFFFFFFFFFFF1)] : Thr) ({ mn := .beq, d := 0, a := 1, b := 2, imm := 65534 } : MIns) ∧
    ({ mn := .beq, d := 0, a := 1, b := 2, imm := 65534 } : MIns).mn = .beq) ∧ ((mul [{ mn := .bne, d := 0, a := 1, b := 2, imm := 65534 }] [(1,
    0x8000000000000005), (2, 0xFFFFFFFFFFFFFFF1)] : State).issues 0 0 (thrd [(1, 0x8000000000000005), (2, 0xFFFFFFFFFFFFFFF1)] : Thr)
    ({ mn := .bne, d := 0, a := 1, b := 2, imm := 65534 } : MIns) ∧ ({ mn := .bne, d := 0, a := 1, b := 2, imm := 65534 } : MIns).mn = .bne) ∧
    ((mul [{ mn := .blt, d := 0, a := 1, b := 2, imm := 65534 }] [(1, 0x8000000000000005), (2, 0xFFFFFFFFFFFFFFF1)] : State).issues 0 0 (thrd
    [(1, 0x8000000000000005), (2, 0xFFFFFFFFFFFFFFF1)] : Thr) ({ mn := .blt, d := 0, a := 1, b := 2, imm := 65534 } : MIns) ∧
    ({ mn := .blt, d := 0, a := 1, b := 2, imm := 65534 } : MIns).mn = .blt) ∧ ((mul [{ mn := .bge, d := 0, a := 1, b := 2, imm := 65534 }] [(1,
    0x8000000000000005), (2, 0xFFFFFFFFFFFFFFF1)] : State).issues 0 0 (thrd [(1, 0x8000000000000005), (2, 0xFFFFFFFFFFFFFFF1)] : Thr)
    ({ mn := .bge, d := 0, a := 1, b := 2, imm := 65534 } : MIns) ∧ ({ mn := .bge, d := 0, a := 1, b := 2, imm := 65534 } : MIns).mn = .bge) ∧
    ((mul [{ mn := .bltu, d := 0, a := 1, b := 2, imm := 65534 }] [(1, 0x8000000000000005), (2, 0xFFFFFFFFFFFFFFF1)] : State).issues 0 0 (thrd
    [(1, 0x8000000000000005), (2, 0xFFFFFFFFFFFFFFF1)] : Thr) ({ mn := .bltu, d := 0, a := 1, b := 2, imm := 65534 } : MIns) ∧
    ({ mn := .bltu, d := 0, a := 1, b := 2, imm := 65534 } : MIns).mn = .bltu) ∧ ((mul [{ mn := .bgeu, d := 0, a := 1, b := 2, imm := 65534 }]
    [(1, 0x8000000000000005), (2, 0xFFFFFFFFFFFFFFF1)] : State).issues 0 0 (thrd [(1, 0x8000000000000005), (2, 0xFFFFFFFFFFFFFFF1)] : Thr)
    ({ mn := .bgeu, d := 0, a := 1, b := 2, imm := 65534 } : MIns) ∧ ({ mn := .bgeu, d := 0, a := 1, b := 2, imm := 65534 } : MIns).mn = .bgeu)
    ∧ ((mul [{ mn := .jal, d := 5, a := 0, b := 0, imm := 0 }] [(1, 0), (2, 0)] : State).issues 0 0 (thrd [(1, 0), (2, 0)] : Thr)
    ({ mn := .jal, d := 5, a := 0, b := 0, imm := 0 } : MIns) ∧ ({ mn := .jal, d := 5, a := 0, b := 0, imm := 0 } : MIns).mn = .jal) ∧ ((mul
    [{ mn := .jalr, d := 1, a := 1, b := 0, imm := 65532 }] [(1, 0x1000), (2, 0)] : State).issues 0 0 (thrd [(1, 0x1000), (2, 0)] : Thr)
    ({ mn := .jalr, d := 1, a := 1, b := 0, imm := 65532 } : MIns) ∧ ({ mn := .jalr, d := 1, a := 1, b := 0, imm := 65532 } : MIns).mn = .jalr ∧
    (thrd [(1, 0x1000), (2, 0)] : Thr).ea ({ mn := .jalr, d := 1, a := 1, b := 0, imm := 65532 } : MIns) % 4 = 0) := by
  and_intros <;> first | decide +kernel | rfl | exact BitVec.isLt _ | exact Nat.zero_le _

/-! ### mule faults -/

theorem test_mule_faults_hypotheses :
    ((mul [] [] : State).turn 0 0 (thrd [] : Thr) ∧ (mul [] [] : State).fetch 0 (thrd [] : Thr) = .error (1, none)) ∧
    (({ thrd [] with pc := 0x10000 } : Thr).codeSize < ({ thrd [] with pc := 0x10000 } : Thr).pc + 4) ∧ (({ thrd [] with pc := 0xFFFC } : Thr).o
    = false ∧ ({ thrd [] with pc := 0xFFFC } : Thr).pc + 4 ≤ 0x10000 ∧ ({ thrd [] with pc := 0xFFFC } : Thr).pc % 4 = 0 ∧ mDecode (leNat
    (memRead up.mule.imem (0x20000 * (3 / 4) + ({ thrd [] with pc := 0xFFFC } : Thr).pc) 4)) = none) ∧ ((mul
    [{ mn := .ld64, d := 3, a := 1, b := 0, imm := 0 }] [(1, 0x60001)] : State).issues 0 0 (thrd [(1, 0x60001)] : Thr)
    ({ mn := .ld64, d := 3, a := 1, b := 0, imm := 0 } : MIns) ∧ ({ mn := .ld64, d := 3, a := 1, b := 0, imm := 0 } : MIns).mn ∈ [.ld8u, .ld16u,
    .ld32u, .ld64, .st8, .st16, .st32, .st64] ∧ (thrd [(1, 0x60001)] : Thr).ea ({ mn := .ld64, d := 3, a := 1, b := 0, imm := 0 } : MIns) %
    mSize ({ mn := .ld64, d := 3, a := 1, b := 0, imm := 0 } : MIns).mn ≠ 0) ∧ ((mul [{ mn := .ld64, d := 3, a := 1, b := 0, imm := 0 }] [(1,
    0x80000)] : State).issues 0 0 (thrd [(1, 0x80000)] : Thr) ({ mn := .ld64, d := 3, a := 1, b := 0, imm := 0 } : MIns) ∧
    ({ mn := .ld64, d := 3, a := 1, b := 0, imm := 0 } : MIns).mn ∈ [.ld8u, .ld16u, .ld32u, .ld64] ∧ (thrd [(1, 0x80000)] : Thr).ea
    ({ mn := .ld64, d := 3, a := 1, b := 0, imm := 0 } : MIns) % mSize ({ mn := .ld64, d := 3, a := 1, b := 0, imm := 0 } : MIns).mn = 0 ∧ (mul
    [{ mn := .ld64, d := 3, a := 1, b := 0, imm := 0 }] [(1, 0x80000)] : State).localOk 0 (thrd [(1, 0x80000)] : Thr) ((thrd [(1, 0x80000)] :
    Thr).ea ({ mn := .ld64, d := 3, a := 1, b := 0, imm := 0 } : MIns)) (mSize ({ mn := .ld64, d := 3, a := 1, b := 0, imm := 0 } : MIns).mn)
    false = false) ∧ ((mul [{ mn := .st8, d := 3, a := 1, b := 0, imm := 0 }] [(1, 0x80000)] : State).issues 0 0 (thrd [(1, 0x80000)] : Thr)
    ({ mn := .st8, d := 3, a := 1, b := 0, imm := 0 } : MIns) ∧ ({ mn := .st8, d := 3, a := 1, b := 0, imm := 0 } : MIns).mn ∈ [.st8, .st16,
    .st32, .st64] ∧ (thrd [(1, 0x80000)] : Thr).ea ({ mn := .st8, d := 3, a := 1, b := 0, imm := 0 } : MIns) % mSize
    ({ mn := .st8, d := 3, a := 1, b := 0, imm := 0 } : MIns).mn = 0 ∧ (mul [{ mn := .st8, d := 3, a := 1, b := 0, imm := 0 }] [(1, 0x80000)] :
    State).localOk 0 (thrd [(1, 0x80000)] : Thr) ((thrd [(1, 0x80000)] : Thr).ea ({ mn := .st8, d := 3, a := 1, b := 0, imm := 0 } : MIns))
    (mSize ({ mn := .st8, d := 3, a := 1, b := 0, imm := 0 } : MIns).mn) true = false) ∧ ((mul
    [{ mn := .jalr, d := 3, a := 1, b := 0, imm := 0 }] [(1, 6)] : State).issues 0 0 (thrd [(1, 6)] : Thr)
    ({ mn := .jalr, d := 3, a := 1, b := 0, imm := 0 } : MIns) ∧ ({ mn := .jalr, d := 3, a := 1, b := 0, imm := 0 } : MIns).mn = .jalr ∧ (thrd
    [(1, 6)] : Thr).ea ({ mn := .jalr, d := 3, a := 1, b := 0, imm := 0 } : MIns) % 4 ≠ 0) ∧ ((mul
    [{ mn := .srdS, d := 3, a := 1, b := 2, imm := 0 }] [(1, 60), (2, 5), (3, 0x60000)] : State).issues 0 0 (thrd [(1, 60), (2, 5), (3,
    0x60000)] : Thr) ({ mn := .srdS, d := 3, a := 1, b := 2, imm := 0 } : MIns) ∧ ({ mn := .srdS, d := 3, a := 1, b := 2, imm := 0 } : MIns).mn
    ∈ [.srdS, .srdD] ∧ ((mul [{ mn := .srdS, d := 3, a := 1, b := 2, imm := 0 }] [(1, 60), (2, 5), (3, 0x60000)] : State).dm.acc.look (thrd [(1,
    60), (2, 5), (3, 0x60000)] : Thr).idx).isSome = true ∧ ((thrd [(1, 60), (2, 5), (3, 0x60000)] : Thr).g
    ({ mn := .srdS, d := 3, a := 1, b := 2, imm := 0 } : MIns).b = 0 ∨ 4096 < (thrd [(1, 60), (2, 5), (3, 0x60000)] : Thr).g
    ({ mn := .srdS, d := 3, a := 1, b := 2, imm := 0 } : MIns).b ∨ dLen ((mul [{ mn := .srdS, d := 3, a := 1, b := 2, imm := 0 }] [(1, 60), (2,
    5), (3, 0x60000)] : State).descOf (thrd [(1, 60), (2, 5), (3, 0x60000)] : Thr).idx) < (thrd [(1, 60), (2, 5), (3, 0x60000)] : Thr).g
    ({ mn := .srdS, d := 3, a := 1, b := 2, imm := 0 } : MIns).a + (thrd [(1, 60), (2, 5), (3, 0x60000)] : Thr).g
    ({ mn := .srdS, d := 3, a := 1, b := 2, imm := 0 } : MIns).b ∨ (mul [{ mn := .srdS, d := 3, a := 1, b := 2, imm := 0 }] [(1, 60), (2, 5),
    (3, 0x60000)] : State).localOk 0 (thrd [(1, 60), (2, 5), (3, 0x60000)] : Thr) ((thrd [(1, 60), (2, 5), (3, 0x60000)] : Thr).g
    ({ mn := .srdS, d := 3, a := 1, b := 2, imm := 0 } : MIns).d) ((thrd [(1, 60), (2, 5), (3, 0x60000)] : Thr).g
    ({ mn := .srdS, d := 3, a := 1, b := 2, imm := 0 } : MIns).b) true = false)) ∧ ((mulT [{ mn := .swrD, d := 3, a := 1, b := 2, imm := 0 }]
    { thrd [] with o := true } : State).issues 0 0 ({ thrd [] with o := true } : Thr) ({ mn := .swrD, d := 3, a := 1, b := 2, imm := 0 } : MIns)
    ∧ ({ mn := .swrD, d := 3, a := 1, b := 2, imm := 0 } : MIns).mn = .swrD ∧ ((mulT [{ mn := .swrD, d := 3, a := 1, b := 2, imm := 0 }]
    { thrd [] with o := true } : State).dm.acc.look ({ thrd [] with o := true } : Thr).idx).isSome = true ∧ ({ thrd [] with o := true } : Thr).o
    = true ∧ (mulT [{ mn := .swrD, d := 3, a := 1, b := 2, imm := 0 }] { thrd [] with o := true } : State).progIdem ((mulT
    [{ mn := .swrD, d := 3, a := 1, b := 2, imm := 0 }] { thrd [] with o := true } : State).descOf ({ thrd [] with o := true } : Thr).idx) =
    false) ∧ ((mul [{ mn := .sput, d := 3, a := 1, b := 2, imm := 0 }] [] : State).issues 0 0 (thrd [] : Thr)
    ({ mn := .sput, d := 3, a := 1, b := 2, imm := 0 } : MIns) ∧ (({ mn := .sput, d := 3, a := 1, b := 2, imm := 0 } : MIns).mn = .sput ∨
    ({ mn := .sput, d := 3, a := 1, b := 2, imm := 0 } : MIns).mn = .step) ∧ ((thrd [] : Thr).o = false ∨ (mul
    [{ mn := .sput, d := 3, a := 1, b := 2, imm := 0 }] [] : State).progIdem ((mul [{ mn := .sput, d := 3, a := 1, b := 2, imm := 0 }] [] :
    State).descOf (thrd [] : Thr).idx) = true)) ∧ ((mulT [{ mn := .sput, d := 3, a := 1, b := 2, imm := 0 }]
    { thrd [] with o := true, sputs := List.replicate 62 (0, 1, 0) } : State).issues 0 0
    ({ thrd [] with o := true, sputs := List.replicate 62 (0, 1, 0) } : Thr) ({ mn := .sput, d := 3, a := 1, b := 2, imm := 0 } : MIns) ∧
    ({ mn := .sput, d := 3, a := 1, b := 2, imm := 0 } : MIns).mn = .sput ∧ 62 ≤
    ({ thrd [] with o := true, sputs := List.replicate 62 (0, 1, 0) } : Thr).sputs.length) ∧ ((setW (mulT [] { thrd [] with o := true })
    [(F.CPW_TIME_TIME, [], 1)] : State).sealed = false ∧ (setW (mulT [] { thrd [] with o := true }) [(F.CPW_TIME_TIME, [], 1)] : State).thr 0 =
    some ({ thrd [] with o := true } : Thr) ∧ ({ thrd [] with o := true } : Thr).o = true ∧ ({ thrd [] with o := true } : Thr).t0 + (setW (mulT
    [] { thrd [] with o := true }) [(F.CPW_TIME_TIME, [], 1)] : State).get F.DMG_PROG_RUN_LIMIT [({ thrd [] with o := true } : Thr).slot] * 1000
    < (setW (mulT [] { thrd [] with o := true }) [(F.CPW_TIME_TIME, [], 1)] : State).now ∧ ({ thrd [] with o := true } : Thr).step = none) ∧
    ((mul [] [] : State).sealed = false ∧ (mul [] [] : State).thr 0 = some (thrd [] : Thr) ∧ ((thrd [] : Thr).o = false ∨ (mul [] [] :
    State).now ≤ (thrd [] : Thr).t0 + (mul [] [] : State).get F.DMG_PROG_RUN_LIMIT [(thrd [] : Thr).slot] * 1000 ∨ (thrd [] : Thr).step.isSome =
    true ∧ (mul [] [] : State).settledX (thrd [] : Thr).idx = true ∧ ((mul [] [] : State).led (thrd [] : Thr).idx).ni = 1)) ∧ ((mul
    [{ mn := .add, d := 1, a := 2, b := 3, imm := 0 }] [] : State).issues 0 0 (thrd [] : Thr) ({ mn := .add, d := 1, a := 2, b := 3, imm := 0 }
    : MIns) ∧ ({ mn := .add, d := 1, a := 2, b := 3, imm := 0 } : MIns).mn ≠ (.sub : Mn)) ∧ (up.sealed = false ∧ (up.muleIn 0 = false ∨
    up.nextThr 0 = none)) := by
  and_intros <;> first | decide +kernel | rfl | exact BitVec.isLt _ | exact Nat.zero_le _

/-! ### stream instructions -/

theorem test_stream_instructions_hypotheses :
    ((mul [{ mn := .srdS, d := 3, a := 1, b := 2, imm := 0 }] [(1, 8), (2, 56), (3, 0x60000)] : State).issues 0 0 (thrd [(1, 8), (2, 56), (3,
    0x60000)] : Thr) ({ mn := .srdS, d := 3, a := 1, b := 2, imm := 0 } : MIns) ∧ ({ mn := .srdS, d := 3, a := 1, b := 2, imm := 0 } : MIns).mn
    = .srdS ∧ (mul [{ mn := .srdS, d := 3, a := 1, b := 2, imm := 0 }] [(1, 8), (2, 56), (3, 0x60000)] : State).dm.acc.look (thrd [(1, 8), (2,
    56), (3, 0x60000)] : Thr).idx = some cpy ∧ streamRangeOk cpy.d ((thrd [(1, 8), (2, 56), (3, 0x60000)] : Thr).g
    ({ mn := .srdS, d := 3, a := 1, b := 2, imm := 0 } : MIns).a) ((thrd [(1, 8), (2, 56), (3, 0x60000)] : Thr).g
    ({ mn := .srdS, d := 3, a := 1, b := 2, imm := 0 } : MIns).b) = true ∧ (mul [{ mn := .srdS, d := 3, a := 1, b := 2, imm := 0 }] [(1, 8), (2,
    56), (3, 0x60000)] : State).localOk 0 (thrd [(1, 8), (2, 56), (3, 0x60000)] : Thr) ((thrd [(1, 8), (2, 56), (3, 0x60000)] : Thr).g
    ({ mn := .srdS, d := 3, a := 1, b := 2, imm := 0 } : MIns).d) ((thrd [(1, 8), (2, 56), (3, 0x60000)] : Thr).g
    ({ mn := .srdS, d := 3, a := 1, b := 2, imm := 0 } : MIns).b) true = true ∧ (mul [{ mn := .srdS, d := 3, a := 1, b := 2, imm := 0 }] [(1,
    8), (2, 56), (3, 0x60000)] : State).thrGate 0 (thrd [(1, 8), (2, 56), (3, 0x60000)] : Thr) 1 ((thrd [(1, 8), (2, 56), (3, 0x60000)] : Thr).g
    ({ mn := .srdS, d := 3, a := 1, b := 2, imm := 0 } : MIns).d) ((thrd [(1, 8), (2, 56), (3, 0x60000)] : Thr).g
    ({ mn := .srdS, d := 3, a := 1, b := 2, imm := 0 } : MIns).b) = none ∧ (mul [{ mn := .srdS, d := 3, a := 1, b := 2, imm := 0 }] [(1, 8), (2,
    56), (3, 0x60000)] : State).streamOut 0 < 64) ∧ ((mul [{ mn := .srdD, d := 3, a := 1, b := 2, imm := 0 }] [(1, 8), (2, 56), (3, 0x60000)] :
    State).issues 0 0 (thrd [(1, 8), (2, 56), (3, 0x60000)] : Thr) ({ mn := .srdD, d := 3, a := 1, b := 2, imm := 0 } : MIns) ∧
    ({ mn := .srdD, d := 3, a := 1, b := 2, imm := 0 } : MIns).mn = .srdD ∧ (mul [{ mn := .srdD, d := 3, a := 1, b := 2, imm := 0 }] [(1, 8),
    (2, 56), (3, 0x60000)] : State).dm.acc.look (thrd [(1, 8), (2, 56), (3, 0x60000)] : Thr).idx = some cpy ∧ streamRangeOk cpy.d ((thrd [(1,
    8), (2, 56), (3, 0x60000)] : Thr).g ({ mn := .srdD, d := 3, a := 1, b := 2, imm := 0 } : MIns).a) ((thrd [(1, 8), (2, 56), (3, 0x60000)] :
    Thr).g ({ mn := .srdD, d := 3, a := 1, b := 2, imm := 0 } : MIns).b) = true ∧ (mul [{ mn := .srdD, d := 3, a := 1, b := 2, imm := 0 }] [(1,
    8), (2, 56), (3, 0x60000)] : State).localOk 0 (thrd [(1, 8), (2, 56), (3, 0x60000)] : Thr) ((thrd [(1, 8), (2, 56), (3, 0x60000)] : Thr).g
    ({ mn := .srdD, d := 3, a := 1, b := 2, imm := 0 } : MIns).d) ((thrd [(1, 8), (2, 56), (3, 0x60000)] : Thr).g
    ({ mn := .srdD, d := 3, a := 1, b := 2, imm := 0 } : MIns).b) true = true ∧ (mul [{ mn := .srdD, d := 3, a := 1, b := 2, imm := 0 }] [(1,
    8), (2, 56), (3, 0x60000)] : State).thrGate 0 (thrd [(1, 8), (2, 56), (3, 0x60000)] : Thr) 1 ((thrd [(1, 8), (2, 56), (3, 0x60000)] : Thr).g
    ({ mn := .srdD, d := 3, a := 1, b := 2, imm := 0 } : MIns).d) ((thrd [(1, 8), (2, 56), (3, 0x60000)] : Thr).g
    ({ mn := .srdD, d := 3, a := 1, b := 2, imm := 0 } : MIns).b) = none ∧ (mul [{ mn := .srdD, d := 3, a := 1, b := 2, imm := 0 }] [(1, 8), (2,
    56), (3, 0x60000)] : State).streamOut 0 < 64) ∧ ((mulT [{ mn := .srdS, d := 3, a := 1, b := 2, imm := 0 }]
    { thrd [(1, 8), (2, 56), (3, 0x60000)] with writes := List.replicate 64 (0, 1) } : State).issues 0 0
    ({ thrd [(1, 8), (2, 56), (3, 0x60000)] with writes := List.replicate 64 (0, 1) } : Thr) ({ mn := .srdS, d := 3, a := 1, b := 2, imm := 0 }
    : MIns) ∧ ({ mn := .srdS, d := 3, a := 1, b := 2, imm := 0 } : MIns).mn ∈ [.srdS, .srdD, .swrD] ∧ ((mulT
    [{ mn := .srdS, d := 3, a := 1, b := 2, imm := 0 }] { thrd [(1, 8), (2, 56), (3, 0x60000)] with writes := List.replicate 64 (0, 1) } :
    State).dm.acc.look ({ thrd [(1, 8), (2, 56), (3, 0x60000)] with writes := List.replicate 64 (0, 1) } : Thr).idx).isSome = true ∧
    streamRangeOk ((mulT [{ mn := .srdS, d := 3, a := 1, b := 2, imm := 0 }]
    { thrd [(1, 8), (2, 56), (3, 0x60000)] with writes := List.replicate 64 (0, 1) } : State).descOf
    ({ thrd [(1, 8), (2, 56), (3, 0x60000)] with writes := List.replicate 64 (0, 1) } : Thr).idx)
    (({ thrd [(1, 8), (2, 56), (3, 0x60000)] with writes := List.replicate 64 (0, 1) } : Thr).g
    ({ mn := .srdS, d := 3, a := 1, b := 2, imm := 0 } : MIns).a)
    (({ thrd [(1, 8), (2, 56), (3, 0x60000)] with writes := List.replicate 64 (0, 1) } : Thr).g
    ({ mn := .srdS, d := 3, a := 1, b := 2, imm := 0 } : MIns).b) = true ∧ (mulT [{ mn := .srdS, d := 3, a := 1, b := 2, imm := 0 }]
    { thrd [(1, 8), (2, 56), (3, 0x60000)] with writes := List.replicate 64 (0, 1) } : State).localOk 0
    ({ thrd [(1, 8), (2, 56), (3, 0x60000)] with writes := List.replicate 64 (0, 1) } : Thr)
    (({ thrd [(1, 8), (2, 56), (3, 0x60000)] with writes := List.replicate 64 (0, 1) } : Thr).g
    ({ mn := .srdS, d := 3, a := 1, b := 2, imm := 0 } : MIns).d)
    (({ thrd [(1, 8), (2, 56), (3, 0x60000)] with writes := List.replicate 64 (0, 1) } : Thr).g
    ({ mn := .srdS, d := 3, a := 1, b := 2, imm := 0 } : MIns).b) (decide (({ mn := .srdS, d := 3, a := 1, b := 2, imm := 0 } : MIns).mn ≠
    .swrD)) = true ∧ (mulT [{ mn := .srdS, d := 3, a := 1, b := 2, imm := 0 }]
    { thrd [(1, 8), (2, 56), (3, 0x60000)] with writes := List.replicate 64 (0, 1) } : State).thrGate 0
    ({ thrd [(1, 8), (2, 56), (3, 0x60000)] with writes := List.replicate 64 (0, 1) } : Thr) (if
    ({ mn := .srdS, d := 3, a := 1, b := 2, imm := 0 } : MIns).mn = .swrD then 0 else 1)
    (({ thrd [(1, 8), (2, 56), (3, 0x60000)] with writes := List.replicate 64 (0, 1) } : Thr).g
    ({ mn := .srdS, d := 3, a := 1, b := 2, imm := 0 } : MIns).d)
    (({ thrd [(1, 8), (2, 56), (3, 0x60000)] with writes := List.replicate 64 (0, 1) } : Thr).g
    ({ mn := .srdS, d := 3, a := 1, b := 2, imm := 0 } : MIns).b) = none ∧ 64 ≤ (mulT [{ mn := .srdS, d := 3, a := 1, b := 2, imm := 0 }]
    { thrd [(1, 8), (2, 56), (3, 0x60000)] with writes := List.replicate 64 (0, 1) } : State).streamOut 0 ∧
    ((({ mn := .srdS, d := 3, a := 1, b := 2, imm := 0 } : MIns).mn = .swrD →
    ({ thrd [(1, 8), (2, 56), (3, 0x60000)] with writes := List.replicate 64 (0, 1) } : Thr).o = true → (mulT
    [{ mn := .srdS, d := 3, a := 1, b := 2, imm := 0 }] { thrd [(1, 8), (2, 56), (3, 0x60000)] with writes := List.replicate 64 (0, 1) } :
    State).progIdem ((mulT [{ mn := .srdS, d := 3, a := 1, b := 2, imm := 0 }]
    { thrd [(1, 8), (2, 56), (3, 0x60000)] with writes := List.replicate 64 (0, 1) } : State).descOf
    ({ thrd [(1, 8), (2, 56), (3, 0x60000)] with writes := List.replicate 64 (0, 1) } : Thr).idx) = true))) ∧ ((mul
    [{ mn := .swrD, d := 3, a := 1, b := 2, imm := 0 }] [(1, 8), (2, 56), (3, 0x60000)] : State).issues 0 0 (thrd [(1, 8), (2, 56), (3,
    0x60000)] : Thr) ({ mn := .swrD, d := 3, a := 1, b := 2, imm := 0 } : MIns) ∧ ({ mn := .swrD, d := 3, a := 1, b := 2, imm := 0 } : MIns).mn
    = .swrD ∧ (mul [{ mn := .swrD, d := 3, a := 1, b := 2, imm := 0 }] [(1, 8), (2, 56), (3, 0x60000)] : State).dm.acc.look (thrd [(1, 8), (2,
    56), (3, 0x60000)] : Thr).idx = some cpy ∧ (((thrd [(1, 8), (2, 56), (3, 0x60000)] : Thr).o = true → (mul
    [{ mn := .swrD, d := 3, a := 1, b := 2, imm := 0 }] [(1, 8), (2, 56), (3, 0x60000)] : State).progIdem cpy.d = true)) ∧ streamRangeOk cpy.d
    ((thrd [(1, 8), (2, 56), (3, 0x60000)] : Thr).g ({ mn := .swrD, d := 3, a := 1, b := 2, imm := 0 } : MIns).a) ((thrd [(1, 8), (2, 56), (3,
    0x60000)] : Thr).g ({ mn := .swrD, d := 3, a := 1, b := 2, imm := 0 } : MIns).b) = true ∧ (mul
    [{ mn := .swrD, d := 3, a := 1, b := 2, imm := 0 }] [(1, 8), (2, 56), (3, 0x60000)] : State).localOk 0 (thrd [(1, 8), (2, 56), (3, 0x60000)]
    : Thr) ((thrd [(1, 8), (2, 56), (3, 0x60000)] : Thr).g ({ mn := .swrD, d := 3, a := 1, b := 2, imm := 0 } : MIns).d) ((thrd [(1, 8), (2,
    56), (3, 0x60000)] : Thr).g ({ mn := .swrD, d := 3, a := 1, b := 2, imm := 0 } : MIns).b) false = true ∧ (mul
    [{ mn := .swrD, d := 3, a := 1, b := 2, imm := 0 }] [(1, 8), (2, 56), (3, 0x60000)] : State).thrGate 0 (thrd [(1, 8), (2, 56), (3, 0x60000)]
    : Thr) 0 ((thrd [(1, 8), (2, 56), (3, 0x60000)] : Thr).g ({ mn := .swrD, d := 3, a := 1, b := 2, imm := 0 } : MIns).d) ((thrd [(1, 8), (2,
    56), (3, 0x60000)] : Thr).g ({ mn := .swrD, d := 3, a := 1, b := 2, imm := 0 } : MIns).b) = none ∧ (mul
    [{ mn := .swrD, d := 3, a := 1, b := 2, imm := 0 }] [(1, 8), (2, 56), (3, 0x60000)] : State).streamOut 0 < 64) ∧ ((mulT
    [{ mn := .sput, d := 3, a := 1, b := 2, imm := 0 }] { thrd [(1, 8), (2, 56), (3, 0x101008)] with o := true, stepBuf := some 5 } :
    State).issues 0 0 ({ thrd [(1, 8), (2, 56), (3, 0x101008)] with o := true, stepBuf := some 5 } : Thr)
    ({ mn := .sput, d := 3, a := 1, b := 2, imm := 0 } : MIns) ∧ ({ mn := .sput, d := 3, a := 1, b := 2, imm := 0 } : MIns).mn = .sput ∧
    ({ thrd [(1, 8), (2, 56), (3, 0x101008)] with o := true, stepBuf := some 5 } : Thr).o = true ∧ (mulT
    [{ mn := .sput, d := 3, a := 1, b := 2, imm := 0 }] { thrd [(1, 8), (2, 56), (3, 0x101008)] with o := true, stepBuf := some 5 } :
    State).progIdem ((mulT [{ mn := .sput, d := 3, a := 1, b := 2, imm := 0 }]
    { thrd [(1, 8), (2, 56), (3, 0x101008)] with o := true, stepBuf := some 5 } : State).descOf
    ({ thrd [(1, 8), (2, 56), (3, 0x101008)] with o := true, stepBuf := some 5 } : Thr).idx) = false ∧
    ({ thrd [(1, 8), (2, 56), (3, 0x101008)] with o := true, stepBuf := some 5 } : Thr).sputs.length < 62 ∧ streamRangeOk ((mulT
    [{ mn := .sput, d := 3, a := 1, b := 2, imm := 0 }] { thrd [(1, 8), (2, 56), (3, 0x101008)] with o := true, stepBuf := some 5 } :
    State).descOf ({ thrd [(1, 8), (2, 56), (3, 0x101008)] with o := true, stepBuf := some 5 } : Thr).idx)
    (({ thrd [(1, 8), (2, 56), (3, 0x101008)] with o := true, stepBuf := some 5 } : Thr).g ({ mn := .sput, d := 3, a := 1, b := 2, imm := 0 } :
    MIns).a) (({ thrd [(1, 8), (2, 56), (3, 0x101008)] with o := true, stepBuf := some 5 } : Thr).g
    ({ mn := .sput, d := 3, a := 1, b := 2, imm := 0 } : MIns).b) = true ∧ 0x101000 ≤
    ({ thrd [(1, 8), (2, 56), (3, 0x101008)] with o := true, stepBuf := some 5 } : Thr).g ({ mn := .sput, d := 3, a := 1, b := 2, imm := 0 } :
    MIns).d ∧ ({ thrd [(1, 8), (2, 56), (3, 0x101008)] with o := true, stepBuf := some 5 } : Thr).g
    ({ mn := .sput, d := 3, a := 1, b := 2, imm := 0 } : MIns).d + ({ thrd [(1, 8), (2, 56), (3, 0x101008)] with o := true, stepBuf := some 5 }
    : Thr).g ({ mn := .sput, d := 3, a := 1, b := 2, imm := 0 } : MIns).b ≤ 0x101E00) ∧ ((mul
    [{ mn := .swait, d := 0, a := 0, b := 0, imm := 0 }] [] : State).issues 0 0 (thrd [] : Thr)
    ({ mn := .swait, d := 0, a := 0, b := 0, imm := 0 } : MIns) ∧ ({ mn := .swait, d := 0, a := 0, b := 0, imm := 0 } : MIns).mn = .swait ∧
    (thrd [] : Thr).reads = [] ∧ (thrd [] : Thr).writes = []) ∧ ((mulT [{ mn := .swait, d := 0, a := 0, b := 0, imm := 0 }]
    { thrd [] with writes := [(0, 1)] } : State).issues 0 0 ({ thrd [] with writes := [(0, 1)] } : Thr)
    ({ mn := .swait, d := 0, a := 0, b := 0, imm := 0 } : MIns) ∧ ({ mn := .swait, d := 0, a := 0, b := 0, imm := 0 } : MIns).mn = .swait ∧
    (({ thrd [] with writes := [(0, 1)] } : Thr).reads ≠ [] ∨ ({ thrd [] with writes := [(0, 1)] } : Thr).writes ≠ [])) ∧ ((mulT []
    { thrd [] with reads := [{ dst := false, off := 0, len := 1, loc := 0x60000 }, { dst := true, off := 8, len := 4, loc := 0x60006 }] } :
    State).sealed = false ∧ (mulT []
    { thrd [] with reads := [{ dst := false, off := 0, len := 1, loc := 0x60000 }, { dst := true, off := 8, len := 4, loc := 0x60006 }] } :
    State).thr 0 = some
    ({ thrd [] with reads := [{ dst := false, off := 0, len := 1, loc := 0x60000 }, { dst := true, off := 8, len := 4, loc := 0x60006 }] } :
    Thr) ∧
    ({ thrd [] with reads := [{ dst := false, off := 0, len := 1, loc := 0x60000 }, { dst := true, off := 8, len := 4, loc := 0x60006 }] } :
    Thr).reads[1]? = some ({ dst := true, off := 8, len := 4, loc := 0x60006 } : SRead) ∧
    ({ thrd [] with reads := [{ dst := false, off := 0, len := 1, loc := 0x60000 }, { dst := true, off := 8, len := 4, loc := 0x60006 }] } :
    Thr).waiting = false ∧
    ({ thrd [] with reads := [{ dst := false, off := 0, len := 1, loc := 0x60000 }, { dst := true, off := 8, len := 4, loc := 0x60006 }] } :
    Thr).step = none) ∧ ((mulT [] { thrd [] with writes := [(0, 1), (3, 4)] } : State).sealed = false ∧ (mulT []
    { thrd [] with writes := [(0, 1), (3, 4)] } : State).thr 0 = some ({ thrd [] with writes := [(0, 1), (3, 4)] } : Thr) ∧
    ({ thrd [] with writes := [(0, 1), (3, 4)] } : Thr).writes[1]? = some ((3, 4) : Nat × Nat) ∧ ({ thrd [] with writes := [(0, 1), (3, 4)] } :
    Thr).waiting = false ∧ ({ thrd [] with writes := [(0, 1), (3, 4)] } : Thr).step = none) ∧ ((mulT []
    { thrd [] with writes := [(3, 4)], waiting := true } : State).sealed = false ∧ (mulT [] { thrd [] with writes := [(3, 4)], waiting := true }
    : State).thr 0 = some ({ thrd [] with writes := [(3, 4)], waiting := true } : Thr) ∧ ({ thrd [] with writes := [(3, 4)], waiting := true } :
    Thr).writes = [((3, 4) : Nat × Nat)] ∧ ({ thrd [] with writes := [(3, 4)], waiting := true } : Thr).reads = [] ∧
    ({ thrd [] with writes := [(3, 4)], waiting := true } : Thr).waiting = true ∧ ({ thrd [] with writes := [(3, 4)], waiting := true } :
    Thr).fin = none ∧ ({ thrd [] with writes := [(3, 4)], waiting := true } : Thr).step = none) ∧ ((mulT []
    { thrd [] with reads := [{ dst := true, off := 8, len := 4, loc := 0x60000 }] } : State).sealed = false ∧ (mulT []
    { thrd [] with reads := [{ dst := true, off := 8, len := 4, loc := 0x60000 }] } : State).thr 0 = some
    ({ thrd [] with reads := [{ dst := true, off := 8, len := 4, loc := 0x60000 }] } : Thr) ∧
    ({ thrd [] with reads := [{ dst := true, off := 8, len := 4, loc := 0x60000 }] } : Thr).reads[0]? = some
    ({ dst := true, off := 8, len := 4, loc := 0x60000 } : SRead) ∧ 0x10 ≠ 0 ∧ ((mulT []
    { thrd [] with reads := [{ dst := true, off := 8, len := 4, loc := 0x60000 }] } : State).led
    ({ thrd [] with reads := [{ dst := true, off := 8, len := 4, loc := 0x60000 }] } : Thr).idx).state = 2 ∧ ((mulT []
    { thrd [] with reads := [{ dst := true, off := 8, len := 4, loc := 0x60000 }] } : State).led
    ({ thrd [] with reads := [{ dst := true, off := 8, len := 4, loc := 0x60000 }] } : Thr).idx).status = 0) := by
  and_intros <;> first | decide +kernel | rfl | exact BitVec.isLt _ | exact Nat.zero_le _

/-! ### steps and ends -/

theorem test_steps_and_ends_hypotheses :
    ((step2 { mn := .step, d := 0, a := 1, b := 0, imm := 0 } { thrd [(1, 0x77)] with o := true, stepBuf := some 5, sputs := [(8, 2, 30)] } :
    State).issues 0 0 ({ thrd [(1, 0x77)] with o := true, stepBuf := some 5, sputs := [(8, 2, 30)] } : Thr)
    ({ mn := .step, d := 0, a := 1, b := 0, imm := 0 } : MIns) ∧ ({ mn := .step, d := 0, a := 1, b := 0, imm := 0 } : MIns).mn = .step ∧
    ({ thrd [(1, 0x77)] with o := true, stepBuf := some 5, sputs := [(8, 2, 30)] } : Thr).o = true ∧ (step2
    { mn := .step, d := 0, a := 1, b := 0, imm := 0 } { thrd [(1, 0x77)] with o := true, stepBuf := some 5, sputs := [(8, 2, 30)] } :
    State).progIdem ((step2 { mn := .step, d := 0, a := 1, b := 0, imm := 0 }
    { thrd [(1, 0x77)] with o := true, stepBuf := some 5, sputs := [(8, 2, 30)] } : State).descOf
    ({ thrd [(1, 0x77)] with o := true, stepBuf := some 5, sputs := [(8, 2, 30)] } : Thr).idx) = false ∧ (step2
    { mn := .step, d := 0, a := 1, b := 0, imm := 0 } { thrd [(1, 0x77)] with o := true, stepBuf := some 5, sputs := [(8, 2, 30)] } :
    State).stagingShare ({ thrd [(1, 0x77)] with o := true, stepBuf := some 5, sputs := [(8, 2, 30)] } : Thr).inst = true ∧ (step2
    { mn := .step, d := 0, a := 1, b := 0, imm := 0 } { thrd [(1, 0x77)] with o := true, stepBuf := some 5, sputs := [(8, 2, 30)] } :
    State).settledX ({ thrd [(1, 0x77)] with o := true, stepBuf := some 5, sputs := [(8, 2, 30)] } : Thr).idx = true ∧
    ({ thrd [(1, 0x77)] with o := true, stepBuf := some 5, sputs := [(8, 2, 30)] } : Thr).stepBuf = some 5 ∧ (step2
    { mn := .step, d := 0, a := 1, b := 0, imm := 0 } { thrd [(1, 0x77)] with o := true, stepBuf := some 5, sputs := [(8, 2, 30)] } :
    State).takeBuf ({ thrd [(1, 0x77)] with o := true, stepBuf := some 5, sputs := [(8, 2, 30)] } : Thr).inst (fun k => decide (k / 4 ≠ 5 / 1024
    / 4)) = some (4096, (took (step2 { mn := .step, d := 0, a := 1, b := 0, imm := 0 }
    { thrd [(1, 0x77)] with o := true, stepBuf := some 5, sputs := [(8, 2, 30)] }) : State))) ∧ ((setW (mulT
    [{ mn := .step, d := 0, a := 1, b := 0, imm := 0 }] { thrd [(1, 0x77)] with o := true, stepBuf := some 5, sputs := [(8, 2, 30)] })
    [(F.DMG_SHARE_SQUOTA, [], 0)] : State).issues 0 0 ({ thrd [(1, 0x77)] with o := true, stepBuf := some 5, sputs := [(8, 2, 30)] } : Thr)
    ({ mn := .step, d := 0, a := 1, b := 0, imm := 0 } : MIns) ∧ ({ mn := .step, d := 0, a := 1, b := 0, imm := 0 } : MIns).mn = .step ∧
    ({ thrd [(1, 0x77)] with o := true, stepBuf := some 5, sputs := [(8, 2, 30)] } : Thr).o = true ∧ (setW (mulT
    [{ mn := .step, d := 0, a := 1, b := 0, imm := 0 }] { thrd [(1, 0x77)] with o := true, stepBuf := some 5, sputs := [(8, 2, 30)] })
    [(F.DMG_SHARE_SQUOTA, [], 0)] : State).progIdem ((setW (mulT [{ mn := .step, d := 0, a := 1, b := 0, imm := 0 }]
    { thrd [(1, 0x77)] with o := true, stepBuf := some 5, sputs := [(8, 2, 30)] }) [(F.DMG_SHARE_SQUOTA, [], 0)] : State).descOf
    ({ thrd [(1, 0x77)] with o := true, stepBuf := some 5, sputs := [(8, 2, 30)] } : Thr).idx) = false ∧ ((setW (mulT
    [{ mn := .step, d := 0, a := 1, b := 0, imm := 0 }] { thrd [(1, 0x77)] with o := true, stepBuf := some 5, sputs := [(8, 2, 30)] })
    [(F.DMG_SHARE_SQUOTA, [], 0)] : State).stagingShare ({ thrd [(1, 0x77)] with o := true, stepBuf := some 5, sputs := [(8, 2, 30)] } :
    Thr).inst = false ∨ (setW (mulT [{ mn := .step, d := 0, a := 1, b := 0, imm := 0 }]
    { thrd [(1, 0x77)] with o := true, stepBuf := some 5, sputs := [(8, 2, 30)] }) [(F.DMG_SHARE_SQUOTA, [], 0)] : State).settledX
    ({ thrd [(1, 0x77)] with o := true, stepBuf := some 5, sputs := [(8, 2, 30)] } : Thr).idx = false)) ∧
    (({ mulT [] { thrd [] with o := true, stepBuf := some 5, sputs := [(0, 2, 8)], step := some 0x77, mirror := some 4096 } with dm := { (mulT [] { thrd [] with o := true, stepBuf := some 5, sputs := [(0, 2, 8)], step := some 0x77, mirror := some 4096 }).dm with even := [(65536, { ent with state := 2, ni := 1, cwin := 5 + 2 ^ 14 * 4096 })], odd := [(65536, ent)], pend := [65536], todo := [(65536, 4)], chunks := [(65536, [{ c := 0, thr := 0 }])], bufs := [(4096, 5), (5, 5)] } }
    : State).sealed = false ∧
    ({ mulT [] { thrd [] with o := true, stepBuf := some 5, sputs := [(0, 2, 8)], step := some 0x77, mirror := some 4096 } with dm := { (mulT [] { thrd [] with o := true, stepBuf := some 5, sputs := [(0, 2, 8)], step := some 0x77, mirror := some 4096 }).dm with even := [(65536, { ent with state := 2, ni := 1, cwin := 5 + 2 ^ 14 * 4096 })], odd := [(65536, ent)], pend := [65536], todo := [(65536, 4)], chunks := [(65536, [{ c := 0, thr := 0 }])], bufs := [(4096, 5), (5, 5)] } }
    : State).dm.mv = [] ∧
    ({ mulT [] { thrd [] with o := true, stepBuf := some 5, sputs := [(0, 2, 8)], step := some 0x77, mirror := some 4096 } with dm := { (mulT [] { thrd [] with o := true, stepBuf := some 5, sputs := [(0, 2, 8)], step := some 0x77, mirror := some 4096 }).dm with even := [(65536, { ent with state := 2, ni := 1, cwin := 5 + 2 ^ 14 * 4096 })], odd := [(65536, ent)], pend := [65536], todo := [(65536, 4)], chunks := [(65536, [{ c := 0, thr := 0 }])], bufs := [(4096, 5), (5, 5)] } }
    : State).dm.even.look 65536 = some ({ ent with state := 2, ni := 1, cwin := 5 + 2 ^ 14 * 4096 } : LedE) ∧ 65536 ∈
    ({ mulT [] { thrd [] with o := true, stepBuf := some 5, sputs := [(0, 2, 8)], step := some 0x77, mirror := some 4096 } with dm := { (mulT [] { thrd [] with o := true, stepBuf := some 5, sputs := [(0, 2, 8)], step := some 0x77, mirror := some 4096 }).dm with even := [(65536, { ent with state := 2, ni := 1, cwin := 5 + 2 ^ 14 * 4096 })], odd := [(65536, ent)], pend := [65536], todo := [(65536, 4)], chunks := [(65536, [{ c := 0, thr := 0 }])], bufs := [(4096, 5), (5, 5)] } }
    : State).dm.pend ∧ ({ ent with state := 2, ni := 1, cwin := 5 + 2 ^ 14 * 4096 } : LedE).kind = 0 ∧
    ({ ent with state := 2, ni := 1, cwin := 5 + 2 ^ 14 * 4096 } : LedE).state = 2 ∧
    (({ mulT [] { thrd [] with o := true, stepBuf := some 5, sputs := [(0, 2, 8)], step := some 0x77, mirror := some 4096 } with dm := { (mulT [] { thrd [] with o := true, stepBuf := some 5, sputs := [(0, 2, 8)], step := some 0x77, mirror := some 4096 }).dm with even := [(65536, { ent with state := 2, ni := 1, cwin := 5 + 2 ^ 14 * 4096 })], odd := [(65536, ent)], pend := [65536], todo := [(65536, 4)], chunks := [(65536, [{ c := 0, thr := 0 }])], bufs := [(4096, 5), (5, 5)] } }
    : State).qps ({ ent with state := 2, ni := 1, cwin := 5 + 2 ^ 14 * 4096 } : LedE).inst
    ({ ent with state := 2, ni := 1, cwin := 5 + 2 ^ 14 * 4096 } : LedE).qp).offer ≠ some 65536 ∧
    ({ mulT [] { thrd [] with o := true, stepBuf := some 5, sputs := [(0, 2, 8)], step := some 0x77, mirror := some 4096 } with dm := { (mulT [] { thrd [] with o := true, stepBuf := some 5, sputs := [(0, 2, 8)], step := some 0x77, mirror := some 4096 }).dm with even := [(65536, { ent with state := 2, ni := 1, cwin := 5 + 2 ^ 14 * 4096 })], odd := [(65536, ent)], pend := [65536], todo := [(65536, 4)], chunks := [(65536, [{ c := 0, thr := 0 }])], bufs := [(4096, 5), (5, 5)] } }
    : State).dm.flr = [] ∧
    ({ mulT [] { thrd [] with o := true, stepBuf := some 5, sputs := [(0, 2, 8)], step := some 0x77, mirror := some 4096 } with dm := { (mulT [] { thrd [] with o := true, stepBuf := some 5, sputs := [(0, 2, 8)], step := some 0x77, mirror := some 4096 }).dm with even := [(65536, { ent with state := 2, ni := 1, cwin := 5 + 2 ^ 14 * 4096 })], odd := [(65536, ent)], pend := [65536], todo := [(65536, 4)], chunks := [(65536, [{ c := 0, thr := 0 }])], bufs := [(4096, 5), (5, 5)] } }
    : State).chunksOf 65536 = [({ c := 0, thr := 0 } : Chk)] ∧
    ({ mulT [] { thrd [] with o := true, stepBuf := some 5, sputs := [(0, 2, 8)], step := some 0x77, mirror := some 4096 } with dm := { (mulT [] { thrd [] with o := true, stepBuf := some 5, sputs := [(0, 2, 8)], step := some 0x77, mirror := some 4096 }).dm with even := [(65536, { ent with state := 2, ni := 1, cwin := 5 + 2 ^ 14 * 4096 })], odd := [(65536, ent)], pend := [65536], todo := [(65536, 4)], chunks := [(65536, [{ c := 0, thr := 0 }])], bufs := [(4096, 5), (5, 5)] } }
    : State).thr ({ c := 0, thr := 0 } : Chk).thr = some
    ({ thrd [] with o := true, stepBuf := some 5, sputs := [(0, 2, 8)], step := some 0x77, mirror := some 4096 } : Thr) ∧
    ({ thrd [] with o := true, stepBuf := some 5, sputs := [(0, 2, 8)], step := some 0x77, mirror := some 4096 } : Thr).idx = 65536 ∧
    ({ mulT [] { thrd [] with o := true, stepBuf := some 5, sputs := [(0, 2, 8)], step := some 0x77, mirror := some 4096 } with dm := { (mulT [] { thrd [] with o := true, stepBuf := some 5, sputs := [(0, 2, 8)], step := some 0x77, mirror := some 4096 }).dm with even := [(65536, { ent with state := 2, ni := 1, cwin := 5 + 2 ^ 14 * 4096 })], odd := [(65536, ent)], pend := [65536], todo := [(65536, 4)], chunks := [(65536, [{ c := 0, thr := 0 }])], bufs := [(4096, 5), (5, 5)] } }
    : State).dm.acc.look 65536 = some cpy ∧
    ({ mulT [] { thrd [] with o := true, stepBuf := some 5, sputs := [(0, 2, 8)], step := some 0x77, mirror := some 4096 } with dm := { (mulT [] { thrd [] with o := true, stepBuf := some 5, sputs := [(0, 2, 8)], step := some 0x77, mirror := some 4096 }).dm with even := [(65536, { ent with state := 2, ni := 1, cwin := 5 + 2 ^ 14 * 4096 })], odd := [(65536, ent)], pend := [65536], todo := [(65536, 4)], chunks := [(65536, [{ c := 0, thr := 0 }])], bufs := [(4096, 5), (5, 5)] } }
    : State).dm.todo.look 65536 = some 4 ∧
    ({ thrd [] with o := true, stepBuf := some 5, sputs := [(0, 2, 8)], step := some 0x77, mirror := some 4096 } : Thr).sputs ≠ []) ∧
    (({ mulT [] { thrd [] with o := true, stepBuf := some 5, sputs := [], step := some 0x77, mirror := some 4096 } with dm := { (mulT [] { thrd [] with o := true, stepBuf := some 5, sputs := [], step := some 0x77, mirror := some 4096 }).dm with even := [(65536, { ent with state := 2, ni := 1, seq := 0x77, cwin := 5 + 2 ^ 14 * 4096 })], odd := [(65536, ent)], pend := [65536], todo := [(65536, 4)], chunks := [(65536, [{ c := 0, thr := 0 }])], bufs := [(4096, 5), (5, 5)] } }
    : State).sealed = false ∧
    ({ mulT [] { thrd [] with o := true, stepBuf := some 5, sputs := [], step := some 0x77, mirror := some 4096 } with dm := { (mulT [] { thrd [] with o := true, stepBuf := some 5, sputs := [], step := some 0x77, mirror := some 4096 }).dm with even := [(65536, { ent with state := 2, ni := 1, seq := 0x77, cwin := 5 + 2 ^ 14 * 4096 })], odd := [(65536, ent)], pend := [65536], todo := [(65536, 4)], chunks := [(65536, [{ c := 0, thr := 0 }])], bufs := [(4096, 5), (5, 5)] } }
    : State).dm.mv = [] ∧
    ({ mulT [] { thrd [] with o := true, stepBuf := some 5, sputs := [], step := some 0x77, mirror := some 4096 } with dm := { (mulT [] { thrd [] with o := true, stepBuf := some 5, sputs := [], step := some 0x77, mirror := some 4096 }).dm with even := [(65536, { ent with state := 2, ni := 1, seq := 0x77, cwin := 5 + 2 ^ 14 * 4096 })], odd := [(65536, ent)], pend := [65536], todo := [(65536, 4)], chunks := [(65536, [{ c := 0, thr := 0 }])], bufs := [(4096, 5), (5, 5)] } }
    : State).dm.even.look 65536 = some ({ ent with state := 2, ni := 1, seq := 0x77, cwin := 5 + 2 ^ 14 * 4096 } : LedE) ∧ 65536 ∈
    ({ mulT [] { thrd [] with o := true, stepBuf := some 5, sputs := [], step := some 0x77, mirror := some 4096 } with dm := { (mulT [] { thrd [] with o := true, stepBuf := some 5, sputs := [], step := some 0x77, mirror := some 4096 }).dm with even := [(65536, { ent with state := 2, ni := 1, seq := 0x77, cwin := 5 + 2 ^ 14 * 4096 })], odd := [(65536, ent)], pend := [65536], todo := [(65536, 4)], chunks := [(65536, [{ c := 0, thr := 0 }])], bufs := [(4096, 5), (5, 5)] } }
    : State).dm.pend ∧ ({ ent with state := 2, ni := 1, seq := 0x77, cwin := 5 + 2 ^ 14 * 4096 } : LedE).kind = 0 ∧
    ({ ent with state := 2, ni := 1, seq := 0x77, cwin := 5 + 2 ^ 14 * 4096 } : LedE).state = 2 ∧
    (({ mulT [] { thrd [] with o := true, stepBuf := some 5, sputs := [], step := some 0x77, mirror := some 4096 } with dm := { (mulT [] { thrd [] with o := true, stepBuf := some 5, sputs := [], step := some 0x77, mirror := some 4096 }).dm with even := [(65536, { ent with state := 2, ni := 1, seq := 0x77, cwin := 5 + 2 ^ 14 * 4096 })], odd := [(65536, ent)], pend := [65536], todo := [(65536, 4)], chunks := [(65536, [{ c := 0, thr := 0 }])], bufs := [(4096, 5), (5, 5)] } }
    : State).qps ({ ent with state := 2, ni := 1, seq := 0x77, cwin := 5 + 2 ^ 14 * 4096 } : LedE).inst
    ({ ent with state := 2, ni := 1, seq := 0x77, cwin := 5 + 2 ^ 14 * 4096 } : LedE).qp).offer ≠ some 65536 ∧
    ({ mulT [] { thrd [] with o := true, stepBuf := some 5, sputs := [], step := some 0x77, mirror := some 4096 } with dm := { (mulT [] { thrd [] with o := true, stepBuf := some 5, sputs := [], step := some 0x77, mirror := some 4096 }).dm with even := [(65536, { ent with state := 2, ni := 1, seq := 0x77, cwin := 5 + 2 ^ 14 * 4096 })], odd := [(65536, ent)], pend := [65536], todo := [(65536, 4)], chunks := [(65536, [{ c := 0, thr := 0 }])], bufs := [(4096, 5), (5, 5)] } }
    : State).dm.flr = [] ∧
    ({ mulT [] { thrd [] with o := true, stepBuf := some 5, sputs := [], step := some 0x77, mirror := some 4096 } with dm := { (mulT [] { thrd [] with o := true, stepBuf := some 5, sputs := [], step := some 0x77, mirror := some 4096 }).dm with even := [(65536, { ent with state := 2, ni := 1, seq := 0x77, cwin := 5 + 2 ^ 14 * 4096 })], odd := [(65536, ent)], pend := [65536], todo := [(65536, 4)], chunks := [(65536, [{ c := 0, thr := 0 }])], bufs := [(4096, 5), (5, 5)] } }
    : State).chunksOf 65536 = [({ c := 0, thr := 0 } : Chk)] ∧
    ({ mulT [] { thrd [] with o := true, stepBuf := some 5, sputs := [], step := some 0x77, mirror := some 4096 } with dm := { (mulT [] { thrd [] with o := true, stepBuf := some 5, sputs := [], step := some 0x77, mirror := some 4096 }).dm with even := [(65536, { ent with state := 2, ni := 1, seq := 0x77, cwin := 5 + 2 ^ 14 * 4096 })], odd := [(65536, ent)], pend := [65536], todo := [(65536, 4)], chunks := [(65536, [{ c := 0, thr := 0 }])], bufs := [(4096, 5), (5, 5)] } }
    : State).thr ({ c := 0, thr := 0 } : Chk).thr = some
    ({ thrd [] with o := true, stepBuf := some 5, sputs := [], step := some 0x77, mirror := some 4096 } : Thr) ∧
    ({ thrd [] with o := true, stepBuf := some 5, sputs := [], step := some 0x77, mirror := some 4096 } : Thr).idx = 65536 ∧
    ({ mulT [] { thrd [] with o := true, stepBuf := some 5, sputs := [], step := some 0x77, mirror := some 4096 } with dm := { (mulT [] { thrd [] with o := true, stepBuf := some 5, sputs := [], step := some 0x77, mirror := some 4096 }).dm with even := [(65536, { ent with state := 2, ni := 1, seq := 0x77, cwin := 5 + 2 ^ 14 * 4096 })], odd := [(65536, ent)], pend := [65536], todo := [(65536, 4)], chunks := [(65536, [{ c := 0, thr := 0 }])], bufs := [(4096, 5), (5, 5)] } }
    : State).dm.acc.look 65536 = some cpy ∧
    ({ mulT [] { thrd [] with o := true, stepBuf := some 5, sputs := [], step := some 0x77, mirror := some 4096 } with dm := { (mulT [] { thrd [] with o := true, stepBuf := some 5, sputs := [], step := some 0x77, mirror := some 4096 }).dm with even := [(65536, { ent with state := 2, ni := 1, seq := 0x77, cwin := 5 + 2 ^ 14 * 4096 })], odd := [(65536, ent)], pend := [65536], todo := [(65536, 4)], chunks := [(65536, [{ c := 0, thr := 0 }])], bufs := [(4096, 5), (5, 5)] } }
    : State).dm.todo.look 65536 = some 4 ∧ ({ thrd [] with o := true, stepBuf := some 5, sputs := [], step := some 0x77, mirror := some 4096 } :
    Thr).sputs = [] ∧ ({ thrd [] with o := true, stepBuf := some 5, sputs := [], step := some 0x77, mirror := some 4096 } : Thr).step = some
    ({ ent with state := 2, ni := 1, seq := 0x77, cwin := 5 + 2 ^ 14 * 4096 } : LedE).seq) ∧ ((mulT []
    { thrd [] with writes := [(3, 4)], step := some 0x77 } : State).sealed = false ∧ (mulT []
    { thrd [] with writes := [(3, 4)], step := some 0x77 } : State).thr 0 = some ({ thrd [] with writes := [(3, 4)], step := some 0x77 } : Thr)
    ∧ ({ thrd [] with writes := [(3, 4)], step := some 0x77 } : Thr).writes = [((3, 4) : Nat × Nat)] ∧
    ({ thrd [] with writes := [(3, 4)], step := some 0x77 } : Thr).reads = [] ∧ ({ thrd [] with writes := [(3, 4)], step := some 0x77 } :
    Thr).step = some (0x77 : Nat)) ∧
    (({ mulT [{ mn := .end_, d := 0, a := 1, b := 0, imm := 0 }] { thrd [(1, 0x77)] with o := true } with dm := { (mulT [{ mn := .end_, d := 0, a := 1, b := 0, imm := 0 }] { thrd [(1, 0x77)] with o := true }).dm with even := [(65536, { ent with state := 2, opcode := 10 })], odd := [(65536, ent)], acc := [(65536, { cpy with d := desc 10 64 })], chunks := [(65536, [{ c := 0, thr := 0 }])] } }
    : State).issues 0 0 ({ thrd [(1, 0x77)] with o := true } : Thr) ({ mn := .end_, d := 0, a := 1, b := 0, imm := 0 } : MIns) ∧
    ({ mn := .end_, d := 0, a := 1, b := 0, imm := 0 } : MIns).mn = .end_ ∧ ({ thrd [(1, 0x77)] with o := true } : Thr).reads = [] ∧
    ({ thrd [(1, 0x77)] with o := true } : Thr).writes = [] ∧
    ({ mulT [{ mn := .end_, d := 0, a := 1, b := 0, imm := 0 }] { thrd [(1, 0x77)] with o := true } with dm := { (mulT [{ mn := .end_, d := 0, a := 1, b := 0, imm := 0 }] { thrd [(1, 0x77)] with o := true }).dm with even := [(65536, { ent with state := 2, opcode := 10 })], odd := [(65536, ent)], acc := [(65536, { cpy with d := desc 10 64 })], chunks := [(65536, [{ c := 0, thr := 0 }])] } }
    : State).led ({ thrd [(1, 0x77)] with o := true } : Thr).idx = ({ ent with state := 2, opcode := 10 } : LedE) ∧
    ({ ent with state := 2, opcode := 10 } : LedE).state = 2 ∧ ({ ent with state := 2, opcode := 10 } : LedE).status = 0 ∧
    ({ ent with state := 2, opcode := 10 } : LedE).cdone = 0 ∧ ({ thrd [(1, 0x77)] with o := true } : Thr).c = 0 ∧
    ({ mulT [{ mn := .end_, d := 0, a := 1, b := 0, imm := 0 }] { thrd [(1, 0x77)] with o := true } with dm := { (mulT [{ mn := .end_, d := 0, a := 1, b := 0, imm := 0 }] { thrd [(1, 0x77)] with o := true }).dm with even := [(65536, { ent with state := 2, opcode := 10 })], odd := [(65536, ent)], acc := [(65536, { cpy with d := desc 10 64 })], chunks := [(65536, [{ c := 0, thr := 0 }])] } }
    : State).nChunks
    (({ mulT [{ mn := .end_, d := 0, a := 1, b := 0, imm := 0 }] { thrd [(1, 0x77)] with o := true } with dm := { (mulT [{ mn := .end_, d := 0, a := 1, b := 0, imm := 0 }] { thrd [(1, 0x77)] with o := true }).dm with even := [(65536, { ent with state := 2, opcode := 10 })], odd := [(65536, ent)], acc := [(65536, { cpy with d := desc 10 64 })], chunks := [(65536, [{ c := 0, thr := 0 }])] } }
    : State).descOf ({ thrd [(1, 0x77)] with o := true } : Thr).idx) = 1 ∧ dOp
    (({ mulT [{ mn := .end_, d := 0, a := 1, b := 0, imm := 0 }] { thrd [(1, 0x77)] with o := true } with dm := { (mulT [{ mn := .end_, d := 0, a := 1, b := 0, imm := 0 }] { thrd [(1, 0x77)] with o := true }).dm with even := [(65536, { ent with state := 2, opcode := 10 })], odd := [(65536, ent)], acc := [(65536, { cpy with d := desc 10 64 })], chunks := [(65536, [{ c := 0, thr := 0 }])] } }
    : State).descOf ({ thrd [(1, 0x77)] with o := true } : Thr).idx) = 0xA) ∧
    (({ mulT [{ mn := .abort, d := 0, a := 1, b := 0, imm := 0 }] { thrd [(1, 0x77)] with o := true } with dm := { (mulT [{ mn := .abort, d := 0, a := 1, b := 0, imm := 0 }] { thrd [(1, 0x77)] with o := true }).dm with even := [(65536, { ent with state := 2, opcode := 10 })], odd := [(65536, ent)], acc := [(65536, { cpy with d := desc 10 64 })], chunks := [(65536, [{ c := 0, thr := 0 }])] } }
    : State).issues 0 0 ({ thrd [(1, 0x77)] with o := true } : Thr) ({ mn := .abort, d := 0, a := 1, b := 0, imm := 0 } : MIns) ∧
    ({ mn := .abort, d := 0, a := 1, b := 0, imm := 0 } : MIns).mn = .abort ∧ ({ thrd [(1, 0x77)] with o := true } : Thr).reads = [] ∧
    ({ thrd [(1, 0x77)] with o := true } : Thr).writes = [] ∧
    ({ mulT [{ mn := .abort, d := 0, a := 1, b := 0, imm := 0 }] { thrd [(1, 0x77)] with o := true } with dm := { (mulT [{ mn := .abort, d := 0, a := 1, b := 0, imm := 0 }] { thrd [(1, 0x77)] with o := true }).dm with even := [(65536, { ent with state := 2, opcode := 10 })], odd := [(65536, ent)], acc := [(65536, { cpy with d := desc 10 64 })], chunks := [(65536, [{ c := 0, thr := 0 }])] } }
    : State).led ({ thrd [(1, 0x77)] with o := true } : Thr).idx = ({ ent with state := 2, opcode := 10 } : LedE) ∧
    ({ ent with state := 2, opcode := 10 } : LedE).state = 2 ∧ ({ ent with state := 2, opcode := 10 } : LedE).status = 0) ∧ ((mulT
    [{ mn := .end_, d := 0, a := 1, b := 0, imm := 0 }] { thrd [(1, 9)] with writes := [(0, 1)] } : State).issues 0 0
    ({ thrd [(1, 9)] with writes := [(0, 1)] } : Thr) ({ mn := .end_, d := 0, a := 1, b := 0, imm := 0 } : MIns) ∧
    ({ mn := .end_, d := 0, a := 1, b := 0, imm := 0 } : MIns).mn ∈ [.end_, .abort] ∧ (({ thrd [(1, 9)] with writes := [(0, 1)] } : Thr).reads ≠
    [] ∨ ({ thrd [(1, 9)] with writes := [(0, 1)] } : Thr).writes ≠ [])) ∧
    (({ mulT [] { thrd [] with o := true, stepBuf := some 5, sputs := [(0, 2, 8)], step := some 0x77, mirror := some 4096 } with dm := { (mulT [] { thrd [] with o := true, stepBuf := some 5, sputs := [(0, 2, 8)], step := some 0x77, mirror := some 4096 }).dm with even := [(65536, { ent with state := 2, ni := 2, cwin := 5 + 2 ^ 14 * 4096 })], odd := [(65536, ent)], pend := [65536], todo := [(65536, 5)], chunks := [(65536, [{ c := 0, thr := 0 }])], bufs := [(4096, 5), (5, 5)] } }
    : State).sealed = false ∧
    ({ mulT [] { thrd [] with o := true, stepBuf := some 5, sputs := [(0, 2, 8)], step := some 0x77, mirror := some 4096 } with dm := { (mulT [] { thrd [] with o := true, stepBuf := some 5, sputs := [(0, 2, 8)], step := some 0x77, mirror := some 4096 }).dm with even := [(65536, { ent with state := 2, ni := 2, cwin := 5 + 2 ^ 14 * 4096 })], odd := [(65536, ent)], pend := [65536], todo := [(65536, 5)], chunks := [(65536, [{ c := 0, thr := 0 }])], bufs := [(4096, 5), (5, 5)] } }
    : State).dm.mv = [] ∧
    ({ mulT [] { thrd [] with o := true, stepBuf := some 5, sputs := [(0, 2, 8)], step := some 0x77, mirror := some 4096 } with dm := { (mulT [] { thrd [] with o := true, stepBuf := some 5, sputs := [(0, 2, 8)], step := some 0x77, mirror := some 4096 }).dm with even := [(65536, { ent with state := 2, ni := 2, cwin := 5 + 2 ^ 14 * 4096 })], odd := [(65536, ent)], pend := [65536], todo := [(65536, 5)], chunks := [(65536, [{ c := 0, thr := 0 }])], bufs := [(4096, 5), (5, 5)] } }
    : State).dm.even.look 65536 = some ({ ent with state := 2, ni := 2, cwin := 5 + 2 ^ 14 * 4096 } : LedE) ∧ 65536 ∈
    ({ mulT [] { thrd [] with o := true, stepBuf := some 5, sputs := [(0, 2, 8)], step := some 0x77, mirror := some 4096 } with dm := { (mulT [] { thrd [] with o := true, stepBuf := some 5, sputs := [(0, 2, 8)], step := some 0x77, mirror := some 4096 }).dm with even := [(65536, { ent with state := 2, ni := 2, cwin := 5 + 2 ^ 14 * 4096 })], odd := [(65536, ent)], pend := [65536], todo := [(65536, 5)], chunks := [(65536, [{ c := 0, thr := 0 }])], bufs := [(4096, 5), (5, 5)] } }
    : State).dm.pend ∧ ({ ent with state := 2, ni := 2, cwin := 5 + 2 ^ 14 * 4096 } : LedE).kind = 0 ∧
    ({ ent with state := 2, ni := 2, cwin := 5 + 2 ^ 14 * 4096 } : LedE).state = 2 ∧
    (({ mulT [] { thrd [] with o := true, stepBuf := some 5, sputs := [(0, 2, 8)], step := some 0x77, mirror := some 4096 } with dm := { (mulT [] { thrd [] with o := true, stepBuf := some 5, sputs := [(0, 2, 8)], step := some 0x77, mirror := some 4096 }).dm with even := [(65536, { ent with state := 2, ni := 2, cwin := 5 + 2 ^ 14 * 4096 })], odd := [(65536, ent)], pend := [65536], todo := [(65536, 5)], chunks := [(65536, [{ c := 0, thr := 0 }])], bufs := [(4096, 5), (5, 5)] } }
    : State).qps ({ ent with state := 2, ni := 2, cwin := 5 + 2 ^ 14 * 4096 } : LedE).inst
    ({ ent with state := 2, ni := 2, cwin := 5 + 2 ^ 14 * 4096 } : LedE).qp).offer ≠ some 65536 ∧
    ({ mulT [] { thrd [] with o := true, stepBuf := some 5, sputs := [(0, 2, 8)], step := some 0x77, mirror := some 4096 } with dm := { (mulT [] { thrd [] with o := true, stepBuf := some 5, sputs := [(0, 2, 8)], step := some 0x77, mirror := some 4096 }).dm with even := [(65536, { ent with state := 2, ni := 2, cwin := 5 + 2 ^ 14 * 4096 })], odd := [(65536, ent)], pend := [65536], todo := [(65536, 5)], chunks := [(65536, [{ c := 0, thr := 0 }])], bufs := [(4096, 5), (5, 5)] } }
    : State).dm.flr = [] ∧
    ({ mulT [] { thrd [] with o := true, stepBuf := some 5, sputs := [(0, 2, 8)], step := some 0x77, mirror := some 4096 } with dm := { (mulT [] { thrd [] with o := true, stepBuf := some 5, sputs := [(0, 2, 8)], step := some 0x77, mirror := some 4096 }).dm with even := [(65536, { ent with state := 2, ni := 2, cwin := 5 + 2 ^ 14 * 4096 })], odd := [(65536, ent)], pend := [65536], todo := [(65536, 5)], chunks := [(65536, [{ c := 0, thr := 0 }])], bufs := [(4096, 5), (5, 5)] } }
    : State).chunksOf 65536 = [({ c := 0, thr := 0 } : Chk)] ∧
    ({ mulT [] { thrd [] with o := true, stepBuf := some 5, sputs := [(0, 2, 8)], step := some 0x77, mirror := some 4096 } with dm := { (mulT [] { thrd [] with o := true, stepBuf := some 5, sputs := [(0, 2, 8)], step := some 0x77, mirror := some 4096 }).dm with even := [(65536, { ent with state := 2, ni := 2, cwin := 5 + 2 ^ 14 * 4096 })], odd := [(65536, ent)], pend := [65536], todo := [(65536, 5)], chunks := [(65536, [{ c := 0, thr := 0 }])], bufs := [(4096, 5), (5, 5)] } }
    : State).thr ({ c := 0, thr := 0 } : Chk).thr = some
    ({ thrd [] with o := true, stepBuf := some 5, sputs := [(0, 2, 8)], step := some 0x77, mirror := some 4096 } : Thr) ∧
    ({ thrd [] with o := true, stepBuf := some 5, sputs := [(0, 2, 8)], step := some 0x77, mirror := some 4096 } : Thr).idx = 65536 ∧
    ({ mulT [] { thrd [] with o := true, stepBuf := some 5, sputs := [(0, 2, 8)], step := some 0x77, mirror := some 4096 } with dm := { (mulT [] { thrd [] with o := true, stepBuf := some 5, sputs := [(0, 2, 8)], step := some 0x77, mirror := some 4096 }).dm with even := [(65536, { ent with state := 2, ni := 2, cwin := 5 + 2 ^ 14 * 4096 })], odd := [(65536, ent)], pend := [65536], todo := [(65536, 5)], chunks := [(65536, [{ c := 0, thr := 0 }])], bufs := [(4096, 5), (5, 5)] } }
    : State).dm.acc.look 65536 = some cpy ∧
    ({ mulT [] { thrd [] with o := true, stepBuf := some 5, sputs := [(0, 2, 8)], step := some 0x77, mirror := some 4096 } with dm := { (mulT [] { thrd [] with o := true, stepBuf := some 5, sputs := [(0, 2, 8)], step := some 0x77, mirror := some 4096 }).dm with even := [(65536, { ent with state := 2, ni := 2, cwin := 5 + 2 ^ 14 * 4096 })], odd := [(65536, ent)], pend := [65536], todo := [(65536, 5)], chunks := [(65536, [{ c := 0, thr := 0 }])], bufs := [(4096, 5), (5, 5)] } }
    : State).dm.todo.look 65536 = some 5 ∧
    ({ thrd [] with o := true, stepBuf := some 5, sputs := [(0, 2, 8)], step := some 0x77, mirror := some 4096 } : Thr).mirror = some 4096 ∧
    ({ thrd [] with o := true, stepBuf := some 5, sputs := [(0, 2, 8)], step := some 0x77, mirror := some 4096 } : Thr).again = false) := by
  and_intros <;> first | decide +kernel | rfl | exact BitVec.isLt _ | exact Nat.zero_le _

/-! ### clusters and their memories -/

theorem test_clusters_and_their_memories_hypotheses :
    ((mul [] [] : State).sealed = false ∧ (mul [] [] : State).isFailed 2 (4 * 0 + 0) = false) ∧ ((mul [] [] : State).sealed = false ∧ (mul [] []
    : State).isFailed 3 0 = false) ∧ ((mul [] [] : State).granted (.core 0 : Init) true ⟨.MCL_CTL, [0]⟩ 4 ∧ (mul [] [] : State).on
    F.MCL_CTL_ISOLATE [0] = false ∧ (mul [] [] : State).isFailed 3 0 = false) ∧ ((setW (mul [] []) [(F.MCL_CTL_ISOLATE, [0], 1)] :
    State).granted (.core 0 : Init) true ⟨.MCL_CTL, [0]⟩ 4 ∧ (setW (mul [] []) [(F.MCL_CTL_ISOLATE, [0], 1)] : State).on F.MCL_CTL_ISOLATE [0] =
    true) ∧ (({ mul [] [] with mule := { fw := some (List.replicate 512 0), updQueue := [0, 1] } } : State).sealed = false ∧
    ({ mul [] [] with mule := { fw := some (List.replicate 512 0), updQueue := [0, 1] } } : State).mule.fw = some (List.replicate 512 0 : List
    Byte) ∧ ({ mul [] [] with mule := { fw := some (List.replicate 512 0), updQueue := [0, 1] } } : State).mule.updating = none ∧
    ({ mul [] [] with mule := { fw := some (List.replicate 512 0), updQueue := [0, 1] } } : State).mule.updQueue = 0 :: ([1] : List Nat) ∧
    ({ mul [] [] with mule := { fw := some (List.replicate 512 0), updQueue := [0, 1] } } : State).on F.GSV_DEG_BUSY [] = false ∧
    ({ mul [] [] with mule := { fw := some (List.replicate 512 0), updQueue := [0, 1] } } : State).get F.GSV_DEG_QUEUED [] = 0 ∧
    ({ mul [] [] with mule := { fw := some (List.replicate 512 0), updQueue := [0, 1] } } : State).get F.MCL_STAT_STATE [0] = 0) ∧
    (({ setW (mul [] []) [(F.GSV_DEG_BUSY, [], 1)] with mule := { fw := some [], updQueue := [0, 1] } } : State).sealed = false ∧
    ({ setW (mul [] []) [(F.GSV_DEG_BUSY, [], 1)] with mule := { fw := some [], updQueue := [0, 1] } } : State).mule.fw = some ([] : List Byte)
    ∧ ({ setW (mul [] []) [(F.GSV_DEG_BUSY, [], 1)] with mule := { fw := some [], updQueue := [0, 1] } } : State).mule.updating = none ∧
    ({ setW (mul [] []) [(F.GSV_DEG_BUSY, [], 1)] with mule := { fw := some [], updQueue := [0, 1] } } : State).mule.updQueue = 0 :: ([1] : List
    Nat) ∧ (({ setW (mul [] []) [(F.GSV_DEG_BUSY, [], 1)] with mule := { fw := some [], updQueue := [0, 1] } } : State).on F.GSV_DEG_BUSY [] =
    true ∨ ({ setW (mul [] []) [(F.GSV_DEG_BUSY, [], 1)] with mule := { fw := some [], updQueue := [0, 1] } } : State).get F.GSV_DEG_QUEUED [] ≠
    0)) ∧ ((upd (List.replicate 8 0 ++ [8, 0, 0, 0, 4, 0, 0, 0] ++ List.replicate 12 0 ++ [5, 0, 0, 0, 6, 0, 0, 0] ++ List.replicate 28 0 ++ [1,
    2, 3, 4, 5, 6, 7, 8] ++ [9, 10, 11, 12]) : State).sealed = false ∧ (upd (List.replicate 8 0 ++ [8, 0, 0, 0, 4, 0, 0, 0] ++ List.replicate 12
    0 ++ [5, 0, 0, 0, 6, 0, 0, 0] ++ List.replicate 28 0 ++ [1, 2, 3, 4, 5, 6, 7, 8] ++ [9, 10, 11, 12]) : State).mule.fw = some (List.replicate
    8 0 ++ [8, 0, 0, 0, 4, 0, 0, 0] ++ List.replicate 12 0 ++ [5, 0, 0, 0, 6, 0, 0, 0] ++ List.replicate 28 0 ++ [1, 2, 3, 4, 5, 6, 7, 8] ++ [9,
    10, 11, 12] : List Byte) ∧ (upd (List.replicate 8 0 ++ [8, 0, 0, 0, 4, 0, 0, 0] ++ List.replicate 12 0 ++ [5, 0, 0, 0, 6, 0, 0, 0] ++
    List.replicate 28 0 ++ [1, 2, 3, 4, 5, 6, 7, 8] ++ [9, 10, 11, 12]) : State).mule.updating = some (1, 0) ∧ (upd (List.replicate 8 0 ++ [8,
    0, 0, 0, 4, 0, 0, 0] ++ List.replicate 12 0 ++ [5, 0, 0, 0, 6, 0, 0, 0] ++ List.replicate 28 0 ++ [1, 2, 3, 4, 5, 6, 7, 8] ++ [9, 10, 11,
    12]) : State).mule.updQueue = 1 :: 2 :: ([] : List Nat) ∧ (upd (List.replicate 8 0 ++ [8, 0, 0, 0, 4, 0, 0, 0] ++ List.replicate 12 0 ++ [5,
    0, 0, 0, 6, 0, 0, 0] ++ List.replicate 28 0 ++ [1, 2, 3, 4, 5, 6, 7, 8] ++ [9, 10, 11, 12]) : State).mcEmpty 1 = true ∧ (∀ p < 4, (upd
    (List.replicate 8 0 ++ [8, 0, 0, 0, 4, 0, 0, 0] ++ List.replicate 12 0 ++ [5, 0, 0, 0, 6, 0, 0, 0] ++ List.replicate 28 0 ++ [1, 2, 3, 4, 5,
    6, 7, 8] ++ [9, 10, 11, 12]) : State).get F.DMG_PROG_STATE [p] ≠ 2) ∧ 64 ≤ (List.replicate 8 0 ++ [8, 0, 0, 0, 4, 0, 0, 0] ++ List.replicate
    12 0 ++ [5, 0, 0, 0, 6, 0, 0, 0] ++ List.replicate 28 0 ++ [1, 2, 3, 4, 5, 6, 7, 8] ++ [9, 10, 11, 12] : List Byte).length ∧ 64 + leAt
    (List.replicate 8 0 ++ [8, 0, 0, 0, 4, 0, 0, 0] ++ List.replicate 12 0 ++ [5, 0, 0, 0, 6, 0, 0, 0] ++ List.replicate 28 0 ++ [1, 2, 3, 4, 5,
    6, 7, 8] ++ [9, 10, 11, 12] : List Byte) 8 4 + leAt (List.replicate 8 0 ++ [8, 0, 0, 0, 4, 0, 0, 0] ++ List.replicate 12 0 ++ [5, 0, 0, 0,
    6, 0, 0, 0] ++ List.replicate 28 0 ++ [1, 2, 3, 4, 5, 6, 7, 8] ++ [9, 10, 11, 12] : List Byte) 12 4 ≤ (List.replicate 8 0 ++ [8, 0, 0, 0, 4,
    0, 0, 0] ++ List.replicate 12 0 ++ [5, 0, 0, 0, 6, 0, 0, 0] ++ List.replicate 28 0 ++ [1, 2, 3, 4, 5, 6, 7, 8] ++ [9, 10, 11, 12] : List
    Byte).length ∧ leAt (List.replicate 8 0 ++ [8, 0, 0, 0, 4, 0, 0, 0] ++ List.replicate 12 0 ++ [5, 0, 0, 0, 6, 0, 0, 0] ++ List.replicate 28
    0 ++ [1, 2, 3, 4, 5, 6, 7, 8] ++ [9, 10, 11, 12] : List Byte) 8 4 ≤ 0x10000 ∧ leAt (List.replicate 8 0 ++ [8, 0, 0, 0, 4, 0, 0, 0] ++
    List.replicate 12 0 ++ [5, 0, 0, 0, 6, 0, 0, 0] ++ List.replicate 28 0 ++ [1, 2, 3, 4, 5, 6, 7, 8] ++ [9, 10, 11, 12] : List Byte) 12 4 ≤
    0x40000) ∧ ((upd [] : State).sealed = false ∧ (upd [] : State).mule.fw = some ([] : List Byte) ∧ (upd [] : State).mule.updating = some (1,
    0) ∧ (upd [] : State).mule.updQueue = ([1, 2] : List Nat) ∧ (upd [] : State).mcEmpty 1 = true) ∧ ((setW
    { mul [] [] with mule := { thr := [(0, thrd [])], fw := some [], updQueue := [0, 2], updating := some (0, 0) }, dm := { (mul [] []).dm with chunks := [(65536, [{ c := 0, thr := 0 }])] } }
    [(F.CPW_TIME_TIME, [], 20000)] : State).sealed = false ∧ (setW
    { mul [] [] with mule := { thr := [(0, thrd [])], fw := some [], updQueue := [0, 2], updating := some (0, 0) }, dm := { (mul [] []).dm with chunks := [(65536, [{ c := 0, thr := 0 }])] } }
    [(F.CPW_TIME_TIME, [], 20000)] : State).mule.updating = some (0, 0) ∧ 0 + 20000 ≤ (setW
    { mul [] [] with mule := { thr := [(0, thrd [])], fw := some [], updQueue := [0, 2], updating := some (0, 0) }, dm := { (mul [] []).dm with chunks := [(65536, [{ c := 0, thr := 0 }])] } }
    [(F.CPW_TIME_TIME, [], 20000)] : State).now ∧ (setW
    { mul [] [] with mule := { thr := [(0, thrd [])], fw := some [], updQueue := [0, 2], updating := some (0, 0) }, dm := { (mul [] []).dm with chunks := [(65536, [{ c := 0, thr := 0 }])] } }
    [(F.CPW_TIME_TIME, [], 20000)] : State).dm.mv = [] ∧ (∀ x ∈ (setW
    { mul [] [] with mule := { thr := [(0, thrd [])], fw := some [], updQueue := [0, 2], updating := some (0, 0) }, dm := { (mul [] []).dm with chunks := [(65536, [{ c := 0, thr := 0 }])] } }
    [(F.CPW_TIME_TIME, [], 20000)] : State).ledKeys, ∀ c ∈ (setW
    { mul [] [] with mule := { thr := [(0, thrd [])], fw := some [], updQueue := [0, 2], updating := some (0, 0) }, dm := { (mul [] []).dm with chunks := [(65536, [{ c := 0, thr := 0 }])] } }
    [(F.CPW_TIME_TIME, [], 20000)] : State).chunksOf x, c.thr / 16 = 0) ∧ (setW
    { mul [] [] with mule := { thr := [(0, thrd [])], fw := some [], updQueue := [0, 2], updating := some (0, 0) }, dm := { (mul [] []).dm with chunks := [(65536, [{ c := 0, thr := 0 }])] } }
    [(F.CPW_TIME_TIME, [], 20000)] : State).ledKeys ≠ [] ∧ (∀ x ∈ (setW
    { mul [] [] with mule := { thr := [(0, thrd [])], fw := some [], updQueue := [0, 2], updating := some (0, 0) }, dm := { (mul [] []).dm with chunks := [(65536, [{ c := 0, thr := 0 }])] } }
    [(F.CPW_TIME_TIME, [], 20000)] : State).ledKeys, ((setW
    { mul [] [] with mule := { thr := [(0, thrd [])], fw := some [], updQueue := [0, 2], updating := some (0, 0) }, dm := { (mul [] []).dm with chunks := [(65536, [{ c := 0, thr := 0 }])] } }
    [(F.CPW_TIME_TIME, [], 20000)] : State).led x).state = 2)) ∧
    (({ mul [] [] with mule := { fw := some [], updQueue := [0, 2], updating := some (0, 0) } } : State).sealed = false ∧
    ({ mul [] [] with mule := { fw := some [], updQueue := [0, 2], updating := some (0, 0) } } : State).mule.updating = some (0, 0) ∧
    ({ mul [] [] with mule := { fw := some [], updQueue := [0, 2], updating := some (0, 0) } } : State).now < 0 + 20000) ∧ ((setW (mul [] [])
    [(F.MCL_MEM_ADDR_ADDR, [1], 0x1008), (F.MCL_MEM_ADDR_IMEM, [1], 1), (F.MCL_MEM_ADDR_MULE, [1], 2)] : State).granted (.core 0 : Init) true
    ⟨.MCL_MEM_DATA, [1]⟩ 8 ∧ (setW (mul [] []) [(F.MCL_MEM_ADDR_ADDR, [1], 0x1008), (F.MCL_MEM_ADDR_IMEM, [1], 1), (F.MCL_MEM_ADDR_MULE, [1],
    2)] : State).memWord 1 = some (true, (0x20000 * 6 + 0x1008 : Nat)) ∧ (setW (mul [] []) [(F.MCL_MEM_ADDR_ADDR, [1], 0x1008),
    (F.MCL_MEM_ADDR_IMEM, [1], 1), (F.MCL_MEM_ADDR_MULE, [1], 2)] : State).get F.MCL_MEM_ADDR_ADDR [1] % 8 = 0 ∧ (setW (mul [] [])
    [(F.MCL_MEM_ADDR_ADDR, [1], 0x1008), (F.MCL_MEM_ADDR_IMEM, [1], 1), (F.MCL_MEM_ADDR_MULE, [1], 2)] : State).levelOf (.core 0 : Init) = .v) ∧
    ((setW (mul [] []) [(F.MCL_MEM_ADDR_ADDR, [0], 0x40), (F.MCL_MEM_ADDR_IMEM, [0], 1)] : State).granted (.core 0 : Init) false ⟨.MCL_MEM_DATA,
    [0]⟩ 8 ∧ (setW (mul [] []) [(F.MCL_MEM_ADDR_ADDR, [0], 0x40), (F.MCL_MEM_ADDR_IMEM, [0], 1)] : State).memWord 0 = some (true, (0x40 : Nat))
    ∧ (setW (mul [] []) [(F.MCL_MEM_ADDR_ADDR, [0], 0x40), (F.MCL_MEM_ADDR_IMEM, [0], 1)] : State).get F.MCL_MEM_ADDR_ADDR [0] % 8 = 0) ∧ ((setW
    (mul [] []) [(F.MCL_MEM_ADDR_ADDR, [1], 0x1008), (F.MCL_MEM_ADDR_IMEM, [1], 0), (F.MCL_MEM_ADDR_MULE, [1], 2)] : State).granted (.core 0 :
    Init) true ⟨.MCL_MEM_DATA, [1]⟩ 8 ∧ (setW (mul [] []) [(F.MCL_MEM_ADDR_ADDR, [1], 0x1008), (F.MCL_MEM_ADDR_IMEM, [1], 0),
    (F.MCL_MEM_ADDR_MULE, [1], 2)] : State).memWord 1 = some (false, (0x80000 + 0x1008 : Nat)) ∧ (setW (mul [] []) [(F.MCL_MEM_ADDR_ADDR, [1],
    0x1008), (F.MCL_MEM_ADDR_IMEM, [1], 0), (F.MCL_MEM_ADDR_MULE, [1], 2)] : State).get F.MCL_MEM_ADDR_ADDR [1] % 8 = 0) ∧ ((setW (mul [] [])
    [(F.MCL_MEM_ADDR_ADDR, [0], 0x60000), (F.MCL_MEM_ADDR_IMEM, [0], 0)] : State).granted (.core 0 : Init) false ⟨.MCL_MEM_DATA, [0]⟩ 8 ∧ (setW
    (mul [] []) [(F.MCL_MEM_ADDR_ADDR, [0], 0x60000), (F.MCL_MEM_ADDR_IMEM, [0], 0)] : State).memWord 0 = some (false, (0x60000 : Nat)) ∧ (setW
    (mul [] []) [(F.MCL_MEM_ADDR_ADDR, [0], 0x60000), (F.MCL_MEM_ADDR_IMEM, [0], 0)] : State).get F.MCL_MEM_ADDR_ADDR [0] % 8 = 0) ∧
    (opgate.granted (.owner : Init) true ⟨.MCL_MEM_DATA, [0]⟩ 8 ∧ opgate.on F.MCL_MEM_ADDR_IMEM [0] = true ∧ (opgate.levelOf (.owner : Init) =
    .o ∨ opgate.levelOf (.owner : Init) = .t)) := by
  and_intros <;> first | exact upd_empty _ | decide +kernel | rfl | exact BitVec.isLt _ | exact Nat.zero_le _

/-! ### sealed causes -/

theorem test_sealed_causes_hypotheses :
    ((upW [(F.CPW_TIME_TIME, [], 5000999), (F.GSV_STAT_SUP_OK, [], 31)] : State).sealed = false) ∧ (up.sealed = false) ∧ ((upW
    [(F.GSV_STAT_SUP_OK, [], 31)] : State).sealed = false) ∧ ((upW [(F.GSV_STAT_SUP_OK, [], 31)] : State).sealed = false) ∧ (up.sealed = false)
    ∧ (up.sealed = false) ∧ (up.sealed = false) ∧ ((upW [(F.GSV_STAT_SAFE, [], 1), (F.CPW_TIME_TIME, [], 9999)] : State).sealed = true) ∧ ((upW
    [(F.GSV_STAT_SAFE, [], 1), (F.CPW_TIME_TIME, [], 9999), (F.GSV_STAT_SUP_OK, [], 31)] : State).sealed = true) ∧ ((upW [(F.GSV_STAT_SAFE, [],
    1), (F.CPW_TIME_TIME, [], 10000), (F.GSV_STAT_SUP_OK, [], 31)] : State).sealed = true) ∧ ((upW [(F.GSV_STAT_SAFE, [], 1), (F.CPW_TIME_TIME,
    [], 10000)] : State).sealed = true) ∧ ((upW [(F.GSV_STAT_SAFE, [], 1)] : State).sealed = true) ∧ ((upW [(F.GSV_STAT_SAFE, [], 1)] :
    State).sealed = true) := by
  and_intros <;> first | decide +kernel | rfl | exact BitVec.isLt _ | exact Nat.zero_le _

/-! ### triples leaky counters and degraded handling -/

theorem test_triples_leaky_counters_and_degraded_handling_hypotheses :
    (({ up with regs := ((Trip.gsv).stat, 7) :: up.regs } : State).granted (.core 0 : Init) true (.gsv : Trip).stat 4) ∧
    (({ up with regs := ((Trip.gsv).stat, 7) :: up.regs } : State).granted (.core 0 : Init) true (.gsv : Trip).mask 4) ∧ (up.sealed = false ∧
    leakUnit 2 3 1 = true ∧ up.get F.LK_STAT_COUNT [2, 3, 1] + 1 < up.get F.LK_CFG_THRESHOLD [2, 3, 1]) ∧ ((upW [(F.LK_CFG_THRESHOLD, [2, 3, 1],
    0)] : State).sealed = false ∧ leakUnit 2 3 1 = true ∧ ((upW [(F.LK_CFG_THRESHOLD, [2, 3, 1], 0)] : State).get F.LK_CFG_THRESHOLD [2, 3, 1] =
    0 ∨ (upW [(F.LK_CFG_THRESHOLD, [2, 3, 1], 0)] : State).on F.LK_STAT_LASTING [2, 3, 1] = true)) ∧ ((upW [(F.LK_STAT_COUNT, [2, 3, 1], 7)] :
    State).sealed = false ∧ 3 < 16 ∧ 1 < 4 ∧ (upW [(F.LK_STAT_COUNT, [2, 3, 1], 7)] : State).get F.LK_STAT_COUNT [2, 3, 1] + 1 = (upW
    [(F.LK_STAT_COUNT, [2, 3, 1], 7)] : State).get F.LK_CFG_THRESHOLD [2, 3, 1] ∧ (upW [(F.LK_STAT_COUNT, [2, 3, 1], 7)] : State).on
    F.LK_STAT_LASTING [2, 3, 1] = false) ∧ ((upW [(F.LK_STAT_COUNT, [2, 3, 4], 7)] : State).sealed = false ∧ 3 < 16 ∧ (upW [(F.LK_STAT_COUNT,
    [2, 3, 4], 7)] : State).get F.LK_STAT_COUNT [2, 3, 4] + 1 = (upW [(F.LK_STAT_COUNT, [2, 3, 4], 7)] : State).get F.LK_CFG_THRESHOLD [2, 3, 4]
    ∧ (upW [(F.LK_STAT_COUNT, [2, 3, 4], 7)] : State).on F.LK_STAT_LASTING [2, 3, 4] = false) ∧ ((upW [(F.LK_STAT_COUNT, [3, 3, 0], 7)] :
    State).sealed = false ∧ 3 < 16 ∧ (upW [(F.LK_STAT_COUNT, [3, 3, 0], 7)] : State).get F.LK_STAT_COUNT [3, 3, 0] + 1 = (upW [(F.LK_STAT_COUNT,
    [3, 3, 0], 7)] : State).get F.LK_CFG_THRESHOLD [3, 3, 0] ∧ (upW [(F.LK_STAT_COUNT, [3, 3, 0], 7)] : State).on F.LK_STAT_LASTING [3, 3, 0] =
    false) ∧ ((upW [(F.LK_STAT_COUNT, [1, 51, 3], 20), (F.CPW_TIME_TIME, [], 31250000)] : State).sealed = false ∧ leakUnit 1 51 3 = true ∧ (upW
    [(F.LK_STAT_COUNT, [1, 51, 3], 20), (F.CPW_TIME_TIME, [], 31250000)] : State).leakLast 1 51 3 + (upW [(F.LK_STAT_COUNT, [1, 51, 3], 20),
    (F.CPW_TIME_TIME, [], 31250000)] : State).leakNs 1 51 3 ≤ (upW [(F.LK_STAT_COUNT, [1, 51, 3], 20), (F.CPW_TIME_TIME, [], 31250000)] :
    State).now) ∧ ((upW [(F.LK_STAT_COUNT, [1, 51, 3], 20), (F.CPW_TIME_TIME, [], 31249999)] : State).sealed = false ∧ (upW [(F.LK_STAT_COUNT,
    [1, 51, 3], 20), (F.CPW_TIME_TIME, [], 31249999)] : State).now < (upW [(F.LK_STAT_COUNT, [1, 51, 3], 20), (F.CPW_TIME_TIME, [], 31249999)] :
    State).leakLast 1 51 3 + (upW [(F.LK_STAT_COUNT, [1, 51, 3], 20), (F.CPW_TIME_TIME, [], 31249999)] : State).leakNs 1 51 3) ∧ (0 < up.get
    F.LK_CFG_WINDOW [1, 51, 3] ∧ 0 < up.get F.LK_CFG_THRESHOLD [1, 51, 3]) ∧ (leakUnit 1 51 3 = true ∧ (upW [(F.LK_STAT_COUNT, [1, 51, 3], 20),
    (F.LK_STAT_LASTING, [1, 51, 3], 1), (F.CPW_TIME_TIME, [], 77)] : State).granted (.core 0 : Init) true ⟨.LK_CFG, [1, 51, 3]⟩ 8) ∧
    (({ up with flt := { queue := [(2, 5), (4, 3)] } } : State).sealed = false ∧ ({ up with flt := { queue := [(2, 5), (4, 3)] } } :
    State).restarting = false ∧ ({ up with flt := { queue := [(2, 5), (4, 3)] } } : State).flt.cur = none ∧
    ({ up with flt := { queue := [(2, 5), (4, 3)] } } : State).flt.queue = (2, 5) :: ([(4, 3)] : List (Nat × Nat)) ∧ 2 ≤ 2 ∧ 2 < 16 ∧ 5 < 2 ^
    16) ∧ (up.sealed = false ∧ (up.flt.cur ≠ none ∨ up.flt.queue = [])) ∧ (({ up with flt := { cur := some (2, 5), failed := [(2, 5)] } } :
    State).sealed = false ∧ ({ up with flt := { cur := some (2, 5), failed := [(2, 5)] } } : State).restarting = false ∧
    ({ up with flt := { cur := some (2, 5), failed := [(2, 5)] } } : State).flt.cur = some (2, 5) ∧ 2 ≤ 2 ∧
    ({ up with flt := { cur := some (2, 5), failed := [(2, 5)] } } : State).degReady 2 5 = true) ∧
    (({ up with flt := { cur := some (5, 1) }, dm := { mv := [(1, 2)] } } : State).sealed = false ∧
    ({ up with flt := { cur := some (5, 1) }, dm := { mv := [(1, 2)] } } : State).flt.cur = some (5, 1) ∧
    ({ up with flt := { cur := some (5, 1) }, dm := { mv := [(1, 2)] } } : State).degReady 5 1 = false) ∧ (up.sealed = false ∧ sext 8 109 < 110)
    ∧ ((upW [(F.CPW_TIME_TIME, [], 77)] : State).granted (.core 2 : Init) true ⟨.GSV_HB, []⟩ 4) ∧
    (({ setW up [(F.CPW_TIME_TIME, [], 10000000)] with flt := { beat := [(1, 5)] } } : State).sealed = false ∧
    ({ setW up [(F.CPW_TIME_TIME, [], 10000000)] with flt := { beat := [(1, 5)] } } : State).flt.beat.lookD 2 0 + 10000000 ≤
    ({ setW up [(F.CPW_TIME_TIME, [], 10000000)] with flt := { beat := [(1, 5)] } } : State).now ∧ (∃ c ∈ [0, 1, 2, 3],
    ({ setW up [(F.CPW_TIME_TIME, [], 10000000)] with flt := { beat := [(1, 5)] } } : State).now <
    ({ setW up [(F.CPW_TIME_TIME, [], 10000000)] with flt := { beat := [(1, 5)] } } : State).flt.beat.lookD c 0 + 10000000) ∧
    ({ setW up [(F.CPW_TIME_TIME, [], 10000000)] with flt := { beat := [(1, 5)] } } : State).on F.GSV_STAT_MGMT_DOWN [] = false ∧ (10, 2) ∉
    ({ setW up [(F.CPW_TIME_TIME, [], 10000000)] with flt := { beat := [(1, 5)] } } : State).flt.failed) ∧ ((upW [(F.CPW_TIME_TIME, [],
    9999999)] : State).sealed = false ∧ (upW [(F.CPW_TIME_TIME, [], 9999999)] : State).now < (upW [(F.CPW_TIME_TIME, [], 9999999)] :
    State).flt.beat.lookD 2 0 + 10000000) ∧ ((upW [(F.CPW_TIME_TIME, [], 10000000)] : State).sealed = false ∧ (∀ c < 4, (upW [(F.CPW_TIME_TIME,
    [], 10000000)] : State).flt.beat.lookD c 0 + 10000000 ≤ (upW [(F.CPW_TIME_TIME, [], 10000000)] : State).now) ∧ (upW [(F.CPW_TIME_TIME, [],
    10000000)] : State).on F.GSV_STAT_MGMT_DOWN [] = false ∧ ((upW [(F.CPW_TIME_TIME, [], 10000000)] : State).flt.restarts.filter (fun r =>
    decide ((upW [(F.CPW_TIME_TIME, [], 10000000)] : State).now < r + 10000000000))).length < 3) ∧
    (({ setW up [(F.CPW_TIME_TIME, [], 10000000000)] with flt := { restarts := [1, 2, 3] } } : State).sealed = false ∧ (∀ c < 4,
    ({ setW up [(F.CPW_TIME_TIME, [], 10000000000)] with flt := { restarts := [1, 2, 3] } } : State).flt.beat.lookD c 0 + 10000000 ≤
    ({ setW up [(F.CPW_TIME_TIME, [], 10000000000)] with flt := { restarts := [1, 2, 3] } } : State).now) ∧
    ({ setW up [(F.CPW_TIME_TIME, [], 10000000000)] with flt := { restarts := [1, 2, 3] } } : State).on F.GSV_STAT_MGMT_DOWN [] = false ∧ 3 ≤
    (({ setW up [(F.CPW_TIME_TIME, [], 10000000000)] with flt := { restarts := [1, 2, 3] } } : State).flt.restarts.filter (fun r => decide
    (({ setW up [(F.CPW_TIME_TIME, [], 10000000000)] with flt := { restarts := [1, 2, 3] } } : State).now < r + 10000000000))).length) ∧
    (({ setW up [(F.CPW_TIME_TIME, [], 10000000)] with flt := { beat := [(1, 5)] } } : State).sealed = false ∧ 1 < 4 ∧
    ({ setW up [(F.CPW_TIME_TIME, [], 10000000)] with flt := { beat := [(1, 5)] } } : State).now <
    ({ setW up [(F.CPW_TIME_TIME, [], 10000000)] with flt := { beat := [(1, 5)] } } : State).flt.beat.lookD 1 0 + 10000000) := by
  and_intros <;> first | decide +kernel | rfl | exact BitVec.isLt _ | exact Nat.zero_le _

/-! ### timebase sources and references -/

theorem test_timebase_sources_and_references_hypotheses :
    ((pwr [(F.CPW_TB_STAT_READY, [], 1), (F.CPW_TB_STAT_LOCKED, [], 1)] { latched := true, chosen := true, pwrOk := true } : State).sealed =
    false ∧ (pwr [(F.CPW_TB_STAT_READY, [], 1), (F.CPW_TB_STAT_LOCKED, [], 1)] { latched := true, chosen := true, pwrOk := true } :
    State).sourceMay 1 = true ∧ (pwr [(F.CPW_TB_STAT_READY, [], 1), (F.CPW_TB_STAT_LOCKED, [], 1)]
    { latched := true, chosen := true, pwrOk := true } : State).cpw.chosen = true ∧ (pwr [(F.CPW_TB_STAT_READY, [], 1), (F.CPW_TB_STAT_LOCKED,
    [], 1)] { latched := true, chosen := true, pwrOk := true } : State).cpw.switch = none ∧ (pwr [(F.CPW_TB_STAT_READY, [], 1),
    (F.CPW_TB_STAT_LOCKED, [], 1)] { latched := true, chosen := true, pwrOk := true } : State).srcReady ((pwr [(F.CPW_TB_STAT_READY, [], 1),
    (F.CPW_TB_STAT_LOCKED, [], 1)] { latched := true, chosen := true, pwrOk := true } : State).get F.CPW_TB_STAT_ACTIVE []) = true) ∧ ((pwr []
    { latched := true, pwrOk := true } : State).sealed = false ∧ (pwr [] { latched := true, pwrOk := true } : State).cpw.latched = true ∧ (pwr
    [] { latched := true, pwrOk := true } : State).cpw.chosen = false ∧ (pwr [] { latched := true, pwrOk := true } : State).sourceMay 1 = true ∧
    (pwr [] { latched := true, pwrOk := true } : State).get F.CPW_TB_STAT_READY [] = 0 ∧ (pwr [] { latched := true, pwrOk := true } :
    State).cpw.switch = none ∧ (pwr [] { latched := true, pwrOk := true } : State).on F.CPW_TB_STAT_LOCKED [] = false ∧ 1 ∈ prioList ((pwr []
    { latched := true, pwrOk := true } : State).get F.CPW_TB_CFG_PRIO [])) ∧ ((pwr [] { latched := true, pwrOk := true } : State).sealed = false
    ∧ ((pwr [] { latched := true, pwrOk := true } : State).cpw.oscDone = false ∨ (pwr [] { latched := true, pwrOk := true } : State).on
    F.CPW_TB_STAT_XTAL_ABSENT [] = true)) ∧ ((pwr [(F.CPW_TB_STAT_READY, [], 1), (F.CPW_TIME_TIME, [], 77), (F.CPW_REFOUT_EN, [3], 1)]
    { latched := true, chosen := true, pwrOk := true } : State).sealed = false ∧ (pwr [(F.CPW_TB_STAT_READY, [], 1), (F.CPW_TIME_TIME, [], 77),
    (F.CPW_REFOUT_EN, [3], 1)] { latched := true, chosen := true, pwrOk := true } : State).cpw.chosen = true ∧ (pwr [(F.CPW_TB_STAT_READY, [],
    1), (F.CPW_TIME_TIME, [], 77), (F.CPW_REFOUT_EN, [3], 1)] { latched := true, chosen := true, pwrOk := true } : State).on
    F.CPW_TB_STAT_LOCKED [] = false) ∧ ((pwr [(F.CPW_TB_STAT_LOCKED, [], 1), (F.CPW_TIME_TIME, [], 77)]
    { latched := true, chosen := true, pwrOk := true } : State).sealed = false ∧ ((pwr [(F.CPW_TB_STAT_LOCKED, [], 1), (F.CPW_TIME_TIME, [],
    77)] { latched := true, chosen := true, pwrOk := true } : State).cpw.chosen = false ∨ (pwr [(F.CPW_TB_STAT_LOCKED, [], 1), (F.CPW_TIME_TIME,
    [], 77)] { latched := true, chosen := true, pwrOk := true } : State).on F.CPW_TB_STAT_LOCKED [] = true)) ∧ ((pwr [] { pwrOk := true } :
    State).sealed = false ∧ (pwr [] { pwrOk := true } : State).cpw.pwrOk = true ∧ (pwr [] { pwrOk := true } : State).on
    F.CPW_TB_STAT_XTAL_ABSENT [] = false) ∧ ((pwr [] { pwrOk := true } : State).sealed = false ∧ (pwr [] { pwrOk := true } : State).cpw.pwrOk =
    true ∧ (pwr [] { pwrOk := true } : State).cpw.chosen = false) ∧ ((pwr [] { pwrOk := true, chosen := true } : State).sealed = false ∧ (pwr []
    { pwrOk := true, chosen := true } : State).cpw.chosen = true) ∧ (up.sealed = false ∧ up.srcReady 2 = false) ∧ ((pwr [(F.CPW_TB_STAT_READY,
    [], 9), (F.CPW_TB_STAT_LOCKED, [], 1)] { latched := true, chosen := true, pwrOk := true } : State).sealed = false ∧ 2 ≤ 3 ∧ (pwr
    [(F.CPW_TB_STAT_READY, [], 9), (F.CPW_TB_STAT_LOCKED, [], 1)] { latched := true, chosen := true, pwrOk := true } : State).srcReady 3 = true
    ∧ (pwr [(F.CPW_TB_STAT_READY, [], 9), (F.CPW_TB_STAT_LOCKED, [], 1)] { latched := true, chosen := true, pwrOk := true } : State).cpw.switch
    = none ∧ (pwr [(F.CPW_TB_STAT_READY, [], 9), (F.CPW_TB_STAT_LOCKED, [], 1)] { latched := true, chosen := true, pwrOk := true } : State).get
    F.CPW_TB_STAT_ACTIVE [] ≠ 3) ∧ ((pwr [(F.CPW_TB_STAT_READY, [], 10), (F.CPW_TB_STAT_LOCKED, [], 1), (F.CPW_TB_STAT_ACTIVE, [], 3)]
    { latched := true, chosen := true, pwrOk := true } : State).sealed = false ∧ 2 ≤ 3 ∧ (pwr [(F.CPW_TB_STAT_READY, [], 10),
    (F.CPW_TB_STAT_LOCKED, [], 1), (F.CPW_TB_STAT_ACTIVE, [], 3)] { latched := true, chosen := true, pwrOk := true } : State).srcReady 3 = true
    ∧ (pwr [(F.CPW_TB_STAT_READY, [], 10), (F.CPW_TB_STAT_LOCKED, [], 1), (F.CPW_TB_STAT_ACTIVE, [], 3)]
    { latched := true, chosen := true, pwrOk := true } : State).cpw.switch = none ∧ (pwr [(F.CPW_TB_STAT_READY, [], 10), (F.CPW_TB_STAT_LOCKED,
    [], 1), (F.CPW_TB_STAT_ACTIVE, [], 3)] { latched := true, chosen := true, pwrOk := true } : State).cpw.chosen = true ∧ (pwr
    [(F.CPW_TB_STAT_READY, [], 10), (F.CPW_TB_STAT_LOCKED, [], 1), (F.CPW_TB_STAT_ACTIVE, [], 3)]
    { latched := true, chosen := true, pwrOk := true } : State).on F.CPW_TB_STAT_LOCKED [] = true ∧ (pwr [(F.CPW_TB_STAT_READY, [], 10),
    (F.CPW_TB_STAT_LOCKED, [], 1), (F.CPW_TB_STAT_ACTIVE, [], 3)] { latched := true, chosen := true, pwrOk := true } : State).get
    F.CPW_TB_STAT_ACTIVE [] = 3 ∧ (11, 3) ∉ (pwr [(F.CPW_TB_STAT_READY, [], 10), (F.CPW_TB_STAT_LOCKED, [], 1), (F.CPW_TB_STAT_ACTIVE, [], 3)]
    { latched := true, chosen := true, pwrOk := true } : State).flt.failed ∧ (prioList ((pwr [(F.CPW_TB_STAT_READY, [], 10),
    (F.CPW_TB_STAT_LOCKED, [], 1), (F.CPW_TB_STAT_ACTIVE, [], 3)] { latched := true, chosen := true, pwrOk := true } : State).get
    F.CPW_TB_CFG_PRIO [])).find? (fun k => (pwr [(F.CPW_TB_STAT_READY, [], 10), (F.CPW_TB_STAT_LOCKED, [], 1), (F.CPW_TB_STAT_ACTIVE, [], 3)]
    { latched := true, chosen := true, pwrOk := true } : State).srcReady k && k != 3) = some 1) ∧ ((pwr [(F.CPW_TB_STAT_READY, [], 10),
    (F.CPW_TB_STAT_LOCKED, [], 1), (F.CPW_TB_STAT_ACTIVE, [], 3)] { latched := true, chosen := true, pwrOk := true, switch := some (1, false) }
    : State).sealed = false ∧ 2 ≤ 3 ∧ (pwr [(F.CPW_TB_STAT_READY, [], 10), (F.CPW_TB_STAT_LOCKED, [], 1), (F.CPW_TB_STAT_ACTIVE, [], 3)]
    { latched := true, chosen := true, pwrOk := true, switch := some (1, false) } : State).srcReady 3 = true ∧ (pwr [(F.CPW_TB_STAT_READY, [],
    10), (F.CPW_TB_STAT_LOCKED, [], 1), (F.CPW_TB_STAT_ACTIVE, [], 3)]
    { latched := true, chosen := true, pwrOk := true, switch := some (1, false) } : State).cpw.switch = some (1, false) ∧ 1 ≠ 3) ∧ ((pwr
    [(F.CPW_TB_STAT_READY, [], 10), (F.CPW_TB_STAT_SWITCHING, [], 1)]
    { latched := true, chosen := true, pwrOk := true, switch := some (1, true) } : State).sealed = false ∧ 1 < 4 ∧ (pwr [(F.CPW_TB_STAT_READY,
    [], 10), (F.CPW_TB_STAT_SWITCHING, [], 1)] { latched := true, chosen := true, pwrOk := true, switch := some (1, true) } : State).cpw.switch
    = some (1, true)) ∧ ((pwr [(F.CPW_TB_STAT_READY, [], 10), (F.CPW_TB_STAT_SWITCHING, [], 1)]
    { latched := true, chosen := true, pwrOk := true, switch := some (1, false) } : State).sealed = false ∧ 1 < 4 ∧ (pwr [(F.CPW_TB_STAT_READY,
    [], 10), (F.CPW_TB_STAT_SWITCHING, [], 1)] { latched := true, chosen := true, pwrOk := true, switch := some (1, false) } : State).cpw.switch
    = some (1, false)) ∧ (up.sealed = false ∧ up.cpw.switch = none) ∧ ((pwr [(F.CPW_TB_STAT_READY, [], 1)] {} : State).granted (.core 0 : Init)
    true ⟨.CPW_TB_CFG, []⟩ 4 ∧ ((∃ c ∈ [0, 1, 2, 3], c ∉ prioList (fget ((0x2D1 : W32).zeroExtend 64) 2 8)) ∨ 17 < fget ((0x2D1 :
    W32).zeroExtend 64) 10 5 ∨ (fget ((0x2D1 : W32).zeroExtend 64) 0 2 ≠ (pwr [(F.CPW_TB_STAT_READY, [], 1)] {} : State).get F.CPW_TB_CFG_SEL []
    ∧ ((pwr [(F.CPW_TB_STAT_READY, [], 1)] {} : State).srcReady (fget ((0x2D1 : W32).zeroExtend 64) 0 2) = false ∨ (pwr [(F.CPW_TB_STAT_READY,
    [], 1)] {} : State).on F.CPW_TB_STAT_SWITCHING [] = true)))) ∧ ((pwr [(F.CPW_TB_STAT_READY, [], 3)] {} : State).granted (.core 0 : Init)
    true ⟨.CPW_TB_CFG, []⟩ 4 ∧ (∀ c ∈ [0, 1, 2, 3], c ∈ prioList (fget ((0x6D1 : W32).zeroExtend 64) 2 8)) ∧ fget ((0x6D1 : W32).zeroExtend 64)
    10 5 ≤ 17 ∧ fget ((0x6D1 : W32).zeroExtend 64) 0 2 ≠ (pwr [(F.CPW_TB_STAT_READY, [], 3)] {} : State).get F.CPW_TB_CFG_SEL [] ∧ (pwr
    [(F.CPW_TB_STAT_READY, [], 3)] {} : State).srcReady (fget ((0x6D1 : W32).zeroExtend 64) 0 2) = true ∧ (pwr [(F.CPW_TB_STAT_READY, [], 3)] {}
    : State).on F.CPW_TB_STAT_SWITCHING [] = false ∧ (pwr [(F.CPW_TB_STAT_READY, [], 3)] {} : State).srcReady 2 = false) ∧ (up.granted (.core 0
    : Init) true ⟨.CPW_TILE_REF, [5]⟩ 4 ∧ fget ((6 : W32).zeroExtend 64) 0 2 ≠ 3 ∧ fget ((6 : W32).zeroExtend 64) 2 2 ≠ 3 ∧ up.tileEnabled 5 =
    false) ∧ (up.granted (.core 0 : Init) true ⟨.CPW_TILE_REF, [5]⟩ 4 ∧ (fget ((0xC : W32).zeroExtend 64) 0 2 = 3 ∨ fget ((0xC : W32).zeroExtend
    64) 2 2 = 3 ∨ up.tileEnabled 5 = true)) ∧ ((pwr [(F.CPW_TB_STAT_LOCKED, [], 1)] {} : State).granted (.core 0 : Init) true ⟨.CPW_REFOUT, [5]⟩
    4 ∧ fget ((0x2D : W32).zeroExtend 64) 1 2 ≠ 3 ∧ ((pwr [(F.CPW_TB_STAT_LOCKED, [], 1)] {} : State).on F.CPW_REFOUT_EN [5] = false ∨ fget
    ((0x2D : W32).zeroExtend 64) 1 2 = (pwr [(F.CPW_TB_STAT_LOCKED, [], 1)] {} : State).get F.CPW_REFOUT_SRC [5])) ∧ ((pwr [(F.CPW_REFOUT_EN,
    [5], 1)] {} : State).granted (.core 0 : Init) true ⟨.CPW_REFOUT, [5]⟩ 4 ∧ (fget ((0x3 : W32).zeroExtend 64) 1 2 = 3 ∨ ((pwr
    [(F.CPW_REFOUT_EN, [5], 1)] {} : State).on F.CPW_REFOUT_EN [5] = true ∧ fget ((0x3 : W32).zeroExtend 64) 1 2 ≠ (pwr [(F.CPW_REFOUT_EN, [5],
    1)] {} : State).get F.CPW_REFOUT_SRC [5]))) := by
  and_intros <;> first | decide +kernel | rfl | exact BitVec.isLt _ | exact Nat.zero_le _

/-- PRIO at reset: REFCLK_A, REFCLK_B, the crystal, the recovered clock (CPW_TB_CFG). -/
theorem test_prio_at_reset : prioList (State.reset.get F.CPW_TB_CFG_PRIO []) = [0, 1, 3, 2] := by decide +kernel

/-! ### power domains -/

theorem test_power_domains_hypotheses :
    (up.granted (.core 0 : Init) true ⟨.CPW_PD, [40]⟩ 4) ∧ (up.granted (.core 0 : Init) true ⟨.CPW_PD, [40]⟩ 4 ∧ up.get F.CPW_PD_STATE [40] = 0
    ∧ ((36 ≤ 40 → ∀ k < 20, up.get F.CPW_PD_STATE [36 + k] < 2)) ∧ (40 < 36 ∨ 52 ≤ 40 ∨ up.mule.fw = none)) ∧ ((upW [(F.CPW_PD_STATE, [7], 1)] :
    State).granted (.core 0 : Init) true ⟨.CPW_PD, [7]⟩ 4 ∧ (upW [(F.CPW_PD_STATE, [7], 1)] : State).get F.CPW_PD_STATE [7] = 1) ∧ ((upW
    [(F.CPW_PD_STATE, [37], 2)] : State).granted (.core 0 : Init) true ⟨.CPW_PD, [40]⟩ 4 ∧ (upW [(F.CPW_PD_STATE, [37], 2)] : State).get
    F.CPW_PD_STATE [40] ≠ 1 ∧ (2 ≤ (upW [(F.CPW_PD_STATE, [37], 2)] : State).get F.CPW_PD_STATE [40] ∨ (36 ≤ 40 ∧ ∃ k ∈ List.range 20, 2 ≤ (upW
    [(F.CPW_PD_STATE, [37], 2)] : State).get F.CPW_PD_STATE [36 + k]))) ∧ (up.granted (.core 0 : Init) true ⟨.CPW_PD, [7]⟩ 4 ∧ up.get
    F.CPW_PD_STATE [7] = 0) ∧ ((upW [(F.CPW_PD_STATE, [7], 1), (F.PT_CUT_CUT, [7], 1)] : State).granted (.core 0 : Init) true ⟨.CPW_PD, [7]⟩ 4 ∧
    (upW [(F.CPW_PD_STATE, [7], 1), (F.PT_CUT_CUT, [7], 1)] : State).get F.CPW_PD_STATE [7] = 1 ∧ 7 < 36 ∧ ((upW [(F.CPW_PD_STATE, [7], 1),
    (F.PT_CUT_CUT, [7], 1)] : State).get F.PT_CUT_CUT [7] ≠ 0 ∨ (upW [(F.CPW_PD_STATE, [7], 1), (F.PT_CUT_CUT, [7], 1)] : State).get
    F.PT_TRK_STAT_LIVE [7] ≠ 0)) ∧ (((List.range 15).foldl (fun (s : State) (k : Nat) => s.set F.MCL_STAT_STATE [k + 1] 3) (upW
    [(F.CPW_PD_STATE, [36], 1)]) : State).granted (.core 0 : Init) true ⟨.CPW_PD, [36]⟩ 4 ∧ ((List.range 15).foldl (fun (s : State) (k : Nat) =>
    s.set F.MCL_STAT_STATE [k + 1] 3) (upW [(F.CPW_PD_STATE, [36], 1)]) : State).get F.CPW_PD_STATE [36] = 1 ∧ 36 ≤ 36 ∧ 36 < 52 ∧ (∀ k < 20,
    ((List.range 15).foldl (fun (s : State) (k : Nat) => s.set F.MCL_STAT_STATE [k + 1] 3) (upW [(F.CPW_PD_STATE, [36], 1)]) : State).get
    F.CPW_PD_STATE [36 + k] < 2) ∧ ((∀ k < 16, k ≠ 36 - 36 → ((List.range 15).foldl (fun (s : State) (k : Nat) => s.set F.MCL_STAT_STATE [k + 1]
    3) (upW [(F.CPW_PD_STATE, [36], 1)]) : State).mcIn k = false))) ∧ (({ upW [(F.CPW_PD_STATE, [36], 1)] with mule := { fw := some [] } } :
    State).granted (.core 0 : Init) true ⟨.CPW_PD, [36]⟩ 4 ∧ ({ upW [(F.CPW_PD_STATE, [36], 1)] with mule := { fw := some [] } } : State).get
    F.CPW_PD_STATE [36] = 1 ∧ 36 ≤ 36 ∧ 36 < 52 ∧ (∀ k < 20, ({ upW [(F.CPW_PD_STATE, [36], 1)] with mule := { fw := some [] } } : State).get
    F.CPW_PD_STATE [36 + k] < 2) ∧ (∃ k ∈ List.range 16, k ≠ 36 - 36 ∧ ({ upW [(F.CPW_PD_STATE, [36], 1)] with mule := { fw := some [] } } :
    State).mcIn k = true) ∧ ({ upW [(F.CPW_PD_STATE, [36], 1)] with mule := { fw := some [] } } : State).mule.fw ≠ none) ∧ ((upW
    [(F.CPW_PD_STATE, [36], 1), (F.MCL_STAT_THR_BUSY, [0], 4)] : State).granted (.core 0 : Init) true ⟨.CPW_PD, [36]⟩ 4 ∧ (upW [(F.CPW_PD_STATE,
    [36], 1), (F.MCL_STAT_THR_BUSY, [0], 4)] : State).get F.CPW_PD_STATE [36] = 1 ∧ 36 ≤ 36 ∧ 36 < 52 ∧ (∀ k < 20, (upW [(F.CPW_PD_STATE, [36],
    1), (F.MCL_STAT_THR_BUSY, [0], 4)] : State).get F.CPW_PD_STATE [36 + k] < 2) ∧ (∃ k ∈ List.range 16, k ≠ 36 - 36 ∧ (upW [(F.CPW_PD_STATE,
    [36], 1), (F.MCL_STAT_THR_BUSY, [0], 4)] : State).mcIn k = true) ∧ (upW [(F.CPW_PD_STATE, [36], 1), (F.MCL_STAT_THR_BUSY, [0], 4)] :
    State).mule.fw = none ∧ (upW [(F.CPW_PD_STATE, [36], 1), (F.MCL_STAT_THR_BUSY, [0], 4)] : State).get F.MCL_STAT_THR_BUSY [36 - 36] ≠ 0) ∧
    ((upW [(F.CPW_PD_STATE, [3], 1)] : State).granted (.core 0 : Init) true ⟨.CPW_PD, [3]⟩ 4 ∧ (upW [(F.CPW_PD_STATE, [3], 1)] : State).get
    F.CPW_PD_STATE [3] = 1 ∧ 3 < 36 ∧ (upW [(F.CPW_PD_STATE, [3], 1)] : State).get F.PT_CUT_CUT [3] = 0 ∧ (upW [(F.CPW_PD_STATE, [3], 1)] :
    State).get F.PT_TRK_STAT_LIVE [3] = 0 ∧ (upW [(F.CPW_PD_STATE, [3], 1)] : State).fwd.leases = []) ∧ (up.sealed = false ∧ up.get
    F.CPW_PD_STATE [3] ≠ 2) ∧ ((setW (mul [] []) [(F.CPW_PD_STATE, [36], 2)] : State).sealed = false ∧ (setW (mul [] []) [(F.CPW_PD_STATE, [36],
    2)] : State).get F.CPW_PD_STATE [36] = 2 ∧ (setW (mul [] []) [(F.CPW_PD_STATE, [36], 2)] : State).pdIdle 36 = false ∧ (setW (mul [] [])
    [(F.CPW_PD_STATE, [36], 2)] : State).now < (setW (mul [] []) [(F.CPW_PD_STATE, [36], 2)] : State).cpw.pdAt.lookD 36 0 + 20000) ∧ ((setW (mul
    [] []) [(F.CPW_PD_STATE, [36], 2), (F.MCL_STAT_STATE, [0], 3), (F.MCL_STAT_THR_BUSY, [0], 0)] : State).sealed = false ∧ (setW (mul [] [])
    [(F.CPW_PD_STATE, [36], 2), (F.MCL_STAT_STATE, [0], 3), (F.MCL_STAT_THR_BUSY, [0], 0)] : State).get F.CPW_PD_STATE [36] = 2 ∧ (setW (mul []
    []) [(F.CPW_PD_STATE, [36], 2), (F.MCL_STAT_STATE, [0], 3), (F.MCL_STAT_THR_BUSY, [0], 0)] : State).pdIdle 36 = true ∧ 36 ≤ 36 ∧ 36 < 52) ∧
    ((upW [(F.CPW_PD_STATE, [36], 3)] : State).sealed = false ∧ (upW [(F.CPW_PD_STATE, [36], 3)] : State).get F.CPW_PD_STATE [36] = 3) ∧ ((upW
    [(F.CPW_PD_STATE, [36], 3)] : State).sealed = false ∧ (upW [(F.CPW_PD_STATE, [36], 3)] : State).get F.CPW_PD_STATE [36] = 3) ∧ ((upW
    [(F.CPW_PD_STATE, [53], 1)] : State).sealed = false ∧ (upW [(F.CPW_PD_STATE, [53], 1)] : State).get F.CPW_PD_STATE [53] ≠ 3) := by
  and_intros <;> first | decide +kernel | rfl | exact BitVec.isLt _ | exact Nat.zero_le _

/-! ### device resets and power up -/

theorem test_device_resets_and_power_up_hypotheses :
    (({ up with cpw := { aon := false } } : State).cpw.aon = false) ∧ (up.sealed = false ∧ up.cpw.aon = true ∧ up.cpw.pwrOk = false ∧
    up.cpw.resetN = true) ∧ (({ up with cpw := { resetN := false } } : State).sealed = false ∧ ({ up with cpw := { resetN := false } } :
    State).cpw.aon = true ∧ ({ up with cpw := { resetN := false } } : State).cpw.pwrOk = false ∧ ({ up with cpw := { resetN := false } } :
    State).cpw.resetN = false) ∧ ((({ up with cpw := { aon := false } } : State).sealed = true ∨ ({ up with cpw := { aon := false } } :
    State).cpw.aon = false ∨ ({ up with cpw := { aon := false } } : State).cpw.pwrOk = true)) ∧
    (({ up with cpw := { pwrOk := true, resetN := false } } : State).sealed = false ∧ ({ up with cpw := { pwrOk := true, resetN := false } } :
    State).cpw.resetN = false ∧ ({ up with cpw := { pwrOk := true, resetN := false } } : State).cpw.pwrOk = true) ∧
    (({ up with cpw := { resetN := false } } : State).sealed = false ∧ ({ up with cpw := { resetN := false } } : State).cpw.resetN = false ∧
    ({ up with cpw := { resetN := false } } : State).cpw.pwrOk = false) ∧ ((up.sealed = true ∨ up.cpw.resetN = true)) ∧ (rstS.sealed = false ∧
    rstS.cpw.pwrOk = true) ∧ ((up.sealed = true ∨ up.cpw.pwrOk = false)) ∧ (rstS.sealed = false ∧ rstS.cpw.resetN = true ∧ rstS.cpw.pwrOk =
    true) ∧ ((({ up with cpw := { resetN := false } } : State).sealed = true ∨ ({ up with cpw := { resetN := false } } : State).cpw.resetN =
    false)) ∧ (rstS.granted (.core 0 : Init) true ⟨.CPW_RST, []⟩ 4 ∧ (∀ i, (.core 0 : Init) ≠ .tenant i) ∧ rstS.srcReady 2 = false) ∧ ((upW
    [(F.GSV_STAT_SAFE, [], 1)] : State).sealed = true) := by
  and_intros <;> first | decide +kernel | rfl | exact BitVec.isLt _ | exact Nat.zero_le _

/-! ### counter clears and bandwidth windows -/

theorem test_counter_clears_and_bandwidth_windows_hypotheses :
    (cnts.granted (.core 0 : Init) true ⟨.PT_CNT_CLR, [3]⟩ 4) ∧ (cnts.granted (.core 0 : Init) true ⟨.MCL_CNT_CLR, [2]⟩ 4) ∧ (cnts.granted
    (.core 0 : Init) true ⟨.FAB_CNT_CLR, []⟩ 4) ∧ (cnts.granted (.core 0 : Init) true ⟨.PMG_CNT_CLR, []⟩ 4) ∧
    (({ setW up [(F.CPW_TIME_TIME, [], 3000000007), (F.PT_BW_SEQ_SEQ, [1, 1], 0xFFFFFFFF)] with perf := { bw := [((5, 0), 777), ((5, 3), 5), ((6, 0), 1)] } }
    : State).sealed = false ∧
    ({ setW up [(F.CPW_TIME_TIME, [], 3000000007), (F.PT_BW_SEQ_SEQ, [1, 1], 0xFFFFFFFF)] with perf := { bw := [((5, 0), 777), ((5, 3), 5), ((6, 0), 1)] } }
    : State).perf.bwFrom.lookD 5 0 <
    ({ setW up [(F.CPW_TIME_TIME, [], 3000000007), (F.PT_BW_SEQ_SEQ, [1, 1], 0xFFFFFFFF)] with perf := { bw := [((5, 0), 777), ((5, 3), 5), ((6, 0), 1)] } }
    : State).now /
    ({ setW up [(F.CPW_TIME_TIME, [], 3000000007), (F.PT_BW_SEQ_SEQ, [1, 1], 0xFFFFFFFF)] with perf := { bw := [((5, 0), 777), ((5, 3), 5), ((6, 0), 1)] } }
    : State).bwNs 5 *
    ({ setW up [(F.CPW_TIME_TIME, [], 3000000007), (F.PT_BW_SEQ_SEQ, [1, 1], 0xFFFFFFFF)] with perf := { bw := [((5, 0), 777), ((5, 3), 5), ((6, 0), 1)] } }
    : State).bwNs 5) ∧ (({ setW up [(F.CPW_TIME_TIME, [], 999999999)] with perf := { bw := [((5, 0), 777), ((5, 3), 5), ((6, 0), 1)] } } :
    State).sealed = false ∧ ({ setW up [(F.CPW_TIME_TIME, [], 999999999)] with perf := { bw := [((5, 0), 777), ((5, 3), 5), ((6, 0), 1)] } } :
    State).now / ({ setW up [(F.CPW_TIME_TIME, [], 999999999)] with perf := { bw := [((5, 0), 777), ((5, 3), 5), ((6, 0), 1)] } } : State).bwNs
    5 * ({ setW up [(F.CPW_TIME_TIME, [], 999999999)] with perf := { bw := [((5, 0), 777), ((5, 3), 5), ((6, 0), 1)] } } : State).bwNs 5 ≤
    ({ setW up [(F.CPW_TIME_TIME, [], 999999999)] with perf := { bw := [((5, 0), 777), ((5, 3), 5), ((6, 0), 1)] } } : State).perf.bwFrom.lookD
    5 0) ∧ (({ setW up [(F.CPW_TIME_TIME, [], 999999999)] with perf := { bw := [((5, 0), 777), ((5, 3), 5), ((6, 0), 1)] } } : State).granted
    (.core 0 : Init) true ⟨.PT_BW_CFG, [5 / 4, 5 % 4]⟩ 4) := by
  and_intros <;> first | decide +kernel | rfl | exact BitVec.isLt _ | exact Nat.zero_le _

/-! ### sampling of the mules -/

theorem test_sampling_of_the_mules_hypotheses :
    (({ smp 0x100001 with perf := { smpP with written := 255, lost := 3 } } : State).sealed = false ∧
    ({ smp 0x100001 with perf := { smpP with written := 255, lost := 3 } } : State).smpOn = true ∧
    ({ smp 0x100001 with perf := { smpP with written := 255, lost := 3 } } : State).hostIo = true ∧
    ({ smp 0x100001 with perf := { smpP with written := 255, lost := 3 } } : State).muleIn 2 = true ∧
    ({ smp 0x100001 with perf := { smpP with written := 255, lost := 3 } } : State).perf.caught.look 2 = some (9, (0x40 : Nat), (0x60000 : Nat),
    5, 41) ∧ ({ smp 0x100001 with perf := { smpP with written := 255, lost := 3 } } : State).smpFull = false) ∧
    (({ smp 0x100001 with perf := { smpP with written := 256, lost := 3 } } : State).sealed = false ∧
    ({ smp 0x100001 with perf := { smpP with written := 256, lost := 3 } } : State).smpOn = true ∧
    ({ smp 0x100001 with perf := { smpP with written := 256, lost := 3 } } : State).hostIo = true ∧
    ({ smp 0x100001 with perf := { smpP with written := 256, lost := 3 } } : State).muleIn 2 = true ∧
    ({ smp 0x100001 with perf := { smpP with written := 256, lost := 3 } } : State).perf.caught.look 2 = some (9, (0x40 : Nat), (0x60000 : Nat),
    5, 41) ∧ ({ smp 0x100001 with perf := { smpP with written := 256, lost := 3 } } : State).smpFull = true) ∧ ((smp 0x100001 : State).sealed =
    false ∧ ((smp 0x100001 : State).perf.caught.look 2 = none ∨ (smp 0x100001 : State).smpOn = false ∨ (smp 0x100001 : State).muleIn 2 = false))
    ∧ ((setW (smp 0x100003) [(F.PMG_SMP_MASK_MASK, [], 4), (F.CPW_TIME_TIME, [], 16000)] : State).sealed = false ∧ (setW (smp 0x100003)
    [(F.PMG_SMP_MASK_MASK, [], 4), (F.CPW_TIME_TIME, [], 16000)] : State).smpOn = true ∧ (setW (smp 0x100003) [(F.PMG_SMP_MASK_MASK, [], 4),
    (F.CPW_TIME_TIME, [], 16000)] : State).hostIo = true ∧ (setW (smp 0x100003) [(F.PMG_SMP_MASK_MASK, [], 4), (F.CPW_TIME_TIME, [], 16000)] :
    State).on F.PMG_SMP_CFG_MODE [] = true ∧ (setW (smp 0x100003) [(F.PMG_SMP_MASK_MASK, [], 4), (F.CPW_TIME_TIME, [], 16000)] :
    State).perf.skidAt + (setW (smp 0x100003) [(F.PMG_SMP_MASK_MASK, [], 4), (F.CPW_TIME_TIME, [], 16000)] : State).skidNs ≤ (setW (smp
    0x100003) [(F.PMG_SMP_MASK_MASK, [], 4), (F.CPW_TIME_TIME, [], 16000)] : State).now ∧ ((∀ k < 64, (setW (smp 0x100003)
    [(F.PMG_SMP_MASK_MASK, [], 4), (F.CPW_TIME_TIME, [], 16000)] : State).smpMule k = true → k = 2)) ∧ (setW (smp 0x100003)
    [(F.PMG_SMP_MASK_MASK, [], 4), (F.CPW_TIME_TIME, [], 16000)] : State).smpMule 2 = true ∧ (setW (smp 0x100003) [(F.PMG_SMP_MASK_MASK, [], 4),
    (F.CPW_TIME_TIME, [], 16000)] : State).smpFull = false) ∧ ((setW (smp 0x100003) [(F.PMG_SMP_MASK_MASK, [], 4), (F.CPW_TIME_TIME, [], 15999)]
    : State).sealed = false ∧ ((setW (smp 0x100003) [(F.PMG_SMP_MASK_MASK, [], 4), (F.CPW_TIME_TIME, [], 15999)] : State).smpOn = false ∨ (setW
    (smp 0x100003) [(F.PMG_SMP_MASK_MASK, [], 4), (F.CPW_TIME_TIME, [], 15999)] : State).on F.PMG_SMP_CFG_MODE [] = false ∨ (setW (smp 0x100003)
    [(F.PMG_SMP_MASK_MASK, [], 4), (F.CPW_TIME_TIME, [], 15999)] : State).now < (setW (smp 0x100003) [(F.PMG_SMP_MASK_MASK, [], 4),
    (F.CPW_TIME_TIME, [], 15999)] : State).perf.skidAt + (setW (smp 0x100003) [(F.PMG_SMP_MASK_MASK, [], 4), (F.CPW_TIME_TIME, [], 15999)] :
    State).skidNs)) ∧ (up.nextThr 3 = none ∧ (∀ j < 4, (up.get F.MCL_STAT_THR_BUSY [(4 * 3 + j) / 16]).testBit ((4 * 3 + j) % 16) = false)) ∧
    ((setW { smp 0x100001 with perf := { written := 256 } } [(F.CPW_TIME_TIME, [], 10000)] : State).sealed = false ∧ (setW
    { smp 0x100001 with perf := { written := 256 } } [(F.CPW_TIME_TIME, [], 10000)] : State).smpOn = true ∧ (setW
    { smp 0x100001 with perf := { written := 256 } } [(F.CPW_TIME_TIME, [], 10000)] : State).hostIo = true ∧ (setW
    { smp 0x100001 with perf := { written := 256 } } [(F.CPW_TIME_TIME, [], 10000)] : State).smpFull = true ∧ (setW
    { smp 0x100001 with perf := { written := 256 } } [(F.CPW_TIME_TIME, [], 10000)] : State).perf.readAt + 10000 ≤ (setW
    { smp 0x100001 with perf := { written := 256 } } [(F.CPW_TIME_TIME, [], 10000)] : State).now) ∧ ((setW
    { smp 0x100001 with perf := { written := 256 } } [(F.CPW_TIME_TIME, [], 10000)] : State).sealed = false ∧ (setW
    { smp 0x100001 with perf := { written := 256 } } [(F.CPW_TIME_TIME, [], 10000)] : State).smpOn = true ∧ (setW
    { smp 0x100001 with perf := { written := 256 } } [(F.CPW_TIME_TIME, [], 10000)] : State).hostIo = true ∧ (setW
    { smp 0x100001 with perf := { written := 256 } } [(F.CPW_TIME_TIME, [], 10000)] : State).smpFull = true ∧ (setW
    { smp 0x100001 with perf := { written := 256 } } [(F.CPW_TIME_TIME, [], 10000)] : State).perf.readAt + 10000 ≤ (setW
    { smp 0x100001 with perf := { written := 256 } } [(F.CPW_TIME_TIME, [], 10000)] : State).now) ∧ ((setW
    { smp 0x100001 with perf := { written := 256 } } [(F.CPW_TIME_TIME, [], 9999)] : State).sealed = false ∧ ((setW
    { smp 0x100001 with perf := { written := 256 } } [(F.CPW_TIME_TIME, [], 9999)] : State).smpFull = false ∨ (setW
    { smp 0x100001 with perf := { written := 256 } } [(F.CPW_TIME_TIME, [], 9999)] : State).now < (setW
    { smp 0x100001 with perf := { written := 256 } } [(F.CPW_TIME_TIME, [], 9999)] : State).perf.readAt + 10000)) ∧ ((0x208, (.PMG_SMP_BASE :
    RN)) ∈ [(0x208, RN.PMG_SMP_BASE), (0x210, RN.PMG_SMP_DB)] ∧ (smp 0x100001 : State).granted (.core 0 : Init) true ⟨(.PMG_SMP_BASE : RN), []⟩
    8 ∧ (smp 0x100001 : State).on F.PMG_SMP_CFG_EN [] = true) ∧ ((0x208, (.PMG_SMP_BASE : RN)) ∈ [(0x208, RN.PMG_SMP_BASE), (0x210,
    RN.PMG_SMP_DB)] ∧ up.granted (.core 0 : Init) true ⟨(.PMG_SMP_BASE : RN), []⟩ 8 ∧ up.on F.PMG_SMP_CFG_EN [] = false) ∧ (0x218 = 0x218 ∧ (smp
    0x100001 : State).granted (.core 0 : Init) true ⟨.PMG_SMP_MASK, []⟩ 8) ∧ (0x200 = 0x200 ∧ (setW up [(F.PMG_SMP_CFG_ERROR, [], 1)] :
    State).granted (.core 0 : Init) true ⟨.PMG_SMP_CFG, []⟩ 8 ∧ (setW up [(F.PMG_SMP_CFG_ERROR, [], 1)] : State).on F.PMG_SMP_CFG_EN [] = false
    ∧ (0x2000B : W64).getLsbD 0 = true) ∧ (0x200 = 0x200 ∧ (smp 0x100001 : State).granted (.core 0 : Init) true ⟨.PMG_SMP_CFG, []⟩ 8 ∧ (smp
    0x100001 : State).on F.PMG_SMP_CFG_EN [] = true ∧ (0x2000B : W64).getLsbD 0 = true) ∧ ((smp 0x100001 : State).sealed = false ∧ 0x220 ∉
    [0x200, 0x208, 0x210, 0x218]) := by
  and_intros <;> first | decide +kernel | rfl | exact BitVec.isLt _ | exact Nat.zero_le _

end Sys2Proof.Tests
end

section
/-!
SUPPORT. The rules that the statements about lanes and trunks share: what a frame says of single fields and
parts of the state, counters and their overflow events, and folds over lanes.
-/

namespace Sys2Proof.Machine

theorem State.on_eq (s : State) (f : Fld) (ix : List Nat) : s.on f ix = (s.get f ix == 1) := rfl

/-! ### What a frame says -/

/-- A register that belongs neither to a triple nor to the pending bits of the message table. -/
abbrev Reg.apart (r : Reg) (x : Trip) : Prop := r ≠ x.stat ∧ r ≠ x.int ∧ r.n ≠ .MSIX_PBA

theorem State.only.get {s u : State} {l : List Reg} {xs : List Trip} (h : s.only u l xs) {f : Fld} {ix : List Nat}
    (hl : (⟨f.reg, ix⟩ : Reg) ∉ l) (hx : ∀ x ∈ xs, (⟨f.reg, ix⟩ : Reg).apart x) : u.get f ix = s.get f ix := by
  rw [State.get_eq, h.1 _ hl hx, State.get_eq]

theorem State.only.lnk {s u : State} {l : List Reg} {xs : List Trip} (h : s.only u l xs) : u.lnk = s.lnk := (congrArg State.lnk h.2 :)

theorem State.only.fwd {s u : State} {l : List Reg} {xs : List Trip} (h : s.only u l xs) : u.fwd = s.fwd := (congrArg State.fwd h.2 :)

/-! ### Counters -/

theorem fget_fset_satAdd (v : W64) (a n : Nat) : fget (fset v 0 48 (satAdd 48 a n)) 0 48 = satAdd 48 a n := by
  rw [fget_fset_same _ _ _ _ (by decide)]
  exact Nat.mod_eq_of_lt (by simp only [satAdd]; omega)

/-- A counter register counts, its overflow event aside (R530, R531). -/
theorem State.counts_count (s : State) (r : Reg) (n : Nat) (ov : Option (Trip × Nat)) (h : ∀ x ∈ ov, r.apart x.1) :
    s.counts (s.count r n ov) r n := by
  have hovf (v : W64) (c : Nat) : fget (fset (fset v 0 48 c) 48 1 1) 0 48 = fget (fset v 0 48 c) 0 48 :=
    fget_fset_disj _ _ _ _ _ _ (by decide) (by decide)
  unfold State.counts State.count
  dsimp only
  split
  · cases ov with
    | none => rw [State.rd_wr_same, hovf, fget_fset_satAdd]
    | some xb =>
      obtain ⟨h1, h2, h3⟩ := h xb rfl
      rw [State.event_rd_ne _ _ _ h1 h2 h3, State.rd_wr_same, hovf, fget_fset_satAdd]
  · rw [State.rd_wr_same, fget_fset_satAdd]

/-- Everything sent stays sent. -/
def State.sentGrows (s u : State) : Prop := ∃ l, u.sent = s.sent ++ l

theorem State.sentGrows_sendMsix (s : State) (v : Nat) : s.sentGrows (s.sendMsix v) := by
  unfold State.sendMsix
  split
  · exact ⟨[], by simp⟩
  · split
    · exact ⟨[.msix v], rfl⟩
    · exact ⟨[], by simp⟩

theorem State.sentGrows_event (s : State) (x : Trip) (b : Nat) : s.sentGrows (s.event x b) := by
  unfold State.event State.sendSource State.when
  dsimp only
  split
  · split
    · exact State.sentGrows_sendMsix _ _
    · exact ⟨[], by simp [State.updInt]⟩
  · exact ⟨[], by simp [State.updInt]⟩

theorem State.sentGrows_count (s : State) (r : Reg) (n : Nat) (ov : Option (Trip × Nat)) : s.sentGrows (s.count r n ov) := by
  unfold State.count
  dsimp only
  split
  · cases ov with
    | none => exact ⟨[], by simp⟩
    | some xb => exact State.sentGrows_event (s.wr _ _) xb.1 xb.2
  · exact ⟨[], by simp⟩

end Sys2Proof.Machine
end

section
/-!
SUPPORT. Equalization and margining (R44 to R47, R62, R63).
-/

namespace Sys2Proof.Machine

/-! ### Lists of distinct lanes -/

theorem mem_addNew {α : Type} [DecidableEq α] (l : List α) (a : α) : a ∈ addNew l a := by
  unfold addNew
  split
  · assumption
  · simp

theorem addNew_of_not_mem {α : Type} [DecidableEq α] {l : List α} {a : α} (h : a ∉ l) : addNew l a = l ++ [a] := if_neg h

theorem filter_ne_addNew {α : Type} [DecidableEq α] [BEq α] [LawfulBEq α] (l : List α) (a : α) : (addNew l a).filter (· != a) = l.filter (· != a) := by
  unfold addNew
  split
  · rfl
  · simp

/-! ### Transmitter requests -/

theorem txeqOk_iff (pre main post : Nat) :
    txeqOk pre main post = true ↔ pre ≤ 15 ∧ post ≤ 21 ∧ pre + main + post = 63 ∧ 21 + pre + post ≤ main := by
  simp [txeqOk, and_assoc]

/-- A set within the limits is taken and answered when nothing overrides it (R44, R47). -/
theorem execTxeqRequest_taken {s : State} (t : Fin 36) (k : Fin 8) {pre main post : Fin 64} (hs : s.sealed = false)
    (hovr : s.get F.LN_TXEQ_OVR [t.val, k.val] = 0) (hok : txeqOk pre.val main.val post.val = true) :
    execTxeqRequest t k pre main post s = .next ((((s.set F.LN_TXEQ_C_PRE [t.val, k.val] pre.val).set F.LN_TXEQ_C_MAIN [t.val, k.val]
      main.val).set F.LN_TXEQ_C_POST [t.val, k.val] post.val).emit (.txeq t.val k.val true)) := by
  simp [execTxeqRequest, s.live_next _ hs, s.on_eq, hovr, hok]

/-- Any other set, or any set under override, is rejected (R44, R47). -/
theorem execTxeqRequest_rejected {s : State} (t : Fin 36) (k : Fin 8) {pre main post : Fin 64} (hs : s.sealed = false)
    (h : s.get F.LN_TXEQ_OVR [t.val, k.val] = 1 ∨ txeqOk pre.val main.val post.val = false) :
    execTxeqRequest t k pre main post s = .next (s.emit (.txeq t.val k.val false)) := by
  rcases h with h | h <;> simp [execTxeqRequest, s.live_next _ hs, s.on_eq, h]

/-! ### The search of a phase -/

/-- A search whose answers do not beat the best score keeps the best setting (R45). -/
theorem eqSearch_of_le (n : Nat) (best : Nat × Nat) (score : Nat) (tried : List (Nat × Nat)) (answers : List (Option Nat))
    (h : ∀ a ∈ answers, ∀ v ∈ a, v ≤ score) : eqSearch n best score tried answers = best := by
  induction answers generalizing n tried with
  | nil => cases n <;> rfl
  | cons a as ih =>
    have has : ∀ b ∈ as, ∀ v ∈ b, v ≤ score := fun b hb => h b (List.mem_cons_of_mem _ hb)
    cases n with
    | zero => rfl
    | succ n =>
      unfold eqSearch
      dsimp only
      split
      · rfl
      · cases a with
        | none => exact ih _ _ has
        | some v =>
          have hv : ¬ score < v := Nat.not_lt.2 (h _ (List.mem_cons_self ..) v rfl)
          simp only [if_neg hv]
          exact ih _ _ has

/-! ### Phases and margining commands -/

/-- A phase that starts ends a margining command on its lane (R63). -/
theorem execEqualizationPhase_start {s : State} (t : Fin 36) (k : Fin 8) (pre post score : Nat) (answers : List (Option Nat))
    (hs : s.sealed = false) :
    execEqualizationPhase t k false pre post score answers s = .next (s.lnkUp (fun x =>
      { x with eqRun := addNew x.eqRun (t.val, k.val), margin := x.margin.filter (· != (t.val, k.val)) })) := by
  simp [execEqualizationPhase, s.live_next _ hs]

/-- A phase that ends leaves the partner with the best setting of the search, and asks for it (R45, R46). -/
theorem execEqualizationPhase_end {s : State} (t : Fin 36) (k : Fin 8) (pre post score : Nat) (answers : List (Option Nat))
    (hs : s.sealed = false) (hrun : (t.val, k.val) ∈ s.lnk.eqRun) :
    execEqualizationPhase t k true pre post score answers s = .next ((s.lnkUp (fun x =>
      { x with eqRun := x.eqRun.filter (· != (t.val, k.val)),
               partner := x.partner.put (t.val, k.val) (eqSearch 40 (pre, post) score [] answers) })).emit
      (.eqAsk t.val k.val (eqSearch 40 (pre, post) score [] answers).1 (eqSearch 40 (pre, post) score [] answers).2)) := by
  simp [execEqualizationPhase, s.live_next _ hs, hrun]

/-- A margining command starts within its limits on a PCIe port in L0 at 16 GT/s or above, outside equalization (R62, R63). -/
theorem execMarginCommand_start {s : State} (t : Fin 36) (k : Fin 8) {time volt p : Nat} (hs : s.sealed = false)
    (hp : s.portOfLane t.val k.val = some p)
    (hok : s.inL0 p = true ∧ s.role p ≠ 2 ∧ 3 ≤ s.pget F.PP_STAT_RATE p ∧ time ≤ 32 ∧ volt ≤ 64 ∧ (t.val, k.val) ∉ s.lnk.eqRun) :
    execMarginCommand t k true time volt s =
      .next (s.lnkUp (fun x => { x with margin := addNew x.margin (t.val, k.val) })) := by
  simp [execMarginCommand, s.live_next _ hs, hp, hok]

theorem execMarginCommand_end {s : State} (t : Fin 36) (k : Fin 8) (time volt : Nat) {p : Nat} (hs : s.sealed = false)
    (hp : s.portOfLane t.val k.val = some p) :
    execMarginCommand t k false time volt s =
      .next (s.lnkUp (fun x => { x with margin := x.margin.filter (· != (t.val, k.val)) })) := by
  simp [execMarginCommand, s.live_next _ hs, hp]

/-- Settles O11, command by command: each one's effect, then its frame. -/
theorem equalizationAndMargining : Obligations.equalization_and_margining := by
  unfold Obligations.equalization_and_margining
  refine ⟨?taken, ?rejected, ?phaseStart, ?phaseEnd, ?marginStart, ?marginEnd⟩
  case taken =>
    intro s t k pre main post hs hovr hpre hpost hsum hlf
    refine ⟨_, execTxeqRequest_taken t k hs hovr ((txeqOk_iff ..).2 ⟨hpre, hpost, hsum, hlf⟩), ?_, ?_, ?_, rfl, ?_⟩
    · simp (disch := simp) only [State.get_emit, State.get_set_disj, State.get_set_same]
      exact Nat.mod_eq_of_lt (by omega)
    · simp (disch := simp) only [State.get_emit, State.get_set_disj, State.get_set_same]
      exact Nat.mod_eq_of_lt main.isLt
    · simp (disch := simp) only [State.get_emit, State.get_set_same]
      exact Nat.mod_eq_of_lt (by omega)
    · have h := State.only_trans (State.only_trans (State.only_trans (s.only_set F.LN_TXEQ_C_PRE [t.val, k.val] pre.val)
        (State.only_set _ F.LN_TXEQ_C_MAIN [t.val, k.val] main.val)) (State.only_set _ F.LN_TXEQ_C_POST [t.val, k.val] post.val))
        (State.only_emit _ (.txeq t.val k.val true))
      exact State.only_mono h (by simp) (by simp)
  case rejected =>
    intro s t k pre main post hs h
    have hrej : s.get F.LN_TXEQ_OVR [t.val, k.val] = 1 ∨ txeqOk pre.val main.val post.val = false := by
      rw [← Bool.not_eq_true, txeqOk_iff]
      omega
    exact ⟨_, execTxeqRequest_rejected t k hs hrej, rfl, s.only_emit _⟩
  case phaseStart =>
    intro s t k pre post score answers hs
    exact ⟨_, execEqualizationPhase_start t k pre post score answers hs, mem_addNew _ _, rfl, filter_ne_addNew _ _, State.only_refl ..⟩
  case phaseEnd =>
    intro s t k pre post score answers hs hrun
    refine ⟨_, execEqualizationPhase_end t k pre post score answers hs hrun, rfl, by simp, by simp, ?_, State.only_emit ..⟩
    intro hle
    simp [eqSearch_of_le _ _ _ _ _ hle]
  case marginStart =>
    intro s t k time volt p hs hp hL0 hrole hrate htime hvolt heq
    exact ⟨_, execMarginCommand_start t k hs hp ⟨hL0, hrole, hrate, htime, hvolt, heq⟩, mem_addNew _ _, filter_ne_addNew _ _,
      State.only_refl ..⟩
  case marginEnd =>
    intro s t k time volt p hs hp
    exact ⟨_, execMarginCommand_end t k time volt hs hp, rfl, State.only_refl ..⟩

end Sys2Proof.Machine
end

section
/-!
SUPPORT. Lanes: readiness, pattern counters, error injection and eye samples (R38, R59 to R61, R64).
-/

namespace Sys2Proof.Machine

/-! ### The port of a lane -/

/-- Which port a lane carries depends on the cuts alone (R38). -/
theorem State.portOfLane_congr {s u : State} (h : ∀ t, u.get F.PT_CUT_CUT [t] = s.get F.PT_CUT_CUT [t]) (t k : Nat) :
    u.portOfLane t k = s.portOfLane t k := by
  unfold State.portOfLane State.cutOf State.isX16
  dsimp only
  rw [h t, h (t / 2 * 2), h (t / 2 * 2 + 1)]

/-- So does the triple that reports it. -/
theorem State.laneTriple_congr {s u : State} (h : ∀ t, u.get F.PT_CUT_CUT [t] = s.get F.PT_CUT_CUT [t]) (t k : Nat) :
    u.laneTriple t k = s.laneTriple t k := by
  simp only [State.laneTriple, State.portOfLane_congr h]

/-- The registers of a lane's patterns and the cuts are none of a LINK triple. -/
theorem apart_link {n : RN} (hn : n ∈ [RN.LN_PAT, .LN_PAT_ERR, .LN_PAT_BITS, .PT_CUT]) (ix : List Nat) (p : Nat) :
    (⟨n, ix⟩ : Reg).apart (.port p 0) := by
  simp only [List.mem_cons, List.not_mem_nil, or_false] at hn
  rcases hn with rfl | rfl | rfl | rfl <;> simp [Reg.apart, Trip.stat, Trip.int]

/-! ### Readiness -/

/-- What LANE_READY does to one lane of the tile (R38). -/
def State.readyLane (t : Nat) (s : State) (k : Nat) : State :=
  s.when (s.portOfLane t k).isSome (·.setB F.LN_STAT_READY [t, k] true)

theorem execLaneReady_eq {s : State} (t : Fin 36) (hs : s.sealed = false) :
    execLaneReady t s = .next ((List.range 8).foldl (State.readyLane t.val) s) := s.live_next _ hs

theorem State.only_readyLane (s : State) (t k : Nat) : s.only (s.readyLane t k) [⟨.LN_STAT, [t, k]⟩] [] :=
  s.only_when _ _ (s.only_set _ _ _)

theorem State.portOfLane_readyLane (s : State) (t k t' k' : Nat) : (s.readyLane t k).portOfLane t' k' = s.portOfLane t' k' :=
  State.portOfLane_congr (fun _ => (s.only_readyLane t k).get (by simp) (by simp)) t' k'

theorem State.get_readyLane (s : State) (t k k' : Nat) :
    (s.readyLane t k).get F.LN_STAT_READY [t, k'] =
      if k' = k ∧ (s.portOfLane t k').isSome then 1 else s.get F.LN_STAT_READY [t, k'] := by
  by_cases hk : k' = k
  · subst hk
    unfold State.readyLane
    cases (s.portOfLane t k').isSome <;> simp [State.get_setB]
  · rw [(s.only_readyLane t k).get (by simpa using hk) (by simp), if_neg (fun h => hk h.1)]

theorem State.only_foldl_readyLane (t : Nat) (l : List Nat) (s : State) :
    s.only (l.foldl (State.readyLane t) s) (l.map (fun k => ⟨.LN_STAT, [t, k]⟩)) [] := by
  induction l generalizing s with
  | nil => exact s.only_refl _ _
  | cons k l ih => exact State.only_trans (s.only_readyLane t k) (ih _)

/-- The listed lanes that have a port become ready, and no others. -/
theorem State.get_foldl_readyLane (t k' : Nat) (l : List Nat) (s : State) :
    (l.foldl (State.readyLane t) s).get F.LN_STAT_READY [t, k'] =
      if k' ∈ l ∧ (s.portOfLane t k').isSome then 1 else s.get F.LN_STAT_READY [t, k'] := by
  induction l generalizing s with
  | nil => simp
  | cons k l ih =>
    rw [List.foldl_cons, ih, s.portOfLane_readyLane, s.get_readyLane]
    by_cases hk : k' = k
    · subst hk
      by_cases hp : (s.portOfLane t k').isSome <;> simp [hp]
    · simp [hk]

/-! ### The checker's counters -/

/-- One step of `State.patCount`: the counter in the low 48 bits of LN_PAT_ERR or LN_PAT_BITS, with its OVF in bit 48 (R60). -/
def State.patAdd (s : State) (r : RN) (t k n : Nat) : State :=
  let s1 := s.bump ⟨r, 0, 48⟩ [t, k] n
  if s1.get ⟨r, 0, 48⟩ [t, k] = 2 ^ 48 - 1 ∧ n ≠ 0 then (s1.setB ⟨r, 48, 1⟩ [t, k] true).portEvent (s.laneTriple t k) 0 7 else s1

theorem State.patCount_eq (s : State) (t k bits errs : Nat) :
    s.patCount t k bits errs = (s.patAdd .LN_PAT_ERR t k errs).patAdd .LN_PAT_BITS t k bits := rfl

theorem State.only_bump (s : State) (f : Fld) (ix : List Nat) (n : Nat) : s.only (s.bump f ix n) [⟨f.reg, ix⟩] [] := s.only_set _ _ _

theorem State.only_patAdd (s : State) (r : RN) (t k n : Nat) :
    s.only (s.patAdd r t k n) [⟨r, [t, k]⟩] [.port (s.laneTriple t k) 0] := by
  have hb := s.only_bump ⟨r, 0, 48⟩ [t, k] n
  unfold State.patAdd
  dsimp only
  split
  · have h := State.only_trans (State.only_trans hb (State.only_set _ ⟨r, 48, 1⟩ [t, k] (bit true)))
      (State.only_event _ (.port (s.laneTriple t k) 0) 7)
    exact State.only_mono h (by simp) (by simp)
  · exact State.only_mono hb (fun _ h => h) (by simp)

section
variable (s : State) {r : RN} (hr : r ∈ [RN.LN_PAT_ERR, .LN_PAT_BITS]) (t k n : Nat)
include hr

/-- The event of an overflow leaves the lane's counters alone. -/
theorem State.get_patEvent (p lo w : Nat) : (s.portEvent p 0 7).get ⟨r, lo, w⟩ [t, k] = s.get ⟨r, lo, w⟩ [t, k] := by
  have hr' : r ∈ [RN.LN_PAT, .LN_PAT_ERR, .LN_PAT_BITS, .PT_CUT] := by
    simp only [List.mem_cons, List.not_mem_nil, or_false] at hr ⊢
    tauto
  exact (s.only_event (.port p 0) 7).get (by simp) (by simpa using apart_link hr' [t, k] p)

theorem State.patAdd_count : (s.patAdd r t k n).get ⟨r, 0, 48⟩ [t, k] = min (s.get ⟨r, 0, 48⟩ [t, k] + n) (2 ^ 48 - 1) := by
  rw [← s.get_bump ⟨r, 0, 48⟩ [t, k] n (by simp)]
  unfold State.patAdd
  dsimp only
  split
  · rw [State.get_patEvent _ hr, State.setB, State.get_set_disj _ _ _ _ _ _ (.inr (by simp))]
  · rfl

/-- The fields above the OVF flag stay. -/
theorem State.patAdd_above {lo w : Nat} (h49 : 49 ≤ lo) (h64 : lo + w ≤ 64) :
    (s.patAdd r t k n).get ⟨r, lo, w⟩ [t, k] = s.get ⟨r, lo, w⟩ [t, k] := by
  have hb : (s.bump ⟨r, 0, 48⟩ [t, k] n).get ⟨r, lo, w⟩ [t, k] = s.get ⟨r, lo, w⟩ [t, k] :=
    State.get_set_disj _ _ _ _ _ _ (.inr ⟨.inr (by dsimp only; omega), h64⟩)
  unfold State.patAdd
  dsimp only
  split
  · rw [State.get_patEvent _ hr, State.setB, State.get_set_disj _ _ _ _ _ _ (.inr ⟨.inr (by simpa using h49), h64⟩), hb]
  · exact hb

/-- A counter that has counted and stands at all-ones has its OVF flag (R60). -/
theorem State.patAdd_ovf (hn : 0 < n) (h : (s.patAdd r t k n).get ⟨r, 0, 48⟩ [t, k] = 2 ^ 48 - 1) :
    (s.patAdd r t k n).get ⟨r, 48, 1⟩ [t, k] = 1 := by
  rw [s.patAdd_count hr, ← s.get_bump ⟨r, 0, 48⟩ [t, k] n (by simp)] at h
  have hc : (s.bump ⟨r, 0, 48⟩ [t, k] n).get ⟨r, 0, 48⟩ [t, k] = 2 ^ 48 - 1 ∧ n ≠ 0 := ⟨h, by omega⟩
  unfold State.patAdd
  dsimp only
  rw [if_pos hc, State.get_patEvent _ hr, State.get_setB _ _ _ _ (by simp) (by simp), bit_true]

end

theorem State.laneTriple_patAdd (s : State) (r : RN) (hr : r ≠ .PT_CUT) (t k n : Nat) :
    (s.patAdd r t k n).laneTriple t k = s.laneTriple t k :=
  State.laneTriple_congr (fun i => (s.only_patAdd r t k n).get (by simp [hr.symm]) (by simpa using apart_link (by simp) [i] _)) t k

theorem State.only_patCount (s : State) (t k bits errs : Nat) :
    s.only (s.patCount t k bits errs) [⟨.LN_PAT_ERR, [t, k]⟩, ⟨.LN_PAT_BITS, [t, k]⟩] [.port (s.laneTriple t k) 0] := by
  have h := State.only_trans (s.only_patAdd .LN_PAT_ERR t k errs) (State.only_patAdd _ .LN_PAT_BITS t k bits)
  rw [s.laneTriple_patAdd _ (by simp)] at h
  exact State.only_mono h (by simp) (by simp)

section
variable (s : State) (t k bits errs : Nat)

/-- Counting bits leaves the register of errors alone. -/
theorem State.get_patAdd_bits (lo w : Nat) :
    (s.patAdd .LN_PAT_BITS t k bits).get ⟨.LN_PAT_ERR, lo, w⟩ [t, k] = s.get ⟨.LN_PAT_ERR, lo, w⟩ [t, k] :=
  (s.only_patAdd _ t k bits).get (by simp) (by simpa using apart_link (by simp) [t, k] _)

/-- Counting errors leaves the register of bits alone. -/
theorem State.get_patAdd_errs (lo w : Nat) :
    (s.patAdd .LN_PAT_ERR t k errs).get ⟨.LN_PAT_BITS, lo, w⟩ [t, k] = s.get ⟨.LN_PAT_BITS, lo, w⟩ [t, k] :=
  (s.only_patAdd _ t k errs).get (by simp) (by simpa using apart_link (by simp) [t, k] _)

theorem State.patCount_errs :
    (s.patCount t k bits errs).get F.LN_PAT_ERR_COUNT [t, k] = min (s.get F.LN_PAT_ERR_COUNT [t, k] + errs) (2 ^ 48 - 1) := by
  rw [s.patCount_eq, State.get_patAdd_bits, s.patAdd_count (by simp)]

theorem State.patCount_bits :
    (s.patCount t k bits errs).get F.LN_PAT_BITS_COUNT [t, k] = min (s.get F.LN_PAT_BITS_COUNT [t, k] + bits) (2 ^ 48 - 1) := by
  rw [s.patCount_eq, State.patAdd_count _ (by simp), s.get_patAdd_errs]

theorem State.patCount_errs_ovf (hn : 0 < errs) (h : (s.patCount t k bits errs).get F.LN_PAT_ERR_COUNT [t, k] = 2 ^ 48 - 1) :
    (s.patCount t k bits errs).get F.LN_PAT_ERR_OVF [t, k] = 1 := by
  rw [s.patCount_eq, State.get_patAdd_bits] at *
  exact s.patAdd_ovf (by simp) t k errs hn h

theorem State.patCount_bits_ovf (hn : 0 < bits) (h : (s.patCount t k bits errs).get F.LN_PAT_BITS_COUNT [t, k] = 2 ^ 48 - 1) :
    (s.patCount t k bits errs).get F.LN_PAT_BITS_OVF [t, k] = 1 := by
  rw [s.patCount_eq] at *
  exact State.patAdd_ovf _ (by simp) t k bits hn h

end

/-! ### The checker's lock -/

theorem execChkLock_running {s : State} (t : Fin 36) (k : Fin 8) (hs : s.sealed = false) (h : s.get F.LN_PAT_CHK_EN [t.val, k.val] = 1) :
    execChkLock t k s = .next (s.setB F.LN_PAT_CHK_LOCK [t.val, k.val] true) := by
  simp [execChkLock, s.live_next _ hs, s.on_eq, h]

/-- The effect of a loss of lock (R59). -/
def State.loseLock (s : State) (t k bits errs : Nat) : State :=
  ((s.patCount t k bits errs).setB F.LN_PAT_CHK_LOCK [t, k] false).bump F.LN_PAT_ERR_LOCK_LOSS [t, k]

theorem execLockLoss_locked {s : State} (t : Fin 36) (k : Fin 8) (bits errs : Nat) (hs : s.sealed = false)
    (h : s.get F.LN_PAT_CHK_LOCK [t.val, k.val] = 1) : execLockLoss t k bits errs s = .next (s.loseLock t.val k.val bits errs) := by
  simp [execLockLoss, s.live_next _ hs, s.on_eq, h, State.loseLock]

section
variable (s : State) (t k bits errs : Nat)

theorem State.only_loseLock :
    s.only (s.loseLock t k bits errs) [⟨.LN_PAT, [t, k]⟩, ⟨.LN_PAT_ERR, [t, k]⟩, ⟨.LN_PAT_BITS, [t, k]⟩]
      [.port (s.laneTriple t k) 0] := by
  have h := State.only_trans (State.only_trans (s.only_patCount t k bits errs) (State.only_set _ F.LN_PAT_CHK_LOCK [t, k] (bit false)))
    (State.only_bump _ F.LN_PAT_ERR_LOCK_LOSS [t, k] 1)
  exact State.only_mono h (by simp) (by simp)

theorem State.loseLock_lock : (s.loseLock t k bits errs).get F.LN_PAT_CHK_LOCK [t, k] = 0 := by
  rw [State.loseLock, State.bump, State.get_set_disj _ _ _ _ _ _ (.inl (by simp)), State.get_setB _ _ _ _ (by simp) (by simp), bit_false]

/-- The loss is counted once, up to all-ones (R59). -/
theorem State.loseLock_losses :
    (s.loseLock t k bits errs).get F.LN_PAT_ERR_LOCK_LOSS [t, k] = min (s.get F.LN_PAT_ERR_LOCK_LOSS [t, k] + 1) (2 ^ 15 - 1) := by
  have hpat : (s.patCount t k bits errs).get F.LN_PAT_ERR_LOCK_LOSS [t, k] = s.get F.LN_PAT_ERR_LOCK_LOSS [t, k] := by
    rw [s.patCount_eq, State.get_patAdd_bits, s.patAdd_above (by simp) t k errs (by simp) (by simp)]
  rw [State.loseLock, State.get_bump _ _ _ _ (by simp), State.setB, State.get_set_disj _ _ _ _ _ _ (.inl (by simp)), hpat]

/-- Of the counters and their flags, a loss of lock leaves what the count of bits and errors made them. -/
theorem State.loseLock_counter {f : Fld} (hf : f ∈ [F.LN_PAT_ERR_COUNT, F.LN_PAT_ERR_OVF, F.LN_PAT_BITS_COUNT, F.LN_PAT_BITS_OVF]) :
    (s.loseLock t k bits errs).get f [t, k] = (s.patCount t k bits errs).get f [t, k] := by
  simp only [List.mem_cons, List.not_mem_nil, or_false] at hf
  rcases hf with rfl | rfl | rfl | rfl <;> simp (disch := simp) only [State.loseLock, State.bump, State.setB, State.get_set_disj]

end

/-! ### Error injection -/

/-- What every injection records (R61). -/
def State.noteInjected (s : State) (t k : Nat) : State := s.lnkUp (fun l => { l with injected := l.injected.upd (t, k) 0 (· + 1) })

/-- An injection is recorded, and a lane whose own generator runs into a locked checker counts it (R61). -/
theorem State.inject_eq (s : State) (t k : Nat) :
    s.inject t k = if s.get F.LN_PAT_GEN_EN [t, k] = 1 ∧ s.get F.LN_PAT_CHK_LOCK [t, k] = 1
      then (s.noteInjected t k).patCount t k 0 1 else s.noteInjected t k := by
  simp [State.inject, State.noteInjected, s.on_eq]

theorem State.only_inject (s : State) (t k : Nat) :
    (s.noteInjected t k).only (s.inject t k) [⟨.LN_PAT_ERR, [t, k]⟩, ⟨.LN_PAT_BITS, [t, k]⟩] [.port (s.laneTriple t k) 0] := by
  rw [s.inject_eq]
  split
  · exact State.only_patCount _ t k 0 1
  · exact State.only_refl _ _ _

/-- One more error injected on a lane: the record, the checker's counters and the frame. -/
def State.injects (s u : State) (t k : Nat) : Prop :=
  u.lnk.injected.lookD (t, k) 0 = s.lnk.injected.lookD (t, k) 0 + 1 ∧
  u.get F.LN_PAT_ERR_COUNT [t, k] = (if s.get F.LN_PAT_GEN_EN [t, k] = 1 ∧ s.get F.LN_PAT_CHK_LOCK [t, k] = 1
    then min (s.get F.LN_PAT_ERR_COUNT [t, k] + 1) (2 ^ 48 - 1) else s.get F.LN_PAT_ERR_COUNT [t, k]) ∧
  u.get F.LN_PAT_BITS_COUNT [t, k] = s.get F.LN_PAT_BITS_COUNT [t, k] ∧
  { s with lnk := { s.lnk with injected := u.lnk.injected } }.only u [⟨.LN_PAT_ERR, [t, k]⟩, ⟨.LN_PAT_BITS, [t, k]⟩]
    [.port (s.laneTriple t k) 0]

theorem State.injects_inject (s : State) (t k : Nat) : s.injects (s.inject t k) t k := by
  have hlnk : (s.inject t k).lnk = (s.noteInjected t k).lnk := (s.only_inject t k).lnk
  refine ⟨?_, ?_, ?_, ?_⟩
  · rw [hlnk]
    exact AMap.lookD_put_same ..
  · rw [s.inject_eq]
    split
    · exact State.patCount_errs _ t k 0 1
    · rfl
  · rw [s.inject_eq]
    split
    · rw [State.patCount_bits]
      exact Nat.min_eq_left (Nat.le_pred_of_lt (s.get_lt F.LN_PAT_BITS_COUNT [t, k]))
    · rfl
  · rw [hlnk]
    exact s.only_inject t k

/-- The answer of the write that injects changes none of it. -/
theorem State.injects_answered {s u : State} {t k : Nat} (h : s.injects u t k) (who : Init) (a : Acc) :
    s.injects (u.answerWrite who a) t k := by
  obtain ⟨hinj, herrs, hbits, honly⟩ := h
  have hans := u.only_answerWrite who a
  refine ⟨?_, ?_, ?_, ?_⟩
  · rw [hans.lnk, hinj]
  · rw [State.get_answerWrite, herrs]
  · rw [State.get_answerWrite, hbits]
  · rw [hans.lnk]
    exact State.only_mono (State.only_trans honly hans) (by simp) (by simp)

theorem execInjOne_single {s : State} {who : Init} (t : Fin 36) (k : Fin 8) (hg : s.granted who true ⟨.LN_PAT, [t.val, k.val]⟩ 4)
    (h : s.get F.LN_PAT_INJ_MODE [t.val, k.val] = 1) :
    execInjOne who t k s = .next ((s.inject t.val k.val).answerWrite who .ok) := by
  rw [execInjOne, s.live_next _ (State.granted_awake hg), State.writeReg_granted hg, if_pos h]

theorem execPeriodicInjection_periodic {s : State} (t : Fin 36) (k : Fin 8) (hs : s.sealed = false)
    (h : s.get F.LN_PAT_INJ_MODE [t.val, k.val] = 2) : execPeriodicInjection t k s = .next (s.inject t.val k.val) := by
  simp [execPeriodicInjection, s.live_next _ hs, h]

/-! ### Eye samples -/

theorem execEyeStartAfterEq_waiting {s : State} (t : Fin 36) (k : Fin 8) (hs : s.sealed = false) (hw : (t.val, k.val) ∈ s.lnk.eyeWait)
    (hr : (t.val, k.val) ∉ s.lnk.eqRun) :
    execEyeStartAfterEq t k s = .next (s.lnkUp (fun x => { x with eyeWait := x.eyeWait.filter (· != (t.val, k.val)) })) := by
  simp [execEyeStartAfterEq, s.live_next _ hs, hw, hr]

theorem execEyeSampleDone_running {s : State} (t : Fin 36) (k : Fin 8) (errs : Nat) (hs : s.sealed = false)
    (h : s.get F.LN_EYE_START [t.val, k.val] = 1) (hw : (t.val, k.val) ∉ s.lnk.eyeWait) :
    execEyeSampleDone t k errs s =
      .next ((s.set F.LN_EYE_ERRORS [t.val, k.val] (min errs 0xFFFF)).setB F.LN_EYE_START [t.val, k.val] false) := by
  simp [execEyeSampleDone, s.live_next _ hs, s.on_eq, h, hw]

/-- Settles O10, command by command: lanes by a fold over the tile, and losses of lock and injections by what one count of bits and errors does. -/
theorem lanePatternAndSamplerEvents : Obligations.lane_pattern_and_sampler_events := by
  unfold Obligations.lane_pattern_and_sampler_events
  refine ⟨?ready, ?lock, ?loss, ?single, ?periodic, ?eyeStart, ?eyeDone⟩
  case ready =>
    intro s t hs
    refine ⟨_, execLaneReady_eq t hs, fun k hk => ?_, State.only_foldl_readyLane t.val (List.range 8) s⟩
    simp [State.get_foldl_readyLane, hk]
  case lock =>
    intro s t k hs h
    exact ⟨_, execChkLock_running t k hs h, s.get_setB _ _ _ (by simp) (by simp), s.only_set _ _ _⟩
  case loss =>
    intro s t k bits errs hs h
    refine ⟨_, execLockLoss_locked t k bits errs hs h, s.loseLock_lock .., s.loseLock_losses .., ?_, ?_, ?_, ?_, s.only_loseLock ..⟩
    all_goals simp (disch := simp) only [State.loseLock_counter]
    · exact s.patCount_errs ..
    · exact s.patCount_bits ..
    · exact s.patCount_errs_ovf _ _ _ _
    · exact s.patCount_bits_ovf _ _ _ _
  case single =>
    intro s who t k hg h
    exact ⟨_, execInjOne_single t k hg h, State.injects_answered (s.injects_inject _ _) who .ok⟩
  case periodic =>
    intro s t k hs h
    obtain ⟨hinj, herrs, -, honly⟩ := s.injects_inject t.val k.val
    exact ⟨_, execPeriodicInjection_periodic t k hs h, hinj, herrs, honly⟩
  case eyeStart =>
    intro s t k hs hw hr
    exact ⟨_, execEyeStartAfterEq_waiting t k hs hw hr, rfl, State.only_refl ..⟩
  case eyeDone =>
    intro s t k errs hs h hw
    refine ⟨_, execEyeSampleDone_running t k errs hs h hw, ?_, State.get_setB _ _ _ _ (by simp) (by simp), ?_⟩
    · rw [State.setB, State.get_set_disj _ _ _ _ _ _ (.inr (by simp)), State.get_set_same _ _ _ _ (by simp)]
      exact Nat.mod_eq_of_lt (by simp)
    · have h := State.only_trans (s.only_set F.LN_EYE_ERRORS [t.val, k.val] (min errs 0xFFFF))
        (State.only_set _ F.LN_EYE_START [t.val, k.val] (bit false))
      exact State.only_mono h (by simp) (by simp)

end Sys2Proof.Machine
end

section
/-!
SUPPORT. Doze of a trunk's members (R51 to R54, R301, R302).
-/

namespace Sys2Proof.Machine

/-! ### Counters of a trunk -/

theorem State.only_trunkCount (s : State) (j c n : Nat) : s.only (s.trunkCount j c n) [⟨.FAB_CNT, [j, c]⟩] [.port (8 * j) 7] :=
  s.only_count _ n (some (.port (8 * j) 7, 0))

theorem State.counts_trunkCount (s : State) (j c n : Nat) : s.counts (s.trunkCount j c n) ⟨.FAB_CNT, [j, c]⟩ n := by
  apply s.counts_count
  simp [Reg.apart, Trip.stat, Trip.int]

/-- A trunk with nothing to send sends nothing. -/
theorem State.trunkPump_empty {s : State} {j : Nat} (h : s.fwd.trunkq.lookD j [] = []) : s.trunkPump j = s := by
  rw [State.trunkPump, h]
  rfl

/-! ### LN_STAT.DOZE -/

/-- LN_STAT.DOZE of one lane. -/
def State.dozeLane (on : Bool) (s : State) (l : Nat × Nat) : State := s.setB F.LN_STAT_DOZE [l.1, l.2] on

theorem State.dozeLanes_eq (s : State) (p : Nat) (on : Bool) : s.dozeLanes p on = (s.lanesOf p).foldl (State.dozeLane on) s := rfl

section
variable (on : Bool) (ls : List (Nat × Nat)) (s : State)

theorem State.only_foldl_dozeLane : s.only (ls.foldl (State.dozeLane on) s) (ls.map (fun l => ⟨.LN_STAT, [l.1, l.2]⟩)) [] := by
  induction ls generalizing s with
  | nil => exact s.only_refl _ _
  | cons l ls ih => exact State.only_trans (s.only_set _ _ _) (ih _)

theorem State.foldl_dozeLane_sent : (ls.foldl (State.dozeLane on) s).sent = s.sent := by
  induction ls generalizing s with
  | nil => rfl
  | cons l ls ih => exact ih _

theorem State.get_foldl_dozeLane (a : Nat × Nat) :
    (ls.foldl (State.dozeLane on) s).get F.LN_STAT_DOZE [a.1, a.2] = if a ∈ ls then bit on else s.get F.LN_STAT_DOZE [a.1, a.2] := by
  induction ls generalizing s with
  | nil => simp
  | cons l ls ih =>
    rw [List.foldl_cons, ih]
    by_cases ha : a = l
    · subst ha
      simp [State.dozeLane, State.get_setB]
    · have hne : ¬ (a.1 = l.1 ∧ a.2 = l.2) := fun h => ha (Prod.ext h.1 h.2)
      have hget : (s.dozeLane on l).get F.LN_STAT_DOZE [a.1, a.2] = s.get F.LN_STAT_DOZE [a.1, a.2] :=
        s.get_set_disj _ _ _ _ _ (.inl (by simpa using hne))
      simp [ha, hget]

end

theorem State.only_dozeLanes (s : State) (p : Nat) (on : Bool) :
    s.only (s.dozeLanes p on) ((s.lanesOf p).map (fun l => ⟨.LN_STAT, [l.1, l.2]⟩)) [] := State.only_foldl_dozeLane on _ s

@[simp] theorem State.dozeLanes_sent (s : State) (p : Nat) (on : Bool) : (s.dozeLanes p on).sent = s.sent :=
  State.foldl_dozeLane_sent on _ s

theorem State.get_dozeLanes {s : State} {p : Nat} (on : Bool) {l : Nat × Nat} (hl : l ∈ s.lanesOf p) :
    (s.dozeLanes p on).get F.LN_STAT_DOZE [l.1, l.2] = bit on := by
  rw [s.dozeLanes_eq, State.get_foldl_dozeLane, if_pos hl]

theorem State.dozeLanes_rd (s : State) (p : Nat) (on : Bool) {r : Reg} (hr : r.n ≠ .LN_STAT) : (s.dozeLanes p on).rd r = s.rd r := by
  refine (s.only_dozeLanes p on).1 r (fun h => hr ?_) (by simp)
  obtain ⟨l, -, rfl⟩ := List.mem_map.1 h
  rfl

/-! ### Into Doze and out of it -/

@[simp] theorem State.rd_lnkUp (s : State) (f : LnkSt → LnkSt) (r : Reg) : (s.lnkUp f).rd r = s.rd r := rfl

section
variable (s : State) (p : Nat)

theorem State.dozeEnter_lnk :
    (s.dozeEnter p).lnk = { s.lnk with doze := s.lnk.doze.put p s.now, dozeAsk := s.lnk.dozeAsk.filter (· != p) } := by
  rw [State.dozeEnter, (State.only_trunkCount ..).lnk, (State.only_dozeLanes ..).lnk]
  rfl

theorem State.dozeEnter_fwd : (s.dozeEnter p).fwd = s.fwd := by
  rw [State.dozeEnter, (State.only_trunkCount ..).fwd, (State.only_dozeLanes ..).fwd]
  rfl

theorem State.counts_dozeEnter : s.counts (s.dozeEnter p) ⟨.FAB_CNT, [p / 8, 11]⟩ := by
  have h := State.counts_trunkCount ((s.lnkUp (fun x => { x with doze := x.doze.put p s.now, dozeAsk := x.dozeAsk.filter (· != p) })).dozeLanes
    p true) (p / 8) 11 1
  rw [State.counts, State.dozeLanes_rd _ _ _ (by simp)] at h
  exact h

theorem State.sentGrows_dozeEnter : s.sentGrows (s.dozeEnter p) := by
  have h := State.sentGrows_count ((s.lnkUp (fun x => { x with doze := x.doze.put p s.now, dozeAsk := x.dozeAsk.filter (· != p) })).dozeLanes
    p true) ⟨.FAB_CNT, [p / 8, 11]⟩ 1 (some (.port (8 * (p / 8)) 7, 0))
  rw [State.sentGrows, State.dozeLanes_sent] at h
  exact h

theorem State.get_dozeEnter {l : Nat × Nat} (hl : l ∈ s.lanesOf p) : (s.dozeEnter p).get F.LN_STAT_DOZE [l.1, l.2] = 1 := by
  rw [State.dozeEnter, (State.only_trunkCount ..).get (by simp) (by simp [Reg.apart, Trip.stat, Trip.int])]
  exact State.get_dozeLanes true hl

theorem State.only_dozeEnd :
    (s.lnkUp (fun x => { x with doze := x.doze.del p })).only (s.dozeEnd p) ((s.lanesOf p).map (fun l => ⟨.LN_STAT, [l.1, l.2]⟩)) [] :=
  State.only_dozeLanes _ p false

theorem State.dozeEnd_lnk : (s.dozeEnd p).lnk = { s.lnk with doze := s.lnk.doze.del p } := (s.only_dozeEnd p).lnk

@[simp] theorem State.dozeEnd_fwd : (s.dozeEnd p).fwd = s.fwd := (s.only_dozeEnd p).fwd

@[simp] theorem State.dozeEnd_sent : (s.dozeEnd p).sent = s.sent := State.dozeLanes_sent _ p false

theorem State.dozeEnd_rd {r : Reg} (hr : r.n ≠ .LN_STAT) : (s.dozeEnd p).rd r = s.rd r := State.dozeLanes_rd _ p false hr

theorem State.get_dozeEnd {l : Nat × Nat} (hl : l ∈ s.lanesOf p) : (s.dozeEnd p).get F.LN_STAT_DOZE [l.1, l.2] = 0 :=
  State.get_dozeLanes false hl

end

/-! ### Wake bursts and short retrains -/

/-- A port counts in its trunk, sends a message and records that it has sent: how a wake burst or a short retrain starts (R52, R54). -/
def State.announce (s : State) (p c : Nat) (m : KMsg) : State := ((s.trunkCount (p / 8) c).emit (.kfp p m)).touch p

theorem State.shortRetrain_eq (s : State) (p : Nat) :
    s.shortRetrain p = ((s.dozeEnd p).lnkUp (fun x => { x with shortRetrain := addNew x.shortRetrain p })).announce p 14 .shortRetrain := rfl

/-- A port in Doze that need not retrain leaves it by a wake burst (R52). -/
theorem State.wake_burst {s : State} {p t : Nat} (hd : s.lnk.doze.look p = some t) (hl : s.dozeLate p = false) :
    s.wake p = (s.dozeEnd p).announce p 13 .wake := by
  simp [State.wake, hd, hl, State.announce]

section
variable (s : State) (p c : Nat) (m : KMsg)

theorem State.announce_lnk :
    (s.announce p c m).lnk = { s.lnk with lastTlp := s.lnk.lastTlp.put p ((s.trunkCount (p / 8) c).emit (.kfp p m)).now } := by
  rw [← (s.only_trunkCount (p / 8) c 1).lnk]
  rfl

theorem State.announce_fwd : (s.announce p c m).fwd = s.fwd := (s.only_trunkCount (p / 8) c 1).fwd

theorem State.announce_getLast : (s.announce p c m).sent.getLast? = some (.kfp p m) := by
  simp [State.announce, State.touch]

theorem State.counts_announce : s.counts (s.announce p c m) ⟨.FAB_CNT, [p / 8, c]⟩ := s.counts_trunkCount (p / 8) c 1

end

theorem State.counts_congr {s t u : State} {r : Reg} {n : Nat} (h : t.rd r = s.rd r) (hc : t.counts u r n) : s.counts u r n := by
  rw [State.counts, ← h]
  exact hc

/-- A dozing port is late beyond MAX_TIME, or with SRIS clocking (R54, R514). -/
theorem State.dozeLate_iff {s : State} {p t : Nat} (hd : s.lnk.doze.look p = some t) :
    s.dozeLate p = true ↔ t + s.dozeMax p < s.now ∨ s.get F.CPW_TILE_REF_MODE [p / 8 * 2] = 2 := by
  simp [State.dozeLate, hd]

/-! ### The commands -/

section
variable {s : State} {port : Fin 144} (hs : s.sealed = false)
include hs

theorem execDozeIdleTimeout_idle (hidle : 0 < s.get F.PT_DOZE_IDLE_TIME [port.val / 4, port.val % 4])
    (haw : s.awake (port.val / 8) (port.val % 8) = true) (hanc : s.anchor (port.val / 8) ≠ some (port.val % 8))
    (hask : port.val ∉ s.lnk.dozeAsk) (hq : s.memQueued (port.val / 8) (port.val % 8) = 0)
    (ht : s.lnk.lastTlp.lookD port.val 0 + min 1000 (s.get F.PT_DOZE_IDLE_TIME [port.val / 4, port.val % 4]) * 1000 ≤ s.now) :
    execDozeIdleTimeout port s = .next ((s.lnkUp (fun x => { x with dozeAsk := addNew x.dozeAsk port.val })).emit
      (.kfp port.val (.doze (port.val % 8) false))) := by
  rw [execDozeIdleTimeout, s.live_next _ hs]
  exact congrArg _ (if_pos ⟨by omega, haw, hanc, hask, hq, ht⟩)

theorem execDozeIdleTimeout_early
    (ht : s.now < s.lnk.lastTlp.lookD port.val 0 + min 1000 (s.get F.PT_DOZE_IDLE_TIME [port.val / 4, port.val % 4]) * 1000) :
    execDozeIdleTimeout port s = .next s := by
  rw [execDozeIdleTimeout, s.live_next _ hs]
  exact congrArg _ (if_neg (fun h => Nat.not_le_of_lt ht h.2.2.2.2.2))

theorem execDozeMarker_partner (haw : s.awake (port.val / 8) (port.val % 8) = true) (hask : port.val ∉ s.lnk.dozeAsk)
    (hanc : s.anchor (port.val / 8) ≠ some (port.val % 8)) (hq : s.memQueued (port.val / 8) (port.val % 8) = 0) :
    execDozeMarker port false s = .next ((s.emit (.kfp port.val (.doze (port.val % 8) true))).dozeEnter port.val) := by
  simp [execDozeMarker, s.live_next _ hs, haw, hask, hanc, hq]

theorem execDozeMarker_reply (haw : s.awake (port.val / 8) (port.val % 8) = true) (hask : port.val ∈ s.lnk.dozeAsk) :
    execDozeMarker port true s = .next (s.dozeEnter port.val) := by
  simp [execDozeMarker, s.live_next _ hs, haw, hask]

theorem execDozeMarker_anchor (hask : port.val ∉ s.lnk.dozeAsk) (hanc : s.anchor (port.val / 8) = some (port.val % 8)) :
    execDozeMarker port false s = .next s := by
  simp [execDozeMarker, s.live_next _ hs, hask, hanc]

theorem execWakeBurst_partner {t : Nat} (hd : s.lnk.doze.look port.val = some t) (hq : s.fwd.trunkq.lookD (port.val / 8) [] = []) :
    execWakeBurst port false s = .next ((s.dozeEnd port.val).touch port.val) := by
  have hq' : ((s.dozeEnd port.val).touch port.val).fwd.trunkq.lookD (port.val / 8) [] = [] := by
    rwa [← s.dozeEnd_fwd port.val] at hq
  simp [execWakeBurst, s.live_next _ hs, hd, State.trunkPump_empty hq']

theorem execWakeBurst_mine {t : Nat} (hd : s.lnk.doze.look port.val = some t) (hl : s.dozeLate port.val = false)
    (hq : s.fwd.trunkq.lookD (port.val / 8) [] = []) :
    execWakeBurst port true s = .next ((s.dozeEnd port.val).announce port.val 13 .wake) := by
  have hq' : ((s.dozeEnd port.val).announce port.val 13 .wake).fwd.trunkq.lookD (port.val / 8) [] = [] := by
    rwa [State.announce_fwd, State.dozeEnd_fwd]
  simp [execWakeBurst, s.live_next _ hs, State.wake_burst hd hl, State.trunkPump_empty hq']

theorem execDozeMaxTime_late {t : Nat} (hd : s.lnk.doze.look port.val = some t) (hl : s.dozeLate port.val = true) :
    execDozeMaxTime port s = .next (s.shortRetrain port.val) := by
  simp [execDozeMaxTime, s.live_next _ hs, hd, hl]

theorem execDozeMaxTime_early (hl : s.dozeLate port.val = false) : execDozeMaxTime port s = .next s := by
  simp [execDozeMaxTime, s.live_next _ hs, hl]

theorem execShortRetrainDone_running (hr : port.val ∈ s.lnk.shortRetrain) (hq : s.fwd.trunkq.lookD (port.val / 8) [] = []) :
    execShortRetrainDone port s =
      .next ((s.lnkUp (fun x => { x with shortRetrain := x.shortRetrain.filter (· != port.val) })).touch port.val) := by
  rw [execShortRetrainDone, s.live_next _ hs]
  exact congrArg _ ((if_pos hr).trans (State.trunkPump_empty hq))

end

/-- Settles O33, command by command: each one's effect is an entry into Doze, an end of Doze, or an end that is announced to the partner. -/
theorem trunkDoze : Obligations.trunk_doze := by
  unfold Obligations.trunk_doze
  refine ⟨?idle, ?notIdle, ?partner, ?reply, ?anchor, ?partnerWakes, ?wakes, ?late, ?notLate, ?retrained⟩
  case idle =>
    intro s port hs hidle haw hanc hask hq ht
    refine ⟨_, execDozeIdleTimeout_idle hs hidle haw hanc hask hq ht, ?_⟩
    rw [← addNew_of_not_mem hask]
    rfl
  case notIdle =>
    intro s port hs ht
    exact ⟨_, execDozeIdleTimeout_early hs ht, rfl⟩
  case partner =>
    intro s port hs haw hask hanc hq
    refine ⟨_, execDozeMarker_partner hs haw hask hanc hq, ?_, ?_, fun l hl => State.get_dozeEnter _ _ hl,
      State.counts_congr (s.rd_emit ..) (State.counts_dozeEnter ..), State.dozeEnter_fwd _ _⟩
    · rw [State.dozeEnter_lnk]
      exact AMap.look_put_same ..
    · obtain ⟨l, hl⟩ := State.sentGrows_dozeEnter (s.emit (.kfp port.val (.doze (port.val % 8) true))) port.val
      simp [hl]
  case reply =>
    intro s port hs haw hask
    refine ⟨_, execDozeMarker_reply hs haw hask, ?_, ?_, s.counts_dozeEnter _, s.dozeEnter_fwd _⟩
    · rw [s.dozeEnter_lnk]
      exact AMap.look_put_same ..
    · simp [s.dozeEnter_lnk]
  case anchor =>
    intro s port hs hask hanc
    exact ⟨_, execDozeMarker_anchor hs hask hanc, rfl⟩
  case partnerWakes =>
    intro s port t hs hd hq
    refine ⟨_, execWakeBurst_partner hs hd hq, ?_, fun l hl => s.get_dozeEnd _ hl, s.dozeEnd_sent _, s.dozeEnd_fwd _, (s.only_dozeEnd _).1⟩
    have h : (s.dozeEnd port.val).lnk.doze.look port.val = none := by simp [s.dozeEnd_lnk]
    exact h
  case wakes =>
    intro s port t hs hd hl hq
    refine ⟨_, execWakeBurst_mine hs hd hl hq, ?_, State.announce_getLast .., ?_, ?_⟩
    · simp [State.announce_lnk, s.dozeEnd_lnk]
    · exact State.counts_congr (s.dozeEnd_rd _ (by simp)) (State.counts_announce ..)
    · rw [State.announce_fwd, s.dozeEnd_fwd]
  case late =>
    intro s port t hs hd ht
    refine ⟨_, execDozeMaxTime_late hs hd ((State.dozeLate_iff hd).2 (.inl ht)), ?_, ?_, ?_, ?_, ?_⟩
    all_goals rw [s.shortRetrain_eq]
    · simp [State.announce_lnk, s.dozeEnd_lnk]
    · rw [State.announce_lnk]
      exact mem_addNew _ _
    · exact State.announce_getLast ..
    · exact State.counts_congr ((State.rd_lnkUp ..).trans (s.dozeEnd_rd _ (by simp))) (State.counts_announce ..)
    · rw [State.announce_fwd, State.lnkUp_fwd, s.dozeEnd_fwd]
  case notLate =>
    intro s port t hs hd ht hmode
    refine ⟨_, execDozeMaxTime_early hs ?_, rfl⟩
    rw [← Bool.not_eq_true, State.dozeLate_iff hd]
    exact fun h => h.elim (Nat.not_lt_of_le ht) hmode
  case retrained =>
    intro s port hs hr hq
    exact ⟨_, execShortRetrainDone_running hs hr hq, by simp [State.touch], rfl, rfl⟩

end Sys2Proof.Machine
end

section
/-!
SUPPORT. The rules that the statements about ports share: registers that no triple holds, fields of a port's registers, events that stay raised,
and frames in which the records of links, faults and the journal move too.
-/

namespace Sys2Proof.Machine

/-! ### Registers that belong to no triple -/

/-- The registers of the triples that ports, tiles and routers raise, and the pending bits of the message table. -/
def tripNames : List RN :=
  [.PT_PLINK_STAT, .PT_PINTEGRITY_STAT, .PT_PFORWARD_STAT, .PT_PCOMPLETION_STAT, .PT_PCONTAIN_STAT, .PT_PCONGEST_STAT, .PT_PTRUNK_STAT,
   .PT_PCOUNT_STAT, .PT_TBUF_STAT, .PT_TTRK_STAT, .PT_TBANK_STAT, .PT_TLEAK_STAT, .MCL_ERR_STAT, .RTR_ERR_STAT, .SSL_ERR_STAT, .LSL_ERR_STAT,
   .GLB_ERR_STAT, .CPW_ERR_STAT, .GSV_ERR_STAT, .MGR_ERR_STAT, .SEC_ERR_STAT, .FAB_ERR_STAT, .VST_ERR_STAT, .PMG_ERR_STAT, .DMG_ERR_STAT,
   .PT_PLINK_INT, .PT_PINTEGRITY_INT, .PT_PFORWARD_INT, .PT_PCOMPLETION_INT, .PT_PCONTAIN_INT, .PT_PCONGEST_INT, .PT_PTRUNK_INT,
   .PT_PCOUNT_INT, .PT_TBUF_INT, .PT_TTRK_INT, .PT_TBANK_INT, .PT_TLEAK_INT, .MCL_ERR_INT, .RTR_ERR_INT, .SSL_ERR_INT, .LSL_ERR_INT,
   .GLB_ERR_INT, .CPW_ERR_INT, .GSV_ERR_INT, .MGR_ERR_INT, .SEC_ERR_INT, .FAB_ERR_INT, .VST_ERR_INT, .PMG_ERR_INT, .DMG_ERR_INT, .MSIX_PBA]

theorem stat_mem_tripNames (x : Trip) : x.stat.n ∈ tripNames := by
  cases x with
  | port p e => rcases e with _ | _ | _ | _ | _ | _ | _ | _ | e <;> simp [Trip.stat, tripNames]
  | tile t e => rcases e with _ | _ | _ | _ | e <;> simp [Trip.stat, tripNames]
  | _ => simp [Trip.stat, tripNames]

theorem int_mem_tripNames (x : Trip) : x.int.n ∈ tripNames := by
  cases x with
  | port p e => rcases e with _ | _ | _ | _ | _ | _ | _ | _ | e <;> simp [Trip.int, tripNames]
  | tile t e => rcases e with _ | _ | _ | _ | e <;> simp [Trip.int, tripNames]
  | _ => simp [Trip.int, tripNames]

theorem Reg.apart_of_name {r : Reg} (h : r.n ∉ tripNames) (x : Trip) : r.apart x :=
  ⟨fun e => h (e ▸ stat_mem_tripNames x), fun e => h (e ▸ int_mem_tripNames x), fun e => h (e ▸ by decide)⟩

theorem State.only.rd {s u : State} {l : List Reg} {xs : List Trip} (h : s.only u l xs) {r : Reg} (hl : r ∉ l) (hn : r.n ∉ tripNames) :
    u.rd r = s.rd r := h.1 r hl (fun x _ => r.apart_of_name hn x)

/-- A field of a port's registers that the frame does not list. -/
theorem State.only.pget {s u : State} {l : List Reg} {xs : List Trip} (h : s.only u l xs) {f : Fld} {p : Nat}
    (hl : (⟨f.reg, [p / 4, p % 4]⟩ : Reg) ∉ l) (hn : f.reg ∉ tripNames) : u.pget f p = s.pget f p :=
  h.get hl (fun x _ => Reg.apart_of_name (r := ⟨f.reg, _⟩) hn x)

theorem State.only.flt {s u : State} {l : List Reg} {xs : List Trip} (h : s.only u l xs) : u.flt = s.flt := (congrArg State.flt h.2 :)

theorem State.only.journal {s u : State} {l : List Reg} {xs : List Trip} (h : s.only u l xs) : u.journal = s.journal :=
  (congrArg State.journal h.2 :)

/-! ### Fields of a port's registers -/

section
variable (s : State) (f g : Fld) (p v : Nat)

theorem State.only_pset : s.only (s.pset f p v) [⟨f.reg, [p / 4, p % 4]⟩] [] := s.only_set _ _ _

variable {f g p v} in
theorem State.pget_pset_same (h : f.lo + f.w ≤ 64) (hv : v < 2 ^ f.w) : (s.pset f p v).pget f p = v :=
  (s.get_set_same f _ v h).trans (Nat.mod_eq_of_lt hv)

variable {f g} in
theorem State.pget_pset_disj (h : g.reg ≠ f.reg ∨ ((g.lo + g.w ≤ f.lo ∨ f.lo + f.w ≤ g.lo) ∧ g.lo + g.w ≤ 64)) :
    (s.pset f p v).pget g p = s.pget g p := by
  refine s.get_set_disj f g _ _ v (h.imp_left (fun hn e => hn ?_))
  injection e

theorem State.pget_lt : s.pget f p < 2 ^ f.w := s.get_lt _ _

theorem State.pon_iff : s.pon f p = true ↔ s.pget f p = 1 := by simp [State.pon]

@[simp] theorem State.pget_lnkUp (h : LnkSt → LnkSt) : (s.lnkUp h).pget f p = s.pget f p := rfl

end

/-- An event leaves the fields of a port's other registers alone. -/
theorem State.pget_event (s : State) (x : Trip) (b : Nat) {f : Fld} (p : Nat) (hn : f.reg ∉ tripNames) :
    (s.event x b).pget f p = s.pget f p := (s.only_event x b).pget (by simp) hn

/-! ### Events that stay raised -/

/-- An event of `s` is raised in `u`, under the mask that `s` has. -/
def State.raisedIn (s u : State) (x : Trip) (b : Nat) : Prop := s.raises u x b ∧ u.rd x.mask = s.rd x.mask

section
variable {s t u : State} {x : Trip} {b : Nat}

theorem State.raisedIn_event (s : State) (x : Trip) (b : Nat) (hm : x.mask.n ∉ tripNames) : s.raisedIn (s.event x b) x b :=
  ⟨s.raises_event x b, (s.only_event x b).rd (by simp) hm⟩

/-- Raising the same event again adds nothing. -/
theorem State.raisedIn.event (h : s.raisedIn t x b) (hm : x.mask.n ∉ tripNames) : s.raisedIn (t.event x b) x b := by
  obtain ⟨⟨hstat, -⟩, hmask⟩ := h
  obtain ⟨hstat', hint'⟩ := t.raises_event x b
  refine ⟨⟨?_, ?_⟩, ((t.only_event x b).rd (by simp) hm).trans hmask⟩
  · rw [hstat', hstat, BitVec.or_assoc, BitVec.or_self]
  · rw [hint', hmask]

/-- What leaves the three registers of the triple alone leaves its event raised. -/
theorem State.raisedIn.congr (h : s.raisedIn t x b) (hstat : u.rd x.stat = t.rd x.stat) (hint : u.rd x.int = t.rd x.int)
    (hmask : u.rd x.mask = t.rd x.mask) : s.raisedIn u x b := by
  obtain ⟨⟨hs, hi⟩, hm⟩ := h
  exact ⟨⟨hstat.trans hs, by rw [hint, hi, hstat]⟩, hmask.trans hm⟩

/-- What leaves the registers of the triple alone does so before its event as well. -/
theorem State.raisedIn.after (h : t.raisedIn u x b) {l : List Reg} (ho : s.keeps t l []) (hl : x.stat ∉ l ∧ x.mask ∉ l) : s.raisedIn u x b := by
  rw [State.raisedIn, State.raises, ho _ hl.1 (by simp), ho _ hl.2 (by simp)] at h
  exact h

theorem State.raisedIn.keeps (h : s.raisedIn t x b) {l : List Reg} {xs : List Trip} (ho : t.keeps u l xs)
    (hl : x.stat ∉ l ∧ x.int ∉ l ∧ x.mask ∉ l)
    (hx : ∀ y ∈ xs, x.stat.apart y ∧ x.int.apart y ∧ x.mask.apart y) : s.raisedIn u x b :=
  h.congr (ho _ hl.1 (fun y m => (hx y m).1)) (ho _ hl.2.1 (fun y m => (hx y m).2.1)) (ho _ hl.2.2 (fun y m => (hx y m).2.2))

end

/-! ### Frames in which the records of links, faults and the journal move -/

/-- From `s` to `u` nothing changes but the listed registers, those of the listed triples, the messages, and the records of links, faults and
the journal. -/
def State.linkOnly (s u : State) (l : List Reg) (xs : List Trip) : Prop :=
  { s with lnk := u.lnk, flt := u.flt, journal := u.journal }.only u l xs

section
variable {s t u : State} {l l' : List Reg} {xs xs' : List Trip}

theorem State.only.linkOnly (h : s.only u l xs) : s.linkOnly u l xs := by
  have e : ({ s with lnk := u.lnk, flt := u.flt, journal := u.journal } : State) = s := by rw [h.lnk, h.flt, h.journal]
  rw [State.linkOnly, e]
  exact h

theorem State.linkOnly_lnkUp (s : State) (f : LnkSt → LnkSt) : s.linkOnly (s.lnkUp f) [] [] := State.only_refl _ _ _

theorem State.only.relink (h : s.only u l xs) (k : LnkSt) (f : FltSt) (j : List JEntry) :
    ({ s with lnk := k, flt := f, journal := j } : State).only { u with lnk := k, flt := f, journal := j } l xs :=
  ⟨h.1, congrArg (fun v : State => { v with lnk := k, flt := f, journal := j }) h.2⟩

theorem State.linkOnly.trans (h : s.linkOnly t l xs) (h' : t.linkOnly u l' xs') : s.linkOnly u (l ++ l') (xs ++ xs') :=
  State.only_trans (State.only.relink h u.lnk u.flt u.journal) h'

theorem State.linkOnly.mono (h : s.linkOnly u l xs) (hl : ∀ r ∈ l, r ∈ l') (hx : ∀ x ∈ xs, x ∈ xs') : s.linkOnly u l' xs' :=
  State.only_mono h hl hx

theorem State.linkOnly.lnkUp (h : s.linkOnly t l xs) (f : LnkSt → LnkSt) : s.linkOnly (t.lnkUp f) l xs :=
  (h.trans (t.linkOnly_lnkUp f)).mono (by simp) (by simp)

/-- With the faults and the journal as they were, only the record of links moves. -/
theorem State.linkOnly.onlyLnk (h : s.linkOnly u l xs) (hf : u.flt = s.flt) (hj : u.journal = s.journal) :
    ({ s with lnk := u.lnk } : State).only u l xs := by
  rw [State.linkOnly, hf, hj] at h
  exact h

theorem State.linkOnly.keeps (h : s.linkOnly u l xs) : s.keeps u l xs := And.left h

theorem State.linkOnly.pget (h : s.linkOnly u l xs) {f : Fld} {p : Nat} (hl : (⟨f.reg, [p / 4, p % 4]⟩ : Reg) ∉ l) (hn : f.reg ∉ tripNames) :
    u.pget f p = s.pget f p := State.only.pget h hl hn

end

end Sys2Proof.Machine
end

section
/-!
SUPPORT. Lanes left out, lower rates and lane markers (R43, R50, R76, R459).
-/

namespace Sys2Proof.Machine

/-! ### Registers that a retraining writes -/

/-- PP_STAT of a port. -/
abbrev ppStat (p : Nat) : Reg := ⟨.PP_STAT, [p / 4, p % 4]⟩

/-- The registers of a port's Recovery: its PP_STAT, its Recovery counter and its leaky counter. -/
abbrev retrainRegs (p : Nat) : List Reg :=
  [ppStat p, ⟨.PT_CNT, [p / 4, p % 4, 20]⟩, ⟨.LK_TOTAL, [0, p / 4, p % 4]⟩, ⟨.LK_STAT, [0, p / 4, p % 4]⟩]

/-- The triples of a port's Recovery. -/
abbrev retrainTrips (p : Nat) : List Trip := [.port p 0, .port p 7, .tile (p / 4) 3]

/-- The link event registers of a port are of no other triple. -/
theorem link_apart (p : Nat) {y : Trip} (hy : y ∈ [Trip.port p 7, .tile (p / 4) 3]) :
    (Trip.port p 0).stat.apart y ∧ (Trip.port p 0).int.apart y ∧ (Trip.port p 0).mask.apart y := by
  simp only [List.mem_cons, List.not_mem_nil, or_false] at hy
  rcases hy with rfl | rfl <;> simp [Reg.apart, Trip.stat, Trip.int, Trip.mask]

/-! ### Leaky counters -/

/-- An event in a leaky counter of a tile changes its total, its count and the tile's triple (R456). -/
theorem State.only_leakyEvent (s : State) (n u : Nat) :
    s.only (s.leakyEvent 0 n u).1 [⟨.LK_TOTAL, [0, n, u]⟩, ⟨.LK_STAT, [0, n, u]⟩] [.tile n 3] := by
  have hcount := s.only_count ⟨.LK_TOTAL, [0, n, u]⟩ 1 (leakOvf 0 n)
  have hset (v : Nat) := State.only_trans hcount (State.only_set _ F.LK_STAT_COUNT [0, n, u] v)
  have hlast (v : Nat) := State.only_trans (State.only_trans (hset v) (State.only_set _ F.LK_STAT_LASTING [0, n, u] (bit true)))
    (State.only_event _ (.tile n 3) 0)
  refine iteInduction (motive := fun r : State × Bool => s.only r.1 _ _) (fun _ => ?_) (fun _ => ?_)
  · exact State.only_mono (hlast _) (by simp) (by simp [leakOvf])
  · exact State.only_mono (hset _) (by simp) (by simp [leakOvf])

/-! ### Degrading -/

section
variable (s : State) (p : Nat)

theorem State.linkOnly_degrade : s.linkOnly (s.degrade p) [ppStat p] [.port p 0] :=
  ((State.only_trans (s.only_pset F.PP_STAT_DEGRADED p 1) (State.only_event _ (.port p 0) 2)).linkOnly).lnkUp _

theorem State.degrade_pget {f : Fld}
    (h : f.reg ≠ .PP_STAT ∨ ((f.lo + f.w ≤ 13 ∨ 14 ≤ f.lo) ∧ f.lo + f.w ≤ 64)) (hn : f.reg ∉ tripNames) :
    (s.degrade p).pget f p = s.pget f p :=
  (State.pget_event _ _ _ _ hn).trans (s.pget_pset_disj p 1 h)

theorem State.degrade_degraded : (s.degrade p).pget F.PP_STAT_DEGRADED p = 1 :=
  (State.pget_event _ _ _ _ (by decide)).trans (s.pget_pset_same (by decide) (by decide))

@[simp] theorem State.degrade_flt : (s.degrade p).flt = s.flt :=
  (State.only_event (s.pset F.PP_STAT_DEGRADED p 1) (.port p 0) 2).flt

@[simp] theorem State.degrade_journal : (s.degrade p).journal = s.journal :=
  (State.only_event (s.pset F.PP_STAT_DEGRADED p 1) (.port p 0) 2).journal

@[simp] theorem State.degrade_lnk : (s.degrade p).lnk = { s.lnk with degraded := addNew s.lnk.degraded p } := by
  rw [State.degrade, State.lnkUp_lnk, State.portEvent, (State.only_event (s.pset F.PP_STAT_DEGRADED p 1) (.port p 0) 2).lnk,
    State.pset_lnk]

end

/-! ### Steps of a link toward a new training -/

/-- What the steps of a retraining of port `p` have in common: only its own registers, triples and record of the link change; lanes left out stay
out, DEGRADED and its event stay, and the rate limit never rises, and stays where DEGRADE_EN is 0. -/
structure State.linkStep (s u : State) (p : Nat) : Prop where
  frame : s.linkOnly u (retrainRegs p) (retrainTrips p)
  flt : u.flt = s.flt
  journal : u.journal = s.journal
  badLanes : u.lnk.badLanes = s.lnk.badLanes
  degraded : s.pget F.PP_STAT_DEGRADED p = 1 → u.pget F.PP_STAT_DEGRADED p = 1
  raised : ∀ s0 : State, s0.raisedIn s (.port p 0) 2 → s0.raisedIn u (.port p 0) 2
  rateLe : u.rateLimit p ≤ s.rateLimit p
  rateEq : s.pget F.PP_CTL_DEGRADE_EN p = 0 → u.rateLimit p = s.rateLimit p

section
variable {s t u : State} {p : Nat}

/-- The control fields of the port stay. -/
theorem State.linkStep.ctl (h : s.linkStep u p) {f : Fld} (hf : f.reg = .PP_CTL) : u.pget f p = s.pget f p :=
  h.frame.pget (by simp [hf]) (by rw [hf]; decide)

theorem State.linkStep.trans (h : s.linkStep t p) (h' : t.linkStep u p) : s.linkStep u p where
  frame := (h.frame.trans h'.frame).mono (by simp) (by simp)
  flt := h'.flt.trans h.flt
  journal := h'.journal.trans h.journal
  badLanes := h'.badLanes.trans h.badLanes
  degraded hd := h'.degraded (h.degraded hd)
  raised s0 hr := h'.raised s0 (h.raised s0 hr)
  rateLe := h'.rateLe.trans h.rateLe
  rateEq he := (h'.rateEq ((h.ctl rfl).trans he)).trans (h.rateEq he)

theorem State.rateLimit_congr (hctl : u.pget F.PP_CTL_RATE_MAX p = s.pget F.PP_CTL_RATE_MAX p) (hcap : u.lnk.rateCap = s.lnk.rateCap) :
    u.rateLimit p = s.rateLimit p := by
  rw [State.rateLimit, State.rateLimit, hctl, hcap]

/-- Counters, and the fields of PP_STAT but DEGRADED. -/
theorem State.linkStep_of_only {l : List Reg} {xs : List Trip} (h : s.only u l xs) (hl : ∀ r ∈ l, r ∈ retrainRegs p)
    (hx : ∀ x ∈ xs, x ∈ [Trip.port p 7, .tile (p / 4) 3]) (hd : u.pget F.PP_STAT_DEGRADED p = s.pget F.PP_STAT_DEGRADED p) :
    s.linkStep u p where
  frame := h.linkOnly.mono hl (fun x m => List.mem_cons_of_mem _ (hx x m))
  flt := h.flt
  journal := h.journal
  badLanes := by rw [h.lnk]
  degraded := hd.trans
  raised s0 hr := by
    have hlink : ∀ r ∈ retrainRegs p, r.n ∉ [RN.PT_PLINK_STAT, .PT_PLINK_INT, .PT_PLINK_MASK] := by simp
    exact hr.keeps h.1 ⟨fun m => hlink _ (hl _ m) (by simp [Trip.stat]), fun m => hlink _ (hl _ m) (by simp [Trip.int]),
      fun m => hlink _ (hl _ m) (by simp [Trip.mask])⟩ (fun y m => link_apart p (hx y m))
  rateLe := (State.rateLimit_congr (h.pget (fun m => by simpa using hl _ m) (by decide)) (by rw [h.lnk])).le
  rateEq _ := State.rateLimit_congr (h.pget (fun m => by simpa using hl _ m) (by decide)) (by rw [h.lnk])

/-- An update of the record of links that keeps the lanes left out and does not raise the cap. -/
theorem State.linkStep_lnkUp (s : State) (p : Nat) (f : LnkSt → LnkSt) (hb : (f s.lnk).badLanes = s.lnk.badLanes)
    (hle : (s.lnkUp f).rateLimit p ≤ s.rateLimit p) (heq : s.pget F.PP_CTL_DEGRADE_EN p = 0 → (s.lnkUp f).rateLimit p = s.rateLimit p) :
    s.linkStep (s.lnkUp f) p where
  frame := (s.linkOnly_lnkUp f).mono (by simp) (by simp)
  flt := rfl
  journal := rfl
  badLanes := hb
  degraded := id
  raised _ hr := hr
  rateLe := hle
  rateEq := heq

theorem State.linkStep_degrade (s : State) (p : Nat) : s.linkStep (s.degrade p) p where
  frame := (s.linkOnly_degrade p).mono (by simp) (by simp)
  flt := s.degrade_flt p
  journal := s.degrade_journal p
  badLanes := by rw [s.degrade_lnk]
  degraded _ := s.degrade_degraded p
  raised s0 hr := by
    have h := hr.keeps (s.only_pset F.PP_STAT_DEGRADED p 1).1 (by simp [Trip.stat, Trip.int, Trip.mask]) (by simp)
    exact h.event (by simp [Trip.mask, tripNames])
  rateLe := (State.rateLimit_congr (s.degrade_pget p (by decide) (by decide)) (by rw [s.degrade_lnk])).le
  rateEq _ := State.rateLimit_congr (s.degrade_pget p (by decide) (by decide)) (by rw [s.degrade_lnk])

end

section
variable (s : State) (p : Nat)

theorem State.rateLimit_degrade : (s.degrade p).rateLimit p = s.rateLimit p :=
  State.rateLimit_congr (s.degrade_pget p (by decide) (by decide)) (by rw [s.degrade_lnk])

/-- The port's next training is one rate lower. -/
def State.capOne (s : State) (p : Nat) : State :=
  (s.degrade p).lnkUp (fun x => { x with rateCap := x.rateCap.put p (s.rateLimit p - 1) })

theorem State.capRate_eq : s.capRate p = if s.pon F.PP_CTL_DEGRADE_EN p then s.capOne p else s.degrade p := rfl

theorem State.rateLimit_capOne : (s.capOne p).rateLimit p = s.rateLimit p - 1 := by
  have hctl : (s.capOne p).pget F.PP_CTL_RATE_MAX p = s.pget F.PP_CTL_RATE_MAX p := s.degrade_pget p (by decide) (by decide)
  have hcap : (s.capOne p).lnk.rateCap.lookD p 6 = s.rateLimit p - 1 := AMap.lookD_put_same ..
  have hle : s.rateLimit p ≤ min 6 (s.pget F.PP_CTL_RATE_MAX p) := Nat.min_le_left _ _
  rw [State.rateLimit, hctl, hcap]
  omega

theorem State.linkStep_capRate : s.linkStep (s.capRate p) p := by
  rw [s.capRate_eq]
  split
  next hen =>
    refine (s.linkStep_degrade p).trans (State.linkStep_lnkUp _ p _ rfl ?_ (fun h0 => ?_))
    · exact (s.rateLimit_capOne p).trans_le ((Nat.sub_le _ _).trans (s.rateLimit_degrade p).ge)
    · rw [s.degrade_pget p (by decide) (by decide), (s.pon_iff _ p).1 hen] at h0
      exact absurd h0 (by decide)
  next => exact s.linkStep_degrade p

/-- A Recovery of a PCIe port is counted, and may lower the rate (R459). -/
theorem State.linkStep_recoveryLeak : s.linkStep (s.recoveryLeak p) p := by
  have honly := s.only_leakyEvent (p / 4) (p % 4)
  have hleak : s.linkStep (s.leakyEvent 0 (p / 4) (p % 4)).1 p :=
    State.linkStep_of_only honly (by simp) (by simp) (honly.pget (by simp) (by decide))
  unfold State.recoveryLeak
  split
  · exact State.linkStep_of_only (s.only_refl [] []) (by simp) (by simp) rfl
  · split <;> rename_i heq <;> rw [heq] at hleak
    · exact hleak.trans (State.linkStep_capRate _ p)
    · exact hleak

/-- Of PP_STAT a lower rate or a Recovery's count changes DEGRADED alone. -/
theorem State.capRate_pget {f : Fld} (h : f.reg ≠ .PP_STAT ∨ ((f.lo + f.w ≤ 13 ∨ 14 ≤ f.lo) ∧ f.lo + f.w ≤ 64))
    (hn : f.reg ∉ tripNames) :
    (s.capRate p).pget f p = s.pget f p := by
  rw [s.capRate_eq]
  split <;> exact s.degrade_pget p h hn

theorem State.recoveryLeak_pget {f : Fld} (h : f.reg = .PP_STAT ∧ (f.lo + f.w ≤ 13 ∨ 14 ≤ f.lo) ∧ f.lo + f.w ≤ 64) :
    (s.recoveryLeak p).pget f p = s.pget f p := by
  have hn : f.reg ∉ tripNames := by rw [h.1]; decide
  have hleak : (s.leakyEvent 0 (p / 4) (p % 4)).1.pget f p = s.pget f p := (s.only_leakyEvent (p / 4) (p % 4)).pget (by simp [h.1]) hn
  unfold State.recoveryLeak
  split
  · rfl
  · split <;> rename_i heq <;> rw [heq] at hleak
    · exact (State.capRate_pget _ p (.inr h.2) hn).trans hleak
    · exact hleak

/-! ### Retraining -/

/-- Margining on the lanes of a port ends (R63). -/
def State.endMargin (s : State) (p : Nat) : State :=
  s.lnkUp (fun x => { x with margin := x.margin.filter (fun l => s.portOfLane l.1 l.2 != some p) })

/-- A link that is up enters Recovery (R75). -/
def State.enterRecovery (s : State) (p : Nat) : State :=
  (((s.endMargin p).pset F.PP_STAT_LINK_STATE p 5).pset F.PP_STAT_WIDTH p 0).portCount p 20

theorem State.linkStep_endMargin : s.linkStep (s.endMargin p) p := State.linkStep_lnkUp s p _ rfl le_rfl (fun _ => rfl)

theorem State.linkStep_pset {f : Fld} (v : Nat) (h : f.reg = .PP_STAT ∧ (f.lo + f.w ≤ 13 ∨ 14 ≤ f.lo)) : s.linkStep (s.pset f p v) p :=
  State.linkStep_of_only (s.only_pset f p v) (by simp [h.1]) (by simp)
    (s.pget_pset_disj p v (.inr ⟨by dsimp only; omega, by decide⟩))

theorem State.only_portCount (c n : Nat) : s.only (s.portCount p c n) [⟨.PT_CNT, [p / 4, p % 4, c]⟩] [.port p 7] :=
  s.only_count _ n (some (.port p 7, 0))

theorem State.linkStep_enterRecovery : s.linkStep (s.enterRecovery p) p := by
  have hcnt (t : State) : t.linkStep (t.portCount p 20) p :=
    State.linkStep_of_only (t.only_portCount p 20 1) (by simp) (by simp) ((t.only_portCount p 20 1).pget (by simp) (by decide))
  exact (((s.linkStep_endMargin p).trans (State.linkStep_pset _ p 5 (by simp))).trans (State.linkStep_pset _ p 0 (by simp))).trans (hcnt _)

theorem State.enterRecovery_state : (s.enterRecovery p).pget F.PP_STAT_LINK_STATE p = 5 ∧ (s.enterRecovery p).pget F.PP_STAT_WIDTH p = 0 := by
  have hcnt (t : State) {f : Fld} (hf : f.reg = .PP_STAT) : (t.portCount p 20).pget f p = t.pget f p :=
    (t.only_portCount p 20 1).pget (by simp [hf]) (by rw [hf]; decide)
  rw [State.enterRecovery, hcnt _ rfl, hcnt _ rfl, State.pget_pset_disj _ _ _ (by decide)]
  exact ⟨State.pget_pset_same _ (by decide) (by decide), State.pget_pset_same _ (by decide) (by decide)⟩

/-- A link that is up goes to Recovery, counted where it was in L0; one in Detect or Training trains again (R75, R77, R459). -/
theorem State.retrain_eq : s.retrain p =
    if s.pget F.PP_STAT_LINK_STATE p ∈ [3, 4, 6] then
      (s.enterRecovery p).when (s.pget F.PP_STAT_LINK_STATE p != 6) (·.recoveryLeak p)
    else if s.pget F.PP_STAT_LINK_STATE p ∈ [1, 2] then (s.endMargin p).pset F.PP_STAT_LINK_STATE p 2
    else s.endMargin p := by
  simp only [List.mem_cons, List.not_mem_nil, or_false]
  rfl

theorem State.linkStep_retrain : s.linkStep (s.retrain p) p := by
  rw [s.retrain_eq]
  split
  · unfold State.when
    split
    · exact (s.linkStep_enterRecovery p).trans (State.linkStep_recoveryLeak _ p)
    · exact s.linkStep_enterRecovery p
  · split
    · exact (s.linkStep_endMargin p).trans (State.linkStep_pset _ p 2 (by simp))
    · exact s.linkStep_endMargin p

/-- A link that was up is in Recovery, at width 0. -/
theorem State.retrain_up (h : s.pget F.PP_STAT_LINK_STATE p ∈ [3, 4, 6]) :
    (s.retrain p).pget F.PP_STAT_LINK_STATE p = 5 ∧ (s.retrain p).pget F.PP_STAT_WIDTH p = 0 := by
  rw [s.retrain_eq, if_pos h]
  unfold State.when
  split
  · rw [State.recoveryLeak_pget _ _ (by decide), State.recoveryLeak_pget _ _ (by decide)]
    exact s.enterRecovery_state p
  · exact s.enterRecovery_state p

end

end Sys2Proof.Machine
end

section
/-!
SUPPORT. The commands that leave a lane out, lower the rate or check lane markers (R43, R50, R76).
-/

namespace Sys2Proof.Machine

/-! ### Declarations -/

section
variable (s : State) (ty ix : Nat)

/-- A declaration changes the fault records, the journal, its SEQ and the count of waiting declarations. -/
theorem State.linkOnly_declare : s.linkOnly (s.declare ty ix) [⟨.MGR_JNL_SEQ, []⟩, ⟨.GSV_DEG, []⟩] [] := by
  unfold State.declare
  split
  · exact (s.only_refl _ _).linkOnly
  · refine ⟨fun r hr _ => ?_, rfl⟩
    simp only [List.mem_cons, List.not_mem_nil, or_false, not_or] at hr
    obtain ⟨hseq, hdeg⟩ := hr
    exact (State.rd_set_ne _ F.GSV_DEG_QUEUED [] _ hdeg).trans (s.journalAdd_rd_ne _ _ _ _ _ _ hseq)

theorem State.declare_lnk : (s.declare ty ix).lnk = s.lnk := (congrArg State.lnk (s.declare_rest ty ix) :)

end

/-! ### Lanes left out -/

section
variable (s : State) (t k p : Nat)

/-- A lane is left out of its port and declared, before the port retrains (R76). -/
def State.leaveOut : State := ((s.lnkUp (fun x => { x with badLanes := addNew x.badLanes (t, k) })).degrade p).declare 7 (8 * t + k)

variable {s t k p} in
/-- A lane that its port still uses is left out, and the port retrains. -/
theorem State.dropLane_of_used (hp : s.portOfLane t k = some p) (hb : (t, k) ∉ s.lnk.badLanes) :
    s.dropLane t k = (s.leaveOut t k p).retrain p := by
  simp [State.dropLane, hp, hb, State.leaveOut]

theorem State.linkOnly_leaveOut : s.linkOnly (s.leaveOut t k p) [ppStat p, ⟨.MGR_JNL_SEQ, []⟩, ⟨.GSV_DEG, []⟩] [.port p 0] :=
  (((s.linkOnly_lnkUp _).trans (State.linkOnly_degrade _ p)).trans (State.linkOnly_declare _ 7 (8 * t + k))).mono (by simp) (by simp)

theorem State.leaveOut_badLanes : (s.leaveOut t k p).lnk.badLanes = addNew s.lnk.badLanes (t, k) := by
  rw [State.leaveOut, State.declare_lnk, State.degrade_lnk]
  rfl

theorem State.leaveOut_degraded : (s.leaveOut t k p).pget F.PP_STAT_DEGRADED p = 1 :=
  ((State.linkOnly_declare _ 7 (8 * t + k)).pget (by simp) (by decide)).trans (State.degrade_degraded _ p)

theorem State.leaveOut_state : (s.leaveOut t k p).pget F.PP_STAT_LINK_STATE p = s.pget F.PP_STAT_LINK_STATE p :=
  ((State.linkOnly_declare _ 7 (8 * t + k)).pget (by simp) (by decide)).trans (State.degrade_pget _ p (by decide) (by decide))

theorem State.raisedIn_degrade : s.raisedIn (s.degrade p) (.port p 0) 2 :=
  have h := (s.pset F.PP_STAT_DEGRADED p 1).raisedIn_event (.port p 0) 2 (by simp [Trip.mask, tripNames])
  h.after (s.only_pset F.PP_STAT_DEGRADED p 1).1 (by simp [Trip.stat, Trip.mask])

theorem State.raisedIn_leaveOut : s.raisedIn (s.leaveOut t k p) (.port p 0) 2 := by
  have h := State.raisedIn_degrade (s.lnkUp (fun x => { x with badLanes := addNew x.badLanes (t, k) })) p
  exact h.keeps (State.linkOnly_declare _ 7 (8 * t + k)).keeps (by simp [Trip.stat, Trip.int, Trip.mask]) (by simp)

theorem State.leaveOut_failed : (7, 8 * t + k) ∈ (s.leaveOut t k p).flt.failed := State.declare_failed _ 7 _

variable {t k} in
theorem State.leaveOut_queue (h : (7, 8 * t + k) ∉ s.flt.failed) : (s.leaveOut t k p).flt.queue = s.flt.queue ++ [(7, 8 * t + k)] := by
  rw [State.leaveOut, State.declare_queue (by rwa [State.degrade_flt]), State.degrade_flt]
  rfl

end

/-! ### Lower rates -/

section
variable (s : State) (p : Nat)

theorem State.capRate_degraded : (s.capRate p).pget F.PP_STAT_DEGRADED p = 1 := by
  rw [s.capRate_eq]
  split <;> exact s.degrade_degraded p

theorem State.raisedIn_capRate : s.raisedIn (s.capRate p) (.port p 0) 2 := by
  rw [s.capRate_eq]
  split <;> exact s.raisedIn_degrade p

variable {s p} in
theorem State.rateLimit_capRate (hen : s.pget F.PP_CTL_DEGRADE_EN p = 1) : (s.capRate p).rateLimit p = s.rateLimit p - 1 := by
  rw [s.capRate_eq, if_pos ((s.pon_iff _ p).2 hen), s.rateLimit_capOne]

theorem State.linkStep_lowerRate : s.linkStep (s.lowerRate p) p := (s.linkStep_capRate p).trans (State.linkStep_retrain _ p)

end

/-! ### The commands -/

section
variable {s : State} (hs : s.sealed = false)
include hs

theorem execLaneTrainFail_used {t : Fin 36} {k : Fin 8} {p : Nat} (hp : s.portOfLane t.val k.val = some p)
    (hb : (t.val, k.val) ∉ s.lnk.badLanes) : execLaneTrainFail t k s = .next ((s.leaveOut t.val k.val p).retrain p) := by
  rw [execLaneTrainFail, s.live_next _ hs, State.dropLane_of_used hp hb]

theorem execEqFail_enabled {port : Fin 144} (hen : s.pget F.PP_CTL_ENABLE port.val = 1) :
    execEqFail port s = .next (s.lowerRate port.val) := by
  rw [execEqFail, s.live_next _ hs, if_pos ((s.pon_iff _ _).2 hen)]

section
variable {t : Fin 36} {k : Fin 8} {p : Nat} (lane width dev portNo : Fin 256) (hp : s.portOfLane t.val k.val = some p) (hrole : s.role p = 2)
  (hen : s.pget F.PP_CTL_ENABLE p = 1)
include hp hrole hen

/-- A bad marker before the eighth in a row is counted (R50). -/
theorem execLaneMarkerReceived_bad (h7 : s.lnk.badMarks.lookD (t.val, k.val) 0 ≠ 7) :
    execLaneMarkerReceived t k lane width dev portNo false s = .next ((s.lnkUp (fun x => { x with
      badMarks := x.badMarks.put (t.val, k.val) (s.lnk.badMarks.lookD (t.val, k.val) 0 + 1) })).trunkCount (p / 8) 9) := by
  simp [execLaneMarkerReceived, s.live_next _ hs, State.laneMarker, hp, hrole, s.pon_iff, hen, h7]

/-- The first good marker that fits an order of R43 names the partner. -/
theorem execLaneMarkerReceived_first {t0 k0 : Nat} {rest : List (Nat × Nat)} (hl : s.lanesOf p = (t0, k0) :: rest) (hm : s.lnk.mark.look p = none)
    (hfit : lane.val = 8 * t.val + k.val - (8 * t0 + k0) ∨ lane.val + (8 * t.val + k.val - (8 * t0 + k0)) + 1 = width.val) :
    execLaneMarkerReceived t k lane width dev portNo true s = .next ((s.lnkUp (fun x => { x with
      badMarks := x.badMarks.del (t.val, k.val) })).lnkUp (fun x => { x with mark := x.mark.put p (dev.val, portNo.val) })) := by
  simp [execLaneMarkerReceived, s.live_next _ hs, State.laneMarker, hp, hrole, s.pon_iff, hen, hl, hm, hfit]

/-- A good marker that names another partner is a miswire (R50). -/
theorem execLaneMarkerReceived_other {m : Nat × Nat} (hm : s.lnk.mark.look p = some m) (hne : m ≠ (dev.val, portNo.val)) :
    execLaneMarkerReceived t k lane width dev portNo true s =
      .next ((s.lnkUp (fun x => { x with badMarks := x.badMarks.del (t.val, k.val) })).miswire p t.val k.val) := by
  simp [execLaneMarkerReceived, s.live_next _ hs, State.laneMarker, hp, hrole, s.pon_iff, hen, hm, hne]

end

end

section
variable (s : State) (p t k : Nat)

/-- A miswire is marked on its lane and raised; training stops unless the link is up (R50). -/
theorem State.miswire_eq : s.miswire p t k = ((s.setB F.LN_STAT_MISWIRE [t, k] true).event (.port p 0) 4).when (!s.inL0 p)
    (·.pset F.PP_STAT_LINK_STATE p 1) := by
  unfold State.miswire
  cases s.inL0 p <;> rfl

theorem State.only_stopTraining (c : Bool) : s.only (s.when c (·.pset F.PP_STAT_LINK_STATE p 1)) [ppStat p] [] :=
  s.only_when c (·.pset F.PP_STAT_LINK_STATE p 1) (s.only_pset _ p 1)

theorem State.only_miswire : s.only (s.miswire p t k) [⟨.LN_STAT, [t, k]⟩, ppStat p] [.port p 0] := by
  rw [s.miswire_eq]
  have h := State.only_trans (State.only_trans (s.only_set F.LN_STAT_MISWIRE [t, k] (bit true)) (State.only_event _ (.port p 0) 4))
    (State.only_stopTraining _ p (!s.inL0 p))
  exact State.only_mono h (by simp) (by simp)

theorem State.miswire_miswire : (s.miswire p t k).get F.LN_STAT_MISWIRE [t, k] = 1 := by
  rw [s.miswire_eq, (State.only_stopTraining _ p _).get (by simp) (by simp),
    (State.only_event _ (.port p 0) 4).get (by simp) (fun x _ => Reg.apart_of_name (by simp [tripNames]) x)]
  exact s.get_setB _ _ _ (by simp) (by simp)

theorem State.raises_miswire : s.raises (s.miswire p t k) (.port p 0) 4 := by
  have hev := (s.setB F.LN_STAT_MISWIRE [t, k] true).raisedIn_event (.port p 0) 4 (by simp [Trip.mask, tripNames])
  have h := hev.after (s.only_set F.LN_STAT_MISWIRE [t, k] (bit true)).1 (by simp [Trip.stat, Trip.mask])
  rw [s.miswire_eq]
  exact (h.keeps (State.only_stopTraining _ p (!s.inL0 p)).1 (by simp [Trip.stat, Trip.int, Trip.mask]) (by simp)).1

variable {s p} in
theorem State.miswire_state (h : s.inL0 p = false) : (s.miswire p t k).pget F.PP_STAT_LINK_STATE p = 1 := by
  rw [s.miswire_eq, h]
  exact State.pget_pset_same _ (by decide) (by decide)

end

/-- Settles O12, command by command: a lane that fails is left out before the port retrains, a failed equalization lowers the rate before it does,
and a marker is counted, names the partner, or is a miswire. -/
theorem lanesLeftOutAndMiswired : Obligations.lanes_left_out_and_miswired := by
  unfold Obligations.lanes_left_out_and_miswired
  refine ⟨?laneFails, ?eqFails, ?badMarker, ?firstMarker, ?miswire⟩
  case laneFails =>
    intro s t k p hs hp hb
    have hstep := (s.leaveOut t.val k.val p).linkStep_retrain p
    refine ⟨_, execLaneTrainFail_used hs hp hb, ?_, ?_, ?_, ?_, ?_, ?_, ?_⟩
    · rw [hstep.badLanes, s.leaveOut_badLanes]
      exact mem_addNew _ _
    · exact hstep.degraded (s.leaveOut_degraded ..)
    · exact (hstep.raised s (s.raisedIn_leaveOut ..)).1
    · rw [hstep.flt]
      exact s.leaveOut_failed ..
    · intro hf
      rw [hstep.flt]
      exact s.leaveOut_queue p hf
    · intro hst
      rw [← s.leaveOut_state t.val k.val p] at hst
      exact State.retrain_up _ p hst
    · exact ((s.linkOnly_leaveOut ..).trans hstep.frame).mono (by simp) (by simp)
  case eqFails =>
    intro s port hs hen
    have hstep := s.linkStep_lowerRate port.val
    have hretrain := (s.capRate port.val).linkStep_retrain port.val
    refine ⟨_, execEqFail_enabled hs hen, ?_, ?_, ?_, hstep.rateEq, ?_⟩
    · exact hretrain.degraded (s.capRate_degraded _)
    · exact (hretrain.raised s (s.raisedIn_capRate _)).1
    · intro hd
      exact hretrain.rateLe.trans (State.rateLimit_capRate hd).le
    · exact hstep.frame.onlyLnk hstep.flt hstep.journal
  case badMarker =>
    intro s t k lane width dev portNo p hs hp hrole hen h7
    have honly := (s.lnkUp (fun x => { x with
      badMarks := x.badMarks.put (t.val, k.val) (s.lnk.badMarks.lookD (t.val, k.val) 0 + 1) })).only_trunkCount (p / 8) 9 1
    refine ⟨_, execLaneMarkerReceived_bad hs lane width dev portNo hp hrole hen h7, ?_, ?_⟩
    · rw [honly.lnk]
      exact AMap.lookD_put_same ..
    · rw [honly.lnk]
      exact honly
  case firstMarker =>
    intro s t k lane width dev portNo p t0 k0 rest hs hp hrole hen hl hm hfit
    exact ⟨_, execLaneMarkerReceived_first hs lane width dev portNo hp hrole hen hl hm hfit, AMap.look_put_same .., AMap.lookD_del_same ..,
      State.only_refl ..⟩
  case miswire =>
    intro s t k lane width dev portNo p m hs hp hrole hen hm hne
    have honly := (s.lnkUp (fun x => { x with badMarks := x.badMarks.del (t.val, k.val) })).only_miswire p t.val k.val
    refine ⟨_, execLaneMarkerReceived_other hs lane width dev portNo hp hrole hen hm hne, ?_, ?_, ?_, ?_⟩
    · exact State.miswire_miswire _ p t.val k.val
    · exact State.raises_miswire (s.lnkUp _) p t.val k.val
    · exact fun h => State.miswire_state (s := s.lnkUp _) _ _ h
    · rw [honly.lnk]
      exact honly

end Sys2Proof.Machine
end

section
/-!
SUPPORT. A posted request on its way to a port under a hot reset (R90, R92, R265).
-/

namespace Sys2Proof.Machine

/-- A write of the host on its way to vDSP 7, queued at port 4. -/
def lateWrite : Pkt :=
  { dest := 1, src := 0, srcId := 0, egress := 4, sc := 1, kind := 0, bytes := 76, vdsp := 7,
    body := .tlp { kind := .mwr, rid := 0x100, addr := 0x1040, len := 64, data := List.replicate 64 7 } }

/-- Virtual switch 2 has upstream port 0 and, in slot 1, vDSP 7 on downstream port 4; both links are in L0. -/
def lateWriteFields : List (Fld × List Nat × Nat) :=
  [(F.PT_CUT_CUT, [0], 5), (F.PP_CTL_ENABLE, [0, 0], 1), (F.PP_STAT_LINK_STATE, [0, 0], 3), (F.PT_CUT_CUT, [1], 5), (F.PP_CTL_ENABLE, [1, 0], 1),
   (F.PP_CTL_ROLE, [1, 0], 1), (F.PP_STAT_LINK_STATE, [1, 0], 3), (F.VST_STAT_STATE, [2], 1), (F.VST_STAT_UP_PORT, [2], 0),
   (F.VST_SLOT_ALLOC, [2, 1], 1), (F.VST_SLOT_VDSP, [2, 1], 7), (F.VST_SLOT_KIND, [2, 1], 1), (F.VST_SLOT_TARGET, [2, 1], 4)]

/-- A device whose port 4 holds a posted request for the vDSP bound to it. -/
def lateWriteDevice : State :=
  { lateWriteFields.foldl (fun s f => s.set f.1 f.2.1 f.2.2) State.reset with
    fwd := { own := [(7, (2, 1))], act := [2], shq := [((4, 1), [lateWrite])] } }

theorem lateWriteDevice_sealed : lateWriteDevice.sealed = false := by decide +kernel

theorem lateWriteDevice_slotThere : lateWriteDevice.slotThere 2 1 = true := by decide +kernel

theorem lateWriteDevice_slot : lateWriteDevice.get F.VST_SLOT_KIND [2, 1] = 1 ∧ lateWriteDevice.get F.VST_SLOT_TARGET [2, 1] = 4 := by
  decide +kernel

theorem lateWriteDevice_state : lateWriteDevice.pget F.PP_STAT_LINK_STATE 4 = 3 := by decide +kernel

/-- The hot reset drops the queued write, the loss contains the vDSP, and the link ends Contained and not in Reset. -/
theorem lateWriteDevice_vdspReset : (lateWriteDevice.vdspReset 2 1).pget F.PP_STAT_LINK_STATE 4 = 9 := by decide +kernel

/-- Refutes O16: a posted request queued at the port is lost with the hot reset, which contains the vDSP and takes the link from Reset to
Contained (R92 after R90). -/
theorem not_conventionalResets : ¬ Obligations.conventional_resets := by
  unfold Obligations.conventional_resets
  rintro ⟨-, -, -, -, -, -, hphysical, -⟩
  obtain ⟨hkind, htarget⟩ := lateWriteDevice_slot
  obtain ⟨u, hexec, hstate, -⟩ := hphysical lateWriteDevice 2 1 4 lateWriteDevice_sealed lateWriteDevice_slotThere hkind
    (by exact htarget ▸ rfl) (fun e he => absurd he (List.not_mem_nil)) rfl (by rw [lateWriteDevice_state]; decide)
  have hrun : exec (.vdspSecondaryBusReset 2 1) lateWriteDevice = .next (lateWriteDevice.vdspReset 2 1) := by
    change execVdspSecondaryBusReset 2 1 lateWriteDevice = _
    rw [execVdspSecondaryBusReset, lateWriteDevice.live_next _ lateWriteDevice_sealed]
    exact congrArg _ (if_pos lateWriteDevice_slotThere)
  rw [hrun] at hexec
  injection hexec with hu
  rw [← hu, lateWriteDevice_vdspReset] at hstate
  exact absurd hstate (by decide)

end Sys2Proof.Machine
end

section
/-!
SUPPORT. Words written by the types of their fields (R6), and the forwarding tables that a state would install.
-/

namespace Sys2Proof.Machine

/-! ### Words written by the types of their fields -/

/-- No two of the fields overlap, and each lies in the word. -/
abbrev FieldsApart (fs : List FInfo) : Prop :=
  fs.Pairwise (fun f g => f.lo + f.w ≤ g.lo ∨ g.lo + g.w ≤ f.lo) ∧ ∀ f ∈ fs, f.lo + f.w ≤ 64

theorem fget_allOnes {lo w : Nat} (h : lo + w ≤ 64) : fget (BitVec.allOnes 64) lo w = 2 ^ w - 1 := by
  apply Nat.eq_of_testBit_eq
  intro j
  rw [fget_testBit, Nat.testBit_two_pow_sub_one, BitVec.getLsbD_allOnes]
  by_cases hj : j < w
  · simp [hj, show lo + j < 64 by omega]
  · simp [hj]

/-- A write that covers the whole word hands each field its own bits. -/
theorem writeWord_allOnes {fs : List FInfo} (h : ∀ f ∈ fs, f.lo + f.w ≤ 64) (locked : Bool) (old v : W64) :
    writeWord fs locked old v (BitVec.allOnes 64) =
      fs.foldl (fun acc f => fset acc f.lo f.w (f.ty.write locked (fget old f.lo f.w) (fget v f.lo f.w) f.w)) old := by
  refine List.foldl_ext _ _ _ (fun acc f hf => ?_)
  have hbits : (fget v f.lo f.w &&& (2 ^ f.w - 1)) ||| (fget old f.lo f.w &&& ((2 ^ f.w - 1) ^^^ (2 ^ f.w - 1))) = fget v f.lo f.w := by
    rw [Nat.and_two_pow_sub_one_eq_mod, Nat.mod_eq_of_lt (fget_lt v f.lo f.w), Nat.xor_self, Nat.and_zero, Nat.or_zero]
  simp only [fget_allOnes (h f hf), BitVec.and_allOnes, hbits]
  cases f.ty <;> rfl

theorem fget_foldl_fset_apart (g : FInfo → Nat) {lo w : Nat} (hlo : lo + w ≤ 64) :
    ∀ (fs : List FInfo) (acc : W64), (∀ f ∈ fs, lo + w ≤ f.lo ∨ f.lo + f.w ≤ lo) →
      fget (fs.foldl (fun acc f => fset acc f.lo f.w (g f)) acc) lo w = fget acc lo w
  | [], _, _ => rfl
  | f :: fs, acc, h => by
    rw [List.foldl_cons, fget_foldl_fset_apart g hlo fs _ (fun f' m => h f' (List.mem_cons_of_mem _ m)),
      fget_fset_disj _ _ _ _ _ _ (h f List.mem_cons_self) hlo]

theorem fget_foldl_fset (g : FInfo → Nat) {f : FInfo} :
    ∀ (fs : List FInfo) (acc : W64), FieldsApart fs → f ∈ fs →
      fget (fs.foldl (fun acc f => fset acc f.lo f.w (g f)) acc) f.lo f.w = g f % 2 ^ f.w
  | [], _, _, hf => absurd hf List.not_mem_nil
  | a :: fs, acc, ⟨hpair, h64⟩, hf => by
    obtain ⟨hhead, htail⟩ := List.pairwise_cons.1 hpair
    rcases List.mem_cons.1 hf with rfl | hm
    · rw [List.foldl_cons, fget_foldl_fset_apart g (h64 _ List.mem_cons_self) fs _ hhead, fget_fset_same _ _ _ _ (h64 _ List.mem_cons_self)]
    · exact fget_foldl_fset g fs _ ⟨htail, fun f' m => h64 f' (List.mem_cons_of_mem _ m)⟩ hm

/-- A read-write field takes the bits written (R6). -/
theorem State.get_writeTyped (s : State) (f : Fld) (ix : List Nat) {rst : Nat} (l : Bool) (v : W64)
    (hf : FieldsApart f.reg.fields ∧ ⟨f.lo, f.w, .rw, rst⟩ ∈ f.reg.fields) :
    (s.writeTyped ⟨f.reg, ix⟩ l v).get f ix = fget v f.lo f.w := by
  obtain ⟨hapart, hmem⟩ := hf
  rw [State.writeTyped, State.get_eq, State.rd_wr_same, writeWord_allOnes hapart.2, fget_foldl_fset _ _ _ hapart hmem]
  exact Nat.mod_eq_of_lt (fget_lt v f.lo f.w)

theorem State.only_writeTyped (s : State) (r : Reg) (l : Bool) (v : W64) : s.only (s.writeTyped r l v) [r] [] := s.only_wr _ _

/-- A field of one bit. -/
theorem fget_one (v : W64) (lo : Nat) : fget v lo 1 = bit (v.getLsbD lo) := by
  apply Nat.eq_of_testBit_eq
  intro j
  rw [fget_testBit]
  cases j with
  | zero => cases v.getLsbD lo <;> simp [bit]
  | succ j => cases v.getLsbD lo <;> simp [bit, Nat.testBit_succ]

/-! ### The forwarding tables that a state would install -/

/-- What is kept of a list is looked up as in the whole. -/
theorem AMap.look_filter {κ α : Type} [DecidableEq κ] (m : AMap κ α) (q : κ × α → Bool) {k : κ} (h : ∀ v, q (k, v) = true) :
    AMap.look (m.filter q) k = m.look k := by
  unfold AMap.look
  rw [List.find?_filter]
  congr 1
  refine List.find?_congr (fun e _ => ?_)
  obtain ⟨k', v⟩ := e
  by_cases hk : k' = k
  · subst hk
    simp [h]
  · simp [hk]

/-- The tables hold the fields of bindings and virtual switches. -/
theorem State.snap_get (s : State) {f : Fld} (hf : f.reg ∈ [RN.VST_STAT, .VST_TCMAP, .VST_SLOT, .VST_FB_A, .VST_FB_B]) (ix : List Nat) :
    s.snap.get f ix = s.get f ix := by
  have hlook := AMap.look_filter s.regs
    (fun e => e.1.n == .VST_STAT || e.1.n == .VST_TCMAP || e.1.n == .VST_SLOT || e.1.n == .VST_FB_A || e.1.n == .VST_FB_B)
    (k := ⟨f.reg, ix⟩) (by simpa [or_assoc] using hf)
  simp only [FwdTable.get, rmGet, State.get, rmRd, AMap.lookD, State.snap, hlook]

/-- The vDSP bound to a port depends on the fields of slots alone. -/
theorem State.portBinding_congr {s u : State} (hown : u.fwd.own = s.fwd.own)
    (h : ∀ ix, u.rd ⟨.VST_SLOT, ix⟩ = s.rd ⟨.VST_SLOT, ix⟩) (p : Nat) : u.portBinding p = s.portBinding p := by
  have hget {f : Fld} (hf : f.reg = .VST_SLOT) (ix : List Nat) : u.snap.get f ix = s.snap.get f ix := by
    rw [u.snap_get (by simp [hf]), s.snap_get (by simp [hf]), State.get_eq, State.get_eq, hf, h]
  have hown' : u.snap.own = s.snap.own := hown
  simp only [State.portBinding, FwdTable.boundTo, hown', hget]

end Sys2Proof.Machine
end

section
/-!
SUPPORT. Writes of a port's PP_CTL and PT_BUF_CFG (R66, R67, R77, R99, R170).
-/

namespace Sys2Proof.Machine

/-! ### What the end of a write of PP_CTL brings up to date -/

section
variable (s : State) (p : Nat)

theorem State.only_updPresent (j : Nat) : s.only (s.updPresent j) [⟨.FAB_TRK_STAT, [j]⟩] [] := s.only_set _ _ _

theorem State.updPerst_eq : s.updPerst p = s.lnkUp (fun x => { x with perstOut := (s.updPerst p).lnk.perstOut }) := by
  unfold State.updPerst
  split
  · split <;> rfl
  · split
    · split <;> rfl
    · rfl

/-- What a write of PP_CTL brings up to date at its end: PRESENT of the trunk and the PERST# output. -/
def State.ctlEnd : State := (s.updPresent (p / 8)).updPerst p

theorem State.ctlEnd_eq :
    s.ctlEnd p = (s.updPresent (p / 8)).lnkUp (fun x => { x with perstOut := (s.ctlEnd p).lnk.perstOut }) := State.updPerst_eq _ p

theorem State.linkOnly_ctlEnd : s.linkOnly (s.ctlEnd p) [⟨.FAB_TRK_STAT, [p / 8]⟩] [] := by
  rw [s.ctlEnd_eq p]
  exact (s.only_updPresent _).linkOnly.lnkUp _

theorem State.pget_ctlEnd {f : Fld} (hf : f.reg ≠ .FAB_TRK_STAT) (hn : f.reg ∉ tripNames) (q : Nat) : (s.ctlEnd p).pget f q = s.pget f q :=
  (s.linkOnly_ctlEnd p).pget (by simp [hf]) hn

end

/-! ### The fields of PP_CTL -/

section
variable (s : State) (p : Nat) (v : W64)

/-- The write of PP_CTL by the types of its fields. -/
def State.ctlWrite : State := s.writeTyped ⟨.PP_CTL, [p / 4, p % 4]⟩ false v

theorem State.only_ctlWrite : s.only (s.ctlWrite p v) [⟨.PP_CTL, [p / 4, p % 4]⟩] [] := s.only_wr _ _

variable {p v} in
theorem State.pget_ctlWrite {f : Fld} {rst : Nat} (hreg : f.reg = .PP_CTL) (hf : ⟨f.lo, f.w, .rw, rst⟩ ∈ RN.fields .PP_CTL) :
    (s.ctlWrite p v).pget f p = fget v f.lo f.w := by
  have h := s.get_writeTyped f [p / 4, p % 4] false v (rst := rst) ⟨by rw [hreg]; decide, by rw [hreg]; exact hf⟩
  rw [hreg] at h
  exact h

theorem State.ctlWrite_role : (s.ctlWrite p v).pget F.PP_CTL_ROLE p = fget v 1 2 := s.pget_ctlWrite (rst := 0) rfl (by decide)

theorem State.ctlWrite_rateMax : (s.ctlWrite p v).pget F.PP_CTL_RATE_MAX p = fget v 3 3 := s.pget_ctlWrite (rst := 6) rfl (by decide)

theorem State.ctlWrite_flitEn : (s.ctlWrite p v).pget F.PP_CTL_FLIT_EN p = fget v 6 1 := s.pget_ctlWrite (rst := 1) rfl (by decide)

theorem State.ctlWrite_enable : (s.ctlWrite p v).pget F.PP_CTL_ENABLE p = bit (v.getLsbD 0) :=
  (s.pget_ctlWrite (rst := 0) rfl (by decide)).trans (fget_one v 0)

theorem State.ctlWrite_lpbkLead : (s.ctlWrite p v).pget F.PP_CTL_LPBK_LEAD p = bit (v.getLsbD 7) :=
  (s.pget_ctlWrite (rst := 0) rfl (by decide)).trans (fget_one v 7)

theorem State.ctlWrite_degradeEn : (s.ctlWrite p v).pget F.PP_CTL_DEGRADE_EN p = bit (v.getLsbD 8) :=
  (s.pget_ctlWrite (rst := 1) rfl (by decide)).trans (fget_one v 8)

/-- Would the write change a field that an enabled port keeps (R66)? -/
def State.ctlDiffers : Bool :=
  fget v 1 2 != s.pget F.PP_CTL_ROLE p || fget v 3 3 != s.pget F.PP_CTL_RATE_MAX p || fget v 6 1 != s.pget F.PP_CTL_FLIT_EN p

/-- The write with ROLE, RATE_MAX and FLIT_EN kept, and refused. -/
def State.ctlRefused : State :=
  ((((s.ctlWrite p v).pset F.PP_CTL_ROLE p (s.pget F.PP_CTL_ROLE p)).pset F.PP_CTL_RATE_MAX p (s.pget F.PP_CTL_RATE_MAX p)).pset F.PP_CTL_FLIT_EN p
    (s.pget F.PP_CTL_FLIT_EN p)).cfgRefused p

theorem State.only_cfgRefused : s.only (s.cfgRefused p) [ppStat p] [.port p 0] :=
  State.only_trans (s.only_pset F.PP_STAT_CFG_REFUSED p 1) (State.only_event _ (.port p 0) 3)

theorem State.only_ctlRefused : s.only (s.ctlRefused p v) [⟨.PP_CTL, [p / 4, p % 4]⟩, ppStat p] [.port p 0] :=
  State.only_mono (State.only_trans (State.only_trans (State.only_trans (State.only_trans (s.only_ctlWrite p v) (State.only_pset _ F.PP_CTL_ROLE p _))
    (State.only_pset _ F.PP_CTL_RATE_MAX p _)) (State.only_pset _ F.PP_CTL_FLIT_EN p _)) (State.only_cfgRefused _ p)) (by simp) (by simp)

theorem State.ctlRefused_pget {f : Fld} (hreg : f.reg = .PP_CTL) (h64 : f.lo + f.w ≤ 64) (hf : 7 ≤ f.lo ∨ f.lo + f.w ≤ 1) :
    (s.ctlRefused p v).pget f p = (s.ctlWrite p v).pget f p := by
  rw [State.ctlRefused, (State.only_cfgRefused _ p).pget (by simp [hreg]) (by rw [hreg]; decide),
    State.pget_pset_disj _ _ _ (.inr ⟨by dsimp only; omega, h64⟩), State.pget_pset_disj _ _ _ (.inr ⟨by dsimp only; omega, h64⟩),
    State.pget_pset_disj _ _ _ (.inr ⟨by dsimp only; omega, h64⟩)]

theorem State.ctlRefused_kept :
    (s.ctlRefused p v).pget F.PP_CTL_ROLE p = s.pget F.PP_CTL_ROLE p ∧ (s.ctlRefused p v).pget F.PP_CTL_RATE_MAX p = s.pget F.PP_CTL_RATE_MAX p ∧
      (s.ctlRefused p v).pget F.PP_CTL_FLIT_EN p = s.pget F.PP_CTL_FLIT_EN p := by
  have hset (t : State) {f : Fld} (hf : f.lo + f.w ≤ 64) : (t.pset f p (s.pget f p)).pget f p = s.pget f p :=
    State.pget_pset_same t hf (s.pget_lt f p)
  have href (t : State) {f : Fld} (hf : f.reg = .PP_CTL) : (t.cfgRefused p).pget f p = t.pget f p :=
    (t.only_cfgRefused p).pget (by simp [hf]) (by rw [hf]; decide)
  rw [State.ctlRefused, href _ rfl, href _ rfl, href _ rfl]
  refine ⟨?_, ?_, hset _ (by decide)⟩
  · rw [State.pget_pset_disj _ _ _ (by decide), State.pget_pset_disj _ _ _ (by decide)]
    exact hset _ (by decide)
  · rw [State.pget_pset_disj _ _ _ (by decide)]
    exact hset _ (by decide)

theorem State.ctlRefused_refused : (s.ctlRefused p v).pget F.PP_STAT_CFG_REFUSED p = 1 := by
  rw [State.ctlRefused, State.cfgRefused, State.portEvent, State.pget_event _ _ _ _ (by decide)]
  exact State.pget_pset_same _ (by decide) (by decide)

theorem State.ctlRefused_event : ((s.ctlRefused p v).rd (Trip.port p 0).stat).getLsbD 3 = true := by
  rw [State.ctlRefused, State.cfgRefused, State.portEvent, State.event_rd_stat, BitVec.getLsbD_or]
  simp

end

/-- The GPIO that a port names depends on ROLE and PP_RST. -/
theorem State.perstGpio_congr {s u : State} {p : Nat} (hrole : u.pget F.PP_CTL_ROLE p = s.pget F.PP_CTL_ROLE p)
    (h : u.rd ⟨.PP_RST, [p / 4, p % 4]⟩ = s.rd ⟨.PP_RST, [p / 4, p % 4]⟩) : u.perstGpio p = s.perstGpio p := by
  have hrst {f : Fld} (hf : f.reg = .PP_RST) : u.pget f p = s.pget f p := by
    rw [State.pget, State.get_eq, hf, h, ← hf]
    rfl
  rw [State.perstGpio, State.perstGpio, hrole, State.pon, State.pon, hrst rfl, hrst rfl]

/-- Another GPIO than before is claimed (R99). -/
def State.claimNew (s : State) (p : Nat) (old : Option Nat) : State := s.when (s.perstGpio p != old) (·.claim p true)

theorem State.claimNew_same {s : State} {p : Nat} {old : Option Nat} (h : s.perstGpio p = old) : s.claimNew p old = s := by
  simp [State.claimNew, h]

section
variable {s : State} {p : Nat} {v : W64}

/-- The fields that a write of PP_CTL leaves, with CFG_REFUSED where it is refused. -/
def State.ctlFields (s : State) (p : Nat) (v : W64) : State :=
  let guarded := s.pon F.PP_CTL_ENABLE p && s.ctlDiffers p v
  let window := fget v 1 2 == 2 && s.pget F.PP_CTL_ROLE p != 2 && s.winNames p
  let t := if guarded then
      (((s.ctlWrite p v).pset F.PP_CTL_ROLE p (s.pget F.PP_CTL_ROLE p)).pset F.PP_CTL_RATE_MAX p (s.pget F.PP_CTL_RATE_MAX p)).pset F.PP_CTL_FLIT_EN p
        (s.pget F.PP_CTL_FLIT_EN p)
    else if window then (s.ctlWrite p v).pset F.PP_CTL_ROLE p (s.pget F.PP_CTL_ROLE p) else s.ctlWrite p v
  t.when (guarded || window || (fget v 1 2 == 3 && s.pget F.PP_CTL_ROLE p != 3)) (·.cfgRefused p)

theorem State.ctlFields_refused (hen : s.pget F.PP_CTL_ENABLE p = 1) (hd : s.ctlDiffers p v = true) : s.ctlFields p v = s.ctlRefused p v := by
  simp [State.ctlFields, (s.pon_iff _ _).2 hen, hd, State.ctlRefused]

/-- A write that no rule refuses takes its fields. -/
theorem State.ctlFields_taken (hd : s.pget F.PP_CTL_ENABLE p = 1 → s.ctlDiffers p v = false)
    (hrole : fget v 1 2 = s.pget F.PP_CTL_ROLE p ∨ (fget v 1 2 ≠ 3 ∧ ¬ (fget v 1 2 = 2 ∧ s.winNames p = true))) :
    s.ctlFields p v = s.ctlWrite p v := by
  have hguard : (s.pon F.PP_CTL_ENABLE p && s.ctlDiffers p v) = false := by
    cases hen : s.pon F.PP_CTL_ENABLE p
    · rfl
    · exact hd ((s.pon_iff _ _).1 hen)
  have hwindow : (fget v 1 2 == 2 && s.pget F.PP_CTL_ROLE p != 2 && s.winNames p) = false := by
    rcases hrole with h | ⟨-, h⟩
    · simp [h]
    · simp only [not_and, Bool.not_eq_true] at h
      by_cases h2 : fget v 1 2 = 2
      · simp [h h2]
      · simp [h2]
  have hthree : (fget v 1 2 == 3 && s.pget F.PP_CTL_ROLE p != 3) = false := by
    rcases hrole with h | ⟨h, -⟩
    · simp [h]
    · simp [h]
  rw [State.ctlFields, hguard, hwindow, hthree]
  rfl

/-- PP_CTL as it takes effect: the fields, the GPIO named, then enabling, disabling or retraining. -/
theorem State.ppCtl_eq (s : State) (p : Nat) (v : W64) : s.ppCtl p v =
    let t := (s.ctlFields p v).claimNew p (s.perstGpio p)
    let now := t.pon F.PP_CTL_ENABLE p
    let u := if now && !s.pon F.PP_CTL_ENABLE p then t.enablePort p else if s.pon F.PP_CTL_ENABLE p && !now then t.disablePort p else t
    (u.when (v.getLsbD 9 && now) (fun s => (s.freshTrain p).retrain p)).ctlEnd p := rfl

/-- ENABLE as it was, and no RETRAIN on an enabled port. -/
theorem State.ppCtl_same {t : State} (ht : (s.ctlFields p v).claimNew p (s.perstGpio p) = t)
    (hen : t.pon F.PP_CTL_ENABLE p = s.pon F.PP_CTL_ENABLE p) (h9 : (v.getLsbD 9 && s.pon F.PP_CTL_ENABLE p) = false) :
    s.ppCtl p v = t.ctlEnd p := by
  rw [s.ppCtl_eq]
  dsimp only
  rw [ht, hen, h9]
  cases s.pon F.PP_CTL_ENABLE p <;> rfl

/-- ENABLE set on a port that was disabled, without RETRAIN. -/
theorem State.ppCtl_enables {t : State} (ht : (s.ctlFields p v).claimNew p (s.perstGpio p) = t) (hnow : t.pon F.PP_CTL_ENABLE p = true)
    (hen : s.pon F.PP_CTL_ENABLE p = false) (h9 : v.getLsbD 9 = false) : s.ppCtl p v = (t.enablePort p).ctlEnd p := by
  rw [s.ppCtl_eq]
  dsimp only
  rw [ht, hnow, hen, h9]
  rfl

theorem State.perstGpio_ctlWrite (hrole : fget v 1 2 = s.pget F.PP_CTL_ROLE p) : (s.ctlWrite p v).perstGpio p = s.perstGpio p :=
  State.perstGpio_congr ((s.ctlWrite_role p v).trans hrole) ((s.only_ctlWrite p v).rd (by simp) (by simp [tripNames]))

theorem State.perstGpio_ctlRefused : (s.ctlRefused p v).perstGpio p = s.perstGpio p :=
  State.perstGpio_congr (s.ctlRefused_kept p v).1 ((s.only_ctlRefused p v).rd (by simp) (by simp [tripNames]))

theorem State.ctlDiffers_false : s.ctlDiffers p v = false ↔
    fget v 1 2 = s.pget F.PP_CTL_ROLE p ∧ fget v 3 3 = s.pget F.PP_CTL_RATE_MAX p ∧ fget v 6 1 = s.pget F.PP_CTL_FLIT_EN p := by
  simp [State.ctlDiffers, and_assoc]

/-- A write that keeps an enabled port enabled and changes none of its guarded fields. -/
theorem State.ppCtl_unchanged (hen : s.pget F.PP_CTL_ENABLE p = 1) (h0 : v.getLsbD 0 = true) (h9 : v.getLsbD 9 = false)
    (hd : s.ctlDiffers p v = false) : s.ppCtl p v = (s.ctlWrite p v).ctlEnd p := by
  have hrole := (State.ctlDiffers_false.1 hd).1
  refine State.ppCtl_same ?_ ?_ (by rw [h9, Bool.false_and])
  · rw [State.ctlFields_taken (fun _ => hd) (.inl hrole), State.claimNew_same (State.perstGpio_ctlWrite hrole)]
  · rw [(s.pon_iff _ _).2 hen, State.pon_iff, s.ctlWrite_enable, h0, bit_true]

/-- A write that would change a guarded field of an enabled port. -/
theorem State.ppCtl_refused (hen : s.pget F.PP_CTL_ENABLE p = 1) (h0 : v.getLsbD 0 = true) (h9 : v.getLsbD 9 = false)
    (hd : s.ctlDiffers p v = true) : s.ppCtl p v = (s.ctlRefused p v).ctlEnd p := by
  refine State.ppCtl_same ?_ ?_ (by rw [h9, Bool.false_and])
  · rw [State.ctlFields_refused hen hd, State.claimNew_same State.perstGpio_ctlRefused]
  · rw [(s.pon_iff _ _).2 hen, State.pon_iff, State.ctlRefused_pget _ _ _ rfl (by decide) (by decide), s.ctlWrite_enable, h0, bit_true]

end

/-! ### A port is enabled -/

section
variable (s : State) (p : Nat)

/-- The lanes of a port leave loopback and patterns (R56, R58). -/
def State.quietLanes (ls : List (Nat × Nat)) : State :=
  ls.foldl (fun (s : State) (l : Nat × Nat) =>
    ((s.set F.LN_CTL_LPBK [l.1, l.2] 0).set F.LN_PAT_GEN_EN [l.1, l.2] 0).set F.LN_PAT_CHK_EN [l.1, l.2] 0) s

theorem State.only_quietLanes (ls : List (Nat × Nat)) :
    s.only (s.quietLanes ls) (ls.flatMap (fun l => [⟨.LN_CTL, [l.1, l.2]⟩, ⟨.LN_PAT, [l.1, l.2]⟩])) [] := by
  induction ls generalizing s with
  | nil => exact s.only_refl _ _
  | cons l ls ih =>
    have hlane := State.only_trans (State.only_trans (s.only_set F.LN_CTL_LPBK [l.1, l.2] 0) (State.only_set _ F.LN_PAT_GEN_EN [l.1, l.2] 0))
      (State.only_set _ F.LN_PAT_CHK_EN [l.1, l.2] 0)
    refine State.only_mono (State.only_trans hlane (ih _)) (fun r hr => ?_) (by simp)
    simp only [List.cons_append, List.nil_append, List.mem_cons, List.flatMap_cons] at hr ⊢
    tauto

/-- A port that is about to train, before its link state is brought in line. -/
def State.readyPort : State := ((s.quietLanes (s.lanesOf p)).freshTrain p).lnkUp (fun x => { x with mark := x.mark.del p })

theorem State.enablePort_eq : s.enablePort p = (s.readyPort p).portRest p := rfl

theorem State.readyPort_rd {r : Reg} (h : r.n ∉ [RN.LN_CTL, .LN_PAT] ++ tripNames) : (s.readyPort p).rd r = s.rd r := by
  simp only [List.mem_append, not_or] at h
  refine (s.only_quietLanes (s.lanesOf p)).rd (fun m => h.1 ?_) h.2
  obtain ⟨l, -, hl⟩ := List.mem_flatMap.1 m
  simp only [List.mem_cons, List.not_mem_nil, or_false] at hl
  rcases hl with rfl | rfl <;> simp

theorem State.readyPort_rest :
    { s.readyPort p with regs := s.regs, sent := s.sent, msiWait := s.msiWait, lnk := s.lnk, flt := s.flt } = s := by
  have h := (s.only_quietLanes (s.lanesOf p)).2
  exact congrArg (fun u : State => { u with lnk := s.lnk, flt := s.flt }) h

theorem State.readyPort_remoteOff : (s.readyPort p).lnk.remoteOff = s.lnk.remoteOff :=
  (congrArg LnkSt.remoteOff (s.only_quietLanes (s.lanesOf p)).lnk :)

variable {s p}

theorem State.readyPort_pget {f : Fld} (h : f.reg ∉ [RN.LN_CTL, .LN_PAT] ++ tripNames) (q : Nat) : (s.readyPort p).pget f q = s.pget f q := by
  rw [State.pget, State.get_eq, s.readyPort_rd p h, ← State.get_eq, ← State.pget]

end

/-- The width of a port depends on the cuts. -/
theorem State.portWidth_congr {s u : State} (h : ∀ t, u.get F.PT_CUT_CUT [t] = s.get F.PT_CUT_CUT [t]) (p : Nat) :
    u.portWidth p = s.portWidth p := by
  unfold State.portWidth State.cutOf State.isX16
  dsimp only
  rw [h (p / 4), h (p / 4 / 2 * 2), h (p / 4 / 2 * 2 + 1)]

/-- Whether slot power or Link Disable holds a port down depends on the bindings and the configuration fields of vDSPs. -/
theorem State.portOff_congr {s u : State} {p : Nat} (hbind : u.portBinding p = s.portBinding p) (hcfg : u.cfg = s.cfg)
    (hoff : u.lnk.remoteOff = s.lnk.remoteOff) : u.portOff p = s.portOff p := by
  simp only [State.portOff, State.powerOffAt, hbind, hoff, State.cf, hcfg]

/-- What decides whether a port may rest in Detect: ENABLE, the cut, containment, slot power and Link Disable. -/
theorem State.restState_detect {s : State} {p : Nat} (hen : s.pget F.PP_CTL_ENABLE p = 1) (hw : s.portWidth p ≠ 0)
    (hc : s.pget F.PT_CONT_C_VDSP p = 0) (ho : s.portOff p = false) : s.restState p = 1 := by
  simp [State.restState, s.pon_iff, hen, hw, hc, ho]


section
variable {s : State} {p : Nat} {v : W64}

/-- The bindings, the cuts and what holds a port down are untouched by the write and the lanes' return. -/
theorem State.restState_readyPort (h0 : v.getLsbD 0 = true) (hw : s.portWidth p ≠ 0) (hc : s.pget F.PT_CONT_C_VDSP p = 0)
    (ho : s.portOff p = false) : ((s.ctlWrite p v).readyPort p).restState p = 1 := by
  have hwr := s.only_ctlWrite p v
  have hrd {r : Reg} (hr : r.n ∉ [RN.PP_CTL, .LN_CTL, .LN_PAT] ++ tripNames) : ((s.ctlWrite p v).readyPort p).rd r = s.rd r := by
    simp only [List.cons_append, List.mem_cons, not_or] at hr
    obtain ⟨hctl, hlane⟩ := hr
    rw [State.readyPort_rd _ _ (by simpa using hlane)]
    exact s.rd_wr_ne _ (fun e => hctl (by rw [e]))
  have hfwd : ((s.ctlWrite p v).readyPort p).fwd = s.fwd := (congrArg State.fwd ((s.ctlWrite p v).readyPort_rest p)).trans hwr.fwd
  have hcfg : ((s.ctlWrite p v).readyPort p).cfg = s.cfg := (congrArg State.cfg ((s.ctlWrite p v).readyPort_rest p) :)
  have hcut (t : Nat) : ((s.ctlWrite p v).readyPort p).get F.PT_CUT_CUT [t] = s.get F.PT_CUT_CUT [t] := by
    rw [State.get_eq, hrd (by simp [tripNames]), State.get_eq]
  refine State.restState_detect ?_ ?_ ?_ ?_
  · rw [State.readyPort_pget (by decide), s.ctlWrite_enable, h0, bit_true]
  · rwa [State.portWidth_congr hcut]
  · rwa [State.readyPort_pget (by decide), hwr.pget (by simp) (by decide)]
  · rwa [State.portOff_congr (State.portBinding_congr (congrArg FwdSt.own hfwd) (fun _ => hrd (by simp [tripNames])) p) hcfg
      (((s.ctlWrite p v).readyPort_remoteOff p).trans (congrArg LnkSt.remoteOff hwr.lnk))]

/-- A port that nothing holds down enters Detect. -/
theorem State.enablePort_detect (h0 : v.getLsbD 0 = true) (hw : s.portWidth p ≠ 0) (hc : s.pget F.PT_CONT_C_VDSP p = 0)
    (ho : s.portOff p = false) (hst : s.pget F.PP_STAT_LINK_STATE p = 0) :
    (s.ctlWrite p v).enablePort p = ((s.ctlWrite p v).readyPort p).pset F.PP_STAT_LINK_STATE p 1 := by
  have hst' : ((s.ctlWrite p v).readyPort p).pget F.PP_STAT_LINK_STATE p = 0 := by
    rw [State.readyPort_pget (by decide), (s.only_ctlWrite p v).pget (by simp) (by decide), hst]
  rw [State.enablePort_eq, State.portRest, if_pos (State.restState_readyPort h0 hw hc ho), hst', if_pos (.inl rfl)]

end

/-! ### A port names a GPIO -/

/-- What a claim of a GPIO may change: PP_STAT but the link states, link events, and the record of links. -/
structure State.claimStep (s u : State) : Prop where
  regs : ∀ r : Reg, r.n ≠ .PP_STAT → r.n ∉ tripNames → u.rd r = s.rd r
  state : ∀ p, u.pget F.PP_STAT_LINK_STATE p = s.pget F.PP_STAT_LINK_STATE p
  rest : { u with regs := s.regs, sent := s.sent, msiWait := s.msiWait, lnk := s.lnk } = s

section
variable {s t u : State}

theorem State.claimStep.refl (s : State) : s.claimStep s := ⟨fun _ _ _ => rfl, fun _ => rfl, rfl⟩

theorem State.claimStep.trans (h : s.claimStep t) (h' : t.claimStep u) : s.claimStep u where
  regs r hr hn := (h'.regs r hr hn).trans (h.regs r hr hn)
  state p := (h'.state p).trans (h.state p)
  rest := (congrArg (fun x : State => { x with regs := s.regs, sent := s.sent, msiWait := s.msiWait, lnk := s.lnk }) h'.rest).trans h.rest

theorem State.claimStep_lnkUp (s : State) (f : LnkSt → LnkSt) : s.claimStep (s.lnkUp f) := ⟨fun _ _ _ => rfl, fun _ => rfl, rfl⟩

theorem State.claimStep_cfgRefused (s : State) (q : Nat) : s.claimStep (s.cfgRefused q) where
  regs r hr hn := (s.only_cfgRefused q).rd (by simpa using fun e : r = _ => hr (by rw [e])) hn
  state p := by
    rw [State.cfgRefused, State.portEvent, State.pget_event _ _ _ _ (by decide)]
    exact s.get_set_disj _ _ _ _ _ (.inr (by decide))
  rest := congrArg (fun x : State => { x with lnk := s.lnk }) (s.only_cfgRefused q).2

theorem State.claimStep_claim (s : State) (p : Nat) (k : Bool) : s.claimStep (s.claim p k) := by
  have hfilter := s.claimStep_lnkUp (fun x => { x with displaced := x.displaced.filter (· != (p, k)) })
  unfold State.claim
  dsimp only
  split
  · exact hfilter
  · refine List.foldlRecOn (motive := fun t => s.claimStep t) _ _ hfilter (fun t ht o _ => ?_)
    split
    · rw [State.updPerst_eq]
      exact ((ht.trans (t.claimStep_lnkUp _)).trans (State.claimStep_cfgRefused _ o.1)).trans (State.claimStep_lnkUp _ _)
    · exact ht

theorem State.claimStep_claimNew (s : State) (p : Nat) (old : Option Nat) : s.claimStep (s.claimNew p old) := by
  unfold State.claimNew State.when
  split
  · exact s.claimStep_claim p true
  · exact .refl s

theorem State.claimStep.pget (h : s.claimStep u) {f : Fld} (hf : f.reg ≠ .PP_STAT) (hn : f.reg ∉ tripNames) (q : Nat) :
    u.pget f q = s.pget f q := by
  rw [State.pget, State.get_eq, h.regs _ hf hn, ← State.get_eq, ← State.pget]

end

end Sys2Proof.Machine
end

section
/-!
SUPPORT. The writes of PP_CTL and PT_BUF_CFG as commands (R66, R67, R77, R170).
-/

namespace Sys2Proof.Machine

@[simp] theorem State.pget_answerWrite (s : State) (who : Init) (a : Acc) (f : Fld) (p : Nat) : (s.answerWrite who a).pget f p = s.pget f p :=
  s.get_answerWrite who a f _

theorem execPpCtlWrite_granted {s : State} {who : Init} {port : Fin 144} (hg : s.granted who true ⟨.PP_CTL, [port.val / 4, port.val % 4]⟩ 4)
    (v : W32) : execPpCtlWrite who port v s = .next ((s.ppCtl port.val (v.zeroExtend 64)).answerWrite who .ok) := by
  rw [execPpCtlWrite, s.live_next _ (State.granted_awake hg), State.writeReg_granted hg]

theorem zeroExtend_getLsbD {v : W32} {n : Nat} (hn : n < 32) : (v.zeroExtend 64).getLsbD n = v.getLsbD n := by
  simp [show n < 64 by omega]

/-! ### RETRAIN -/

section
variable (s : State) (p : Nat)

/-- RETRAIN on an enabled port: what was left out serves again, and the port retrains (R77). -/
def State.retrainFresh : State := (s.freshTrain p).retrain p

theorem execRetrain_enabled {s : State} {who : Init} {port : Fin 144} (hg : s.granted who true ⟨.PP_CTL, [port.val / 4, port.val % 4]⟩ 4)
    (hen : s.pget F.PP_CTL_ENABLE port.val = 1) : execRetrain who port s = .next ((s.retrainFresh port.val).answerWrite who .ok) := by
  rw [execRetrain, s.live_next _ (State.granted_awake hg), State.writeReg_granted hg, if_pos ((s.pon_iff _ _).2 hen)]
  rfl

theorem State.retrain_training {s : State} {p : Nat} (h : s.pget F.PP_STAT_LINK_STATE p ∈ [1, 2]) :
    (s.retrain p).pget F.PP_STAT_LINK_STATE p = 2 := by
  have hdown : s.pget F.PP_STAT_LINK_STATE p ∉ [3, 4, 6] := by
    simp only [List.mem_cons, List.not_mem_nil, or_false] at h ⊢
    omega
  rw [s.retrain_eq, if_neg hdown, if_pos h]
  exact State.pget_pset_same _ (by decide) (by decide)

/-- A training that no leaky counter judges keeps the rate limit (R459). -/
theorem State.retrain_rateCap {s : State} {p : Nat} (h : s.pget F.PP_STAT_LINK_STATE p ∉ [3, 4]) :
    (s.retrain p).lnk.rateCap = s.lnk.rateCap := by
  rw [s.retrain_eq]
  split
  next hup =>
    have hl1 : s.pget F.PP_STAT_LINK_STATE p = 6 := by
      simp only [List.mem_cons, List.not_mem_nil, or_false] at h hup
      omega
    rw [hl1]
    exact (congrArg LnkSt.rateCap (State.only_portCount _ p 20 1).lnk :)
  next => split <;> rfl

theorem State.rateLimit_freshTrain : (s.freshTrain p).rateLimit p = min 6 (s.pget F.PP_CTL_RATE_MAX p) := by
  have hcap : (s.freshTrain p).lnk.rateCap.lookD p 6 = 6 := AMap.lookD_del_same ..
  have hctl : (s.freshTrain p).pget F.PP_CTL_RATE_MAX p = s.pget F.PP_CTL_RATE_MAX p := rfl
  rw [State.rateLimit, hcap, hctl]
  omega

variable {p} in
theorem State.freshTrain_badLanes {l : Nat × Nat} (h : l ∈ (s.freshTrain p).lnk.badLanes) : s.portOfLane l.1 l.2 ≠ some p := by
  simpa using (List.mem_filter.1 h).2

theorem State.only_retrainFresh :
    ({ s with lnk := (s.retrainFresh p).lnk, flt := { s.flt with failed := (s.retrainFresh p).flt.failed } } : State).only (s.retrainFresh p)
      (retrainRegs p) (retrainTrips p) := by
  have h := (s.freshTrain p).linkStep_retrain p
  have hframe := h.frame.onlyLnk h.flt h.journal
  rw [State.retrainFresh, h.flt]
  exact hframe

end

/-! ### PT_BUF_CFG -/

section
variable (s : State) (p : Nat) (v : W64)

theorem execPtBufCfgWrite_granted {s : State} {who : Init} {port : Fin 144}
    (hg : s.granted who true ⟨.PT_BUF_CFG, [port.val / 4, port.val % 4]⟩ 4) (v : W32) :
    execPtBufCfgWrite who port v s = .next ((s.bufCfg port.val (v.zeroExtend 64)).answerWrite who .ok) := by
  rw [execPtBufCfgWrite, s.live_next _ (State.granted_awake hg), State.writeReg_granted hg]

/-- The write that is refused: only REFUSED and its event (R170). -/
def State.bufRefused : State := (s.pset F.PT_BUF_CFG_REFUSED p 1).portEvent p 5 2

theorem State.only_bufRefused : s.only (s.bufRefused p) [⟨.PT_BUF_CFG, [p / 4, p % 4]⟩] [.port p 5] :=
  State.only_trans (s.only_pset F.PT_BUF_CFG_REFUSED p 1) (State.only_event _ (.port p 5) 2)

theorem State.bufRefused_refused : (s.bufRefused p).pget F.PT_BUF_CFG_REFUSED p = 1 :=
  (State.pget_event _ _ _ _ (by decide)).trans (s.pget_pset_same (by decide) (by decide))

theorem State.bufRefused_kept {f : Fld} (h : f.reg = .PT_BUF_CFG ∧ f.lo + f.w ≤ 24) : (s.bufRefused p).pget f p = s.pget f p :=
  (State.pget_event _ _ _ _ (by rw [h.1]; decide)).trans (s.pget_pset_disj p 1 (.inr ⟨.inl h.2, by omega⟩))

theorem State.raises_bufRefused : s.raises (s.bufRefused p) (.port p 5) 2 :=
  have h := (s.pset F.PT_BUF_CFG_REFUSED p 1).raisedIn_event (.port p 5) 2 (by simp [Trip.mask, tripNames])
  (h.after (s.only_pset F.PT_BUF_CFG_REFUSED p 1).1 (by simp [Trip.stat, Trip.mask])).1

theorem State.pget_bufWritten {f : Fld} {rst : Nat} (hreg : f.reg = .PT_BUF_CFG) (hf : ⟨f.lo, f.w, .rw, rst⟩ ∈ RN.fields .PT_BUF_CFG) :
    (s.writeTyped ⟨.PT_BUF_CFG, [p / 4, p % 4]⟩ false v).pget f p = fget v f.lo f.w := by
  have h := s.get_writeTyped f [p / 4, p % 4] false v (rst := rst) ⟨by rw [hreg]; decide, by rw [hreg]; exact hf⟩
  rw [hreg] at h
  exact h

/-- Three classes of at least 8 units that sum to 192. -/
def bufLawful (v : W64) : Prop := fget v 0 8 + fget v 8 8 + fget v 16 8 = 192 ∧ 8 ≤ fget v 0 8 ∧ 8 ≤ fget v 8 8 ∧ 8 ≤ fget v 16 8

variable {s p v}

theorem State.bufCfg_taken (hv : bufLawful v) (hen : s.pget F.PP_CTL_ENABLE p = 0) :
    s.bufCfg p v = s.writeTyped ⟨.PT_BUF_CFG, [p / 4, p % 4]⟩ false v := by
  obtain ⟨hsum, h1, h2, h3⟩ := hv
  simp [State.bufCfg, hsum, Nat.not_lt.2 h1, Nat.not_lt.2 h2, Nat.not_lt.2 h3, State.pon, hen]

theorem State.bufCfg_unlawful (hv : ¬ bufLawful v) : s.bufCfg p v = s.bufRefused p := by
  have hbad : (decide (fget v 0 8 + fget v 8 8 + fget v 16 8 ≠ 192) || decide (fget v 0 8 < 8) || decide (fget v 8 8 < 8) ||
      decide (fget v 16 8 < 8)) = true := by
    simp only [bufLawful, not_and_or, Nat.not_le] at hv
    simpa [or_assoc] using hv
  rw [State.bufCfg, hbad]
  rfl

/-- An enabled port keeps its classes. -/
theorem State.bufCfg_enabled (hen : s.pget F.PP_CTL_ENABLE p = 1) (hne : fget v 0 8 ≠ s.pget F.PT_BUF_CFG_SC1 p) :
    s.bufCfg p v = s.bufRefused p := by
  simp [State.bufCfg, hne, s.pon_iff, hen, State.bufRefused]

/-- Classes out of rule, or others than an enabled port has (R170). -/
theorem State.bufCfg_refused (h : fget v 0 8 + fget v 8 8 + fget v 16 8 ≠ 192 ∨ fget v 0 8 < 8 ∨ fget v 8 8 < 8 ∨ fget v 16 8 < 8 ∨
    (s.pget F.PP_CTL_ENABLE p = 1 ∧ fget v 0 8 ≠ s.pget F.PT_BUF_CFG_SC1 p)) : s.bufCfg p v = s.bufRefused p := by
  by_cases hv : bufLawful v
  · obtain ⟨hsum, h1, h2, h3⟩ := hv
    have hport : s.pget F.PP_CTL_ENABLE p = 1 ∧ fget v 0 8 ≠ s.pget F.PT_BUF_CFG_SC1 p := by omega
    exact State.bufCfg_enabled hport.1 hport.2
  · exact State.bufCfg_unlawful hv

end

/-! ### PP_CTL at the end of a write -/

/-- The fields of PP_CTL are those of the written word. -/
def State.ctlTaken (u : State) (p : Nat) (v : W64) : Prop :=
  u.pget F.PP_CTL_ENABLE p = bit (v.getLsbD 0) ∧ u.pget F.PP_CTL_ROLE p = fget v 1 2 ∧ u.pget F.PP_CTL_RATE_MAX p = fget v 3 3 ∧
    u.pget F.PP_CTL_FLIT_EN p = fget v 6 1 ∧ u.pget F.PP_CTL_LPBK_LEAD p = bit (v.getLsbD 7) ∧ u.pget F.PP_CTL_DEGRADE_EN p = bit (v.getLsbD 8)

/-- From `s` to `u` nothing changes but registers, messages and the records of links and faults. -/
def State.restSame (s u : State) : Prop := { u with regs := s.regs, sent := s.sent, msiWait := s.msiWait, lnk := s.lnk, flt := s.flt } = s

theorem State.restSame.trans {s t u : State} (h : s.restSame t) (h' : t.restSame u) : s.restSame u :=
  (congrArg (fun x : State => { x with regs := s.regs, sent := s.sent, msiWait := s.msiWait, lnk := s.lnk, flt := s.flt }) h' :).trans h

theorem State.only.restSame {s u : State} {l : List Reg} {xs : List Trip} (h : s.only u l xs) : s.restSame u :=
  (congrArg (fun x : State => { x with lnk := s.lnk, flt := s.flt }) h.2 :)

theorem State.claimStep.restSame {s u : State} (h : s.claimStep u) : s.restSame u :=
  (congrArg (fun x : State => { x with flt := s.flt }) h.rest :)

theorem State.restSame_ctlEnd (s : State) (p : Nat) : s.restSame (s.ctlEnd p) := by
  rw [s.ctlEnd_eq p]
  exact rfl

section
variable (s : State) (p : Nat) (v : W64)

variable {p v} in
/-- The fields stay when PP_CTL is not written again. -/
theorem State.ctlTaken_of_same {u : State} (h : ∀ f : Fld, f.reg = .PP_CTL → u.pget f p = (s.ctlWrite p v).pget f p) : u.ctlTaken p v := by
  rw [State.ctlTaken, h _ rfl, h _ rfl, h _ rfl, h _ rfl, h _ rfl, h _ rfl]
  exact ⟨s.ctlWrite_enable p v, s.ctlWrite_role p v, s.ctlWrite_rateMax p v, s.ctlWrite_flitEn p v, s.ctlWrite_lpbkLead p v,
    s.ctlWrite_degradeEn p v⟩

theorem State.pget_ctlEnd_of_ctl {f : Fld} (hf : f.reg = .PP_CTL) : (s.ctlEnd p).pget f p = s.pget f p :=
  s.pget_ctlEnd p (by rw [hf]; decide) (by rw [hf]; decide) p

theorem State.ctlTaken_unchanged : ((s.ctlWrite p v).ctlEnd p).ctlTaken p v := s.ctlTaken_of_same (fun _ hf => State.pget_ctlEnd_of_ctl _ p hf)

/-- A claim of a GPIO leaves PP_CTL and the link state alone. -/
theorem State.ctlTaken_claimNew (old : Option Nat) : (((s.ctlWrite p v).claimNew p old).ctlEnd p).ctlTaken p v := by
  refine s.ctlTaken_of_same (fun f hf => (State.pget_ctlEnd_of_ctl _ p hf).trans ?_)
  exact ((s.ctlWrite p v).claimStep_claimNew p old).pget (by rw [hf]; decide) (by rw [hf]; decide) p

theorem State.ctlTaken_detect : (((((s.ctlWrite p v).readyPort p).pset F.PP_STAT_LINK_STATE p 1)).ctlEnd p).ctlTaken p v := by
  refine s.ctlTaken_of_same (fun f hf => (State.pget_ctlEnd_of_ctl _ p hf).trans ?_)
  rw [State.pget_pset_disj _ _ _ (.inl (by rw [hf]; decide)), State.readyPort_pget (by rw [hf]; decide)]

/-- Beside registers, messages, links and faults nothing changes when a port is enabled. -/
theorem State.restSame_detect : s.restSame ((((s.ctlWrite p v).readyPort p).pset F.PP_STAT_LINK_STATE p 1).ctlEnd p) := by
  have hready : (s.ctlWrite p v).restSame ((s.ctlWrite p v).readyPort p) := State.readyPort_rest _ p
  exact ((((s.only_ctlWrite p v).restSame.trans hready).trans (State.only_pset _ F.PP_STAT_LINK_STATE p 1).restSame)).trans
    (State.restSame_ctlEnd _ p)

/-- Nor when a port names another GPIO. -/
theorem State.restSame_claimed (old : Option Nat) : s.restSame (((s.ctlWrite p v).claimNew p old).ctlEnd p) :=
  ((s.only_ctlWrite p v).restSame.trans (State.claimStep_claimNew _ p old).restSame).trans (State.restSame_ctlEnd _ p)

/-- A refused write keeps what it may not change, says so, and takes the rest (R66). -/
theorem State.ctlRefused_end :
    ((s.ctlRefused p v).ctlEnd p).pget F.PP_CTL_ENABLE p = bit (v.getLsbD 0) ∧
      ((s.ctlRefused p v).ctlEnd p).pget F.PP_CTL_LPBK_LEAD p = bit (v.getLsbD 7) ∧
      ((s.ctlRefused p v).ctlEnd p).pget F.PP_CTL_DEGRADE_EN p = bit (v.getLsbD 8) ∧
      ((s.ctlRefused p v).ctlEnd p).pget F.PP_CTL_ROLE p = s.pget F.PP_CTL_ROLE p ∧
      ((s.ctlRefused p v).ctlEnd p).pget F.PP_CTL_RATE_MAX p = s.pget F.PP_CTL_RATE_MAX p ∧
      ((s.ctlRefused p v).ctlEnd p).pget F.PP_CTL_FLIT_EN p = s.pget F.PP_CTL_FLIT_EN p ∧
      ((s.ctlRefused p v).ctlEnd p).pget F.PP_STAT_CFG_REFUSED p = 1 ∧
      (((s.ctlRefused p v).ctlEnd p).rd (Trip.port p 0).stat).getLsbD 3 = true := by
  obtain ⟨hrole, hrate, hflit⟩ := s.ctlRefused_kept p v
  have hnew {f : Fld} (hf : f.reg = .PP_CTL) (hlo : 7 ≤ f.lo ∨ f.lo + f.w ≤ 1) (h64 : f.lo + f.w ≤ 64) :
      ((s.ctlRefused p v).ctlEnd p).pget f p = (s.ctlWrite p v).pget f p :=
    (State.pget_ctlEnd_of_ctl _ p hf).trans (s.ctlRefused_pget p v hf h64 hlo)
  refine ⟨?_, ?_, ?_, (State.pget_ctlEnd_of_ctl _ p rfl).trans hrole, (State.pget_ctlEnd_of_ctl _ p rfl).trans hrate,
    (State.pget_ctlEnd_of_ctl _ p rfl).trans hflit, ?_, ?_⟩
  · rw [hnew rfl (by decide) (by decide), State.ctlWrite_enable]
  · rw [hnew rfl (by decide) (by decide), State.ctlWrite_lpbkLead]
  · rw [hnew rfl (by decide) (by decide), State.ctlWrite_degradeEn]
  · exact (State.pget_ctlEnd _ p (by decide) (by decide) p).trans (s.ctlRefused_refused p v)
  · rw [(State.linkOnly_ctlEnd _ _).keeps _ (by simp [Trip.stat]) (by simp)]
    exact s.ctlRefused_event ..

end

section
variable {s : State} {p : Nat} {v : W64}

theorem State.ppCtl_detect (hen : s.pget F.PP_CTL_ENABLE p = 0) (h0 : v.getLsbD 0 = true) (h9 : v.getLsbD 9 = false)
    (hrole : fget v 1 2 = s.pget F.PP_CTL_ROLE p) (hw : s.portWidth p ≠ 0) (hc : s.pget F.PT_CONT_C_VDSP p = 0) (ho : s.portOff p = false)
    (hst : s.pget F.PP_STAT_LINK_STATE p = 0) :
    s.ppCtl p v = (((s.ctlWrite p v).readyPort p).pset F.PP_STAT_LINK_STATE p 1).ctlEnd p := by
  have htaken : (s.ctlFields p v).claimNew p (s.perstGpio p) = s.ctlWrite p v := by
    rw [State.ctlFields_taken (fun h => absurd (h.symm.trans hen) (by decide)) (.inl hrole), State.claimNew_same (State.perstGpio_ctlWrite hrole)]
  rw [State.ppCtl_enables htaken ((State.pon_iff _ _ _).2 (by rw [State.ctlWrite_enable, h0, bit_true])) (by simp [State.pon, hen]) h9,
    State.enablePort_detect h0 hw hc ho hst]

theorem State.ppCtl_disabled (hen : s.pget F.PP_CTL_ENABLE p = 0) (h0 : v.getLsbD 0 = false) (hthree : fget v 1 2 ≠ 3)
    (hwin : ¬ (fget v 1 2 = 2 ∧ s.winNames p = true)) : s.ppCtl p v = ((s.ctlWrite p v).claimNew p (s.perstGpio p)).ctlEnd p := by
  have hoff : s.pon F.PP_CTL_ENABLE p = false := by simp [State.pon, hen]
  have hctl := (State.claimStep_claimNew (s.ctlWrite p v) p (s.perstGpio p)).pget (f := F.PP_CTL_ENABLE) (by decide) (by decide) p
  refine State.ppCtl_same ?_ ?_ (by rw [hoff, Bool.and_false])
  · rw [State.ctlFields_taken (fun h => absurd (h.symm.trans hen) (by decide)) (.inr ⟨hthree, hwin⟩)]
  · rw [hoff, State.pon, hctl, State.ctlWrite_enable, h0]
    rfl

end

/-! ### The statement -/

/-- Settles O13: a write of PP_CTL is its fields, taken or refused, then the enabling of the port or nothing; RETRAIN is a retraining from a fresh
cap; and PT_BUF_CFG is written whole or refused. -/
theorem portRegisterWrites : Obligations.port_register_writes := by
  unfold Obligations.port_register_writes
  refine ⟨?enabled, ?enables, ?disabled, ?retrain, ?bufTaken, ?bufRefused⟩
  case enabled =>
    intro s who port v hg hen h0 h9
    refine ⟨_, execPpCtlWrite_granted hg v, ?_⟩
    simp only [State.pget_answerWrite, State.rd_answerWrite]
    rw [← zeroExtend_getLsbD (v := v) (by decide)] at h0 h9
    rw [← zeroExtend_getLsbD (v := v) (n := 7) (by decide), ← zeroExtend_getLsbD (v := v) (n := 8) (by decide)]
    by_cases hd : s.ctlDiffers port.val (v.zeroExtend 64) = true
    · obtain ⟨hen', hlead, hdeg, hrole, hrate, hflit, href, hev⟩ := s.ctlRefused_end port.val (v.zeroExtend 64)
      rw [State.ppCtl_refused hen h0 h9 hd]
      exact ⟨hen'.trans (by rw [h0, bit_true]), hlead, hdeg, hrole, hrate, hflit, fun _ => ⟨href, hev⟩⟩
    · rw [Bool.not_eq_true] at hd
      obtain ⟨hrole, hrate, hflit⟩ := State.ctlDiffers_false.1 hd
      obtain ⟨hen', hrole', hrate', hflit', hlead, hdeg⟩ := s.ctlTaken_unchanged port.val (v.zeroExtend 64)
      rw [State.ppCtl_unchanged hen h0 h9 hd]
      exact ⟨hen'.trans (by rw [h0, bit_true]), hlead, hdeg, hrole'.trans hrole, hrate'.trans hrate, hflit'.trans hflit,
        fun h => absurd h (by simp [hrole, hrate, hflit])⟩
  case enables =>
    intro s who port v hg hen h0 h9 hrole hw hc ho hst
    refine ⟨_, execPpCtlWrite_granted hg v, ?_⟩
    have hans := (s.ppCtl port.val (v.zeroExtend 64)).only_answerWrite who .ok
    rw [← zeroExtend_getLsbD (v := v) (by decide)] at h0 h9
    rw [← zeroExtend_getLsbD (v := v) (n := 7) (by decide), ← zeroExtend_getLsbD (v := v) (n := 8) (by decide)]
    simp only [State.pget_answerWrite]
    rw [State.ppCtl_detect hen h0 h9 hrole hw hc ho hst] at hans ⊢
    obtain ⟨hen', -, hrate', hflit', hlead, hdeg⟩ := s.ctlTaken_detect port.val (v.zeroExtend 64)
    refine ⟨hen'.trans (by rw [h0, bit_true]), hrate', hflit', hlead, hdeg, ?_, ?_⟩
    · exact (State.pget_ctlEnd _ _ (by decide) (by decide) _).trans (State.pget_pset_same _ (by decide) (by decide))
    · have hrest := (s.restSame_detect port.val (v.zeroExtend 64)).trans hans.restSame
      exact ⟨(congrArg State.mule hrest :), (congrArg State.dm hrest :), (congrArg State.sec hrest :), (congrArg State.mgr hrest :),
        (congrArg State.journal hrest :)⟩
  case disabled =>
    intro s who port v hg hen h0 hthree hwin
    refine ⟨_, execPpCtlWrite_granted hg v, ?_⟩
    have hans := (s.ppCtl port.val (v.zeroExtend 64)).only_answerWrite who .ok
    rw [← zeroExtend_getLsbD (v := v) (by decide)] at h0
    rw [← zeroExtend_getLsbD (v := v) (n := 7) (by decide), ← zeroExtend_getLsbD (v := v) (n := 8) (by decide)]
    simp only [State.pget_answerWrite]
    rw [State.ppCtl_disabled hen h0 hthree hwin] at hans ⊢
    obtain ⟨hen', hrole', hrate', hflit', hlead, hdeg⟩ := s.ctlTaken_claimNew port.val (v.zeroExtend 64) (s.perstGpio port.val)
    refine ⟨hen'.trans (by rw [h0, bit_false]), hrole', hrate', hflit', hlead, hdeg, ?_, ?_⟩
    · rw [State.pget_ctlEnd _ _ (by decide) (by decide), (State.claimStep_claimNew _ _ _).state,
        (s.only_ctlWrite port.val (v.zeroExtend 64)).pget (by simp) (by decide)]
    · have hrest := (s.restSame_claimed port.val (v.zeroExtend 64) (s.perstGpio port.val)).trans hans.restSame
      exact ⟨(congrArg State.cfg hrest :), (congrArg State.fwd hrest :), (congrArg State.mule hrest :), (congrArg State.dm hrest :)⟩
  case retrain =>
    intro s who port hg hen
    refine ⟨_, execRetrain_enabled hg hen, ?_, ?_, ?_, ?_, ?_⟩
    · intro h
      simp only [State.pget_answerWrite]
      exact State.retrain_up _ port.val h
    · intro h
      simp only [State.pget_answerWrite]
      exact State.retrain_training h
    · intro l hl
      rw [(State.only_answerWrite _ _ _).lnk, State.retrainFresh, (State.linkStep_retrain _ port.val).badLanes] at hl
      exact s.freshTrain_badLanes hl
    · intro h
      have hcap := State.retrain_rateCap (s := s.freshTrain port.val) h
      have hctl := (State.linkStep_retrain (s.freshTrain port.val) port.val).ctl (f := F.PP_CTL_RATE_MAX) rfl
      rw [State.rateLimit_congr (s := s.freshTrain port.val) (by rw [State.pget_answerWrite]; exact hctl)
        (by rw [(State.only_answerWrite _ _ _).lnk]; exact hcap)]
      exact s.rateLimit_freshTrain port.val
    · have hans := (s.retrainFresh port.val).only_answerWrite who .ok
      rw [hans.lnk, hans.flt]
      exact State.only_mono (State.only_trans (s.only_retrainFresh port.val) hans) (by simp) (by simp)
  case bufTaken =>
    intro s who port v hg hen hsum h1 h2 h3
    refine ⟨_, execPtBufCfgWrite_granted hg v, ?_⟩
    rw [State.bufCfg_taken ⟨hsum, h1, h2, h3⟩ hen]
    simp only [State.pget_answerWrite]
    refine ⟨State.pget_bufWritten (rst := 0x30) _ _ _ rfl (by decide), State.pget_bufWritten (rst := 0x60) _ _ _ rfl (by decide),
      State.pget_bufWritten (rst := 0x30) _ _ _ rfl (by decide), ?_⟩
    exact State.only_mono (State.only_trans (s.only_writeTyped _ _ _) (State.only_answerWrite _ _ _)) (by simp) (by simp)
  case bufRefused =>
    intro s who port v hg hv
    refine ⟨_, execPtBufCfgWrite_granted hg v, ?_⟩
    rw [State.bufCfg_refused hv]
    have hans := (s.bufRefused port.val).only_answerWrite who .ok
    simp only [State.pget_answerWrite]
    refine ⟨s.bufRefused_kept _ (by decide), s.bufRefused_kept _ (by decide), s.bufRefused_kept _ (by decide), s.bufRefused_refused _, ?_, ?_⟩
    · obtain ⟨hstat, hint⟩ := s.raises_bufRefused port.val
      exact ⟨(State.rd_answerWrite ..).trans hstat, by rw [State.rd_answerWrite, State.rd_answerWrite, hint]⟩
    · exact State.only_mono (State.only_trans (s.only_bufRefused port.val) hans) (by simp) (by simp)

end Sys2Proof.Machine
end

section
/-!
SUPPORT. What traffic leaves alone: queues, gates, tags, trackers, shapers, drops and reports change neither the state of a link nor the records
of links but the times of the last TLPs.
-/

namespace Sys2Proof.Machine

/-- From `s` to `u` every PP_STAT stays, and of the records of links only the times of the last TLPs move. -/
structure State.linkSame (s u : State) : Prop where
  stat : ∀ ix, u.rd ⟨.PP_STAT, ix⟩ = s.rd ⟨.PP_STAT, ix⟩
  lnk : { u.lnk with lastTlp := s.lnk.lastTlp } = s.lnk

namespace State.linkSame

/-! ### Single updates -/

theorem refl (s : State) : s.linkSame s := ⟨fun _ => rfl, rfl⟩

section
variable {s t u : State} (h : s.linkSame t)
include h

theorem trans (h' : t.linkSame u) : s.linkSame u :=
  ⟨fun ix => (h'.stat ix).trans (h.stat ix), (congrArg (fun x : LnkSt => { x with lastTlp := s.lnk.lastTlp }) h'.lnk).trans h.lnk⟩

theorem congr (hr : u.regs = t.regs) (hl : u.lnk = t.lnk) : s.linkSame u :=
  h.trans ⟨fun _ => by rw [State.rd, hr, State.rd], by rw [hl]⟩

theorem only {l : List Reg} {xs : List Trip} (ho : t.only u l xs) (hl : ∀ r ∈ l, r.n ≠ .PP_STAT) : s.linkSame u :=
  h.trans ⟨fun ix => ho.rd (fun m => hl _ m rfl) (by simp [tripNames]), by rw [ho.lnk]⟩

theorem pget {f : Fld} (hf : f.reg = .PP_STAT) (p : Nat) : t.pget f p = s.pget f p := by
  rw [State.pget, State.get_eq, hf, h.stat, ← hf]
  rfl

theorem set (f : Fld) (ix : List Nat) (v : Nat) (hf : f.reg ≠ .PP_STAT) : s.linkSame (t.set f ix v) :=
  h.only (t.only_set f ix v) (by simpa using hf)

theorem setB (f : Fld) (ix : List Nat) (b : Bool) (hf : f.reg ≠ .PP_STAT) : s.linkSame (t.setB f ix b) := h.set f ix _ hf

theorem pset (f : Fld) (p v : Nat) (hf : f.reg ≠ .PP_STAT) : s.linkSame (t.pset f p v) := h.set f _ v hf

theorem event (x : Trip) (b : Nat) : s.linkSame (t.event x b) := h.only (t.only_event x b) (by simp)

theorem count (r : Reg) (n : Nat) (ov : Option (Trip × Nat)) (hr : r.n ≠ .PP_STAT) : s.linkSame (t.count r n ov) :=
  h.only (t.only_count r n ov) (by simpa using hr)

theorem portEvent (p e b : Nat) : s.linkSame (t.portEvent p e b) := h.event _ b

theorem portCount (p c n : Nat) : s.linkSame (t.portCount p c n) := h.count _ n _ (by simp)

theorem emit (o : Out) : s.linkSame (t.emit o) := h.congr rfl rfl

theorem fwdUp (f : FwdSt → FwdSt) : s.linkSame (t.fwdUp f) := h.congr rfl rfl

theorem meshUp (f : Mesh → Mesh) : s.linkSame (t.meshUp f) := h.congr rfl rfl

theorem cfSet (fn : FnId) (f : CfgF) (v : Nat) : s.linkSame (t.cfSet fn f v) := h.congr rfl rfl

theorem touch (p : Nat) : s.linkSame (t.touch p) := h.trans ⟨fun _ => rfl, rfl⟩

theorem when (c : Bool) {f : State → State} (hf : s.linkSame (f t)) : s.linkSame (t.when c f) := by
  cases c
  · exact h
  · exact hf

theorem ite {v : State} (c : Prop) [Decidable c] (h' : s.linkSame v) : s.linkSame (if c then t else v) := by
  split
  · exact h
  · exact h'

theorem foldl {α : Type} (l : List α) (f : State → α → State) (hf : ∀ t a, s.linkSame t → s.linkSame (f t a)) : s.linkSame (l.foldl f t) :=
  List.foldlRecOn (motive := s.linkSame) l f h (fun t ht a _ => hf t a ht)

/-! ### Shapers, the mesh and messages of stations -/

theorem shPut (x : Nat) (st : ShSt) : s.linkSame (t.shPut x st) :=
  (h.congr (u := { t with shp := t.shp.put x st }) rfl rfl).set _ _ _ (by decide)

theorem shCharge (x len : Nat) : s.linkSame (t.shCharge x len) := by
  unfold State.shCharge
  split
  · exact h.shPut _ _
  · exact h

theorem shWait (x : Nat) (w : Bool) : s.linkSame (t.shWait x w) := (h.when _ (h.count _ _ _ (by simp))).setB _ _ _ (by decide)

theorem fillLocal (n : Nat) (k : VcId) : s.linkSame (t.fillLocal n k) := by
  induction n generalizing t with
  | zero => exact h
  | succ n ih =>
    unfold State.fillLocal
    split
    · exact h
    · dsimp only
      split
      · exact ih (h.meshUp _)
      · exact h

theorem injectAt (r : Nat) (p : Pkt) : s.linkSame (t.injectAt r p).1 := by
  unfold State.injectAt
  dsimp only
  split
  · exact h.event _ _
  · dsimp only
    exact ((h.meshUp _).fillLocal _ _).when _ (((h.meshUp _).fillLocal _ _).setB _ _ _ (by decide))

theorem sendMsg (x y : Nat) (m : IMsg) : s.linkSame (t.sendMsg x y m) := by
  unfold State.sendMsg
  split
  · exact h.meshUp _
  · exact h.injectAt _ _

/-! ### Tags, trackers and leases -/

theorem updTombs (p : Nat) : s.linkSame (t.updTombs p) := h.pset _ _ _ (by decide)

theorem setTag (p tag : Nat) (st : TagSt) : s.linkSame (t.setTag p tag st) := (h.fwdUp _).updTombs p

theorem tomb (p tag : Nat) : s.linkSame (t.tomb p tag) := h.setTag _ _ _

theorem endTombs (p : Nat) : s.linkSame (t.endTombs p) := (h.fwdUp _).updTombs p

theorem goLive (p : Pkt) : s.linkSame (t.goLive p) := by
  unfold State.goLive
  split
  · exact (h.setTag _ _ _).ite _ h
  · exact h

theorem updTrkStat (x : Nat) : s.linkSame (t.updTrkStat x) := by
  unfold State.updTrkStat
  split
  · have hset := (h.set F.PT_TRK_STAT_LIVE [x] (t.fwd.trk.filter (fun e => e.1.1 == x)).length (by decide)).setB F.PT_TRK_STAT_FULL [x]
      (decide (16384 ≤ (t.fwd.trk.filter (fun e => e.1.1 == x)).length + (t.fwd.retired.filter (fun e => e.1 == x)).length)) (by decide)
    exact hset.when _ (hset.event _ _)
  · exact h

theorem putTrk (x i : Nat) (e : Option TrkE) : s.linkSame (t.putTrk x i e) := (h.fwdUp _).updTrkStat x

theorem setLease (x p : Nat) (l : List Nat) : s.linkSame (t.setLease x p l) := h.fwdUp _

/-! ### Gates and packets -/

theorem gateRefresh (k : SKey) : s.linkSame (t.gateRefresh k) := h.congr rfl rfl

theorem launch (p : Pkt) : s.linkSame (t.launch p) := by
  have hinj := h.injectAt (t.exitRouter (pktStn p) p.egress) p
  unfold State.launch
  split <;> rename_i heq <;> rw [heq] at hinj
  · exact hinj
  · exact hinj.fwdUp _

theorem sendPkt (p : Pkt) : s.linkSame (t.sendPkt p) := by
  unfold State.sendPkt
  dsimp only
  split
  · exact (((h.fwdUp _).shCharge _ _).launch _).ite _ (((h.fwdUp _).fwdUp _).shWait _ _)
  · exact (h.fwdUp _).launch _

theorem holderCpl (p : Pkt) : s.linkSame (t.holderCpl p).1 := by
  unfold State.holderCpl
  split
  · exact h
  · split
    · exact h
    · dsimp only
      split
      · dsimp only
        exact h.when _ (h.setLease _ _ _)
      · split
        · dsimp only
          split
          · exact (h.putTrk _ _ _).setLease _ _ _
          · exact h.putTrk _ _ _
        · dsimp only
          exact h.putTrk _ _ _

theorem of_holderCpl {p : Pkt} {q : Option Pkt} (he : t.holderCpl p = (u, q)) : s.linkSame u := by
  have hcpl := h.holderCpl p
  rwa [he] at hcpl

theorem releaseOne (p : Pkt) : s.linkSame (t.releaseOne p) := by
  unfold State.releaseOne
  dsimp only
  refine State.linkSame.sendMsg ?_ _ _ _
  split <;> rename_i heq <;> have hcpl := (((h.fwdUp _).goLive p).gateRefresh p.key).of_holderCpl heq
  · exact (hcpl.putTrk _ _ _).ite _ (hcpl.fwdUp _)
  · exact hcpl

theorem releaseAll (p c n : Nat) : s.linkSame (t.releaseAll p c n) := by
  induction n generalizing t with
  | zero => exact h
  | succ n ih =>
    unfold State.releaseAll
    split
    · exact ih (h.releaseOne _)
    · exact h

theorem gateRun (p c : Nat) : s.linkSame (t.gateRun p c) := h.releaseAll _ _ _

/-! ### The scheduler -/

theorem setDeficit (p c v : Nat) : s.linkSame (t.setDeficit p c v) := h.fwdUp _

theorem drr (p : Nat) (rnd : List Nat) (n c : Nat) : s.linkSame (t.drr p rnd n c).1 := by
  induction n generalizing t c with
  | zero => exact h
  | succ n ih =>
    unfold State.drr
    split
    · dsimp only
      exact (h.setDeficit _ _ _).fwdUp _
    · have hown := h.setDeficit p c (min (if (t.sq p c).isEmpty then 0 else t.deficitOf p c) (t.weight p c * 256 + 4160))
      exact ih ((hown.setDeficit _ _ _).ite _ hown) _

theorem pickClass (p : Nat) : s.linkSame (t.pickClass p).1 := by
  unfold State.pickClass
  split
  · exact h
  · split
    · exact h
    · dsimp only
      split
      · exact h
      · exact h
      · exact h.drr _ _ _ _

theorem bwAdd (p k n : Nat) : s.linkSame (t.bwAdd p k n) := by
  unfold State.bwAdd
  dsimp only
  split
  · exact (h.touch p).congr rfl rfl
  · exact h.touch p

theorem countSent (p n : Nat) : s.linkSame (t.countSent p n) := ((h.portCount _ _ _).portCount _ _ _).bwAdd _ _ _

theorem transmit (p c : Nat) : s.linkSame (t.transmit p c) := by
  unfold State.transmit
  split
  · exact h
  · rename_i q rest _
    have hsent := (((h.fwdUp (fun f => { f with shq := f.shq.put (p, c) rest, stallAt := f.stallAt.put p t.now })).shCharge (4 * p + c)
      q.bytes).countSent p q.bytes).shWait (4 * p + c) (!rest.isEmpty)
    refine State.linkSame.gateRun ?_ p c
    split
    · exact hsent.fwdUp _
    · split
      · exact (hsent.fwdUp _).emit _
      · exact hsent

theorem schedule (p : Nat) : s.linkSame (t.schedule p) := by
  have hpick := h.pickClass p
  unfold State.schedule
  split <;> rename_i heq <;> rw [heq] at hpick
  · exact hpick.transmit p _
  · exact hpick

/-! ### Completions made and packets dropped -/

theorem answerTlp (p c : Nat) (x : Tlp) : s.linkSame (t.answerTlp p c x) := h.fwdUp _

theorem synthAt (p x i : Nat) : s.linkSame (t.synthAt p x i) := by
  unfold State.synthAt
  split
  · exact h
  · dsimp only
    split
    · exact (h.portCount _ _ _).foldl _ _ (fun _ _ ht => ht.sendPkt _)
    · exact (h.portCount _ _ _).putTrk _ _ _

theorem synthSelf (x i : Nat) : s.linkSame (t.synthSelf x i) := by
  unfold State.synthSelf
  split
  · exact h
  · dsimp only
    split
    · exact ((h.putTrk _ _ _).portCount _ _ _).foldl _ _ (fun _ _ ht => ht.answerTlp _ _ _)
    · exact h.putTrk _ _ _

theorem tombLive (p : Nat) (q : Nat → Nat → Bool) : s.linkSame (t.tombLive p q) :=
  h.foldl _ _ (fun _ _ ht => (ht.synthAt _ _ _).tomb _ _)

theorem dropOne (g : Bool) (p : Pkt) : s.linkSame (t.dropOne g p) := by
  have htail : s.linkSame (if g then t.sendMsg (p.egress / 4) (pktStn p) (.tailConf p.srcId p.egress p.sc p.seq) else t) := (h.sendMsg _ _ _).ite _ h
  unfold State.dropOne
  dsimp only
  split
  · exact (htail.portCount _ _ _).fwdUp _
  · exact ((htail.synthAt _ _ _).tomb _ _).ite _ htail
  · exact (htail.holderCpl _).ite _ htail
  · exact htail

theorem dropQueued (p : Nat) (q : Pkt → Bool) : s.linkSame (t.dropQueued p q) :=
  h.foldl _ _ (fun _ _ ht =>
    ((ht.fwdUp _).foldl _ _ (fun _ _ hg => (hg.dropOne true _).gateRefresh _)).foldl _ _ (fun _ _ hq => hq.dropOne false _))

/-! ### What follows a change of a link -/

theorem updUpL0 (p : Nat) : s.linkSame (t.updUpL0 p) := by
  unfold State.updUpL0
  split
  · exact h.setB _ _ _ (by decide)
  · exact h

theorem setDll (v sl : Nat) (on : Bool) : s.linkSame (t.setDll v sl on) := by
  have hset := ((h.cfSet (.vdsp v sl) .dllActive (bit on)).cfSet (.vdsp v sl) .dllChanged 1).setB F.VST_SLOT_LINK_ACTIVE [v, sl] on (by decide)
  exact h.ite _ (hset.when _ (hset.emit _))

theorem refreshDll (v sl : Nat) : s.linkSame (t.refreshDll v sl) := h.setDll _ _ _

theorem reportLink (p : Nat) : s.linkSame (t.reportLink p) := by
  unfold State.reportLink
  split
  · exact h.emit _
  · exact h

theorem refreshPort (p : Nat) : s.linkSame (t.refreshPort p) := (h.foldl _ _ (fun _ _ ht => ht.refreshDll _ _)).reportLink p

theorem releasePort (p : Nat) : s.linkSame (t.releasePort p) := by
  have hclear := List.foldlRecOn (motive := s.linkSame)
    [F.PT_CONT_CONTAINED, F.PT_CONT_C_LINK, F.PT_CONT_C_STALL, F.PT_CONT_C_IDE, F.PT_CONT_C_MESH] (fun s f => s.pset f p 0) h
    (fun t ht f hf => ht.pset f p 0 (by
      simp only [List.mem_cons, List.not_mem_nil, or_false] at hf
      rcases hf with rfl | rfl | rfl | rfl | rfl <;> decide))
  exact ((hclear.fwdUp _).portEvent _ _ _).ite _ h

theorem updTagMode (p : Nat) : s.linkSame (t.updTagMode p) := h.pset _ _ _ (by decide)

theorem updSaf (p : Nat) : s.linkSame (t.updSaf p) := h.pset _ _ _ (by decide)

theorem advertise (p : Nat) (b : Bool) : s.linkSame (t.advertise p b) := h.foldl _ _ (fun _ _ ht => ht.emit _)

theorem sendHello (j i : Nat) : s.linkSame (t.sendHello j i) := (h.emit _).touch _

theorem detectPol (p inv : Nat) : s.linkSame (t.detectPol p inv) := h.foldl _ _ (fun _ _ ht => ht.setB _ _ _ (by decide))

theorem trainLanes (p rate width : Nat) (rev : Bool) : s.linkSame (t.trainLanes p rate width rev) :=
  h.foldl _ _ (fun _ _ ht => (((ht.set _ _ _ (by decide)).setB _ _ _ (by decide)).setB _ _ _ (by decide)).setB _ _ _ (by decide))

end

end State.linkSame

end Sys2Proof.Machine
end

section
/-!
SUPPORT. ASPM L1, its substates, L0p and latency tolerance (R82 to R87).
-/

namespace Sys2Proof.Machine

/-! ### Configuration fields -/

@[simp] theorem State.cf_cfSet_same (s : State) (fn : FnId) (f : CfgF) (v : Nat) : (s.cfSet fn f v).cf fn f = v := AMap.lookD_put_same ..

theorem State.cf_cfSet_ne (s : State) {fn fn' : FnId} {f f' : CfgF} (v : Nat) (h : (fn', f') ≠ (fn, f)) :
    (s.cfSet fn f v).cf fn' f' = s.cf fn' f' := AMap.lookD_put_ne _ _ _ h

/-! ### L1 -/

section
variable (s : State) (p : Nat)

theorem State.enterL1_state : (s.enterL1 p).pget F.PP_STAT_LINK_STATE p = 6 := State.pget_pset_same _ (by decide) (by decide)

theorem State.enterL1_l1Width : (s.enterL1 p).lnk.l1Width.look p = some (s.pget F.PP_STAT_WIDTH p) := AMap.look_put_same ..

theorem State.only_enterL1 : ({ s with lnk := { s.lnk with l1Width := (s.enterL1 p).lnk.l1Width } } : State).only (s.enterL1 p) [ppStat p] [] :=
  have h := State.only_trans (State.only_pset (s.lnkUp (fun x => { x with l1Width := x.l1Width.put p (s.pget F.PP_STAT_WIDTH p) })) F.PP_STAT_WIDTH p
    0) (State.only_pset _ F.PP_STAT_LINK_STATE p 6)
  State.only_mono h (by simp) (by simp)

/-- The link leaves L1 at the width that it kept (R82). -/
def State.leaveL1 : State :=
  (((s.lnkUp (fun x => { x with l1Width := x.l1Width.del p })).pset F.PP_STAT_WIDTH p (s.lnk.l1Width.lookD p 0)).pset F.PP_STAT_L1_SUB p 0).pset
    F.PP_STAT_LINK_STATE p (if s.pget F.PP_STAT_L0P_WIDTH p = s.lnk.l1Width.lookD p 0 then 3 else 4)

theorem State.leaveL1_state :
    (s.leaveL1 p).pget F.PP_STAT_LINK_STATE p = if s.pget F.PP_STAT_L0P_WIDTH p = s.lnk.l1Width.lookD p 0 then 3 else 4 :=
  State.pget_pset_same _ (by decide) (by split <;> decide)

theorem State.leaveL1_sub : (s.leaveL1 p).pget F.PP_STAT_L1_SUB p = 0 := by
  rw [State.leaveL1, State.pget_pset_disj _ _ _ (by decide)]
  exact State.pget_pset_same _ (by decide) (by decide)

variable {s p} in
theorem State.leaveL1_width (h : s.lnk.l1Width.lookD p 0 < 32) : (s.leaveL1 p).pget F.PP_STAT_WIDTH p = s.lnk.l1Width.lookD p 0 := by
  rw [State.leaveL1, State.pget_pset_disj _ _ _ (by decide), State.pget_pset_disj _ _ _ (by decide)]
  exact State.pget_pset_same _ (by decide) h

theorem State.leaveL1_l1Width : (s.leaveL1 p).lnk.l1Width.look p = none := AMap.look_del_same ..

end

section
variable {s : State} {port : Fin 144} (hs : s.sealed = false)
include hs

theorem execL1IdleTimeout_idle {v : Nat} (hv : s.vsOfPort port.val = some v) (hrole : s.role port.val = 0) (hl0 : s.inL0 port.val = true)
    (hen : s.cf (.up v) .aspmL1 = 1) (hidle : s.pget F.PP_PM_L1_IDLE port.val ≠ 0)
    (hlast : s.lnk.lastTlp.lookD port.val 0 + s.pget F.PP_PM_L1_IDLE port.val * 1000 ≤ s.now)
    (htrk : ∀ e ∈ s.fwd.trk, ¬ (e.1.1 = port.val / 4 ∧ e.2.slot = port.val % 4)) :
    execL1IdleTimeout port s = .next (s.enterL1 port.val) := by
  have hnone : s.fwd.trk.any (fun e => e.1.1 == port.val / 4 && e.2.slot == port.val % 4) = false := by
    rw [List.any_eq_false]
    simpa using htrk
  simp [execL1IdleTimeout, s.live_next _ hs, hv, hrole, hl0, hen, hidle, hlast, hnone]

theorem execL1EntryRequest_bound {v sl : Nat} (hb : s.portBinding port.val = some (v, sl)) (hrole : s.role port.val = 1)
    (hl0 : s.inL0 port.val = true) (hen : s.cf (.vdsp v sl) .aspmL1 = 1) :
    execL1EntryRequest port s = .next (s.enterL1 port.val) := by
  simp [execL1EntryRequest, s.live_next _ hs, hb, hrole, hl0, hen]

theorem execL1Exit_inL1 (hst : s.pget F.PP_STAT_LINK_STATE port.val = 6) :
    execL1Exit port s = .next ((s.leaveL1 port.val).schedule port.val) := by
  rw [execL1Exit, s.live_next _ hs, if_pos hst]
  rfl

end

/-! ### CLKREQ# -/

/-- CLKREQ# as its pin, and in L1 the substate that it asks for (R83). -/
def State.clkreqSet (s : State) (p : Nat) (high l12 : Bool) : State :=
  let t : State := { s with cpw := { s.cpw with clkreq := s.cpw.clkreq.put p high } }
  if s.pget F.PP_STAT_LINK_STATE p = 6 then t.pset F.PP_STAT_L1_SUB p (if high then (if l12 then 2 else 1) else 0) else t

theorem execClkreqNChange_drives {s : State} {port : Fin 144} (hs : s.sealed = false) (hd : s.drives port.val false = true) (high l12 : Bool) :
    execClkreqNChange port high l12 s = .next (s.clkreqSet port.val high l12) := by
  rw [execClkreqNChange, s.live_next _ hs, if_pos hd]
  rfl

section
variable (s : State) (p : Nat) (high l12 : Bool)

theorem State.clkreqSet_clkreq : (s.clkreqSet p high l12).cpw.clkreq = s.cpw.clkreq.put p high := by
  unfold State.clkreqSet
  dsimp only
  split <;> rfl

theorem State.only_clkreqSet :
    ({ s with cpw := { s.cpw with clkreq := (s.clkreqSet p high l12).cpw.clkreq } } : State).only (s.clkreqSet p high l12) [ppStat p] [] := by
  rw [s.clkreqSet_clkreq]
  unfold State.clkreqSet
  dsimp only
  split
  · exact State.only_pset _ F.PP_STAT_L1_SUB p _
  · exact State.only_refl _ _ _

variable {s p}

theorem State.clkreqSet_inL1 (h : s.pget F.PP_STAT_LINK_STATE p = 6) :
    (s.clkreqSet p high l12).pget F.PP_STAT_L1_SUB p = if high then (if l12 then 2 else 1) else 0 := by
  rw [State.clkreqSet, if_pos h]
  exact State.pget_pset_same _ (by decide) (by cases high <;> cases l12 <;> decide)

theorem State.clkreqSet_keeps (h : s.pget F.PP_STAT_LINK_STATE p ≠ 6) : s.keeps (s.clkreqSet p high l12) [] [] := by
  rw [State.clkreqSet, if_neg h]
  exact fun _ _ _ => rfl

end

/-! ### L0p -/

section
variable (s : State) (p w : Nat)

theorem State.only_l0pSet : s.only (s.l0pSet p w) [ppStat p] [] :=
  State.only_mono (State.only_trans (s.only_pset F.PP_STAT_L0P_WIDTH p w) (State.only_pset _ F.PP_STAT_LINK_STATE p _)) (by simp) (by simp)

theorem State.l0pSet_state : (s.l0pSet p w).pget F.PP_STAT_LINK_STATE p = if w = s.pget F.PP_STAT_WIDTH p then 3 else 4 :=
  State.pget_pset_same _ (by decide) (by split <;> decide)

variable {s p w} in
theorem State.l0pSet_width (h : w < 32) : (s.l0pSet p w).pget F.PP_STAT_L0P_WIDTH p = w := by
  rw [State.l0pSet, State.pget_pset_disj _ _ _ (by decide)]
  exact State.pget_pset_same _ (by decide) h

variable {s p} in
theorem State.l0pFull_of_busy {pct : Nat} (h : 75 < pct) : s.l0pFull p pct = true := by
  simp [State.l0pFull, h]

/-- The load of a window is noted before the width is chosen. -/
def State.noteUtil (pct : Nat) : State := s.lnkUp (fun x => { x with util := x.util.put p pct })

end

section
variable {s : State} {port : Fin 144} (hs : s.sealed = false) (hl0 : s.inL0 port.val = true) (hflit : s.pget F.PP_STAT_FLIT port.val = 1)
include hs hl0 hflit

theorem execL0pWindow_eq (pct : Fin 101) (hen : s.pget F.PP_PM_L0P_EN port.val = 1) :
    execL0pWindow port pct s = .next (
      if s.l0pFull port.val pct.val then (s.noteUtil port.val pct.val).l0pSet port.val (s.pget F.PP_STAT_WIDTH port.val)
      else if pct.val < 25 ∧ s.l0pMin port.val ≤ s.pget F.PP_STAT_L0P_WIDTH port.val / 2 ∧ 2 ≤ s.pget F.PP_STAT_L0P_WIDTH port.val then
        (s.noteUtil port.val pct.val).l0pSet port.val (s.pget F.PP_STAT_L0P_WIDTH port.val / 2)
      else s.noteUtil port.val pct.val) := by
  rw [execL0pWindow, s.live_next _ hs, if_pos ⟨(s.pon_iff _ _).2 hen, hl0, (s.pon_iff _ _).2 hflit⟩]
  rfl

theorem execL0pPartnerRequest_lawful {width : Fin 17} (hw : width.val ∈ [1, 2, 4, 8, 16]) (hle : width.val ≤ s.pget F.PP_STAT_WIDTH port.val)
    (hmin : s.l0pMin port.val ≤ width.val)
    (hfull : width.val = s.pget F.PP_STAT_WIDTH port.val ∨ s.l0pFull port.val (s.lnk.util.lookD port.val 0) = false) :
    execL0pPartnerRequest port width s = .next (s.l0pSet port.val width.val) := by
  rw [execL0pPartnerRequest, s.live_next _ hs,
    if_pos ⟨hl0, (s.pon_iff _ _).2 hflit, List.contains_iff_mem.2 hw, hle, hmin, hfull⟩]

end

/-! ### Latency tolerance -/

/-- One place of a range satisfies a test. -/
theorem below_eq_single {n a : Nat} {q : Nat → Bool} (ha : a < n) (hq : q a = true) (h : ∀ x < n, x ≠ a → q x = false) : below n q = [a] := by
  have hfilter : below n q = (List.range n).filter (· == a) :=
    List.filter_congr (fun x hx => by
      by_cases hxa : x = a
      · simp [hxa, hq]
      · simp [hxa, h x (List.mem_range.1 hx) hxa])
  rw [hfilter, List.filter_beq, List.count_eq_one_of_mem List.nodup_range (List.mem_range.2 ha)]
  rfl

section
variable {s : State} {v sl n : Nat}

/-- The tolerance of the only slot in use is sent on, less 1 us (R87). -/
theorem State.updLtr_single (hkind : s.get F.VST_SLOT_KIND [v, sl] ≠ 0) (hsl : sl < 32)
    (hone : ∀ x < 32, x ≠ sl → s.get F.VST_SLOT_KIND [v, x] = 0) (hltr : s.cf (.vdsp v sl) .ltr = n + 1)
    (hsent : s.cf (.up v) .ltrSent ≠ n + 1) :
    s.updLtr v = (s.cfSet (.up v) .ltrSent (n + 1)).emit
      (.tlp (s.upPort v) { kind := .msg, code := 0x10, data := leBytes 8 (n - 1000) }) := by
  have hslots : below 32 (fun x => s.get F.VST_SLOT_KIND [v, x] != 0) = [sl] :=
    below_eq_single hsl (by simpa using hkind) (fun x hx hne => by simp [hone x hx hne])
  simp [State.updLtr, hslots, hltr, hsent.symm]

/-- A slot's tolerance, and the message that sends it on. -/
def State.ltrPassed (s : State) (v sl n : Nat) : State :=
  ((s.cfSet (.vdsp v sl) .ltr (n + 1)).cfSet (.up v) .ltrSent (n + 1)).emit
    (.tlp (s.upPort v) { kind := .msg, code := 0x10, data := leBytes 8 (n - 1000) })

theorem execLtrReceived_single {port : Fin 144} (hs : s.sealed = false) (hb : s.boundSlots port.val = [(v, sl)])
    (hkind : s.get F.VST_SLOT_KIND [v, sl] ≠ 0) (hsl : sl < 32) (hone : ∀ x < 32, x ≠ sl → s.get F.VST_SLOT_KIND [v, x] = 0)
    (hn : n ≠ s.cf (.up v) .ltrSent - 1) (hmin : 1000 ≤ n) : execLtrReceived port (some n) s = .next (s.ltrPassed v sl n) := by
  have hmax : max 1001 (n + 1) = n + 1 := by omega
  have hsent : (s.cfSet (.vdsp v sl) .ltr (n + 1)).cf (.up v) .ltrSent ≠ n + 1 := by
    rw [State.cf_cfSet_ne _ _ (by simp)]
    omega
  have hltr := State.updLtr_single (s := s.cfSet (.vdsp v sl) .ltr (n + 1)) hkind hsl hone (s.cf_cfSet_same _ _ _) hsent
  rw [execLtrReceived, s.live_next _ hs]
  dsimp only
  rw [hb, hmax]
  exact congrArg _ hltr

end

/-! ### The statement -/

/-- Settles O15, command by command; the scheduler that runs after L1 touches neither the link's state nor its records. -/
theorem linkPowerManagement : Obligations.link_power_management := by
  unfold Obligations.link_power_management
  refine ⟨?idle, ?request, ?exit, ?clkreq, ?window, ?partner, ?ltr⟩
  case idle =>
    intro s port v hs hv hrole hl0 hen hidle hlast htrk
    exact ⟨_, execL1IdleTimeout_idle hs hv hrole hl0 hen hidle hlast htrk, s.enterL1_state _, s.enterL1_l1Width _, s.only_enterL1 _⟩
  case request =>
    intro s port v sl hs hb hrole hl0 hen
    exact ⟨_, execL1EntryRequest_bound hs hb hrole hl0 hen, s.enterL1_state _, s.enterL1_l1Width _, s.only_enterL1 _⟩
  case exit =>
    intro s port hs hst hw
    have hsame := (State.linkSame.refl (s.leaveL1 port.val)).schedule port.val
    refine ⟨_, execL1Exit_inL1 hs hst, ?_, ?_, ?_, ?_⟩
    · exact (hsame.pget rfl _).trans (State.leaveL1_width hw)
    · exact (hsame.pget rfl _).trans (s.leaveL1_sub _)
    · exact (hsame.pget rfl _).trans (s.leaveL1_state _)
    · rw [show _ = (s.leaveL1 port.val).lnk.l1Width from congrArg LnkSt.l1Width hsame.lnk]
      exact s.leaveL1_l1Width _
  case clkreq =>
    intro s port high l12 hs hd
    refine ⟨_, execClkreqNChange_drives hs hd high l12, ?_, State.clkreqSet_inL1 high l12, State.clkreqSet_keeps high l12, s.only_clkreqSet ..⟩
    rw [s.clkreqSet_clkreq]
    exact AMap.look_put_same ..
  case window =>
    intro s port pct hs hen hl0 hflit
    refine ⟨_, execL0pWindow_eq hs hl0 hflit pct hen, ?_⟩
    have hset {w : Nat} (hw : w < 32) := State.l0pSet_width (s := s.noteUtil port.val pct.val) (p := port.val) hw
    have hframe (w : Nat) := (s.noteUtil port.val pct.val).only_l0pSet port.val w
    by_cases hfull : s.l0pFull port.val pct.val = true
    · rw [if_pos hfull]
      refine ⟨fun _ => ⟨hset (s.pget_lt F.PP_STAT_WIDTH _), ?_⟩, ?_, ?_, ?_, ?_⟩
      · exact (State.l0pSet_state ..).trans (if_pos rfl)
      · exact fun _ _ h => absurd (hfull.symm.trans h) (by decide)
      · exact fun _ h => absurd (hfull.symm.trans h) (by decide)
      · exact fun _ h => absurd (hfull.symm.trans h) (by decide)
      · rw [(hframe _).lnk]
        exact hframe _
    · rw [if_neg hfull]
      have hidle : pct.val ≤ 75 := Nat.le_of_not_lt (fun h => hfull (State.l0pFull_of_busy h))
      have hhalf : s.pget F.PP_STAT_L0P_WIDTH port.val / 2 < 32 := (Nat.div_le_self _ _).trans_lt (s.pget_lt F.PP_STAT_L0P_WIDTH _)
      split
      next h =>
        refine ⟨fun h75 => absurd hidle (by omega), fun h25 => absurd h.1 (by omega), fun _ _ _ _ => hset hhalf,
          fun _ _ hlow => absurd h.2.1 (by omega), ?_⟩
        rw [(hframe _).lnk]
        exact hframe _
      next h =>
        exact ⟨fun h75 => absurd hidle (by omega), fun _ _ _ _ _ _ => rfl, fun h25 _ h2 hmin => absurd ⟨h25, hmin, h2⟩ h,
          fun _ _ _ _ _ _ => rfl, State.only_refl _ _ _⟩
  case partner =>
    intro s port width hs hl0 hflit hw hle hmin hfull
    exact ⟨_, execL0pPartnerRequest_lawful hs hl0 hflit hw hle hmin hfull, State.l0pSet_width (by omega), s.l0pSet_state .., s.only_l0pSet ..⟩
  case ltr =>
    intro s port v sl n hs hb hkind hsl hone hn hmin
    refine ⟨_, execLtrReceived_single hs hb hkind hsl hone hn hmin, ?_, ?_, rfl, ?_⟩
    · exact (State.cf_cfSet_ne _ _ (by simp)).trans (s.cf_cfSet_same _ _ _)
    · exact State.cf_cfSet_same _ _ _ _
    · exact State.only_emit { s with cfg := (s.ltrPassed v sl n).cfg } _

end Sys2Proof.Machine
end

section
/-!
SUPPORT. Training, loopback and the loss of a link (R74 to R79, R58, R90).
-/

namespace Sys2Proof.Machine

/-! ### A link that trained -/

section
variable (s : State) (p rate width : Nat) (flit rev : Bool)

/-- PP_STAT reports what was trained (R74, R78). -/
def State.trainReport : State :=
  (((((s.pset F.PP_STAT_LINK_STATE p 3).pset F.PP_STAT_RATE p rate).pset F.PP_STAT_WIDTH p width).pset F.PP_STAT_FLIT p (bit flit)).pset
    F.PP_STAT_L0P_WIDTH p width).pset F.PP_STAT_L1_SUB p 0

/-- The lanes follow, and DEGRADED stays for a cause of this training alone (R76). -/
def State.linkTrained : State :=
  (((s.trainReport p rate width flit).trainLanes p rate width rev).when (!s.lnk.degraded.contains p) (·.pset F.PP_STAT_DEGRADED p 0)).lnkUp
    (fun x => { x with degraded := x.degraded.filter (· != p), lastTlp := x.lastTlp.put p s.now })

/-- What follows in the training moves traffic and its registers. -/
theorem State.linkSame_linkUp (scaled : Bool) : (s.linkTrained p rate width flit rev).linkSame (s.linkUp p rate width flit rev scaled) := by
  have hmodes := ((State.linkSame.refl (s.linkTrained p rate width flit rev)).updTagMode p).updSaf p
  have hnew := (hmodes.when (f := fun s => (s.advertise p scaled).portEvent p 0 0) (!decide (s.pget F.PP_STAT_LINK_STATE p = 5))
    ((hmodes.advertise p scaled).portEvent p 0 0)).updUpL0 p
  unfold State.linkUp
  dsimp only
  split
  · exact (hnew.sendHello _ _).ite _ hnew
  · refine State.linkSame.schedule (State.linkSame.refreshPort (State.linkSame.releasePort ?_ p) p) p
    exact hnew.when (f := fun s => s.fwdUp (fun f => { f with relWait := addNew f.relWait p })) _ (hnew.fwdUp _)

/-- Of the link's fields the lanes' part of the training changes none but DEGRADED. -/
theorem State.linkTrained_pget {f : Fld} (hf : f.reg = .PP_STAT ∧ (f.lo + f.w ≤ 13 ∨ 14 ≤ f.lo) ∧ f.lo + f.w ≤ 64) :
    (s.linkTrained p rate width flit rev).pget f p = (s.trainReport p rate width flit).pget f p := by
  have hlanes := ((State.linkSame.refl (s.trainReport p rate width flit)).trainLanes p rate width rev).pget hf.1 p
  rw [State.linkTrained, State.pget_lnkUp, State.when]
  split
  · exact (State.pget_pset_disj _ _ _ (.inr hf.2)).trans hlanes
  · exact hlanes

variable {p rate width} in
theorem State.trainReport_fields (hr : rate < 8) (hw : width < 32) :
    (s.trainReport p rate width flit).pget F.PP_STAT_LINK_STATE p = 3 ∧ (s.trainReport p rate width flit).pget F.PP_STAT_RATE p = rate ∧
      (s.trainReport p rate width flit).pget F.PP_STAT_WIDTH p = width ∧ (s.trainReport p rate width flit).pget F.PP_STAT_FLIT p = bit flit ∧
      (s.trainReport p rate width flit).pget F.PP_STAT_L0P_WIDTH p = width ∧ (s.trainReport p rate width flit).pget F.PP_STAT_L1_SUB p = 0 := by
  unfold State.trainReport
  have hb : bit flit < 2 := by cases flit <;> decide
  refine ⟨?_, ?_, ?_, ?_, ?_, State.pget_pset_same _ (by decide) (by decide)⟩
  · simp (disch := decide) only [State.pget_pset_disj]
    exact State.pget_pset_same _ (by decide) (by decide)
  · simp (disch := decide) only [State.pget_pset_disj]
    exact State.pget_pset_same _ (by decide) hr
  · simp (disch := decide) only [State.pget_pset_disj]
    exact State.pget_pset_same _ (by decide) hw
  · simp (disch := decide) only [State.pget_pset_disj]
    exact State.pget_pset_same _ (by decide) hb
  · simp (disch := decide) only [State.pget_pset_disj]
    exact State.pget_pset_same _ (by decide) hw

theorem State.trainReport_degraded : (s.trainReport p rate width flit).pget F.PP_STAT_DEGRADED p = s.pget F.PP_STAT_DEGRADED p := by
  unfold State.trainReport
  simp (disch := decide) only [State.pget_pset_disj]

theorem State.linkTrained_degraded : (s.linkTrained p rate width flit rev).pget F.PP_STAT_DEGRADED p =
    if p ∈ s.lnk.degraded then s.pget F.PP_STAT_DEGRADED p else 0 := by
  have hlanes := ((State.linkSame.refl (s.trainReport p rate width flit)).trainLanes p rate width rev).pget (f := F.PP_STAT_DEGRADED) rfl p
  rw [State.linkTrained, State.pget_lnkUp]
  by_cases hd : p ∈ s.lnk.degraded
  · rw [if_pos hd]
    simpa [hd, hlanes] using s.trainReport_degraded p rate width flit
  · rw [if_neg hd]
    simpa [hd] using State.pget_pset_same _ (by decide) (by decide)

theorem State.linkTrained_lnk : (s.linkTrained p rate width flit rev).lnk.degraded = s.lnk.degraded.filter (· != p) ∧
    (s.linkTrained p rate width flit rev).lnk.badLanes = s.lnk.badLanes := by
  have hlanes := ((State.linkSame.refl (s.trainReport p rate width flit)).trainLanes p rate width rev).lnk
  have hdeg : _ = s.lnk.degraded := congrArg LnkSt.degraded hlanes
  have hbad : _ = s.lnk.badLanes := congrArg LnkSt.badLanes hlanes
  dsimp only at hdeg hbad
  rw [State.linkTrained]
  cases !s.lnk.degraded.contains p
  · exact ⟨congrArg (List.filter (· != p)) hdeg, hbad⟩
  · exact ⟨congrArg (List.filter (· != p)) hdeg, hbad⟩

end

/-! ### A link that is gone -/

section
variable (s : State) (p next : Nat)

/-- The fields of a link that is gone (R79, R90). -/
def State.linkZeroed : State :=
  (((((((s.pset F.PP_STAT_LINK_STATE p next).pset F.PP_STAT_WIDTH p 0).pset F.PP_STAT_RATE p 7).pset F.PP_STAT_FLIT p 0).pset
    F.PP_STAT_L0P_WIDTH p 0).pset F.PP_STAT_L1_SUB p 0).pset F.PP_STAT_IDE_SECURE p 0).pset F.PT_FWD_CTL_TAG_MODE p 0

/-- With them go the partner's credits and the records of the link's widths. -/
def State.forgetLink : State :=
  { s with
    fwd := { s.fwd with fc := s.fwd.fc.filter (fun e => e.1.1 != p) },
    lnk := { s.lnk with l1Width := s.lnk.l1Width.del p, util := s.lnk.util.del p } }

/-- A link that is gone, before the virtual switch and the events follow. -/
def State.linkCleared : State := (s.linkZeroed p next).forgetLink p

theorem State.pget_forgetLink (f : Fld) (q : Nat) : (s.forgetLink p).pget f q = s.pget f q := rfl

theorem State.linkSame_linkGone : (s.linkCleared p next).linkSame (s.linkGone p next) := by
  have h := (State.linkSame.refl (s.linkCleared p next)).updUpL0 p
  exact h.when (f := (·.portEvent p 0 1)) _ (h.portEvent p 0 1)

/-- The fields of PP_STAT of a link that is gone. -/
def State.linkIsGone (u : State) (p next : Nat) : Prop :=
  u.pget F.PP_STAT_LINK_STATE p = next ∧ u.pget F.PP_STAT_WIDTH p = 0 ∧ u.pget F.PP_STAT_RATE p = 7 ∧ u.pget F.PP_STAT_FLIT p = 0 ∧
    u.pget F.PP_STAT_L0P_WIDTH p = 0 ∧ u.pget F.PP_STAT_IDE_SECURE p = 0

theorem State.linkIsGone.linkSame {s u : State} {p next : Nat} (h : s.linkIsGone p next) (hu : s.linkSame u) : u.linkIsGone p next := by
  rw [State.linkIsGone, hu.pget rfl, hu.pget rfl, hu.pget rfl, hu.pget rfl, hu.pget rfl, hu.pget rfl]
  exact h

variable {next} in
theorem State.linkIsGone_linkCleared (hn : next < 16) : (s.linkCleared p next).linkIsGone p next := by
  rw [State.linkIsGone, State.linkCleared, State.pget_forgetLink, State.pget_forgetLink, State.pget_forgetLink, State.pget_forgetLink,
    State.pget_forgetLink, State.pget_forgetLink, State.linkZeroed]
  simp (disch := decide) only [State.pget_pset_disj]
  refine ⟨State.pget_pset_same _ (by decide) hn, State.pget_pset_same _ (by decide) (by decide), State.pget_pset_same _ (by decide) (by decide),
    State.pget_pset_same _ (by decide) (by decide), State.pget_pset_same _ (by decide) (by decide), State.pget_pset_same _ (by decide) (by decide)⟩

variable {next} in
theorem State.linkIsGone_linkGone (hn : next < 16) : (s.linkGone p next).linkIsGone p next :=
  (s.linkIsGone_linkCleared p hn).linkSame (s.linkSame_linkGone p next)

/-- The loss of a downstream port's link ends with the link gone, to Detect or Contained, and its slots brought up to date. -/
theorem State.lostDown_eq : ∃ t : State, ∃ next ∈ [1, 9], s.lostDown p 1 = (t.linkGone p next).refreshPort p := by
  refine ⟨_, _, ?_, rfl⟩
  split <;> simp

/-- A downstream port that loses its link is in Detect, or Contained with its vDSP. -/
theorem State.linkIsGone_lostDown : ∃ next ∈ [1, 9], (s.lostDown p 1).linkIsGone p next := by
  obtain ⟨t, next, hnext, heq⟩ := s.lostDown_eq p
  have hlt : next < 16 := by
    simp only [List.mem_cons, List.not_mem_nil, or_false] at hnext
    omega
  rw [heq]
  exact ⟨next, hnext, (t.linkIsGone_linkGone p hlt).linkSame ((State.linkSame.refl _).refreshPort p)⟩

end

end Sys2Proof.Machine
end

section
/-!
SUPPORT. The commands of training, loopback and link loss (R74 to R79, R58, R90).
-/

namespace Sys2Proof.Machine

/-! ### Loopback -/

section
variable (s : State)

/-- The lanes' patterns stop (R58). -/
def State.stopPatterns (ls : List (Nat × Nat)) : State :=
  ls.foldl (fun (s : State) (l : Nat × Nat) => (s.set F.LN_PAT_GEN_EN [l.1, l.2] 0).set F.LN_PAT_CHK_EN [l.1, l.2] 0) s

/-- A lane's generator and checker are off. -/
def State.patternsOff (l : Nat × Nat) : Prop := s.get F.LN_PAT_GEN_EN [l.1, l.2] = 0 ∧ s.get F.LN_PAT_CHK_EN [l.1, l.2] = 0

theorem State.only_stopPatterns (ls : List (Nat × Nat)) : s.only (s.stopPatterns ls) (ls.map (fun l => ⟨.LN_PAT, [l.1, l.2]⟩)) [] := by
  induction ls generalizing s with
  | nil => exact s.only_refl _ _
  | cons l ls ih =>
    have hlane := State.only_trans (s.only_set F.LN_PAT_GEN_EN [l.1, l.2] 0) (State.only_set _ F.LN_PAT_CHK_EN [l.1, l.2] 0)
    exact State.only_mono (State.only_trans hlane (ih _)) (by simp) (by simp)

/-- A field that reads 0 still does when 0 is written to a field. -/
theorem State.get_set_zero {f : Fld} {ix : List Nat} (g : Fld) (iy : List Nat)
    (hfg : g = f ∨ (g.lo + g.w ≤ f.lo ∨ f.lo + f.w ≤ g.lo)) (h64 : f.lo + f.w ≤ 64) (h : s.get f ix = 0) : (s.set g iy 0).get f ix = 0 := by
  by_cases he : (⟨f.reg, ix⟩ : Reg) = ⟨g.reg, iy⟩
  · rcases hfg with rfl | hdisj
    · injection he with _ hix
      rw [hix, State.get_set_same _ _ _ _ h64, Nat.zero_mod]
    · rw [State.get_set_disj _ _ _ _ _ _ (.inr ⟨hdisj.symm, h64⟩), h]
  · rw [State.get_set_disj _ _ _ _ _ _ (.inl he), h]

theorem State.patternsOff_stopPatterns {l : Nat × Nat} (ls : List (Nat × Nat)) (h : l ∈ ls ∨ s.patternsOff l) :
    (s.stopPatterns ls).patternsOff l := by
  induction ls generalizing s with
  | nil => exact h.resolve_left List.not_mem_nil
  | cons a ls ih =>
    refine ih _ ?_
    rcases h with hm | ⟨hgen, hchk⟩
    · rcases List.mem_cons.1 hm with rfl | hm
      · refine .inr ⟨?_, State.get_set_same _ _ _ _ (by decide)⟩
        exact State.get_set_zero _ _ _ (.inr (by decide)) (by decide) (State.get_set_same _ _ _ _ (by decide))
      · exact .inl hm
    · refine .inr ⟨?_, ?_⟩
      · exact State.get_set_zero _ _ _ (.inr (by decide)) (by decide) (State.get_set_zero _ _ _ (.inl rfl) (by decide) hgen)
      · exact State.get_set_zero _ _ _ (.inl rfl) (by decide) (State.get_set_zero _ _ _ (.inr (by decide)) (by decide) hchk)

end

/-! ### The commands -/

section
variable {s : State} {port : Fin 144} (hs : s.sealed = false)
include hs

theorem execLinkUp_trains {rate : Fin 7} {width : Fin 17} {flit rev : Bool} (scaled : Bool) (inv : W16)
    (h : s.canTrain port.val rate.val width.val flit rev = true) : execLinkUp port rate width flit rev scaled inv s =
      .next ((s.detectPol port.val inv.toNat).linkUp port.val rate.val width.val flit rev scaled) := by
  rw [execLinkUp, s.live_next _ hs, if_pos h]

theorem execTrainingRetry_training (hst : s.pget F.PP_STAT_LINK_STATE port.val ∈ [2, 7]) :
    execTrainingRetry port s =
      .next ((s.pset F.PP_STAT_LINK_STATE port.val 1).when (s.role port.val == 2) (·.portEvent port.val 0 1)) := by
  rw [execTrainingRetry, s.live_next _ hs]
  exact congrArg _ (if_pos (by simpa using hst))

theorem execLinkDown_downstream (hrole : s.role port.val = 1) (hst : s.pget F.PP_STAT_LINK_STATE port.val ∈ [3, 4, 5, 6]) :
    execLinkDown port s = .next (s.lostDown port.val 1) := by
  have hup : s.dlUp port.val = true := by
    simp only [List.mem_cons, List.not_mem_nil, or_false] at hst
    simp only [State.dlUp, Bool.and_eq_true, decide_eq_true_eq]
    omega
  simp [execLinkDown, s.live_next _ hs, State.dlDown, hup, State.linkLost, hrole]

theorem execLoopbackEntry_trains (hst : s.pget F.PP_STAT_LINK_STATE port.val ∈ [1, 2]) (hen : s.pget F.PP_CTL_ENABLE port.val = 1)
    (hrole : s.role port.val ≠ 2) : execLoopbackEntry port s = .next (s.pset F.PP_STAT_LINK_STATE port.val 8) := by
  simp only [List.mem_cons, List.not_mem_nil, or_false] at hst
  have hne : s.pget F.PP_STAT_LINK_STATE port.val ≠ 5 := by omega
  have hst' := hst.imp_right (fun h => Or.inl (b := s.pget F.PP_STAT_LINK_STATE port.val = 5) h)
  simp only [execLoopbackEntry, s.live_next _ hs, if_pos (⟨hst', (s.pon_iff _ _).2 hen, hrole⟩ : _ ∧ _ ∧ _), if_neg hne]

theorem execLoopbackExit_loopback (hst : s.pget F.PP_STAT_LINK_STATE port.val = 8) :
    execLoopbackExit port s = .next ((s.stopPatterns (s.lanesOf port.val)).pset F.PP_STAT_LINK_STATE port.val 1) := by
  rw [execLoopbackExit, s.live_next _ hs, if_pos hst]
  rfl

end

/-! ### The statement -/

/-- Settles O14: a training reports what was trained before traffic resumes, and a link that is lost is cleared last. -/
theorem trainingAndLinkState : Obligations.training_and_link_state := by
  unfold Obligations.training_and_link_state
  refine ⟨?trained, ?retry, ?retryKfp, ?lost, ?entry, ?exit⟩
  case trained =>
    intro s port rate width flit rev scaled inv hs htrain
    refine ⟨_, execLinkUp_trains hs scaled inv htrain, ?_⟩
    have hpol := (State.linkSame.refl s).detectPol port.val inv.toNat
    have hup := (s.detectPol port.val inv.toNat).linkSame_linkUp port.val rate.val width.val flit rev scaled
    obtain ⟨hstate, hrate, hwidth, hflit, hl0p, hsub⟩ :=
      (s.detectPol port.val inv.toNat).trainReport_fields (p := port.val) (rate := rate.val) (width := width.val) flit (by omega) (by omega)
    have hfield {f : Fld} (hf : f.reg = .PP_STAT ∧ (f.lo + f.w ≤ 13 ∨ 14 ≤ f.lo) ∧ f.lo + f.w ≤ 64) :=
      (hup.pget hf.1 port.val).trans (State.linkTrained_pget _ port.val rate.val width.val flit rev hf)
    obtain ⟨hdegraded, hbad⟩ := (s.detectPol port.val inv.toNat).linkTrained_lnk port.val rate.val width.val flit rev
    have hpolDeg : (s.detectPol port.val inv.toNat).lnk.degraded = s.lnk.degraded := (congrArg LnkSt.degraded hpol.lnk :)
    refine ⟨(hfield (by decide)).trans hstate, (hfield (by decide)).trans hrate, (hfield (by decide)).trans hwidth,
      (hfield (by decide)).trans hflit, (hfield (by decide)).trans hl0p, (hfield (by decide)).trans hsub, ?_, ?_, ?_⟩
    · rw [hup.pget rfl, State.linkTrained_degraded, hpolDeg, hpol.pget rfl]
    · have hmem := congrArg LnkSt.degraded hup.lnk
      dsimp only at hmem
      rw [hmem, hdegraded]
      simp
    · exact ((congrArg LnkSt.badLanes hup.lnk :).trans hbad).trans (congrArg LnkSt.badLanes hpol.lnk :)
  case retry =>
    intro s port hs hst hrole
    have hkfp : (s.role port.val == 2) = false := by simpa using hrole
    refine ⟨_, execTrainingRetry_training hs hst, ?_⟩
    rw [hkfp, State.when_false]
    exact ⟨State.pget_pset_same _ (by decide) (by decide), s.only_pset _ _ _⟩
  case retryKfp =>
    intro s port hs hst hrole
    refine ⟨_, execTrainingRetry_training hs hst, ?_⟩
    rw [hrole, beq_self_eq_true, State.when_true]
    refine ⟨(State.pget_event _ _ _ _ (by decide)).trans (State.pget_pset_same _ (by decide) (by decide)), ?_, ?_⟩
    · have h := (s.pset F.PP_STAT_LINK_STATE port.val 1).raisedIn_event (.port port.val 0) 1 (by simp [Trip.mask, tripNames])
      exact (h.after (s.only_pset F.PP_STAT_LINK_STATE port.val 1).1 (by simp [Trip.stat, Trip.mask])).1
    · exact State.only_mono (State.only_trans (s.only_pset F.PP_STAT_LINK_STATE port.val 1) (State.only_event _ (.port port.val 0) 1))
        (by simp) (by simp)
  case lost =>
    intro s port hs hrole hst
    obtain ⟨next, hnext, hstate, hgone⟩ := s.linkIsGone_lostDown port.val
    exact ⟨_, execLinkDown_downstream hs hrole hst, hstate ▸ hnext, hgone⟩
  case entry =>
    intro s port hs hst hen hrole
    exact ⟨_, execLoopbackEntry_trains hs hst hen hrole, State.pget_pset_same _ (by decide) (by decide), s.only_pset _ _ _⟩
  case exit =>
    intro s port hs hst
    refine ⟨_, execLoopbackExit_loopback hs hst, State.pget_pset_same _ (by decide) (by decide), fun l hl => ?_, ?_⟩
    · rw [State.pset, State.get_set_disj _ _ _ _ _ _ (.inl (by simp)), State.get_set_disj _ _ _ _ _ _ (.inl (by simp))]
      exact s.patternsOff_stopPatterns _ (.inl hl)
    · exact State.only_mono (State.only_trans (s.only_stopPatterns _) (State.only_pset _ F.PP_STAT_LINK_STATE port.val 1))
        (fun r hr => by simpa [or_comm] using hr) (by simp)

end Sys2Proof.Machine
end

section
/-!
SUPPORT. Link IDE: keys, and what containment leaves of a stream's record (R93 to R95, R261, R265).
-/

namespace Sys2Proof.Machine

/-! ### What containment leaves of IDE -/

/-- From `s` to `u` no stream becomes Secure, no failure is forgotten, and the records of keys and barred ports stay. -/
structure State.ideSame (s u : State) : Prop where
  secure : ∀ p, s.pget F.PP_STAT_IDE_SECURE p = 0 → u.pget F.PP_STAT_IDE_SECURE p = 0
  fail : ∀ p, u.pget F.PP_STAT_IDE_FAIL p = s.pget F.PP_STAT_IDE_FAIL p
  bad : u.lnk.ideBad = s.lnk.ideBad
  keys : u.lnk.ideKeys = s.lnk.ideKeys
  slot : u.lnk.ideSlot = s.lnk.ideSlot

theorem State.linkSame.ideSame {s u : State} (h : s.linkSame u) : s.ideSame u where
  secure p hp := (h.pget rfl p).trans hp
  fail p := h.pget rfl p
  bad := (congrArg LnkSt.ideBad h.lnk :)
  keys := (congrArg LnkSt.ideKeys h.lnk :)
  slot := (congrArg LnkSt.ideSlot h.lnk :)

theorem State.ideSame_forgetLink (s : State) (p : Nat) : s.ideSame (s.forgetLink p) := ⟨fun _ => id, fun _ => rfl, rfl, rfl, rfl⟩

namespace State.ideSame

theorem refl (s : State) : s.ideSame s := (State.linkSame.refl s).ideSame

section
variable {s t u : State} (h : s.ideSame t)
include h

theorem trans (h' : t.ideSame u) : s.ideSame u where
  secure p hp := h'.secure p (h.secure p hp)
  fail p := (h'.fail p).trans (h.fail p)
  bad := h'.bad.trans h.bad
  keys := h'.keys.trans h.keys
  slot := h'.slot.trans h.slot

theorem same (h' : t.linkSame u) : s.ideSame u := h.trans h'.ideSame

theorem foldl {α : Type} (l : List α) (f : State → α → State) (hf : ∀ t a, s.ideSame t → s.ideSame (f t a)) : s.ideSame (l.foldl f t) :=
  List.foldlRecOn (motive := s.ideSame) l f h (fun t ht a _ => hf t a ht)

theorem ite {v : State} (c : Prop) [Decidable c] (h' : s.ideSame v) : s.ideSame (if c then t else v) := by
  split
  · exact h
  · exact h'

/-- A field that is not of IDE. -/
theorem pset (f : Fld) (p v : Nat) (hf : f.reg ≠ .PP_STAT ∨ f.lo + f.w ≤ 14 ∨ 16 ≤ f.lo) : s.ideSame (t.pset f p v) := by
  have hset {g : Fld} (hg : g.reg = .PP_STAT ∧ 14 ≤ g.lo ∧ g.lo + g.w ≤ 16) (q : Nat) : (t.pset f p v).pget g q = t.pget g q := by
    refine t.get_set_disj f g _ _ v ?_
    rcases hf with hreg | hpos
    · refine .inl (fun e => hreg ?_)
      injection e with hn _
      exact hn.symm.trans hg.1
    · exact .inr ⟨by omega, by omega⟩
  exact h.trans ⟨fun q hq => (hset (by decide) q).trans hq, fun q => hset (by decide) q, rfl, rfl, rfl⟩

/-- A stream becomes Insecure. -/
theorem insecure (p : Nat) : s.ideSame (t.pset F.PP_STAT_IDE_SECURE p 0) :=
  h.trans ⟨fun _ hq => t.get_set_zero _ _ (.inl rfl) (by decide) hq, fun _ => t.get_set_disj _ _ _ _ _ (.inr (by decide)), rfl, rfl, rfl⟩

theorem linkGone (p next : Nat) : s.ideSame (t.linkGone p next) := by
  have hfields : s.ideSame (t.linkZeroed p next) :=
    (((((((h.pset F.PP_STAT_LINK_STATE p next (by decide)).pset F.PP_STAT_WIDTH p 0 (by decide)).pset F.PP_STAT_RATE p 7 (by decide)).pset
      F.PP_STAT_FLIT p 0 (by decide)).pset F.PP_STAT_L0P_WIDTH p 0 (by decide)).pset F.PP_STAT_L1_SUB p 0 (by decide)).insecure p).pset
        F.PT_FWD_CTL_TAG_MODE p 0 (by decide)
  exact (hfields.trans (State.ideSame_forgetLink _ p)).same (t.linkSame_linkGone p next)

/-- A port that is bound whole loses its link (R262). -/
theorem wholeGone (c : Prop) [Decidable c] (p : Nat) :
    s.ideSame (if c then ((t.endTombs p).linkGone p (if t.pon F.PP_CTL_ENABLE p then 9 else 0)).pset F.PT_CONT_C_VDSP p 1 else t) :=
  (((h.same ((State.linkSame.refl t).endTombs p)).linkGone p _).pset _ _ _ (by decide)).ite _ h

theorem containVdsp (v sl cause : Nat) : s.ideSame (t.containVdsp v sl cause) := by
  unfold State.containVdsp
  split
  · exact h
  · have hmarked := ((((State.linkSame.refl t).setB F.VST_CONT_CONTAINED [v, sl] true (by decide)).set F.VST_CONT_CAUSE [v, sl] cause
      (by decide)).setB F.VST_SLOT_CONTAINED [v, sl] true (by decide)).setDll v sl false
    have hdpc := (hmarked.cfSet (.vdsp v sl) .dpcTrigger 1).cfSet (.vdsp v sl) .dpcReason (dpcReasonOf cause)
    have haer := hmarked.when (f := fun s =>
        ((s.cfSet (.vdsp v sl) .dpcTrigger 1).cfSet (.vdsp v sl) .dpcReason (dpcReasonOf cause)).when (s.cf (.vdsp v sl) .dpcIrqEn == 1)
          (·.emit (.dpcIrq v sl))) (t.cf (.vdsp v sl) .dpcEnable != 0) (hdpc.when _ (hdpc.emit _))
    dsimp only
    refine State.ideSame.same (State.ideSame.wholeGone (h.same ?_) _ _) ((State.linkSame.refl _).event _ _)
    refine State.linkSame.foldl ?_ _ _ (fun _ _ ht => (ht.tombLive _ _).dropQueued _ _)
    split
    · exact haer.cfSet _ _ _
    · exact haer

theorem postedLoss (p : Pkt) : s.ideSame (t.postedLoss p) := by
  have hvdsp (v sl : Nat) : s.ideSame ((((t.cfSet (.vdsp v sl) .aerInternal 1).containVdsp v sl 9).setB F.VST_CONT_POSTED_LOSS [v, sl] true).portEvent
      (t.upPort v) 4 1) :=
    ((h.same ((State.linkSame.refl t).cfSet _ _ _)).containVdsp v sl 9).same (((State.linkSame.refl _).setB _ _ _ (by decide)).portEvent _ _ _)
  have hport (t' : State) (ht : s.ideSame t') (q : Nat) : s.ideSame ((t'.pset F.PT_CONT_POSTED_LOSS q 1).portEvent q 4 1) :=
    ht.same (((State.linkSame.refl t').pset _ _ _ (by decide)).portEvent _ _ _)
  unfold State.postedLoss
  dsimp only
  split
  · exact h
  · split
    · split
      · exact hvdsp _ _
      · exact hport _ (h.same ((State.linkSame.refl t).cfSet _ _ _)) _
    · split
      · exact hvdsp _ _
      · split
        · split
          · exact hvdsp _ _
          · exact hport _ h _
        · exact h

theorem settle (n : Nat) : s.ideSame (State.settle n t) := by
  induction n generalizing t with
  | zero => exact h
  | succ n ih =>
    unfold State.settle
    split
    · exact h
    · rename_i p ps _
      have htake := h.same ((State.linkSame.refl t).fwdUp (fun f => { f with lostQ := ps, held := f.held.del (p.key, p.seq) }))
      refine ih ?_
      split
      · exact htake.postedLoss p
      · exact htake.same ((State.linkSame.refl _).synthSelf _ _)
      · exact htake

theorem settled : s.ideSame t.settled := h.settle _

theorem containLoss (v sl cause : Nat) : s.ideSame (t.containLoss v sl cause) :=
  (h.containVdsp v sl cause).same ((((State.linkSame.refl _).cfSet _ _ _).setB _ _ _ (by decide)).portEvent _ _ _)

theorem contBit (p cause : Nat) : s.ideSame (t.contBit p cause) := by
  unfold State.contBit
  split <;> exact h.pset _ _ _ (by decide)

theorem endTombsIf (b : Bool) (p : Nat) : s.ideSame (if b then t.endTombs p else t) := (h.same ((State.linkSame.refl t).endTombs p)).ite _ h

theorem downPort (p cause : Nat) (b : Bool) : s.ideSame (t.downPort p cause b) := by
  have hdrop := h.same (((State.linkSame.refl t).tombLive p (fun _ _ => true)).dropQueued p (fun _ => true))
  unfold State.downPort
  dsimp only
  refine (State.ideSame.endTombsIf ?_ b p).settled
  split
  · exact hdrop.containVdsp _ _ _
  · exact State.ideSame.same (State.ideSame.contBit (State.ideSame.pset (hdrop.foldl _ _ (fun _ _ ht => ht.containVdsp _ _ _)) _ _ _
      (by decide)) p cause) (((State.linkSame.refl _).fwdUp _).portEvent p 4 0)

end

end State.ideSame

end Sys2Proof.Machine
end

section
/-!
SUPPORT. The commands of link IDE (R93 to R95).
-/

namespace Sys2Proof.Machine

/-! ### Keys -/

section
variable (s : State) (p slot : Nat)

/-- The key set of a slot is held (R93). -/
def State.keysHeld : State := s.lnkUp (fun x => { x with ideKeys := addNew x.ideKeys (p, slot) })

/-- The stream is Secure on the slot, and the port no longer barred (R94). -/
def State.streamSecure : State :=
  (s.lnkUp (fun x => { x with ideSlot := x.ideSlot.put p slot, ideBad := x.ideBad.filter (· != p) })).pset F.PP_STAT_IDE_SECURE p 1

theorem State.only_streamSecure : ({ s with lnk := { s.lnk with
      ideSlot := (s.streamSecure p slot).lnk.ideSlot, ideBad := s.lnk.ideBad.filter (· != p) } } : State).only
    (s.streamSecure p slot) [ppStat p] [] :=
  State.only_pset (s.lnkUp (fun x => { x with ideSlot := x.ideSlot.put p slot, ideBad := x.ideBad.filter (· != p) })) F.PP_STAT_IDE_SECURE p 1

theorem State.streamSecure_secure : (s.streamSecure p slot).pget F.PP_STAT_IDE_SECURE p = 1 := State.pget_pset_same _ (by decide) (by decide)

theorem State.streamSecure_pget {f : Fld} (h : f.reg ≠ .PP_STAT ∨ ((f.lo + f.w ≤ 14 ∨ 15 ≤ f.lo) ∧ f.lo + f.w ≤ 64)) :
    (s.streamSecure p slot).pget f p = s.pget f p := State.pget_pset_disj _ _ _ h

theorem State.only_updSaf : s.only (s.updSaf p) [⟨.PP_CTL, [p / 4, p % 4]⟩] [] := s.only_pset F.PP_CTL_SAF p _

theorem State.updSaf_saf : (s.updSaf p).pget F.PP_CTL_SAF p =
    bit (s.pon F.PT_FWD_CTL_FORCE_SAF p || (s.inL0 p && !s.pon F.PP_STAT_FLIT p && s.pon F.PP_STAT_IDE_SECURE p)) :=
  State.pget_pset_same _ (by decide) (by cases (_ || _ : Bool) <;> decide)

theorem State.pget_updSaf {f : Fld} (h : f.reg ≠ .PP_CTL) (hn : f.reg ∉ tripNames) (q : Nat) : (s.updSaf p).pget f q = s.pget f q :=
  (s.only_updSaf p).pget (by simp [h]) hn

variable {s p slot} in
/-- In L0 a Secure stream stores and forwards unless its link carries flits (R95, R173). -/
theorem State.streamSecure_saf (hl0 : s.inL0 p = true) : ((s.streamSecure p slot).updSaf p).pget F.PP_CTL_SAF p =
    bit (s.pon F.PT_FWD_CTL_FORCE_SAF p || !s.pon F.PP_STAT_FLIT p) := by
  have hkeep {f : Fld} (h : f.reg ≠ .PP_STAT ∨ ((f.lo + f.w ≤ 14 ∨ 15 ≤ f.lo) ∧ f.lo + f.w ≤ 64)) := s.streamSecure_pget p slot h
  have hl0' : (s.streamSecure p slot).inL0 p = true := by
    rw [State.inL0, hkeep (by decide)]
    exact hl0
  rw [State.updSaf_saf, hl0', (State.pon_iff _ _ _).2 (s.streamSecure_secure p slot), State.pon, State.pon, hkeep (by decide), hkeep (by decide),
    Bool.true_and, Bool.and_true]
  rfl

end

section
variable {s : State} {port : Fin 144} {slot : Fin 2} (hs : s.sealed = false)
include hs

theorem execIdeKmMessage_valid (hrole : s.role port.val = 0) (hup : s.dlUp port.val = true) :
    execIdeKmMessage port slot true s = .next (s.keysHeld port.val slot.val) := by
  rw [execIdeKmMessage, s.live_next _ hs, if_pos ⟨hrole, rfl, hup⟩]
  rfl

theorem execKeySetGo_held (hk : (port.val, slot.val) ∈ s.lnk.ideKeys) (hl0 : s.inL0 port.val = true) :
    execKeySetGo port slot s = .next ((s.streamSecure port.val slot.val).updSaf port.val) := by
  rw [execKeySetGo, s.live_next _ hs, State.ideGo, if_pos ⟨List.contains_iff_mem.2 hk, hl0⟩]
  rfl

end

/-! ### A failed stream -/

section
variable (s : State) (p : Nat)

/-- IDE_SECURE 0 and IDE_FAIL 1, with the INTEGRITY event (R95). -/
def State.streamFails : State := ((s.pset F.PP_STAT_IDE_SECURE p 0).pset F.PP_STAT_IDE_FAIL p 1).portEvent p 1 0

/-- The keys are gone, and the port is barred (R95). -/
def State.streamFailed : State :=
  (s.streamFails p).lnkUp (fun x => { x with
    ideBad := addNew x.ideBad p, ideKeys := x.ideKeys.filter (fun k => k.1 != p), ideSlot := x.ideSlot.del p })

/-- What a failure leaves for as long as no new keys come. -/
def State.ideBarred (u : State) (p : Nat) : Prop :=
  u.pget F.PP_STAT_IDE_SECURE p = 0 ∧ u.pget F.PP_STAT_IDE_FAIL p = 1 ∧ p ∈ u.lnk.ideBad ∧ (∀ k ∈ u.lnk.ideKeys, k.1 ≠ p) ∧
    u.lnk.ideSlot.look p = none

theorem State.ideBarred.same {s u : State} {p : Nat} (h : s.ideBarred p) (hu : s.ideSame u) : u.ideBarred p := by
  obtain ⟨hsec, hfail, hbad, hkeys, hslot⟩ := h
  refine ⟨hu.secure p hsec, (hu.fail p).trans hfail, ?_, ?_, ?_⟩
  · rwa [hu.bad]
  · rwa [hu.keys]
  · rwa [hu.slot]

theorem State.ideBarred_streamFailed : (s.streamFailed p).ideBarred p := by
  have hev {f : Fld} (hn : f.reg ∉ tripNames) :
      (s.streamFailed p).pget f p = ((s.pset F.PP_STAT_IDE_SECURE p 0).pset F.PP_STAT_IDE_FAIL p 1).pget f p :=
    State.pget_event _ _ _ _ hn
  refine ⟨?_, ?_, mem_addNew _ _, fun k hk => ?_, AMap.look_del_same ..⟩
  · rw [hev (by decide), State.pget_pset_disj _ _ _ (by decide)]
    exact State.pget_pset_same _ (by decide) (by decide)
  · rw [hev (by decide)]
    exact State.pget_pset_same _ (by decide) (by decide)
  · simpa using (List.mem_filter.1 hk).2

theorem State.raisedIn_streamFailed : s.raisedIn (s.streamFailed p) (.port p 1) 0 :=
  have h := ((s.pset F.PP_STAT_IDE_SECURE p 0).pset F.PP_STAT_IDE_FAIL p 1).raisedIn_event (.port p 1) 0 (by simp [Trip.mask, tripNames])
  (h.after (State.only_pset _ F.PP_STAT_IDE_FAIL p 1).1 (by simp [Trip.stat, Trip.mask])).after (s.only_pset F.PP_STAT_IDE_SECURE p 0).1
    (by simp [Trip.stat, Trip.mask])

theorem State.restSame_streamFailed : s.restSame (s.streamFailed p) :=
  ((s.only_pset F.PP_STAT_IDE_SECURE p 0).restSame.trans (State.only_pset _ F.PP_STAT_IDE_FAIL p 1).restSame).trans
    (State.only_event _ (.port p 1) 0).restSame

/-- Without tags no request waits for an answer. -/
theorem State.tombLive_of_noTags {s : State} (h : s.fwd.tags = []) (p : Nat) (q : Nat → Nat → Bool) : s.tombLive p q = s := by
  simp [State.tombLive, State.liveTags, h]

variable {s p}

theorem State.ideFail_insecure (hsec : s.pget F.PP_STAT_IDE_SECURE p = 0) : s.ideFail p = s := by
  rw [State.ideFail, if_neg (by simp [s.pon_iff, hsec])]

/-- An upstream port without a virtual switch, and without requests of its own. -/
theorem State.ideFail_upstream (hsec : s.pget F.PP_STAT_IDE_SECURE p = 1) (hrole : s.role p = 0) (hv : s.vsOfPort p = none)
    (htags : s.fwd.tags = []) : s.ideFail p = s.streamFailed p := by
  have hrole' : s.role p ≠ 1 := by omega
  have htags' : (s.streamFailed p).fwd.tags = [] := by
    have hfwd : (s.streamFailed p).fwd = s.fwd := (congrArg State.fwd (s.restSame_streamFailed p) :)
    rw [hfwd, htags]
  rw [State.ideFail, if_pos ((s.pon_iff _ _).2 hsec), if_neg hrole', hv]
  exact State.tombLive_of_noTags htags' p _

/-- A downstream port is contained, which leaves the failure on record. -/
theorem State.ideBarred_ideFail (hsec : s.pget F.PP_STAT_IDE_SECURE p = 1) (hrole : s.role p = 1) : (s.ideFail p).ideBarred p := by
  have hcont := ((State.ideSame.refl (s.streamFailed p)).downPort p 7 false).foldl ((s.streamFailed p).boundSlots p) _
    (fun _ x ht => ht.containLoss x.1 x.2 7)
  have hport := (hcont.pset F.PT_CONT_POSTED_LOSS p 1 (by decide)).same ((State.linkSame.refl _).portEvent p 4 1)
  refine (s.ideBarred_streamFailed p).same ?_
  rw [State.ideFail, if_pos ((s.pon_iff _ _).2 hsec), if_pos hrole]
  exact hport.ite _ hcont

end

theorem execIdeIntegrityFail_live {s : State} (port : Fin 144) (hs : s.sealed = false) :
    execIdeIntegrityFail port s = .next ((s.ideFail port.val).updSaf port.val) := s.live_next _ hs

/-! ### The statement -/

/-- Settles O17: keys and their use touch the port alone, and whatever containment follows a failure, the record of the failure stays. -/
theorem linkIdeKeysAndFailure : Obligations.link_ide_keys_and_failure := by
  unfold Obligations.link_ide_keys_and_failure
  refine ⟨?keys, ?go, ?upstream, ?downstream, ?insecure⟩
  case keys =>
    intro s port slot hs hrole hup
    exact ⟨_, execIdeKmMessage_valid hs hrole hup, mem_addNew _ _, filter_ne_addNew _ _, State.only_refl _ _ _⟩
  case go =>
    intro s port slot hs hk hl0
    refine ⟨_, execKeySetGo_held hs hk hl0, ?_, ?_, ?_, State.streamSecure_saf hl0, ?_⟩
    · exact (State.pget_updSaf _ _ (by decide) (by decide) _).trans (s.streamSecure_secure ..)
    · exact AMap.look_put_same ..
    · rw [(State.only_updSaf _ _).lnk, (s.only_streamSecure _ _).lnk]
      simp
    · have h := State.only_trans (s.only_streamSecure port.val slot.val) (State.only_updSaf _ port.val)
      rw [(State.only_updSaf (s.streamSecure port.val slot.val) port.val).lnk]
      exact State.only_mono h (by simp) (by simp)
  case upstream =>
    intro s port hs hsec hrole hv htags
    have hsaf := (s.streamFailed port.val).only_updSaf port.val
    obtain ⟨hsecure, hfail, hbad, hkeys, hslot⟩ :=
      (s.ideBarred_streamFailed port.val).same ((State.linkSame.refl _).updSaf port.val).ideSame
    have hrest := (s.restSame_streamFailed port.val).trans hsaf.restSame
    refine ⟨_, execIdeIntegrityFail_live port hs, ?_⟩
    rw [State.ideFail_upstream hsec hrole hv htags]
    refine ⟨hsecure, hfail, ?_, hbad, hkeys, hslot, (congrArg State.mule hrest :), (congrArg State.dm hrest :)⟩
    exact ((s.raisedIn_streamFailed port.val).keeps hsaf.1 (by simp [Trip.stat, Trip.int, Trip.mask]) (by simp)).1
  case downstream =>
    intro s port hs hsec hrole
    exact ⟨_, execIdeIntegrityFail_live port hs,
      (State.ideBarred_ideFail hsec hrole).same ((State.linkSame.refl _).updSaf port.val).ideSame⟩
  case insecure =>
    intro s port hs hsec
    refine ⟨_, execIdeIntegrityFail_live port hs, ?_⟩
    rw [State.ideFail_insecure hsec]
    exact s.only_updSaf port.val

end Sys2Proof.Machine
end

section
/-!
SUPPORT. The state beside the traffic: what sending, queueing, answering and dropping TLPs, messages of the mesh, events and counters leave alone.
-/

namespace Sys2Proof.Machine

/-! ### The state without its traffic -/

/-- The registers that traffic, events, counters and answers to commands change. -/
def trafficNames : List RN :=
  tripNames ++ [.PT_CNT, .PMG_SHCNT, .SH_STAT, .PT_CONT, .PT_TRK_STAT, .PT_CPL_LOG, .RTR_ESC_CTL, .MGR_RSP_DONE, .MGR_MCR_STAT]

/-- What the forwarding path holds beside its traffic: tables, bindings, swaps, drains and resets of members. -/
def FwdSt.still (f : FwdSt) : FwdSt :=
  { own := f.own, act := f.act, bars := f.bars, rbound := f.rbound, tabs := f.tabs, swaps := f.swaps, drains := f.drains, releasing := f.releasing,
    gateBank := f.gateBank, flrAt := f.flrAt, flrRrs := f.flrRrs, bindWait := f.bindWait, epochs := f.epochs }

/-- The state without its traffic: without the mesh, the shapers, the measurements, the messages and the registers of `trafficNames`. -/
def State.still (s : State) : State :=
  { s with regs := s.regs.filter (fun e => decide (e.1.n ∉ trafficNames)), mesh := {}, fwd := s.fwd.still, shp := [], lnk := { s.lnk with lastTlp := [] },
           perf := {}, msiWait := [], sent := [] }

theorem tripNames_sub_trafficNames {n : RN} (h : n ∈ tripNames) : n ∈ trafficNames := List.mem_append_left _ h

/-! ### What the frame says -/

section
variable {s u : State} (h : u.still = s.still)
include h

theorem State.rd_of_still {r : Reg} (hr : r.n ∉ trafficNames) : u.rd r = s.rd r := by
  have hlook (t : State) : t.rd r = rmRd t.still.regs r := by
    simp only [State.rd, rmRd, AMap.lookD, State.still]
    rw [AMap.look_filter _ _ (fun v => by simpa using hr)]
  rw [hlook, hlook, h]

theorem State.get_of_still {f : Fld} (hf : f.reg ∉ trafficNames) (ix : List Nat) : u.get f ix = s.get f ix := by
  rw [State.get_eq, State.rd_of_still h hf, State.get_eq]

theorem State.on_of_still {f : Fld} (hf : f.reg ∉ trafficNames) (ix : List Nat) : u.on f ix = s.on f ix := by
  rw [State.on_eq, State.get_of_still h hf, State.on_eq]

theorem State.pget_of_still {f : Fld} (hf : f.reg ∉ trafficNames) (p : Nat) : u.pget f p = s.pget f p := State.get_of_still h hf _

theorem State.pon_of_still {f : Fld} (hf : f.reg ∉ trafficNames) (p : Nat) : u.pon f p = s.pon f p := State.on_of_still h hf _

theorem State.cfg_of_still : u.cfg = s.cfg := (congrArg State.cfg h :)

theorem State.cf_of_still (fn : FnId) (f : CfgF) : u.cf fn f = s.cf fn f := by rw [State.cf, State.cfg_of_still h, State.cf]

theorem State.vsx_of_still : u.vsx = s.vsx := (congrArg State.vsx h :)

theorem State.mgr_of_still : u.mgr = s.mgr := (congrArg State.mgr h :)

theorem State.fab_of_still : u.fab = s.fab := (congrArg State.fab h :)

theorem State.journal_of_still : u.journal = s.journal := (congrArg State.journal h :)

theorem State.fwd_of_still : u.fwd.still = s.fwd.still := (congrArg State.fwd h :)

theorem State.act_of_still : u.fwd.act = s.fwd.act := (congrArg FwdSt.act (State.fwd_of_still h) :)

theorem State.swaps_of_still : u.fwd.swaps = s.fwd.swaps := (congrArg FwdSt.swaps (State.fwd_of_still h) :)

theorem State.epochs_of_still : u.fwd.epochs = s.fwd.epochs := (congrArg FwdSt.epochs (State.fwd_of_still h) :)

theorem State.drains_of_still : u.fwd.drains = s.fwd.drains := (congrArg FwdSt.drains (State.fwd_of_still h) :)

/-- What the next swap would install holds nothing of the traffic. -/
theorem State.snap_of_still : u.snap = s.snap := by
  have hregs (t : State) : t.snap.regs = t.still.regs.filter (fun e =>
      e.1.n == .VST_STAT || e.1.n == .VST_TCMAP || e.1.n == .VST_SLOT || e.1.n == .VST_FB_A || e.1.n == .VST_FB_B) := by
    simp only [State.snap, State.still, List.filter_filter]
    refine List.filter_congr (fun e _ => ?_)
    by_cases he : e.1.n ∈ trafficNames
    · have : ∀ n ∈ trafficNames, (n == .VST_STAT || n == .VST_TCMAP || n == .VST_SLOT || n == .VST_FB_A || n == .VST_FB_B) = false := by decide
      simp [he, this _ he]
    · simp [he]
  have hreg := (hregs u).trans ((congrArg (fun t : State => t.regs.filter _) h).trans (hregs s).symm)
  have hrest : { u.snap with regs := [] } = { s.snap with regs := [] } :=
    (congrArg (fun t : State => { t.snap with regs := [] }) h :)
  simp only [State.snap, FwdTable.mk.injEq] at hreg hrest ⊢
  exact ⟨hreg, hrest.2⟩

end

/-! ### What keeps it -/

section
variable (s : State)

theorem State.still_wr {r : Reg} (v : W64) (hr : r.n ∈ trafficNames) : (s.wr r v).still = s.still := by
  have : (s.wr r v).regs.filter (fun e => decide (e.1.n ∉ trafficNames)) = s.regs.filter (fun e => decide (e.1.n ∉ trafficNames)) := by
    simp only [State.wr_regs, AMap.put, AMap.del, List.filter_cons, hr, not_true_eq_false, decide_false, Bool.false_eq_true, if_false,
      List.filter_filter]
    refine List.filter_congr (fun e _ => ?_)
    by_cases he : e.1 = r
    · simp [he, hr]
    · simp [he]
  simp only [State.still, this]
  rfl

theorem State.still_set {f : Fld} (ix : List Nat) (v : Nat) (hf : f.reg ∈ trafficNames) : (s.set f ix v).still = s.still := s.still_wr _ hf

theorem State.still_pset {f : Fld} (p v : Nat) (hf : f.reg ∈ trafficNames) : (s.pset f p v).still = s.still := s.still_wr _ hf

theorem State.still_setB {f : Fld} (ix : List Nat) (b : Bool) (hf : f.reg ∈ trafficNames) : (s.setB f ix b).still = s.still := s.still_wr _ hf

@[simp] theorem State.still_emit (o : Out) : (s.emit o).still = s.still := rfl

@[simp] theorem State.still_meshUp (f : Mesh → Mesh) : (s.meshUp f).still = s.still := rfl

theorem State.still_when (c : Bool) {f : State → State} (h : (f s).still = s.still) : (s.when c f).still = s.still := by
  cases c
  · rfl
  · exact h

theorem State.still_ite (c : Prop) [Decidable c] {a b : State} (ha : a.still = s.still) (hb : b.still = s.still) :
    (if c then a else b).still = s.still := by
  split
  · exact ha
  · exact hb

/-- What keeps the rest at every step keeps it over a list. -/
theorem State.still_foldl {α : Type} {f : State → α → State} (l : List α) (h : ∀ t, ∀ a ∈ l, (f t a).still = t.still) :
    (l.foldl f s).still = s.still := by
  induction l generalizing s with
  | nil => rfl
  | cons a as ih =>
    rw [List.foldl_cons, ih _ (fun t b hb => h t b (List.mem_cons_of_mem _ hb)), h s a List.mem_cons_self]

@[simp] theorem State.still_sendMsix (v : Nat) : (s.sendMsix v).still = s.still := by
  unfold State.sendMsix
  split
  · exact s.still_set _ _ (by decide)
  · split <;> rfl

@[simp] theorem State.still_event (x : Trip) (b : Nat) : (s.event x b).still = s.still := by
  have hsend (t : State) (c : Bool) : (t.when c (·.sendSource (x.source b))).still = t.still :=
    t.still_when _ (t.still_when _ (t.still_sendMsix _))
  unfold State.event State.updInt
  rw [hsend, State.still_wr _ _ (tripNames_sub_trafficNames (int_mem_tripNames x)), State.still_wr _ _ (tripNames_sub_trafficNames (stat_mem_tripNames x))]

@[simp] theorem State.still_portEvent (p e b : Nat) : (s.portEvent p e b).still = s.still := s.still_event _ _

theorem State.still_count {r : Reg} (n : Nat) (ov : Option (Trip × Nat)) (hr : r.n ∈ trafficNames) : (s.count r n ov).still = s.still := by
  unfold State.count
  dsimp only
  split
  · cases ov with
    | none => exact s.still_wr _ hr
    | some xb => exact (State.still_event _ _ _).trans (s.still_wr _ hr)
  · exact s.still_wr _ hr

@[simp] theorem State.still_portCount (p c n : Nat) : (s.portCount p c n).still = s.still := s.still_count _ _ (by simp [trafficNames])

@[simp] theorem State.still_shCount (x c n : Nat) : (s.shCount x c n).still = s.still := s.still_count _ _ (by simp [trafficNames])

@[simp] theorem State.still_bwAdd (p k bytes : Nat) : (s.bwAdd p k bytes).still = s.still := by
  unfold State.bwAdd
  dsimp only
  split <;> rfl

/-! ### The mesh and the shapers -/

@[simp] theorem State.still_fillLocal (n : Nat) (k : VcId) : (s.fillLocal n k).still = s.still := by
  induction n generalizing s with
  | zero => rfl
  | succ n ih =>
    unfold State.fillLocal
    split
    · rfl
    · dsimp only
      split
      · exact (ih _).trans rfl
      · rfl

@[simp] theorem State.still_injectAt (r : Nat) (p : Pkt) : (s.injectAt r p).1.still = s.still := by
  unfold State.injectAt
  dsimp only
  split
  · exact s.still_event _ _
  · exact (State.still_when _ _ (State.still_setB _ _ _ (by decide))).trans ((State.still_fillLocal _ _ _).trans rfl)

@[simp] theorem State.still_sendMsg (a b : Nat) (m : IMsg) : (s.sendMsg a b m).still = s.still := by
  unfold State.sendMsg
  split
  · rfl
  · exact State.still_injectAt _ _ _

@[simp] theorem State.still_shPut (x : Nat) (st : ShSt) : (s.shPut x st).still = s.still := (State.still_set _ _ _ (by decide)).trans rfl

@[simp] theorem State.still_shCharge (x len : Nat) : (s.shCharge x len).still = s.still := by
  unfold State.shCharge
  split
  · exact State.still_shPut _ _ _
  · rfl

@[simp] theorem State.still_shWait (x : Nat) (w : Bool) : (s.shWait x w).still = s.still :=
  (State.still_setB _ _ _ (by decide)).trans (State.still_when _ _ (State.still_shCount _ _ _ _))

/-! ### Tags and tracker entries -/

@[simp] theorem State.still_updTombs (p : Nat) : (s.updTombs p).still = s.still := s.still_pset _ _ (by decide)

@[simp] theorem State.still_setTag (p tag : Nat) (st : TagSt) : (s.setTag p tag st).still = s.still :=
  (State.still_updTombs _ _).trans rfl

@[simp] theorem State.still_tomb (p tag : Nat) : (s.tomb p tag).still = s.still := s.still_setTag _ _ _

@[simp] theorem State.still_endTombs (p : Nat) : (s.endTombs p).still = s.still := (State.still_updTombs _ _).trans rfl

@[simp] theorem State.still_updTrkStat (x : Nat) : (s.updTrkStat x).still = s.still := by
  unfold State.updTrkStat
  split
  · refine (State.still_when _ _ (State.still_event _ _ _)).trans ?_
    rw [State.still_setB _ _ _ (by decide), State.still_set _ _ _ (by decide)]
  · rfl

@[simp] theorem State.still_putTrk (x i : Nat) (e : Option TrkE) : (s.putTrk x i e).still = s.still := (State.still_updTrkStat _ _).trans rfl

@[simp] theorem State.still_setLease (x p : Nat) (l : List Nat) : (s.setLease x p l).still = s.still := rfl

@[simp] theorem State.still_cplLog (p rid etag cause status cid : Nat) : (s.cplLog p rid etag cause status cid).still = s.still := by
  unfold State.cplLog
  split
  · rfl
  · exact s.still_wr _ (by simp [trafficNames])

/-! ### Sending -/

@[simp] theorem State.still_launch (p : Pkt) : (s.launch p).still = s.still := by
  have h := s.still_injectAt (s.exitRouter (pktStn p) p.egress) p
  unfold State.launch
  generalize s.injectAt (s.exitRouter (pktStn p) p.egress) p = r at h ⊢
  obtain ⟨t, b⟩ := r
  cases b
  · exact h
  · exact h

@[simp] theorem State.still_sendPkt (p : Pkt) : (s.sendPkt p).still = s.still := by
  unfold State.sendPkt
  dsimp only
  split
  · exact s.still_ite _ (((State.still_launch _ _).trans (State.still_shCharge _ _ _)).trans rfl) ((State.still_shWait _ _ _).trans rfl)
  · exact (State.still_launch _ _).trans rfl

@[simp] theorem State.still_answerTlp (port sc : Nat) (t : Tlp) : (s.answerTlp port sc t).still = s.still := rfl

/-! ### The egress side -/

@[simp] theorem State.still_gateRefresh (k : SKey) : (s.gateRefresh k).still = s.still := rfl

@[simp] theorem State.still_goLive (p : Pkt) : (s.goLive p).still = s.still := by
  unfold State.goLive
  split
  · exact s.still_ite _ (s.still_setTag _ _ _) rfl
  · rfl

@[simp] theorem State.still_holderCpl (p : Pkt) : (s.holderCpl p).1.still = s.still := by
  unfold State.holderCpl
  split
  · rfl
  · split
    · rfl
    · dsimp only
      split
      · exact s.still_when _ rfl
      · split
        · dsimp only
          split
          · exact (State.still_setLease _ _ _ _).trans (s.still_putTrk _ _ _)
          · exact s.still_putTrk _ _ _
        · exact s.still_putTrk _ _ _

@[simp] theorem State.still_releaseOne (p : Pkt) : (s.releaseOne p).still = s.still := by
  have hlive (f : FwdSt → FwdSt) (h : (s.fwdUp f).still = s.still) : (((s.fwdUp f).goLive p).gateRefresh p.key).still = s.still :=
    ((State.still_gateRefresh _ _).trans (State.still_goLive _ _)).trans h
  unfold State.releaseOne
  dsimp only
  refine (State.still_sendMsg _ _ _ _).trans ?_
  split <;> rename_i heq <;> have hcpl := (congrArg (fun r : State × Option Pkt => r.1.still) heq).symm.trans ((State.still_holderCpl _ p).trans (hlive _ rfl))
  · exact s.still_ite _ ((State.still_putTrk _ _ _ _).trans hcpl) (Eq.trans rfl hcpl)
  · exact hcpl

@[simp] theorem State.still_releaseAll (p c n : Nat) : (s.releaseAll p c n).still = s.still := by
  induction n generalizing s with
  | zero => rfl
  | succ n ih =>
    unfold State.releaseAll
    split
    · exact (ih _).trans (s.still_releaseOne _)
    · rfl

@[simp] theorem State.still_gateRun (p c : Nat) : (s.gateRun p c).still = s.still := s.still_releaseAll _ _ _

/-! ### The scheduler -/

@[simp] theorem State.still_setDeficit (port c v : Nat) : (s.setDeficit port c v).still = s.still := rfl

@[simp] theorem State.still_drr (port : Nat) (rnd : List Nat) (n c : Nat) : (s.drr port rnd n c).1.still = s.still := by
  induction n generalizing s c with
  | zero => rfl
  | succ n ih =>
    unfold State.drr
    split
    · rfl
    · exact (ih _ _).trans (s.still_ite _ rfl rfl)

@[simp] theorem State.still_pickClass (port : Nat) : (s.pickClass port).1.still = s.still := by
  unfold State.pickClass
  split
  · rfl
  · split
    · rfl
    · dsimp only
      split
      · rfl
      · rfl
      · exact s.still_drr _ _ _ _

@[simp] theorem State.still_countSent (port bytes : Nat) : (s.countSent port bytes).still = s.still := by simp [State.countSent]

@[simp] theorem State.still_transmit (port c : Nat) : (s.transmit port c).still = s.still := by
  have hsent (t : State) (n : Nat) (b : Bool) (ht : t.still = s.still) :
      (((t.shCharge (4 * port + c) n).countSent port n).shWait (4 * port + c) b).still = s.still := by simpa using ht
  unfold State.transmit
  split
  · rfl
  · refine (State.still_gateRun _ _ _).trans (s.still_ite _ (Eq.trans rfl (hsent _ _ _ rfl)) ?_)
    split
    · exact Eq.trans rfl (hsent _ _ _ rfl)
    · exact hsent _ _ _ rfl

@[simp] theorem State.still_schedule (port : Nat) : (s.schedule port).still = s.still := by
  have hpick := s.still_pickClass port
  unfold State.schedule
  split <;> rename_i heq <;> rw [heq] at hpick
  · exact (State.still_transmit _ _ _).trans hpick
  · exact hpick

/-! ### Completions made and packets dropped -/

@[simp] theorem State.still_synthAt (p x i : Nat) : (s.synthAt p x i).still = s.still := by
  unfold State.synthAt
  split
  · rfl
  · refine s.still_ite _ ((State.still_foldl _ _ (fun t _ _ => t.still_sendPkt _)).trans (s.still_portCount _ _ _)) ?_
    exact (State.still_putTrk _ _ _ _).trans (s.still_portCount _ _ _)

@[simp] theorem State.still_synthSelf (x i : Nat) : (s.synthSelf x i).still = s.still := by
  unfold State.synthSelf
  split
  · rfl
  · refine s.still_ite _ ((State.still_foldl _ _ (fun t _ _ => t.still_answerTlp _ _ _)).trans ?_) (s.still_putTrk _ _ _)
    exact (State.still_portCount _ _ _ _).trans (s.still_putTrk _ _ _)

@[simp] theorem State.still_tombLive (p : Nat) (q : Nat → Nat → Bool) : (s.tombLive p q).still = s.still :=
  s.still_foldl _ (fun t _ _ => (State.still_tomb _ _ _).trans (t.still_synthAt _ _ _))

@[simp] theorem State.still_dropOne (g : Bool) (p : Pkt) : (s.dropOne g p).still = s.still := by
  have htail : (if g then s.sendMsg (p.egress / 4) (pktStn p) (.tailConf p.srcId p.egress p.sc p.seq) else s).still = s.still :=
    s.still_ite _ (s.still_sendMsg _ _ _) rfl
  unfold State.dropOne
  dsimp only
  split
  · exact Eq.trans rfl ((State.still_portCount _ _ _ _).trans htail)
  · exact s.still_ite _ (((State.still_tomb _ _ _).trans (State.still_synthAt _ _ _ _)).trans htail) htail
  · exact s.still_ite _ ((State.still_holderCpl _ _).trans htail) htail
  · exact htail

@[simp] theorem State.still_dropQueued (port : Nat) (q : Pkt → Bool) : (s.dropQueued port q).still = s.still :=
  s.still_foldl _ (fun t _ _ => ((State.still_foldl _ _ (fun t _ _ => t.still_dropOne false _)).trans
    (State.still_foldl _ _ (fun t _ _ => (State.still_gateRefresh _ _).trans (t.still_dropOne true _)))).trans (Eq.trans rfl (Eq.refl t.still)))

@[simp] theorem State.still_expire (x i : Nat) : (s.expire x i).still = s.still := by
  unfold State.expire
  split
  · rfl
  · refine s.still_ite _ rfl (s.still_ite _ (s.still_ite _ ?_ (s.still_synthSelf _ _)) (s.still_ite _ ?_ (s.still_putTrk _ _ _)))
    · simp
    · exact (State.still_sendMsg _ _ _ _).trans (s.still_putTrk _ _ _)

@[simp] theorem State.still_expireAll (q : Nat → TrkE → Bool) : (s.expireAll q).still = s.still :=
  s.still_foldl _ (fun t _ _ => t.still_expire _ _)

end

end Sys2Proof.Machine
end

section
/-!
SUPPORT. MCR commands from their arrival to their answer (R480 to R495): how a command that nothing holds up starts, what its end, its park and its
running on change, and what its originator is answered.
-/

namespace Sys2Proof.Machine

/-! ### Bytes of a response -/

theorem leBytes_length (n v : Nat) : (leBytes n v).length = n := by
  induction n generalizing v with
  | zero => rfl
  | succ n ih => simp [leBytes, ih]

theorem padTo_length (n : Nat) (l : List Byte) : (padTo n l).length = n := by simp [padTo]

theorem leBytes_drop (n v lo : Nat) (h : lo ≤ n) : (leBytes n v).drop lo = leBytes (n - lo) (v / 256 ^ lo) := by
  induction lo generalizing n v with
  | zero => simp
  | succ lo ih =>
    obtain ⟨n, rfl⟩ : ∃ m, n = m + 1 := ⟨n - 1, by omega⟩
    rw [leBytes, List.drop_succ_cons, ih _ _ (by omega), Nat.div_div_eq_div_mul, Nat.add_sub_add_right, Nat.pow_succ']

theorem leNat_take_leBytes (n v k : Nat) (h : k ≤ n) (r : List Byte) : leNat ((leBytes n v ++ r).take k) = v % 256 ^ k := by
  induction k generalizing n v with
  | zero => simp [leNat, Nat.mod_one]
  | succ k ih =>
    obtain ⟨n, rfl⟩ : ∃ m, n = m + 1 := ⟨n - 1, by omega⟩
    rw [leBytes, List.cons_append, List.take_succ_cons, leNat, ih _ _ (by omega), BitVec.toNat_ofNat]
    exact (Nat.mod_mul (a := 256) (b := 256 ^ k)).symm.trans (by rw [pow_succ'])

theorem leAt_leBytes_append (n v lo k : Nat) (h : lo + k ≤ n) (r : List Byte) : leAt (leBytes n v ++ r) lo k = v / 256 ^ lo % 256 ^ k := by
  rw [leAt, List.drop_append_of_le_length (by rw [leBytes_length]; omega), leBytes_drop _ _ _ (by omega), leNat_take_leBytes _ _ _ (by omega)]

/-- The number whose bytes are the head of a response (R481), in digits of a base. -/
def rspNum (B : Nat) (r : McrRsp) (phase : Nat) : Nat :=
  r.job.cx.user % 2 ^ 32 + B ^ 4 * (r.status + B * (phase + B * (B ^ 2 * (r.job.seq % 2 ^ 32 + B ^ 4 * (r.jseq % 2 ^ 32)))))

theorem rspNum_sum (B u s p q j : Nat) : (List.map (fun f : Nat × Nat × Nat => f.2.2 * B ^ f.1) [(0, 4, u), (4, 1, s), (5, 1, p), (8, 4, q), (12, 4, j)]).sum =
      u + B ^ 4 * (s + B * (p + B * (B ^ 2 * (q + B ^ 4 * j)))) := by
    simp only [List.map_cons, List.map_nil, List.sum_cons, List.sum_nil]
    ring

theorem rspBytes_eq (r : McrRsp) (phase : Nat) : rspBytes r phase = leBytes 16 (rspNum 256 r phase) ++ padTo 16 r.result :=
  congrArg (fun v => leBytes 16 v ++ padTo 16 r.result) (rspNum_sum 256 _ _ _ _ _)

theorem rspBytes_length (r : McrRsp) (phase : Nat) : (rspBytes r phase).length = 32 := by
  rw [rspBytes_eq, List.length_append, leBytes_length, padTo_length]

theorem rspBytes_status (r : McrRsp) {phase : Nat} (hs : r.status < 256) : leAt (rspBytes r phase) 4 1 = r.status := by
  have hnum (u s p : Nat) (hu : u < 256 ^ 4) (h : s < 256) : (u + 256 ^ 4 * (s + 256 * p)) / 256 ^ 4 % 256 ^ 1 = s := by omega
  rw [rspBytes_eq, leAt_leBytes_append _ _ _ _ (by decide)]
  exact hnum _ _ _ (Nat.mod_lt _ (by decide)) hs

theorem rspBytes_user (r : McrRsp) (phase : Nat) : leAt (rspBytes r phase) 0 4 = r.job.cx.user % 2 ^ 32 := by
  have hnum (u p : Nat) (hu : u < 256 ^ 4) : (u + 256 ^ 4 * p) / 256 ^ 0 % 256 ^ 4 = u := by omega
  rw [rspBytes_eq, leAt_leBytes_append _ _ _ _ (by decide)]
  exact hnum _ _ (Nat.mod_lt _ (by decide))

/-! ### What every MCR command may change -/

section
variable {s t u : State} {l l' : List Reg} {xs xs' : List Trip}

theorem State.mcrOnly_refl (s : State) (l : List Reg) (xs : List Trip) : s.mcrOnly s l xs := ⟨fun _ _ _ _ => rfl, rfl⟩

theorem State.mcrOnly.trans (h : s.mcrOnly t l xs) (h' : t.mcrOnly u l' xs') : s.mcrOnly u (l ++ l') (xs ++ xs') := by
  obtain ⟨hrd, hrest⟩ := h
  obtain ⟨hrd', hrest'⟩ := h'
  refine ⟨fun r hr hn hx => ?_, ?_⟩
  · rw [List.mem_append, not_or] at hr
    rw [hrd' r hr.2 hn (fun x m => hx x (List.mem_append_right _ m)), hrd r hr.1 hn (fun x m => hx x (List.mem_append_left _ m))]
  · exact (congrArg (fun v : State =>
      { v with regs := s.regs, mgr := s.mgr, journal := s.journal, sent := s.sent, msiWait := s.msiWait }) hrest').trans hrest

theorem State.mcrOnly.mono (h : s.mcrOnly u l xs) (hl : ∀ r ∈ l, r ∈ l') (hx : ∀ x ∈ xs, x ∈ xs') : s.mcrOnly u l' xs' :=
  ⟨fun r hr hn hx' => h.1 r (fun m => hr (hl r m)) hn (fun x m => hx' x (hx x m)), h.2⟩

/-- What changes nothing that is not allowed to every command keeps the frame. -/
theorem State.mcrOnly.andThen (h : s.mcrOnly t l xs) (h' : t.mcrOnly u [] []) : s.mcrOnly u l xs :=
  (h.trans h').mono (by simp) (by simp)

theorem State.only.mcrOnly (h : s.only u l xs) : s.mcrOnly u l xs := by
  refine ⟨fun r hr hn hx => h.1 r hr (fun x m => ⟨(hx x m).1, (hx x m).2, fun e => hn (by simp [e])⟩), ?_⟩
  exact congrArg (fun v : State => { v with mgr := s.mgr, journal := s.journal }) h.2

theorem State.mcrOnly.get (h : s.mcrOnly u l xs) {f : Fld} {ix : List Nat} (hl : (⟨f.reg, ix⟩ : Reg) ∉ l) (hn : f.reg ∉ tripNames)
    (hm : f.reg ∉ [RN.MGR_JNL_SEQ, .MGR_MCR_STAT, .MGR_RSP_DONE]) : u.get f ix = s.get f ix := by
  have hapart (x : Trip) : (⟨f.reg, ix⟩ : Reg).apart x := Reg.apart_of_name (r := ⟨f.reg, ix⟩) hn x
  rw [State.get_eq, State.get_eq]
  refine congrArg (fun w => fget w f.lo f.w) (h.1 ⟨f.reg, ix⟩ hl (fun m => ?_) (fun x _ => ⟨(hapart x).1, (hapart x).2.1⟩))
  simp only [List.mem_cons, List.not_mem_nil, or_false] at m hm
  have hpba := (hapart .sec).2.2
  dsimp only at hpba
  tauto

theorem State.mcrOnly.fwd (h : s.mcrOnly u l xs) : u.fwd = s.fwd := (congrArg State.fwd h.2 :)

theorem State.mcrOnly.vsx (h : s.mcrOnly u l xs) : u.vsx = s.vsx := (congrArg State.vsx h.2 :)

theorem State.mcrOnly.cfg (h : s.mcrOnly u l xs) : u.cfg = s.cfg := (congrArg State.cfg h.2 :)

theorem State.mcrOnly.mule (h : s.mcrOnly u l xs) : u.mule = s.mule := (congrArg State.mule h.2 :)

theorem State.mcrOnly_wr (s : State) {r : Reg} (v : W64) (hr : r.n ∈ [RN.MGR_JNL_SEQ, .MGR_MCR_STAT, .MGR_RSP_DONE, .MSIX_PBA]) :
    s.mcrOnly (s.wr r v) [] [] := ⟨fun _ _ hn _ => s.rd_wr_ne v (fun e => hn (e ▸ hr)), rfl⟩

theorem State.mcrOnly_set (s : State) {f : Fld} (ix : List Nat) (v : Nat) (hf : f.reg ∈ [RN.MGR_JNL_SEQ, .MGR_MCR_STAT, .MGR_RSP_DONE, .MSIX_PBA]) :
    s.mcrOnly (s.set f ix v) [] [] := s.mcrOnly_wr _ hf

theorem State.mcrOnly_mgrUp (s : State) (f : MgrSt → MgrSt) : s.mcrOnly (s.mgrUp f) [] [] := ⟨fun _ _ _ _ => rfl, rfl⟩

theorem State.mcrOnly_emit (s : State) (o : Out) : s.mcrOnly (s.emit o) [] [] := ⟨fun _ _ _ _ => rfl, rfl⟩

theorem State.mcrOnly_when (c : Bool) {f : State → State} (h : s.mcrOnly (f s) [] []) : s.mcrOnly (s.when c f) [] [] := by
  cases c
  · exact s.mcrOnly_refl _ _
  · exact h

theorem State.mcrOnly_mgrStat (s : State) : s.mcrOnly s.mgrStat [] [] :=
  (s.mcrOnly_set (f := F.MGR_MCR_STAT_IDLE) _ _ (by decide)).trans (State.mcrOnly_set _ (f := F.MGR_MCR_STAT_PARKED) _ _ (by decide))

theorem State.mcrOnly_setRspDone (s : State) (q : Nat) (b : Bool) : s.mcrOnly (s.setRspDone q b) [] [] := s.mcrOnly_set _ _ (by decide)

theorem State.mcrOnly_sendMsix (s : State) (v : Nat) : s.mcrOnly (s.sendMsix v) [] [] :=
  ⟨fun r _ hn _ => s.sendMsix_rd v (fun e => hn (by simp [e])),
    congrArg (fun x : State => { x with mgr := s.mgr, journal := s.journal }) (s.sendMsix_rest v)⟩

theorem State.mcrOnly_journalAdd (s : State) (kind orig cmdSeq origId : Nat) (body result : List Byte) :
    s.mcrOnly (s.journalAdd kind orig cmdSeq origId body result) [] [] :=
  ⟨fun r _ hn _ => s.journalAdd_rd_ne _ _ _ _ _ _ (fun e => hn (by simp [e])),
    congrArg (fun x : State => { x with mgr := s.mgr, sent := s.sent, msiWait := s.msiWait }) (s.journalAdd_rest kind orig cmdSeq origId body result)⟩

end

/-! ### Everything sent stays sent -/

theorem State.sentGrows_refl (s : State) : s.sentGrows s := ⟨[], (List.append_nil _).symm⟩

theorem State.sentGrows_of_eq {s u : State} (h : u.sent = s.sent) : s.sentGrows u := ⟨[], by simp [h]⟩

theorem State.sentGrows.trans {s t u : State} (h : s.sentGrows t) (h' : t.sentGrows u) : s.sentGrows u := by
  obtain ⟨l, hl⟩ := h
  obtain ⟨l', hl'⟩ := h'
  exact ⟨l ++ l', by rw [hl', hl, List.append_assoc]⟩

/-- Something sent between two states has been sent since any earlier one. -/
theorem State.sentGrows.mem {s t u : State} (h : s.sentGrows t) {o : Out} (ho : o ∈ u.sent.drop t.sent.length) : o ∈ u.sent.drop s.sent.length := by
  obtain ⟨l, hl⟩ := h
  rw [hl, List.length_append, ← List.drop_drop] at ho
  exact List.mem_of_mem_drop ho

/-- What is sent at a step is among what has been sent since. -/
theorem State.sentGrows.mem_of_emit {s u : State} {o : Out} (h : (s.emit o).sentGrows u) : o ∈ u.sent.drop s.sent.length := by
  obtain ⟨l, hl⟩ := h
  simp [hl]

theorem State.sentGrows.any {s t u : State} (h : s.sentGrows t) {q : Out → Bool} (hq : (u.sent.drop t.sent.length).any q = true) :
    (u.sent.drop s.sent.length).any q = true := by
  obtain ⟨o, ho, hoq⟩ := List.any_eq_true.mp hq
  exact List.any_eq_true.mpr ⟨o, h.mem ho, hoq⟩

theorem State.sentGrows.answered {s t u : State} (h : s.sentGrows t) {cx : McrCx} {st : Nat} (ha : t.answered u cx st = true) :
    s.answered u cx st = true := by
  unfold State.answered at ha ⊢
  dsimp only at ha ⊢
  split at ha
  · rw [Bool.or_eq_true] at ha ⊢
    exact ha.imp_right h.any
  · exact h.any ha
  · exact h.any ha

/-! ### The answer -/

section
variable (s : State) (r : McrRsp)

/-- The slot of the response ring that the next response takes, and its PHASE. -/
def State.rspSlot : Nat × Nat :=
  let n := s.get F.MGR_MCR_STAT_RSP_WRITTEN []
  let sz := s.get F.MGR_MCR_CFG_RSP_SIZE []
  ((s.rd ⟨.MGR_RSP_BASE, []⟩).toNat + 32 * (n % 2 ^ sz), phaseOf n sz)

/-- A response in its slot, counted and shown in the map, before its message. -/
def State.putRsp : State :=
  ((s.emit (.hostWrite .mgmt s.rspSlot.1 (rspBytes r s.rspSlot.2))).incr F.MGR_MCR_STAT_RSP_WRITTEN []).setRspDone r.job.seq true

theorem State.writeRsp_eq : s.writeRsp r = (s.putRsp r).when r.job.cx.irq (fun t => t.sendMsix (t.get F.MGR_MCR_CFG_VEC [])) := rfl

theorem State.mcrOnly_putRsp : s.mcrOnly (s.putRsp r) [] [] :=
  ((s.mcrOnly_emit _).trans (State.mcrOnly_set _ (f := F.MGR_MCR_STAT_RSP_WRITTEN) [] _ (by decide))).trans (State.mcrOnly_setRspDone _ _ true)

theorem State.mcrOnly_writeRsp : s.mcrOnly (s.writeRsp r) [] [] :=
  (s.mcrOnly_putRsp r).trans (State.mcrOnly_when _ (State.mcrOnly_sendMsix _ _))

/-- A response that is written is the first thing that its write sends. -/
theorem State.writeRsp_sent : (s.emit (.hostWrite .mgmt s.rspSlot.1 (rspBytes r s.rspSlot.2))).sentGrows (s.writeRsp r) := by
  rw [State.writeRsp_eq, State.when]
  split
  · exact State.sentGrows.trans (State.sentGrows_of_eq rfl) (State.sentGrows_sendMsix _ _)
  · exact State.sentGrows_of_eq rfl

theorem State.sentGrows_writeRsp : s.sentGrows (s.writeRsp r) := State.sentGrows.trans ⟨_, rfl⟩ (s.writeRsp_sent r)

theorem State.sendMsix_mgr (v : Nat) : (s.sendMsix v).mgr = s.mgr := (congrArg State.mgr (s.sendMsix_rest v) :)

theorem State.writeRsp_mgr : (s.writeRsp r).mgr = s.mgr := by
  rw [State.writeRsp_eq, State.when]
  split
  · exact State.sendMsix_mgr _ _
  · rfl

/-- The responses that wait are written in order. -/
def State.writeRsps (l : List McrRsp) : State := l.foldl (fun (s : State) r => s.writeRsp r) s

theorem State.mcrOnly_writeRsps (l : List McrRsp) : s.mcrOnly (s.writeRsps l) [] [] :=
  List.foldlRecOn (motive := fun t => s.mcrOnly t [] []) l _ (s.mcrOnly_refl _ _) (fun t ht r _ => ht.trans (t.mcrOnly_writeRsp r))

theorem State.sentGrows_writeRsps (l : List McrRsp) : s.sentGrows (s.writeRsps l) :=
  List.foldlRecOn (motive := s.sentGrows) l _ s.sentGrows_refl (fun t ht r _ => ht.trans (t.sentGrows_writeRsp r))

theorem State.writeRsps_mgr (l : List McrRsp) : (s.writeRsps l).mgr = s.mgr :=
  List.foldlRecOn (motive := fun (t : State) => t.mgr = s.mgr) l _ rfl (fun t ht r _ => (t.writeRsp_mgr r).trans ht)

theorem State.sendMsix_journal (v : Nat) : (s.sendMsix v).journal = s.journal := (congrArg State.journal (s.sendMsix_rest v) :)

theorem State.writeRsp_journal : (s.writeRsp r).journal = s.journal := by
  rw [State.writeRsp_eq, State.when]
  split
  · exact State.sendMsix_journal _ _
  · rfl

theorem State.writeRsps_journal (l : List McrRsp) : (s.writeRsps l).journal = s.journal :=
  List.foldlRecOn (motive := fun (t : State) => t.journal = s.journal) l _ rfl (fun t ht r _ => (t.writeRsp_journal r).trans ht)

theorem State.writeRsps_append (l : List McrRsp) : s.writeRsps (l ++ [r]) = (s.writeRsps l).writeRsp r := by
  simp [State.writeRsps, List.foldl_append]

/-- The owner's answer: the responses that wait and then this one, or this one waits behind them (R574). -/
theorem State.respond_owner (ho : r.job.cx.orig = 0) (hg : r.job.gen = s.mgr.gen) :
    s.respond r = if s.hostIo then ((s.mgrUp (fun m => { m with rsps := [] })).writeRsps s.mgr.rsps).writeRsp r
      else s.mgrUp (fun m => { m with rsps := m.rsps ++ [r] }) := by
  rw [← State.writeRsps_append]
  simp only [State.respond, ho, hg, if_true]
  rfl

theorem State.respond_relay (ho : r.job.cx.orig = 3) (ha : r.job.answered = false) :
    s.respond r = s.emit (.answer .relay 0 (rspBytes r 0)) := by
  simp only [State.respond, ho, ha]
  rfl

theorem State.respond_sideband (ho : r.job.cx.orig ≠ 0 ∧ r.job.cx.orig ≠ 3 ∧ r.job.cx.orig ≠ 4) (ha : r.job.answered = false) :
    s.respond r = (s.emit (.answer .sideband 0 (rspBytes r 0))).mgrUp (fun m => { m with subBusy := false }) := by
  obtain ⟨h0, h3, h4⟩ := ho
  unfold State.respond
  split
  · contradiction
  · contradiction
  · contradiction
  · rw [ha]
    rfl

/-- The command has an originator that this device answers, which has not been answered yet. -/
structure State.answerable (j : McrJob) : Prop where
  orig : j.cx.orig ≠ 4
  gen : j.cx.orig = 0 → j.gen = s.mgr.gen
  fresh : j.cx.orig ≠ 0 → j.answered = false

theorem State.answerable.cases {s : State} {j : McrJob} (h : s.answerable j) :
    (j.cx.orig = 0 ∧ j.gen = s.mgr.gen) ∨ (j.cx.orig = 3 ∧ j.answered = false) ∨ ((j.cx.orig ≠ 0 ∧ j.cx.orig ≠ 3 ∧ j.cx.orig ≠ 4) ∧ j.answered = false) := by
  obtain ⟨ho, hg, ha⟩ := h
  by_cases h0 : j.cx.orig = 0
  · exact .inl ⟨h0, hg h0⟩
  · by_cases h3 : j.cx.orig = 3
    · exact .inr (.inl ⟨h3, ha h0⟩)
    · exact .inr (.inr ⟨⟨h0, h3, ho⟩, ha h0⟩)

/-- A command that is not answered, because its originator is gone or has its answer, leaves the state as it is. -/
theorem State.respond_of_not_answerable (h : ¬ s.answerable r.job) : s.respond r = s := by
  unfold State.respond State.when
  split
  next h0 => exact if_neg (fun hg => h ⟨by rw [h0]; decide, fun _ => hg, fun hne => absurd h0 hne⟩)
  next h3 =>
    cases ha : r.job.answered
    · exact absurd ⟨by rw [h3]; decide, fun h0 => absurd (h3.symm.trans h0) (by decide), fun _ => ha⟩ h
    · rfl
  next => rfl
  next h0 _ h4 =>
    cases ha : r.job.answered
    · exact absurd ⟨h4, fun h => absurd h h0, fun _ => ha⟩ h
    · rfl

section
variable {s r} (h : s.answerable r.job)
include h

theorem State.answerable.mcrOnly : s.mcrOnly (s.respond r) [] [] := by
  obtain ⟨ho, hg⟩ | ⟨ho, ha⟩ | ⟨ho, ha⟩ := h.cases
  · rw [s.respond_owner r ho hg]
    split
    · exact ((s.mcrOnly_mgrUp _).trans (State.mcrOnly_writeRsps _ _)).trans (State.mcrOnly_writeRsp _ _)
    · exact s.mcrOnly_mgrUp _
  · rw [s.respond_relay r ho ha]
    exact s.mcrOnly_emit _
  · rw [s.respond_sideband r ho ha]
    exact (s.mcrOnly_emit _).trans (State.mcrOnly_mgrUp _ _)

theorem State.answerable.sentGrows : s.sentGrows (s.respond r) := by
  obtain ⟨ho, hg⟩ | ⟨ho, ha⟩ | ⟨ho, ha⟩ := h.cases
  · rw [s.respond_owner r ho hg]
    split
    · exact (State.sentGrows_writeRsps (s.mgrUp _) _).trans (State.sentGrows_writeRsp _ _)
    · exact State.sentGrows_of_eq rfl
  · rw [s.respond_relay r ho ha]
    exact ⟨_, rfl⟩
  · rw [s.respond_sideband r ho ha]
    exact ⟨_, rfl⟩

/-- An answer changes only the responses that wait and the endpoint's mark among the firmware's records. -/
theorem State.answerable.mgr : { (s.respond r).mgr with rsps := s.mgr.rsps, subBusy := s.mgr.subBusy } = s.mgr := by
  obtain ⟨ho, hg⟩ | ⟨ho, ha⟩ | ⟨ho, ha⟩ := h.cases
  · rw [s.respond_owner r ho hg]
    split
    · rw [State.writeRsp_mgr, State.writeRsps_mgr]
      rfl
    · rfl
  · rw [s.respond_relay r ho ha]
    rfl
  · rw [s.respond_sideband r ho ha]
    rfl

theorem State.answerable.journal : (s.respond r).journal = s.journal := by
  obtain ⟨ho, hg⟩ | ⟨ho, ha⟩ | ⟨ho, ha⟩ := h.cases
  · rw [s.respond_owner r ho hg]
    split
    · rw [State.writeRsp_journal, State.writeRsps_journal]
      rfl
    · rfl
  · rw [s.respond_relay r ho ha]
    rfl
  · rw [s.respond_sideband r ho ha]
    rfl

/-- The originator reads the status and its USER value in the answer. -/
theorem State.answerable.answered (hst : r.status < 256) : s.answered (s.respond r) r.job.cx r.status = true := by
  have hfits (ph : Nat) : leAt (rspBytes r ph) 4 1 = r.status ∧ leAt (rspBytes r ph) 0 4 = r.job.cx.user % 2 ^ 32 :=
    ⟨rspBytes_status r hst, rspBytes_user r ph⟩
  obtain ⟨ho, hg⟩ | ⟨ho, ha⟩ | ⟨ho, ha⟩ := h.cases
  · rw [s.respond_owner r ho hg]
    unfold State.answered
    rw [ho]
    refine Bool.or_eq_true_iff.mpr ?_
    split
    · refine .inr (List.any_eq_true.mpr ⟨_, (State.sentGrows_writeRsps (s.mgrUp _) _).mem (State.writeRsp_sent _ r).mem_of_emit, ?_⟩)
      simp [rspBytes_length, hfits]
    · exact .inl (List.any_eq_true.mpr ⟨r, by simp, by simp⟩)
  · rw [s.respond_relay r ho ha]
    unfold State.answered
    rw [ho]
    exact List.any_eq_true.mpr ⟨_, (State.sentGrows_refl _).mem_of_emit, by simp [hfits]⟩
  · rw [s.respond_sideband r ho ha]
    unfold State.answered
    have hmem := (State.sentGrows_of_eq (s := s.emit (.answer .sideband 0 (rspBytes r 0)))
      (u := (s.emit (.answer .sideband 0 (rspBytes r 0))).mgrUp (fun m => { m with subBusy := false })) rfl).mem_of_emit
    obtain ⟨h0, h3, -⟩ := ho
    split
    · contradiction
    · contradiction
    · exact List.any_eq_true.mpr ⟨_, hmem, by simp [hfits]⟩

end

end

/-! ### The end of a command -/

theorem getLast?_drop_append_singleton {α : Type} (l : List α) (a : α) (n : Nat) (hn : 0 < n) :
    ((l ++ [a]).drop ((l ++ [a]).length - n)).getLast? = some a := by
  rw [List.drop_append_of_le_length (by rw [List.length_append, List.length_singleton]; omega), List.getLast?_append]
  rfl

/-- A journal entry is the newest one, with the next SEQ (R490, R491). -/
theorem State.journalAdd_getLast (s : State) (kind orig cmdSeq origId : Nat) (body result : List Byte) :
    (s.journalAdd kind orig cmdSeq origId body result).journal.getLast?.map (fun e => (e.seq, e.kind, e.orig, e.body)) =
      some (s.get F.MGR_JNL_SEQ_SEQ [], kind, orig, body) := by
  rw [State.journalAdd, State.set_journal, getLast?_drop_append_singleton _ _ _ (by decide)]
  rfl

/-- The end of a command before its answer: its change is journaled, and it neither runs nor is parked. -/
def State.ended (s : State) (j : McrJob) (st : Nat) (result : List Byte) : State :=
  (s.when (j.applies st) (fun s => s.journalJob j result)).mgrUp (fun m => { m with
    run := if m.run.map (·.id) = some j.id then none else m.run,
    parked := m.parked.filter (fun e => e.1.id != j.id) })

/-- The response of a command that ends. -/
def State.endRsp (s : State) (j : McrJob) (st : Nat) (result : List Byte) : McrRsp :=
  { job := j, status := st, jseq := if j.applies st then s.get F.MGR_JNL_SEQ_SEQ [] else 0, result := result }

theorem State.finish_eq (s : State) (j : McrJob) (st : Nat) (result : List Byte) :
    s.finish j st result = ((s.ended j st result).respond (s.endRsp j st result)).mgrStat := rfl

section
variable {s : State} {j : McrJob} {st : Nat} {result : List Byte}

theorem State.ended_mgr : (s.ended j st result).mgr = { s.mgr with
    run := if s.mgr.run.map (·.id) = some j.id then none else s.mgr.run, parked := s.mgr.parked.filter (fun e => e.1.id != j.id) } := by
  unfold State.ended State.when
  split <;> rfl

theorem State.ended_sent : (s.ended j st result).sent = s.sent := by
  unfold State.ended State.when
  split <;> rfl

theorem State.ended_journal : (s.ended j st result).journal = if j.applies st then (s.journalJob j result).journal else s.journal := by
  rw [State.ended, State.mgrUp_journal, State.when]
  exact apply_ite State.journal _ _ _

theorem State.mcrOnly_ended : s.mcrOnly (s.ended j st result) [] [] :=
  (State.mcrOnly_when _ (s.mcrOnly_journalAdd _ _ _ _ _ _)).trans (State.mcrOnly_mgrUp _ _)

section
variable (h : s.answerable j)
include h

theorem State.answerable.ended : (s.ended j st result).answerable (s.endRsp j st result).job :=
  ⟨h.orig, fun ho => by rw [State.ended_mgr]; exact h.gen ho, h.fresh⟩

theorem State.answerable.finish_mcrOnly : s.mcrOnly (s.finish j st result) [] [] := by
  rw [State.finish_eq]
  exact (State.mcrOnly_ended.trans h.ended.mcrOnly).trans (State.mcrOnly_mgrStat _)

theorem State.answerable.finish_sentGrows : s.sentGrows (s.finish j st result) := by
  rw [State.finish_eq]
  exact (State.sentGrows_of_eq State.ended_sent).trans (h.ended.sentGrows.trans (State.sentGrows_of_eq rfl))

theorem State.answerable.finish_answered (hst : st < 256) : s.answered (s.finish j st result) j.cx st = true := by
  rw [State.finish_eq]
  exact (State.sentGrows_of_eq State.ended_sent).answered (h.ended.answered hst)

/-- A command that ends is neither running nor parked; the others stay as they are. -/
theorem State.answerable.finish_mgr : { (s.finish j st result).mgr with rsps := s.mgr.rsps, subBusy := s.mgr.subBusy } = { s.mgr with
    run := if s.mgr.run.map (·.id) = some j.id then none else s.mgr.run, parked := s.mgr.parked.filter (fun e => e.1.id != j.id) } := by
  have hrsp := congrArg (fun m : MgrSt => { m with rsps := s.mgr.rsps, subBusy := s.mgr.subBusy }) (h.ended (st := st) (result := result)).mgr
  rw [State.ended_mgr] at hrsp
  exact hrsp

theorem State.answerable.finish_queue : (s.finish j st result).mgr.queue = s.mgr.queue := (congrArg MgrSt.queue h.finish_mgr :)

theorem State.answerable.finish_parked : (s.finish j st result).mgr.parked = s.mgr.parked.filter (fun e => e.1.id != j.id) :=
  (congrArg MgrSt.parked h.finish_mgr :)

theorem State.answerable.finish_journal_eq :
    (s.finish j st result).journal = if j.applies st then (s.journalJob j result).journal else s.journal := by
  rw [State.finish_eq, ← State.ended_journal]
  exact h.ended.journal

/-- What changes nothing leaves the journal as it is (R490). -/
theorem State.answerable.finish_journal (ha : j.applies st = false) : (s.finish j st result).journal = s.journal := by
  rw [h.finish_journal_eq, ha]
  rfl

/-- An applied change is the newest entry of the journal (R490, R491). -/
theorem State.answerable.finish_journaled (ha : j.applies st = true) :
    (s.finish j st result).journal.getLast?.map (fun e => (e.seq, e.kind, e.orig, e.body)) = some (s.get F.MGR_JNL_SEQ_SEQ [], 0, j.cx.orig, j.entry) := by
  rw [h.finish_journal_eq, ha, if_pos rfl]
  exact s.journalAdd_getLast ..

end

end

end Sys2Proof.Machine
end

section
/-!
SUPPORT. How an MCR command that nothing holds up starts (R479 to R486): what its arrival changes, and that it runs at once.
-/

namespace Sys2Proof.Machine

/-! ### The arrival -/

/-- The state in which an MCR command runs that nothing holds up: its arrival is recorded. -/
def State.begun (s : State) (cx : McrCx) : State :=
  (s.when (cx.orig == 0) (·.setRspDone s.mgr.fetched false)).mgrUp (fun m => { m with
    jobs := m.jobs + 1, fetched := if cx.orig = 0 then (m.fetched + 1) % 2 ^ 32 else m.fetched,
    subBusy := if cx.orig = 1 ∨ cx.orig = 2 then true else m.subBusy })

/-- The command as it runs. -/
def State.firstJob (s : State) (cx : McrCx) (o : McrOp) (env : McrEnv) : McrJob :=
  { cx := cx, id := s.mgr.jobs, seq := if cx.orig = 0 then s.mgr.fetched else 0, gen := if cx.orig = 0 then s.mgr.gen else 0, op := some o,
    entry := entryOf cx o, env := env }

section
variable (s : State) (cx : McrCx) (o : McrOp) (env : McrEnv)

theorem State.mcrOnly_begun : s.mcrOnly (s.begun cx) [] [] :=
  (State.mcrOnly_when _ (s.mcrOnly_setRspDone _ _)).trans (State.mcrOnly_mgrUp _ _)

theorem State.begun_sent : (s.begun cx).sent = s.sent := by
  unfold State.begun State.when
  split <;> rfl

theorem State.begun_journal : (s.begun cx).journal = s.journal := by
  unfold State.begun State.when
  split <;> rfl

theorem State.begun_mgr : (s.begun cx).mgr = { s.mgr with
    jobs := s.mgr.jobs + 1, fetched := if cx.orig = 0 then (s.mgr.fetched + 1) % 2 ^ 32 else s.mgr.fetched,
    subBusy := if cx.orig = 1 ∨ cx.orig = 2 then true else s.mgr.subBusy } := by
  unfold State.begun State.when
  split <;> rfl

theorem State.begun_vsx : (s.begun cx).vsx = s.vsx := (s.mcrOnly_begun cx).vsx

theorem State.begun_seq : (s.begun cx).get F.MGR_JNL_SEQ_SEQ [] = s.get F.MGR_JNL_SEQ_SEQ [] := by
  unfold State.begun State.when
  split
  · exact s.get_set_disj F.MGR_RSP_DONE_DONE _ _ _ _ (.inl (by simp))
  · rfl

theorem State.begun_get {f : Fld} (hf : f.reg ∉ trafficNames) (ix : List Nat) : (s.begun cx).get f ix = s.get f ix := by
  unfold State.begun State.when
  split
  · exact s.get_set_disj F.MGR_RSP_DONE_DONE _ _ _ _ (.inl (fun e => hf (by injection e with e; rw [e]; decide)))
  · rfl

/-- Beside the firmware's records, an arrival changes nothing that traffic does not change. -/
theorem State.begun_still : ({ s.begun cx with mgr := s.mgr } : State).still = s.still := by
  unfold State.begun State.when
  split
  · exact Eq.trans rfl (s.still_set (f := F.MGR_RSP_DONE_DONE) _ _ (by decide))
  · rfl

theorem State.sentGrows_begun : s.sentGrows (s.begun cx) := State.sentGrows_of_eq (s.begun_sent cx)

variable {s cx}

theorem State.mcrReady.orig (h : s.mcrReady cx) : cx.orig ≤ 3 := by
  obtain ⟨-, -, -, -, -, -, -, -, ho, -⟩ := h
  exact ho

theorem State.mcrReady.awake (h : s.mcrReady cx) : s.sealed = false := And.left h

theorem State.mcrReady.dev (h : s.mcrReady cx) : cx.dev = 0x3F := by
  obtain ⟨-, -, -, -, -, -, -, hd, -⟩ := h
  exact hd

theorem State.mcrReady.swaps (h : s.mcrReady cx) : s.fwd.swaps = [] := by
  obtain ⟨-, -, -, -, -, hs, -⟩ := h
  exact hs

theorem State.mcrReady.running (h : s.mcrReady cx) : s.mgr.run = none := by
  obtain ⟨-, -, hr, -⟩ := h
  exact hr

theorem State.mcrReady.waiting (h : s.mcrReady cx) : s.mgr.queue = [] := by
  obtain ⟨-, -, -, hq, -⟩ := h
  exact hq

theorem State.mcrReady.parked (h : s.mcrReady cx) : s.mgr.parked = [] := by
  obtain ⟨-, -, -, -, hp, -⟩ := h
  exact hp

variable {o env}

theorem State.mcrReady.answerable (h : s.mcrReady cx) {t : State} (ht : t.mgr.gen = s.mgr.gen) : t.answerable (s.firstJob cx o env) :=
  ⟨(fun h4 => absurd h.orig (by rw [h4]; decide) : cx.orig ≠ 4), fun ho => by rw [ht]; exact if_pos ho, fun _ => rfl⟩

theorem State.setRspDone_mgrUp (s : State) (f : MgrSt → MgrSt) (q : Nat) (b : Bool) : (s.mgrUp f).setRspDone q b = (s.setRspDone q b).mgrUp f := rfl

theorem State.mgrUp_mgrUp (s : State) (f g : MgrSt → MgrSt) : (s.mgrUp f).mgrUp g = s.mgrUp (fun m => g (f m)) := rfl

theorem State.mgrUp_congr {s : State} {f g : MgrSt → MgrSt} (h : f s.mgr = g s.mgr) : s.mgrUp f = s.mgrUp g := by
  rw [State.mgrUp, State.mgrUp, h]

/-- A command that nothing holds up arrives at an empty queue. -/
theorem State.mcrReady.arrive (h : s.mcrReady cx) :
    s.arrive { cx := cx, op := some o, entry := entryOf cx o, env := env } =
      (s.begun cx).mgrUp (fun m => { m with queue := [s.firstJob cx o env] }) := by
  obtain ⟨-, hrestart, -, hqueue, -, -, -, -, horig, hfetch, hsub⟩ := h
  have hcases : cx.orig = 0 ∨ (cx.orig = 1 ∨ cx.orig = 2) ∨ cx.orig = 3 := by omega
  unfold State.arrive State.begun State.firstJob
  dsimp only
  rcases hcases with ho | ho | ho
  · rw [ho]
    refine (if_pos (hfetch ho)).trans ?_
    rw [State.setRspDone_mgrUp, State.mgrUp_mgrUp, State.mgrUp_mgrUp]
    exact State.mgrUp_congr (by simp [hqueue, State.setRspDone])
  · have hfree := hsub ho
    rcases ho with ho | ho <;>
    · rw [ho]
      refine ((if_neg (Bool.eq_false_iff.mp hrestart)).trans (if_neg (Bool.eq_false_iff.mp hfree))).trans ?_
      rw [State.mgrUp_mgrUp, State.mgrUp_mgrUp]
      exact State.mgrUp_congr (by simp [hqueue])
  · rw [ho]
    refine (if_neg (Bool.eq_false_iff.mp hrestart)).trans ?_
    rw [State.mgrUp_mgrUp, State.mgrUp_mgrUp]
    exact State.mgrUp_congr (by simp [hqueue])

/-! ### The start -/

theorem State.kick_empty (s : State) (run : State → McrJob → State) (h : s.mgr.queue = []) : s.kick run 1 = s.mgrStat := by
  rw [State.kick, h]
  split <;> rfl

/-- The only command of the queue starts if nothing runs. -/
theorem State.kick_single (s : State) (run : State → McrJob → State) {j : McrJob} (n : Nat) (hrun : s.mgr.run = none) (hrestart : s.restarting = false)
    (hparked : s.mgr.parked = []) (hqueue : s.mgr.queue = [j]) (hcheck : (s.mgrUp (fun m => { m with queue := [] })).jobCheck j = stOk) :
    s.kick run (n + 1) = (run (s.mgrUp (fun m => { m with queue := [] })) j).kick run n := by
  have hnext : s.nextJob [] [j] = some (j, []) := by simp [State.nextJob, State.behind, hparked]
  rw [State.kick, hrun, hrestart, hqueue, hnext]
  simp only [Option.isSome_none, Bool.or_self, Bool.false_eq_true, if_false, hcheck, if_true]

section
variable {u : State} (h : u.still = s.still)
include h

theorem State.devNum_of_still : u.devNum = s.devNum := State.get_of_still h (by decide) _

theorem State.permit_of_still (cx : McrCx) (o : McrOp) : u.permit cx o = s.permit cx o := by
  have hscope : u.fabScoped cx o = s.fabScoped cx o := by
    unfold State.fabScoped
    rw [State.devNum_of_still h]
  have hplane : u.controlPlane cx = s.controlPlane cx := by rw [State.controlPlane, State.on_of_still h (by decide), State.controlPlane]
  rw [State.permit, hscope, hplane, State.get_of_still h (by decide), State.permit]

theorem State.hostIo_of_still : u.hostIo = s.hostIo := by rw [State.hostIo, State.hostIo, State.cf_of_still h]

theorem State.restarting_of_still : u.restarting = s.restarting := by
  rw [State.restarting, State.restarting, State.on_of_still h (by decide), State.on_of_still h (by decide)]

end

theorem State.mcrReady.runOp (h : s.mcrReady cx) (hio : hostBuffer o = true → s.hostIo = true) : (s.begun cx).runOp (s.firstJob cx o env) = (s.begun cx).runHere (s.firstJob cx o env) o := by
  have hdev := h.dev
  have htxn : (s.begun cx).get F.FAB_TXN_STATE [] ≠ 1 := by
    rw [(s.mcrOnly_begun cx).get (by simp) (by decide) (by decide)]
    obtain ⟨-, -, -, -, -, -, ht, -⟩ := h
    exact ht
  have hswap : (s.begun cx).setSwapping (opSets o) = false := by
    rw [State.setSwapping, (s.mcrOnly_begun cx).fwd, h.swaps]
    rfl
  have hio' : ¬ (hostBuffer o = true ∧ (s.begun cx).hostIo = false) := by
    rintro ⟨hb, hf⟩
    have hsame : (s.begun cx).hostIo = s.hostIo := State.hostIo_of_still (u := { s.begun cx with mgr := s.mgr }) (s.begun_still cx)
    rw [hsame, hio hb] at hf
    cases hf
  have h3e : cx.dev ≠ 0x3E := by omega
  exact (if_neg h3e).trans ((if_neg (fun hd => hd.1 hdev)).trans ((if_neg (by simp [htxn, hswap])).trans (if_neg hio')))

section
variable (h : s.mcrReady cx) (hpermit : s.permit cx o = stOk) (hrange : opInRange o = true) (hio : hostBuffer o = true → s.hostIo = true)
include h hpermit hrange hio

/-- A command that nothing holds up runs at once, and nothing runs after it. -/
theorem State.mcrReady.direct (hq : ((s.begun cx).runHere (s.firstJob cx o env) o).mgr.queue = []) :
    s.direct cx o env = ((s.begun cx).runHere (s.firstJob cx o env) o).mgrStat := by
  have hmgr := s.begun_mgr cx
  have hempty : ((s.begun cx).mgrUp (fun m => { m with queue := [s.firstJob cx o env] })).mgrUp (fun m => { m with queue := [] }) = s.begun cx := by
    have hq' : (s.begun cx).mgr.queue = [] := by rw [hmgr]; exact h.waiting
    rw [State.mgrUp_mgrUp, State.mgrUp]
    have : ({ (s.begun cx).mgr with queue := [] } : MgrSt) = (s.begun cx).mgr := by rw [← hq']
    exact congrArg (fun m => { s.begun cx with mgr := m }) this
  have hcheck : (s.begun cx).jobCheck (s.firstJob cx o env) = stOk := by
    have hp : (s.begun cx).permit cx o = stOk := (State.permit_of_still (u := { s.begun cx with mgr := s.mgr }) (s.begun_still cx) cx o).trans hpermit
    have hd : devInRange cx o = true := by simp [devInRange, h.dev]
    simp [State.jobCheck, State.firstJob, hp, hd, hrange]
  have hrun : ((s.begun cx).mgrUp (fun m => { m with queue := [s.firstJob cx o env] })).mgr.run = none := by
    rw [State.mgrUp_mgr, hmgr]
    exact h.running
  have hparked : ((s.begun cx).mgrUp (fun m => { m with queue := [s.firstJob cx o env] })).mgr.parked = [] := by
    rw [State.mgrUp_mgr, hmgr]
    exact h.parked
  have hrestart : ((s.begun cx).mgrUp (fun m => { m with queue := [s.firstJob cx o env] })).restarting = false := by
    have hs : (s.begun cx).restarting = s.restarting := State.restarting_of_still (u := { s.begun cx with mgr := s.mgr }) (s.begun_still cx)
    obtain ⟨-, hr, -⟩ := h
    exact hs.trans hr
  rw [State.direct, State.submit, h.arrive, State.mcrKick, State.kick_single _ _ _ hrun hrestart hparked rfl (by rw [hempty]; exact hcheck), hempty,
    h.runOp hio]
  exact State.kick_empty _ _ hq

/-- What a command that nothing holds up does, row by row. -/
theorem State.mcrReady.runs {c : Instr} (hexec : exec c s = s.live (·.direct cx o env))
    (hq : ((s.begun cx).runHere (s.firstJob cx o env) o).mgr.queue = []) {P : State → Prop}
    (hP : P ((s.begun cx).runHere (s.firstJob cx o env) o).mgrStat) : Runs c s P :=
  ⟨_, hexec.trans (s.live_next _ h.awake), by rw [h.direct hpermit hrange hio hq]; exact hP⟩

end

/-- The checks of R485 pass for a command of this device that names no buffer, burns no fuse and is not fabric-scoped. -/
theorem State.mcrReady.permitted (h : s.mcrReady cx) (hscope : ∀ v sl g, o ≠ .bindRemote v sl g) (hwin : ∀ b p e f ba li m d, o ≠ .winWrite b p e f ba li m d)
    (hbuf : hostBuffer o = true → cx.orig = 0) (hfuse : fuseCmd o = false) : s.permit cx o = stOk := by
  have hfab : s.fabScoped cx o = false := by
    unfold State.fabScoped
    rw [h.dev]
    split
    next v sl g => exact absurd rfl (hscope v sl g)
    next b p e f ba li m d => exact absurd rfl (hwin b p e f ba li m d)
    next => rfl
  simp only [State.permit, hfab, hfuse]
  simpa using fun hb hne => absurd (hbuf hb) hne

/-! ### Commands that park -/

section
variable (t : State) (j : McrJob) (k : ParkK)

theorem State.mcrOnly_park : t.mcrOnly (t.park j k) [] [] :=
  ((State.mcrOnly_when _ ((t.mcrOnly_emit _).andThen (State.mcrOnly_mgrUp _ _))).andThen (State.mcrOnly_mgrUp _ _)).andThen (State.mcrOnly_mgrStat _)

theorem State.park_queue : (t.park j k).mgr.queue = t.mgr.queue := by
  unfold State.park State.when
  dsimp only
  split <;> rfl

/-- A command that parks is the only parked one where none was. -/
theorem State.park_parked (hp : t.mgr.parked = []) : (t.park j k).mgr.parked.map (fun e => (e.1.cx, e.2)) = [(j.cx, k)] := by
  have hpark (u : State) (j' : McrJob) (f : MgrSt → Option McrJob) (hu : u.mgr.parked = []) (hj : j'.cx = j.cx) :
      ((u.mgrUp (fun m => { m with run := f m, parked := m.parked.filter (fun e => e.1.id != j.id) ++ [(j', k)] })).mgrStat).mgr.parked.map
        (fun e => (e.1.cx, e.2)) = [(j.cx, k)] := by
    show (u.mgr.parked.filter _ ++ [(j', k)]).map _ = _
    rw [hu, ← hj]
    rfl
  unfold State.park State.when
  dsimp only
  split
  · exact hpark _ _ _ hp rfl
  · exact hpark _ _ _ hp rfl

end

/-! ### Commands that end at once -/

/-- From `t`, in which the command has done what it does, its end leads to `u`: the answer to its originator, the journal, and nothing else. -/
structure State.endsAs (s t u : State) (cx : McrCx) (o : McrOp) (st : Nat) : Prop where
  answered : st < 256 → s.answered u cx st = true
  frame : t.mcrOnly u [] []
  sent : t.sentGrows u
  journal : (decide (st = stOk) && opApplies o) = false → u.journal = t.journal
  journaled : (decide (st = stOk) && opApplies o) = true → t.get F.MGR_JNL_SEQ_SEQ [] = s.get F.MGR_JNL_SEQ_SEQ [] → s.journaled u cx o

theorem State.sentGrows_mgrStat (s : State) : s.sentGrows s.mgrStat := ⟨[], (List.append_nil _).symm⟩

section
variable (h : s.mcrReady cx) {t : State} (hm : t.mgr = (s.begun cx).mgr) (hs : s.sentGrows t) {st : Nat} {result : List Byte}
include h hm

theorem State.mcrReady.answerableAt : t.answerable (s.firstJob cx o env) :=
  h.answerable (by rw [hm, State.begun_mgr])

theorem State.mcrReady.end_queue : (t.finish (s.firstJob cx o env) st result).mgr.queue = [] := by
  rw [(h.answerableAt hm).finish_queue, hm, State.begun_mgr]
  exact h.waiting

theorem State.mcrReady.end_mcrOnly : t.mcrOnly (t.finish (s.firstJob cx o env) st result).mgrStat [] [] :=
  (h.answerableAt hm).finish_mcrOnly.andThen (State.mcrOnly_mgrStat _)

theorem State.mcrReady.end_sentGrows : t.sentGrows (t.finish (s.firstJob cx o env) st result).mgrStat :=
  (h.answerableAt hm).finish_sentGrows.trans (State.sentGrows_mgrStat _)

include hs in
theorem State.mcrReady.end_answered (hst : st < 256) : s.answered (t.finish (s.firstJob cx o env) st result).mgrStat cx st = true := by
  have ha := hs.answered ((h.answerableAt (o := o) (env := env) hm).finish_answered (result := result) hst)
  exact ha

theorem State.mcrReady.end_journal (ha : (s.firstJob cx o env).applies st = false) :
    (t.finish (s.firstJob cx o env) st result).mgrStat.journal = t.journal := by
  have hj := (h.answerableAt hm).finish_journal (result := result) ha
  exact hj

theorem State.mcrReady.end_journaled (ha : (s.firstJob cx o env).applies st = true) (hseq : t.get F.MGR_JNL_SEQ_SEQ [] = s.get F.MGR_JNL_SEQ_SEQ []) :
    s.journaled (t.finish (s.firstJob cx o env) st result).mgrStat cx o := by
  have hj := (h.answerableAt hm).finish_journaled (result := result) ha
  rw [hseq] at hj
  exact hj

include hs in
/-- A command that nothing holds up ends at once: what holds at its end. -/
theorem State.mcrReady.runsEnd {c : Instr} (hexec : exec c s = s.live (·.direct cx o env)) (hpermit : s.permit cx o = stOk) (hrange : opInRange o = true)
    (hio : hostBuffer o = true → s.hostIo = true) (hrow : (s.begun cx).runHere (s.firstJob cx o env) o = t.finish (s.firstJob cx o env) st result)
    {P : State → Prop} (hP : ∀ u, s.endsAs t u cx o st → P u) : Runs c s P :=
  h.runs hpermit hrange hio hexec (by rw [hrow]; exact h.end_queue hm) (by
    rw [hrow]
    exact hP _ ⟨fun hst => h.end_answered hm hs hst, h.end_mcrOnly hm, h.end_sentGrows hm, fun ha => h.end_journal hm ha,
      fun ha hseq => h.end_journaled hm ha hseq⟩)

end

end

end Sys2Proof.Machine
end

section
/-!
SUPPORT. What the checks of commands on virtual switches read holds nothing of the traffic: bindings, shared ports, windows and free entries.
-/

namespace Sys2Proof.Machine

section
variable {s u : State} (h : u.still = s.still)
include h

/-! ### Ports and bindings -/

theorem State.inL0_of_still (p : Nat) : u.inL0 p = s.inL0 p := by
  rw [State.inL0, State.pget_of_still h (by decide), State.inL0]

theorem State.shared_of_still (p : Nat) : u.shared p = s.shared p := by rw [State.shared, State.vsx_of_still h, State.shared]

theorem State.sharedFn_of_still (p rid : Nat) : u.sharedFn p rid = s.sharedFn p rid := by
  rw [State.sharedFn, State.sharedOf, State.vsx_of_still h, State.sharedFn, State.sharedOf]

theorem State.upPort_of_still (v : Nat) : u.upPort v = s.upPort v := State.get_of_still h (by decide) _

theorem State.vsOfPort_of_still (p : Nat) : u.vsOfPort p = s.vsOfPort p := by
  have htest (v : Nat) : (u.get F.VST_STAT_STATE [v] != 0 && u.upPort v == p) = (s.get F.VST_STAT_STATE [v] != 0 && s.upPort v == p) := by
    rw [State.get_of_still h (by decide), State.upPort_of_still h]
  simp only [State.vsOfPort, State.act_of_still h, htest]

theorem State.contained_of_still (v sl : Nat) : u.contained v sl = s.contained v sl := State.on_of_still h (by decide) _

theorem State.portBinding_of_still (p : Nat) : u.portBinding p = s.portBinding p := by
  rw [State.portBinding, State.snap_of_still h, State.portBinding]

theorem State.rbound_of_still : u.fwd.rbound = s.fwd.rbound := (congrArg FwdSt.rbound (State.fwd_of_still h) :)

theorem State.portTaken_of_still (p : Nat) : u.portTaken p = s.portTaken p := by
  rw [State.portTaken, State.portBinding_of_still h, State.rbound_of_still h, State.portTaken]

theorem State.drainPort_of_still (p : Nat) : u.drainPort p = s.drainPort p := by
  rw [State.drainPort, State.drains_of_still h, State.drainPort]

/-- A test of the listed registers that reads none of the traffic's. -/
theorem State.any_of_still {q : Reg × W64 → Bool} (hq : ∀ e, q e = true → e.1.n ∉ trafficNames) : u.regs.any q = s.regs.any q := by
  have hstill (t : State) : t.regs.any q = t.still.regs.any q := by
    rw [State.still, List.any_filter]
    congr 1
    funext e
    cases hqe : q e with
    | false => simp
    | true => simp [hq e hqe]
  rw [hstill, h, ← hstill]

/-- What is gathered from the listed registers without the traffic's. -/
theorem State.filterMap_of_still {α : Type} {f g : Reg × W64 → Option α} (hf : ∀ e, f e ≠ none → e.1.n ∉ trafficNames) (hfg : ∀ e, g e = f e) :
    u.regs.filterMap g = s.regs.filterMap f := by
  have hstill (t : State) : t.regs.filterMap f = t.still.regs.filterMap f := by
    rw [State.still, List.filterMap_filter]
    congr 1
    funext e
    by_cases he : e.1.n ∈ trafficNames
    · have : f e = none := by
        by_contra hne
        exact hf e hne he
      simp [he, this]
    · simp [he]
  rw [funext hfg, hstill, h, ← hstill]

theorem State.winNames_of_still (p : Nat) : u.winNames p = s.winNames p := by
  refine State.any_of_still h (fun e he => ?_)
  simp only [Bool.and_eq_true, beq_iff_eq] at he
  rw [he.1.1]
  decide

/-! ### The checks of slots, targets and groups -/

theorem State.slotThere_of_still (v sl : Nat) : u.slotThere v sl = s.slotThere v sl := by
  rw [State.slotThere, State.get_of_still h (by decide), State.on_of_still h (by decide), State.slotThere]

theorem State.slotCheck_of_still (v sl : Nat) : u.slotCheck v sl = s.slotCheck v sl := by
  rw [State.slotCheck, State.slotThere_of_still h, State.on_of_still h (by decide), State.get_of_still h (by decide), State.slotCheck]

theorem State.targetCheck_of_still (p : Nat) : u.targetCheck p = s.targetCheck p := by
  rw [State.targetCheck, State.pget_of_still h (by decide), State.shared_of_still h, State.portTaken_of_still h, State.drainPort_of_still h,
    State.targetCheck]

theorem State.freeFbs_of_still (n : Nat) : u.freeFbs n = s.freeFbs n := by
  rw [State.freeFbs, State.snap_of_still h, State.drains_of_still h, State.freeFbs]

theorem State.groupCheck_of_still (ms : List (Nat × Nat × Nat)) : u.groupCheck ms = s.groupCheck ms := by
  have hmember (m : Nat × Nat × Nat) : u.memberOk m = s.memberOk m := by
    rw [State.memberOk, State.sharedFn_of_still h, State.snap_of_still h, State.memberOk]
  have hdrain (p rid : Nat) : u.drainFn p rid = s.drainFn p rid := by
    simp only [State.drainFn, State.drains_of_still h, State.get_of_still h (f := F.VST_FB_A_SHARED_PORT) (by decide),
      State.get_of_still h (f := F.VST_FB_A_REAL_RID) (by decide)]
  simp only [State.groupCheck, hmember, hdrain, State.freeFbs_of_still h]

theorem State.vsDeleteCheck_of_still (v : Nat) : u.vsDeleteCheck v = s.vsDeleteCheck v := by
  simp only [State.vsDeleteCheck, State.get_of_still h (f := F.VST_STAT_STATE) (by decide), State.on_of_still h (f := F.VST_STAT_MGMT) (by decide),
    State.get_of_still h (f := F.VST_SLOT_KIND) (by decide), State.on_of_still h (f := F.VST_SLOT_UNBIND_PEND) (by decide)]

theorem State.vsCreateCheck_of_still (v p n : Nat) : u.vsCreateCheck v p n = s.vsCreateCheck v p n := by
  simp only [State.vsCreateCheck, State.get_of_still h (f := F.VST_STAT_STATE) (by decide), State.pget_of_still h (f := F.PP_CTL_ROLE) (by decide),
    State.vsOfPort_of_still h, State.get_of_still h (f := F.VST_GLB_FREE_SLOTS) (by decide)]

theorem State.entriesOfVdsp_of_still (x : Nat) : u.entriesOfVdsp x = s.entriesOfVdsp x := by
  simp only [State.entriesOfVdsp, State.snap_of_still h, State.get_of_still h (f := F.VST_FB_A_VDSP) (by decide)]

/-! ### Windows and gates -/

theorem State.winBank_of_still : u.winBank = s.winBank := by rw [State.winBank, State.epochs_of_still h, State.winBank]

theorem State.winOverlap_of_still (b : Nat) : u.winOverlap b = s.winOverlap b := by
  have hget {f : Fld} (hf : f.reg ∈ [RN.PT_WIN_BASE, .PT_WIN_LIMIT, .FAB_RWIN_DST, .FAB_RWIN_BASE, .FAB_RWIN_LIMIT]) (ix : List Nat) :
      u.get f ix = s.get f ix := by
    have : ∀ n ∈ [RN.PT_WIN_BASE, .PT_WIN_LIMIT, .FAB_RWIN_DST, .FAB_RWIN_BASE, .FAB_RWIN_LIMIT], n ∉ trafficNames := by decide
    exact State.get_of_still h (this _ hf) ix
  have hwins : u.winsOf b = s.winsOf b := by
    refine State.filterMap_of_still h (fun e he => ?_) (fun e => ?_)
    · split at he
      next hn _ => rw [hn]; decide
      next hn _ => rw [hn]; decide
      next => exact absurd rfl he
    · simp only [hget (f := F.PT_WIN_BASE_BASE) (by decide), hget (f := F.PT_WIN_LIMIT_LIMIT) (by decide), hget (f := F.FAB_RWIN_DST_DST_GPID) (by decide),
        hget (f := F.FAB_RWIN_BASE_BASE) (by decide), hget (f := F.FAB_RWIN_LIMIT_LIMIT) (by decide)]
  rw [State.winOverlap, hwins, State.winOverlap]

theorem State.gateActive_of_still : u.gateActive = s.gateActive := State.get_of_still h (by decide) _

theorem State.gateOverlap_of_still (b : Nat) : u.gateOverlap b = s.gateOverlap b := by
  simp only [State.gateOverlap, State.on_of_still h (f := F.SEC_GATE_SUB_EN) (by decide), State.get_of_still h (f := F.SEC_GATE_SUB_BASE) (by decide),
    State.get_of_still h (f := F.SEC_GATE_SUB_LIMIT) (by decide)]

end

end Sys2Proof.Machine
end

section
/-!
SUPPORT. Shared ports, the configuration of their functions and the reading of bindings (R110 to R112, R129): what each command does on the state in
which it runs.
-/

namespace Sys2Proof.Machine

/-! ### The rows of the commands -/

section
variable {s : State} {j : McrJob} {p buses mps mrrs base limit : Nat}

/-- The state with a further shared port (R110). -/
def State.addShared (s : State) (x : SharedPort) : State := { s with vsx := { s.vsx with shared := s.vsx.shared ++ [x] } }

/-- The state in which a port is shared no more. -/
def State.delShared (s : State) (p : Nat) : State :=
  { s with vsx := { s.vsx with shared := s.vsx.shared.filter (fun x => x.port != p), reconfig := s.vsx.reconfig.filter (· != p) } }

theorem State.opSharedSet_free {l : List SharedFn} (hrole : s.pget F.PP_CTL_ROLE p = 1) (hshared : s.shared p = false) (htaken : s.portTaken p = false)
    (hwin : s.winNames p = false) (hfns : j.env.fns = some l) (hfit : fnsFit l buses base limit = true) :
    s.opSharedSet j p buses mps mrrs base limit = (s.addShared ⟨p, buses, base, limit + 1 - base, mps, mrrs, l⟩).finish j stOk := by
  simp [State.opSharedSet, hrole, hshared, htaken, hwin, hfns, hfit, State.addShared]

theorem State.opSharedClr_empty (hshared : s.shared p = true) (hfree : ∀ k ∈ s.snap.fbs, s.get F.VST_FB_A_SHARED_PORT [k] ≠ p) :
    s.opSharedClr j p = (s.delShared p).finish j stOk := by
  have hnone : s.snap.fbs.any (fun k => s.get F.VST_FB_A_SHARED_PORT [k] == p) = false := by simpa using hfree
  simp [State.opSharedClr, hshared, hnone, State.delShared]

theorem State.shared_addShared (x : SharedPort) : (s.addShared x).shared x.port = true := by simp [State.shared, State.addShared]

theorem State.shared_delShared (p : Nat) : (s.delShared p).shared p = false :=
  decide_eq_false (by simp [State.delShared])

/-- The configuration request of FN_CFG, under a free egress tag (R112, R127). -/
def State.fnCfgTlp (s : State) (p rid off w be data : Nat) : Tlp :=
  { kind := if w = 1 then .cfgwr else .cfgrd, rid := 255, tag := ((List.range 16384).find? (fun t => (s.fwd.tags.look (p, t)).isNone)).getD 0,
    tid := rid, addr := off, len := 4, data := if w = 1 then leBytes 4 data else [], fld := .other off, code := be }

theorem State.opFnCfg_shared {rid off w be data st d : Nat} (hshared : s.shared p = true) (hgroup : (s.snap.fbByRid p rid).isSome = false)
    (hup : s.inL0 p = true) (hcpl : j.env.cpl = some (st, d)) :
    s.opFnCfg j p rid off w be data = (s.emit (.tlp p (s.fnCfgTlp p rid off w be data))).finish j stOk
      (leBytes 4 (if w = 0 ∧ st = 0 then d else 0) ++ leBytes 1 st) := by
  simp [State.opFnCfg, hshared, hgroup, hup, hcpl, State.fnCfgTlp]

theorem State.opBindRead_other {v sl buf : Nat} (hthere : s.slotThere v sl = true) (hkind : s.get F.VST_SLOT_KIND [v, sl] ≠ 2) :
    s.opBindRead j v sl buf = s.finish j stOk := by
  simp [State.opBindRead, hthere, hkind]

/-- What BIND_READ writes of a function group: 96 bytes for each member (R129, R484). -/
def State.bindBytes (s : State) (v sl : Nat) : List Byte :=
  (s.entriesOfVdsp (s.get F.VST_SLOT_VDSP [v, sl])).flatMap (fun k => s.barBytes v sl (s.get F.VST_FB_A_PFUNC [k]))

theorem State.bindBytes_length (v sl : Nat) : (s.bindBytes v sl).length = 96 * (s.entriesOfVdsp (s.get F.VST_SLOT_VDSP [v, sl])).length := by
  have hlen (k : Nat) : (s.barBytes v sl (s.get F.VST_FB_A_PFUNC [k])).length = 96 := padTo_length _ _
  rw [State.bindBytes, List.length_flatMap]
  simp [hlen, Nat.mul_comm]

theorem State.opBindRead_group {v sl buf : Nat} (hthere : s.slotThere v sl = true) (hkind : s.get F.VST_SLOT_KIND [v, sl] = 2)
    (hok : j.env.ok = true) :
    s.opBindRead j v sl buf = (s.emit (.hostWrite .mgmt buf (s.bindBytes v sl))).finish j stOk (leBytes 16 (s.bindBytes v sl).length) := by
  simp [State.opBindRead, hthere, hkind, hok, State.bindBytes]

end

/-- The link of a port that nothing is bound to shows nowhere. -/
theorem State.refreshPort_unbound {s : State} {p : Nat} (hslots : s.boundSlots p = []) (hrbound : s.fwd.rbound.look p = none) : s.refreshPort p = s := by
  simp [State.refreshPort, State.reportLink, hslots, hrbound]

/-! ### The frame of a command that changes shared ports -/

theorem State.mcrOnly.withVsx {s t : State} {l : List Reg} {xs : List Trip} (h : s.mcrOnly t l xs) (k : VsxSt) :
    ({ s with vsx := k } : State).mcrOnly { t with vsx := k } l xs :=
  ⟨h.1, congrArg (fun v : State => { v with vsx := k }) h.2⟩

/-! ### A transaction of two devices -/

/-- From `s` to `u` the firmware's records and the slots stay. -/
def State.slotsKept (s u : State) : Prop := u.mgr = s.mgr ∧ ∀ ix, u.rd ⟨.VST_SLOT, ix⟩ = s.rd ⟨.VST_SLOT, ix⟩

theorem State.slotsKept_refl (s : State) : s.slotsKept s := ⟨rfl, fun _ => rfl⟩

theorem State.slotsKept.trans {s t u : State} (h : s.slotsKept t) (h' : t.slotsKept u) : s.slotsKept u :=
  ⟨h'.1.trans h.1, fun ix => (h'.2 ix).trans (h.2 ix)⟩

theorem State.slotsKept_wr (s : State) {r : Reg} (v : W64) (hr : r.n ≠ .VST_SLOT) : s.slotsKept (s.wr r v) :=
  ⟨rfl, fun _ => s.rd_wr_ne v (fun e => hr (e ▸ rfl))⟩

theorem State.slotsKept_fabUp (s : State) (f : FabSt → FabSt) : s.slotsKept (s.fabUp f) := ⟨rfl, fun _ => rfl⟩

theorem State.slotsKept_tellDev (s : State) (d : Nat) (m : FMsg) : s.slotsKept (s.tellDev d m) := ⟨rfl, fun _ => rfl⟩

theorem State.slotsKept_foldl {α : Type} (s : State) (l : List α) (f : State → α → State) (hf : ∀ (t : State) a, t.slotsKept (f t a)) :
    s.slotsKept (l.foldl f s) :=
  List.foldlRecOn (motive := s.slotsKept) l f s.slotsKept_refl (fun t ht a _ => ht.trans (hf t a))

theorem State.slotsKept_fabStage (s : State) (id : Nat) (c : FabChg) : s.slotsKept (s.fabStage id c) := by
  unfold State.fabStage
  split
  · exact s.slotsKept_wr _ (by simp)
  · exact s.slotsKept_fabUp _

theorem State.slotsKept_fabPrepare (s : State) (id : Nat) : s.slotsKept (s.fabPrepare id [0]).1 := by
  have hprepared : s.slotsKept ((s.set F.FAB_TXN_TXN_ID [] id).set F.FAB_TXN_STATE [] 1) :=
    (s.slotsKept_wr _ (by simp)).trans (State.slotsKept_wr _ _ (by simp))
  unfold State.fabPrepare
  simp only [List.contains_cons, List.contains_nil, Nat.reduceBEq, Bool.or_self, Bool.false_eq_true, if_false]
  split
  · exact s.slotsKept_refl
  · split
    · exact s.slotsKept_refl
    · split
      · exact s.slotsKept_fabUp _
      · exact hprepared.trans (State.slotsKept_fabUp _ _)

section
variable (s : State) (t : FabTxn)

variable {s t} {b : Nat} (hdevs : t.devs = [s.devNum, b]) (hsets : t.sets = [0]) (hne : b ≠ s.devNum)
include hdevs hsets hne

/-- A transaction with another device is prepared, and stays open. -/
theorem State.txnGo_two : s.slotsKept (s.txnGo t) ∧ ∃ t' : FabTxn, (s.txnGo t).fab.txn = some t' ∧ t'.devs = t.devs ∧ t'.chg = t.chg := by
  have hothers : t.devs.filter (· != s.devNum) = [b] := by simp [hdevs, hne]
  have hown : t.devs.contains s.devNum = true := by simp [hdevs]
  unfold State.txnGo
  dsimp only
  rw [hothers, hown, hsets]
  refine ⟨?_, _, rfl, rfl, rfl⟩
  refine State.slotsKept.trans ?_ (State.slotsKept_fabUp _ _)
  refine State.slotsKept.trans ?_ (State.slotsKept_fabPrepare _ _)
  refine State.slotsKept.trans (s.slotsKept_foldl _ _ (fun u c => ?_)) (State.slotsKept_tellDev _ _ _)
  split
  · exact u.slotsKept_fabStage _ _
  · exact u.slotsKept_tellDev _ _

/-- A transaction with another device opens, or waits for the open one (R321). -/
theorem State.txnStart_two : s.slotsKept (s.txnStart t) ∧
    ((s.txnStart t).fab.txn.toList ++ (s.txnStart t).fab.waiting).any (fun x => x.devs == t.devs && x.chg == t.chg) = true := by
  unfold State.txnStart
  split
  · exact ⟨s.slotsKept_fabUp _, by simp [State.fabUp]⟩
  · unfold State.txnOpen
    dsimp only
    split
    · exact ⟨(s.slotsKept_fabUp _).trans ((State.slotsKept_tellDev _ _ _).trans (State.slotsKept_fabUp _ _)), by simp [State.tellStandby, State.fabUp, State.tellDev]⟩
    · have hgo := State.txnGo_two (s := s.fabUp (fun f => { f with
        lastTxn := (s.fab.lastTxn + 1) % 65536, txn := some { t with id := (s.fab.lastTxn + 1) % 65536, phase := 0, at_ := s.now } }))
        (t := { t with id := (s.fab.lastTxn + 1) % 65536, phase := 0, at_ := s.now }) hdevs hsets hne
      obtain ⟨hkept, t', htxn, hd, hc⟩ := hgo
      refine ⟨(s.slotsKept_fabUp _).trans hkept, ?_⟩
      rw [htxn, Option.toList_some, List.any_append, List.any_cons, hd, hc]
      simp

end

/-- The transaction that binds a slot of this device to a port of another one (R329). -/
def State.bindTxn (s : State) (v sl g n : Nat) : FabTxn :=
  { chg := [(s.devNum, .bind v sl g), (g / 256, .rbind (g % 256) (s.devNum * 256 + s.upPort v))], devs := [s.devNum, g / 256], sets := [0], job := some n }

/-- A slot that passes its check has an empty binding, on an Active virtual switch, with no unbind pending. -/
theorem State.kind_of_slotCheck {s : State} {v sl : Nat} (h : s.slotCheck v sl = stOk) : s.get F.VST_SLOT_KIND [v, sl] = 0 := by
  unfold State.slotCheck at h
  split at h
  · cases h
  · split at h
    · cases h
    · split at h
      · cases h
      next hk => exact not_not.mp hk

/-- VDSP_BIND of a remote port that the acting device takes (R329). -/
theorem State.opBindRemote_here {s : State} {j : McrJob} {v sl g : Nat} (hdev : j.cx.dev = 0x3F) (hacting : s.acting = true) (hown : s.devNum ∈ s.fab.devs)
    (hother : g / 256 ∈ s.fab.devs) (hne : g / 256 ≠ s.devNum) (hslot : s.slotCheck v sl = stOk)
    (hto : (routeOf s.fab.links (s.get F.FAB_DEV_MGR []) s.devNum (g / 256)).isSome = true)
    (hfrom : (routeOf s.fab.links (s.get F.FAB_DEV_MGR []) (g / 256) s.devNum).isSome = true) :
    s.opBindRemote j v sl g = (s.park j .txn).txnStart (s.bindTxn v sl g j.id) := by
  have hto' := Option.isSome_iff_ne_none.mp hto
  have hfrom' := Option.isSome_iff_ne_none.mp hfrom
  simp [State.opBindRemote, State.bindTxn, hdev, hacting, hown, hother, hslot, hto', hfrom', Ne.symm hne]

/-- A remote binding that nothing holds up parks for its transaction. -/
theorem State.mcrReady.bindRemote_row {s : State} {cx : McrCx} {v sl g : Nat} (h : s.mcrReady cx) (env : McrEnv) (hacting : s.acting = true)
    (hown : s.devNum ∈ s.fab.devs) (hother : g / 256 ∈ s.fab.devs) (hne : g / 256 ≠ s.devNum) (hslot : s.slotCheck v sl = stOk)
    (hto : (routeOf s.fab.links (s.get F.FAB_DEV_MGR []) s.devNum (g / 256)).isSome = true)
    (hfrom : (routeOf s.fab.links (s.get F.FAB_DEV_MGR []) (g / 256) s.devNum).isSome = true) :
    (s.begun cx).runHere (s.firstJob cx (.bindRemote v sl g) env) (.bindRemote v sl g) =
      ((s.begun cx).park (s.firstJob cx (.bindRemote v sl g) env) .txn).txnStart (s.bindTxn v sl g s.mgr.jobs) := by
  have hst := s.begun_still cx
  have hdev : (s.begun cx).devNum = s.devNum := (State.devNum_of_still hst :)
  have hfab : (s.begun cx).fab = s.fab := (State.fab_of_still hst :)
  have hup : (s.begun cx).upPort v = s.upPort v := (State.upPort_of_still hst _ :)
  have hroot := s.begun_get cx (f := F.FAB_DEV_MGR) (by decide) []
  have htxn : (s.begun cx).bindTxn v sl g s.mgr.jobs = s.bindTxn v sl g s.mgr.jobs := by rw [State.bindTxn, hdev, hup, State.bindTxn]
  rw [← htxn]
  exact State.opBindRemote_here (s := s.begun cx) h.dev ((State.on_of_still (f := F.FAB_DEV_ACTING) hst (by decide) _ :).trans hacting) (by rwa [hdev, hfab])
    (by rwa [hfab]) (by rwa [hdev]) ((State.slotCheck_of_still hst _ _ :).trans hslot) (by rwa [hfab, hroot, hdev]) (by rwa [hfab, hroot, hdev])


/-- FN_CFG that nothing holds up: its request goes out, and it ends with the completion. -/
theorem State.mcrReady.runs_fnCfg {s : State} {cx : McrCx} (h : s.mcrReady cx) {c : Instr} {p rid off w be data st d : Nat}
    (hexec : exec c s = s.live (·.direct cx (.fnCfg p rid off w be data) { cpl := some (st, d) })) (hrange : opInRange (.fnCfg p rid off w be data) = true)
    (hshared : s.shared p = true) (hgroup : (s.snap.fbByRid p rid).isNone = true) (hup : s.inL0 p = true) {P : State → Prop}
    (hP : ∀ u, s.endsAs ((s.begun cx).emit (.tlp p ((s.begun cx).fnCfgTlp p rid off w be data))) u cx (.fnCfg p rid off w be data) stOk →
      .tlp p ((s.begun cx).fnCfgTlp p rid off w be data) ∈ u.sent.drop s.sent.length → s.mcrOnly u [] [] → P u) : Runs c s P := by
  have hst := s.begun_still cx
  have hsnap : (s.begun cx).snap = s.snap := (State.snap_of_still hst :)
  refine h.runsEnd (t := (s.begun cx).emit (.tlp p ((s.begun cx).fnCfgTlp p rid off w be data))) (by rfl) ((s.sentGrows_begun cx).trans ⟨_, rfl⟩) hexec
    (h.permitted (by simp) (by simp) (by simp [hostBuffer]) rfl) hrange (by simp [hostBuffer])
    (State.opFnCfg_shared ((State.shared_of_still hst _ :).trans hshared) (by rw [hsnap]; simpa using hgroup)
      ((State.inL0_of_still hst _ :).trans hup) rfl) (fun u hu => ?_)
  have hmem := hu.sent.mem_of_emit
  rw [s.begun_sent cx] at hmem
  exact hP u hu hmem (((s.mcrOnly_begun cx).andThen (State.mcrOnly_emit _ _)).andThen hu.frame)

/-! ### The obligation -/

/-- Settles O21: each command passes its checks, ends at once or parks, and the rules of an end give its answer, its journal entry and its frame. -/
theorem sharedPortsAndFunctionConfiguration : Obligations.shared_ports_and_function_configuration := by
  unfold Obligations.shared_ports_and_function_configuration
  refine ⟨?_, ?_, ?_, ?_, ?_, ?_, ?_, ?_⟩
  · intro s cx port buses mps mrrs base limit nvf l h hport hb1 hb8 hmps hmrrs hbl hrole hshared htaken hwin hfit
    have hst := s.begun_still cx
    have hvsx := s.begun_vsx cx
    refine h.runsEnd (t := (s.begun cx).addShared ⟨port.val, buses.val, base.toNat, limit.toNat + 1 - base.toNat, mps.val, mrrs.val, l⟩)
      (o := .sharedSet _ _ _ _ _ _ _) (env := { fns := some l }) (by rfl) (s.sentGrows_begun cx) rfl
      (h.permitted (by simp) (by simp) (by simp [hostBuffer]) rfl) (by simp [opInRange, *]) (by simp [hostBuffer])
      (State.opSharedSet_free ((State.pget_of_still (f := F.PP_CTL_ROLE) hst (by decide) _ :).trans hrole) ((State.shared_of_still hst _ :).trans hshared)
        ((State.portTaken_of_still hst _ :).trans htaken) ((State.winNames_of_still hst _ :).trans hwin) rfl hfit) (fun u hu => ?_)
    have huv := hu.frame.vsx
    refine ⟨hu.answered (by decide), ?_, ?_, ?_⟩
    · rw [State.shared, huv]
      exact State.shared_addShared _
    · rw [huv, State.addShared, hvsx]
    · have hframe := ((s.mcrOnly_begun cx).withVsx ((s.begun cx).addShared _).vsx).andThen hu.frame
      rw [huv]
      rw [State.addShared, hvsx] at hframe ⊢
      exact hframe
  · intro s cx port h hport hshared hfree
    have hst := s.begun_still cx
    have hvsx := s.begun_vsx cx
    have hsnap : (s.begun cx).snap = s.snap := (State.snap_of_still hst :)
    refine h.runsEnd (t := (s.begun cx).delShared port.val) (o := .sharedClr _) (env := {}) (by rfl) (s.sentGrows_begun cx) rfl
      (h.permitted (by simp) (by simp) (by simp [hostBuffer]) rfl) (by simpa [opInRange] using hport) (by simp [hostBuffer])
      (State.opSharedClr_empty ((State.shared_of_still hst _ :).trans hshared) (fun k hk => by
        rw [s.begun_get cx (by decide)]
        exact hfree k (hsnap ▸ hk))) (fun u hu => ?_)
    have huv := hu.frame.vsx
    refine ⟨hu.answered (by decide), ?_, ?_, ?_⟩
    · rw [huv, State.delShared, hvsx]
    · rw [State.shared, huv]
      exact State.shared_delShared _
    · have hframe := ((s.mcrOnly_begun cx).withVsx ((s.begun cx).delShared port.val).vsx).andThen hu.frame
      rw [huv]
      rw [State.delShared, hvsx] at hframe ⊢
      exact hframe
  · intro s port hawake hwait hup hslots hrbound
    have hrow := State.refreshPort_unbound (s := { s with vsx := { s.vsx with reconfig := s.vsx.reconfig.filter (· != port.val) } }) hslots hrbound
    refine ⟨_, s.live_next _ hawake, ?_⟩
    rw [if_pos ⟨by simpa using hwait, hup⟩, hrow]
    exact ⟨by simp, State.only_refl _ _ _⟩
  · intro s cx port rid off be st d h hport hoff halign hbe hshared hgroup hup
    refine h.runs_fnCfg (w := 0) (st := st.val) (d := d.toNat) rfl (by simp [opInRange, *]) hshared hgroup hup (fun u hu hsent hframe => ?_)
    exact ⟨hu.answered (by decide), (hu.journal rfl).trans (s.begun_journal cx), List.any_eq_true.mpr ⟨_, hsent, by simp [State.fnCfgTlp]⟩, hframe⟩
  · intro s cx port rid off be data st d h hport hoff halign hbe hshared hgroup hup
    refine h.runs_fnCfg (w := 1) (st := st.val) (d := d.toNat) rfl (by simp [opInRange, *]) hshared hgroup hup (fun u hu hsent hframe => ?_)
    exact ⟨hu.answered (by decide), hu.journaled rfl (s.begun_seq cx), List.any_eq_true.mpr ⟨_, hsent, by simp [State.fnCfgTlp]⟩, hframe⟩
  · intro s cx vs slot buf ok h howner hio hvs hslot hthere hkind
    have hst := s.begun_still cx
    refine h.runsEnd (t := s.begun cx) (o := .bindRead _ _ _) (env := { ok := ok }) rfl (s.sentGrows_begun cx) rfl
      (h.permitted (by simp) (by simp) (fun _ => howner) rfl) (by simp [opInRange, *]) (fun _ => hio)
      (State.opBindRead_other ((State.slotThere_of_still hst _ _ :).trans hthere) (by rwa [s.begun_get cx (by decide)])) (fun u hu => ?_)
    exact ⟨hu.answered (by decide), (hu.journal rfl).trans (s.begun_journal cx), (s.mcrOnly_begun cx).andThen hu.frame⟩
  · intro s cx vs slot buf h howner hio hvs hslot hthere hkind
    have hst := s.begun_still cx
    refine h.runsEnd (t := (s.begun cx).emit (.hostWrite .mgmt buf.toNat ((s.begun cx).bindBytes vs.val slot.val))) (o := .bindRead _ _ _)
      (env := { ok := true }) (by rfl) ((s.sentGrows_begun cx).trans ⟨_, rfl⟩) rfl
      (h.permitted (by simp) (by simp) (fun _ => howner) rfl) (by simp [opInRange, *]) (fun _ => hio)
      (State.opBindRead_group ((State.slotThere_of_still hst _ _ :).trans hthere) (by rwa [s.begun_get cx (by decide)]) rfl) (fun u hu => ?_)
    have hmem := hu.sent.mem_of_emit
    have hlen := (s.begun cx).bindBytes_length vs.val slot.val
    have hentries : (s.begun cx).entriesOfVdsp (s.get F.VST_SLOT_VDSP [vs.val, slot.val]) = s.entriesOfVdsp (s.get F.VST_SLOT_VDSP [vs.val, slot.val]) :=
      (State.entriesOfVdsp_of_still hst _ :)
    rw [s.begun_get cx (by decide), hentries] at hlen
    rw [s.begun_sent cx] at hmem
    refine ⟨hu.answered (by decide), (hu.journal rfl).trans (s.begun_journal cx), List.any_eq_true.mpr ⟨_, hmem, by simp [hlen]⟩, ?_⟩
    exact ((s.mcrOnly_begun cx).andThen (State.mcrOnly_emit _ _)).andThen hu.frame
  · intro s cx vs slot gpid up h hvs hslot hgpid hplane hacting hown hother hne hcheck hto hfrom
    have hrow := h.bindRemote_row { up := up.val } hacting hown hother hne hcheck hto hfrom
    have hpark := (s.mcrOnly_begun cx).andThen
      ((s.begun cx).mcrOnly_park (s.firstJob cx (.bindRemote vs.val slot.val gpid.toNat) { up := up.val }) .txn)
    have hpdev : ((s.begun cx).park (s.firstJob cx (.bindRemote vs.val slot.val gpid.toNat) { up := up.val }) .txn).devNum = s.devNum :=
      hpark.get (by simp) (by decide) (by decide)
    obtain ⟨⟨hmgr, hslots⟩, hany⟩ := State.txnStart_two (s := (s.begun cx).park (s.firstJob cx (.bindRemote vs.val slot.val gpid.toNat) { up := up.val }) .txn)
      (t := s.bindTxn vs.val slot.val gpid.toNat s.mgr.jobs) (b := gpid.toNat / 256) (by rw [hpdev]; rfl) rfl (by rw [hpdev]; exact hne)
    have hpermit : s.permit cx (.bindRemote vs.val slot.val gpid.toNat) = stOk := by simp [State.permit, hplane, hostBuffer, fuseCmd]
    have hrange : opInRange (.bindRemote vs.val slot.val gpid.toNat) = true := by simp only [opInRange, hvs, hslot, hgpid, decide_true, Bool.and_self]
    have hempty : (s.begun cx).mgr.queue = [] ∧ (s.begun cx).mgr.parked = [] := by
      rw [s.begun_mgr cx]
      exact ⟨h.waiting, h.parked⟩
    refine h.runs (o := .bindRemote _ _ _) (env := { up := up.val }) hpermit hrange (by simp [hostBuffer]) rfl ?_ ?_
    · rw [hrow, hmgr, State.park_queue, hempty.1]
    · rw [hrow]
      refine ⟨?_, hany, ?_⟩
      · exact (congrArg (fun m : MgrSt => m.parked.map (fun e => (e.1.cx, e.2))) hmgr).trans (State.park_parked _ _ _ hempty.2)
      · rw [(State.mcrOnly_mgrStat _).get (by simp) (by decide) (by decide), State.get_eq]
        rw [show F.VST_SLOT_KIND.reg = RN.VST_SLOT from rfl, hslots]
        exact (hpark.get (f := F.VST_SLOT_KIND) (by simp) (by decide) (by decide)).trans (State.kind_of_slotCheck hcheck)

end Sys2Proof.Machine
end

section
/-!
SUPPORT. Operations that spare most registers and the firmware's records, and the queueing of a swap (R146, R228): what it queues, and what it leaves alone.
-/

namespace Sys2Proof.Machine

/-! ### Sparing the registers of other names -/

/-- What the forwarding path holds of virtual switches in service, swaps and drains. -/
def FwdSt.plan (f : FwdSt) : FwdSt := { act := f.act, swaps := f.swaps, drains := f.drains, epochs := f.epochs }

/-- From `s` to `u` only registers of the names `L` and of the traffic change; the firmware's records, the journal where
its register is not named, the swaps and the drains stay. -/
structure State.sparing (L : List RN) (s u : State) : Prop where
  word : ∀ r, r.n ∉ trafficNames → r.n ∉ L → u.rd r = s.rd r
  mgr : u.mgr = s.mgr
  journal : .MGR_JNL_SEQ ∉ L → u.journal = s.journal
  plan : u.fwd.plan = s.fwd.plan

namespace State.sparing

variable {L : List RN}

theorem refl (s : State) : sparing L s s := ⟨fun _ _ _ => rfl, rfl, fun _ => rfl, rfl⟩

theorem of_still {s u : State} (h : u.still = s.still) : sparing L s u :=
  ⟨fun _ hr _ => State.rd_of_still h hr, State.mgr_of_still h, fun _ => State.journal_of_still h, (congrArg FwdSt.plan (State.fwd_of_still h) :)⟩

theorem trans {s t u : State} (h : sparing L s t) (h' : sparing L t u) : sparing L s u :=
  ⟨fun r hr hl => (h'.word r hr hl).trans (h.word r hr hl), h'.mgr.trans h.mgr, fun hj => (h'.journal hj).trans (h.journal hj), h'.plan.trans h.plan⟩

section
variable {s t u : State} (h : sparing L s t)
include h

theorem thenStill (hu : u.still = t.still) : sparing L s u := h.trans (of_still hu)

theorem mono {L' : List RN} (hl : ∀ n ∈ L, n ∈ L') : sparing L' s t :=
  ⟨fun r hr hn => h.word r hr (fun m => hn (hl _ m)), h.mgr, fun hj => h.journal (fun m => hj (hl _ m)), h.plan⟩

theorem get {f : Fld} (hf : f.reg ∉ trafficNames) (hl : f.reg ∉ L) (ix : List Nat) : t.get f ix = s.get f ix := by
  rw [State.get_eq, h.word ⟨f.reg, ix⟩ hf hl, State.get_eq]

theorem act : t.fwd.act = s.fwd.act := (congrArg FwdSt.act h.plan :)

theorem swaps : t.fwd.swaps = s.fwd.swaps := (congrArg FwdSt.swaps h.plan :)

theorem epochs : t.fwd.epochs = s.fwd.epochs := (congrArg FwdSt.epochs h.plan :)

theorem drains : t.fwd.drains = s.fwd.drains := (congrArg FwdSt.drains h.plan :)

theorem wr {r : Reg} (v : W64) (hr : r.n ∈ L) : sparing L s (t.wr r v) :=
  h.trans ⟨fun _ _ hn => t.rd_wr_ne v (fun e => hn (e ▸ hr)), rfl, fun _ => rfl, rfl⟩

theorem set {f : Fld} (ix : List Nat) (v : Nat) (hf : f.reg ∈ L) : sparing L s (t.set f ix v) := h.wr _ hf

theorem setB {f : Fld} (ix : List Nat) (b : Bool) (hf : f.reg ∈ L) : sparing L s (t.setB f ix b) := h.wr _ hf

theorem pset {f : Fld} (p v : Nat) (hf : f.reg ∈ L) : sparing L s (t.pset f p v) := h.wr _ hf

theorem resetReg {r : Reg} (hr : r.n ∈ L) : sparing L s (t.resetReg r) :=
  h.trans ⟨fun _ _ hn => t.rd_resetReg_ne (fun e => hn (e ▸ hr)), rfl, fun _ => rfl, rfl⟩

theorem clearRegs {q : Reg → Bool} (hq : ∀ r, q r = true → r.n ∈ L) : sparing L s (t.clearRegs q) := by
  refine h.trans ⟨fun r _ hn => ?_, rfl, fun _ => rfl, rfl⟩
  have hkeep : q r = false := by
    by_contra hne
    exact hn (hq r (by simpa using hne))
  simp only [State.rd, rmRd, State.clearRegs_regs, AMap.lookD]
  rw [AMap.look_filter _ _ (fun v => by simp [hkeep])]

theorem cfSet (fn : FnId) (f : CfgF) (v : Nat) : sparing L s (t.cfSet fn f v) := h.trans ⟨fun _ _ _ => rfl, rfl, fun _ => rfl, rfl⟩

theorem cfReset (q : FnId → Bool) (b : Bool) : sparing L s (t.cfReset q b) := h.trans ⟨fun _ _ _ => rfl, rfl, fun _ => rfl, rfl⟩

theorem lnkUp (f : LnkSt → LnkSt) : sparing L s (t.lnkUp f) := h.trans ⟨fun _ _ _ => rfl, rfl, fun _ => rfl, rfl⟩

theorem fwdUp {f : FwdSt → FwdSt} (hf : (f t.fwd).plan = t.fwd.plan) : sparing L s (t.fwdUp f) := h.trans ⟨fun _ _ _ => rfl, rfl, fun _ => rfl, hf⟩

theorem emit (o : Out) : sparing L s (t.emit o) := h.thenStill rfl

theorem event (x : Trip) (b : Nat) : sparing L s (t.event x b) := h.thenStill (t.still_event x b)

theorem portEvent (p e b : Nat) : sparing L s (t.portEvent p e b) := h.thenStill (t.still_portEvent p e b)

theorem when (c : Bool) {f : State → State} (hf : sparing L s (f t)) : sparing L s (t.when c f) := by
  cases c
  · exact h
  · exact hf

theorem ite (c : Prop) [Decidable c] (h' : sparing L s u) : sparing L s (if c then t else u) := by
  split
  · exact h
  · exact h'

theorem foldl {α : Type} (l : List α) (f : State → α → State) (hf : ∀ t a, sparing L s t → sparing L s (f t a)) : sparing L s (l.foldl f t) :=
  List.foldlRecOn (motive := sparing L s) l f h (fun t ht a _ => hf t a ht)

end

end State.sparing

/-! ### The queueing of a swap -/

/-- The registers in which a queued swap shows: SWAP_PEND of its set. -/
def swapNames : List RN := [.PT_FWD_EPOCH, .PT_WIN_BANK, .SEC_GATE_CTL]

/-- The epoch that the next swap of a set makes. -/
def State.nextEpoch (s : State) (b : BankSet) : Nat := (s.fwd.epochs.lookD b.code 0 + 1) % 2 ^ 32

/-- A swap on the queue, not yet started. -/
def State.swapQueued (s : State) (b : BankSet) (after : After) : State :=
  s.fwdUp (fun f => { f with
    epochs := f.epochs.put b.code (s.nextEpoch b),
    tabs := match b with
      | .fwd => f.tabs.put (s.nextEpoch b) s.snap
      | _ => f.tabs,
    swaps := f.swaps ++ [{ set := b, epoch := s.nextEpoch b, left := [], sent := false, after := after }] })

/-- The state without registers and without the forwarding path, and without traffic. -/
def State.core (s : State) : State := { s with regs := [], fwd := {} }.still

theorem State.core_of_still {s u : State} (h : u.still = s.still) : u.core = s.core :=
  (congrArg (fun t : State => { t with regs := [], fwd := {} }) h :)

/-- What a swap says of itself beside the stations that it still waits for. -/
def Swap.brief (w : Swap) : BankSet × Nat × After := (w.set, w.epoch, w.after)

/-- What the start of a swap leaves alone. -/
structure State.swapStep (s u : State) : Prop where
  word : ∀ r, r.n ∉ trafficNames → r.n ∉ swapNames → u.rd r = s.rd r
  core : u.core = s.core
  fwd : { u.fwd.still with swaps := [] } = { s.fwd.still with swaps := [] }
  swaps : u.fwd.swaps.map Swap.brief = s.fwd.swaps.map Swap.brief

namespace State.swapStep

theorem refl (s : State) : s.swapStep s := ⟨fun _ _ _ => rfl, rfl, rfl, rfl⟩

section
variable {s t u : State} (h : s.swapStep t)
include h

theorem trans (h' : t.swapStep u) : s.swapStep u :=
  ⟨fun r hr hn => (h'.word r hr hn).trans (h.word r hr hn), h'.core.trans h.core, h'.fwd.trans h.fwd, h'.swaps.trans h.swaps⟩

theorem thenStill (hu : u.still = t.still) : s.swapStep u :=
  h.trans ⟨fun _ hr _ => State.rd_of_still hu hr, State.core_of_still hu, by rw [State.fwd_of_still hu], by rw [State.swaps_of_still hu]⟩

theorem setB {f : Fld} (ix : List Nat) (b : Bool) (hf : f.reg ∈ swapNames) : s.swapStep (t.setB f ix b) :=
  h.trans ⟨fun _ _ hn => t.rd_wr_ne _ (fun e => hn (e ▸ hf)), rfl, rfl, rfl⟩

theorem foldl {α : Type} (l : List α) (f : State → α → State) (hf : ∀ t a, s.swapStep t → s.swapStep (f t a)) : s.swapStep (l.foldl f t) :=
  List.foldlRecOn (motive := s.swapStep) l f h (fun t ht a _ => hf t a ht)

theorem swapPend (b : BankSet) (on : Bool) : s.swapStep (t.swapPend b on) := by
  cases b with
  | fwd => exact h.foldl _ _ (fun _ _ ht => ht.setB _ _ (by decide))
  | win => exact h.foldl _ _ (fun _ _ ht => ht.setB _ _ (by decide))
  | gate => exact h.setB _ _ (by decide)

end

end State.swapStep

theorem State.swapStep_startSwap (s : State) : s.swapStep s.startSwap := by
  unfold State.startSwap
  split
  · exact .refl s
  · next w rest heq =>
    split
    · exact .refl s
    · have hhead : s.swapStep (s.fwdUp (fun f => { f with swaps := { w with sent := true, left := w.set.stations.filter (fun x => s.waitsFor x) } :: rest })) :=
        ⟨fun _ _ _ => rfl, rfl, rfl, by rw [heq]; rfl⟩
      exact (hhead.swapPend _ _).foldl _ _ (fun t _ ht => ht.thenStill (t.still_sendMsg _ _ _))

section
variable (s : State) (b : BankSet) (after : After)

theorem State.queueSwap_step : (s.swapQueued b after).swapStep (s.queueSwap b after) := State.swapStep_startSwap _

/-- A queued swap takes the next epoch of its set, behind the swaps that wait. -/
theorem State.queueSwap_swaps : (s.queueSwap b after).fwd.swaps.map Swap.brief = s.fwd.swaps.map Swap.brief ++ [(b, s.nextEpoch b, after)] := by
  rw [(s.queueSwap_step b after).swaps]
  exact List.map_append

theorem State.queueSwap_rd {r : Reg} (hr : r.n ∉ trafficNames) (hs : r.n ∉ swapNames) : (s.queueSwap b after).rd r = s.rd r :=
  (s.queueSwap_step b after).word r hr hs

theorem State.queueSwap_get {f : Fld} (hf : f.reg ∉ trafficNames) (hs : f.reg ∉ swapNames) (ix : List Nat) :
    (s.queueSwap b after).get f ix = s.get f ix := by
  rw [State.get_eq, s.queueSwap_rd b after (r := ⟨f.reg, ix⟩) hf hs, State.get_eq]

theorem State.queueSwap_core : (s.queueSwap b after).core = s.core := (s.queueSwap_step b after).core

theorem State.queueSwap_mgr : (s.queueSwap b after).mgr = s.mgr := (congrArg State.mgr (s.queueSwap_core b after) :)

theorem State.queueSwap_journal : (s.queueSwap b after).journal = s.journal := (congrArg State.journal (s.queueSwap_core b after) :)

theorem State.queueSwap_cfg : (s.queueSwap b after).cfg = s.cfg := (congrArg State.cfg (s.queueSwap_core b after) :)

theorem State.queueSwap_mule : (s.queueSwap b after).mule = s.mule := (congrArg State.mule (s.queueSwap_core b after) :)

theorem State.queueSwap_act : (s.queueSwap b after).fwd.act = s.fwd.act := (congrArg FwdSt.act (s.queueSwap_step b after).fwd :)

theorem State.queueSwap_drains : (s.queueSwap b after).fwd.drains = s.fwd.drains := (congrArg FwdSt.drains (s.queueSwap_step b after).fwd :)

theorem State.queueSwap_epoch : (s.queueSwap b after).fwd.epochs.lookD b.code 0 = s.nextEpoch b := by
  have hepochs : (s.queueSwap b after).fwd.epochs = (s.swapQueued b after).fwd.epochs :=
    (congrArg FwdSt.epochs (s.queueSwap_step b after).fwd :)
  rw [hepochs]
  exact AMap.lookD_put_same ..

/-- A forwarding swap installs the present tables under its epoch. -/
theorem State.queueSwap_tabs : (s.queueSwap .fwd after).fwd.tabs.look (s.nextEpoch .fwd) = some s.snap := by
  have htabs : (s.queueSwap .fwd after).fwd.tabs = (s.swapQueued .fwd after).fwd.tabs :=
    (congrArg FwdSt.tabs (s.queueSwap_step .fwd after).fwd :)
  rw [htabs]
  exact AMap.look_put_same ..

end

end Sys2Proof.Machine
end

section
/-!
SUPPORT. Commands that queue a swap and run on (R487), and the tables that they write: virtual switches, class maps and bindings (R102 to R117, R138).
-/

namespace Sys2Proof.Machine

/-! ### Commands that run on -/

/-- From `t`, in which the command has written its tables, its swap is queued and the command runs on in `u`. -/
structure State.runsOnAs (s t u : State) (cx : McrCx) (o : McrOp) (b : BankSet) : Prop where
  swaps : u.fwd.swaps.map (fun w => (w.set, w.epoch, w.after)) = [(b, (s.fwd.epochs.lookD b.code 0 + 1) % 2 ^ 32, .mcr)]
  run : u.mgr.run.map (fun j => (j.cx, j.op)) = some (cx, some o)
  journal : u.journal = s.journal
  word : ∀ r, r.n ∉ trafficNames → r.n ∉ swapNames → u.rd r = t.rd r
  cfg : u.cfg = t.cfg
  mule : u.mule = t.mule
  act : u.fwd.act = t.fwd.act

theorem State.runsOnAs.get {s t u : State} {cx : McrCx} {o : McrOp} {b : BankSet} (h : s.runsOnAs t u cx o b) {f : Fld} (hf : f.reg ∉ trafficNames)
    (hs : f.reg ∉ swapNames) (ix : List Nat) : u.get f ix = t.get f ix := by
  rw [State.get_eq, h.word ⟨f.reg, ix⟩ hf hs, State.get_eq]

theorem State.still_mgrStat (s : State) : s.mgrStat.still = s.still :=
  (State.still_set _ _ _ (by decide)).trans (State.still_set _ _ _ (by decide))

theorem State.rd_runOn (s : State) (j : McrJob) {r : Reg} (hr : r.n ∉ trafficNames) : ((s.runOn j).mgrStat).rd r = s.rd r := by
  have hstat (t : State) : t.mgrStat.rd r = t.rd r := State.rd_of_still t.still_mgrStat hr
  exact (hstat _).trans (hstat _)

section
variable {s t : State} {cx : McrCx} {o : McrOp} {env : McrEnv} (h : s.mcrReady cx)

include h in
/-- A command that nothing holds up queues its swap and runs on: what holds then. -/
theorem State.mcrReady.runsOn {c : Instr} {b : BankSet} (hexec : exec c s = s.live (·.direct cx o env)) (hpermit : s.permit cx o = stOk)
    (hrange : opInRange o = true) (hio : hostBuffer o = true → s.hostIo = true)
    (hrow : (s.begun cx).runHere (s.firstJob cx o env) o = (t.queueSwap b .mcr).runOn (s.firstJob cx o env))
    (hmgr : t.mgr = (s.begun cx).mgr) (hjournal : t.journal = (s.begun cx).journal) (hswaps : t.fwd.swaps = (s.begun cx).fwd.swaps)
    (hepochs : t.fwd.epochs = (s.begun cx).fwd.epochs) {P : State → Prop} (hP : ∀ u, s.runsOnAs t u cx o b → P u) : Runs c s P := by
  have hfwd := (s.mcrOnly_begun cx).fwd
  have hnext : t.nextEpoch b = (s.fwd.epochs.lookD b.code 0 + 1) % 2 ^ 32 := by rw [State.nextEpoch, hepochs, hfwd]
  refine h.runs hpermit hrange hio hexec ?_ ?_
  · rw [hrow]
    show (t.queueSwap b .mcr).mgr.queue = []
    rw [State.queueSwap_mgr, hmgr, State.begun_mgr]
    exact h.waiting
  · rw [hrow]
    refine hP _ ⟨?_, rfl, ?_, fun r hr hs => ((t.queueSwap b .mcr).rd_runOn _ hr).trans (t.queueSwap_rd b .mcr hr hs), t.queueSwap_cfg b .mcr,
      t.queueSwap_mule b .mcr, t.queueSwap_act b .mcr⟩
    · have hswap := t.queueSwap_swaps b .mcr
      rw [hswaps, hfwd, h.swaps, hnext] at hswap
      exact hswap
    · exact (t.queueSwap_journal b .mcr).trans (hjournal.trans (s.begun_journal cx))

end

/-! ### Tables written by one command -/

namespace State.sparing

variable {L : List RN} {s t : State} (h : sparing L s t)
include h

theorem vstBump (hl : RN.VST_EPOCH ∈ L) : sparing L s t.vstBump := (h.set (f := F.VST_EPOCH_EPOCH) _ _ hl).setB (f := F.VST_EPOCH_DRAIN) _ _ hl

theorem updGlb (hl : RN.VST_GLB ∈ L) : sparing L s t.updGlb :=
  ((h.set (f := F.VST_GLB_FREE_VS) _ _ hl).set (f := F.VST_GLB_FREE_SLOTS) _ _ hl).set (f := F.VST_GLB_FREE_FB) _ _ hl

theorem vsShapers (v : Nat) (hc : RN.SH_CFG ∈ L) (hm : RN.SH_LIM ∈ L) : sparing L s (t.vsShapers v) :=
  h.foldl _ _ (fun u x hu => ((((hu.resetReg (r := ⟨.SH_CFG, [x]⟩) hc).resetReg (r := ⟨.SH_LIM, [x]⟩) hm).thenStill (State.still_set _ _ _ (by decide)))).thenStill
    (State.still_shPut _ _ _))

end State.sparing

/-! ### A new virtual switch (R103) -/

/-- A slot of a virtual switch is allocated and empty. -/
def State.slotFresh (s : State) (v sl : Nat) : Prop := s.get F.VST_SLOT_ALLOC [v, sl] = 1 ∧ s.get F.VST_SLOT_KIND [v, sl] = 0

/-- One slot of a new virtual switch: the containment record at reset, and the slot with its vDSP. -/
def State.makeSlot (v : Nat) (s : State) (x : Nat × Nat) : State :=
  ((s.resetReg ⟨.VST_CONT, [v, x.1]⟩).wr ⟨.VST_SLOT, [v, x.1]⟩ (packW [(0, 10, x.2), (12, 1, 1), (17, 2, 3), (19, 2, 3)])).fwdUp (fun f => { f with
    own := f.own.put x.2 (v, x.1) })

theorem fget_slotWord (x : Nat) : fget (packW [(0, 10, x), (12, 1, 1), (17, 2, 3), (19, 2, 3)]) 12 1 = 1 ∧
    fget (packW [(0, 10, x), (12, 1, 1), (17, 2, 3), (19, 2, 3)]) 10 2 = 0 := by
  simp (disch := decide) only [packW, List.foldl, fget_fset_disj, fget_fset_same]
  decide

theorem State.slotFresh_makeSlot_same (s : State) (v : Nat) (x : Nat × Nat) : (s.makeSlot v x).slotFresh v x.1 := by
  obtain ⟨halloc, hkind⟩ := fget_slotWord x.2
  have hword : (s.makeSlot v x).rd ⟨.VST_SLOT, [v, x.1]⟩ = packW [(0, 10, x.2), (12, 1, 1), (17, 2, 3), (19, 2, 3)] := State.rd_wr_same _ _ _
  exact ⟨(congrArg (fget · 12 1) hword).trans halloc, (congrArg (fget · 10 2) hword).trans hkind⟩

theorem State.slotFresh.makeSlot {s : State} {v sl : Nat} (h : s.slotFresh v sl) (x : Nat × Nat) : (s.makeSlot v x).slotFresh v sl := by
  by_cases hx : sl = x.1
  · rw [hx]
    exact s.slotFresh_makeSlot_same v x
  · have hword : (s.makeSlot v x).rd ⟨.VST_SLOT, [v, sl]⟩ = s.rd ⟨.VST_SLOT, [v, sl]⟩ :=
      (State.rd_wr_ne _ _ (by simp [hx])).trans (s.rd_resetReg_ne (by simp))
    obtain ⟨halloc, hkind⟩ := h
    exact ⟨(congrArg (fget · 12 1) hword).trans halloc, (congrArg (fget · 10 2) hword).trans hkind⟩

/-- Every slot of the list is allocated and empty after it. -/
theorem State.slotFresh_foldl (v : Nat) (l : List (Nat × Nat)) (s : State) {sl : Nat} (hsl : sl ∈ l.map Prod.fst) :
    (l.foldl (State.makeSlot v) s).slotFresh v sl := by
  induction l generalizing s with
  | nil => cases hsl
  | cons x l ih =>
    rw [List.map_cons, List.mem_cons] at hsl
    rw [List.foldl_cons]
    rcases hsl with rfl | hsl
    · exact List.foldlRecOn (motive := fun t : State => t.slotFresh v x.1) l _ (s.slotFresh_makeSlot_same v x) (fun t ht y _ => ht.makeSlot y)
    · exact ih _ hsl

/-- What the slots of a new virtual switch leave alone. -/
structure State.slotsMade (s u : State) : Prop where
  word : ∀ r, r.n ∉ [RN.VST_SLOT, .VST_CONT] → u.rd r = s.rd r
  mgr : u.mgr = s.mgr
  journal : u.journal = s.journal
  fwd : { u.fwd with own := s.fwd.own } = s.fwd

theorem State.slotsMade_foldl (v : Nat) (l : List (Nat × Nat)) (s : State) : s.slotsMade (l.foldl (State.makeSlot v) s) := by
  refine List.foldlRecOn (motive := s.slotsMade) l _ ⟨fun _ _ => rfl, rfl, rfl, rfl⟩ (fun t ht x _ => ?_)
  refine ⟨fun r hr => ?_, ht.mgr, ht.journal, ht.fwd⟩
  refine Eq.trans (State.rd_wr_ne _ _ (fun e => hr (by rw [e]; simp))) ?_
  exact (t.rd_resetReg_ne (fun e => hr (by rw [e]; simp))).trans (ht.word r hr)

section
variable (s : State) (v p n : Nat)

/-- The word of VST_STAT of a new virtual switch. -/
def State.newStat : W64 := packW [(0, 2, 1), (2, 8, p), (10, 6, n), (16, 1, bit false), (17, 1, bit (s.inL0 p))]

theorem State.fget_newStat (hp : p < 256) (hn : n < 64) : fget (s.newStat p n) 0 2 = 1 ∧ fget (s.newStat p n) 2 8 = p ∧
    fget (s.newStat p n) 10 6 = n ∧ fget (s.newStat p n) 16 1 = 0 := by
  simp (disch := decide) only [State.newStat, packW, List.foldl, fget_fset_disj, fget_fset_same]
  exact ⟨rfl, Nat.mod_eq_of_lt hp, Nat.mod_eq_of_lt hn, rfl⟩

/-- The vDSP indices of a new virtual switch: the lowest free ones. -/
def State.newVdsps : List Nat :=
  (below 1024 (fun x => !(s.fwd.own.map (fun e => e.1) ++ s.fwd.drains.flatMap (fun d => d.vdsps)).contains x)).take n

/-- The virtual switch with its slots, before what it is given at reset. -/
def State.vsSlots : State := ((List.range n).zip (s.newVdsps n)).foldl (State.makeSlot v) (s.wr ⟨.VST_STAT, [v]⟩ (s.newStat p n))

/-- The virtual switch is in service. -/
def State.vsActive : State := ((s.vsSlots v p n).resetReg ⟨.VST_TCMAP, [v]⟩).fwdUp (fun f => { f with act := addNew f.act v })

/-- The names that the making of a virtual switch changes after its slots. -/
def vsNames : List RN := [.DMG_CNT, .SH_CFG, .SH_LIM, .VST_EPOCH, .VST_GLB]

theorem State.sparing_vsMake : (s.vsActive v p n).sparing vsNames (s.vsMake v p n false) := by
  unfold State.vsMake
  dsimp only
  refine (((((State.sparing.refl _).cfReset _ _).clearRegs ?_).vsShapers _ (by decide) (by decide)).vstBump (by decide)).updGlb (by decide)
  intro r hr
  rw [Bool.and_eq_true, beq_iff_eq] at hr
  rw [hr.1]
  decide

/-- What a new virtual switch is before its swap (R103). -/
theorem State.vsMake_spec (hfree : n ≤ (below 1024 (fun x =>
      !(s.fwd.own.map (fun e => e.1) ++ s.fwd.drains.flatMap (fun d => d.vdsps)).contains x)).length) :
    (s.vsMake v p n false).rd ⟨.VST_STAT, [v]⟩ = s.newStat p n ∧ (∀ sl < n, (s.vsMake v p n false).slotFresh v sl) ∧
      v ∈ (s.vsMake v p n false).fwd.act := by
  have hmake := s.sparing_vsMake v p n
  have hslots := State.slotsMade_foldl v ((List.range n).zip (s.newVdsps n)) (s.wr ⟨.VST_STAT, [v]⟩ (s.newStat p n))
  have hlen : (s.newVdsps n).length = n := by rw [State.newVdsps, List.length_take, Nat.min_eq_left hfree]
  refine ⟨?_, fun sl hsl => ?_, ?_⟩
  · refine (hmake.word ⟨.VST_STAT, [v]⟩ ?_ ?_).trans ((State.rd_resetReg_ne _ (by simp)).trans ((hslots.word ⟨.VST_STAT, [v]⟩ ?_).trans (State.rd_wr_same _ _ _)))
    all_goals exact of_decide_eq_true rfl
  · have hmem : sl ∈ ((List.range n).zip (s.newVdsps n)).map Prod.fst := by
      rw [List.map_fst_zip (by rw [List.length_range, hlen])]
      exact List.mem_range.mpr hsl
    obtain ⟨halloc, hkind⟩ := State.slotFresh_foldl v _ (s.wr ⟨.VST_STAT, [v]⟩ (s.newStat p n)) hmem
    have hsame {f : Fld} (hf : f.reg = .VST_SLOT) : (s.vsMake v p n false).get f [v, sl] = (s.vsSlots v p n).get f [v, sl] := by
      rw [hmake.get (by rw [hf]; decide) (by rw [hf]; decide), State.get_eq, State.get_eq]
      exact congrArg (fget · f.lo f.w) (State.rd_resetReg_ne _ (by rw [hf]; simp))
    exact ⟨(hsame rfl).trans halloc, (hsame rfl).trans hkind⟩
  · rw [hmake.act]
    exact mem_addNew _ _

theorem State.vsMake_kept : (s.vsMake v p n false).mgr = s.mgr ∧ (s.vsMake v p n false).journal = s.journal ∧
    (s.vsMake v p n false).fwd.swaps = s.fwd.swaps ∧ (s.vsMake v p n false).fwd.epochs = s.fwd.epochs := by
  have hmake := s.sparing_vsMake v p n
  have hslots := State.slotsMade_foldl v ((List.range n).zip (s.newVdsps n)) (s.wr ⟨.VST_STAT, [v]⟩ (s.newStat p n))
  exact ⟨hmake.mgr.trans hslots.mgr, (hmake.journal (by decide)).trans hslots.journal, hmake.swaps.trans (congrArg FwdSt.swaps hslots.fwd :),
    hmake.epochs.trans (congrArg FwdSt.epochs hslots.fwd :)⟩

end

/-- The row of VS_CREATE whose checks pass. -/
theorem State.opVsCreate_ok {s : State} {j : McrJob} {v p n : Nat} (h : s.vsCreateCheck v p n = stOk) :
    s.opVsCreate j v p n = ((s.vsMake v p n false).queueSwap .fwd .mcr).runOn j := if_neg (not_not.mpr h)

theorem State.vsCreateCheck_ok {s : State} {v p n : Nat} (hstate : s.get F.VST_STAT_STATE [v] = 0) (hrole : s.pget F.PP_CTL_ROLE p = 0) (hn : 1 ≤ n)
    (hn32 : n ≤ 32) (hport : s.vsOfPort p = none) (hfree : n ≤ s.get F.VST_GLB_FREE_SLOTS []) : s.vsCreateCheck v p n = stOk := by
  have h0 : n ≠ 0 := by omega
  simp [State.vsCreateCheck, hstate, hrole, hport, h0, not_lt.mpr hn32, not_lt.mpr hfree]

end Sys2Proof.Machine
end

section
/-!
SUPPORT. What links and containments leave of the bindings (R117, R260 to R266): a link that goes, a posted loss and a containment keep each binding in its slot,
and the cause of a vDSP that is contained.
-/

namespace Sys2Proof.Machine

/-! ### Links -/

/-- The registers of a link, and the word of the virtual switch that shows it. -/
def linkNames : List RN := [.PP_STAT, .PP_CTL, .PT_FWD_CTL, .VST_STAT]

namespace State.sparing

variable {s t : State} (h : sparing linkNames s t)
include h

theorem updUpL0 (p : Nat) : sparing linkNames s (t.updUpL0 p) := by
  unfold State.updUpL0
  split
  · exact h.setB _ _ (by decide)
  · exact h

theorem forgetLink (p : Nat) : sparing linkNames s (t.forgetLink p) := h.trans ⟨fun _ _ _ => rfl, rfl, fun _ => rfl, rfl⟩

theorem linkZeroed (p next : Nat) : sparing linkNames s (t.linkZeroed p next) := by
  unfold State.linkZeroed
  exact (((((((h.pset p next (by decide)).pset p 0 (by decide)).pset p 7 (by decide)).pset p 0 (by decide)).pset p 0 (by decide)).pset p 0
    (by decide)).pset p 0 (by decide)).pset p 0 (by decide)

theorem linkGone (p next : Nat) : sparing linkNames s (t.linkGone p next) := by
  have hup : sparing linkNames s ((t.linkCleared p next).updUpL0 p) := ((h.linkZeroed p next).forgetLink p).updUpL0 p
  exact hup.when (f := (·.portEvent p 0 1)) _ (hup.portEvent p 0 1)

theorem updSaf (p : Nat) : sparing linkNames s (t.updSaf p) := h.pset _ _ (by decide)

theorem updPerst (p : Nat) : sparing linkNames s (t.updPerst p) := by
  unfold State.updPerst
  split
  · exact h.ite _ (h.lnkUp _)
  · split
    · exact (h.lnkUp _).ite _ h
    · exact h

theorem portRest (p : Nat) : sparing linkNames s (t.portRest p) := by
  unfold State.portRest
  dsimp only
  exact ((h.pset _ _ (by decide)).ite _ h).ite _ (h.ite _ (h.linkGone _ _))

theorem slotIrq (v sl : Nat) : sparing linkNames s (t.slotIrq v sl) := h.when _ (h.emit _)

theorem updLtr (v : Nat) : sparing linkNames s (t.updLtr v) := h.ite _ ((h.cfSet _ _ _).emit _)

end State.sparing

/-! ### What links leave of the configuration space -/

section
variable (s : State) (p : Nat)

theorem State.event_cfg (x : Trip) (b : Nat) : (s.event x b).cfg = s.cfg := State.cfg_of_still (s.still_event x b)

theorem State.linkGone_cfg (next : Nat) : (s.linkGone p next).cfg = s.cfg := by
  have hup (t : State) : (t.updUpL0 p).cfg = t.cfg := by
    unfold State.updUpL0
    split <;> rfl
  have hwhen (t : State) (c : Bool) : (t.when c (·.portEvent p 0 1)).cfg = t.cfg := by
    cases c
    · rfl
    · exact t.event_cfg _ _
  exact (hwhen _ _).trans (hup (s.linkCleared p next))

theorem State.portRest_cfg : (s.portRest p).cfg = s.cfg := by
  unfold State.portRest
  dsimp only
  split
  · split <;> rfl
  · split
    · rfl
    · exact s.linkGone_cfg p _

theorem State.updPerst_rest : { s.updPerst p with lnk := s.lnk } = s := by
  unfold State.updPerst
  split
  · split <;> rfl
  · split
    · split <;> rfl
    · rfl

theorem State.updPerst_cfg : (s.updPerst p).cfg = s.cfg := (congrArg State.cfg (s.updPerst_rest p) :)

theorem State.slotIrq_cfg (v sl : Nat) : (s.slotIrq v sl).cfg = s.cfg := by
  unfold State.slotIrq State.when
  split <;> rfl

end

/-- A field that only the host writes: slot power and Link Disable of its slots. -/
def hostWritten : CfgF → Bool
  | .slotPower | .linkDisable => true
  | _ => false

theorem hostWritten_causeAer {cause : Nat} {f : CfgF} (h : causeAer cause = some f) : hostWritten f = false := by
  unfold causeAer at h
  split at h <;> cases h <;> rfl

/-! ### Bindings -/

/-- A field of VST_SLOT beside LINK_ACTIVE and CONTAINED. -/
def slotField (f : Fld) : Bool :=
  f.reg == .VST_SLOT && decide (f.lo + f.w ≤ 64) && (decide (f.lo + f.w ≤ 14) || decide (15 ≤ f.lo)) && (decide (f.lo + f.w ≤ 21) || decide (22 ≤ f.lo))

/-- From `s` to `u` links and containments move and nothing else of the bindings does: a vDSP that is contained stays so, with its cause, and what
only hosts write stays. -/
structure State.calm (s u : State) : Prop where
  base : s.sparing (linkNames ++ [.VST_SLOT, .VST_CONT]) u
  slot : ∀ (f : Fld) ix, slotField f = true → u.get f ix = s.get f ix
  cont : ∀ v sl, s.contained v sl = true → u.contained v sl = true ∧ u.get F.VST_CONT_CAUSE [v, sl] = s.get F.VST_CONT_CAUSE [v, sl]
  host : ∀ fn f, hostWritten f = true → u.cf fn f = s.cf fn f

namespace State.calm

theorem of_sparing {s u : State} (h : s.sparing linkNames u) (hc : u.cfg = s.cfg) : s.calm u := by
  have hcont (f : Fld) (ix : List Nat) (hf : f.reg = .VST_CONT) : u.get f ix = s.get f ix := h.get (by rw [hf]; decide) (by rw [hf]; decide) ix
  refine ⟨h.mono (by simp +contextual), fun f ix hf => ?_, fun v sl hc => ⟨?_, hcont _ _ rfl⟩, fun fn f _ => by rw [State.cf, hc, State.cf]⟩
  · have hreg : f.reg = .VST_SLOT := by
      simp only [slotField, Bool.and_eq_true, beq_iff_eq] at hf
      exact hf.1.1.1
    exact h.get (by rw [hreg]; decide) (by rw [hreg]; decide) ix
  · rw [State.contained, State.on_eq, hcont _ _ rfl, ← State.on_eq]
    exact hc

theorem refl (s : State) : s.calm s := of_sparing (.refl s) rfl

section
variable {s t u : State} (h : s.calm t)
include h

theorem trans (h' : t.calm u) : s.calm u :=
  ⟨h.base.trans h'.base, fun f ix hf => (h'.slot f ix hf).trans (h.slot f ix hf), fun v sl hc =>
    ⟨(h'.cont v sl (h.cont v sl hc).1).1, (h'.cont v sl (h.cont v sl hc).1).2.trans (h.cont v sl hc).2⟩,
    fun fn f hf => (h'.host fn f hf).trans (h.host fn f hf)⟩

theorem link (hu : t.sparing linkNames u) (hc : u.cfg = t.cfg) : s.calm u := h.trans (of_sparing hu hc)

theorem thenStill (hu : u.still = t.still) : s.calm u := h.link (.of_still hu) (State.cfg_of_still hu)

theorem cfSet (fn : FnId) {f : CfgF} (v : Nat) (hf : hostWritten f = false) : s.calm (t.cfSet fn f v) := by
  refine h.trans ⟨(State.sparing.refl t).cfSet _ _ _, fun _ _ _ => rfl, fun _ _ hc => ⟨hc, rfl⟩, fun fn' g hg => State.cf_cfSet_ne _ _ (fun e => ?_)⟩
  injection e with _ e
  rw [e, hf] at hg
  cases hg

theorem slotIrq (v sl : Nat) : s.calm (t.slotIrq v sl) := h.link ((State.sparing.refl t).slotIrq _ _) (t.slotIrq_cfg _ _)

theorem linkGone (p next : Nat) : s.calm (t.linkGone p next) := h.link ((State.sparing.refl t).linkGone _ _) (t.linkGone_cfg _ _)

theorem when (c : Bool) {f : State → State} (hf : s.calm (f t)) : s.calm (t.when c f) := by
  cases c
  · exact h
  · exact hf

theorem foldl {α : Type} (l : List α) (f : State → α → State) (hf : ∀ t a, s.calm t → s.calm (f t a)) : s.calm (l.foldl f t) :=
  List.foldlRecOn (motive := s.calm) l f h (fun t ht a _ => hf t a ht)

/-- LINK_ACTIVE and CONTAINED of a slot show no binding. -/
theorem setSlot {f : Fld} (ix : List Nat) (b : Bool) (hf : f = F.VST_SLOT_LINK_ACTIVE ∨ f = F.VST_SLOT_CONTAINED) : s.calm (t.setB f ix b) := by
  have hreg : f.reg = .VST_SLOT := by rcases hf with rfl | rfl <;> rfl
  refine h.trans ⟨(State.sparing.refl t).setB _ _ (by rw [hreg]; decide), fun g iy hg => ?_, fun v sl hc => ?_, fun _ _ _ => rfl⟩
  · simp only [slotField, Bool.and_eq_true, Bool.or_eq_true, decide_eq_true_eq] at hg
    exact State.get_set_disj _ _ _ _ _ _ (.inr ⟨by rcases hf with rfl | rfl <;> simp only <;> omega, hg.1.1.2⟩)
  · have hcont (g : Fld) (iy : List Nat) (hg : g.reg = .VST_CONT) : (t.setB f ix b).get g iy = t.get g iy :=
      State.get_set_disj _ _ _ _ _ _ (.inl (by rw [hg, hreg]; simp))
    refine ⟨?_, hcont _ _ rfl⟩
    rw [State.contained, State.on_eq, hcont _ _ rfl, ← State.on_eq]
    exact hc

/-- The containment record of a vDSP that is not contained may be written. -/
theorem setCont {f : Fld} {v sl : Nat} (b : Nat) (hfree : s.contained v sl = false) (hf : f.reg = .VST_CONT) : s.calm (t.set f [v, sl] b) := by
  have hset := h.base.set (f := f) [v, sl] b (by rw [hf]; decide)
  refine ⟨hset, fun g iy hg => ?_, fun v' sl' hc => ?_, h.host⟩
  · have hreg : g.reg = .VST_SLOT := by
      simp only [slotField, Bool.and_eq_true, beq_iff_eq] at hg
      exact hg.1.1.1
    rw [State.get_set_disj _ _ _ _ _ _ (.inl (by rw [hf, hreg]; simp))]
    exact h.slot g iy hg
  · have hne : (⟨.VST_CONT, [v', sl']⟩ : Reg) ≠ ⟨f.reg, [v, sl]⟩ := by
      rintro e
      injection e with _ e
      obtain ⟨rfl, rfl⟩ : v' = v ∧ sl' = sl := by simpa using e
      rw [hfree] at hc
      cases hc
    obtain ⟨hon, hcause⟩ := h.cont v' sl' hc
    refine ⟨?_, (State.get_set_disj _ _ _ _ _ _ (.inl hne)).trans hcause⟩
    rw [State.contained, State.on_eq, State.get_set_disj _ _ _ _ _ _ (.inl hne), ← State.on_eq]
    exact hon

/-- POSTED_LOSS is no part of what a containment keeps. -/
theorem setPostedLoss (ix : List Nat) (b : Bool) : s.calm (t.setB F.VST_CONT_POSTED_LOSS ix b) := by
  refine h.trans ⟨(State.sparing.refl t).setB _ _ (by decide), fun g iy hg => ?_, fun v sl hc => ?_, fun _ _ _ => rfl⟩
  · have hreg : g.reg = .VST_SLOT := by
      simp only [slotField, Bool.and_eq_true, beq_iff_eq] at hg
      exact hg.1.1.1
    exact State.get_set_disj _ _ _ _ _ _ (.inl (by rw [hreg]; simp))
  · have hkeep {g : Fld} (hg : (g.lo + g.w ≤ 2 ∨ 3 ≤ g.lo) ∧ g.lo + g.w ≤ 64) : (t.setB F.VST_CONT_POSTED_LOSS ix b).get g [v, sl] = t.get g [v, sl] :=
      State.get_set_disj _ _ _ _ _ _ (.inr hg)
    refine ⟨?_, hkeep (by decide)⟩
    rw [State.contained, State.on_eq, hkeep (by decide), ← State.on_eq]
    exact hc

theorem setDll (v sl : Nat) (on : Bool) : s.calm (t.setDll v sl on) := by
  unfold State.setDll
  split
  · exact h
  · exact (((h.cfSet _ _ rfl).cfSet _ _ rfl).setSlot _ _ (.inl rfl)).slotIrq _ _

theorem refreshDll (v sl : Nat) : s.calm (t.refreshDll v sl) := h.setDll _ _ _

theorem refreshPort (p : Nat) : s.calm (t.refreshPort p) := by
  refine (h.foldl (t.boundSlots p) (fun (s : State) (x : Nat × Nat) => s.refreshDll x.1 x.2) (fun _ _ ht => ht.refreshDll _ _)).thenStill ?_
  unfold State.refreshPort State.reportLink
  split
  · exact State.still_emit _ _
  · rfl

end

end State.calm

/-! ### Containment -/

section
variable (s : State) (v sl cause : Nat)

/-- The containment is recorded with its cause. -/
def State.contMarked : State := (s.setB F.VST_CONT_CONTAINED [v, sl] true).set F.VST_CONT_CAUSE [v, sl] cause

/-- The slot's link shows inactive. -/
def State.contRecorded : State := ((s.contMarked v sl cause).setB F.VST_SLOT_CONTAINED [v, sl] true).setDll v sl false

/-- The host sees DPC triggered where it has enabled it. -/
def State.dpcShown (dpc : Bool) : State :=
  s.when dpc (fun s => ((s.cfSet (.vdsp v sl) .dpcTrigger 1).cfSet (.vdsp v sl) .dpcReason (dpcReasonOf cause)).when
    (s.cf (.vdsp v sl) .dpcIrqEn == 1) (·.emit (.dpcIrq v sl)))

/-- The AER bit of the cause. -/
def State.causeShown : State :=
  match causeAer cause with
  | some f => s.cfSet (.vdsp v sl) f 1
  | none => s

/-- What is on its way to a vDSP at a port is answered or dropped. -/
def State.trafficCut (whole : Bool) (x p : Nat) : State :=
  (s.tombLive p (fun h i => whole || (match s.trkOf h i with
    | some e => e.vdsp == x
    | none => false))).dropQueued p (fun k => decide (k.kind < 2) && (whole || k.vdsp == x))

/-- The port of a physical binding is held Disabled. -/
def State.portHeld (p : Nat) : State :=
  ((s.endTombs p).linkGone p (if s.pon F.PP_CTL_ENABLE p then 9 else 0)).pset F.PT_CONT_C_VDSP p 1

/-- What the host sees of a containment, before the traffic is cut. -/
def State.contShown : State := ((s.contRecorded v sl cause).dpcShown v sl cause (s.cf (.vdsp v sl) .dpcEnable != 0)).causeShown v sl cause

/-- Is the binding of a slot a physical port? -/
def State.boundWhole : Bool := s.get F.VST_SLOT_KIND [v, sl] == 1

/-- A containment, its traffic cut. -/
def State.contCut : State :=
  (s.portsOfVdsp v sl s.routePort).foldl (fun s' p => s'.trafficCut (s.boundWhole v sl) (s.get F.VST_SLOT_VDSP [v, sl]) p) (s.contShown v sl cause)

/-- A containment of a vDSP that is not contained, step by step (R262). -/
theorem State.containVdsp_eq (h : s.contained v sl = false) : s.containVdsp v sl cause =
    (if s.boundWhole v sl then (s.contCut v sl cause).portHeld (s.get F.VST_SLOT_TARGET [v, sl] % 256) else s.contCut v sl cause).event .vst 2 := by
  unfold State.containVdsp
  rw [h]
  rfl

end

namespace State.calm

section
variable {s t : State} (h : s.calm t)
include h

theorem trafficCut (whole : Bool) (x p : Nat) : s.calm (t.trafficCut whole x p) :=
  h.thenStill ((State.still_dropQueued _ _ _).trans (t.still_tombLive _ _))

theorem portHeld (p : Nat) : s.calm (t.portHeld p) :=
  ((h.thenStill (t.still_endTombs p)).linkGone _ _).thenStill (State.still_pset _ _ _ (by decide))

end

section
variable (s : State) {v sl : Nat} (cause : Nat)

theorem contShown (v sl : Nat) : (s.contMarked v sl cause).calm (s.contShown v sl cause) := by
  have hrec : (s.contMarked v sl cause).calm (s.contRecorded v sl cause) := ((State.calm.refl _).setSlot _ _ (.inr rfl)).setDll _ _ _
  have hdpc : (s.contMarked v sl cause).calm ((s.contRecorded v sl cause).dpcShown v sl cause (s.cf (.vdsp v sl) .dpcEnable != 0)) := by
    have hset := (hrec.cfSet (.vdsp v sl) (f := .dpcTrigger) 1 rfl).cfSet (.vdsp v sl) (f := .dpcReason) (dpcReasonOf cause) rfl
    exact hrec.when _ (hset.when _ (hset.thenStill (State.still_emit _ _)))
  unfold State.contShown State.causeShown
  split
  · next f hf => exact hdpc.cfSet _ _ (hostWritten_causeAer hf)
  · exact hdpc

/-- What follows the record of a containment leaves it as it is. -/
theorem contMarked_containVdsp (hfree : s.contained v sl = false) : (s.contMarked v sl cause).calm (s.containVdsp v sl cause) := by
  have hcut : (s.contMarked v sl cause).calm (s.contCut v sl cause) := (contShown s cause v sl).foldl _ _ (fun _ _ ht => ht.trafficCut _ _ _)
  rw [s.containVdsp_eq v sl cause hfree]
  refine State.calm.thenStill ?_ (State.still_event _ _ _)
  split
  · exact hcut.portHeld _
  · exact hcut

/-- A containment leaves its vDSP contained, for its cause. -/
theorem containVdsp_cause (hfree : s.contained v sl = false) (hcause : cause < 16) :
    (s.containVdsp v sl cause).contained v sl = true ∧ (s.containVdsp v sl cause).get F.VST_CONT_CAUSE [v, sl] = cause := by
  have hon : (s.contMarked v sl cause).contained v sl = true := by
    rw [State.contained, State.on_eq, State.contMarked, State.get_set_disj _ _ _ _ _ _ (.inr (by decide)), State.get_setB _ _ _ _ (by decide) (by decide)]
    rfl
  have hset : (s.contMarked v sl cause).get F.VST_CONT_CAUSE [v, sl] = cause :=
    (State.get_set_same _ _ _ _ (by decide)).trans (Nat.mod_eq_of_lt hcause)
  obtain ⟨hcont, hsame⟩ := (contMarked_containVdsp s cause hfree).cont v sl hon
  exact ⟨hcont, hsame.trans hset⟩

end

section
variable {s t : State} (h : s.calm t)
include h

theorem containVdsp (v sl cause : Nat) : s.calm (t.containVdsp v sl cause) := by
  refine h.trans ?_
  cases hc : t.contained v sl with
  | true =>
    rw [State.containVdsp, hc]
    exact .refl t
  | false =>
    have hmark : t.calm (t.contMarked v sl cause) :=
      ((State.calm.refl t).setCont (f := F.VST_CONT_CONTAINED) _ hc rfl).setCont (f := F.VST_CONT_CAUSE) cause hc rfl
    exact hmark.trans (contMarked_containVdsp t cause hc)

theorem lossAt (v sl q : Nat) : s.calm ((((t.cfSet (.vdsp v sl) .aerInternal 1).containVdsp v sl 9).setB F.VST_CONT_POSTED_LOSS [v, sl] true).portEvent
    q 4 1) :=
  (((h.cfSet _ _ rfl).containVdsp _ _ _).setPostedLoss _ _).thenStill (State.still_portEvent _ _ _ _)

theorem postedLoss (p : Pkt) : s.calm (t.postedLoss p) := by
  have hport (u : State) (hu : s.calm u) : s.calm ((u.pset F.PT_CONT_POSTED_LOSS p.srcId 1).portEvent p.srcId 4 1) :=
    (hu.thenStill (State.still_pset _ _ _ (by decide))).thenStill (State.still_portEvent _ _ _ _)
  unfold State.postedLoss
  dsimp only
  split
  · exact h
  · split
    · split
      · exact h.lossAt _ _ _
      · exact hport _ (h.cfSet _ _ rfl)
    · split
      · exact h.lossAt _ _ _
      · split
        · split
          · exact h.lossAt _ _ _
          · exact hport _ h
        · exact h

theorem settle (n : Nat) : s.calm (State.settle n t) := by
  induction n generalizing t with
  | zero => exact h
  | succ n ih =>
    unfold State.settle
    split
    · exact h
    · next p ps _ =>
      have hstep : s.calm (t.fwdUp (fun f => { f with lostQ := ps, held := f.held.del (p.key, p.seq) })) := h.thenStill rfl
      refine ih ?_
      split
      · exact hstep.postedLoss p
      · exact hstep.thenStill (State.still_synthSelf _ _ _)
      · exact hstep

theorem settled : s.calm t.settled := h.settle _

theorem cutLink (p next : Nat) : s.calm (t.cutLink p next) := by
  have hcut : s.calm (((t.tombLive p (fun _ _ => true)).dropQueued p (fun _ => true)).endTombs p) :=
    h.thenStill (((State.still_endTombs _ _).trans (State.still_dropQueued _ _ _)).trans (t.still_tombLive _ _))
  exact ((hcut.linkGone _ _).settled).refreshPort _

theorem portBound (v sl p : Nat) : s.calm (t.portBound v sl p) := by
  have hheld : s.calm ((t.when (t.contained v sl) (·.pset F.PT_CONT_C_VDSP p 1)).updSaf p) :=
    (h.when _ (h.thenStill (State.still_pset _ _ _ (by decide)))).link ((State.sparing.refl _).updSaf _) rfl
  unfold State.portBound
  refine State.calm.link ?_ ((State.sparing.refl _).updPerst _) (State.updPerst_cfg _ _)
  split
  · exact hheld.link ((State.sparing.refl _).portRest _) (State.portRest_cfg _ _)
  · split
    · exact hheld
    · exact hheld.cutLink _ _

end

end State.calm

end Sys2Proof.Machine
end

section
/-!
SUPPORT. Bindings as the tables hold them (R109, R114, R117), and the commands whose effect is a swap (R102 to R117, R138, R228, R229, R487).
-/

namespace Sys2Proof.Machine

/-! ### A binding in the tables -/

section
variable (s : State) (v sl kind target nfunc : Nat)

theorem State.sparing_setBinding : s.sparing [.VST_SLOT, .VST_EPOCH] (s.setBinding v sl kind target nfunc) :=
  ((((State.sparing.refl s).set _ _ (by decide)).set _ _ (by decide)).set _ _ (by decide)).vstBump (by decide)

/-- A field of VST_SLOT after a binding is written: the epoch shows elsewhere. -/
theorem State.get_setBinding (f : Fld) (hf : f.reg = .VST_SLOT) : (s.setBinding v sl kind target nfunc).get f [v, sl] =
    (((s.set F.VST_SLOT_KIND [v, sl] kind).set F.VST_SLOT_TARGET [v, sl] target).set F.VST_SLOT_NFUNC [v, sl] nfunc).get f [v, sl] :=
  ((State.sparing.refl _).vstBump (L := [.VST_EPOCH]) (by decide)).get (by rw [hf]; decide) (by rw [hf]; decide) _

/-- A field of VST_SLOT beside those of a binding. -/
def besideBinding (f : Fld) : Prop :=
  (f.lo + f.w ≤ 10 ∨ 12 ≤ f.lo) ∧ (f.lo + f.w ≤ 24 ∨ 38 ≤ f.lo) ∧ (f.lo + f.w ≤ 38 ∨ 42 ≤ f.lo) ∧ f.lo + f.w ≤ 64

variable {kind target nfunc}

theorem State.get_setBinding_kind (h : kind < 4) : (s.setBinding v sl kind target nfunc).get F.VST_SLOT_KIND [v, sl] = kind := by
  rw [s.get_setBinding _ _ _ _ _ _ rfl, State.get_set_disj _ _ _ _ _ _ (.inr (by decide)), State.get_set_disj _ _ _ _ _ _ (.inr (by decide)),
    State.get_set_same _ _ _ _ (by decide)]
  exact Nat.mod_eq_of_lt h

theorem State.get_setBinding_target (h : target < 2 ^ 14) : (s.setBinding v sl kind target nfunc).get F.VST_SLOT_TARGET [v, sl] = target := by
  rw [s.get_setBinding _ _ _ _ _ _ rfl, State.get_set_disj _ _ _ _ _ _ (.inr (by decide)), State.get_set_same _ _ _ _ (by decide)]
  exact Nat.mod_eq_of_lt h

theorem State.get_setBinding_nfunc (h : nfunc < 16) : (s.setBinding v sl kind target nfunc).get F.VST_SLOT_NFUNC [v, sl] = nfunc := by
  rw [s.get_setBinding _ _ _ _ _ _ rfl, State.get_set_same _ _ _ _ (by decide)]
  exact Nat.mod_eq_of_lt h

theorem State.get_setBinding_beside {f : Fld} (hf : f.reg = .VST_SLOT) (h : besideBinding f) :
    (s.setBinding v sl kind target nfunc).get f [v, sl] = s.get f [v, sl] := by
  obtain ⟨hk, ht, hn, h64⟩ := h
  rw [s.get_setBinding _ _ _ _ _ _ hf, State.get_set_disj _ _ _ _ _ _ (.inr ⟨hn, h64⟩), State.get_set_disj _ _ _ _ _ _ (.inr ⟨ht, h64⟩),
    State.get_set_disj _ _ _ _ _ _ (.inr ⟨hk, h64⟩)]

end

/-! ### A physical port (R117) -/

section
variable (s : State) (v sl p : Nat)

/-- The tables with a physical binding, its port in the state that its slot gives it. -/
def State.portTables : State := ((s.setBinding v sl 1 p 0).portBound v sl p).updGlb

theorem State.get_portTables {f : Fld} (hf : slotField f = true) : (s.portTables v sl p).get f [v, sl] = (s.setBinding v sl 1 p 0).get f [v, sl] := by
  have hreg : f.reg = .VST_SLOT := by
    simp only [slotField, Bool.and_eq_true, beq_iff_eq] at hf
    exact hf.1.1.1
  exact (((State.sparing.refl _).updGlb (L := [.VST_GLB]) (by decide)).get (by rw [hreg]; decide) (by rw [hreg]; decide) _).trans
    (((State.calm.refl _).portBound v sl p).slot f _ hf)

/-- What a physical binding leaves of the commands and swaps. -/
theorem State.sparing_portTables : s.sparing (linkNames ++ [.VST_SLOT, .VST_CONT] ++ [.VST_EPOCH, .VST_GLB]) (s.portTables v sl p) :=
  (((s.sparing_setBinding v sl 1 p 0).mono (by decide)).trans (((State.calm.refl _).portBound v sl p).base.mono (by decide))).updGlb (by decide)

end

/-- The row of VDSP_BIND whose checks pass. -/
theorem State.opBind_ok {s : State} {j : McrJob} {v sl p : Nat} (hslot : s.slotCheck v sl = stOk) (htarget : s.targetCheck p = stOk) :
    s.opBind j v sl p = ((s.portTables v sl p).queueSwap .fwd .mcr).runOn j := by
  unfold State.opBind
  rw [hslot, htarget]
  rfl

/-! ### A function group (R114) -/

section
variable (s : State) (v sl k : Nat) (m : Nat × Nat × Nat)

theorem State.sparing.memSync {L : List RN} {s t : State} (h : s.sparing L t) (hl : RN.VST_FB_B ∈ L) (v sl f : Nat) : s.sparing L (t.memSync v sl f) := by
  unfold State.memSync
  split
  · exact h
  · exact (((((h.set (f := F.VST_FB_B_BME) _ _ hl).set (f := F.VST_FB_B_MSE) _ _ hl).set (f := F.VST_FB_B_MPS) _ _ hl).set (f := F.VST_FB_B_MRRS) _ _ hl).setB
      (f := F.VST_FB_B_FLR_PEND) _ _ hl).set (f := F.VST_FB_B_NBAR) _ _ hl

theorem State.sparing.resetMembers {L : List RN} {s t : State} (h : s.sparing L t) (v sl : Nat) : s.sparing L (t.resetMembers v sl) :=
  (h.cfReset _ _).fwdUp rfl

/-- The word of the function binding entry of a member. -/
def fbWord (v vdsp : Nat) (vf : Bool) (m : Nat × Nat × Nat) : W64 :=
  packW [(0, 1, 1), (1, 6, v), (7, 10, vdsp), (17, 3, m.2.2), (20, 1, bit vf), (24, 8, m.1), (32, 16, m.2.1)]

theorem fget_fbWord (v vdsp : Nat) (vf : Bool) (m : Nat × Nat × Nat) : fget (fbWord v vdsp vf m) 0 1 = 1 ∧ fget (fbWord v vdsp vf m) 1 6 = v % 2 ^ 6 ∧
    fget (fbWord v vdsp vf m) 7 10 = vdsp % 2 ^ 10 ∧ fget (fbWord v vdsp vf m) 17 3 = m.2.2 % 2 ^ 3 ∧ fget (fbWord v vdsp vf m) 24 8 = m.1 % 2 ^ 8 ∧
    fget (fbWord v vdsp vf m) 32 16 = m.2.1 % 2 ^ 16 := by
  simp (disch := decide) only [fbWord, packW, List.foldl, fget_fset_disj, fget_fset_same, and_true]
  rfl

/-- A member takes its entry, with its vDSP (R114). -/
theorem State.rd_putMember : ∃ vf, (s.putMember v sl k m).rd ⟨.VST_FB_A, [k]⟩ = fbWord v (s.get F.VST_SLOT_VDSP [v, sl]) vf m :=
  ⟨_, (((State.sparing.refl _).memSync (L := [.VST_FB_B]) (by decide) v sl m.2.2).word ⟨.VST_FB_A, [k]⟩ (of_decide_eq_true rfl) (of_decide_eq_true rfl)).trans
    (State.rd_wr_same _ _ _)⟩

theorem State.sparing_putMember : s.sparing [.VST_FB_A, .VST_FB_B] (s.putMember v sl k m) :=
  (((State.sparing.refl s).wr _ (of_decide_eq_true rfl)).fwdUp rfl).memSync (by decide) _ _ _

/-- The tables with a group of one member. -/
def State.groupTables : State := ((((s.resetMembers v sl).setBinding v sl 2 (k % 4096) 1).putMember v sl k m)).updGlb

theorem State.sparing_groupTables : s.sparing [.VST_SLOT, .VST_EPOCH, .VST_FB_A, .VST_FB_B, .VST_GLB] (s.groupTables v sl k m) :=
  ((((State.sparing.refl s).resetMembers v sl).trans ((State.sparing_setBinding _ v sl 2 (k % 4096) 1).mono (by decide))).trans
    ((State.sparing_putMember _ v sl k m).mono (by decide))).updGlb (by decide)

theorem State.get_groupTables_slot {f : Fld} (hf : f.reg = .VST_SLOT) :
    (s.groupTables v sl k m).get f [v, sl] = ((s.resetMembers v sl).setBinding v sl 2 (k % 4096) 1).get f [v, sl] :=
  ((((State.sparing_putMember _ v sl k m).mono (L' := [.VST_FB_A, .VST_FB_B, .VST_GLB]) (by decide)).updGlb (by decide)).get
    (by rw [hf]; decide) (by rw [hf]; decide) _)

theorem State.rd_groupTables : ∃ vf, (s.groupTables v sl k m).rd ⟨.VST_FB_A, [k]⟩ = fbWord v (s.get F.VST_SLOT_VDSP [v, sl]) vf m := by
  obtain ⟨vf, hword⟩ := ((s.resetMembers v sl).setBinding v sl 2 (k % 4096) 1).rd_putMember v sl k m
  rw [State.get_setBinding_beside _ _ _ rfl (by unfold besideBinding; decide)] at hword
  refine ⟨vf, Eq.trans ?_ hword⟩
  exact ((State.sparing.refl _).updGlb (L := [.VST_GLB]) (by decide)).word ⟨.VST_FB_A, [k]⟩ (of_decide_eq_true rfl) (of_decide_eq_true rfl)

end

/-- The row of VDSP_BIND of one function whose checks pass. -/
theorem State.opBindGroup_one {s : State} {j : McrJob} {v sl k : Nat} {m : Nat × Nat × Nat} (hslot : s.slotCheck v sl = stOk)
    (hgroup : s.groupCheck [m] = stOk) (hfree : s.freeFbs 1 = some [k]) :
    s.opBindGroup j v sl [m] = ((s.groupTables v sl k m).queueSwap .fwd .mcr).runOn j := by
  have hbind : s.bindGroup v sl [m] .mcr = (s.groupTables v sl k m).queueSwap .fwd .mcr := by
    unfold State.bindGroup
    rw [List.length_singleton, hfree]
    rfl
  unfold State.opBindGroup
  rw [hslot, hgroup, hbind]
  rfl

/-! ### Bank swaps of a command (R228, R229) -/

section
variable {s : State} {j : McrJob}

theorem claimed_of_mem {c : Option (Nat × Nat)} {cx : McrCx} (h : c ∈ [none, some (cx.orig, cx.origId)]) : claimed c cx = false := by
  simp only [List.mem_cons, List.not_mem_nil, or_false] at h
  rcases h with rfl | rfl
  · rfl
  · exact bne_self_eq_false _

/-- The window swap that an overlap refuses: the overlap bit, its event and its count (R229). -/
def State.winRefused (s : State) : State := ((s.setB F.SEC_GATE_CTL_WIN_OVERLAP [] true).event .sec 2).glbCount 4

theorem State.opWinSwap_free (hclaim : s.mgr.winClaim ∈ [none, some (j.cx.orig, j.cx.origId)]) (hover : s.winOverlap (1 - s.winBank) = false) :
    s.opWinSwap j = (s.queueSwap .win .mcr).runOn j := by
  simp [State.opWinSwap, claimed_of_mem hclaim, State.winCheckSwap, hover]

theorem State.opWinSwap_overlap (hclaim : s.mgr.winClaim ∈ [none, some (j.cx.orig, j.cx.origId)]) (hover : s.winOverlap (1 - s.winBank) = true) :
    s.opWinSwap j = s.winRefused.finish j stOverlap := by
  simp [State.opWinSwap, claimed_of_mem hclaim, State.winCheckSwap, hover, stOverlap, stOk, State.winRefused]

theorem State.opGateSwap_free (hclaim : s.mgr.gateClaim ∈ [none, some (j.cx.orig, j.cx.origId)]) (hover : s.gateOverlap (1 - s.gateActive) = false) :
    s.opGateSwap j = (s.queueSwap .gate .mcr).runOn j := by
  simp [State.opGateSwap, claimed_of_mem hclaim, State.gateCheckSwap, hover]

end

section
variable (s : State)

theorem State.only_winRefused : s.only s.winRefused [⟨.SEC_GATE_CTL, []⟩, ⟨.PMG_CNT, [4]⟩] [.sec, .pmg] :=
  State.only_mono (State.only_trans (State.only_trans (s.only_set F.SEC_GATE_CTL_WIN_OVERLAP [] 1) (State.only_event _ .sec 2)) (State.only_count _ _ 1 _))
    (by simp) (by simp)

theorem State.winRefused_bit : s.winRefused.get F.SEC_GATE_CTL_WIN_OVERLAP [] = 1 := by
  have hevent := (State.only_trans (State.only_event (s.setB F.SEC_GATE_CTL_WIN_OVERLAP [] true) .sec 2) (State.only_count _ ⟨.PMG_CNT, [4]⟩ 1 (some (.pmg, 0))))
  exact (hevent.get (by simp) (by decide)).trans (State.get_setB _ _ _ _ (by decide) (by decide))

theorem State.sentGrows_winRefused : s.sentGrows s.winRefused :=
  (State.sentGrows_of_eq (u := s.setB F.SEC_GATE_CTL_WIN_OVERLAP [] true) rfl).trans ((State.sentGrows_event _ .sec 2).trans (State.sentGrows_count _ _ _ _))

end

/-- An event is raised between two states whose triples have the words of the states about it. -/
theorem State.raisedIn.within {s t u v : State} {x : Trip} {b : Nat} (h : t.raisedIn u x b) (hs : ∀ r ∈ [x.stat, x.mask], t.rd r = s.rd r)
    (hv : ∀ r ∈ [x.stat, x.int, x.mask], v.rd r = u.rd r) : s.raises v x b := by
  have hafter : t.raisedIn v x b := h.congr (hv _ (by simp)) (hv _ (by simp)) (hv _ (by simp))
  rw [State.raisedIn, State.raises, hs _ (by simp), hs _ (by simp)] at hafter
  exact hafter.1

/-- The words that every command leaves alone, of registers that it neither lists nor names by an event. -/
theorem State.mcrOnly.words {s u : State} {l : List Reg} {xs : List Trip} (h : s.mcrOnly u l xs) {rs : List Reg}
    (hr : ∀ r ∈ rs, r ∉ l ∧ r.n ∉ [RN.MGR_JNL_SEQ, .MGR_MCR_STAT, .MGR_RSP_DONE, .MSIX_PBA] ∧ ∀ x ∈ xs, r ≠ x.stat ∧ r ≠ x.int) :
    ∀ r ∈ rs, u.rd r = s.rd r := fun r m => h.1 r (hr r m).1 (hr r m).2.1 (hr r m).2.2

/-! ### Other tables -/

section
variable {s : State} {j : McrJob} {v : Nat}

/-- The tables in which a virtual switch is Deleting. -/
def State.deletingTables (s : State) (v : Nat) : State := (s.set F.VST_STAT_STATE [v] 2).vstBump

theorem State.opVsDelete_ok (h : s.vsDeleteCheck v = stOk) : s.opVsDelete j v = ((s.deletingTables v).queueSwap .fwd .mcr).runOn j := if_neg (not_not.mpr h)

/-- The tables with a class map. -/
def State.mapTables (s : State) (v map : Nat) : State := (s.wr ⟨.VST_TCMAP, [v]⟩ (packW [(0, 16, map)])).vstBump

theorem State.opVsTcmap_ok {map : Nat} (hstate : s.get F.VST_STAT_STATE [v] = 1) (hmap : ∀ k < 8, map / 4 ^ k % 4 ≠ 0) :
    s.opVsTcmap j v map = ((s.mapTables v map).queueSwap .fwd .mcr).runOn j := by
  have hany : (List.range 8).any (fun k => map / 4 ^ k % 4 == 0) = false := by simpa using hmap
  unfold State.opVsTcmap
  rw [hstate, hany]
  rfl

end

theorem State.get_vstBump (s : State) {f : Fld} (ht : f.reg ∉ trafficNames) (hf : f.reg ∉ [RN.VST_EPOCH]) (ix : List Nat) : s.vstBump.get f ix = s.get f ix :=
  ((State.sparing.refl s).vstBump (by decide)).get ht hf ix

theorem State.mcrReady.permit_plain {s : State} {cx : McrCx} {o : McrOp} (h : s.mcrReady cx) (hscope : ∀ v sl g, o ≠ .bindRemote v sl g)
    (hwin : ∀ b p e f ba li m d, o ≠ .winWrite b p e f ba li m d) (hbuf : hostBuffer o = false) (hfuse : fuseCmd o = false) : s.permit cx o = stOk :=
  h.permitted hscope hwin (by simp [hbuf]) hfuse

/-! ### The obligation -/

/-- Settles O19: each command passes its checks and writes its tables, and the rule of the commands that run on gives its swap. -/
theorem commandsThatSwapTables : Obligations.commands_that_swap_tables := by
  unfold Obligations.commands_that_swap_tables
  refine ⟨?_, ?_, ?_, ?_, ?_, ?_, ?_, ?_⟩
  · intro s cx vs port slots h hvs hport hslots1 hslots hstate hrole hnone hfree hids
    have hst := s.begun_still cx
    have hfwd := (s.mcrOnly_begun cx).fwd
    have hcheck : (s.begun cx).vsCreateCheck vs.val port.val slots.val = stOk :=
      (State.vsCreateCheck_of_still hst _ _ _ :).trans (State.vsCreateCheck_ok hstate hrole hslots1 hslots hnone hfree)
    obtain ⟨hmgr, hjournal, hswaps, hepochs⟩ := (s.begun cx).vsMake_kept vs.val port.val slots.val
    obtain ⟨hstat, hfresh, hact⟩ := (s.begun cx).vsMake_spec vs.val port.val slots.val (by rw [hfwd]; exact hids)
    obtain ⟨hs, hp, hn, hm⟩ := (s.begun cx).fget_newStat port.val slots.val (by omega) (by omega)
    refine h.runsOn (t := (s.begun cx).vsMake vs.val port.val slots.val false) (o := .vsCreate _ _ _) (env := {}) rfl
      (h.permit_plain (by simp) (by simp) rfl rfl) (by simp [opInRange, *]) (by simp [hostBuffer]) (State.opVsCreate_ok hcheck) hmgr hjournal hswaps hepochs
      (fun u hu => ?_)
    have hword := (hu.word ⟨.VST_STAT, [vs.val]⟩ (of_decide_eq_true rfl) (of_decide_eq_true rfl)).trans hstat
    refine ⟨?_, ?_, ?_, ?_, fun sl hsl => ?_, ?_, hu.swaps, hu.run, hu.journal⟩
    · exact (congrArg (fget · 0 2) hword).trans hs
    · exact (congrArg (fget · 2 8) hword).trans hp
    · exact (congrArg (fget · 10 6) hword).trans hn
    · exact (congrArg (fget · 16 1) hword).trans hm
    · obtain ⟨halloc, hkind⟩ := hfresh sl hsl
      exact ⟨(hu.get (by decide) (by decide) _).trans halloc, (hu.get (by decide) (by decide) _).trans hkind⟩
    · rw [hu.act]
      exact hact
  · intro s cx vs h hvs hcheck
    have hst := s.begun_still cx
    refine h.runsOn (t := (s.begun cx).deletingTables vs.val) (o := .vsDelete _) (env := {}) rfl
      (h.permit_plain (by simp) (by simp) rfl rfl) (by simpa [opInRange] using hvs) (by simp [hostBuffer])
      (State.opVsDelete_ok ((State.vsDeleteCheck_of_still hst _ :).trans hcheck)) rfl rfl rfl rfl (fun u hu => ?_)
    refine ⟨?_, hu.swaps, hu.run, hu.journal, hu.cfg.trans (s.mcrOnly_begun cx).cfg⟩
    rw [hu.get (by decide) (by decide)]
    exact (State.get_vstBump _ (by decide) (by decide) _).trans (State.get_set_same _ _ _ _ (by decide))
  · intro s cx vs map h hvs hstate hmap
    have hst := s.begun_still cx
    refine h.runsOn (t := (s.begun cx).mapTables vs.val map.toNat) (o := .vsTcmap _ _) (env := {}) rfl
      (h.permit_plain (by simp) (by simp) rfl rfl) (by simpa [opInRange] using hvs) (by simp [hostBuffer])
      (State.opVsTcmap_ok ((State.get_of_still hst (f := F.VST_STAT_STATE) (by decide) _ :).trans hstate) hmap) rfl rfl rfl rfl (fun u hu => ?_)
    refine ⟨?_, hu.swaps, hu.run, hu.journal, hu.cfg.trans (s.mcrOnly_begun cx).cfg⟩
    have hword : ((s.begun cx).wr ⟨.VST_TCMAP, [vs.val]⟩ (packW [(0, 16, map.toNat)])).get F.VST_TCMAP_MAP [vs.val] = map.toNat := by
      rw [State.get_eq, State.rd_wr_same]
      exact (fget_fset_same 0 0 16 map.toNat (by decide)).trans (Nat.mod_eq_of_lt map.isLt)
    rw [hu.get (by decide) (by decide)]
    exact (State.get_vstBump _ (by decide) (by decide) _).trans hword
  · intro s cx vs slot port h hvs hslot hport hcheck htarget
    have hst := s.begun_still cx
    have hspare := (s.begun cx).sparing_portTables vs.val slot.val port.val
    refine h.runsOn (t := (s.begun cx).portTables vs.val slot.val port.val) (o := .bind _ _ _) (env := {}) rfl
      (h.permit_plain (by simp) (by simp) rfl rfl) (by simp [opInRange, *]) (by simp [hostBuffer])
      (State.opBind_ok ((State.slotCheck_of_still hst _ _ :).trans hcheck) ((State.targetCheck_of_still hst _ :).trans htarget))
      hspare.mgr (hspare.journal (by decide)) hspare.swaps hspare.epochs (fun u hu => ?_)
    have hget {f : Fld} (hf : slotField f = true) (hreg : f.reg = .VST_SLOT) :
        u.get f [vs.val, slot.val] = ((s.begun cx).setBinding vs.val slot.val 1 port.val 0).get f [vs.val, slot.val] :=
      (hu.get (by rw [hreg]; decide) (by rw [hreg]; decide) _).trans (State.get_portTables _ _ _ _ hf)
    refine ⟨?_, ?_, ?_, ?_, ?_, hu.swaps, hu.run, hu.journal⟩
    · exact (hget rfl rfl).trans (State.get_setBinding_kind _ _ _ (by decide))
    · exact (hget rfl rfl).trans (State.get_setBinding_target _ _ _ (by omega))
    · exact (hget rfl rfl).trans (State.get_setBinding_nfunc _ _ _ (by decide))
    · exact ((hget rfl rfl).trans (State.get_setBinding_beside _ _ _ rfl (by unfold besideBinding; decide))).trans (s.begun_get cx (by decide) _)
    · exact ((hget rfl rfl).trans (State.get_setBinding_beside _ _ _ rfl (by unfold besideBinding; decide))).trans (s.begun_get cx (by decide) _)
  · intro s cx vs slot port pf rid k h hvs hslot hport hpf hcheck hgroup hfree
    have hst := s.begun_still cx
    have hspare := (s.begun cx).sparing_groupTables vs.val slot.val k (port.val, rid.toNat, pf.val)
    refine h.runsOn (t := (s.begun cx).groupTables vs.val slot.val k (port.val, rid.toNat, pf.val)) (o := .bindGroup _ _ _) (env := {}) rfl
      (h.permit_plain (by simp) (by simp) rfl rfl) (by simp [opInRange, *]) (by simp [hostBuffer])
      (State.opBindGroup_one ((State.slotCheck_of_still hst _ _ :).trans hcheck) ((State.groupCheck_of_still hst _ :).trans hgroup)
        ((State.freeFbs_of_still hst _ :).trans hfree))
      hspare.mgr (hspare.journal (by decide)) hspare.swaps hspare.epochs (fun u hu => ?_)
    obtain ⟨vf, hentry⟩ := (s.begun cx).rd_groupTables vs.val slot.val k (port.val, rid.toNat, pf.val)
    rw [s.begun_get cx (by decide)] at hentry
    have hword := (hu.word ⟨.VST_FB_A, [k]⟩ (of_decide_eq_true rfl) (of_decide_eq_true rfl)).trans hentry
    obtain ⟨h0, h1, h2, h3, h4, h5⟩ := fget_fbWord vs.val (s.get F.VST_SLOT_VDSP [vs.val, slot.val]) vf (port.val, rid.toNat, pf.val)
    have hget {f : Fld} (hreg : f.reg = .VST_SLOT) := (hu.get (f := f) (by rw [hreg]; decide) (by rw [hreg]; decide) [vs.val, slot.val]).trans
      (State.get_groupTables_slot _ _ _ _ _ hreg)
    have hrun := congrArg (Option.map Prod.fst) hu.run
    rw [Option.map_map] at hrun
    refine ⟨?_, ?_, ?_, ?_, ?_, ?_, ?_, ?_, hu.swaps, hrun, hu.journal⟩
    · exact (hget rfl).trans (State.get_setBinding_kind _ _ _ (by decide))
    · exact (hget rfl).trans (State.get_setBinding_nfunc _ _ _ (by decide))
    · exact (congrArg (fget · 0 1) hword).trans h0
    · exact ((congrArg (fget · 1 6) hword).trans h1).trans (Nat.mod_eq_of_lt (by omega))
    · exact ((congrArg (fget · 7 10) hword).trans h2).trans (Nat.mod_eq_of_lt (State.get_lt _ _ _))
    · exact ((congrArg (fget · 24 8) hword).trans h4).trans (Nat.mod_eq_of_lt port.isLt)
    · exact ((congrArg (fget · 32 16) hword).trans h5).trans (Nat.mod_eq_of_lt rid.isLt)
    · exact ((congrArg (fget · 17 3) hword).trans h3).trans (congrArg (· % 2 ^ 3) hpf)
  · intro s cx h hclaim hover
    have hst := s.begun_still cx
    have hframe := s.mcrOnly_begun cx
    have hbank : (s.begun cx).winBank = s.winBank := (State.winBank_of_still hst :)
    refine h.runsOn (t := s.begun cx) (o := .winSwap) (env := {}) rfl (h.permit_plain (by simp) (by simp) rfl rfl) rfl (by simp [hostBuffer])
      (State.opWinSwap_free (by rw [s.begun_mgr cx]; exact hclaim) (by rw [hbank]; exact (State.winOverlap_of_still hst _ :).trans hover))
      rfl rfl rfl rfl (fun u hu => ?_)
    exact ⟨hu.swaps, hu.run, hu.journal, hu.cfg.trans hframe.cfg, hu.mule.trans hframe.mule⟩
  · intro s cx h hclaim hover
    have hst := s.begun_still cx
    have hbank : (s.begun cx).winBank = s.winBank := (State.winBank_of_still hst :)
    have hrefused := (s.begun cx).only_winRefused
    refine h.runsEnd (t := (s.begun cx).winRefused) (o := .winSwap) (env := {}) (congrArg State.mgr hrefused.2 :)
      ((s.sentGrows_begun cx).trans (State.sentGrows_winRefused _)) rfl (h.permit_plain (by simp) (by simp) rfl rfl) rfl (by simp [hostBuffer])
      (State.opWinSwap_overlap (by rw [s.begun_mgr cx]; exact hclaim) (by rw [hbank]; exact (State.winOverlap_of_still hst _ :).trans hover))
      (fun u hu => ?_)
    have hframe : s.mcrOnly u [⟨.SEC_GATE_CTL, []⟩, ⟨.PMG_CNT, [4]⟩] [.sec, .pmg] :=
      (((s.mcrOnly_begun cx).trans hrefused.mcrOnly).andThen hu.frame).mono (by simp) (by simp)
    refine ⟨hu.answered (by decide), ?_, ?_, ?_, ?_, hframe⟩
    · exact (hu.frame.get (by simp) (by decide) (by decide)).trans (State.winRefused_bit _)
    · have hcount := (State.only_count (((s.begun cx).setB F.SEC_GATE_CTL_WIN_OVERLAP [] true).event .sec 2) ⟨.PMG_CNT, [4]⟩ 1 (some (.pmg, 0))).mcrOnly
      exact (State.raisedIn_event _ .sec 2 (by decide)).within
        (((s.mcrOnly_begun cx).trans ((s.begun cx).only_set F.SEC_GATE_CTL_WIN_OVERLAP [] 1).mcrOnly).words (by decide))
        ((hcount.andThen hu.frame).words (by decide))
    · rw [hframe.fwd]
      exact h.swaps
    · exact (hu.journal rfl).trans (hrefused.journal.trans (s.begun_journal cx))
  · intro s cx h hclaim hover
    have hst := s.begun_still cx
    have hframe := s.mcrOnly_begun cx
    have hactive : (s.begun cx).gateActive = s.gateActive := (State.gateActive_of_still hst :)
    refine h.runsOn (t := s.begun cx) (o := .gateSwap) (env := {}) rfl (h.permit_plain (by simp) (by simp) rfl rfl) rfl (by simp [hostBuffer])
      (State.opGateSwap_free (by rw [s.begun_mgr cx]; exact hclaim) (by rw [hactive]; exact (State.gateOverlap_of_still hst _ :).trans hover))
      rfl rfl rfl rfl (fun u hu => ?_)
    exact ⟨hu.swaps, hu.run, hu.journal, hu.cfg.trans hframe.cfg, hu.mule.trans hframe.mule⟩

end Sys2Proof.Machine
end

section
/-!
SUPPORT. The removal of a physical binding (R118 step 3, R150), and the commands that remove one (R118 to R121).
-/

namespace Sys2Proof.Machine

/-! ### What the removal of a binding spares -/

namespace State.sparing

variable {L : List RN} {s t : State} (h : sparing L s t)
include h

theorem journalAdd (hl : RN.MGR_JNL_SEQ ∈ L) (kind orig cmdSeq origId : Nat) (body result : List Byte) :
    sparing L s (t.journalAdd kind orig cmdSeq origId body result) := by
  obtain ⟨j, v, heq⟩ := t.journalAdd_shape kind orig cmdSeq origId body result
  rw [heq]
  have hentry : sparing L s { t with journal := j } := h.trans ⟨fun _ _ _ => rfl, rfl, fun hj => absurd hl hj, rfl⟩
  exact hentry.set (f := F.MGR_JNL_SEQ_SEQ) _ _ hl

theorem winClear (hp : RN.PT_WIN_E ∈ L) (hf : RN.FAB_RWIN_E ∈ L) (q : Reg → Bool) : sparing L s (t.winClear q) := by
  refine List.foldlRecOn (motive := sparing L s) _ _ h (fun u hu e he => hu.wr _ ?_)
  have hname := (List.mem_filter.mp he).2
  simp only [Bool.and_eq_true, Bool.or_eq_true, beq_iff_eq] at hname
  rcases hname.1.1 with hn | hn <;> rw [hn] <;> assumption

theorem winFollow (hp : RN.PT_WIN_E ∈ L) (hf : RN.FAB_RWIN_E ∈ L) (hj : RN.MGR_JNL_SEQ ∈ L) (p : Nat) : sparing L s (t.winFollow p) :=
  h.ite _ ((h.winClear hp hf _).journalAdd hj _ _ _ _ _ _)

theorem setDll (hl : RN.VST_SLOT ∈ L) (v sl : Nat) (on : Bool) : sparing L s (t.setDll v sl on) := by
  have hset := ((h.cfSet (.vdsp v sl) .dllActive (bit on)).cfSet (.vdsp v sl) .dllChanged 1).setB (f := F.VST_SLOT_LINK_ACTIVE) [v, sl] on hl
  exact h.ite _ (hset.when _ (hset.emit _))

theorem setPresent (hl : RN.VST_SLOT ∈ L) (v sl : Nat) (on : Bool) : sparing L s (t.setPresent v sl on) := by
  have hset := ((h.setB (f := F.VST_SLOT_PRESENT) [v, sl] on hl).cfSet (.vdsp v sl) .presence (bit on)).cfSet (.vdsp v sl) .presenceChanged 1
  exact hset.when (f := (·.emit (.slotIrq v sl))) _ (hset.emit _)

end State.sparing

/-! ### The steps of the removal -/

section
variable (s : State) (v sl p : Nat) (fbs : List Nat) (d : Drain)

/-- The tables without the binding. -/
def State.bindingCleared : State :=
  (((fbs.foldl (fun (s : State) (k : Nat) => s.setB F.VST_FB_A_VALID [k] false) s).resetMembers v sl).setBinding v sl 0 0 0).setB
    F.VST_SLOT_UNBIND_PEND [v, sl] false

/-- What the binding used is held for its drain, and nothing waits for the binding. -/
def State.drainHeld : State :=
  { s with
    vsx := { s.vsx with unbinds := s.vsx.unbinds.filter (fun u => !(u.vs == v && u.slot == sl)), remoteUp := s.vsx.remoteUp.filter (· != (v, sl)) },
    fwd := { s.fwd with
      bars := s.fwd.bars.filter (fun b => !(b.1.1 == v && b.1.2.1 == sl)), bindWait := s.fwd.bindWait.filter (· != (v, sl)), drains := s.fwd.drains ++ [d] } }

/-- The host sees the card leave. -/
def State.cardGone : State := (s.setDll v sl false).setPresent v sl false

/-- The port of the binding is free, and its windows are cleared. -/
def State.portFreed : State := ((((s.pset F.PT_CONT_C_VDSP p 0).portRest p).winFollow p).updSaf p).updPerst p

/-- What the virtual switch shows without the binding. -/
def State.bindingEnds : State := ((s.cfSet (.vdsp v sl) .ltr 0).updLtr v).updGlb

/-- What the removal of a binding frees once it has drained. -/
def State.freedDrain : Drain :=
  { epoch := s.nextEpoch .fwd, vdsps := [], fbs := s.snap.fbs.filter (fun k => s.get F.VST_FB_A_VDSP [k] == s.get F.VST_SLOT_VDSP [v, sl]),
    port := some (s.get F.VST_SLOT_TARGET [v, sl] % 256), vs := v, slot := sl }

/-- The removal of a physical binding up to its port. -/
def State.cardRemoved : State := ((s.bindingCleared v sl (s.freedDrain v sl).fbs).drainHeld v sl (s.freedDrain v sl)).cardGone v sl

theorem State.unbindTables_physical (h : s.get F.VST_SLOT_KIND [v, sl] = 1) :
    s.unbindTables v sl = ((s.cardRemoved v sl).portFreed (s.get F.VST_SLOT_TARGET [v, sl] % 256)).bindingEnds v sl := by
  unfold State.unbindTables
  rw [h]
  rfl

/-- The names of what follows the removal of a card: its link, its windows and their journal, and the counts of what is free. -/
def removalNames : List RN := linkNames ++ [.PT_WIN_E, .FAB_RWIN_E, .MGR_JNL_SEQ, .VST_GLB]

theorem State.sparing_afterCard : s.sparing removalNames ((s.portFreed p).bindingEnds v sl) := by
  have hlink {t : State} (h : s.sparing removalNames t) {u : State} (hu : t.sparing linkNames u) : s.sparing removalNames u := h.trans (hu.mono (by decide))
  have hrest := hlink (State.sparing.of_still (s.still_pset (f := F.PT_CONT_C_VDSP) p 0 (by decide))) ((State.sparing.refl _).portRest p)
  have hwin := hrest.winFollow (by decide) (by decide) (by decide) p
  have hport := hlink (hlink hwin ((State.sparing.refl _).updSaf p)) ((State.sparing.refl _).updPerst p)
  exact (hlink (hport.cfSet _ _ _) ((State.sparing.refl _).updLtr v)).updGlb (by decide)

theorem State.sparing_bindingCleared : s.sparing [.VST_FB_A, .VST_SLOT, .VST_EPOCH] (s.bindingCleared v sl fbs) :=
  ((((State.sparing.refl s).foldl fbs _ (fun _ _ ht => ht.setB _ _ (by decide))).resetMembers v sl).trans
    ((State.sparing_setBinding _ v sl 0 0 0).mono (by decide))).setB _ _ (by decide)

theorem State.bindingCleared_kind : (s.bindingCleared v sl fbs).get F.VST_SLOT_KIND [v, sl] = 0 :=
  (State.get_set_disj _ _ _ _ _ _ (.inr (by decide))).trans (State.get_setBinding_kind _ _ _ (by decide))

theorem State.bindingCleared_pend : (s.bindingCleared v sl fbs).get F.VST_SLOT_UNBIND_PEND [v, sl] = 0 := State.get_setB _ _ _ _ (by decide) (by decide)

/-- A field of the slot beside PRESENT, LINK_ACTIVE and CONTAINED when the card has left. -/
theorem State.get_cardGone {f : Fld} (hf : slotField f = true) (hp : f.lo + f.w ≤ 13 ∨ 14 ≤ f.lo) : (s.cardGone v sl).get f [v, sl] = s.get f [v, sl] := by
  have hfield := hf
  simp only [slotField, Bool.and_eq_true, beq_iff_eq, decide_eq_true_eq] at hfield
  obtain ⟨⟨⟨hreg, h64⟩, -⟩, -⟩ := hfield
  have hirq := ((State.sparing.refl (((s.setDll v sl false).setB F.VST_SLOT_PRESENT [v, sl] false).cfSet (.vdsp v sl) .presence 0)).cfSet (.vdsp v sl)
    .presenceChanged 1).slotIrq v sl
  refine (hirq.get (by rw [hreg]; decide) (by rw [hreg]; decide) _).trans ?_
  exact (State.get_set_disj _ _ _ _ _ _ (.inr ⟨hp, h64⟩)).trans (((State.calm.refl s).setDll v sl false).slot f _ hf)

theorem State.cardGone_present : (s.cardGone v sl).get F.VST_SLOT_PRESENT [v, sl] = 0 := by
  have hirq := ((State.sparing.refl (((s.setDll v sl false).setB F.VST_SLOT_PRESENT [v, sl] false).cfSet (.vdsp v sl) .presence 0)).cfSet (.vdsp v sl)
    .presenceChanged 1).slotIrq v sl
  exact (hirq.get (by decide) (by decide) _).trans (State.get_setB _ _ _ _ (by decide) (by decide))

end

/-! ### A binding that has been removed -/

theorem State.get_drainHeld (s : State) (v sl : Nat) (d : Drain) (f : Fld) (ix : List Nat) : (s.drainHeld v sl d).get f ix = s.get f ix := rfl

theorem State.drains_drainHeld (s : State) (v sl : Nat) (d : Drain) : (s.drainHeld v sl d).fwd.drains = s.fwd.drains ++ [d] := rfl

theorem State.epochs_drainHeld (s : State) (v sl : Nat) (d : Drain) : (s.drainHeld v sl d).fwd.epochs = s.fwd.epochs := rfl

theorem State.mgr_drainHeld (s : State) (v sl : Nat) (d : Drain) : (s.drainHeld v sl d).mgr = s.mgr := rfl

/-- From `s` to `u` the physical binding of a slot has been removed, and its port is held by its drain. -/
structure State.unbound (s u : State) (v sl : Nat) : Prop where
  kind : u.get F.VST_SLOT_KIND [v, sl] = 0
  pend : u.get F.VST_SLOT_UNBIND_PEND [v, sl] = 0
  present : u.get F.VST_SLOT_PRESENT [v, sl] = 0
  cont : ∀ f : Fld, f.reg = .VST_CONT → u.get f [v, sl] = s.get f [v, sl]
  drain : u.fwd.drains.getLast?.map (fun d => (d.port, d.vs, d.slot)) = some (some (s.get F.VST_SLOT_TARGET [v, sl] % 256), v, sl)
  mgr : u.mgr = s.mgr
  epoch : u.fwd.epochs.lookD BankSet.fwd.code 0 = s.nextEpoch .fwd

section
variable {s : State} {v sl : Nat}

theorem State.unbound_removeBinding (h : s.get F.VST_SLOT_KIND [v, sl] = 1) (after : After) : s.unbound (s.removeBinding v sl after) v sl := by
  have hclear := s.sparing_bindingCleared v sl (s.freedDrain v sl).fbs
  have hcard : ((s.bindingCleared v sl (s.freedDrain v sl).fbs).drainHeld v sl (s.freedDrain v sl)).sparing [.VST_SLOT] (s.cardRemoved v sl) :=
    ((State.sparing.refl _).setDll (by decide) v sl false).setPresent (by decide) v sl false
  have hafter := (s.cardRemoved v sl).sparing_afterCard v sl (s.get F.VST_SLOT_TARGET [v, sl] % 256)
  rw [← s.unbindTables_physical v sl h] at hafter
  have hslot {f : Fld} (hf : f.reg = .VST_SLOT) : (s.removeBinding v sl after).get f [v, sl] = (s.cardRemoved v sl).get f [v, sl] :=
    (State.queueSwap_get _ _ _ (by rw [hf]; decide) (by rw [hf]; decide) _).trans (hafter.get (by rw [hf]; decide) (by rw [hf]; decide) _)
  have hepochs : (s.unbindTables v sl).fwd.epochs = s.fwd.epochs := hafter.epochs.trans (hcard.epochs.trans ((State.epochs_drainHeld _ _ _ _).trans hclear.epochs))
  refine ⟨(hslot rfl).trans ?_, (hslot rfl).trans ?_, (hslot rfl).trans (State.cardGone_present _ _ _), fun f hf => ?_, ?_, ?_, ?_⟩
  · exact ((State.get_cardGone _ v sl rfl (by decide)).trans (State.get_drainHeld _ _ _ _ _ _)).trans (s.bindingCleared_kind v sl _)
  · exact ((State.get_cardGone _ v sl rfl (by decide)).trans (State.get_drainHeld _ _ _ _ _ _)).trans (s.bindingCleared_pend v sl _)
  · refine (State.queueSwap_get _ _ _ (by rw [hf]; decide) (by rw [hf]; decide) _).trans ((hafter.get (by rw [hf]; decide) (by rw [hf]; decide) _).trans ?_)
    exact ((hcard.get (by rw [hf]; decide) (by rw [hf]; decide) _).trans (State.get_drainHeld _ _ _ _ _ _)).trans (hclear.get (by rw [hf]; decide) (by rw [hf]; decide) _)
  · have hdrains : (s.removeBinding v sl after).fwd.drains = (s.bindingCleared v sl (s.freedDrain v sl).fbs).fwd.drains ++ [s.freedDrain v sl] :=
      (State.queueSwap_drains _ _ _).trans (hafter.drains.trans (hcard.drains.trans (State.drains_drainHeld _ _ _ _)))
    rw [hdrains, List.getLast?_append]
    rfl
  · exact (State.queueSwap_mgr _ _ _).trans (hafter.mgr.trans (hcard.mgr.trans ((State.mgr_drainHeld _ _ _ _).trans hclear.mgr)))
  · refine (State.queueSwap_epoch (s.unbindTables v sl) .fwd after).trans ?_
    rw [State.nextEpoch, hepochs, State.nextEpoch]

/-- The last step of an unbind of a physical port: the binding is removed, and the command waits for its drain. -/
theorem State.unbind3_physical (j : McrJob) (h : s.get F.VST_SLOT_KIND [v, sl] = 1) :
    s.unbind3 j v sl = (s.removeBinding v sl .none).park j (.drain (s.nextEpoch .fwd)) := by
  unfold State.unbind3
  rw [if_neg (by rw [h]; decide), ← (State.unbound_removeBinding h .none).epoch]

end

/-! ### ORDERLY (R118) -/

section
variable (s : State) (v sl w seq : Nat)

/-- The host is asked: UNBIND_PEND is 1 and it sees Attention Button Pressed. -/
def State.unbindAsked : State := ((s.setB F.VST_SLOT_UNBIND_PEND [v, sl] true).cfSet (.vdsp v sl) .attnButton 1).slotIrq v sl

/-- The wait of an ORDERLY unbind. -/
def State.unbindWait : UnbindWait := { vs := v, slot := sl, seq := seq, till := s.now + w * 1000000000 }

/-- The host is asked, and the wait runs. -/
def State.unbindWaits : State :=
  { s.unbindAsked v sl with vsx := { s.vsx with unbinds := s.vsx.unbinds ++ [s.unbindWait v sl w seq] } }

theorem State.unbindAsked_cfg : (s.unbindAsked v sl).cfg = s.cfg.put (.vdsp v sl, .attnButton) 1 := by
  unfold State.unbindAsked State.slotIrq State.when
  split <;> rfl

theorem State.unbindAsked_rd (r : Reg) : (s.unbindAsked v sl).rd r = (s.setB F.VST_SLOT_UNBIND_PEND [v, sl] true).rd r := by
  unfold State.unbindAsked State.slotIrq State.when
  split <;> rfl

theorem State.unbindAsked_rest : { s.unbindAsked v sl with regs := s.regs, cfg := s.cfg, sent := s.sent } = s := by
  unfold State.unbindAsked State.slotIrq State.when
  split <;> rfl

theorem State.unbindAsked_mgr : (s.unbindAsked v sl).mgr = s.mgr := (congrArg State.mgr (s.unbindAsked_rest v sl) :)

theorem State.unbindAsked_fwd : (s.unbindAsked v sl).fwd = s.fwd := (congrArg State.fwd (s.unbindAsked_rest v sl) :)

theorem State.unbindAsked_vsx : (s.unbindAsked v sl).vsx = s.vsx := (congrArg State.vsx (s.unbindAsked_rest v sl) :)

theorem State.unbindWaits_mgr : (s.unbindWaits v sl w seq).mgr = s.mgr := s.unbindAsked_mgr v sl

/-- Beside the question to the host and the wait, nothing changes. -/
theorem State.mcrOnly_unbindWaits : { s with vsx := (s.unbindWaits v sl w seq).vsx, cfg := (s.unbindWaits v sl w seq).cfg }.mcrOnly
    (s.unbindWaits v sl w seq) [⟨.VST_SLOT, [v, sl]⟩] [] := by
  refine ⟨fun r hr _ _ => ?_, ?_⟩
  · exact (s.unbindAsked_rd v sl r).trans (s.rd_set_ne F.VST_SLOT_UNBIND_PEND [v, sl] 1 (by simpa using hr))
  · unfold State.unbindWaits State.unbindAsked State.slotIrq State.when
    split <;> rfl

variable {s v sl w seq}

theorem State.unbindAsked_slotPower : (s.unbindAsked v sl).cf (.vdsp v sl) .slotPower = s.cf (.vdsp v sl) .slotPower := by
  rw [State.cf, s.unbindAsked_cfg]
  exact AMap.lookD_put_ne _ _ _ (by simp)

theorem State.slotThere_of {s : State} {v sl : Nat} (hstate : s.get F.VST_STAT_STATE [v] = 1) (halloc : s.get F.VST_SLOT_ALLOC [v, sl] = 1) :
    s.slotThere v sl = true := by
  rw [State.slotThere, hstate, State.on_eq, halloc]
  rfl

section
variable {j : McrJob} (hthere : s.slotThere v sl = true) (hpend : s.get F.VST_SLOT_UNBIND_PEND [v, sl] = 0)
include hthere hpend

theorem State.opUnbindOrderly_taken (hkind : s.get F.VST_SLOT_KIND [v, sl] ≠ 0) : s.opUnbindOrderly j v sl w =
    if s.cf (.vdsp v sl) .slotPower = 1 then (s.unbindAsked v sl).unbind3 j v sl else (s.unbindWaits v sl w j.seq).park j (.unbind v sl) := by
  have hon : s.on F.VST_SLOT_UNBIND_PEND [v, sl] = false := by
    rw [State.on_eq, hpend]
    rfl
  have hvsx := s.unbindAsked_vsx v sl
  rw [← State.unbindAsked_slotPower]
  unfold State.opUnbindOrderly
  rw [hthere, hon, if_neg hkind]
  refine ((if_neg (by decide)).trans (if_neg (by decide))).trans ?_
  unfold State.unbindWaits
  rw [← hvsx]
  rfl

end

end

/-! ### FORCED (R120) -/

section
variable {s : State} {v sl : Nat}

/-- The vDSP is contained and its requests are answered before a FORCED unbind removes its binding. -/
def State.forcedOff (s : State) (v sl : Nat) : State :=
  ((s.containLoss v sl 8).expireAll (fun _ e => e.vdsp == s.get F.VST_SLOT_VDSP [v, sl])).settled

theorem State.opUnbindForced_taken {j : McrJob} (hthere : s.slotThere v sl = true) (hkind : s.get F.VST_SLOT_KIND [v, sl] ≠ 0) (hparked : s.mgr.parked = []) :
    s.opUnbindForced j v sl = (s.forcedOff v sl).unbind3 j v sl := by
  have hnone : s.unbindParked v sl = none := by
    rw [State.unbindParked, hparked]
    rfl
  unfold State.opUnbindForced
  rw [hthere, hnone, if_neg hkind]
  rfl

/-- What follows the containment leaves it. -/
theorem State.calm_forcedOff : (s.containVdsp v sl 8).calm (s.forcedOff v sl) := by
  have hloss : (s.containVdsp v sl 8).calm (s.containLoss v sl 8) :=
    (((State.calm.refl _).cfSet _ _ rfl).setPostedLoss _ _).thenStill (State.still_portEvent _ _ _ _)
  exact (hloss.thenStill (State.still_expireAll _ _)).settled

end

end Sys2Proof.Machine
end

section
/-!
SUPPORT. The end of a command of any originator (R574), and unbinding (R118 to R121, R150).
-/

namespace Sys2Proof.Machine

/-! ### The end of any command -/

section
variable (s : State) (j : McrJob) (st : Nat) (result : List Byte)

/-- From `s` to `u` a command has ended without a change to journal: it is no longer parked, and nothing else changes but what every command may change. -/
structure State.closed (s u : State) (j : McrJob) : Prop where
  frame : s.mcrOnly u [] []
  parked : u.mgr.parked = s.mgr.parked.filter (fun e => e.1.id != j.id)
  queue : u.mgr.queue = s.mgr.queue
  journal : u.journal = s.journal

variable {st}

theorem State.closed_finish (ha : j.applies st = false) : s.closed (s.finish j st result) j := by
  by_cases h : s.answerable j
  · exact ⟨h.finish_mcrOnly, h.finish_parked, h.finish_queue, h.finish_journal ha⟩
  · have hquiet : ¬ (s.ended j st result).answerable (s.endRsp j st result).job := by
      rintro ⟨ho, hg, hf⟩
      refine h ⟨ho, fun h0 => ?_, hf⟩
      have hgen := hg h0
      rwa [State.ended_mgr] at hgen
    rw [State.finish_eq, State.respond_of_not_answerable _ _ hquiet]
    have hmgr : (s.ended j st result).mgrStat.mgr = (s.ended j st result).mgr := rfl
    refine ⟨State.mcrOnly_ended.andThen (State.mcrOnly_mgrStat _), ?_, ?_, ?_⟩
    · rw [hmgr, State.ended_mgr]
    · rw [hmgr, State.ended_mgr]
    · have hj := State.ended_journal (s := s) (j := j) (st := st) (result := result)
      rw [ha] at hj
      exact hj

end

/-- A command stays answered while its waiting response stays and more is sent. -/
theorem State.answered_of_grows {s t u : State} {cx : McrCx} {st : Nat} (h : s.answered t cx st = true) (hrsps : u.mgr.rsps = t.mgr.rsps)
    (hsent : t.sentGrows u) : s.answered u cx st = true := by
  obtain ⟨l, hl⟩ := hsent
  have hany {q : Out → Bool} (hq : (t.sent.drop s.sent.length).any q = true) : (u.sent.drop s.sent.length).any q = true := by
    rw [hl, List.drop_append, List.any_append, hq, Bool.true_or]
  unfold State.answered at h ⊢
  rw [hrsps]
  dsimp only at h ⊢
  split at h
  · rw [Bool.or_eq_true] at h ⊢
    exact h.imp_right hany
  · exact hany h
  · exact hany h

/-! ### A wait that ends (R119) -/

section
variable (s : State) (v sl : Nat)

/-- The unbind is taken back, and its event is raised. -/
def State.unbindBack : State := (s.unbindClear v sl).event .vst 1

theorem State.unbindTimeout_due {j : McrJob} (hparked : s.unbindParked v sl = some j) (hdue : ∃ w ∈ s.vsx.unbinds, w.vs = v ∧ w.slot = sl ∧ w.till ≤ s.now) :
    s.unbindTimeout v sl = (s.finish j stTimeout).unbindBack v sl := by
  obtain ⟨w, hw, hv, hs, ht⟩ := hdue
  have hany : s.vsx.unbinds.any (fun u => u.vs == v && u.slot == sl && decide (u.till ≤ s.now)) = true :=
    List.any_eq_true.mpr ⟨w, hw, by simp [hv, hs, ht]⟩
  unfold State.unbindTimeout
  rw [hparked]
  exact if_pos hany

theorem State.unbindBack_pend : (s.unbindBack v sl).get F.VST_SLOT_UNBIND_PEND [v, sl] = 0 :=
  (State.get_of_still (State.still_event _ _ _) (by decide) _).trans (State.get_setB _ _ _ _ (by decide) (by decide))

theorem State.unbindBack_kind : (s.unbindBack v sl).get F.VST_SLOT_KIND [v, sl] = s.get F.VST_SLOT_KIND [v, sl] :=
  (State.get_of_still (State.still_event _ _ _) (by decide) _).trans (State.get_set_disj _ F.VST_SLOT_UNBIND_PEND _ _ _ _ (.inr (by decide)))

theorem State.unbindBack_rest : { s.unbindBack v sl with regs := s.regs, sent := s.sent, msiWait := s.msiWait, vsx := s.vsx } = s :=
  (congrArg (fun t : State => { t with regs := s.regs, vsx := s.vsx }) ((s.unbindClear v sl).event_rest .vst 1) :)

theorem State.unbindBack_mgr : (s.unbindBack v sl).mgr = s.mgr := (congrArg State.mgr (s.unbindBack_rest v sl) :)

theorem State.unbindBack_journal : (s.unbindBack v sl).journal = s.journal := (congrArg State.journal (s.unbindBack_rest v sl) :)

theorem State.unbindBack_waits : (s.unbindBack v sl).vsx.unbinds = s.vsx.unbinds.filter (fun u => !(u.vs == v && u.slot == sl)) :=
  (congrArg (fun t : State => t.vsx.unbinds) ((s.unbindClear v sl).event_rest .vst 1) :)

end

/-! ### Commands that park -/

theorem State.mcrOnly.withCfg {s u : State} {l : List Reg} {xs : List Trip} (h : s.mcrOnly u l xs) (c : CfgMap) :
    { s with cfg := c }.mcrOnly { u with cfg := c } l xs := ⟨h.1, (congrArg (fun t : State => { t with cfg := c }) h.2 :)⟩

/-- From `t`, in which the command has done what it does first, it is parked in `u`. -/
structure State.parksAs (t u : State) (cx : McrCx) (k : ParkK) : Prop where
  parked : u.mgr.parked.map (fun e => (e.1.cx, e.2)) = [(cx, k)]
  frame : t.mcrOnly u [] []

/-- A command that nothing holds up parks: what holds then. -/
theorem State.mcrReady.runsPark {s t : State} {cx : McrCx} {o : McrOp} {env : McrEnv} {k : ParkK} {c : Instr} (h : s.mcrReady cx)
    (hmgr : t.mgr = (s.begun cx).mgr) (hexec : exec c s = s.live (·.direct cx o env)) (hpermit : s.permit cx o = stOk) (hrange : opInRange o = true)
    (hio : hostBuffer o = true → s.hostIo = true) (hrow : (s.begun cx).runHere (s.firstJob cx o env) o = t.park (s.firstJob cx o env) k)
    {P : State → Prop} (hP : ∀ u, t.parksAs u cx k → P u) : Runs c s P := by
  have hempty : t.mgr.queue = [] ∧ t.mgr.parked = [] := by
    rw [hmgr, s.begun_mgr cx]
    exact ⟨h.waiting, h.parked⟩
  refine h.runs hpermit hrange hio hexec ?_ ?_
  · rw [hrow, State.park_queue, hempty.1]
  · rw [hrow]
    have hparked := t.park_parked (s.firstJob cx o env) k hempty.2
    exact hP _ ⟨hparked, (t.mcrOnly_park _ k).andThen (State.mcrOnly_mgrStat _)⟩

theorem State.parksAs.get {t u : State} {cx : McrCx} {k : ParkK} (h : t.parksAs u cx k) {f : Fld} (hf : f.reg ∈ [RN.VST_SLOT, .VST_CONT]) (ix : List Nat) :
    u.get f ix = t.get f ix := by
  simp only [List.mem_cons, List.not_mem_nil, or_false] at hf
  rcases hf with hf | hf <;> exact h.frame.get (by simp) (by rw [hf]; decide) (by rw [hf]; decide)

/-- A command that has removed a physical binding parks for its drain: what a row says of it. -/
theorem State.unbound.parks {s t u : State} {v sl : Nat} {cx : McrCx} {k : ParkK} (h : s.unbound t v sl) (hu : t.parksAs u cx k) :
    u.get F.VST_SLOT_KIND [v, sl] = 0 ∧ u.get F.VST_SLOT_UNBIND_PEND [v, sl] = 0 ∧ u.get F.VST_SLOT_PRESENT [v, sl] = 0 ∧
      (∀ f : Fld, f.reg = .VST_CONT → u.get f [v, sl] = s.get f [v, sl]) ∧
      u.fwd.drains.getLast?.map (fun d => (d.port, d.vs, d.slot)) = some (some (s.get F.VST_SLOT_TARGET [v, sl] % 256), v, sl) := by
  obtain ⟨hkind, hpend, hpresent, hcont, hdrain, -, -⟩ := h
  refine ⟨(hu.get (by decide) _).trans hkind, (hu.get (by decide) _).trans hpend, (hu.get (by decide) _).trans hpresent,
    fun f hf => (hu.get (by rw [hf]; decide) _).trans (hcont f hf), ?_⟩
  rw [hu.frame.fwd]
  exact hdrain

/-! ### The obligation -/

/-- Settles O20: an unbind that waits parks with its wait, one that goes on removes the binding and parks for its drain, and a wait that ends takes it back. -/
theorem unbinding : Obligations.unbinding := by
  unfold Obligations.unbinding
  refine ⟨?_, ?_, ?_, ?_⟩
  · intro s cx vs slot wait h hvs hslot hw1 hw hstate halloc hkind hpend hpower
    have hbegun := s.mcrOnly_begun cx
    have hthere : (s.begun cx).slotThere vs.val slot.val = true :=
      State.slotThere_of ((s.begun_get cx (by decide) _).trans hstate) ((s.begun_get cx (by decide) _).trans halloc)
    have hwaits (j : McrJob) : (s.begun cx).opUnbindOrderly j vs.val slot.val wait.val =
        ((s.begun cx).unbindWaits vs.val slot.val wait.val j.seq).park j (.unbind vs.val slot.val) := by
      rw [State.opUnbindOrderly_taken hthere ((s.begun_get cx (by decide) _).trans hpend) (by rw [s.begun_get cx (by decide)]; exact hkind)]
      exact if_neg (by rw [State.cf, hbegun.cfg]; exact hpower)
    generalize hj : s.firstJob cx (.unbind vs.val slot.val 0 wait.val) {} = j at hwaits
    refine h.runsPark (t := (s.begun cx).unbindWaits vs.val slot.val wait.val j.seq) (o := .unbind _ _ _ _) (env := {}) (State.unbindWaits_mgr _ _ _ _ _) rfl
      (h.permit_plain (by simp) (by simp) rfl rfl) (by simp [opInRange, *]) (by simp [hostBuffer]) (by rw [hj]; exact hwaits j) (fun u hu => ?_)
    have hslotGet {f : Fld} (hf : f.reg = .VST_SLOT) :
        u.get f [vs.val, slot.val] = ((s.begun cx).setB F.VST_SLOT_UNBIND_PEND [vs.val, slot.val] true).get f [vs.val, slot.val] :=
      (hu.get (by rw [hf]; decide) _).trans (congrArg (fget · f.lo f.w) (State.unbindAsked_rd _ _ _ _))
    have hcfg : u.cfg = (s.begun cx).cfg.put (.vdsp vs.val slot.val, .attnButton) 1 := hu.frame.cfg.trans (State.unbindAsked_cfg _ _ _)
    refine ⟨?_, ?_, ?_, hu.parked, ?_, ?_⟩
    · exact (hslotGet rfl).trans (State.get_setB _ _ _ _ (by decide) (by decide))
    · rw [State.cf, hcfg]
      exact AMap.lookD_put_same ..
    · exact ((hslotGet rfl).trans (State.get_set_disj _ _ _ _ _ _ (.inr (by decide)))).trans (s.begun_get cx (by decide) _)
    · have hnow : (s.begun cx).now = s.now := s.begun_get cx (by decide) _
      rw [hu.frame.vsx, State.unbindWaits, List.getLast?_append, ← hnow]
      rfl
    · have hvsx : u.vsx = ((s.begun cx).unbindWaits vs.val slot.val wait.val j.seq).vsx := hu.frame.vsx
      have hkeep := (((hbegun.withVsx u.vsx).withCfg u.cfg).trans (by
        rw [hvsx, hu.frame.cfg]
        exact State.mcrOnly_unbindWaits (s.begun cx) vs.val slot.val wait.val j.seq)).andThen hu.frame
      have hrest : { s.vsx with unbinds := u.vsx.unbinds } = u.vsx := by
        rw [hvsx, State.unbindWaits, s.begun_vsx cx]
      rw [hrest]
      exact hkeep
  · intro s cx vs slot wait h hvs hslot hw1 hw hstate halloc hkind hpend hpower
    have hbegun := s.mcrOnly_begun cx
    have hthere : (s.begun cx).slotThere vs.val slot.val = true :=
      State.slotThere_of ((s.begun_get cx (by decide) _).trans hstate) ((s.begun_get cx (by decide) _).trans halloc)
    have hasked {f : Fld} (hf : f.reg = .VST_SLOT) (hd : (f.lo + f.w ≤ 16 ∨ 17 ≤ f.lo) ∧ f.lo + f.w ≤ 64) :
        ((s.begun cx).unbindAsked vs.val slot.val).get f [vs.val, slot.val] = s.get f [vs.val, slot.val] :=
      ((congrArg (fget · f.lo f.w) (State.unbindAsked_rd _ _ _ _)).trans (State.get_set_disj _ F.VST_SLOT_UNBIND_PEND f _ _ _ (.inr hd))).trans
        (s.begun_get cx (by rw [hf]; decide) _)
    have hkind' := (hasked (f := F.VST_SLOT_KIND) rfl (by decide)).trans hkind
    have hremoved := State.unbound_removeBinding hkind' .none
    have hgo (j : McrJob) : (s.begun cx).opUnbindOrderly j vs.val slot.val wait.val =
        (((s.begun cx).unbindAsked vs.val slot.val).removeBinding vs.val slot.val .none).park j
          (.drain (((s.begun cx).unbindAsked vs.val slot.val).nextEpoch .fwd)) := by
      rw [State.opUnbindOrderly_taken hthere ((s.begun_get cx (by decide) _).trans hpend) (by rw [s.begun_get cx (by decide), hkind]; decide),
        ← State.unbind3_physical j hkind']
      exact if_pos (by rw [State.cf, hbegun.cfg]; exact hpower)
    have hepochs : ((s.begun cx).unbindAsked vs.val slot.val).fwd.epochs = s.fwd.epochs := by rw [State.unbindAsked_fwd, hbegun.fwd]
    refine h.runsPark (o := .unbind vs.val slot.val 0 wait.val) (env := {}) (hremoved.mgr.trans (State.unbindAsked_mgr _ _ _)) rfl
      (h.permit_plain (by simp) (by simp) rfl rfl) (by simp [opInRange, *]) (by simp [hostBuffer]) (hgo _) (fun u hu => ?_)
    obtain ⟨hk, hp, hpres, -, hdrain⟩ := hremoved.parks hu
    rw [hasked rfl (by decide)] at hdrain
    have hparked := hu.parked
    rw [State.nextEpoch, hepochs] at hparked
    exact ⟨hk, hp, hpres, hdrain, hparked⟩
  · intro s cx vs slot h hvs hslot hstate halloc hkind
    have hbegun := s.mcrOnly_begun cx
    have hthere : (s.begun cx).slotThere vs.val slot.val = true :=
      State.slotThere_of ((s.begun_get cx (by decide) _).trans hstate) ((s.begun_get cx (by decide) _).trans halloc)
    have hcalm : (s.begun cx).calm ((s.begun cx).forcedOff vs.val slot.val) := ((State.calm.refl _).containVdsp _ _ _).trans State.calm_forcedOff
    have hsame {f : Fld} (hf : slotField f = true) (hreg : f.reg = .VST_SLOT) :
        ((s.begun cx).forcedOff vs.val slot.val).get f [vs.val, slot.val] = s.get f [vs.val, slot.val] :=
      (hcalm.slot f _ hf).trans (s.begun_get cx (by rw [hreg]; decide) _)
    have hkind' := (hsame (f := F.VST_SLOT_KIND) rfl rfl).trans hkind
    have hremoved := State.unbound_removeBinding hkind' .none
    have hempty : (s.begun cx).mgr.parked = [] := by
      rw [s.begun_mgr cx]
      exact h.parked
    have hgo (j : McrJob) : (s.begun cx).opUnbindForced j vs.val slot.val =
        (((s.begun cx).forcedOff vs.val slot.val).removeBinding vs.val slot.val .none).park j
          (.drain (((s.begun cx).forcedOff vs.val slot.val).nextEpoch .fwd)) := by
      rw [State.opUnbindForced_taken hthere (by rw [s.begun_get cx (by decide), hkind]; decide) hempty, State.unbind3_physical j hkind']
    have hepochs : ((s.begun cx).forcedOff vs.val slot.val).fwd.epochs = s.fwd.epochs := by rw [hcalm.base.epochs, hbegun.fwd]
    refine h.runsPark (o := .unbind vs.val slot.val 1 0) (env := {}) (hremoved.mgr.trans hcalm.base.mgr) rfl
      (h.permit_plain (by simp) (by simp) rfl rfl) (by simp [opInRange, *]) (by simp [hostBuffer]) (hgo _) (fun u hu => ?_)
    obtain ⟨hk, -, hpres, hcont, hdrain⟩ := hremoved.parks hu
    rw [hsame rfl rfl] at hdrain
    have hparked := hu.parked
    rw [State.nextEpoch, hepochs] at hparked
    refine ⟨hk, hpres, fun hfree => ?_, hdrain, hparked⟩
    have hfree' : (s.begun cx).contained vs.val slot.val = false := (State.contained_of_still (s.begun_still cx) _ _ :).trans hfree
    obtain ⟨hon, hcause⟩ := State.calm.containVdsp_cause (s.begun cx) 8 hfree' (by decide)
    obtain ⟨hon', hcause'⟩ := State.calm_forcedOff.cont vs.val slot.val hon
    rw [hcont _ rfl, hcont _ rfl]
    exact ⟨by simpa [State.contained, State.on_eq] using hon', hcause'.trans hcause⟩
  · intro s vs slot j hawake hrestart hqueue hparked hrun hdue
    have hfound : s.unbindParked vs.val slot.val = some j := by
      rw [State.unbindParked, hparked]
      simp
    have hclosed := s.closed_finish j (st := stTimeout) [] (by simp [McrJob.applies, stTimeout, stOk])
    have hmgr := (s.finish j stTimeout).unbindBack_mgr vs.val slot.val
    have hempty : ((s.finish j stTimeout).unbindBack vs.val slot.val).mgr.queue = [] := by rw [hmgr, hclosed.queue, hqueue]
    have hexec : exec (.unbindWaitTimeout vs slot) s = s.live (fun t => if t.restarting then t else (t.unbindTimeout vs.val slot.val).mcrKick) := rfl
    have hrow : exec (.unbindWaitTimeout vs slot) s = .next ((s.finish j stTimeout).unbindBack vs.val slot.val).mgrStat := by
      rw [hexec, s.live_next _ hawake, hrestart, s.unbindTimeout_due _ _ hfound hdue, State.mcrKick, hempty]
      exact congrArg _ (State.kick_empty _ _ hempty)
    have hget {f : Fld} (hf : f.reg ∉ trafficNames) (ix : List Nat) : ((s.finish j stTimeout).unbindBack vs.val slot.val).mgrStat.get f ix =
        ((s.finish j stTimeout).unbindBack vs.val slot.val).get f ix := State.get_of_still (State.still_mgrStat _) hf ix
    refine ⟨_, hrow, ?_, ?_, ?_, ?_, ?_, ?_, fun horig hgen => ?_⟩
    · exact (hget (by decide) _).trans (State.unbindBack_pend _ _ _)
    · show ((s.finish j stTimeout).unbindBack vs.val slot.val).mgr.parked = []
      rw [hmgr, hclosed.parked, hparked]
      simp
    · show ∀ w ∈ ((s.finish j stTimeout).unbindBack vs.val slot.val).vsx.unbinds, _
      rw [State.unbindBack_waits]
      intro w hw ⟨hv, hs⟩
      simp [hv, hs] at hw
    · exact (hget (by decide) _).trans ((State.unbindBack_kind _ _ _).trans (hclosed.frame.get (by simp) (by decide) (by decide)))
    · refine (State.raisedIn_event _ .vst 1 (by decide)).within (t := (s.finish j stTimeout).unbindClear vs.val slot.val) (fun r hr => ?_) ?_
      · have hslot : r ≠ ⟨.VST_SLOT, [vs.val, slot.val]⟩ := by
          simp only [List.mem_cons, List.not_mem_nil, or_false] at hr
          rcases hr with rfl | rfl <;> exact fun e => absurd (congrArg Reg.n e) (of_decide_eq_true rfl)
        exact (State.rd_set_ne _ F.VST_SLOT_UNBIND_PEND _ 0 hslot).trans (hclosed.frame.words (rs := [Trip.vst.stat, Trip.vst.mask]) (by decide) r hr)
      · exact (State.mcrOnly_mgrStat _).words (by decide)
    · exact (State.unbindBack_journal _ _ _).trans hclosed.journal
    · have hanswer : s.answerable j := ⟨by rw [horig]; decide, fun _ => hgen, fun hne => absurd horig hne⟩
      refine State.answered_of_grows (t := s.finish j stTimeout) (hanswer.finish_answered (by decide)) ?_ ?_
      · exact (congrArg MgrSt.rsps hmgr :)
      · exact ((State.sentGrows_of_eq (u := (s.finish j stTimeout).unbindClear vs.val slot.val) rfl).trans (State.sentGrows_event _ .vst 1)).trans
          (State.sentGrows_mgrStat _)

end Sys2Proof.Machine
end

section
/-!
SUPPORT. Links and containments without traffic (R260 to R266), and what a slot shows of its host's writes (R109, R116, R117).
-/

namespace Sys2Proof.Machine

/-! ### No traffic -/

/-- No tag is in use, nothing is queued before a port, and no packet was lost. -/
structure State.quiet (s : State) : Prop where
  tags : s.fwd.tags = []
  gates : ∀ k, s.fwd.gateq.lookD k [] = []
  shapers : ∀ k, s.fwd.shq.lookD k [] = []
  lost : s.fwd.lostQ = []

theorem State.quiet_of_empty {s : State} (ht : s.fwd.tags = []) (hg : s.fwd.gateq = []) (hs : s.fwd.shq = []) (hl : s.fwd.lostQ = []) : s.quiet :=
  ⟨ht, fun _ => by rw [hg]; rfl, fun _ => by rw [hs]; rfl, hl⟩

theorem AMap.lookD_put_nil {κ α : Type} [DecidableEq κ] {m : AMap κ (List α)} (h : ∀ k, m.lookD k [] = []) {l : List α} (hl : l = []) (k k' : κ) :
    (m.put k l).lookD k' [] = [] := by
  by_cases hk : k' = k
  · rw [hk, AMap.lookD_put_same, hl]
  · rw [AMap.lookD_put_ne _ _ _ hk, h]

/-- Without packets that were lost there is nothing to settle. -/
theorem State.settled_of_noLoss {s : State} (h : s.fwd.lostQ = []) : s.settled = s := by
  have hsettle (n : Nat) : State.settle n s = s := by
    cases n with
    | zero => rfl
    | succ n =>
      unfold State.settle
      rw [h]
  exact hsettle _

theorem State.when_fwd {s : State} {c : Bool} {f : State → State} (h : (f s).fwd = s.fwd) : (s.when c f).fwd = s.fwd := by
  cases c
  · rfl
  · exact h

theorem State.setDll_fwd (s : State) (v sl : Nat) (on : Bool) : (s.setDll v sl on).fwd = s.fwd := by
  unfold State.setDll State.slotIrq State.when
  split
  · rfl
  · split <;> rfl

namespace State.quiet

variable {s u : State} (h : s.quiet)
include h

theorem congr (hu : u.fwd = s.fwd) : u.quiet := ⟨hu ▸ h.tags, hu ▸ h.gates, hu ▸ h.shapers, hu ▸ h.lost⟩

theorem settled : s.settled = s := State.settled_of_noLoss h.lost

theorem tombLive (p : Nat) (q : Nat → Nat → Bool) : s.tombLive p q = s := State.tombLive_of_noTags h.tags p q

theorem dropQueued (p : Nat) (q : Pkt → Bool) : (s.dropQueued p q).quiet := by
  refine List.foldlRecOn (motive := State.quiet) _ _ h (fun t ht c _ => ?_)
  have hg : t.gq p c = [] := ht.gates _
  have hs : t.sq p c = [] := ht.shapers _
  have hempty : (t.fwdUp (fun f => { f with
      gateq := f.gateq.put (p, c) ((f.gateq.lookD (p, c) []).filter (fun x => !q x)),
      shq := f.shq.put (p, c) ((f.shq.lookD (p, c) []).filter (fun x => !q x)) })).quiet := by
    refine ⟨ht.tags, fun k => ?_, fun k => ?_, ht.lost⟩
    · exact AMap.lookD_put_nil ht.gates (by rw [ht.gates]; rfl) _ _
    · exact AMap.lookD_put_nil ht.shapers (by rw [ht.shapers]; rfl) _ _
  dsimp only
  rw [hg, hs]
  exact hempty

theorem endTombs (p : Nat) : (s.endTombs p).quiet :=
  ⟨(congrArg (List.filter _) h.tags).trans rfl, h.gates, h.shapers, h.lost⟩

theorem linkGone (p next : Nat) : (s.linkGone p next).quiet := by
  have hclear : (s.linkCleared p next).quiet := ⟨h.tags, h.gates, h.shapers, h.lost⟩
  have hup : ((s.linkCleared p next).updUpL0 p).fwd = (s.linkCleared p next).fwd := by
    unfold State.updUpL0
    split <;> rfl
  exact hclear.congr (Eq.trans (State.when_fwd (f := (·.portEvent p 0 1)) (State.only_event _ _ _).fwd) hup)

/-- A link that is cut without traffic is gone, to the state that it is cut to. -/
theorem cutLink {p next : Nat} (hn : next < 16) : (s.cutLink p next).linkIsGone p next := by
  have hcut : (((s.tombLive p (fun _ _ => true)).dropQueued p (fun _ => true)).endTombs p).quiet := by
    rw [h.tombLive]
    exact (h.dropQueued p _).endTombs p
  have hgone := State.linkIsGone_linkGone (((s.tombLive p (fun _ _ => true)).dropQueued p (fun _ => true)).endTombs p) p hn
  unfold State.cutLink
  dsimp only
  rw [(hcut.linkGone p next).settled]
  exact hgone.linkSame ((State.linkSame.refl _).refreshPort p)

theorem containVdsp (v sl cause : Nat) : (s.containVdsp v sl cause).quiet := by
  cases hc : s.contained v sl with
  | true =>
    rw [State.containVdsp, hc]
    exact h
  | false =>
    have hshown : (s.contShown v sl cause).fwd = s.fwd := by
      have hdpc (t : State) (c : Bool) : (t.dpcShown v sl cause c).fwd = t.fwd := by
        exact State.when_fwd (State.when_fwd rfl)
      unfold State.contShown State.causeShown
      split <;> exact (hdpc _ _).trans ((State.setDll_fwd _ _ _ _).trans rfl)
    have hcut : (s.contCut v sl cause).quiet :=
      List.foldlRecOn (motive := State.quiet) _ _ (h.congr hshown) (fun t ht p _ => by
        unfold State.trafficCut
        rw [ht.tombLive]
        exact ht.dropQueued p _)
    have hheld (p : Nat) : ((s.contCut v sl cause).portHeld p).quiet := ((hcut.endTombs p).linkGone p _).congr rfl
    rw [s.containVdsp_eq v sl cause hc]
    refine State.quiet.congr (s := if s.boundWhole v sl then (s.contCut v sl cause).portHeld (s.get F.VST_SLOT_TARGET [v, sl] % 256)
      else s.contCut v sl cause) ?_ (State.only_event _ _ _).fwd
    split
    · exact hheld _
    · exact hcut

end State.quiet

/-! ### What a slot shows -/

section
variable (s : State) (v sl : Nat)

theorem State.cf_setDll (on : Bool) : (s.setDll v sl on).cf (.vdsp v sl) .dllActive = bit on := by
  have hirq (t : State) : (t.slotIrq v sl).cf (.vdsp v sl) .dllActive = t.cf (.vdsp v sl) .dllActive := by rw [State.cf, t.slotIrq_cfg, State.cf]
  unfold State.setDll
  split
  · assumption
  · exact (hirq _).trans ((State.cf_cfSet_ne (s.cfSet (.vdsp v sl) .dllActive (bit on)) (f' := .dllActive) 1 (by simp)).trans (State.cf_cfSet_same ..))

theorem State.setDll_rd (on : Bool) {r : Reg} (hr : r ≠ ⟨.VST_SLOT, [v, sl]⟩) : (s.setDll v sl on).rd r = s.rd r := by
  have hset : (((s.cfSet (.vdsp v sl) .dllActive (bit on)).cfSet (.vdsp v sl) .dllChanged 1).setB F.VST_SLOT_LINK_ACTIVE [v, sl] on).rd r = s.rd r :=
    State.rd_set_ne _ _ _ _ hr
  unfold State.setDll State.slotIrq State.when
  split
  · rfl
  · split <;> exact hset

/-- A slot whose power is off or whose link is disabled shows its link inactive. -/
theorem State.cf_refreshDll_off (h : s.cf (.vdsp v sl) .slotPower = 1 ∨ s.cf (.vdsp v sl) .linkDisable = 1) :
    (s.refreshDll v sl).cf (.vdsp v sl) .dllActive = 0 := by
  have hoff (a b : Bool) : (a && b && s.cf (.vdsp v sl) .slotPower == 0 && s.cf (.vdsp v sl) .linkDisable == 0) = false := by
    rcases h with h | h <;> simp [h]
  unfold State.refreshDll
  rw [State.cf_setDll, hoff]
  rfl

theorem State.slotSync_rd {r : Reg} (h1 : r ≠ ⟨.VST_SLOT, [v, sl]⟩) (h2 : r ≠ ⟨.VST_CONT, [v, sl]⟩) : (s.slotSync v sl).rd r = s.rd r := by
  unfold State.slotSync
  dsimp only
  rw [State.setB, State.rd_set_ne _ _ _ _ h2, State.rd_set_ne _ _ _ _ h1, State.rd_set_ne _ _ _ _ h1, State.rd_set_ne _ _ _ _ h1, State.setB,
    State.rd_set_ne _ _ _ _ h1]

/-- A field of the slot that shows no write of the host. -/
theorem State.slotSync_get {f : Fld} (hf : f.reg = .VST_SLOT)
    (h : (f.lo + f.w ≤ 15 ∨ 16 ≤ f.lo) ∧ (f.lo + f.w ≤ 17 ∨ 21 ≤ f.lo) ∧ (f.lo + f.w ≤ 48 ∨ 56 ≤ f.lo) ∧ f.lo + f.w ≤ 64) :
    (s.slotSync v sl).get f [v, sl] = s.get f [v, sl] := by
  obtain ⟨hp, hi, hb, h64⟩ := h
  have hcont : (⟨f.reg, [v, sl]⟩ : Reg) ≠ ⟨.VST_CONT, [v, sl]⟩ := by
    rw [hf]
    simp
  unfold State.slotSync
  dsimp only
  rw [State.setB, State.get_set_disj _ _ _ _ _ _ (.inl hcont), State.get_set_disj _ _ _ _ _ _ (.inr ⟨hb, h64⟩),
    State.get_set_disj _ _ _ _ _ _ (.inr ⟨by dsimp only; omega, h64⟩), State.get_set_disj _ _ _ _ _ _ (.inr ⟨by dsimp only; omega, h64⟩), State.setB,
    State.get_set_disj _ _ _ _ _ _ (.inr ⟨hp, h64⟩)]

theorem State.slotSync_power : (s.slotSync v sl).get F.VST_SLOT_PWR_OFF [v, sl] = bit (s.cf (.vdsp v sl) .slotPower == 1) := by
  have hcont : (⟨F.VST_SLOT_PWR_OFF.reg, [v, sl]⟩ : Reg) ≠ ⟨F.VST_CONT_DPC_HOST.reg, [v, sl]⟩ := by simp
  unfold State.slotSync
  dsimp only
  rw [State.setB, State.get_set_disj _ _ _ _ _ _ (.inl hcont), State.get_set_disj _ _ _ _ _ _ (.inr (by decide)),
    State.get_set_disj _ _ _ _ _ _ (.inr (by decide)), State.get_set_disj _ _ _ _ _ _ (.inr (by decide)),
    State.get_setB _ _ _ _ (by decide) (by decide)]

theorem State.slotSync_bus : (s.slotSync v sl).get F.VST_SLOT_SEC_BUS [v, sl] = s.cf (.vdsp v sl) .busSec % 2 ^ 8 := by
  have hcont : (⟨F.VST_SLOT_SEC_BUS.reg, [v, sl]⟩ : Reg) ≠ ⟨F.VST_CONT_DPC_HOST.reg, [v, sl]⟩ := by simp
  unfold State.slotSync
  dsimp only
  rw [State.setB, State.get_set_disj _ _ _ _ _ _ (.inl hcont), State.get_set_same _ _ _ _ (by decide)]

end

/-! ### Slot power -/

section
variable {s : State} {v sl : Nat}

/-- The host's write of slot power as the slot shows it. -/
def State.powerShown (s : State) (v sl : Nat) (off : Bool) : State := (s.cfSet (.vdsp v sl) .slotPower (bit off)).slotSync v sl

theorem State.get_powerShown (off : Bool) {f : Fld} (hf : f.reg = .VST_SLOT)
    (h : (f.lo + f.w ≤ 15 ∨ 16 ≤ f.lo) ∧ (f.lo + f.w ≤ 17 ∨ 21 ≤ f.lo) ∧ (f.lo + f.w ≤ 48 ∨ 56 ≤ f.lo) ∧ f.lo + f.w ≤ 64) :
    (s.powerShown v sl off).get f [v, sl] = s.get f [v, sl] := State.slotSync_get _ v sl hf h

theorem State.powerShown_power (off : Bool) : (s.powerShown v sl off).get F.VST_SLOT_PWR_OFF [v, sl] = bit off := by
  rw [State.powerShown, State.slotSync_power, State.cf_cfSet_same]
  cases off <;> rfl

theorem State.powerShown_cf (off : Bool) : (s.powerShown v sl off).cf (.vdsp v sl) .slotPower = bit off := State.cf_cfSet_same ..

theorem State.powerShown_inL0 (off : Bool) (p : Nat) : (s.powerShown v sl off).inL0 p = s.inL0 p := by
  have hget (f : Fld) (hf : f.reg = .PP_STAT) : (s.powerShown v sl off).pget f p = s.pget f p :=
    congrArg (fget · f.lo f.w) (State.slotSync_rd _ v sl (by rw [hf]; simp) (by rw [hf]; simp))
  rw [State.inL0, hget _ rfl, State.inL0]

/-- Slot power off takes a bound port that is up down. -/
theorem State.powerCtl_off (hpower : s.cf (.vdsp v sl) .slotPower = 0) (hkind : s.get F.VST_SLOT_KIND [v, sl] = 1)
    (hup : s.inL0 (s.get F.VST_SLOT_TARGET [v, sl] % 256) = true) : s.powerCtl v sl true =
      ((((((s.powerShown v sl true).cutLink (s.get F.VST_SLOT_TARGET [v, sl] % 256) 0).updPerst (s.get F.VST_SLOT_TARGET [v, sl] % 256)).refreshDll
        v sl).unbindPower v sl).mcrKick) := by
  have hkind' := (s.get_powerShown (sl := sl) (v := v) true (f := F.VST_SLOT_KIND) rfl (by decide)).trans hkind
  have htarget := s.get_powerShown (sl := sl) (v := v) true (f := F.VST_SLOT_TARGET) rfl (by decide)
  have hup' := (s.powerShown_inL0 (v := v) (sl := sl) true (s.get F.VST_SLOT_TARGET [v, sl] % 256)).trans hup
  unfold State.powerShown at hkind' htarget hup' ⊢
  unfold State.powerCtl
  rw [if_neg (by rw [hpower]; decide)]
  dsimp only
  rw [hkind', htarget, hup']
  simp only [Bool.true_or, if_true, State.when]

/-- Slot power on of an empty slot shows in the slot alone. -/
theorem State.powerCtl_on_empty (hpower : s.cf (.vdsp v sl) .slotPower = 1) (hkind : s.get F.VST_SLOT_KIND [v, sl] = 0) :
    s.powerCtl v sl false = (s.powerShown v sl false).refreshDll v sl := by
  have hkind' := (s.get_powerShown (sl := sl) (v := v) false (f := F.VST_SLOT_KIND) rfl (by decide)).trans hkind
  unfold State.powerShown at hkind' ⊢
  unfold State.powerCtl
  rw [if_neg (by rw [hpower]; decide)]
  dsimp only
  rw [hkind']
  rfl

theorem State.powerCtl_same {off : Bool} (h : s.cf (.vdsp v sl) .slotPower = bit off) : s.powerCtl v sl off = s := if_pos h

/-! ### Link Disable -/

/-- Link Disable takes a bound port that is up down. -/
theorem State.linkDis_up (hdis : s.cf (.vdsp v sl) .linkDisable = 0) (hkind : s.get F.VST_SLOT_KIND [v, sl] = 1)
    (hup : s.inL0 (s.get F.VST_SLOT_TARGET [v, sl] % 256) = true) : s.linkDis v sl true =
      ((s.cfSet (.vdsp v sl) .linkDisable (bit true)).cutLink (s.get F.VST_SLOT_TARGET [v, sl] % 256) 0).refreshDll v sl := by
  have hkind' : (s.cfSet (.vdsp v sl) .linkDisable (bit true)).get F.VST_SLOT_KIND [v, sl] = 1 := hkind
  have htarget : (s.cfSet (.vdsp v sl) .linkDisable (bit true)).get F.VST_SLOT_TARGET [v, sl] = s.get F.VST_SLOT_TARGET [v, sl] := rfl
  have hup' : (s.cfSet (.vdsp v sl) .linkDisable (bit true)).inL0 (s.get F.VST_SLOT_TARGET [v, sl] % 256) = true := hup
  unfold State.linkDis
  rw [if_neg (by rw [hdis]; decide)]
  dsimp only
  rw [hkind', htarget, hup']
  simp only [Bool.true_or, Bool.and_self, if_true, State.when, Bool.not_true, Bool.false_eq_true, if_false]

/-- Link Disable 0 of an empty slot starts the release of its containment. -/
theorem State.linkDis_clear (hdis : s.cf (.vdsp v sl) .linkDisable = 1) (hkind : s.get F.VST_SLOT_KIND [v, sl] = 0) :
    s.linkDis v sl false = ((s.cfSet (.vdsp v sl) .linkDisable (bit false)).startRelease v sl).refreshDll v sl := by
  have hkind' : (s.cfSet (.vdsp v sl) .linkDisable (bit false)).get F.VST_SLOT_KIND [v, sl] = 0 := hkind
  unfold State.linkDis
  rw [if_neg (by rw [hdis]; decide)]
  dsimp only
  rw [hkind']
  rfl

/-- A host's release action on a contained vDSP. -/
theorem State.startRelease_contained (h : s.contained v sl = true) : s.startRelease v sl =
    s.fwdUp (fun f => { f with releasing := addNew f.releasing (s.get F.VST_SLOT_VDSP [v, sl]) }) := if_pos h

end

/-! ### Containment -/

section
variable (s : State) {v sl : Nat} (cause : Nat) (hfree : s.contained v sl = false)

theorem State.contCut_still : (s.contCut v sl cause).still = (s.contShown v sl cause).still :=
  State.still_foldl _ _ (fun t _ _ => (State.still_dropQueued _ _ _).trans (t.still_tombLive _ _))

include hfree

/-- What follows the host's view of a containment leaves the configuration space. -/
theorem State.containVdsp_cfg : (s.containVdsp v sl cause).cfg = (s.contShown v sl cause).cfg := by
  have hcut := State.cfg_of_still (s.contCut_still (v := v) (sl := sl) cause)
  have hheld (t : State) (p : Nat) : (t.portHeld p).cfg = t.cfg := (State.linkGone_cfg (t.endTombs p) p _).trans rfl
  rw [s.containVdsp_eq v sl cause hfree, State.event_cfg]
  split
  · exact (hheld _ _).trans hcut
  · exact hcut

/-- What follows the record of a containment leaves the slots as they are. -/
theorem State.sparing_afterRecorded : State.sparing linkNames (s.contRecorded v sl cause) (s.containVdsp v sl cause) := by
  have hdpc : State.sparing linkNames (s.contRecorded v sl cause)
      ((s.contRecorded v sl cause).dpcShown v sl cause (s.cf (.vdsp v sl) .dpcEnable != 0)) := by
    have hset := ((State.sparing.refl (L := linkNames) (s.contRecorded v sl cause)).cfSet (.vdsp v sl) .dpcTrigger 1).cfSet (.vdsp v sl) .dpcReason
      (dpcReasonOf cause)
    exact (State.sparing.refl _).when _ (hset.when _ (hset.emit _))
  have hshown : State.sparing linkNames (s.contRecorded v sl cause) (s.contShown v sl cause) := by
    unfold State.contShown State.causeShown
    split
    · exact hdpc.cfSet _ _ _
    · exact hdpc
  have hcut := hshown.thenStill (s.contCut_still cause)
  rw [s.containVdsp_eq v sl cause hfree]
  refine State.sparing.event ?_ _ _
  split
  · exact ((hcut.thenStill (State.still_endTombs _ _)).linkGone _ _).thenStill (State.still_pset _ _ _ (by decide))
  · exact hcut

theorem State.containVdsp_slot : (s.containVdsp v sl cause).get F.VST_SLOT_CONTAINED [v, sl] = 1 := by
  have hset : (s.contRecorded v sl cause).get F.VST_SLOT_CONTAINED [v, sl] = 1 := by
    have hkeep (t : State) : (t.setDll v sl false).get F.VST_SLOT_CONTAINED [v, sl] = t.get F.VST_SLOT_CONTAINED [v, sl] := by
      unfold State.setDll State.slotIrq State.when
      split
      · rfl
      · split <;> exact State.get_set_disj _ F.VST_SLOT_LINK_ACTIVE _ _ _ _ (.inr (by decide))
    exact (hkeep _).trans (State.get_setB _ _ _ _ (by decide) (by decide))
  exact ((s.sparing_afterRecorded cause hfree).get (by decide) (by decide) _).trans hset

/-- The event of a containment is raised. -/
theorem State.containVdsp_event : ((s.containVdsp v sl cause).rd Trip.vst.stat).getLsbD 2 = true := by
  rw [s.containVdsp_eq v sl cause hfree, State.event_rd_stat]
  simp

omit hfree in
/-- The host sees DPC triggered by software where it has enabled DPC. -/
theorem State.contShown_software (hdpc : s.cf (.vdsp v sl) .dpcEnable ≠ 0) : (s.contShown v sl 4).cf (.vdsp v sl) .dpcTrigger = 1 ∧
    (s.contShown v sl 4).cf (.vdsp v sl) .dllActive = 0 := by
  have hcfg : (s.contShown v sl 4).cfg = (((s.contRecorded v sl 4).cfSet (.vdsp v sl) .dpcTrigger 1).cfSet (.vdsp v sl) .dpcReason (dpcReasonOf 4)).cfg := by
    have hon : (s.cf (.vdsp v sl) .dpcEnable != 0) = true := by simpa using hdpc
    unfold State.contShown State.dpcShown State.causeShown
    rw [hon]
    simp only [causeAer, State.when, if_true]
    split <;> rfl
  have hcf (f : CfgF) : (s.contShown v sl 4).cf (.vdsp v sl) f =
      (((s.contRecorded v sl 4).cfSet (.vdsp v sl) .dpcTrigger 1).cfSet (.vdsp v sl) .dpcReason (dpcReasonOf 4)).cf (.vdsp v sl) f := by
    rw [State.cf, hcfg, State.cf]
  rw [hcf, hcf, State.cf_cfSet_ne _ _ (by simp), State.cf_cfSet_same, State.cf_cfSet_ne _ _ (by simp), State.cf_cfSet_ne _ _ (by simp)]
  exact ⟨rfl, State.cf_setDll _ v sl false⟩

end

end Sys2Proof.Machine
end

section
/-!
SUPPORT. A completion that goes out at once (R448), Recovery that a host asks for (R75, R109), routing fields that a host writes (R147), and the functions
of a group (R133, R134).
-/

namespace Sys2Proof.Machine

/-! ### A completion that goes out at once -/

section
variable (s : State)

theorem State.count_mesh (r : Reg) (n : Nat) (ov : Option (Trip × Nat)) : (s.count r n ov).mesh = s.mesh := (congrArg State.mesh (s.only_count r n ov).2 :)

theorem State.countSent_kept (p n : Nat) : (s.countSent p n).mesh = s.mesh ∧ (s.countSent p n).fwd = s.fwd := by
  have hbw (t : State) : (t.bwAdd p 2 n).mesh = t.mesh ∧ (t.bwAdd p 2 n).fwd = t.fwd := by
    unfold State.bwAdd
    dsimp only
    split <;> exact ⟨rfl, rfl⟩
  obtain ⟨hm, hf⟩ := hbw ((s.portCount p 2).portCount p 3 n)
  refine ⟨hm.trans ((State.count_mesh _ _ _ _).trans (s.count_mesh _ _ _)), hf.trans ?_⟩
  exact ((State.only_count _ _ _ _).fwd).trans (s.only_count _ _ _).fwd

/-- The packet of a completion that this device makes for a port. -/
def answerPkt (p : Nat) (t : Tlp) : Pkt :=
  { dest := 0, src := 0, srcId := p, egress := p, sc := 0, kind := tlpClass t, bytes := tlpBytes t, body := .tlp t }

/-- The only packet of class 0 of a port is taken, charged and counted. -/
def State.sentCounted (p : Nat) (k : Pkt) : State :=
  (((s.fwdUp (fun f => { f with shq := f.shq.put (p, 0) [], stallAt := f.stallAt.put p s.now })).shCharge (4 * p + 0) k.bytes).countSent p
    k.bytes).shWait (4 * p + 0) (!([] : List Pkt).isEmpty)

/-- A TLP goes out on a port, its credit taken. -/
def State.sentTlp (p : Nat) (k : Pkt) (t : Tlp) : State :=
  (s.fwdUp (fun f => { f with
    fc := f.fc.upd (p, k.fcType) (0, 0) (fun q => (q.1 - 1, q.2 - tlpDataCredits t)),
    sentRid := if k.kind = 1 then f.sentRid.put (p, t.tag) t.rid else f.sentRid })).emit (.tlp p t)

theorem State.still_sentCounted (p : Nat) (k : Pkt) : (s.sentCounted p k).still = s.still :=
  (State.still_shWait _ _ _).trans ((State.still_countSent _ _ _).trans ((State.still_shCharge _ _ _).trans rfl))

/-- Where the shaper does not meter, only the queue and the counters change. -/
theorem State.sentCounted_kept (p : Nat) (k : Pkt) (h : s.shEn (4 * p + 0) = false) : (s.sentCounted p k).mesh = s.mesh ∧
    (s.sentCounted p k).fwd.gateq = s.fwd.gateq := by
  have hfree : (s.fwdUp (fun f => { f with shq := f.shq.put (p, 0) [], stallAt := f.stallAt.put p s.now })).shCharge (4 * p + 0) k.bytes =
      s.fwdUp (fun f => { f with shq := f.shq.put (p, 0) [], stallAt := f.stallAt.put p s.now }) := if_neg (by rw [Bool.not_eq_true]; exact h)
  obtain ⟨hmesh, hfwd⟩ := State.countSent_kept (s.fwdUp (fun f => { f with shq := f.shq.put (p, 0) [], stallAt := f.stallAt.put p s.now })) p k.bytes
  unfold State.sentCounted
  rw [hfree]
  exact ⟨hmesh, (congrArg FwdSt.gateq hfwd :)⟩

variable {s} in
/-- The only packet of class 0 of a port that is no trunk goes out. -/
theorem State.transmit_single {p : Nat} {k : Pkt} {t : Tlp} (hq : s.sq p 0 = [k]) (ht : k.tlp? = some t) (htrunk : (s.sentCounted p k).isTrunk p = false) :
    s.transmit p 0 = ((s.sentCounted p k).sentTlp p k t).gateRun p 0 := by
  unfold State.transmit
  rw [hq]
  show (if (s.sentCounted p k).isTrunk p then _ else match k.tlp? with
    | some t => (s.sentCounted p k).sentTlp p k t
    | none => s.sentCounted p k).gateRun p 0 = _
  rw [htrunk, ht]
  rfl

section
variable {u : State} (h : u.still = s.still)
include h

theorem State.portWidth_of_still (p : Nat) : u.portWidth p = s.portWidth p := by
  have hcut : u.get F.PT_CUT_CUT = s.get F.PT_CUT_CUT := funext (State.get_of_still h (by decide))
  rw [State.portWidth, State.cutOf, State.isX16, hcut]
  rfl

theorem State.role_of_still (p : Nat) : u.role p = s.role p := by
  simp only [State.role, State.pget_of_still h (f := F.PP_CTL_ROLE) (by decide)]

theorem State.isTrunk_of_still (p : Nat) : u.isTrunk p = s.isTrunk p := by
  simp only [State.isTrunk, State.kfpPorts, State.role_of_still s h, State.portWidth_of_still s h, State.pon_of_still h (f := F.PP_CTL_ENABLE) (by decide)]

end

variable {s} {p n : Nat} {t : Tlp}

/-- A completion that a port can send at once is the last thing sent, and the mesh does not change. -/
theorem State.canAnswer.sent (h : s.canAnswer p n) (hkind : t.kind = .cpl) (hn : tlpDataCredits t ≤ n) :
    ((s.answerTlp p 0 t).schedule p).sent.getLast? = some (.tlp p t) ∧ ((s.answerTlp p 0 t).schedule p).mesh = s.mesh := by
  obtain ⟨hsq, hgq, hsh, htrunk, hup, hhead, hdata⟩ := h
  have hst : (s.answerTlp p 0 t).still = s.still := s.still_answerTlp p 0 t
  have hclass : tlpClass t = 2 := by rw [tlpClass, hkind]
  have hqueue : (s.answerTlp p 0 t).sq p 0 = [answerPkt p t] := by
    refine (AMap.lookD_put_same ..).trans ?_
    rw [show s.fwd.shq.lookD (p, 0) [] = [] from hsq]
    rfl
  have htrunk' : (s.answerTlp p 0 t).isTrunk p = false := (State.isTrunk_of_still s hst p).trans htrunk
  have hen : (s.answerTlp p 0 t).shEn (4 * p + 0) = false := (State.on_of_still hst (f := F.SH_CFG_EN) (by decide) _).trans hsh
  have hfc : (s.answerTlp p 0 t).fcOk p (answerPkt p t) = true := by
    have htype : (answerPkt p t).fcType = 2 := (congrArg (min · 2) hclass).trans rfl
    have hcredit : (s.answerTlp p 0 t).fwd.fc = s.fwd.fc := rfl
    rw [State.fcOk, htrunk', if_neg (by decide), htype, hcredit]
    simpa [Pkt.tlp?, answerPkt] using ⟨hhead, hn.trans hdata⟩
  have hpick : (s.answerTlp p 0 t).pickClass p = (s.answerTlp p 0 t, some 0) := by
    have hready : (s.answerTlp p 0 t).eligible p 0 = true := by
      have hup' : (s.answerTlp p 0 t).inL0 p = true := (State.inL0_of_still hst p).trans hup
      rw [State.eligible, hqueue]
      simp only [State.shGrants, hen, hfc, hup', Bool.not_false, Bool.true_or, Bool.and_self]
    rw [State.pickClass, if_pos hready]
  obtain ⟨hmesh, hgate⟩ := (s.answerTlp p 0 t).sentCounted_kept p (answerPkt p t) hen
  have htrunk2 : ((s.answerTlp p 0 t).sentCounted p (answerPkt p t)).isTrunk p = false :=
    (State.isTrunk_of_still s (((s.answerTlp p 0 t).still_sentCounted p _).trans hst) p).trans htrunk
  have hrun : (((s.answerTlp p 0 t).sentCounted p (answerPkt p t)).sentTlp p (answerPkt p t) t).gateRun p 0 =
      ((s.answerTlp p 0 t).sentCounted p (answerPkt p t)).sentTlp p (answerPkt p t) t := by
    have hnone : (((s.answerTlp p 0 t).sentCounted p (answerPkt p t)).sentTlp p (answerPkt p t) t).gq p 0 = [] :=
      (congrArg (fun m : AMap (Nat × Nat) (List Pkt) => m.lookD (p, 0) []) hgate).trans hgq
    rw [State.gateRun, hnone]
    rfl
  rw [State.schedule, hpick]
  dsimp only
  rw [State.transmit_single hqueue rfl htrunk2, hrun]
  exact ⟨List.getLast?_concat, hmesh⟩

end

end Sys2Proof.Machine
end

section
/-!
SUPPORT. A host's writes to its slots (R109, R116, R261, R263) and to the functions of a group (R133, R134, R147), step by step.
-/

namespace Sys2Proof.Machine

theorem State.runs_live {s : State} {c : Instr} {f : State → State} {P : State → Prop} (hexec : exec c s = s.live f) (hawake : s.sealed = false)
    (hP : P (f s)) : Runs c s P := ⟨_, hexec.trans (s.live_next _ hawake), hP⟩

/-- A host's write to an allocated slot of an active virtual switch. -/
theorem State.runs_slot {s : State} {c : Instr} {v sl : Nat} {f : State → State} {P : State → Prop}
    (hexec : exec c s = s.live (fun s => if s.slotThere v sl then f s else s)) (hawake : s.sealed = false) (hthere : s.slotThere v sl = true)
    (hP : P (f s)) : Runs c s P := State.runs_live hexec hawake (by rwa [if_pos hthere])

/-! ### Links that a host takes down -/

section
variable {s u : State} {v sl p next : Nat}

theorem State.pget_of_regs (h : u.regs = s.regs) (f : Fld) (p : Nat) : u.pget f p = s.pget f p := by
  rw [State.pget, State.get_eq, State.rd, h, State.pget, State.get_eq, State.rd]

theorem State.linkIsGone.congr (h : s.linkIsGone p next) (hr : u.regs = s.regs) : u.linkIsGone p next := by
  simpa only [State.linkIsGone, State.pget_of_regs hr] using h

theorem State.linkSame.mgrStat {t : State} (h : s.linkSame t) : s.linkSame t.mgrStat := (h.set _ _ _ (by decide)).set _ _ _ (by decide)

theorem State.mcrKick_empty (h : s.mgr.queue = []) : s.mcrKick = s.mgrStat := by
  rw [State.mcrKick, h]
  exact s.kick_empty State.runOp h

theorem State.unbindPower_none (h : s.mgr.parked = []) : s.unbindPower v sl = s := by
  rw [State.unbindPower, State.unbindParked, h]
  rfl

theorem State.slotSync_fwd (s : State) (v sl : Nat) : (s.slotSync v sl).fwd = s.fwd := by simp only [State.slotSync, State.setB_fwd, State.set_fwd]

theorem State.powerShown_fwd (s : State) (v sl : Nat) (off : Bool) : (s.powerShown v sl off).fwd = s.fwd :=
  (State.slotSync_fwd (s.cfSet (.vdsp v sl) .slotPower (bit off)) v sl).trans rfl

theorem State.powerShown_journal (s : State) (v sl : Nat) (off : Bool) : (s.powerShown v sl off).journal = s.journal := by
  simp only [State.powerShown, State.slotSync, State.setB_journal, State.set_journal, State.cfSet]

theorem State.powerShown_rd (s : State) (off : Bool) {r : Reg} (h1 : r ≠ ⟨.VST_SLOT, [v, sl]⟩) (h2 : r ≠ ⟨.VST_CONT, [v, sl]⟩) :
    (s.powerShown v sl off).rd r = s.rd r := State.slotSync_rd (s.cfSet (.vdsp v sl) .slotPower (bit off)) v sl h1 h2

/-- A bound link taken down by slot power. -/
def State.powerTaken (s : State) (v sl p : Nat) : State := ((s.powerShown v sl true).cutLink p 0).updPerst p

/-- A slot with its power off, its bound link cut. -/
def State.powerCut (s : State) (v sl p : Nat) : State := (s.powerTaken v sl p).refreshDll v sl

theorem State.calm_powerTaken : (s.powerShown v sl true).calm (s.powerTaken v sl p) :=
  ((State.calm.refl _).cutLink p 0).link ((State.sparing.refl _).updPerst p) (State.updPerst_cfg _ p)

theorem State.calm_powerCut : (s.powerShown v sl true).calm (s.powerCut v sl p) := State.calm_powerTaken.refreshDll v sl

theorem State.powerCut_link (h : s.quiet) : (s.powerCut v sl p).mgrStat.linkIsGone p 0 := by
  have hcut : ((s.powerShown v sl true).cutLink p 0).linkIsGone p 0 := (h.congr (s.powerShown_fwd v sl true)).cutLink (by decide)
  have hregs : (s.powerTaken v sl p).regs = ((s.powerShown v sl true).cutLink p 0).regs :=
    (congrArg State.regs (State.updPerst_rest ((s.powerShown v sl true).cutLink p 0) p) :)
  have htaken : (s.powerTaken v sl p).linkIsGone p 0 := hcut.congr hregs
  exact htaken.linkSame ((State.linkSame.refl _).refreshDll v sl).mgrStat

theorem State.powerCut_dll : (s.powerCut v sl p).cf (.vdsp v sl) .dllActive = 0 :=
  State.cf_refreshDll_off _ v sl (.inl ((State.calm_powerTaken.host _ _ rfl).trans (State.powerShown_cf true)))

/-- Slot power off while no command waits or is parked. -/
theorem State.powerCtl_off_unheld (hpower : s.cf (.vdsp v sl) .slotPower = 0) (hkind : s.get F.VST_SLOT_KIND [v, sl] = 1)
    (hup : s.inL0 (s.get F.VST_SLOT_TARGET [v, sl] % 256) = true) (hparked : s.mgr.parked = []) (hqueue : s.mgr.queue = []) :
    s.powerCtl v sl true = (s.powerCut v sl (s.get F.VST_SLOT_TARGET [v, sl] % 256)).mgrStat := by
  have hmgr : (s.powerCut v sl (s.get F.VST_SLOT_TARGET [v, sl] % 256)).mgr = s.mgr := State.calm_powerCut.base.mgr
  rw [State.powerCtl_off hpower hkind hup]
  show ((s.powerCut v sl _).unbindPower v sl).mcrKick = _
  rw [State.unbindPower_none (by rw [hmgr]; exact hparked), State.mcrKick_empty (by rw [hmgr]; exact hqueue)]

end

/-- A bound link cut by Link Disable. -/
def State.disableCut (s : State) (v sl p : Nat) : State := ((s.cfSet (.vdsp v sl) .linkDisable (bit true)).cutLink p 0).refreshDll v sl

section
variable {s : State} {v sl p : Nat}

theorem State.disableCut_calm : (s.cfSet (.vdsp v sl) .linkDisable (bit true)).calm (s.disableCut v sl p) :=
  ((State.calm.refl _).cutLink p 0).refreshDll v sl

theorem State.disableCut_link (h : s.quiet) : (s.disableCut v sl p).linkIsGone p 0 :=
  ((h.congr (u := s.cfSet (.vdsp v sl) .linkDisable (bit true)) rfl).cutLink (by decide)).linkSame ((State.linkSame.refl _).refreshDll v sl)

theorem State.disableCut_dll : (s.disableCut v sl p).cf (.vdsp v sl) .dllActive = 0 := by
  have hcalm : (s.cfSet (.vdsp v sl) .linkDisable (bit true)).calm ((s.cfSet (.vdsp v sl) .linkDisable (bit true)).cutLink p 0) :=
    (State.calm.refl _).cutLink p 0
  exact State.cf_refreshDll_off _ v sl (.inr ((hcalm.host _ _ rfl).trans (State.cf_cfSet_same ..)))

end

/-! ### Retrain Link -/

section
variable (s : State) (p : Nat)

/-- Of the counters a Recovery's judgement changes none. -/
theorem State.recoveryLeak_count (ix : List Nat) : (s.recoveryLeak p).rd ⟨.PT_CNT, ix⟩ = s.rd ⟨.PT_CNT, ix⟩ := by
  have hleak := (s.only_leakyEvent (p / 4) (p % 4)).rd (r := ⟨.PT_CNT, ix⟩) (by simp) (of_decide_eq_true rfl)
  have hcap (t : State) : (t.capRate p).rd ⟨.PT_CNT, ix⟩ = t.rd ⟨.PT_CNT, ix⟩ := by
    have hdegrade : (t.degrade p).rd ⟨.PT_CNT, ix⟩ = t.rd ⟨.PT_CNT, ix⟩ := State.only.rd (t.linkOnly_degrade p) (by simp) (of_decide_eq_true rfl)
    rw [t.capRate_eq]
    split
    · exact hdegrade
    · exact hdegrade
  unfold State.recoveryLeak
  split
  · rfl
  · split <;> rename_i heq <;> rw [heq] at hleak
    · exact (hcap _).trans hleak
    · exact hleak

theorem State.up_of_inL0 {s : State} {p : Nat} (h : s.inL0 p = true) : s.pget F.PP_STAT_LINK_STATE p ∈ [3, 4, 6] := by
  simp only [State.inL0, Bool.or_eq_true, beq_iff_eq] at h
  simp only [List.mem_cons]
  omega

theorem State.retrainLink_bound {s : State} {v sl : Nat} (hkind : s.get F.VST_SLOT_KIND [v, sl] = 1)
    (hup : s.inL0 (s.get F.VST_SLOT_TARGET [v, sl] % 256) = true) :
    s.retrainLink v sl = s.retrainFresh (s.get F.VST_SLOT_TARGET [v, sl] % 256) := by
  unfold State.retrainLink
  rw [hkind]
  exact (congrArg (s.when · _) hup).trans rfl

/-- A retraining that a host asks for is counted as a Recovery. -/
theorem State.retrainFresh_counts {s : State} {p : Nat} (h : s.pget F.PP_STAT_LINK_STATE p ∈ [3, 4, 6]) :
    s.counts (s.retrainFresh p) (portCnt p 20) := by
  have hcount (t : State) : t.counts (t.portCount p 20) (portCnt p 20) := t.counts_count _ 1 _ (by simp [Reg.apart, Trip.stat, Trip.int])
  have hdown : ((((s.freshTrain p).endMargin p).pset F.PP_STAT_LINK_STATE p 5).pset F.PP_STAT_WIDTH p 0).rd (portCnt p 20) = s.rd (portCnt p 20) :=
    (State.rd_set_ne _ F.PP_STAT_WIDTH _ 0 (by simp)).trans (State.rd_set_ne ((s.freshTrain p).endMargin p) F.PP_STAT_LINK_STATE _ 5 (by simp))
  have henter : s.counts ((s.freshTrain p).enterRecovery p) (portCnt p 20) := State.counts_congr hdown (hcount _)
  have hword (c : Bool) : (((s.freshTrain p).enterRecovery p).when c (·.recoveryLeak p)).rd (portCnt p 20) =
      ((s.freshTrain p).enterRecovery p).rd (portCnt p 20) := by
    cases c
    · rfl
    · exact State.recoveryLeak_count _ p _
  have hup : (s.freshTrain p).pget F.PP_STAT_LINK_STATE p ∈ [3, 4, 6] := h
  rw [State.retrainFresh, State.retrain_eq, if_pos hup, State.counts, hword]
  exact henter

theorem State.retrainFresh_kept : (s.retrainFresh p).cfg = s.cfg ∧ (s.retrainFresh p).fwd = s.fwd := by
  obtain ⟨-, hrest⟩ := (State.only_retrainFresh s p)
  exact ⟨(congrArg State.cfg hrest :), (congrArg State.fwd hrest :)⟩

end

/-! ### Routing fields -/

/-- A written secondary bus number as the slot shows it. -/
def State.secBusShown (s : State) (v sl x : Nat) : State := (s.cfSet (.vdsp v sl) .busSec (x % 2 ^ 8)).slotSync v sl

theorem State.secBusShown_journal (s : State) (v sl x : Nat) : (s.secBusShown v sl x).journal = s.journal := by
  simp only [State.secBusShown, State.slotSync, State.setB_journal, State.set_journal, State.cfSet]

theorem State.secBusShown_fwd (s : State) (v sl x : Nat) : (s.secBusShown v sl x).fwd = s.fwd :=
  (State.slotSync_fwd (s.cfSet (.vdsp v sl) .busSec (x % 2 ^ 8)) v sl).trans rfl

theorem State.secBusShown_cf (s : State) (v sl x : Nat) : (s.secBusShown v sl x).cf (.vdsp v sl) .busSec = x % 256 := State.cf_cfSet_same ..

theorem State.secBusShown_get (s : State) (v sl x : Nat) : (s.secBusShown v sl x).get F.VST_SLOT_SEC_BUS [v, sl] = x % 256 := by
  rw [State.secBusShown, State.slotSync_bus, State.cf_cfSet_same, Nat.mod_mod]
  rfl

theorem State.snap_cf (s : State) (fn : FnId) (f : CfgF) : s.snap.cf fn f = s.cf fn f := rfl

/-- A write of a slot's secondary bus number is taken, and the new tables wait for a swap that completes the write. -/
theorem State.cfgWrite_secBus (s : State) (p v sl : Nat) {t : Tlp} (hfld : t.fld = .busSec) : s.cfgWrite p (.vdsp v sl) t =
    (s.secBusShown v sl (leNat t.data)).queueSwap .fwd (.cpl p t) := by
  have hswap : routing t.fld = true ∧ cfgTy (.vdsp v sl) t.fld ≠ .ro := by
    rw [hfld]
    exact ⟨rfl, by simp [cfgTy, isAer, isBridge]⟩
  have hput : s.cfgPut (.vdsp v sl) t.fld (leNat t.data) = s.secBusShown v sl (leNat t.data) := by
    rw [hfld]
    rfl
  rw [State.cfgWrite, if_pos hswap, hput]

theorem exec_hostRoutingWrite_secBus {s : State} (port : Fin 144) {v : Nat} (sl : Nat) {t : Tlp} (hawake : s.sealed = false)
    (hvs : s.vsOfPort port.val = some v) (hfld : t.fld = .busSec) : exec (.hostRoutingWrite port (.vdsp v sl) t) s =
      .next ((s.secBusShown v sl (leNat t.data)).queueSwap .fwd (.cpl port.val { t with kind := .cfgwr })) := by
  have hok : routing t.fld ∧ cfgTy (.vdsp v sl) t.fld = .rw ∧
      (fnOfVs (s.instOfVs v) v (.vdsp v sl) = true ∨ (FnId.vdsp v sl = .mgmt ∧ s.on F.VST_STAT_MGMT [v])) := by
    rw [hfld]
    exact ⟨rfl, by simp [cfgTy, isAer, isBridge], .inl (by simp [fnOfVs])⟩
  show execHostRoutingWrite port (.vdsp v sl) t s = _
  unfold execHostRoutingWrite
  rw [s.live_next _ hawake, hvs]
  dsimp only
  rw [if_pos hok]
  exact congrArg _ (s.cfgWrite_secBus port.val v sl (t := { t with kind := .cfgwr }) hfld)

/-- The swap that was queued last. -/
theorem State.queueSwap_last (s : State) (b : BankSet) (after : After) : (s.queueSwap b after).fwd.swaps.length = s.fwd.swaps.length + 1 ∧
    (s.queueSwap b after).fwd.swaps.getLast?.map (fun w => (w.set, w.after)) = some (b, after) := by
  have h := s.queueSwap_swaps b after
  constructor
  · simpa using congrArg List.length h
  · have hlast := congrArg (fun l => l.getLast?.map (fun x : BankSet × Nat × After => (x.1, x.2.2))) h
    simpa [List.getLast?_map, Option.map_map, Function.comp_def, Swap.brief] using hlast

/-! ### The functions of a group -/

section
variable (s : State) (v sl f : Nat)

/-- The registers show the shadows, and nothing else changes. -/
theorem State.memSync_kept : (s.memSync v sl f).cfg = s.cfg ∧ (s.memSync v sl f).fwd = s.fwd ∧ (s.memSync v sl f).sent = s.sent ∧
    (s.memSync v sl f).mesh = s.mesh ∧ (s.memSync v sl f).journal = s.journal := by
  unfold State.memSync
  split
  · exact ⟨rfl, rfl, rfl, rfl, rfl⟩
  · exact ⟨rfl, rfl, rfl, rfl, rfl⟩

theorem State.cf_cfReset {q : FnId → Bool} {fn : FnId} (h : q fn = true) (g : CfgF) : (s.cfReset q false).cf fn g = cfRst g := by
  have hnone : AMap.look (s.cfg.filter (fun e => !(q e.1.1) || (false && cfSticky e.1.2))) (fn, g) = none := by
    simp only [AMap.look, Option.map_eq_none_iff, List.find?_eq_none, List.mem_filter, decide_eq_true_eq]
    rintro e ⟨-, hkeep⟩ he
    simp [he, h] at hkeep
  exact congrArg (·.getD (cfRst g)) hnone

/-- An FLR is sent to a member's real function, its shadows are reset and its time is kept. -/
def State.flrSent (m : Nat × Nat × Nat) : State :=
  ((s.cfReset (fun g => g == .mem v sl m.1) false).emit (.flr m.2.1 m.2.2)).fwdUp (fun f => { f with flrAt := f.flrAt.put (v, sl, m.1) s.now })

/-- The 100 ms after the FLR of a release are over for a member. -/
def State.retryEnded (m : Nat × Nat × Nat) : State :=
  s.fwdUp (fun x => { x with flrAt := x.flrAt.del m, flrRrs := x.flrRrs.filter (· != m) })

/-- A host's FLR of a member goes to its real function, where no entry waits and no packet was lost. -/
theorem State.memberFlr_quiet {m : Nat × Nat × Nat} (htrk : s.fwd.trk = []) (hlost : s.fwd.lostQ = [])
    (hm : (s.membersOf (s.get F.VST_SLOT_VDSP [v, sl])).find? (fun m => m.1 == f) = some m) : s.memberFlr v sl f = s.flrMember v sl m := by
  have hexpire (q : Nat → TrkE → Bool) : s.expireAll q = s := by
    rw [State.expireAll, htrk]
    rfl
  unfold State.memberFlr
  dsimp only
  rw [hm]
  dsimp only
  rw [hexpire, State.settled_of_noLoss hlost]

end

section
variable {s : State} {p v sl f k pick : Nat} {t : Tlp} (hentry : s.snap.fbOf (s.get F.VST_SLOT_VDSP [v, sl]) f = some k)
include hentry

/-- A member in the 100 ms after the FLR of a release. -/
theorem State.memberCfg_retry (h : (v, sl, f) ∈ s.fwd.flrRrs) : s.memberCfg p v sl f t pick = (s.answerTlp p 0 (cplFor t 2 t.tid)).schedule p := by
  have hwait : s.fwd.flrRrs.contains (v, sl, f) = true := by simpa using h
  unfold State.memberCfg
  rw [hentry]
  dsimp only
  rw [if_pos hwait]

/-- A shadowed field of a member is answered from the shadow, and a write sets it. -/
theorem State.memberCfg_shadow (h : (v, sl, f) ∉ s.fwd.flrRrs) (hty : ∀ n up rate width, memTy t.fld n up rate width = .shadow) :
    s.memberCfg p v sl f t pick =
      if t.kind = .cfgwr then ((s.cfSet (.mem v sl f) t.fld (s.memFit v sl f t.fld (leNat t.data))).memSync v sl f).memAnswer p t 0
      else s.memAnswer p t (s.cf (.mem v sl f) t.fld) := by
  have hgo : s.fwd.flrRrs.contains (v, sl, f) = false := by simpa using h
  unfold State.memberCfg
  rw [hentry]
  dsimp only
  rw [hgo, if_neg (by decide), hty]

end

theorem tlpDataCredits_cplFor (t : Tlp) (status cid : Nat) : tlpDataCredits (cplFor t status cid) = 0 := by
  show (([] : List Byte).length + 15) / 16 = 0
  rfl

theorem tlpDataCredits_word (t : Tlp) (cid x : Nat) : tlpDataCredits (cplData t cid (leBytes 4 x)) = 1 := by
  show ((leBytes 4 x).length + 15) / 16 = 1
  rw [leBytes_length]

/-- A host's request to a member of a group that is not contained. -/
theorem exec_memberConfigRequest {s : State} {port : Fin 144} {vs : Fin 48} {slot : Fin 32} (f : Fin 8) {t : Tlp} (pick : Fin 16384)
    (hawake : s.sealed = false) (hvs : s.vsOfPort port.val = some vs.val) (hkind : s.get F.VST_SLOT_KIND [vs.val, slot.val] = 2)
    (hfree : s.contained vs.val slot.val = false) (ht : t.kind = .cfgrd ∨ t.kind = .cfgwr) :
    exec (.memberConfigRequest port vs slot f t pick) s = .next (s.memberCfg port.val vs.val slot.val f.val t pick.val) := by
  show execMemberConfigRequest port vs slot f t pick s = _
  unfold execMemberConfigRequest
  rw [s.live_next _ hawake, if_pos ⟨hvs, ht, hkind⟩, hfree, if_neg (by decide)]

section
variable {s : State} {vs : Fin 48} {slot : Fin 32} {f : Fin 8} {t : Nat} (hawake : s.sealed = false)
  (hflr : s.fwd.flrAt.look (vs.val, slot.val, f.val) = some t)
include hawake hflr

theorem exec_memberFlrRetryEnd_due (hdue : t + 100000000 ≤ s.now) : exec (.memberFlrRetryEnd vs slot f) s =
    .next ((s.retryEnded (vs.val, slot.val, f.val)).memSync vs.val slot.val f.val) := by
  show execMemberFlrRetryEnd vs slot f s = _
  unfold execMemberFlrRetryEnd
  rw [s.live_next _ hawake, hflr]
  dsimp only
  rw [if_pos hdue]
  rfl

theorem exec_memberFlrRetryEnd_early (hearly : s.now < t + 100000000) : exec (.memberFlrRetryEnd vs slot f) s = .next s := by
  show execMemberFlrRetryEnd vs slot f s = _
  unfold execMemberFlrRetryEnd
  rw [s.live_next _ hawake, hflr]
  dsimp only
  rw [if_neg (by omega)]

end

theorem State.still_memAnswer (s : State) (p : Nat) (t : Tlp) (x : Nat) : (s.memAnswer p t x).still = s.still :=
  (State.still_schedule _ p).trans (State.still_answerTlp _ _ _ _)

end Sys2Proof.Machine
end

section
/-!
SUPPORT. O32: what a host writes to its slots and to the functions of a group.
-/

namespace Sys2Proof.Machine

/-- Settles O32: each write is followed through the slot, the link, the containment, the swap or the answer that it leads to; links and containments
are cut where nothing is on its way. -/
theorem whatAHostWritesToItsSlots : Obligations.what_a_host_writes_to_its_slots := by
  unfold Obligations.what_a_host_writes_to_its_slots
  refine ⟨?_, ?_, ?_, ?_, ?_, ?_, ?_, ?_, ?_, ?_, ?_, ?_, ?_, ?_, ?_, ?_⟩
  · intro s vs slot hawake hthere hpower hkind hup ht hg hs hl hparked hqueue
    refine State.runs_slot (f := (·.powerCtl vs.val slot.val true)) rfl hawake hthere ?_
    rw [State.powerCtl_off_unheld hpower hkind hup hparked hqueue]
    have hcalm := (State.calm_powerCut (s := s) (v := vs.val) (sl := slot.val) (p := s.get F.VST_SLOT_TARGET [vs.val, slot.val] % 256)).thenStill
      (State.still_mgrStat _)
    obtain ⟨hstate, hwidth, -⟩ := State.powerCut_link (v := vs.val) (sl := slot.val) (p := s.get F.VST_SLOT_TARGET [vs.val, slot.val] % 256)
      (State.quiet_of_empty ht hg hs hl)
    exact ⟨(hcalm.host _ _ rfl).trans (State.powerShown_cf true), (hcalm.slot _ _ rfl).trans (State.powerShown_power true), hstate, hwidth,
      State.powerCut_dll, (hcalm.base.journal (by decide)).trans (s.powerShown_journal _ _ _)⟩
  · intro s vs slot off hawake hthere hsame
    exact State.runs_slot (f := (·.powerCtl vs.val slot.val off)) rfl hawake hthere (State.powerCtl_same hsame)
  · intro s vs slot hawake hthere hpower hkind
    refine State.runs_slot (f := (·.powerCtl vs.val slot.val false)) rfl hawake hthere ?_
    rw [State.powerCtl_on_empty hpower hkind]
    have hcalm := (State.calm.refl (s.powerShown vs.val slot.val false)).refreshDll vs.val slot.val
    refine ⟨(hcalm.host _ _ rfl).trans (State.powerShown_cf false), (hcalm.slot _ _ rfl).trans (State.powerShown_power false), ?_, ?_, fun r hr _ => ?_⟩
    · exact (State.setDll_fwd _ _ _ _).trans (s.powerShown_fwd _ _ _)
    · exact (hcalm.base.journal (by decide)).trans (s.powerShown_journal _ _ _)
    · simp only [List.mem_cons, List.not_mem_nil, or_false, not_or] at hr
      exact (State.setDll_rd _ _ _ _ hr.1).trans (s.powerShown_rd _ hr.1 hr.2)
  · intro s vs slot hawake hthere hdis hkind hup ht hg hs hl
    refine State.runs_slot (f := (·.linkDis vs.val slot.val true)) rfl hawake hthere ?_
    rw [State.linkDis_up hdis hkind hup]
    have hcalm := State.disableCut_calm (s := s) (v := vs.val) (sl := slot.val) (p := s.get F.VST_SLOT_TARGET [vs.val, slot.val] % 256)
    obtain ⟨hstate, -⟩ := State.disableCut_link (v := vs.val) (sl := slot.val) (p := s.get F.VST_SLOT_TARGET [vs.val, slot.val] % 256)
      (State.quiet_of_empty ht hg hs hl)
    exact ⟨(hcalm.host _ _ rfl).trans (State.cf_cfSet_same ..), hstate, State.disableCut_dll, hcalm.base.journal (by decide)⟩
  · intro s vs slot hawake hthere hdis hkind hcont
    refine State.runs_slot (f := (·.linkDis vs.val slot.val false)) rfl hawake hthere ?_
    rw [State.linkDis_clear hdis hkind, State.startRelease_contained (s := s.cfSet (.vdsp vs.val slot.val) .linkDisable (bit false)) hcont]
    have hcalm := (State.calm.refl ((s.cfSet (.vdsp vs.val slot.val) .linkDisable (bit false)).fwdUp (fun f =>
      { f with releasing := addNew f.releasing (s.get F.VST_SLOT_VDSP [vs.val, slot.val]) }))).refreshDll vs.val slot.val
    refine ⟨(hcalm.host _ _ rfl).trans (State.cf_cfSet_same ..), ?_, hcalm.base.journal (by decide)⟩
    rw [State.refreshDll, State.setDll_fwd]
    exact mem_addNew _ _
  · intro s vs slot hawake hthere hkind hup
    refine State.runs_slot (f := (·.retrainLink vs.val slot.val)) rfl hawake hthere ?_
    rw [State.retrainLink_bound hkind hup]
    have hstate := State.up_of_inL0 hup
    obtain ⟨hrec, hwidth⟩ := State.retrain_up (s.freshTrain (s.get F.VST_SLOT_TARGET [vs.val, slot.val] % 256)) _ hstate
    obtain ⟨hcfg, hfwd⟩ := s.retrainFresh_kept (s.get F.VST_SLOT_TARGET [vs.val, slot.val] % 256)
    exact ⟨hrec, hwidth, State.retrainFresh_counts hstate, hcfg, hfwd⟩
  · intro s vs slot hawake hthere hdpc hfree ht hg hs hl
    refine State.runs_slot (f := (·.dpcTrig vs.val slot.val)) rfl hawake hthere ?_
    rw [State.dpcTrig, if_neg hdpc, ((State.quiet_of_empty ht hg hs hl).containVdsp _ _ _).settled]
    obtain ⟨hon, hcause⟩ := State.calm.containVdsp_cause s 4 hfree (by decide)
    obtain ⟨htrigger, hdll⟩ := s.contShown_software hdpc
    have hcfg := s.containVdsp_cfg 4 hfree
    have hshown (f : CfgF) : (s.containVdsp vs.val slot.val 4).cf (.vdsp vs.val slot.val) f = (s.contShown vs.val slot.val 4).cf (.vdsp vs.val slot.val) f := by
      rw [State.cf, hcfg, State.cf]
    have hcalm := (State.calm.refl s).containVdsp vs.val slot.val 4
    exact ⟨by simpa [State.contained, State.on_eq] using hon, hcause, s.containVdsp_slot 4 hfree, (hshown _).trans htrigger, (hshown _).trans hdll,
      s.containVdsp_event 4 hfree, hcalm.base.journal (by decide)⟩
  · intro s vs slot hawake hthere hdpc
    exact State.runs_slot (f := (·.dpcTrig vs.val slot.val)) rfl hawake hthere (if_pos hdpc)
  · intro s vs slot hawake hthere htrigger hcont
    refine State.runs_slot (f := (·.dpcClear vs.val slot.val)) rfl hawake hthere ?_
    rw [State.dpcClear, if_pos htrigger, State.startRelease_contained
      (s := (s.cfSet (.vdsp vs.val slot.val) .dpcTrigger 0).cfSet (.vdsp vs.val slot.val) .dpcReason 0) hcont]
    exact ⟨(State.cf_cfSet_ne _ _ (by simp)).trans (State.cf_cfSet_same ..), mem_addNew _ _, rfl, rfl⟩
  · intro s port v sl t hawake hvs hfld
    refine ⟨_, exec_hostRoutingWrite_secBus port sl hawake hvs hfld, ?_⟩
    obtain ⟨hlen, hlast⟩ := (s.secBusShown v sl (leNat t.data)).queueSwap_last .fwd (.cpl port.val { t with kind := .cfgwr })
    have htabs := (s.secBusShown v sl (leNat t.data)).queueSwap_tabs (.cpl port.val { t with kind := .cfgwr })
    rw [State.nextEpoch, State.secBusShown_fwd, BankSet.code] at htabs
    rw [State.secBusShown_fwd] at hlen
    refine ⟨?_, ?_, hlen, hlast, ?_, (State.queueSwap_journal _ _ _).trans (State.secBusShown_journal _ _ _ _)⟩
    · rw [State.cf, State.queueSwap_cfg, ← State.cf, State.secBusShown_cf]
    · rw [State.queueSwap_get _ _ _ (by decide) (by decide), State.secBusShown_get]
    · rw [htabs, Option.map_some, State.snap_cf, State.secBusShown_cf]
  · intro s port vs slot f t pick k hawake hvs hkind hfree hentry hgo hrd hfld hport
    refine ⟨_, exec_memberConfigRequest f pick hawake hvs hkind hfree (.inl hrd), ?_⟩
    rw [State.memberCfg_shadow hentry hgo (fun _ _ _ _ => by rw [hfld]; rfl), if_neg (by rw [hrd]; decide), hfld]
    have hcfg := State.cfg_of_still (s.still_memAnswer port.val t (s.cf (.mem vs.val slot.val f.val) .intLine))
    rw [State.memAnswer, if_pos hrd] at hcfg ⊢
    obtain ⟨hsent, hmesh⟩ := hport.sent (t := cplData t t.tid (leBytes 4 (s.cf (.mem vs.val slot.val f.val) .intLine))) rfl (tlpDataCredits_word _ _ _).le
    exact ⟨hsent, hcfg, hmesh⟩
  · intro s port vs slot f t pick k hawake hvs hkind hfree hentry hgo hwr hfld
    refine ⟨_, exec_memberConfigRequest f pick hawake hvs hkind hfree (.inr hwr), ?_⟩
    rw [State.memberCfg_shadow hentry hgo (fun _ _ _ _ => by rw [hfld]; rfl), if_pos hwr, hfld]
    obtain ⟨hcfg, hfwd, -, -, hjournal⟩ :=
      (s.cfSet (.mem vs.val slot.val f.val) .mps (leNat t.data % 8)).memSync_kept vs.val slot.val f.val
    have hstill := State.still_memAnswer
      ((s.cfSet (.mem vs.val slot.val f.val) .mps (leNat t.data % 8)).memSync vs.val slot.val f.val) port.val t 0
    refine ⟨?_, ?_, (State.journal_of_still hstill).trans hjournal⟩
    · exact (congrArg (cfGet · _ _) ((State.cfg_of_still hstill).trans hcfg)).trans (State.cf_cfSet_same ..)
    · exact (State.sparing.of_still (L := []) hstill).swaps.trans (congrArg FwdSt.swaps hfwd)
  · intro s port vs slot f t pick k hawake hvs hkind hfree hentry hwait hrd hport
    refine ⟨_, exec_memberConfigRequest f pick hawake hvs hkind hfree (.inl hrd), ?_⟩
    rw [State.memberCfg_retry hentry hwait]
    obtain ⟨hsent, hmesh⟩ := hport.sent (t := cplFor t 2 t.tid) rfl (by rw [tlpDataCredits_cplFor]; exact Nat.zero_le 1)
    exact ⟨hsent, State.cfg_of_still ((State.still_schedule _ _).trans (State.still_answerTlp _ _ _ _)), hmesh⟩
  · intro s vs slot f port rid hawake htrk hlost hm
    refine State.runs_live (f := (·.memberFlr vs.val slot.val f.val)) rfl hawake ?_
    rw [s.memberFlr_quiet _ _ _ htrk hlost hm]
    obtain ⟨hcfg, hfwd, hsent, hmesh, hjournal⟩ := (s.flrSent vs.val slot.val (f.val, port, rid)).memSync_kept vs.val slot.val f.val
    have hreset (g : CfgF) : (s.flrMember vs.val slot.val (f.val, port, rid)).cf (.mem vs.val slot.val f.val) g = cfRst g :=
      (congrArg (cfGet · _ _) hcfg).trans (s.cf_cfReset (q := fun g => g == .mem vs.val slot.val f.val) (by simp) g)
    refine ⟨hsent, ?_, hreset .bme, hreset .mse, hmesh, hjournal⟩
    exact (congrArg (fun x => x.flrAt.look (vs.val, slot.val, f.val)) hfwd).trans (AMap.look_put_same ..)
  · intro s vs slot f t hawake hflr hdue
    refine ⟨_, exec_memberFlrRetryEnd_due hawake hflr hdue, ?_⟩
    obtain ⟨hcfg, hfwd, hsent, hmesh, -⟩ := (s.retryEnded (vs.val, slot.val, f.val)).memSync_kept vs.val slot.val f.val
    refine ⟨?_, ?_, hcfg, hmesh, hsent⟩
    · rw [hfwd]
      simp [State.retryEnded]
    · rw [hfwd]
      exact AMap.look_del_same _ _
  · intro s vs slot f t hawake hflr hearly
    exact ⟨s, exec_memberFlrRetryEnd_early hawake hflr hearly, rfl⟩

end Sys2Proof.Machine
end

section
/-!
SUPPORT. A packet that has landed under the number that the mesh gives out next (R18, R178): the delivery that the statement describes.
-/

namespace Sys2Proof.Machine

/-- A posted write of port 0 on its way to port 4. -/
def landedWrite : Pkt :=
  { dest := 1, src := 0, srcId := 0, egress := 4, sc := 0, kind := 0, bytes := 76,
    body := .tlp { kind := .mwr, rid := 0x100, addr := 0x1040, len := 64, data := List.replicate 64 7 } }

/-- Tile 1 is powered, and the write has landed at its router as packet 0, the number that the next packet takes. -/
def landedDevice : State :=
  { State.reset.set F.CPW_PD_STATE [1] 1 with mesh := { landed := [(1, 0)], pkts := [(0, landedWrite)] } }

theorem landedDevice_sealed : landedDevice.sealed = false := by decide +kernel

theorem landedDevice_powered : landedDevice.powered (landedWrite.egress / 4) = true := by decide +kernel

theorem landedDevice_scope : landedDevice.scopeDrops landedWrite = false := by decide +kernel

/-- The write leaves the packet table, and its tail confirmation enters it under the same number. -/
theorem landedDevice_eject : (landedDevice.eject 1).mesh.pkts.look 0 ≠ none := by decide +kernel

/-- Refutes O27: the tail confirmation that the delivery sends takes the next packet number, and no hypothesis keeps that number from being the one
of the packet delivered, so that the packet table may still hold a packet under it. -/
theorem not_deliveryConfirmationAndScheduling : ¬ Obligations.delivery_confirmation_and_scheduling := by
  unfold Obligations.delivery_confirmation_and_scheduling
  rintro ⟨hdelivered, -⟩
  obtain ⟨u, hexec, -, -, -, -, hgone, -⟩ := hdelivered landedDevice 1 0 landedWrite _ landedDevice_sealed rfl rfl rfl rfl rfl (by decide) rfl
    (by decide) landedDevice_powered rfl rfl rfl (by decide) landedDevice_scope rfl
  have hrun : exec (.packetEjected 1) landedDevice = .next (landedDevice.eject 1) :=
    landedDevice.live_next (·.eject 1) landedDevice_sealed
  rw [hrun] at hexec
  injection hexec with hu
  exact landedDevice_eject (hu ▸ hgone)

end Sys2Proof.Machine
end

section
/-!
SUPPORT. The loss of a tracker entry (R270) at a tile whose tracker is counted as full (R175).
-/

namespace Sys2Proof.Machine

/-- A tile's tracker that holds no room and did not show it becomes full and raises TRK_FULL when an entry is freed (R175). -/
theorem State.putTrk_none_full {s : State} {x : Nat} (i : Nat) (hx : x < 36)
    (hfull : 16384 ≤ (s.fwd.retired.filter (fun e => e.1 == x)).length) (hwas : s.on F.PT_TRK_STAT_FULL [x] = false) :
    s.putTrk x i none =
      (((s.fwdUp (fun f => { f with trk := f.trk.del (x, i) })).set F.PT_TRK_STAT_LIVE [x] ((s.fwd.trk.del (x, i)).filter (fun e => e.1.1 == x)).length).setB
        F.PT_TRK_STAT_FULL [x] true).event (.tile x 1) 2 := by
  have hcount : decide (16384 ≤ ((s.fwd.trk.del (x, i)).filter (fun e => e.1.1 == x)).length + (s.fwd.retired.filter (fun e => e.1 == x)).length) = true := by
    simp only [decide_eq_true_eq]; omega
  have hwas' : (s.fwdUp (fun f => { f with trk := f.trk.del (x, i) })).on F.PT_TRK_STAT_FULL [x] = false := hwas
  unfold State.putTrk State.updTrkStat
  rw [if_pos hx]
  dsimp only [State.fwdUp_fwd]
  rw [hcount, hwas']
  rfl

/-- What follows the freeing of a lost entry: the tile records it, and every tile is told (R270). -/
def State.trackerTold (s : State) (x trk : Nat) : State :=
  (List.range 36).foldl (fun (s : State) (t : Nat) => s.when (s.waitsFor t) (·.sendMsg x t (.trkLoss x trk)))
    (s.when (decide (x < 36)) (fun (s : State) => ((s.setB F.PT_TRK_STAT_ENTRY_UE [x] true).event (.tile x 1) 1).trkLeak x trk))

theorem State.trackerUe_eq {s : State} {x trk : Nat} {e : TrkE} (h : s.trkOf x trk = some e) :
    s.trackerUe x trk = (s.putTrk x trk none).trackerTold x trk := by
  unfold State.trackerUe
  rw [h]
  rfl

/-- A request of tile 0 toward port 4. -/
def lostEntry : TrkE := { reqId := 0x100, tag := 3, egress := 4, etag := 0x101, slot := 0, kind := .mrd, sc := 0, vdsp := 0x3FF, remain := 4, tAlloc := 0, to_ := 1000 }

/-- Tile 0 holds one entry, and its retired entries are counted as a whole tracker that PT_TRK_STAT does not show as full; the leaky counter of the
tracker has THRESHOLD 0. -/
def crowdedDevice : State :=
  { State.reset.set F.LK_CFG_THRESHOLD [0, 0, 5] 0 with fwd := { trk := [((0, 0), lostEntry)], retired := List.replicate 16384 (0, 0) } }

/-- The tracker after the loss of the entry. -/
def crowdedAfter : State :=
  (((crowdedDevice.fwdUp (fun f => { f with trk := [] })).set F.PT_TRK_STAT_LIVE [0] 0).setB F.PT_TRK_STAT_FULL [0] true).event (.tile 0 1) 2

theorem crowdedDevice_sealed : crowdedDevice.sealed = false := by decide +kernel

theorem crowdedDevice_putTrk : crowdedDevice.putTrk 0 0 none = crowdedAfter :=
  State.putTrk_none_full (s := crowdedDevice) 0 (by decide)
    (by
      show 16384 ≤ ((List.replicate 16384 (0, 0)).filter _).length
      rw [List.filter_replicate_of_pos (by decide), List.length_replicate])
    (by decide +kernel)

/-- ERR_STAT holds TRK_FULL beside ENTRY_UE. -/
theorem crowdedAfter_told : (crowdedAfter.trackerTold 0 0).rd (Trip.tile 0 1).stat = 6 := by decide +kernel

/-- Refutes O28: where an entry is lost in a tile whose tracker is counted as full while PT_TRK_STAT.FULL is 0, TRK_FULL is raised in the same triple as
ENTRY_UE, and no hypothesis says that FULL is up to date. -/
theorem not_lossesAndTimeoutsOnThePath : ¬ Obligations.losses_and_timeouts_on_the_path := by
  unfold Obligations.losses_and_timeouts_on_the_path
  rintro ⟨-, -, -, -, -, -, -, -, -, -, -, -, hlost, -⟩
  obtain ⟨u, hexec, -, -, ⟨hstat, -⟩, -⟩ := hlost crowdedDevice 0 0 lostEntry crowdedDevice_sealed rfl (by decide) (by decide +kernel)
  have hrun : exec (.trackerEntryUe 0 0) crowdedDevice = .next (crowdedDevice.trackerUe 0 0) :=
    crowdedDevice.live_next (·.trackerUe 0 0) crowdedDevice_sealed
  have hafter : crowdedDevice.trackerUe 0 0 = crowdedAfter.trackerTold 0 0 := by
    rw [State.trackerUe_eq (e := lostEntry) rfl, crowdedDevice_putTrk]
  have hbefore : crowdedDevice.rd (Trip.tile 0 1).stat = 0 := by decide +kernel
  rw [hrun] at hexec
  injection hexec with hu
  rw [← hu, hafter] at hstat
  have hevents : (6 : W64) = 0 ||| BitVec.ofNat 64 (2 ^ 1) := by
    rw [← crowdedAfter_told, ← hbefore]
    exact hstat
  exact absurd hevents (by decide)

end Sys2Proof.Machine
end

section
/-!
SUPPORT. Messages of the mesh (R183): what an injection can change, the inbox of a station, and the registers of the forwarding path that
leases and tags show (R174, R244).
-/

namespace Sys2Proof.Machine

/-! ### Injection -/

/-- The registers that an injection into the mesh can change. -/
def meshNames : List RN := [.RTR_ESC_CTL, .RTR_ERR_STAT, .RTR_ERR_INT, .MSIX_PBA]

/-- From `s` to `u`, a packet has been injected or refused: only the mesh behind the inboxes, the registers of `meshNames` and the messages change. -/
structure State.injected (s u : State) : Prop where
  rd : ∀ r : Reg, r.n ∉ meshNames → u.rd r = s.rd r
  rest : { u with regs := s.regs, mesh := s.mesh, sent := s.sent, msiWait := s.msiWait } = s
  inbox : u.mesh.inbox = s.mesh.inbox

namespace State.injected

theorem refl (s : State) : s.injected s := ⟨fun _ _ => rfl, rfl, rfl⟩

section
variable {s u : State} (h : s.injected u)
include h

theorem trans {v : State} (h' : u.injected v) : s.injected v where
  rd r hr := (h'.rd r hr).trans (h.rd r hr)
  rest := ((congrArg (fun x : State => { x with regs := s.regs, mesh := s.mesh, sent := s.sent, msiWait := s.msiWait }) h'.rest).trans h.rest :)
  inbox := h'.inbox.trans h.inbox

theorem fwd : u.fwd = s.fwd := (congrArg State.fwd h.rest :)

theorem cfg : u.cfg = s.cfg := (congrArg State.cfg h.rest :)

end

end State.injected

section
variable (s : State)

theorem State.fillLocal_eq (n : Nat) (k : VcId) : ∃ iq fs, s.fillLocal n k = s.meshUp (fun m => { m with injq := iq, fifos := fs }) := by
  induction n generalizing s with
  | zero => exact ⟨_, _, rfl⟩
  | succ n ih =>
    unfold State.fillLocal
    split
    · exact ⟨_, _, rfl⟩
    · dsimp only
      split
      · obtain ⟨iq, fs, h⟩ := ih (s.meshUp _)
        exact ⟨iq, fs, h.trans rfl⟩
      · exact ⟨_, _, rfl⟩

theorem State.injected_meshUp {f : Mesh → Mesh} (hf : (f s.mesh).inbox = s.mesh.inbox) : s.injected (s.meshUp f) := ⟨fun _ _ => rfl, rfl, hf⟩

theorem State.injected_fillLocal (n : Nat) (k : VcId) : s.injected (s.fillLocal n k) := by
  obtain ⟨iq, fs, h⟩ := s.fillLocal_eq n k
  rw [h]
  exact s.injected_meshUp rfl

theorem State.injected_escShown (c : Bool) (r : Nat) : s.injected (s.when c (fun t => t.setB F.RTR_ESC_CTL_ESC_EMPTY [r] false)) := by
  cases c
  · exact .refl s
  · exact ⟨fun q hq => State.rd_set_ne _ _ _ _ (fun e => hq (by simp [e, meshNames])), rfl, rfl⟩

theorem State.injected_routerEvent (r b : Nat) : s.injected (s.event (.router r) b) := by
  refine ⟨fun q hq => s.event_rd_ne _ _ (fun e => hq ?_) (fun e => hq ?_) (fun e => hq ?_), ?_, ?_⟩
  · simp [e, meshNames, Trip.stat]
  · simp [e, meshNames, Trip.int]
  · simp [e, meshNames]
  · exact (congrArg (fun t : State => { t with mesh := s.mesh }) (s.event_rest (.router r) b) :)
  · exact (congrArg (fun t : State => t.mesh.inbox) (s.event_rest (.router r) b) :)

theorem State.injected_injectAt (r : Nat) (p : Pkt) : s.injected (s.injectAt r p).1 := by
  unfold State.injectAt
  dsimp only
  split
  · exact s.injected_routerEvent r 7
  · exact ((s.injected_meshUp rfl).trans (State.injected_fillLocal _ _ _)).trans (State.injected_escShown _ _ _)

/-! ### Messages between stations -/

theorem State.sendMsg_self (x : Nat) (m : IMsg) : s.sendMsg x x m = s.meshUp (fun w => { w with inbox := w.inbox.upd x [] (· ++ [m]) }) := if_pos rfl

theorem State.injected_sendMsg {x y : Nat} (h : x ≠ y) (m : IMsg) : s.injected (s.sendMsg x y m) := by
  unfold State.sendMsg
  rw [if_neg h]
  exact s.injected_injectAt _ _

@[simp] theorem State.sendMsg_fwd (x y : Nat) (m : IMsg) : (s.sendMsg x y m).fwd = s.fwd := by
  by_cases h : x = y
  · rw [h, State.sendMsg_self]
    rfl
  · exact (s.injected_sendMsg h m).fwd

theorem State.sendMsg_self_inbox {x y : Nat} (h : x = y) (m : IMsg) : (s.sendMsg x y m).mesh.inbox.lookD x [] = s.mesh.inbox.lookD x [] ++ [m] := by
  rw [← h, State.sendMsg_self]
  exact AMap.lookD_put_same ..

/-- A station's inbox is empty again. -/
def State.popped (x : Nat) : State := s.meshUp (fun m => { m with inbox := m.inbox.put x [] })

theorem State.popped_inbox (x : Nat) : (s.popped x).mesh.inbox.lookD x [] = [] := AMap.lookD_put_same ..

variable {s}

theorem State.popMsg_single {x : Nat} {q : IMsg → Bool} {m : IMsg} (h : s.mesh.inbox.lookD x [] = [m]) (hq : q m = true) :
    s.popMsg x q = some (m, s.popped x) := by
  unfold State.popMsg
  rw [h, takeFirst, if_pos hq]
  rfl

theorem State.popMsg_left {x : Nat} {q : IMsg → Bool} {m : IMsg} (h : s.mesh.inbox.lookD x [] = [m]) (hq : q m = false) :
    s.popMsg x q = none := by
  unfold State.popMsg
  rw [h, takeFirst, if_neg (by rw [hq]; decide)]
  rfl

end

/-! ### The forwarding path and the mesh change, and a few registers -/

/-- From `s` to `u`, nothing changes but the forwarding path, the mesh, the listed registers and the messages. -/
def State.pathOnly (s u : State) (l : List Reg) : Prop := s.only { u with fwd := s.fwd, mesh := s.mesh } l []

namespace State.pathOnly

theorem refl (s : State) (l : List Reg) : s.pathOnly s l := s.only_refl l []

theorem of_only {s u : State} {l : List Reg} (h : s.only u l []) : s.pathOnly u l :=
  ⟨h.1, (congrArg (fun t : State => { t with fwd := s.fwd, mesh := s.mesh }) h.2 :)⟩

section
variable {s t : State} {l : List Reg} (h : s.pathOnly t l)
include h

theorem trans {u : State} (h' : t.pathOnly u l) : s.pathOnly u l :=
  ⟨fun r hr hx => (h'.1 r hr (fun _ m => absurd m List.not_mem_nil)).trans (h.1 r hr hx),
    ((congrArg (fun x : State => { x with regs := s.regs, sent := s.sent, msiWait := s.msiWait, fwd := s.fwd, mesh := s.mesh }) h'.2).trans h.2 :)⟩

theorem fwdUp (f : FwdSt → FwdSt) : s.pathOnly (t.fwdUp f) l := h

theorem meshUp (f : Mesh → Mesh) : s.pathOnly (t.meshUp f) l := h

theorem set (f : Fld) (ix : List Nat) (v : Nat) (hf : ⟨f.reg, ix⟩ ∈ l) : s.pathOnly (t.set f ix v) l :=
  h.trans (of_only (State.only_mono (t.only_set f ix v) (by simpa using hf) (by simp)))

theorem pset (f : Fld) (p v : Nat) (hf : ⟨f.reg, [p / 4, p % 4]⟩ ∈ l) : s.pathOnly (t.pset f p v) l := h.set f _ v hf

theorem setTag (p tag : Nat) (st : TagSt) (hp : ⟨.PT_CONT, [p / 4, p % 4]⟩ ∈ l) : s.pathOnly (t.setTag p tag st) l :=
  (h.fwdUp _).pset F.PT_CONT_TOMBS p _ hp

theorem updTagWait (p : Nat) (hp : ⟨.PT_GATE_STAT, [p / 4, p % 4]⟩ ∈ l) : s.pathOnly (t.updTagWait p) l := by
  unfold State.updTagWait
  split
  · exact h.pset F.PT_GATE_STAT_TAG_WAIT p _ hp
  · exact h

theorem sendMsg_self {x y : Nat} (hxy : x = y) (m : IMsg) : s.pathOnly (t.sendMsg x y m) l := by
  rw [← hxy, State.sendMsg_self]
  exact h

end

end State.pathOnly

/-! ### Tags and leases -/

section
variable (s : State)

theorem State.tagSt_setTag (p tag k : Nat) (st : TagSt) : (s.setTag p tag st).tagSt p k = if k = tag then st else s.tagSt p k := by
  have hput (m : AMap (Nat × Nat) TagSt) (v : TagSt) : (m.put (p, tag) v).lookD (p, k) .pool = if k = tag then v else m.lookD (p, k) .pool := by
    rw [AMap.lookD_put]
    simp
  have hdel (m : AMap (Nat × Nat) TagSt) : (m.del (p, tag)).lookD (p, k) .pool = if k = tag then .pool else m.lookD (p, k) .pool := by
    by_cases hk : k = tag
    · rw [if_pos hk, hk, AMap.lookD_del_same]
    · rw [if_neg hk, AMap.lookD_del_ne _ _ (by simp [hk])]
  cases st with
  | pool => exact hdel _
  | leased x => exact hput _ _
  | live x i => exact hput _ _
  | tomb t => exact hput _ _

/-- Tags that take a state one after the other have it. -/
theorem State.tagSt_foldl_setTag (p : Nat) (st : TagSt) (l : List Nat) {k : Nat} (h : k ∈ l ∨ s.tagSt p k = st) :
    (l.foldl (fun (s : State) (tag : Nat) => s.setTag p tag st) s).tagSt p k = st := by
  induction l generalizing s with
  | nil => simpa using h
  | cons tag l ih =>
    refine ih _ ?_
    rw [State.tagSt_setTag]
    by_cases hk : k = tag
    · exact .inr (if_pos hk)
    · rw [if_neg hk]
      simpa [hk] using h

theorem State.setTag_mesh (p tag : Nat) (st : TagSt) : (s.setTag p tag st).mesh = s.mesh := rfl

theorem State.foldl_setTag_mesh (p : Nat) (st : TagSt) (l : List Nat) :
    (l.foldl (fun (s : State) (tag : Nat) => s.setTag p tag st) s).mesh = s.mesh :=
  List.foldlRecOn (motive := fun t : State => t.mesh = s.mesh) _ _ rfl (fun t ht _ _ => (t.setTag_mesh _ _ _).trans ht)

theorem State.pathOnly.foldl_setTag {s t : State} {l : List Reg} (h : s.pathOnly t l) (p : Nat) (st : TagSt) (tags : List Nat)
    (hp : ⟨.PT_CONT, [p / 4, p % 4]⟩ ∈ l) : s.pathOnly (tags.foldl (fun (s : State) (tag : Nat) => s.setTag p tag st) t) l :=
  List.foldlRecOn (motive := fun u : State => s.pathOnly u l) _ _ h (fun _ hu _ _ => hu.setTag _ _ _ hp)

theorem State.poolTags_congr {s u : State} (h : u.fwd.tags = s.fwd.tags) (p fuel tag n : Nat) : u.poolTags p fuel tag n = s.poolTags p fuel tag n := by
  induction fuel generalizing tag n with
  | zero => rfl
  | succ fuel ih =>
    have htag : u.tagSt p tag = s.tagSt p tag := by rw [State.tagSt, h, State.tagSt]
    unfold State.poolTags
    rw [htag, ih, ih]

theorem State.poolTags_length (p fuel tag n : Nat) : (s.poolTags p fuel tag n).length ≤ n := by
  induction fuel generalizing tag n with
  | zero => exact Nat.zero_le n
  | succ fuel ih =>
    unfold State.poolTags
    split
    · exact Nat.zero_le n
    · split
      · have := ih (tag + 1) (n - 1)
        simp only [List.length_cons]
        omega
      · exact ih (tag + 1) n

theorem State.leaseOf_setLease (x p : Nat) (l : List Nat) : (s.setLease x p l).leaseOf x p = l := AMap.lookD_put_same ..

theorem State.updTagWait_fwd (p : Nat) : (s.updTagWait p).fwd = s.fwd := by
  unfold State.updTagWait
  split <;> rfl

theorem State.updTagWait_mesh (p : Nat) : (s.updTagWait p).mesh = s.mesh := by
  unfold State.updTagWait
  split <;> rfl

theorem State.leaseOf_of_fwd {s u : State} (h : u.fwd = s.fwd) (x p : Nat) : u.leaseOf x p = s.leaseOf x p := by rw [State.leaseOf, h, State.leaseOf]

end

end Sys2Proof.Machine
end

section
/-!
SUPPORT. The shapers' running state (R438, R445 to R447) behind echoes, recovery ticks and measurement windows.
-/

namespace Sys2Proof.Machine

section
variable (s : State) (x : Nat)

/-! ### A shaper's state stored -/

theorem State.sh_shPut (st : ShSt) : (s.shPut x st).sh x = st := AMap.lookD_put_same ..

theorem State.rate_shPut (st : ShSt) : (s.shPut x st).get F.SH_STAT_RATE_CUR [x] = s.get F.SH_STAT_RATE_CUR [x] :=
  State.get_set_disj _ _ _ _ _ _ (.inr (by decide))

theorem State.shPut_only (st : ShSt) : s.only { s.shPut x st with shp := s.shp } [⟨.SH_STAT, [x]⟩] [] :=
  s.only_set F.SH_STAT_CREDIT [x] (unsx 32 (st.credit / 100))

theorem State.shPut_rd (st : ShSt) {r : Reg} (hr : r ≠ ⟨.SH_STAT, [x]⟩) : (s.shPut x st).rd r = s.rd r := State.rd_set_ne _ _ _ _ hr

theorem State.only_shCount (c n : Nat) : s.only (s.shCount x c n) [⟨.PMG_SHCNT, [x, c]⟩] [.pmg] := s.only_count _ _ _

theorem State.counts_shCount (c n : Nat) : s.counts (s.shCount x c n) ⟨.PMG_SHCNT, [x, c]⟩ n :=
  s.counts_count _ _ _ (by simp [Reg.apart, Trip.stat, Trip.int])

/-- A shaper's counter and its running state stored leave the rate as it is. -/
theorem State.rate_shCount (c n : Nat) : (s.shCount x c n).get F.SH_STAT_RATE_CUR [x] = s.get F.SH_STAT_RATE_CUR [x] :=
  (s.only_shCount x c n).get (by simp) (by simp [Reg.apart, Trip.stat, Trip.int])

/-- A count in a shaper's counter stands after the shaper's state is stored. -/
theorem State.counts_shPut (c : Nat) (st : ShSt) : s.counts ((s.shCount x c).shPut x st) ⟨.PMG_SHCNT, [x, c]⟩ := by
  rw [State.counts, State.shPut_rd _ _ _ (by simp)]
  exact s.counts_shCount x c 1

/-! ### Echoes -/

variable {s x}

/-- An echo at an open hold: the rate falls by the rule of the decrease, and the echo is counted (R446). -/
theorem State.shEcho_open (hopen : s.shOpen x = true) (hw : s.shDecreased x < 2 ^ F.SH_STAT_RATE_CUR.w) :
    (s.shEcho x).get F.SH_STAT_RATE_CUR [x] = s.shDecreased x ∧ ((s.shEcho x).sh x).lastDec = some s.now ∧
      s.counts (s.shEcho x) ⟨.PMG_SHCNT, [x, 0]⟩ := by
  unfold State.shEcho
  rw [if_pos hopen]
  refine ⟨?_, ?_, ?_⟩
  · rw [State.rate_shPut, State.rate_shCount, State.get_set_same _ _ _ _ (by decide), Nat.mod_eq_of_lt hw]
  · rw [State.sh_shPut]
  · exact State.counts_congr (State.rd_set_ne _ _ _ _ (by simp)) (State.counts_shPut _ _ _ _)

/-- An echo at a closed hold is only counted, and spoils the interval (R446, R447). -/
theorem State.shEcho_closed (hopen : s.shOpen x = false) :
    (s.shEcho x).get F.SH_STAT_RATE_CUR [x] = s.get F.SH_STAT_RATE_CUR [x] ∧ ((s.shEcho x).sh x).ivEcho = true ∧
      s.counts (s.shEcho x) ⟨.PMG_SHCNT, [x, 1]⟩ := by
  unfold State.shEcho
  rw [if_neg (by rw [hopen]; decide)]
  refine ⟨?_, ?_, ?_⟩
  · rw [State.rate_shPut, State.rate_shCount]
  · rw [State.sh_shPut]
  · exact s.counts_shPut x 1 _

theorem State.shEcho_mesh : (s.shEcho x).mesh = s.mesh := by
  unfold State.shEcho
  dsimp only
  split <;> exact State.count_mesh _ _ _ _

/-- An echo that reaches an upstream port's station is taken by the ingress shaper of its virtual switch (R445). -/
theorem State.echoResolve_upstream {src sc k : Nat} (egress q n : Nat) (hport : src < 144) (htrunk : s.isTrunk src = false)
    (hv : s.vsOfPort src = some k) (htakes : s.shTakes (576 + 4 * k + sc) = true) :
    s.echoResolve src egress sc q n = s.shEcho (576 + 4 * k + sc) := by
  unfold State.echoResolve
  rw [if_neg (by omega), if_neg (by omega), htrunk, if_neg (by decide), State.echoPort, hv]
  exact if_pos htakes

/-! ### Recovery and measurement -/

/-- At the end of an interval without echo the rate rises by AI_STEP, at most to RATE (R447). -/
theorem State.shRecover_rises (hen : s.shEn x = true) (hdue : (s.sh x).ivStart + s.shHold x ≤ s.now) (hecho : (s.sh x).ivEcho = false) :
    s.shRecover x =
      (s.set F.SH_STAT_RATE_CUR [x] (max (s.get F.SH_STAT_RATE_CUR [x]) (min (s.shRate x) (s.get F.SH_STAT_RATE_CUR [x] + s.shAi x)))).shPut x
        { s.sh x with credit := s.shCredit x, at_ := s.now, ivStart := (s.sh x).ivStart + s.shHold x } := by
  unfold State.shRecover
  dsimp only
  rw [if_neg (by simp [hen, hdue]), if_neg (by rw [hecho]; decide)]

/-- A spoiled interval ends without a rise (R447). -/
theorem State.shRecover_spoiled (hen : s.shEn x = true) (hdue : (s.sh x).ivStart + s.shHold x ≤ s.now) (hecho : (s.sh x).ivEcho = true) :
    s.shRecover x = s.shPut x { s.sh x with ivEcho := false, ivStart := (s.sh x).ivStart + s.shHold x } := by
  unfold State.shRecover
  dsimp only
  rw [if_neg (by simp [hen, hdue]), if_pos hecho]

theorem State.shRecover_early (h : s.now < (s.sh x).ivStart + s.shHold x) : s.shRecover x = s := if_pos (.inl h)

theorem State.shWindow_due (h : (s.sh x).winStart + 1000 ≤ s.now) : s.shWindow x =
    s.shPut x { s.sh x with meas := some ((s.sh x).winBytes / 10), winBytes := 0, winStart := (s.sh x).winStart + 1000 } := if_pos h

theorem State.shWindow_early (h : s.now < (s.sh x).winStart + 1000) : s.shWindow x = s := if_neg (by omega)

end

end Sys2Proof.Machine
end

section
/-!
PROOF of the statement about tag leases, swaps at a station, echoes and the ticks of a shaper (R146, R174, R228, R445 to R447).
-/

namespace Sys2Proof.Machine

/-! ### Leases and swaps, row by row -/

section
variable {s : State} {x : Nat}

/-- The tags that a tile grants at a request for its port (R174). -/
abbrev State.grantTags (s : State) (e : Nat) : List Nat := s.poolTags e (s.tagRange e).2.1 (s.tagRange e).1 (s.tagRange e).2.2

theorem State.leaseRequest_granted {stn e : Nat} (hin : s.mesh.inbox.lookD x [] = [.leaseReq stn e]) (hl : s.grantTags e ≠ []) :
    s.leaseRequest x =
      ((s.grantTags e).foldl (fun (s : State) (tag : Nat) => s.setTag e tag (.leased stn)) (s.popped x)).sendMsg x stn (.leaseGrant e (s.grantTags e)) := by
  unfold State.leaseRequest
  rw [State.popMsg_single hin (by simpa using hl)]

theorem State.leaseRequest_waits {stn e : Nat} (hin : s.mesh.inbox.lookD x [] = [.leaseReq stn e]) (hl : s.grantTags e = []) : s.leaseRequest x = s := by
  unfold State.leaseRequest
  rw [State.popMsg_left hin (by simpa using hl)]

theorem State.leaseGrant_taken {e : Nat} {l : List Nat} (hin : s.mesh.inbox.lookD x [] = [.leaseGrant e l]) :
    s.leaseGrant x = (((s.popped x).setLease x e (s.leaseOf x e ++ l)).fwdUp (fun f => { f with leaseAsk := f.leaseAsk.filter (· != (x, e)) })).updTagWait e := by
  unfold State.leaseGrant
  rw [State.popMsg_single hin rfl]
  rfl

theorem State.leaseReturn_due {e : Nat} (he : e < 144) (hsz : 0 < (s.tagRange e).2.2) (hfree : (s.tagRange e).2.2 ≤ (s.leaseOf x e).length)
    (hdue : s.fwd.leaseIdle.lookD (x, e) s.now + 100000 ≤ s.now) :
    s.leaseReturn x e = ((s.setLease x e ((s.leaseOf x e).drop (s.tagRange e).2.2)).sendMsg x (e / 4)
      (.leaseReturn x e ((s.leaseOf x e).take (s.tagRange e).2.2))).updTagWait e := if_pos ⟨hsz, hfree, hdue, he⟩

theorem State.leaseReturn_early {e : Nat} (h : s.now < s.fwd.leaseIdle.lookD (x, e) s.now + 100000) : s.leaseReturn x e = s :=
  if_neg (fun ⟨_, _, hdue, _⟩ => absurd hdue (by omega))

theorem State.swapMessage_taken {b : BankSet} {e : Nat} (hin : s.mesh.inbox.lookD x [] = [.swap b e]) :
    s.swapMessage x = ((s.popped x).swapAt x b e).sendMsg x stnMgt0 (.swapAck b x) := by
  unfold State.swapMessage
  rw [State.popMsg_single hin rfl]

theorem State.gateBankOf_swapAt (s : State) (x e : Nat) : (s.swapAt x .gate e).gateBankOf x = 1 - s.gateBankOf x :=
  congrArg Prod.fst (AMap.lookD_put_same ..)

/-- A tile that takes the forwarding tables of an epoch shows it and raises SWAP_DONE (R146). -/
theorem State.only_swapAt_fwd (s : State) (x e : Nat) : s.only (s.swapAt x .fwd e) [⟨.PT_FWD_EPOCH, [x]⟩] [.tile x 2] :=
  State.only_trans (s.only_set F.PT_FWD_EPOCH_EPOCH [x] e) (State.only_event _ (.tile x 2) 0)

theorem State.swapAt_fwd_epoch (s : State) (x : Nat) {e : Nat} (he : e < 2 ^ 32) : (s.swapAt x .fwd e).get F.PT_FWD_EPOCH_EPOCH [x] = e := by
  have hevent := State.only_event (s.set F.PT_FWD_EPOCH_EPOCH [x] e) (.tile x 2) 0
  refine (hevent.get (by simp) (by simp [Reg.apart, Trip.stat, Trip.int])).trans ?_
  rw [State.get_set_same _ _ _ _ (by decide)]
  exact Nat.mod_eq_of_lt he

theorem State.raises_swapAt_fwd (s : State) (x e : Nat) : s.raises (s.swapAt x .fwd e) (.tile x 2) 0 := by
  obtain ⟨hstat, hint⟩ := State.raises_event (s.set F.PT_FWD_EPOCH_EPOCH [x] e) (.tile x 2) 0
  rw [State.rd_set_ne _ _ _ _ (by simp [Trip.stat])] at hstat
  rw [State.rd_set_ne _ _ _ _ (by simp [Trip.mask])] at hint
  exact ⟨hstat, hint⟩

theorem exec_congestionEcho {x : Fin 80} {src egress c q n : Nat} (hs : s.sealed = false) (hin : s.mesh.inbox.lookD x.val [] = [.echo src egress c q n]) :
    exec (.congestionEcho x) s = .next ((s.popped x.val).echoResolve src egress c q n) := by
  change execCongestionEcho x s = _
  rw [execCongestionEcho, s.live_next _ hs, State.popMsg_single hin rfl]

end

/-! ### The statement -/

/-- Settles O29, row by row: what a tile or station does with the one message of its inbox, and what a shaper stores at a tick. -/
theorem leasesSwapsAndShaperTicks : Obligations.leases_swaps_and_shaper_ticks := by
  unfold Obligations.leases_swaps_and_shaper_ticks
  refine ⟨?_, ?_, ?_, ?_, ?_, ?_, ?_, ?_, ?_, ?_, ?_, ?_, ?_, ?_⟩
  · intro s t stn e l hs hin he hl hne
    subst hl
    refine State.runs_live (f := (·.leaseRequest t.val)) rfl hs ?_
    rw [State.leaseRequest_granted hin hne]
    refine ⟨fun k hk => ?_, s.poolTags_length _ _ _ _, fun hself => ⟨?_, ?_⟩⟩
    · rw [State.tagSt, State.sendMsg_fwd]
      exact State.tagSt_foldl_setTag _ e _ _ (.inl hk)
    · rw [State.sendMsg_self_inbox _ hself.symm, State.foldl_setTag_mesh, s.popped_inbox]
      rfl
    · exact (((State.pathOnly.refl s _).meshUp _).foldl_setTag e _ _ List.mem_cons_self).sendMsg_self hself.symm _
  · intro s t stn e hs hin hl
    exact State.runs_live (f := (·.leaseRequest t.val)) rfl hs (State.leaseRequest_waits hin hl)
  · intro s x e l hs hin he
    refine State.runs_live (f := (·.leaseGrant x.val)) rfl hs ?_
    rw [State.leaseGrant_taken hin]
    refine ⟨?_, ?_, ?_, ?_⟩
    · rw [State.leaseOf_of_fwd (State.updTagWait_fwd _ _)]
      exact State.leaseOf_setLease _ _ _ _
    · rw [State.updTagWait_fwd]
      simp
    · rw [State.updTagWait_mesh]
      exact s.popped_inbox _
    · exact ((((State.pathOnly.refl s _).meshUp _).fwdUp _).fwdUp _).updTagWait e List.mem_cons_self
  · intro s x egress at_ hs hat hdue hsz hfree
    subst hat
    refine State.runs_live (f := (·.leaseReturn x.val egress.val)) rfl hs ?_
    rw [State.leaseReturn_due egress.isLt hsz hfree hdue]
    refine ⟨?_, fun hself => ⟨?_, ?_⟩⟩
    · rw [State.leaseOf_of_fwd (State.updTagWait_fwd _ _), State.leaseOf_of_fwd (State.sendMsg_fwd _ _ _ _)]
      exact State.leaseOf_setLease _ _ _ _
    · rw [State.updTagWait_mesh, State.sendMsg_self_inbox _ hself]
      rfl
    · exact (((State.pathOnly.refl s _).fwdUp _).sendMsg_self hself _).updTagWait _ List.mem_cons_self
  · intro s x egress hs hearly
    exact State.runs_live (f := (·.leaseReturn x.val egress.val)) rfl hs (State.leaseReturn_early hearly)
  · intro s x e hs hin
    refine State.runs_live (f := (·.swapMessage x.val)) rfl hs ?_
    rw [State.swapMessage_taken hin]
    refine ⟨?_, fun hself => ⟨?_, ?_⟩⟩
    · rw [State.gateBankOf, State.sendMsg_fwd]
      exact State.gateBankOf_swapAt (s.popped x.val) x.val e
    · rw [State.sendMsg_self_inbox _ hself]
      exact congrArg (· ++ _) (s.popped_inbox _)
    · exact (((State.pathOnly.refl s _).meshUp _).fwdUp _).sendMsg_self hself _
  · intro s x e hs hin hx he
    have hsent := State.injected_sendMsg ((s.popped x.val).swapAt x.val .fwd e) (show x.val ≠ stnMgt0 by rw [stnMgt0]; omega) (.swapAck .fwd x.val)
    have hswap := (s.popped x.val).only_swapAt_fwd x.val e
    obtain ⟨hstat, hint⟩ := (s.popped x.val).raises_swapAt_fwd x.val e
    refine State.runs_live (f := (·.swapMessage x.val)) rfl hs ?_
    rw [State.swapMessage_taken hin]
    refine ⟨?_, ⟨?_, ?_⟩, ?_, ?_, ?_⟩
    · rw [State.get_eq, hsent.rd _ (by simp [meshNames])]
      exact State.swapAt_fwd_epoch _ _ he
    · rw [hsent.rd _ (by simp [meshNames, Trip.stat])]
      exact hstat
    · rw [hsent.rd _ (by simp [meshNames, Trip.int]), hsent.rd _ (by simp [meshNames, Trip.stat])]
      exact hint
    · rw [hsent.inbox]
      exact (congrArg (fun t : State => t.mesh.inbox.lookD x.val []) hswap.2).trans (s.popped_inbox _)
    · rw [State.sendMsg_fwd]
      exact hswap.fwd
    · rw [hsent.cfg]
      exact (congrArg State.cfg hswap.2 :)
  · intro s x src egress c q n k hs hin _ hport htrunk hv htakes hopen hw
    obtain ⟨hrate, hdec, hcount⟩ := State.shEcho_open (s := s.popped x.val) hopen hw
    refine ⟨_, exec_congestionEcho hs hin, ?_⟩
    rw [State.echoResolve_upstream (s := s.popped x.val) egress q n hport htrunk hv htakes]
    exact ⟨hrate, hdec, hcount, by rw [State.shEcho_mesh]; exact s.popped_inbox _⟩
  · intro s x src egress c q n k hs hin _ hport htrunk hv htakes hopen
    obtain ⟨hrate, hspoiled, hcount⟩ := State.shEcho_closed (s := s.popped x.val) hopen
    refine ⟨_, exec_congestionEcho hs hin, ?_⟩
    rw [State.echoResolve_upstream (s := s.popped x.val) egress q n hport htrunk hv htakes]
    exact ⟨hrate, hspoiled, hcount, by rw [State.shEcho_mesh]; exact s.popped_inbox _⟩
  · intro s x hs hen hdue hecho hrise hw
    refine State.runs_live (f := (·.shRecover x.val)) rfl hs ?_
    have hrate : max (s.get F.SH_STAT_RATE_CUR [x.val]) (min (s.shRate x.val) (s.get F.SH_STAT_RATE_CUR [x.val] + s.shAi x.val)) =
        s.get F.SH_STAT_RATE_CUR [x.val] + s.shAi x.val := by omega
    rw [State.shRecover_rises hen hdue hecho, hrate]
    refine ⟨?_, by rw [State.sh_shPut], ?_⟩
    · rw [State.rate_shPut, State.get_set_same _ _ _ _ (by decide), Nat.mod_eq_of_lt (hrise.trans_lt hw)]
    · exact State.only_mono (State.only_trans (s.only_set F.SH_STAT_RATE_CUR [x.val] _) (State.shPut_only _ _ _)) (by simp) (by simp)
  · intro s x hs hen hdue hecho
    refine State.runs_live (f := (·.shRecover x.val)) rfl hs ?_
    rw [State.shRecover_spoiled hen hdue hecho]
    exact ⟨State.rate_shPut _ _ _, by rw [State.sh_shPut], by rw [State.sh_shPut], s.shPut_only _ _⟩
  · intro s x hs hearly
    exact State.runs_live (f := (·.shRecover x.val)) rfl hs (State.shRecover_early hearly)
  · intro s x hs hdue
    refine State.runs_live (f := (·.shWindow x.val)) rfl hs ?_
    rw [State.shWindow_due hdue]
    exact ⟨by rw [State.sh_shPut], by rw [State.sh_shPut], by rw [State.sh_shPut], State.rate_shPut _ _ _, s.shPut_only _ _⟩
  · intro s x hs hearly
    exact State.runs_live (f := (·.shWindow x.val)) rfl hs (State.shWindow_early hearly)

end Sys2Proof.Machine
end

section
/-!
SUPPORT. A packet that its source sends (R18 steps 3 and 4, R151, R207, R440): its number and held copy, what the ingress shaper and the entry into the
mesh leave alone, and the tracker entry of a request (R175).
-/

namespace Sys2Proof.Machine

/-- The registers that sending a packet can change. -/
def sendNames : List RN := meshNames ++ [.SH_STAT, .PMG_SHCNT, .PMG_ERR_STAT, .PMG_ERR_INT]

section
variable (s : State)

/-! ### The ingress shaper -/

theorem State.shCharge_fwd (x len : Nat) : (s.shCharge x len).fwd = s.fwd := by
  unfold State.shCharge
  split <;> rfl

theorem State.shCharge_rd (x len : Nat) {r : Reg} (hr : r.n ≠ .SH_STAT) : (s.shCharge x len).rd r = s.rd r := by
  unfold State.shCharge
  split
  · exact State.shPut_rd _ _ _ (fun e => hr (by rw [e]))
  · rfl

theorem State.only_shWait (x : Nat) (w : Bool) : s.only (s.shWait x w) [⟨.PMG_SHCNT, [x, 2]⟩, ⟨.SH_STAT, [x]⟩] [.pmg] :=
  State.only_mono (State.only_trans (s.only_when _ _ (s.only_shCount x 2 1)) (State.only_set _ F.SH_STAT_WAIT [x] _)) (by simp) (by simp)

theorem State.shWait_rd (x : Nat) (w : Bool) {r : Reg} (hr : r.n ∉ sendNames) : (s.shWait x w).rd r = s.rd r := by
  refine (s.only_shWait x w).1 r (fun h => hr ?_) (fun y hy => ⟨fun e => hr ?_, fun e => hr ?_, fun e => hr ?_⟩)
  · simp only [List.mem_cons, List.not_mem_nil, or_false] at h
    rcases h with rfl | rfl <;> simp [sendNames]
  · rw [List.mem_singleton.mp hy] at e
    simp [e, sendNames, Trip.stat]
  · rw [List.mem_singleton.mp hy] at e
    simp [e, sendNames, Trip.int]
  · simp [e, sendNames, meshNames]

/-! ### The way into the mesh -/

theorem State.launch_fwd (p : Pkt) : ∃ q, (s.launch p).fwd = { s.fwd with lostQ := q } := by
  have h := (s.injected_injectAt (s.exitRouter (pktStn p) p.egress) p).fwd
  unfold State.launch
  split <;> rename_i heq <;> rw [heq] at h
  · exact ⟨s.fwd.lostQ, h⟩
  · exact ⟨_, congrArg (fun f : FwdSt => { f with lostQ := f.lostQ ++ [p] }) h⟩

theorem State.launch_rd (p : Pkt) {r : Reg} (hr : r.n ∉ meshNames) : (s.launch p).rd r = s.rd r := by
  have h := (s.injected_injectAt (s.exitRouter (pktStn p) p.egress) p).rd r hr
  unfold State.launch
  split <;> rename_i heq <;> rw [heq] at h
  · exact h
  · exact h

/-- A packet is not sent to the escape channels at the router where it enters (R207). -/
def State.entersNormal (p : Pkt) : Prop := s.escVec (s.exitRouter (pktStn p) p.egress) p.dest = false

variable {s} in
/-- A packet that enters on the normal channels is injected. -/
theorem State.launch_lostQ {p : Pkt} (h : s.entersNormal p) : (s.launch p).fwd.lostQ = s.fwd.lostQ := by
  have hfwd := (s.injected_injectAt (s.exitRouter (pktStn p) p.egress) p).fwd
  have hin : (s.injectAt (s.exitRouter (pktStn p) p.egress) p).2 = true := by
    unfold State.injectAt
    dsimp only
    rw [if_neg (fun hesc => absurd (h.symm.trans hesc.1) (by decide))]
  unfold State.launch
  split <;> rename_i heq <;> rw [heq] at hfwd hin
  · exact congrArg FwdSt.lostQ hfwd
  · cases hin

variable {s} in
theorem State.entersNormal.shCharge {p : Pkt} (h : s.entersNormal p) (x len : Nat) : (s.shCharge x len).entersNormal p := by
  have hget (f : Fld) (ix : List Nat) (hf : f.reg ≠ .SH_STAT) : (s.shCharge x len).get f ix = s.get f ix := by
    rw [State.get_eq, s.shCharge_rd x len hf, State.get_eq]
  have hrtr (r : Nat) : (s.shCharge x len).rtrOk r = s.rtrOk r := by
    rw [State.rtrOk, State.on_eq, State.on_eq, hget _ _ (by decide), hget _ _ (by decide)]
    rfl
  have hx16 (t : Nat) : (s.shCharge x len).isX16 t = s.isX16 t := by
    rw [State.isX16, hget _ _ (by decide), hget _ _ (by decide)]
    rfl
  have hexit : (s.shCharge x len).exitRouter = s.exitRouter := by
    funext y e
    unfold State.exitRouter
    simp only [hrtr, hx16]
  rw [State.entersNormal, hexit, State.escVec, hget _ _ (by decide), hget _ _ (by decide)]
  exact h

/-! ### Sending into a stream -/

/-- A packet under the next number of its stream. -/
def State.numbered (p : Pkt) : Pkt :=
  { p with seq := s.nextSeq p.key, dest := s.entryRouter (p.egress / 4), flits := flitsOf p.bytes }

/-- The next number of the packet's stream is taken, and its copy is held (R151). -/
def State.kept (p : Pkt) : State := s.fwdUp (fun f => { f with
  streams := f.streams.put p.key ((s.nextSeq p.key + 1) % 65536)
  held := f.held.put (p.key, s.nextSeq p.key) (s.numbered p) })

variable {s} in
/-- A packet that is sent is held, and enters the mesh, passes the shaper into the mesh, or waits for the shaper (R440). -/
theorem State.sendPkt_cases {p : Pkt} (h : p.stomp = 0) : s.sendPkt p = (s.kept p).launch (s.numbered p) ∨
    (∃ x n, s.sendPkt p = ((s.kept p).shCharge x n).launch (s.numbered p)) ∨
    ∃ x q, s.sendPkt p = ((s.kept p).fwdUp (fun f => { f with ingq := q })).shWait x true := by
  have hkept : s.fwdUp (fun f => { f with
      streams := f.streams.put (p.srcId, p.egress, p.sc) ((s.nextSeq (p.srcId, p.egress, p.sc) + 1) % 65536)
      held := if p.stomp = 0 then f.held.put ((p.srcId, p.egress, p.sc), s.nextSeq (p.srcId, p.egress, p.sc)) (s.numbered p) else f.held }) =
      s.kept p := by
    simp only [if_pos h]
    rfl
  have hsend : s.sendPkt p = match (s.kept p).ingShaper (s.numbered p) with
      | some x =>
        if ((s.kept p).fwd.ingq.lookD x []).isEmpty ∧ (s.kept p).shGrants x then
          ((s.kept p).shCharge x (pktIngressLen (s.numbered p))).launch (s.numbered p)
        else ((s.kept p).fwdUp (fun f => { f with ingq := f.ingq.upd x [] (· ++ [s.numbered p]) })).shWait x true
      | none => (s.kept p).launch (s.numbered p) := by
    rw [← hkept]
    rfl
  rw [hsend]
  split
  · split
    · exact .inr (.inl ⟨_, _, rfl⟩)
    · exact .inr (.inr ⟨_, _, rfl⟩)
  · exact .inl rfl

section
variable {s} {p : Pkt} (h : p.stomp = 0)
include h

/-- Sending changes the numbers, the held copies, the shaper's queue and the lost packets of the forwarding path. -/
theorem State.sendPkt_fwd : ∃ iq lq, (s.sendPkt p).fwd = { (s.kept p).fwd with ingq := iq, lostQ := lq } := by
  rcases State.sendPkt_cases (s := s) h with heq | ⟨x, n, heq⟩ | ⟨x, q, heq⟩
  · obtain ⟨l, hl⟩ := (s.kept p).launch_fwd (s.numbered p)
    exact ⟨_, l, heq ▸ hl⟩
  · obtain ⟨l, hl⟩ := ((s.kept p).shCharge x n).launch_fwd (s.numbered p)
    exact ⟨_, l, by rw [heq, hl, State.shCharge_fwd]⟩
  · exact ⟨q, _, by rw [heq, (State.only_shWait _ _ _).fwd]; rfl⟩

theorem State.sendPkt_rd {r : Reg} (hr : r.n ∉ sendNames) : (s.sendPkt p).rd r = s.rd r := by
  have hmesh : r.n ∉ meshNames := fun m => hr (List.mem_append_left _ m)
  have hsh : r.n ≠ .SH_STAT := fun e => hr (by simp [e, sendNames])
  rcases State.sendPkt_cases (s := s) h with heq | ⟨x, n, heq⟩ | ⟨x, q, heq⟩ <;> rw [heq]
  · exact State.launch_rd _ _ hmesh
  · exact (State.launch_rd _ _ hmesh).trans (State.shCharge_rd _ _ _ hsh)
  · exact State.shWait_rd _ _ _ hr

/-- A packet for which the normal channels stand open is not lost. -/
theorem State.sendPkt_lostQ (hd : s.entersNormal (s.numbered p)) : (s.sendPkt p).fwd.lostQ = s.fwd.lostQ := by
  have hd' : (s.kept p).entersNormal (s.numbered p) := hd
  rcases State.sendPkt_cases (s := s) h with heq | ⟨x, n, heq⟩ | ⟨x, q, heq⟩ <;> rw [heq]
  · exact State.launch_lostQ hd'
  · rw [State.launch_lostQ (hd'.shCharge x n), State.shCharge_fwd]
    rfl
  · rw [(State.only_shWait _ _ _).fwd]
    rfl

theorem State.sendPkt_held : (s.sendPkt p).heldOf p.key (s.nextSeq p.key) = some (s.numbered p) := by
  obtain ⟨iq, lq, hf⟩ := State.sendPkt_fwd (s := s) h
  rw [State.heldOf, hf]
  exact AMap.look_put_same ..

theorem State.sendPkt_nextSeq : (s.sendPkt p).nextSeq p.key = (s.nextSeq p.key + 1) % 65536 := by
  obtain ⟨iq, lq, hf⟩ := State.sendPkt_fwd (s := s) h
  rw [State.nextSeq, hf]
  exact AMap.lookD_put_same ..

end

/-! ### Tracker entries and leases -/

theorem State.updTrkStat_fwd (x : Nat) : (s.updTrkStat x).fwd = s.fwd := by
  unfold State.updTrkStat
  split
  · exact State.when_fwd (State.only_event _ _ _).fwd
  · rfl

theorem State.putTrk_fwd (x i : Nat) (e : TrkE) : (s.putTrk x i (some e)).fwd = { s.fwd with trk := s.fwd.trk.put (x, i) e } :=
  State.updTrkStat_fwd _ x

theorem State.askLease_fwd (x p : Nat) : ∃ l, (s.askLease x p).fwd = { s.fwd with leaseAsk := l } := by
  unfold State.askLease
  dsimp only
  split
  · exact ⟨_, State.sendMsg_fwd _ _ _ _⟩
  · exact ⟨s.fwd.leaseAsk, rfl⟩

theorem State.still_askLease (x p : Nat) : (s.askLease x p).still = s.still := by
  unfold State.askLease
  dsimp only
  split
  · exact (State.still_sendMsg _ _ _ _).trans rfl
  · rfl

end

end Sys2Proof.Machine
end

section
/-!
SUPPORT. The ingress tile (R141, R142, R151, R160, R165): a TLP counted, its receive credits, the way of a clean posted request through the checks, and
requests that wait at step 3 (R151, R259).
-/

namespace Sys2Proof.Machine

/-! ### Frames composed -/

section
variable {s t u : State} {l l' : List Reg} {xs xs' : List Trip}

theorem State.keeps.trans (h : s.keeps t l xs) (h' : t.keeps u l' xs') : s.keeps u (l ++ l') (xs ++ xs') := by
  intro r hr hx
  rw [List.mem_append, not_or] at hr
  exact (h' r hr.2 (fun x m => hx x (List.mem_append_right _ m))).trans (h r hr.1 (fun x m => hx x (List.mem_append_left _ m)))

theorem State.keeps.mono (h : s.keeps u l xs) (hl : l ⊆ l') (hx : xs ⊆ xs') : s.keeps u l' xs' :=
  fun r hr hr' => h r (fun m => hr (hl m)) (fun x m => hr' x (hx m))

/-- A register that the frame does not list, and that belongs to no triple. -/
theorem State.keeps.rd (h : s.keeps u l xs) {r : Reg} (hr : r ∉ l) (hn : r.n ∉ tripNames) : u.rd r = s.rd r :=
  h r hr (fun x _ => r.apart_of_name hn x)

/-- An event of the integrity or completion triple of a port that comes after changes of other registers and of the port's count triple. -/
theorem State.keeps.raises_portEvent {p e : Nat} (h : s.keeps t l [.port p 7]) (hl : ∀ r ∈ l, r.n ∈ [RN.PT_CNT, .PT_GATE_STAT]) (he : e = 1 ∨ e = 3)
    (b : Nat) : s.raises (t.portEvent p e b) (.port p e) b := by
  have hsame (r : Reg) (hr : r ∈ [(Trip.port p e).stat, (Trip.port p e).mask]) : t.rd r = s.rd r := by
    refine h r (fun m => ?_) (fun x m => ?_)
    · have := hl r m
      rcases he with rfl | rfl <;> simp only [List.mem_cons, List.not_mem_nil, or_false] at hr <;>
        rcases hr with rfl | rfl <;> simp [Trip.stat, Trip.mask] at this
    · rw [List.mem_singleton.mp m]
      rcases he with rfl | rfl <;> simp only [List.mem_cons, List.not_mem_nil, or_false] at hr <;>
        rcases hr with rfl | rfl <;> simp [Trip.stat, Trip.int, Trip.mask]
  refine (State.raisedIn_event t (.port p e) b ?_).within hsame (fun _ _ => rfl)
  rcases he with rfl | rfl <;> simp [Trip.mask, tripNames]

end

section
variable (s : State) (p : Nat) (t : Tlp)

/-! ### Events and counts of a port -/

theorem State.portCount_fwd (c n : Nat) : (s.portCount p c n).fwd = s.fwd := (s.only_portCount p c n).fwd

theorem State.portCount_mesh (c n : Nat) : (s.portCount p c n).mesh = s.mesh := s.count_mesh _ _ _

theorem State.only_portEvent (e b : Nat) : s.only (s.portEvent p e b) [] [.port p e] := s.only_event _ _

theorem State.portEvent_fwd (e b : Nat) : (s.portEvent p e b).fwd = s.fwd := (s.only_portEvent p e b).fwd

theorem State.portEvent_mesh (e b : Nat) : (s.portEvent p e b).mesh = s.mesh := (congrArg State.mesh (s.only_portEvent p e b).2 :)

theorem State.sentGrows_portCount (c n : Nat) : s.sentGrows (s.portCount p c n) := s.sentGrows_count _ _ _

theorem State.sentGrows_portEvent (e b : Nat) : s.sentGrows (s.portEvent p e b) := s.sentGrows_event _ _

theorem State.counts_portCount (c n : Nat) : s.counts (s.portCount p c n) (portCnt p c) n :=
  s.counts_count _ _ _ (by
    rintro x hx
    rw [← Option.mem_some_iff.mp hx]
    exact Reg.apart_of_name (by simp [tripNames]) _)

/-! ### A TLP received is counted -/

theorem State.bwAdd_kept (k n : Nat) :
    (s.bwAdd p k n).regs = s.regs ∧ (s.bwAdd p k n).fwd = s.fwd ∧ (s.bwAdd p k n).mesh = s.mesh ∧ (s.bwAdd p k n).sent = s.sent := by
  unfold State.bwAdd
  dsimp only
  split <;> exact ⟨rfl, rfl, rfl, rfl⟩

theorem State.bwAdd_rd (k n : Nat) (r : Reg) : (s.bwAdd p k n).rd r = s.rd r := by rw [State.rd, (s.bwAdd_kept p k n).1, State.rd]

theorem State.countRecv_fwd : (s.countRecv p t).fwd = s.fwd :=
  (State.bwAdd_kept _ p _ _).2.1.trans ((State.portCount_fwd _ _ _ _).trans (s.portCount_fwd _ _ _))

theorem State.countRecv_mesh : (s.countRecv p t).mesh = s.mesh :=
  (State.bwAdd_kept _ p _ _).2.2.1.trans ((State.portCount_mesh _ _ _ _).trans (s.portCount_mesh _ _ _))

theorem State.keeps_countRecv : s.keeps (s.countRecv p t) [portCnt p 0, portCnt p 1] [.port p 7] :=
  fun r hr hx => (State.bwAdd_rd _ _ _ _ r).trans
    (((s.only_portCount p 0 1).1.trans (State.only_portCount _ p 1 _).1) r (by simpa using hr) (by simpa using hx))

theorem State.counts_countRecv : s.counts (s.countRecv p t) (portCnt p 0) := by
  rw [State.counts, State.countRecv, State.bwAdd_rd, (State.only_portCount _ p 1 _).rd (by simp) (by simp [tripNames])]
  exact s.counts_portCount p 0 1

theorem State.still_countRecv : (s.countRecv p t).still = s.still := by
  rw [State.countRecv, State.still_bwAdd, State.still_portCount, State.still_portCount]

theorem State.sentGrows_countRecv : s.sentGrows (s.countRecv p t) :=
  ((s.sentGrows_count _ _ _).trans (State.sentGrows_count _ _ _ _)).trans (State.sentGrows_of_eq (State.bwAdd_kept _ p _ _).2.2.2)

/-! ### Receive credits -/

@[simp] theorem State.useCredit_rd (r : Reg) : (s.useCredit p t).rd r = s.rd r := rfl
@[simp] theorem State.useCredit_mesh : (s.useCredit p t).mesh = s.mesh := rfl
@[simp] theorem State.useCredit_sent : (s.useCredit p t).sent = s.sent := rfl

theorem State.still_useCredit : (s.useCredit p t).still = s.still := rfl

/-- The receive credits of a TLP are free again, and the link partner is told (R165). -/
def State.creditReturned : State :=
  (s.fwdUp (fun f => { f with credit := f.credit.upd (p, tlpClass t) (0, 0) (fun c => (c.1 - 1, c.2 - tlpDataCredits t)) })).emit
    (.credits p (tlpClass t) 1 (tlpDataCredits t))

@[simp] theorem State.creditReturned_rd (r : Reg) : (s.creditReturned p t).rd r = s.rd r := rfl
@[simp] theorem State.creditReturned_cfg : (s.creditReturned p t).cfg = s.cfg := rfl
@[simp] theorem State.creditReturned_mesh : (s.creditReturned p t).mesh = s.mesh := rfl
@[simp] theorem State.creditReturned_held : (s.creditReturned p t).fwd.held = s.fwd.held := rfl
@[simp] theorem State.creditReturned_waits : (s.creditReturned p t).fwd.waits = s.fwd.waits := rfl
@[simp] theorem State.creditReturned_lostQ : (s.creditReturned p t).fwd.lostQ = s.fwd.lostQ := rfl
@[simp] theorem State.creditReturned_sq (q c : Nat) : (s.creditReturned p t).sq q c = s.sq q c := rfl

theorem State.mem_creditReturned {u : State} (h : u.sentGrows s) :
    .credits p (tlpClass t) 1 (tlpDataCredits t) ∈ (s.creditReturned p t).sent.drop u.sent.length :=
  h.mem (State.sentGrows.mem_of_emit (State.sentGrows_refl _))

variable {s p} in
theorem State.freeCredit_of_port (h : s.isTrunk p = false) : s.freeCredit p t = s.creditReturned p t := if_neg (by rw [h]; decide)

/-! ### Answers of the tile -/

@[simp] theorem State.answerTlp_rd (c : Nat) (r : Reg) : (s.answerTlp p c t).rd r = s.rd r := rfl
@[simp] theorem State.answerTlp_cfg (c : Nat) : (s.answerTlp p c t).cfg = s.cfg := rfl
@[simp] theorem State.answerTlp_mesh (c : Nat) : (s.answerTlp p c t).mesh = s.mesh := rfl
@[simp] theorem State.answerTlp_waits (c : Nat) : (s.answerTlp p c t).fwd.waits = s.fwd.waits := rfl
@[simp] theorem State.answerTlp_sent (c : Nat) : (s.answerTlp p c t).sent = s.sent := rfl

/-- An answer is the last of its queue. -/
theorem State.answerTlp_last (c : Nat) : ((s.answerTlp p c t).sq p c).getLast?.map (fun k => k.body) = some (.tlp t) := by
  rw [State.sq, State.answerTlp, State.fwdUp_fwd]
  dsimp only
  rw [AMap.upd, AMap.lookD_put_same, List.getLast?_concat]
  rfl

end

/-! ### The checks, step by step -/

section
variable {s : State} {p : Nat} {t : Tlp} {k : State → Nat → Nat → Route → Tlp → State} {pick : Nat}

/-- A port that takes TLPs acts on them by their link check (R141, R142). -/
theorem State.ingress_open (hwidth : s.portWidth p ≠ 0) (hup : s.inL0 p = true) (hrole : s.role p ≠ 2) (hide : p ∉ s.lnk.ideBad) (chk : LinkChk) :
    s.ingress k p t chk pick =
      match chk with
      | .good => ((s.countRecv p t).checkedTlp k p t pick 0).settled
      | .replayed => s.aer (s.senderOf (s.tableOf (p / 4)) p t) .aerBadTlp
      | .badTail =>
        if s.pon F.PP_STAT_FLIT p then s.aer (s.senderOf (s.tableOf (p / 4)) p t) .aerBadTlp
        else (((s.portCount p 5).aer (s.senderOf (s.tableOf (p / 4)) p t) .aerBadTlp).checkedTlp k p t pick 1).settled := by
  have hopen : ¬ (s.portWidth p = 0 ∨ ¬ s.inL0 p ∨ s.role p = 2 ∨ p ∈ s.lnk.ideBad) := by simp [hwidth, hup, hrole, hide]
  exact (if_neg hopen).trans rfl

/-- A malformed TLP of a host is counted, raised and reported, and its credits return (R141). -/
theorem State.checkedTlp_malformed {v : Nat} (hmal : t.malformed = true) (hsrc : s.senderOf (s.tableOf (p / 4)) p t = .host v) :
    s.checkedTlp k p t pick 0 = ((((s.useCredit p t).portCount p 18).portEvent p 1 3).cfSet (.up v) .aerMalformed 1).freeCredit p t := by
  rw [State.checkedTlp, if_pos (.inl hmal), hsrc]
  rfl

/-- A write that passes the checks is looked up (R142, R143). -/
theorem State.checkedTlp_write {v : Nat} (hmal : t.malformed = false) (hide : t.idePrefix = false) (hecrc : t.ecrc = false) (hpoison : t.poison = false)
    (hkind : t.kind = .mwr) (hsrc : s.senderOf (s.tableOf (p / 4)) p t = .host v) (hmps : tlpPayload t ≤ s.mpsOf (s.tableOf (p / 4)) p (.host v)) :
    s.checkedTlp k p t pick 0 = (s.useCredit p t).lookupTlp k p (.host v) (s.tableOf (p / 4)) t pick 0 := by
  rw [State.checkedTlp, hsrc]
  dsimp only
  rw [if_neg (by simp [hmal, hide, hmps]), if_neg (by simp [hecrc]), hpoison, hkind]
  rfl

/-- A request of a host that the lookup forwards is decided (R143). -/
theorem State.lookupTlp_forwarded {v stomp : Nat} {T : FwdTable} {d : Dec} (h : s.routeFrom T (p / 4) (.host v) t = .fwd d) :
    s.lookupTlp k p (.host v) T t pick stomp = s.decided p (.host v) t d pick stomp := by
  have hroute : (if (Sender.host v = .nobody ∧ s.role p = 0 ∧ (t.kind = .cfgrd ∨ t.kind = .cfgwr)) then Route.retry
      else s.routeFrom T (p / 4) (.host v) t) = .fwd d := (if_neg (fun hn => absurd hn.1 (by simp))).trans h
  unfold State.lookupTlp
  rw [hroute]

/-- A TLP with a good ECRC for an egress port that is not contained, with nothing that its link cannot represent, goes to step 3 (R72, R265, R268). -/
theorem State.decided_open {x : Sender} {d : Dec} {stomp : Nat} (hecrc : t.ecrcBad = false) (hcarries : t.carries = 0)
    (hcont : d.egress < 144 → s.pget F.PT_CONT_CONTAINED d.egress = 0) :
    s.decided p x t d pick stomp = s.step3 p p (s.bindDec (p / 4) d) t pick stomp := by
  have hrep : s.representable d.egress t = true := by simp [State.representable, hcarries]
  rw [State.decided, if_neg (by simp [hecrc]), if_neg (fun ⟨hlt, hon⟩ => by simp [State.pon, hcont hlt] at hon), if_neg (by simp [hrep])]

/-- A posted request with room in its stream is sent (R151, R152). -/
theorem State.step3_posted {src port stomp : Nat} {d : Dec} (hclass : tlpClass t ≠ 1) (hroom : s.streamLoad (src, d.egress, d.sc) < 4096)
    (hwaits : s.fwd.waits = []) : s.step3 src port d t pick stomp = s.sendPkt (d.pkt src 0 stomp) := by
  rw [State.step3, if_neg hclass, if_pos ⟨hroom, by simp [hwaits]⟩]

end

/-! ### Requests that wait -/

section
variable {s : State} {n pick i tag : Nat} {w : WaitNp}

/-- A waiting request has left the list. -/
def State.unwait (s : State) (n : Nat) : State := s.fwdUp (fun f => { f with waits := f.waits.eraseIdx n })

theorem State.npResume_ready (hw : s.fwd.waits[n]? = some w) (hclass : tlpClass w.req = 1) (hready : s.npReady w.src w.dec pick = some (i, tag)) :
    s.npResume n pick = ((s.unwait n).trackSend w.src (w.port % 4) w.dec w.req i tag 0).updTagWait w.dec.egress := by
  rw [State.npResume, hw]
  dsimp only
  rw [if_pos hclass, hready]
  rfl

theorem State.npResume_waits (hw : s.fwd.waits[n]? = some w) (hready : s.npReady w.src w.dec pick = none) : s.npResume n pick = s := by
  rw [State.npResume, hw]
  dsimp only
  rw [hready]
  exact ite_self _

theorem State.npTimeout_early (hw : s.fwd.waits[n]? = some w) (h : s.now ≤ w.since + s.timeoutNs w.dec.egress) : s.npTimeout n = s := by
  rw [State.npTimeout, hw]
  exact if_neg (fun hdue => absurd hdue.2 (by omega))

/-- The tracker entry that a request takes (R242). -/
def State.newEntry (s : State) (slot : Nat) (d : Dec) (req : Tlp) (tag : Nat) : TrkE :=
  { reqId := req.rid, tag := req.tag, egress := d.egress, etag := tag, slot := slot, kind := req.kind, sc := d.sc, vdsp := d.vdsp, remain := tlpRemain req,
    tAlloc := s.now / 1000 % 2 ^ 32, mbr := d.mbr, to_ := s.timeoutNs d.egress, tc := req.tc, ro := req.ro, ido := req.ido, addr := req.addr,
    bytes := tlpBytes d.tlp }

/-- A request has taken its entry and the first tag of the lease. -/
def State.tracked (s : State) (src slot : Nat) (d : Dec) (req : Tlp) (i tag : Nat) : State :=
  (s.setLease (stnOfSrc src) d.egress ((s.leaseOf (stnOfSrc src) d.egress).drop 1)).putTrk (stnOfSrc src) i (some (s.newEntry slot d req tag))

/-- The decision of a request with its egress tag in the place of its own. -/
def Dec.tagged (d : Dec) (tag : Nat) : Dec := { d with tlp := { d.tlp with tag := tag } }

theorem State.trackSend_eq (s : State) (src slot : Nat) (d : Dec) (req : Tlp) (i tag : Nat) :
    s.trackSend src slot d req i tag 0 = ((s.tracked src slot d req i tag).sendPkt ((d.tagged tag).pkt src i 0)).askLease (stnOfSrc src) d.egress := rfl

theorem State.still_trackSend (s : State) (src slot : Nat) (d : Dec) (req : Tlp) (i tag : Nat) :
    (s.trackSend src slot d req i tag 0).still = s.still := by
  rw [State.trackSend_eq, State.still_askLease, State.still_sendPkt, State.tracked, State.still_putTrk, State.still_setLease]

theorem State.tracked_fwd (s : State) (src slot : Nat) (d : Dec) (req : Tlp) (i tag : Nat) :
    (s.tracked src slot d req i tag).fwd = { (s.setLease (stnOfSrc src) d.egress ((s.leaseOf (stnOfSrc src) d.egress).drop 1)).fwd with
      trk := s.fwd.trk.put (stnOfSrc src, i) (s.newEntry slot d req tag) } := State.putTrk_fwd _ _ _ _

/-- What a tracked request leaves in the forwarding path, the shaper's queue, lost packets and the lease asked for aside. -/
theorem State.trackSend_fwd (s : State) (src slot : Nat) (d : Dec) (req : Tlp) (i tag : Nat) :
    ∃ iq lq la, (s.trackSend src slot d req i tag 0).fwd =
      { ((s.tracked src slot d req i tag).kept ((d.tagged tag).pkt src i 0)).fwd with ingq := iq, lostQ := lq, leaseAsk := la } := by
  obtain ⟨iq, lq, hsent⟩ := State.sendPkt_fwd (s := s.tracked src slot d req i tag) (p := (d.tagged tag).pkt src i 0) rfl
  obtain ⟨la, hask⟩ := ((s.tracked src slot d req i tag).sendPkt ((d.tagged tag).pkt src i 0)).askLease_fwd (stnOfSrc src) d.egress
  exact ⟨iq, lq, la, by rw [State.trackSend_eq, hask, hsent]⟩

end

end Sys2Proof.Machine
end

section
/-!
PROOF of the statement about TLPs that arrive and requests that wait (R80, R141, R142, R151, R152, R160, R165, R175, R242, R259).
-/

namespace Sys2Proof.Machine

/-! ### A posted write that is forwarded -/

section
variable {s r : State} {p : Nat} {t : Tlp} {d : Dec}

/-- The packet of a posted write that is bound to its egress (R151). -/
def State.boundPkt (s : State) (p : Nat) (t : Tlp) (d : Dec) : Pkt := ((s.useCredit p t).bindDec (p / 4) d).pkt p 0 0

theorem State.boundPkt_entersNormal (hp : p < 144) (h : r.escVec (r.exitRouter (p / 4) d.egress) (r.entryRouter (d.egress / 4)) = false) :
    (r.useCredit p t).entersNormal ((r.useCredit p t).numbered (r.boundPkt p t d)) := by
  have hstn : pktStn ((r.useCredit p t).numbered (r.boundPkt p t d)) = p / 4 := if_pos hp
  rw [State.entersNormal, hstn]
  exact h

/-- A clean posted write for an open egress with room is sent, and nothing is lost (R142, R151). -/
theorem State.ingress_write {k : State → Nat → Nat → Route → Tlp → State} {pick v : Nat} (hr : r = s.countRecv p t) (hwidth : s.portWidth p ≠ 0)
    (hup : s.inL0 p = true) (hrole : s.role p ≠ 2) (hide : p ∉ s.lnk.ideBad)
    (hchecked : r.checkedTlp k p t pick 0 = (r.useCredit p t).lookupTlp k p (.host v) (r.tableOf (p / 4)) t pick 0)
    (hroute : (r.useCredit p t).routeFrom (r.tableOf (p / 4)) (p / 4) (.host v) t = .fwd d)
    (hdecided : (r.useCredit p t).decided p (.host v) t d pick 0 = (r.useCredit p t).sendPkt (r.boundPkt p t d))
    (hnormal : (r.useCredit p t).entersNormal ((r.useCredit p t).numbered (r.boundPkt p t d))) (hlost : s.fwd.lostQ = []) :
    s.ingress k p t .good pick = (r.useCredit p t).sendPkt (r.boundPkt p t d) := by
  have hlostr : (r.useCredit p t).fwd.lostQ = [] := by
    rw [← hlost, ← s.countRecv_fwd p t, ← hr]
    rfl
  rw [State.ingress_open hwidth hup hrole hide, ← hr]
  dsimp only
  rw [hchecked, State.lookupTlp_forwarded hroute, hdecided]
  exact State.settled_of_noLoss ((State.sendPkt_lostQ rfl hnormal).trans hlostr)

/-- The credits of a posted write stand beside what sending it changes (R80). -/
theorem State.credit_boundPkt (hr : r = s.countRecv p t) (hclass : tlpClass t = 0) :
    ((r.useCredit p t).sendPkt (r.boundPkt p t d)).fwd.credit.lookD (p, 0) (0, 0) =
      ((s.fwd.credit.lookD (p, 0) (0, 0)).1 + 1, (s.fwd.credit.lookD (p, 0) (0, 0)).2 + tlpDataCredits t) := by
  obtain ⟨iq, lq, hsent⟩ := State.sendPkt_fwd (s := r.useCredit p t) (p := r.boundPkt p t d) rfl
  have hcredit : (r.useCredit p t).fwd.credit = s.fwd.credit.upd (p, 0) (0, 0) (fun c => (c.1 + 1, c.2 + tlpDataCredits t)) := by
    rw [State.useCredit, State.fwdUp_fwd, hr, s.countRecv_fwd p t, hclass]
  rw [hsent]
  change (r.useCredit p t).fwd.credit.lookD (p, 0) (0, 0) = _
  rw [hcredit]
  exact AMap.lookD_put_same ..

end

/-- The ports of trunks stand in PP_CTL and PT_CUT (R271 to R273). -/
theorem State.isTrunk_congr {s u : State} (h : ∀ r : Reg, r.n = .PP_CTL ∨ r.n = .PT_CUT → u.rd r = s.rd r) (p : Nat) : u.isTrunk p = s.isTrunk p := by
  have hcut : u.get F.PT_CUT_CUT = s.get F.PT_CUT_CUT := funext (fun ix => by rw [State.get_eq, h _ (.inr rfl), State.get_eq])
  have hctl (f : Fld) (hf : f.reg = .PP_CTL) (q : Nat) : u.pget f q = s.pget f q := by
    rw [State.pget, State.get_eq, h _ (.inl hf), ← State.get_eq, State.pget]
  have hwidth (q : Nat) : u.portWidth q = s.portWidth q := by
    rw [State.portWidth, State.cutOf, State.isX16, hcut]
    rfl
  have hrole (q : Nat) : u.role q = s.role q := by simp only [State.role, hctl F.PP_CTL_ROLE rfl]
  simp only [State.isTrunk, State.kfpPorts, hwidth, hrole, State.pon, hctl F.PP_CTL_ENABLE rfl]

/-! ### A malformed TLP -/

section
variable (s : State) (p : Nat) (t : Tlp) (v : Nat)

/-- A TLP is counted as received and holds its receive credits. -/
def State.received : State := (s.countRecv p t).useCredit p t

/-- A malformed TLP is counted, raised and reported (R141). -/
def State.malformedNoted : State := (((s.received p t).portCount p 18).portEvent p 1 3).cfSet (.up v) .aerMalformed 1

theorem State.keeps_received : s.keeps (s.received p t) [portCnt p 0, portCnt p 1] [.port p 7] := fun r hr hx =>
  (State.useCredit_rd _ p t r).trans (s.keeps_countRecv p t r hr hx)

theorem State.keeps_malformedCounted :
    s.keeps ((s.received p t).portCount p 18) [portCnt p 0, portCnt p 1, portCnt p 18] [.port p 7] :=
  ((s.keeps_received p t).trans ((s.received p t).only_portCount p 18 1).1).mono (by simp) (by simp)

theorem State.malformedNoted_rd (r : Reg) : (s.malformedNoted p t v).rd r = (((s.received p t).portCount p 18).portEvent p 1 3).rd r := by
  rw [State.malformedNoted, State.rd, State.cfSet_regs, State.rd]

theorem State.counts_malformedNoted : s.counts (s.malformedNoted p t v) (portCnt p 18) := by
  refine State.counts_congr ((s.keeps_received p t).rd (by simp) (by simp [tripNames])) ?_
  rw [State.counts, State.malformedNoted_rd, (State.only_portEvent _ p 1 3).rd (by simp) (by simp [tripNames])]
  exact (s.received p t).counts_portCount p 18 1

theorem State.raises_malformedNoted : s.raises (s.malformedNoted p t v) (.port p 1) 3 := by
  rw [State.raises, State.malformedNoted_rd, State.malformedNoted_rd]
  exact (s.keeps_malformedCounted p t).raises_portEvent (by simp) (.inl rfl) 3

theorem State.keeps_malformedNoted :
    s.keeps (s.malformedNoted p t v) [portCnt p 0, portCnt p 1, portCnt p 18] [.port p 1, .port p 7] := fun r hr hx =>
  (s.malformedNoted_rd p t v r).trans (((s.keeps_malformedCounted p t).trans (State.only_portEvent _ p 1 3).1).mono (by simp) (by simp) r hr hx)

theorem State.malformedNoted_fwd : (s.malformedNoted p t v).fwd = (s.received p t).fwd := by
  rw [State.malformedNoted, State.cfSet_fwd, State.portEvent_fwd, State.portCount_fwd]

theorem State.malformedNoted_kept : (s.malformedNoted p t v).fwd.held = s.fwd.held ∧ (s.malformedNoted p t v).fwd.lostQ = s.fwd.lostQ := by
  rw [State.malformedNoted_fwd, State.received, State.useCredit, State.fwdUp_fwd, State.countRecv_fwd]
  exact ⟨rfl, rfl⟩

theorem State.malformedNoted_mesh : (s.malformedNoted p t v).mesh = s.mesh := by
  rw [State.malformedNoted, State.cfSet_mesh, State.portEvent_mesh, State.portCount_mesh, State.received, State.useCredit_mesh, State.countRecv_mesh]

theorem State.malformedNoted_isTrunk : (s.malformedNoted p t v).isTrunk p = (s.countRecv p t).isTrunk p := by
  refine State.isTrunk_congr (fun r hr => ?_) p
  have hn : r.n ∉ tripNames := by rcases hr with h | h <;> rw [h] <;> decide
  have hcnt : r ≠ portCnt p 18 := by rintro rfl; simp at hr
  rw [State.malformedNoted_rd, (State.only_portEvent _ p 1 3).rd (by simp) hn, (State.only_portCount _ p 18 1).rd (by simpa using hcnt) hn,
    State.received, State.useCredit_rd]

theorem State.sentGrows_malformedNoted : s.sentGrows (s.malformedNoted p t v) := by
  have hreceived : s.sentGrows (s.received p t) := (s.sentGrows_countRecv p t).trans (State.sentGrows_of_eq (State.useCredit_sent _ p t))
  refine (hreceived.trans (((s.received p t).sentGrows_portCount p 18 1).trans (State.sentGrows_portEvent _ p 1 3))).trans (State.sentGrows_of_eq ?_)
  rw [State.malformedNoted, State.cfSet_sent]

end

/-! ### A request that has waited too long -/

section
variable {s : State}

variable (s) in
theorem State.pathOnly_updTagWait (e : Nat) : s.pathOnly (s.updTagWait e) [⟨.PT_GATE_STAT, [e / 4, e % 4]⟩] :=
  (State.pathOnly.refl s _).updTagWait e List.mem_cons_self

theorem State.pathOnly.keeps {u : State} {l : List Reg} (h : s.pathOnly u l) : s.keeps u l [] := And.left h

theorem State.pathOnly.cfg {u : State} {l : List Reg} (h : s.pathOnly u l) : u.cfg = s.cfg := (congrArg State.cfg h.2 :)

theorem State.pathOnly.journal {u : State} {l : List Reg} (h : s.pathOnly u l) : u.journal = s.journal := (congrArg State.journal h.2 :)

variable (s) (n p e : Nat)

/-- A request has left the list, and its egress shows who waits. -/
def State.gaveUp : State := (s.unwait n).updTagWait e

/-- A timeout is counted and raised at the port (R259). -/
def State.timeoutNoted : State := ((s.gaveUp n e).portCount p 13).portEvent p 3 3

theorem State.keeps_gaveUp : s.keeps (s.gaveUp n e) [⟨.PT_GATE_STAT, [e / 4, e % 4]⟩] [] := (State.pathOnly_updTagWait (s.unwait n) e).keeps

theorem State.keeps_timeoutCounted :
    s.keeps ((s.gaveUp n e).portCount p 13) [portCnt p 13, ⟨.PT_GATE_STAT, [e / 4, e % 4]⟩] [.port p 7] :=
  ((s.keeps_gaveUp n e).trans (State.only_portCount _ p 13 1).1).mono (by simp) (by simp)

theorem State.keeps_timeoutNoted :
    s.keeps (s.timeoutNoted n p e) [portCnt p 13, ⟨.PT_GATE_STAT, [e / 4, e % 4]⟩] [.port p 3, .port p 7] :=
  ((s.keeps_timeoutCounted n p e).trans (State.only_portEvent _ p 3 3).1).mono (by simp) (by simp)

theorem State.raises_timeoutNoted : s.raises (s.timeoutNoted n p e) (.port p 3) 3 :=
  (s.keeps_timeoutCounted n p e).raises_portEvent (by simp) (.inr rfl) 3

theorem State.counts_timeoutNoted : s.counts (s.timeoutNoted n p e) (portCnt p 13) := by
  have hevent : (s.timeoutNoted n p e).rd (portCnt p 13) = ((s.gaveUp n e).portCount p 13).rd (portCnt p 13) :=
    (State.only_portEvent _ p 3 3).rd (by simp) (by simp [tripNames])
  refine State.counts_congr ((s.keeps_gaveUp n e).rd (by simp) (by simp [tripNames])) ?_
  rw [State.counts, hevent]
  exact (s.gaveUp n e).counts_portCount p 13 1

theorem State.still_timeoutNoted : (s.timeoutNoted n p e).still = (s.gaveUp n e).still :=
  (State.still_portEvent _ p 3 3).trans (State.still_portCount _ p 13 1)

theorem State.timeoutNoted_cfg : (s.timeoutNoted n p e).cfg = s.cfg :=
  (State.cfg_of_still (s.still_timeoutNoted n p e)).trans (State.pathOnly_updTagWait (s.unwait n) e).cfg

theorem State.timeoutNoted_waits : (s.timeoutNoted n p e).fwd.waits = s.fwd.waits.eraseIdx n := by
  rw [State.timeoutNoted, State.portEvent_fwd, State.portCount_fwd, State.gaveUp, State.updTagWait_fwd]
  rfl

theorem State.timeoutNoted_mesh : (s.timeoutNoted n p e).mesh = s.mesh := by
  rw [State.timeoutNoted, State.portEvent_mesh, State.portCount_mesh, State.gaveUp, State.updTagWait_mesh]
  rfl

theorem State.timeoutNoted_isTrunk : (s.timeoutNoted n p e).isTrunk p = s.isTrunk p :=
  (State.isTrunk_of_still _ (s.still_timeoutNoted n p e) p).trans
    (State.isTrunk_congr (fun r hr => (s.keeps_gaveUp n e) r (by rcases r with ⟨rn, ix⟩; rcases hr with rfl | rfl <;> simp) (by simp)) p)

theorem State.sentGrows_timeoutNoted : s.sentGrows (s.timeoutNoted n p e) := by
  have hgave : s.sentGrows (s.gaveUp n e) := by
    refine State.sentGrows_of_eq ?_
    unfold State.gaveUp State.updTagWait
    split <;> rfl
  exact (hgave.trans (State.sentGrows_portCount _ p 13 1)).trans (State.sentGrows_portEvent _ p 3 3)

variable {s n} in
/-- A request of a port that is overdue is answered with Completer Abort, and its credits return (R259). -/
theorem State.npTimeout_due {w : WaitNp} (hw : s.fwd.waits[n]? = some w) (hclass : tlpClass w.req = 1) (hsrc : w.src < 144)
    (hdue : w.since + s.timeoutNs w.dec.egress < s.now) :
    s.npTimeout n = ((s.timeoutNoted n w.src w.dec.egress).answerTlp w.src w.dec.sc (cplFor w.req 4 (s.synthCid w.dec.vdsp w.dec.egress))).freeCredit
      w.src w.req := by
  rw [State.npTimeout, hw]
  dsimp only
  rw [if_pos ⟨hclass, hdue⟩, if_pos hsrc]
  rfl

end

/-! ### The statement -/

/-- Settles O26, row by row: a TLP that arrives by its link check and the checks of the tile, and a request that waits by what it finds. -/
theorem tlpsThatArriveAndWait : Obligations.tlps_that_arrive_and_wait := by
  unfold Obligations.tlps_that_arrive_and_wait
  refine ⟨?_, ?_, ?_, ?_, ?_, ?_, ?_⟩
  · intro s r port t pick v d hs hr hwidth hup hrole hide hkind hmal hprefix hecrc hbad hpoison hcarries hsrc hmps hroute hcont hroom _ hwaits hlost hesc
    have hclass : tlpClass t = 0 := by rw [tlpClass, hkind]
    have hfwd : r.fwd = s.fwd := by rw [hr, State.countRecv_fwd]
    have hstill : ((r.useCredit port.val t).sendPkt (r.boundPkt port.val t d)).still = s.still := by
      rw [State.still_sendPkt, State.still_useCredit, hr, State.still_countRecv]
    have hsend : ((r.useCredit port.val t).decided port.val (.host v) t d pick.val 0) =
        (r.useCredit port.val t).sendPkt (r.boundPkt port.val t d) := by
      rw [State.decided_open (s := r.useCredit port.val t) hbad hcarries hcont]
      exact State.step3_posted (by rw [hclass]; decide) hroom ((congrArg FwdSt.waits hfwd).trans hwaits)
    refine State.runs_live (f := fun s => s.ingress (fun s p k r t => s.terminate p k r t) port.val t .good pick.val) rfl hs ?_
    rw [State.ingress_write hr hwidth hup hrole hide (State.checkedTlp_write hmal hprefix hecrc hpoison hkind hsrc hmps) hroute hsend
      (State.boundPkt_entersNormal port.isLt hesc) hlost]
    refine ⟨?_, ?_, State.credit_boundPkt hr hclass, ?_, State.cfg_of_still hstill, State.journal_of_still hstill⟩
    · have hheld := State.sendPkt_held (s := r.useCredit port.val t) (p := r.boundPkt port.val t d) rfl
      exact congrArg (Option.map (fun k : Pkt => (k.body, k.vdsp, k.resend))) hheld
    · exact State.sendPkt_nextSeq (s := r.useCredit port.val t) (p := r.boundPkt port.val t d) rfl
    · rw [State.counts, State.sendPkt_rd rfl (by simp [sendNames, meshNames]), State.useCredit_rd, hr]
      exact s.counts_countRecv port.val t
  · intro s r port t pick v hs hr hwidth hup hrole hide hmal hlost htrunk hsrc
    subst hr
    obtain ⟨hheld, hnoloss⟩ := s.malformedNoted_kept port.val t v
    have hnoted : ((s.countRecv port.val t).checkedTlp (fun s p k r t => s.terminate p k r t) port.val t pick.val 0) =
        (s.malformedNoted port.val t v).creditReturned port.val t :=
      (State.checkedTlp_malformed hmal hsrc).trans (State.freeCredit_of_port t ((s.malformedNoted_isTrunk port.val t v).trans htrunk))
    refine State.runs_live (f := fun s => s.ingress (fun s p k r t => s.terminate p k r t) port.val t .good pick.val) rfl hs ?_
    rw [State.ingress_open hwidth hup hrole hide]
    dsimp only
    rw [hnoted, State.settled_of_noLoss ((State.creditReturned_lostQ _ _ _).trans (hnoloss.trans hlost))]
    refine ⟨?_, ?_, ?_, State.mem_creditReturned _ _ _ (s.sentGrows_malformedNoted port.val t v), ?_, ?_, fun r hr hx => ?_⟩
    · rw [State.counts, State.creditReturned_rd]
      exact s.counts_malformedNoted port.val t v
    · rw [State.raises, State.creditReturned_rd, State.creditReturned_rd]
      exact s.raises_malformedNoted port.val t v
    · rw [State.cf, State.creditReturned_cfg, ← State.cf, State.malformedNoted, State.cf_cfSet_same]
    · rw [State.creditReturned_held, hheld]
    · rw [State.creditReturned_mesh, State.malformedNoted_mesh]
    · rw [State.creditReturned_rd]
      exact s.keeps_malformedNoted port.val t v r hr hx
  · intro s port t pick v hs hwidth hup hrole hide hsrc
    refine State.runs_live (f := fun s => s.ingress (fun s p k r t => s.terminate p k r t) port.val t .replayed pick.val) rfl hs ?_
    rw [State.ingress_open hwidth hup hrole hide]
    dsimp only
    rw [hsrc]
    rfl
  · intro s n pick w i etag hs hw hclass hready
    have hstill := (s.unwait n).still_trackSend w.src (w.port % 4) w.dec w.req i etag
    have htag := ((s.unwait n).trackSend w.src (w.port % 4) w.dec w.req i etag 0).pathOnly_updTagWait w.dec.egress
    have hkept := (s.unwait n).tracked_fwd w.src (w.port % 4) w.dec w.req i etag
    obtain ⟨iq, lq, la, hsent⟩ := (s.unwait n).trackSend_fwd w.src (w.port % 4) w.dec w.req i etag
    have hfwd := (State.updTagWait_fwd _ w.dec.egress).trans hsent
    refine State.runs_live (f := (·.npResume n pick.val)) rfl hs ?_
    rw [State.npResume_ready hw hclass hready]
    have hseq : ((s.unwait n).tracked w.src (w.port % 4) w.dec w.req i etag).nextSeq (w.src, w.dec.egress, w.dec.sc) =
        s.nextSeq (w.src, w.dec.egress, w.dec.sc) := by
      rw [State.nextSeq, hkept]
      rfl
    refine ⟨?_, ?_, ?_, ?_, htag.cfg.trans (State.cfg_of_still hstill), htag.journal.trans (State.journal_of_still hstill)⟩
    · rw [hfwd]
      exact (congrArg FwdSt.waits hkept :)
    · rw [State.trkOf, hfwd]
      change Option.map _ (((s.unwait n).tracked w.src (w.port % 4) w.dec w.req i etag).fwd.trk.look _) = _
      rw [hkept]
      dsimp only
      rw [AMap.look_put_same]
      rfl
    · rw [State.heldOf, hfwd, ← hseq]
      exact congrArg (Option.map (fun k : Pkt => (k.body, k.trk))) (AMap.look_put_same ..)
    · rw [State.leaseOf, hfwd]
      change ((s.unwait n).tracked w.src (w.port % 4) w.dec w.req i etag).fwd.leases.lookD _ _ = _
      rw [hkept]
      exact AMap.lookD_put_same ..
  · intro s n pick w hs hw hready
    exact State.runs_live (f := (·.npResume n pick.val)) rfl hs (State.npResume_waits hw hready)
  · intro s n w hs hw hclass hsrc hdue htrunk
    refine State.runs_live (f := (·.npTimeout n)) rfl hs ?_
    have hport : ((s.timeoutNoted n w.src w.dec.egress).answerTlp w.src w.dec.sc
        (cplFor w.req 4 (s.synthCid w.dec.vdsp w.dec.egress))).isTrunk w.src = false :=
      (State.isTrunk_of_still _ (State.still_answerTlp _ _ _ _) _).trans ((s.timeoutNoted_isTrunk n w.src w.dec.egress).trans htrunk)
    rw [State.npTimeout_due hw hclass hsrc hdue, State.freeCredit_of_port _ hport]
    refine ⟨?_, ?_, ?_, ?_, ?_, ?_, ?_, fun r hr hx => ?_⟩
    · rw [State.creditReturned_waits, State.answerTlp_waits, State.timeoutNoted_waits]
    · rw [State.counts, State.creditReturned_rd, State.answerTlp_rd]
      exact s.counts_timeoutNoted n w.src w.dec.egress
    · rw [State.raises, State.creditReturned_rd, State.creditReturned_rd, State.answerTlp_rd, State.answerTlp_rd]
      exact s.raises_timeoutNoted n w.src w.dec.egress
    · rw [State.creditReturned_sq]
      exact State.answerTlp_last _ _ _ _
    · have hsent := State.mem_creditReturned ((s.timeoutNoted n w.src w.dec.egress).answerTlp w.src w.dec.sc (cplFor w.req 4 (s.synthCid w.dec.vdsp w.dec.egress)))
        w.src w.req ((s.sentGrows_timeoutNoted n w.src w.dec.egress).trans (State.sentGrows_of_eq (State.answerTlp_sent _ _ _ _)))
      rwa [hclass] at hsent
    · rw [State.creditReturned_cfg, State.answerTlp_cfg, State.timeoutNoted_cfg]
    · rw [State.creditReturned_mesh, State.answerTlp_mesh, State.timeoutNoted_mesh]
    · rw [State.creditReturned_rd, State.answerTlp_rd]
      exact s.keeps_timeoutNoted n w.src w.dec.egress r hr hx
  · intro s n w hs hw hearly
    exact State.runs_live (f := (·.npTimeout n)) rfl hs (State.npTimeout_early hw hearly)

end Sys2Proof.Machine
end

section
/-!
SUPPORT. The rules that the mesh's commands share: what events and counts of a router do and keep (R452, R530, R531), and frames in which the mesh moves.
-/

namespace Sys2Proof.Machine

/-! ### The mesh beside registers and events -/

@[simp] theorem State.rd_meshUp (s : State) (f : Mesh → Mesh) (q : Reg) : (s.meshUp f).rd q = s.rd q := rfl

theorem State.event_mesh (s : State) (x : Trip) (b : Nat) : (s.event x b).mesh = s.mesh := (congrArg State.mesh (s.event_rest x b) :)

/-- A frame holds beside any mesh. -/
theorem State.only.remesh {s u : State} {l : List Reg} {xs : List Trip} (h : s.only u l xs) (m : Mesh) :
    ({ s with mesh := m } : State).only { u with mesh := m } l xs := ⟨h.1, congrArg (fun t : State => { t with mesh := m }) h.2⟩

theorem AMap.look_mapVal {κ α β : Type} [DecidableEq κ] (m : AMap κ α) (g : α → β) (k : κ) :
    AMap.look (m.map (fun e => (e.1, g e.2))) k = (m.look k).map g := by
  unfold AMap.look
  rw [List.find?_map, Option.map_map, Option.map_map]
  rfl

/-- An event that is raised stands in ERR_STAT (R452). -/
theorem State.event_statBit (s : State) (x : Trip) {b : Nat} (hb : b < 64) : ((s.event x b).rd x.stat).getLsbD b = true := by
  rw [State.event_rd_stat, BitVec.getLsbD_or, BitVec.getLsbD_ofNat, Nat.testBit_two_pow_self, decide_eq_true hb, Bool.and_self, Bool.or_true]

/-! ### Counters of a router -/

section
variable (s : State) (r c n : Nat)

theorem State.only_rtrCount : s.only (s.rtrCount r c n) [⟨.RTR_CNT, [r, c]⟩] [.router r] := s.only_count _ n (some (.router r, 8))

theorem State.counts_rtrCount : s.counts (s.rtrCount r c n) ⟨.RTR_CNT, [r, c]⟩ n :=
  s.counts_count _ n _ (fun x _ => Reg.apart_of_name (by simp [tripNames]) x.1)

variable {s r} in
/-- A count keeps what its router has raised. -/
theorem State.rtrCount_statBit {b : Nat} (h : (s.rd (Trip.router r).stat).getLsbD b = true) :
    ((s.rtrCount r c n).rd (Trip.router r).stat).getLsbD b = true := by
  have hwr (v : W64) : (s.wr ⟨.RTR_CNT, [r, c]⟩ v).rd (Trip.router r).stat = s.rd (Trip.router r).stat := s.rd_wr_ne v (by simp [Trip.stat])
  unfold State.rtrCount State.count
  dsimp only
  split
  · rw [State.event_rd_stat, hwr, BitVec.getLsbD_or, h, Bool.true_or]
  · rwa [hwr]

end

/-- A count of a register stands between changes that leave the register alone. -/
theorem State.counts_within {s t u v : State} {q : Reg} {n : Nat} (hs : t.rd q = s.rd q) (h : t.counts u q n) (hv : v.rd q = u.rd q) :
    s.counts v q n := by
  rw [State.counts, hv]
  exact State.counts_congr hs h

/-! ### What a change of the mesh leaves alone -/

/-- From `s` to `u` only the mesh, the registers of the names `L` and of the triples, and the messages change. -/
structure State.meshMoves (L : List RN) (s u : State) : Prop where
  word : ∀ r : Reg, r.n ∉ L → r.n ∉ tripNames → u.rd r = s.rd r
  rest : { u with regs := s.regs, mesh := s.mesh, sent := s.sent, msiWait := s.msiWait } = s

namespace State.meshMoves

variable {L : List RN} {s t u : State}

theorem refl (s : State) : meshMoves L s s := ⟨fun _ _ _ => rfl, rfl⟩

theorem of_only {l : List Reg} {xs : List Trip} (h : s.only u l xs) (hl : ∀ r ∈ l, r.n ∈ L) : meshMoves L s u :=
  ⟨fun _ hr hn => h.rd (fun m => hr (hl _ m)) hn, (congrArg (fun t : State => { t with mesh := s.mesh }) h.2 :)⟩

section
variable (h : meshMoves L s t)
include h

theorem trans (h' : meshMoves L t u) : meshMoves L s u :=
  ⟨fun r hr hn => (h'.word r hr hn).trans (h.word r hr hn),
    (congrArg (fun x : State => { x with regs := s.regs, mesh := s.mesh, sent := s.sent, msiWait := s.msiWait }) h'.rest).trans h.rest⟩

theorem mono {L' : List RN} (hL : L ⊆ L') : meshMoves L' s t := ⟨fun r hr hn => h.word r (fun m => hr (hL m)) hn, h.rest⟩

theorem meshUp (f : Mesh → Mesh) : meshMoves L s (t.meshUp f) := h.trans ⟨fun _ _ _ => rfl, rfl⟩

theorem set (f : Fld) (ix : List Nat) (v : Nat) (hf : f.reg ∈ L) : meshMoves L s (t.set f ix v) :=
  h.trans (of_only (t.only_set f ix v) (by simpa using hf))

theorem event (x : Trip) (b : Nat) : meshMoves L s (t.event x b) := h.trans (of_only (t.only_event x b) (by simp))

theorem rtrCount (r c n : Nat) (hL : .RTR_CNT ∈ L) : meshMoves L s (t.rtrCount r c n) :=
  h.trans (of_only (t.only_rtrCount r c n) (by simpa using hL))

theorem dropPkt (pid : Nat) : meshMoves L s (t.dropPkt pid) := h.meshUp _

theorem foldl {α : Type} (l : List α) {f : State → α → State} (hf : ∀ t a, meshMoves L s t → meshMoves L s (f t a)) : meshMoves L s (l.foldl f t) :=
  List.foldlRecOn (motive := meshMoves L s) l f h (fun t ht a _ => hf t a ht)

theorem cutHalf (r d : Nat) (hL : .RTR_CNT ∈ L) : meshMoves L s (t.cutHalf r d) := by
  unfold State.cutHalf
  split
  · exact h
  · exact ((h.foldl _ (fun _ pid ht => ht.dropPkt pid)).rtrCount r 12 _ hL).foldl _ (fun _ _ ht => (ht.meshUp _).meshUp _)

theorem get {f : Fld} (hL : f.reg ∉ L) (hn : f.reg ∉ tripNames) (ix : List Nat) : t.get f ix = s.get f ix := by
  rw [State.get_eq, h.word ⟨f.reg, ix⟩ hL hn, State.get_eq]

theorem cfg : t.cfg = s.cfg := (congrArg State.cfg h.rest :)

theorem fwd : t.fwd = s.fwd := (congrArg State.fwd h.rest :)

theorem flt : t.flt = s.flt := (congrArg State.flt h.rest :)

theorem journal : t.journal = s.journal := (congrArg State.journal h.rest :)

end

end State.meshMoves

end Sys2Proof.Machine
end

section
/-!
SUPPORT. Links and routers that fail (R191, R202, R203, R461): the fields of link states, a link cut at both its ends, and the journal entry of a
declaration.
-/

namespace Sys2Proof.Machine

/-! ### The states of links -/

/-- The field of RTR_LINK for a direction, west for 3 and above. -/
def linkFld (d : Nat) : Fld := ⟨.RTR_LINK, 2 * min d 3, 2⟩

theorem linkFld_fits (d : Nat) : (linkFld d).lo + (linkFld d).w ≤ 64 := by
  simp only [linkFld]
  omega

theorem neighbour_ne {r d n : Nat} (h : neighbour r d = some n) : n ≠ r := by
  rcases d with _ | _ | _ | _ | d <;> simp only [neighbour, Option.ite_none_right_eq_some, Option.some.injEq, reduceCtorEq] at h <;> omega

section
variable (s : State) (r d : Nat)

theorem State.linkState_eq : s.linkState r d = s.get (linkFld d) [r] := by
  rcases d with _ | _ | _ | d
  case succ.succ.succ => simp [State.linkState, linkFld]
  all_goals rfl

theorem State.setLinkState_eq (v : Nat) : s.setLinkState r d v = s.set (linkFld d) [r] v := by
  rcases d with _ | _ | _ | d
  case succ.succ.succ => simp [State.setLinkState, linkFld]
  all_goals rfl

theorem State.linkState_setLinkState_same : (s.setLinkState r d 2).linkState r d = 2 := by
  rw [State.linkState_eq, State.setLinkState_eq, State.get_set_same _ _ _ _ (linkFld_fits d)]
  rfl

theorem State.linkState_setLinkState_ne {r' : Nat} (h : r' ≠ r) (d' v : Nat) : (s.setLinkState r d v).linkState r' d' = s.linkState r' d' := by
  rw [State.linkState_eq, State.setLinkState_eq, State.get_set_disj _ _ _ _ _ _ (.inl (by simp [h])), ← State.linkState_eq]

variable {s} in
/-- No link comes up where one fails. -/
theorem State.linkState_setLinkState_down {r' d' : Nat} (h : s.linkState r' d' ≠ 1) : (s.setLinkState r d 2).linkState r' d' ≠ 1 := by
  rw [State.linkState_eq] at h
  rw [State.linkState_eq, State.setLinkState_eq]
  by_cases he : r' = r ∧ min d' 3 = min d 3
  · obtain ⟨rfl, hd⟩ := he
    rw [show linkFld d' = linkFld d by simp [linkFld, hd], State.get_set_same _ _ _ _ (linkFld_fits d)]
    simp [linkFld]
  · rw [State.get_set_disj _ _ _ _ _ _ ?_]
    · exact h
    · simp only [linkFld, ne_eq, Reg.mk.injEq, List.cons.injEq, and_true, true_and]
      omega

end

theorem State.meshMoves.linkState {L : List RN} {s u : State} (h : meshMoves L s u) (hL : .RTR_LINK ∉ L) (r d : Nat) :
    u.linkState r d = s.linkState r d := by
  rw [State.linkState_eq, h.get hL (by simp [linkFld, tripNames]), ← State.linkState_eq]

theorem State.meshMoves.setLinkState {L : List RN} {s t : State} (h : meshMoves L s t) (hL : .RTR_LINK ∈ L) (r d v : Nat) :
    meshMoves L s (t.setLinkState r d v) := by
  rw [State.setLinkState_eq]
  exact h.set _ _ _ hL

/-! ### A link that fails as a whole -/

/-- Both ends of a link fail, and with them what waits for it and what is under way on it (R203). -/
def State.linkCut (s : State) (r d n : Nat) : State := (((s.setLinkState r d 2).setLinkState n (oppDir d) 2).cutHalf r d).cutHalf n (oppDir d)

section
variable (s : State) (r d n : Nat)

theorem State.meshMoves_linkCut : meshMoves [.RTR_LINK, .RTR_CNT] s (s.linkCut r d n) :=
  ((((meshMoves.refl s).setLinkState (by decide) r d 2).setLinkState (by decide) n (oppDir d) 2).cutHalf r d (by decide)).cutHalf n (oppDir d) (by decide)

theorem State.linkState_linkCut (r' d' : Nat) :
    (s.linkCut r d n).linkState r' d' = ((s.setLinkState r d 2).setLinkState n (oppDir d) 2).linkState r' d' :=
  (((meshMoves.refl _).cutHalf r d (List.mem_singleton_self _)).cutHalf n (oppDir d) (List.mem_singleton_self _)).linkState (by decide) r' d'

theorem State.linkState_linkCut_far : (s.linkCut r d n).linkState n (oppDir d) = 2 :=
  (s.linkState_linkCut r d n _ _).trans (State.linkState_setLinkState_same _ _ _)

variable {n} in
theorem State.linkState_linkCut_near (h : n ≠ r) : (s.linkCut r d n).linkState r d = 2 := by
  rw [State.linkState_linkCut, State.linkState_setLinkState_ne _ _ _ h.symm, State.linkState_setLinkState_same]

variable {s} in
theorem State.linkState_linkCut_down {r' d' : Nat} (h : s.linkState r' d' ≠ 1) : (s.linkCut r d n).linkState r' d' ≠ 1 := by
  rw [State.linkState_linkCut]
  exact State.linkState_setLinkState_down _ _ (State.linkState_setLinkState_down _ _ h)

end

/-! ### Declarations -/

section
variable (s : State) {ty ix : Nat}

theorem State.declare_get {f : Fld} (h : f.reg ∉ [RN.MGR_JNL_SEQ, .GSV_DEG]) (iy : List Nat) : (s.declare ty ix).get f iy = s.get f iy := by
  simp only [List.mem_cons, List.not_mem_nil, or_false, not_or] at h
  rw [State.get_eq, (s.linkOnly_declare ty ix).keeps _ (by simp [h]) (by simp), State.get_eq]

theorem State.declare_cfg : (s.declare ty ix).cfg = s.cfg := (congrArg State.cfg (s.declare_rest ty ix) :)

theorem State.declare_fwd : (s.declare ty ix).fwd = s.fwd := (congrArg State.fwd (s.declare_rest ty ix) :)

theorem State.declare_linkState (r d : Nat) : (s.declare ty ix).linkState r d = s.linkState r d := by
  rw [State.linkState_eq, s.declare_get (by simp [linkFld]), ← State.linkState_eq]

variable {s} in
theorem State.declare_appends (h : (ty, ix) ∉ s.flt.failed) : (s.declare ty ix).flt.failed = s.flt.failed ++ [(ty, ix)] := by
  simp [State.declare, h, State.journalAdd]

/-- The bytes of a declaration: the type, then the index in two bytes (R491). -/
theorem declaredBody_read (hty : ty < 256) (hix : ix < 65536) (l : List Byte)
    (hl : l = padTo 64 [BitVec.ofNat 8 ty, 0, BitVec.ofNat 8 ix, BitVec.ofNat 8 (ix / 256)]) : leAt l 0 1 = ty ∧ leAt l 2 2 = ix := by
  subst hl
  simp [padTo, leAt, leNat]
  omega

variable {s} in
/-- The newest entry of the journal is that of the declaration (R461 step 1, R491). -/
theorem State.declare_journaled (h : (ty, ix) ∉ s.flt.failed) (hty : ty < 256) (hix : ix < 65536) :
    (s.declare ty ix).journal.getLast?.map (fun e => (e.kind, leAt e.body 0 1, leAt e.body 2 2)) = some (1, ty, ix) := by
  obtain ⟨body, hbody⟩ : ∃ l, l = padTo 64 [BitVec.ofNat 8 ty, 0, BitVec.ofNat 8 ix, BitVec.ofNat 8 (ix / 256)] := ⟨_, rfl⟩
  obtain ⟨htype, hindex⟩ := declaredBody_read hty hix body hbody
  have hjournal : (s.declare ty ix).journal = (s.journalAdd 1 4 0 0 body []).journal := by
    simp only [State.declare, if_neg h, State.bump_journal, hbody]
  have hlast := congrArg (Option.map (fun q => (q.2.1, leAt q.2.2.2 0 1, leAt q.2.2.2 2 2))) (s.journalAdd_getLast 1 4 0 0 body [])
  rw [Option.map_map, Option.map_some, htype, hindex] at hlast
  rw [hjournal]
  exact hlast

end

/-! ### A link that is declared failed -/

/-- A link that failed before its declaration: cut at both ends, raised and marked at the router that found it, and noted at both (R202, R203). -/
def State.linkFailed (s : State) (r d n : Nat) : State :=
  (((s.linkCut r d n).event (.router r) 0).setB F.RTR_ESC_CTL_REROUTE [r] true).meshUp (fun m => { m with
    failAt := (m.failAt.upd r [] (s.now :: ·)).upd n [] (s.now :: ·) })

section
variable {s : State} {r d n : Nat}

theorem State.failLink_up (hn : neighbour r d = some n) (hup : s.linkState r d = 1) : s.failLink r d = (s.linkFailed r d n).declare 1 (4 * r + d) := by
  rw [State.failLink, hn]
  dsimp only
  rw [if_neg (not_not_intro hup)]
  rfl

theorem State.failLink_notUp (h : s.linkState r d ≠ 1) : s.failLink r d = s := by
  unfold State.failLink
  split
  · rfl
  · exact if_pos h

variable (s r d n)

theorem State.meshMoves_cut_linkFailed : meshMoves [.RTR_ESC_CTL] (s.linkCut r d n) (s.linkFailed r d n) :=
  (((meshMoves.refl _).event (.router r) 0).set F.RTR_ESC_CTL_REROUTE [r] _ (by decide)).meshUp _

theorem State.meshMoves_linkFailed : meshMoves [.RTR_LINK, .RTR_CNT, .RTR_ESC_CTL] s (s.linkFailed r d n) :=
  ((s.meshMoves_linkCut r d n).mono (by simp)).trans ((s.meshMoves_cut_linkFailed r d n).mono (by simp))

theorem State.linkFailed_linkState (r' d' : Nat) : (s.linkFailed r d n).linkState r' d' = (s.linkCut r d n).linkState r' d' :=
  (s.meshMoves_cut_linkFailed r d n).linkState (by decide) r' d'

theorem State.linkFailed_reroute : (s.linkFailed r d n).get F.RTR_ESC_CTL_REROUTE [r] = 1 := by
  rw [State.linkFailed, State.get_eq, State.rd_meshUp, ← State.get_eq, State.get_setB _ _ _ _ (by decide) (by decide), bit_true]

theorem State.linkFailed_raised : ((s.linkFailed r d n).rd (Trip.router r).stat).getLsbD 0 = true := by
  rw [State.linkFailed, State.rd_meshUp, State.setB, State.rd_set_ne _ _ _ _ (by simp [Trip.stat])]
  exact State.event_statBit _ _ (by decide)

end

/-- What the declaration of a link does that was up between two routers: the link is failed at both ends, raised, marked for another route, journaled
and queued. -/
structure State.linkDeclared (s u : State) (r d n : Nat) : Prop where
  near : u.linkState r d = 2
  far : u.linkState n (oppDir d) = 2
  raised : (u.rd (Trip.router r).stat).getLsbD 0 = true
  reroute : u.get F.RTR_ESC_CTL_REROUTE [r] = 1
  queue : u.flt.queue = s.flt.queue ++ [(1, 4 * r + d)]
  failed : u.flt.failed = s.flt.failed ++ [(1, 4 * r + d)]
  journaled : u.journal.getLast?.map (fun e => (e.kind, leAt e.body 0 1, leAt e.body 2 2)) = some (1, 1, 4 * r + d)
  fwd : u.fwd = s.fwd
  cfg : u.cfg = s.cfg

/-- Whoever declares it, a link that is up fails as a whole (R191, R202, R203). -/
theorem State.linkDeclared_failLink {s : State} {r d n : Nat} (hr : r < 96) (hd : d < 4) (hn : neighbour r d = some n) (hup : s.linkState r d = 1)
    (hnew : (1, 4 * r + d) ∉ s.flt.failed) : s.linkDeclared (s.failLink r d) r d n := by
  have hmoves := s.meshMoves_linkFailed r d n
  rw [← hmoves.flt] at hnew
  rw [State.failLink_up hn hup]
  constructor
  · rw [State.declare_linkState, State.linkFailed_linkState, State.linkState_linkCut_near _ _ _ (neighbour_ne hn)]
  · rw [State.declare_linkState, State.linkFailed_linkState, State.linkState_linkCut_far]
  · rw [(State.linkOnly_declare _ _ _).keeps _ (by simp [Trip.stat]) (by simp)]
    exact s.linkFailed_raised r d n
  · rw [State.declare_get _ (by decide), State.linkFailed_reroute]
  · rw [State.declare_queue hnew, hmoves.flt]
  · rw [State.declare_appends hnew, hmoves.flt]
  · exact State.declare_journaled hnew (by decide) (by omega)
  · rw [State.declare_fwd, hmoves.fwd]
  · rw [State.declare_cfg, hmoves.cfg]

/-! ### A router that is declared failed -/

/-- A failed router's link in one direction fails, if it is up (R202). -/
def State.cutToward (r : Nat) (s : State) (d : Nat) : State :=
  match neighbour r d with
  | some n => if s.linkState r d = 1 then s.linkCut r d n else s
  | none => s

section
variable (s : State) (r : Nat)

/-- The links of a failed router go down, and then what waits in it is dropped. -/
theorem State.failRouterLinks_eq : ∃ pids : List Nat,
    s.failRouterLinks r = pids.foldl State.dropPkt ((List.range 4).foldl (State.cutToward r) s) := ⟨_, rfl⟩

variable {s} in
theorem State.meshMoves.cutToward {t : State} (h : meshMoves [.RTR_LINK, .RTR_CNT] s t) (d : Nat) : meshMoves [.RTR_LINK, .RTR_CNT] s (t.cutToward r d) := by
  unfold State.cutToward
  split
  · split
    · exact h.trans (t.meshMoves_linkCut r d _)
    · exact h
  · exact h

variable {s} in
theorem State.cutToward_down {r' d' : Nat} (d : Nat) (h : s.linkState r' d' ≠ 1) : (s.cutToward r d).linkState r' d' ≠ 1 := by
  unfold State.cutToward
  split
  · split
    · exact State.linkState_linkCut_down r d _ h
    · exact h
  · exact h

theorem State.cutToward_same {d n : Nat} (hn : neighbour r d = some n) : (s.cutToward r d).linkState r d ≠ 1 := by
  rw [State.cutToward, hn]
  dsimp only
  split
  · rw [State.linkState_linkCut_near _ _ _ (neighbour_ne hn)]
    decide
  · assumption

/-- After its directions are gone through, no link of the router is up in any of them. -/
theorem State.foldl_cutToward_down {d n : Nat} (hn : neighbour r d = some n) (ds : List Nat) (h : d ∈ ds ∨ s.linkState r d ≠ 1) :
    (ds.foldl (State.cutToward r) s).linkState r d ≠ 1 := by
  induction ds generalizing s with
  | nil => exact h.resolve_left List.not_mem_nil
  | cons e ds ih =>
    refine ih _ ?_
    by_cases he : d = e
    · subst he
      exact .inr (s.cutToward_same r hn)
    · exact h.imp (fun m => (List.mem_cons.mp m).resolve_left he) (State.cutToward_down r e)

theorem State.meshMoves_failRouterLinks : meshMoves [.RTR_LINK, .RTR_CNT] s (s.failRouterLinks r) := by
  obtain ⟨pids, heq⟩ := s.failRouterLinks_eq r
  rw [heq]
  exact ((meshMoves.refl s).foldl _ (fun _ d ht => ht.cutToward r d)).foldl _ (fun _ pid ht => ht.dropPkt pid)

theorem State.failRouterLinks_down {d n : Nat} (hn : neighbour r d = some n) (hd : d < 4) : (s.failRouterLinks r).linkState r d ≠ 1 := by
  obtain ⟨pids, heq⟩ := s.failRouterLinks_eq r
  have hdrop : meshMoves [] ((List.range 4).foldl (State.cutToward r) s) (s.failRouterLinks r) := by
    rw [heq]
    exact (meshMoves.refl _).foldl _ (fun _ pid ht => ht.dropPkt pid)
  rw [hdrop.linkState (by decide)]
  exact s.foldl_cutToward_down r hn _ (.inl (List.mem_range.mpr hd))

end

end Sys2Proof.Machine
end

section
/-!
SUPPORT. A flit that moves (R180, R186, R188, R196 to R200): the requester that is served, what a hop does to the mesh, and what it counts.
-/

namespace Sys2Proof.Machine

/-! ### The requester that is served -/

/-- Where no grant is held, the only requester is served (R196, R200). -/
theorem State.served_single (s : State) (r : Nat) {a : OutArb} (x : (Nat × Nat) × Flit × Pkt) (h : a.holder = none) : s.served r a [x] = some x := by
  unfold State.served
  rw [h]
  dsimp only
  cases hp : a.pend.findSome? (fun h => [x].find? (fun y => y.1 == h)) with
  | none => rfl
  | some y =>
    obtain ⟨iv, -, hy⟩ := List.exists_of_findSome?_eq_some hp
    rw [List.mem_singleton.mp (List.mem_of_find?_eq_some hy)]

/-! ### The parts of a hop -/

/-- A flit leaves the FIFO of a link, whose channel owes a credit (R186). -/
def Mesh.leaves (m : Mesh) (kin : VcId) : Mesh :=
  { m with fifos := m.fifos.put kin ((m.fifos.lookD kin []).drop 1), owed := m.owed.upd kin 0 (· + 1) }

/-- A flit enters the next router's FIFO, for a credit; its packet holds the channel until the tail (R185, R186). -/
def Mesh.enters (m : Mesh) (k : VcId) (f : Flit) : Mesh :=
  { m with fifos := m.fifos.upd k [] (· ++ [f]), cred := m.cred.upd k 8 (· - 1), hold := if f.tail then m.hold.del k else m.hold.put k f.pid }

/-- A flit that came by a link moves through an output: into the next router, or into the station, where the packet of a tail has landed (R188). -/
def Mesh.moved (m : Mesh) (r : Nat) (b : Bool) (out : Nat) (iv : Nat × Nat) (f : Flit) : Mesh :=
  match outChan r out b iv.2 with
  | some k => (m.leaves ⟨r, iv.1, b, iv.2⟩).enters k f
  | none => if f.tail then { m.leaves ⟨r, iv.1, b, iv.2⟩ with landed := m.landed ++ [(r, f.pid)] } else m.leaves ⟨r, iv.1, b, iv.2⟩

/-- The output's counter counts, and an escape flit also in its own counter and in the next router's ESC_EMPTY (R208, R532). -/
def State.hopCounted (s : State) (r c : Nat) (esc : Bool) (next : Option VcId) : State :=
  let s1 := (s.rtrCount r c).when esc (·.rtrCount r 10)
  match next with
  | some k => s1.when esc (·.setB F.RTR_ESC_CTL_ESC_EMPTY [k.r] false)
  | none => s1

/-- The blocked requesters of an output are counted before the hop. -/
def State.blockCounted (s : State) (c : Bool) (r : Nat) (b : Bool) : State := s.when c (·.rtrCount r (if b then 15 else 14))

/-- A packet whose head cannot be read is dropped, counted and raised (R180). -/
def State.headDropped (s : State) (r pid : Nat) : State := ((s.dropPkt pid).rtrCount r 12).event (.router r) 1

/-! ### What a moved flit leaves behind and what it reaches -/

section
variable {m : Mesh} {r : Nat} {b : Bool} {out : Nat} {iv : Nat × Nat} {f : Flit}

theorem Mesh.moved_next {k : VcId} (hk : outChan r out b iv.2 = some k) : m.moved r b out iv f = (m.leaves ⟨r, iv.1, b, iv.2⟩).enters k f := by
  rw [Mesh.moved, hk]

theorem Mesh.moved_local (htail : f.tail = true) :
    m.moved r b 4 iv f = { m.leaves ⟨r, iv.1, b, iv.2⟩ with landed := m.landed ++ [(r, f.pid)] } := if_pos htail

/-- The next FIFO is at another router than the one that the flit leaves. -/
theorem outChan_ne {k : VcId} {vc : Nat} (hk : outChan r out b vc = some k) (p : Nat) (b' : Bool) (vc' : Nat) : k ≠ ⟨r, p, b', vc'⟩ := by
  obtain ⟨n, hn, rfl⟩ := Option.map_eq_some_iff.mp hk
  exact fun h => neighbour_ne hn (congrArg VcId.r h)

theorem Mesh.leaves_fifo (m : Mesh) (k : VcId) : (m.leaves k).fifos.lookD k [] = (m.fifos.lookD k []).drop 1 := AMap.lookD_put_same ..

theorem Mesh.leaves_owed (m : Mesh) (k : VcId) : (m.leaves k).owed.lookD k 0 = m.owed.lookD k 0 + 1 := AMap.lookD_put_same ..

theorem Mesh.enters_fifo (m : Mesh) (k : VcId) (f : Flit) : (m.enters k f).fifos.lookD k [] = m.fifos.lookD k [] ++ [f] := AMap.lookD_put_same ..

theorem Mesh.enters_cred (m : Mesh) (k : VcId) (f : Flit) : (m.enters k f).cred.lookD k 8 = m.cred.lookD k 8 - 1 := AMap.lookD_put_same ..

theorem Mesh.enters_hold (m : Mesh) (k : VcId) (f : Flit) : (m.enters k f).hold.look k = if f.tail then none else some f.pid := by
  unfold Mesh.enters
  dsimp only
  split
  · exact AMap.look_del_same ..
  · exact AMap.look_put_same ..

end

/-! ### What a hop amounts to -/

section
variable {s : State} {room : Pkt → Bool} {r : Nat} {b : Bool} {out : Nat} {iv : Nat × Nat} {f : Flit} {p : Pkt}

/-- A flit that came by a link moves in the mesh, and is counted. -/
theorem State.moveFlit_link (hlink : iv.1 < 4) :
    s.moveFlit r b out iv f p = (s.meshUp (·.moved r b out iv f)).hopCounted r ((if b then 5 else 0) + out) p.esc (outChan r out b iv.2) := by
  simp only [State.moveFlit, State.hopCounted, State.meshUp, Mesh.moved, if_pos hlink]
  cases outChan r out b iv.2 with
  | some k => rfl
  | none => cases f.tail <;> rfl

/-- The only requester of a free output sends its flit (R188, R196). -/
theorem State.hop_sends (hreq : s.requesters room r b out = [(iv, f, p)]) (hfree : (s.mesh.outs.lookD (r, out, b) {}).holder = none)
    (hlink : iv.1 < 4) :
    ∃ c w o, s.hop room r b out .none = (((s.blockCounted c r b).meshUp (·.moved r b out iv f)).hopCounted r ((if b then 5 else 0) + out) p.esc
      (outChan r out b iv.2)).meshUp (fun m => { m with waits := w, outs := o }) := by
  unfold State.hop
  rw [hreq]
  dsimp only
  rw [State.served_single _ _ _ hfree]
  dsimp only
  rw [if_neg (by simp), State.moveFlit_link hlink]
  exact ⟨_, _, _, rfl⟩

/-- A head that cannot be read on the local input is dropped with its packet, counted and raised (R180). -/
theorem State.hop_drops (hreq : s.requesters room r b out = [(iv, f, p)]) (hfree : (s.mesh.outs.lookD (r, out, b) {}).holder = none)
    (hlocal : iv.1 = 4) (hhead : f.idx = 0) :
    ∃ c, s.hop room r b out .headUe = (s.blockCounted c r b).headDropped r f.pid := by
  unfold State.hop
  rw [hreq]
  dsimp only
  rw [State.served_single _ _ _ hfree]
  dsimp only
  rw [if_pos ⟨rfl, hhead⟩, State.headerUe, if_neg (by omega)]
  exact ⟨_, rfl⟩

end

section
variable (s : State) (r c : Nat)

theorem State.only_blockCounted (e b : Bool) : s.only (s.blockCounted e r b) [⟨.RTR_CNT, [r, if b then 15 else 14]⟩] [.router r] :=
  s.only_when e _ (s.only_rtrCount r _ 1)

theorem State.blockCounted_mesh (e b : Bool) : (s.blockCounted e r b).mesh = s.mesh := (congrArg State.mesh (s.only_blockCounted r e b).2 :)

/-- The count of blocked requesters is not that of an output. -/
theorem State.blockCounted_cnt (e b : Bool) (hc : c < 14) : (s.blockCounted e r b).rd ⟨.RTR_CNT, [r, c]⟩ = s.rd ⟨.RTR_CNT, [r, c]⟩ := by
  refine (s.only_blockCounted r e b).rd ?_ (by simp [tripNames])
  cases b <;> simp <;> omega

/-- What follows the output's count: that of escape flits, and the mark at the next router. -/
theorem State.only_hopCounted (esc : Bool) (next : Option VcId) :
    (s.rtrCount r c).only (s.hopCounted r c esc next) (⟨.RTR_CNT, [r, 10]⟩ :: next.toList.map (fun k => ⟨.RTR_ESC_CTL, [k.r]⟩)) [.router r] := by
  have hesc : (s.rtrCount r c).only ((s.rtrCount r c).when esc (·.rtrCount r 10)) [⟨.RTR_CNT, [r, 10]⟩] [.router r] :=
    State.only_when _ esc _ (State.only_rtrCount _ r 10 1)
  cases next with
  | none => exact hesc
  | some k =>
    have hmark := State.only_when ((s.rtrCount r c).when esc (·.rtrCount r 10)) esc (·.setB F.RTR_ESC_CTL_ESC_EMPTY [k.r] false)
      (State.only_set _ F.RTR_ESC_CTL_ESC_EMPTY [k.r] (bit false))
    exact State.only_trans hesc hmark

theorem State.hopCounted_mesh (esc : Bool) (next : Option VcId) : (s.hopCounted r c esc next).mesh = s.mesh :=
  Eq.trans (congrArg State.mesh (s.only_hopCounted r c esc next).2 :) (s.count_mesh _ _ _)

theorem State.counts_hopCounted (esc : Bool) (next : Option VcId) (hc : c ≠ 10) : s.counts (s.hopCounted r c esc next) ⟨.RTR_CNT, [r, c]⟩ := by
  refine State.counts_within rfl (s.counts_rtrCount r c 1) ((s.only_hopCounted r c esc next).rd ?_ (by simp [tripNames]))
  simp [hc]

theorem State.meshMoves_hopCounted (esc : Bool) (next : Option VcId) : State.meshMoves [.RTR_CNT, .RTR_ESC_CTL] s (s.hopCounted r c esc next) :=
  ((meshMoves.refl s).rtrCount r c 1 (by decide)).trans (meshMoves.of_only (s.only_hopCounted r c esc next) (by simp))

end

/-! ### A flit that is sent -/

/-- Beside the mesh, a hop from a link counts at its output and leaves forwarding, configuration space and journal alone. -/
theorem State.hop_link {s : State} {room : Pkt → Bool} {r : Nat} {b : Bool} {out : Nat} {iv : Nat × Nat} {f : Flit} {p : Pkt} (hout : out < 5)
    (hreq : s.requesters room r b out = [(iv, f, p)]) (hfree : (s.mesh.outs.lookD (r, out, b) {}).holder = none) (hlink : iv.1 < 4) :
    s.counts (s.hop room r b out .none) ⟨.RTR_CNT, [r, (if b then 5 else 0) + out]⟩ ∧
      State.meshMoves [.RTR_CNT, .RTR_ESC_CTL] s (s.hop room r b out .none) ∧
      ∃ w o, (s.hop room r b out .none).mesh = { s.mesh.moved r b out iv f with waits := w, outs := o } := by
  obtain ⟨c, w, o, heq⟩ := State.hop_sends hreq hfree hlink
  have hcnt : (if b then 5 else 0) + out < 10 := by split <;> omega
  have hblocked := State.meshMoves.of_only (L := [.RTR_CNT, .RTR_ESC_CTL]) (s.only_blockCounted r c b) (by simp)
  have hframe := hblocked.meshUp (·.moved r b out iv f)
  have hword : ((s.blockCounted c r b).meshUp (·.moved r b out iv f)).rd ⟨.RTR_CNT, [r, (if b then 5 else 0) + out]⟩ =
      s.rd ⟨.RTR_CNT, [r, (if b then 5 else 0) + out]⟩ := s.blockCounted_cnt r _ c b (by omega)
  have hmesh : ((s.blockCounted c r b).meshUp (·.moved r b out iv f)).mesh = s.mesh.moved r b out iv f := by
    rw [State.meshUp_mesh, State.blockCounted_mesh]
  rw [heq]
  generalize (s.blockCounted c r b).meshUp (·.moved r b out iv f) = t at hframe hword hmesh ⊢
  refine ⟨State.counts_within hword (t.counts_hopCounted r _ p.esc (outChan r out b iv.2) (by omega)) rfl, ?_, w, o, ?_⟩
  · exact (hframe.trans (t.meshMoves_hopCounted r _ _ _)).meshUp _
  · rw [State.meshUp_mesh, State.hopCounted_mesh, hmesh]

/-! ### A packet that is dropped -/

/-- No flit of a dropped packet is left in a FIFO. -/
theorem State.fifo_dropPkt (s : State) (pid : Nat) (k : VcId) : (s.dropPkt pid).fifo k = (s.fifo k).filter (fun g => g.pid != pid) := by
  rw [State.fifo, State.fifo, AMap.lookD, AMap.lookD, State.dropPkt, State.meshUp_mesh]
  dsimp only
  rw [AMap.look_mapVal]
  cases s.mesh.fifos.look k <;> rfl

theorem State.pkts_dropPkt (s : State) (pid : Nat) : (s.dropPkt pid).mesh.pkts.look pid = none := AMap.look_del_same ..

section
variable (s : State) (r pid : Nat)

theorem State.headDropped_mesh : (s.headDropped r pid).mesh = (s.dropPkt pid).mesh := by
  rw [State.headDropped, State.event_mesh, State.rtrCount, State.count_mesh]

theorem State.counts_headDropped : s.counts (s.headDropped r pid) ⟨.RTR_CNT, [r, 12]⟩ :=
  State.counts_within (t := s.dropPkt pid) rfl (State.counts_rtrCount _ r 12 1)
    ((State.only_event _ (.router r) 1).rd (by simp) (by simp [tripNames]))

theorem State.meshMoves_headDropped : State.meshMoves [.RTR_CNT] s (s.headDropped r pid) :=
  (((meshMoves.refl s).dropPkt pid).rtrCount r 12 1 (by decide)).event (.router r) 1

theorem State.headDropped_raised : ((s.headDropped r pid).rd (Trip.router r).stat).getLsbD 1 = true := State.event_statBit _ (.router r) (by decide)

end

end Sys2Proof.Machine
end

section
/-!
PROOF of the statement about flits, credits, starved requesters, and links and routers that fail (R180, R186, R188, R191, R192, R196, R200, R202, R203).
-/

namespace Sys2Proof.Machine

/-! ### A credit that is owed -/

/-- A credit that the receiver of a channel owes returns to the sender (R186). -/
def State.creditPaid (s : State) (k : VcId) : State :=
  s.meshUp (fun m => { m with owed := m.owed.put k (m.owed.lookD k 0 - 1), cred := m.cred.put k (m.cred.lookD k 8 + 1) })

theorem execCreditReturn_next {s : State} {x : Fin 96} {b : Bool} {out : Fin 5} {vc : Fin 10} {k : VcId} (hs : s.sealed = false)
    (hk : outChan x.val out.val b vc.val = some k) :
    execCreditReturn x b out vc s = .next (if 0 < s.mesh.owed.lookD k 0 then s.creditPaid k else s) := by
  rw [execCreditReturn, s.live_next _ hs, hk]
  rfl

theorem State.creditPaid_owed {s : State} {k : VcId} (h : 0 < s.mesh.owed.lookD k 0) :
    (s.creditPaid k).mesh.owed.lookD k 0 + 1 = s.mesh.owed.lookD k 0 := by
  have hput : (s.creditPaid k).mesh.owed.lookD k 0 = s.mesh.owed.lookD k 0 - 1 := AMap.lookD_put_same ..
  rw [hput, Nat.sub_add_cancel h]

/-! ### A starved requester -/

section
variable (s : State) (r out : Nat) (b : Bool) (iv : Nat × Nat)

/-- A requester waits in its output's pending queue, behind the others. -/
def State.queued : State :=
  s.meshUp (fun m => { m with
    outs := m.outs.put (r, out, b) { m.outs.lookD (r, out, b) {} with pend := (m.outs.lookD (r, out, b) {}).pend ++ [iv] } })

/-- A requester that enters the queue is raised and counted (R200). -/
def State.starved : State := ((s.queued r out b iv).event (.router r) 6).rtrCount r 13

theorem execStarveLimit_starved {s : State} {x : Fin 96} {b : Bool} {out inp : Fin 5} {vc : Fin 10} (hs : s.sealed = false)
    (hwait : s.starve x.val ≤ s.mesh.waits.lookD (x.val, out.val, b, inp.val, vc.val) 0)
    (hnew : (inp.val, vc.val) ∉ (s.mesh.outs.lookD (x.val, out.val, b) {}).pend) :
    execStarveLimit x b out inp vc s = .next (s.starved x.val out.val b (inp.val, vc.val)) := by
  rw [execStarveLimit, s.live_next _ hs]
  dsimp only
  rw [if_pos ⟨hwait, hnew⟩]
  rfl

theorem State.only_starved : (s.queued r out b iv).only (s.starved r out b iv) [⟨.RTR_CNT, [r, 13]⟩] [.router r] :=
  State.only_mono (State.only_trans (State.only_event _ (.router r) 6) (State.only_rtrCount _ r 13 1)) (by simp) (by simp)

theorem State.starved_pend :
    ((s.starved r out b iv).mesh.outs.lookD (r, out, b) {}).pend = (s.mesh.outs.lookD (r, out, b) {}).pend ++ [iv] := by
  have hmesh : (s.starved r out b iv).mesh = (s.queued r out b iv).mesh := (congrArg State.mesh (s.only_starved r out b iv).2 :)
  rw [hmesh, State.queued, State.meshUp_mesh]
  dsimp only
  rw [AMap.lookD_put_same]

theorem State.counts_starved : s.counts (s.starved r out b iv) ⟨.RTR_CNT, [r, 13]⟩ :=
  State.counts_congr (s := s) ((State.only_event (s.queued r out b iv) (.router r) 6).rd (by simp) (by simp [tripNames])) (State.counts_rtrCount _ r 13 1)

theorem State.starved_raised : ((s.starved r out b iv).rd (Trip.router r).stat).getLsbD 6 = true :=
  State.rtrCount_statBit 13 1 (State.event_statBit _ (.router r) (by decide))

/-- Beside the queues, only the counter and the event of the router change. -/
theorem State.starved_frame : s.only { s.starved r out b iv with mesh := s.mesh } [⟨.RTR_CNT, [r, 13]⟩] [.router r] :=
  (s.only_starved r out b iv).remesh s.mesh

end

/-! ### The statement -/

/-- Settles O30, command by command: a hop by what it does to the mesh and what it counts, and a failed link or router by what stays around its
declaration. -/
theorem flitsCreditsAndLinksOfTheMesh : Obligations.flits_credits_and_links_of_the_mesh := by
  unfold Obligations.flits_credits_and_links_of_the_mesh
  refine ⟨?onward, ?landing, ?unreadable, ?owed, ?paid, ?starved, ?keepalive, ?timeout, ?down, ?declared, ?router⟩
  case onward =>
    intro s x b out iv f p k hs hok hreq hfree hk hlink
    refine State.runs_live (f := fun s => if s.rtrOk x.val then s.hop s.gateRoom x.val b out.val .none else s) rfl hs ?_
    rw [if_pos hok]
    obtain ⟨hcounts, hframe, w, o, hmesh⟩ := State.hop_link out.isLt hreq hfree hlink
    have hother := outChan_ne hk iv.1 b iv.2
    rw [Mesh.moved_next hk] at hmesh
    simp only [State.fifo, State.cred, hmesh]
    refine ⟨?_, ?_, ?_, Mesh.leaves_owed _ _, Mesh.enters_hold _ _ _, hcounts, rfl, hframe.fwd, hframe.cfg, hframe.journal⟩
    · exact (AMap.lookD_put_ne _ _ _ hother.symm).trans (Mesh.leaves_fifo _ _)
    · exact (Mesh.enters_fifo _ _ _).trans (congrArg (· ++ [f]) (AMap.lookD_put_ne _ _ _ hother))
    · exact Mesh.enters_cred _ _ _
  case landing =>
    intro s x b iv f p hs hok hreq hfree hlink htail
    refine State.runs_live (f := fun s => if s.rtrOk x.val then s.hop s.gateRoom x.val b 4 .none else s) rfl hs ?_
    rw [if_pos hok]
    obtain ⟨hcounts, hframe, w, o, hmesh⟩ := State.hop_link (by decide) hreq hfree hlink
    rw [Mesh.moved_local htail] at hmesh
    rw [State.fifo, hmesh]
    exact ⟨Mesh.leaves_fifo _ _, rfl, hcounts, rfl, rfl, hframe.fwd⟩
  case unreadable =>
    intro s x b out iv f p hs hok hreq hfree hlocal hhead
    refine State.runs_live (f := fun s => if s.rtrOk x.val then s.hop s.gateRoom x.val b out.val .headUe else s) rfl hs ?_
    rw [if_pos hok]
    obtain ⟨c, heq⟩ := State.hop_drops hreq hfree hlocal hhead
    have hblocked := State.meshMoves.of_only (L := [.RTR_CNT]) (s.only_blockCounted x.val c b) (by simp)
    have hword := s.blockCounted_cnt x.val 12 c b (by decide)
    rw [heq]
    generalize s.blockCounted c x.val b = t at hblocked hword ⊢
    have hframe := hblocked.trans (t.meshMoves_headDropped x.val f.pid)
    refine ⟨?_, ?_, State.counts_congr hword (t.counts_headDropped x.val f.pid), t.headDropped_raised x.val f.pid, hframe.fwd, hframe.journal⟩
    · rw [State.headDropped_mesh, State.pkts_dropPkt]
    · rw [State.fifo, State.headDropped_mesh, ← State.fifo, State.fifo_dropPkt]
      simp
  case owed =>
    intro s x b out vc k hs hk howed
    refine ⟨_, execCreditReturn_next hs hk, ?_⟩
    rw [if_pos howed]
    exact ⟨AMap.lookD_put_same .., State.creditPaid_owed howed, rfl⟩
  case paid =>
    intro s x b out vc k hs hk howed
    exact ⟨_, execCreditReturn_next hs hk, if_neg (by rw [howed]; decide)⟩
  case starved =>
    intro s x b out inp vc hs hwait hnew
    exact ⟨_, execStarveLimit_starved hs hwait hnew, s.starved_pend .., s.counts_starved .., s.starved_raised .., s.starved_frame ..⟩
  case keepalive =>
    intro s x d hs
    exact State.runs_live (f := fun s => s.meshUp (fun m => { m with linkAt := m.linkAt.put (x.val, d.val) s.now })) rfl hs rfl
  case timeout =>
    intro s x d n hs hn hup hnew
    have h := State.linkDeclared_failLink x.isLt d.isLt hn hup hnew
    exact State.runs_live (f := (·.failLink x.val d.val)) rfl hs
      ⟨h.near, h.far, h.raised, h.reroute, h.queue, h.failed, h.journaled, h.fwd, h.cfg⟩
  case down =>
    intro s x d hs hdown
    exact State.runs_live (f := (·.failLink x.val d.val)) rfl hs (State.failLink_notUp hdown)
  case declared =>
    intro s x d n hs hn hup hnew
    have h := State.linkDeclared_failLink x.isLt d.isLt hn hup hnew
    exact State.runs_live (f := (·.failLink x.val d.val)) rfl hs ⟨h.near, h.far, h.reroute, h.queue, h.fwd, h.cfg⟩
  case router =>
    intro s x hs hwork hnew
    refine State.runs_live (f := (·.failRouter x.val)) rfl hs ?_
    have hframe := (s.setB F.RTR_CTL_FAILED [x.val] true).meshMoves_failRouterLinks x.val
    have hnew' : (0, x.val) ∉ ((s.setB F.RTR_CTL_FAILED [x.val] true).failRouterLinks x.val).flt.failed := by rwa [hframe.flt]
    rw [State.failRouter, if_neg (by simp [s.on_eq, hwork])]
    refine ⟨?_, fun d hd => ?_, ?_, State.declare_journaled hnew' (by decide) (by omega), ?_, ?_⟩
    · rw [State.declare_get _ (by decide), hframe.get (by decide) (by decide), State.get_setB _ _ _ _ (by decide) (by decide), bit_true]
    · cases hn : neighbour x.val d with
      | none => exact .inr rfl
      | some n =>
        rw [State.declare_linkState]
        exact .inl (State.failRouterLinks_down _ _ hn hd)
    · rw [State.declare_queue hnew', hframe.flt, State.setB_flt]
    · rw [State.declare_fwd, hframe.fwd, State.setB_fwd]
    · rw [State.declare_cfg, hframe.cfg, State.setB_cfg]

end Sys2Proof.Machine
end

section
/-!
SUPPORT. What the steps of a trunk's sender and receiver leave alone: beside a few registers and the messages only the records of links and of
trunks move (R276 to R294).
-/

namespace Sys2Proof.Machine

theorem State.only.trunk {s u : State} {l : List Reg} {xs : List Trip} (h : s.only u l xs) : u.trunk = s.trunk := (congrArg State.trunk h.2 :)

/-! ### A trunk's running state -/

@[simp] theorem State.rd_tkUp (s : State) (j : Nat) (f : TrunkSt → TrunkSt) (r : Reg) : (s.tkUp j f).rd r = s.rd r := rfl

@[simp] theorem State.get_tkUp (s : State) (j : Nat) (f : TrunkSt → TrunkSt) (g : Fld) (ix : List Nat) : (s.tkUp j f).get g ix = s.get g ix := rfl

@[simp] theorem State.tk_tkUp (s : State) (j : Nat) (f : TrunkSt → TrunkSt) : (s.tkUp j f).tk j = f (s.tk j) := AMap.lookD_put_same ..

theorem State.tk_congr {s u : State} (h : u.trunk = s.trunk) (j : Nat) : u.tk j = s.tk j := by rw [State.tk, h, State.tk]

theorem State.only.tk {s u : State} {l : List Reg} {xs : List Trip} (h : s.only u l xs) (j : Nat) : u.tk j = s.tk j := State.tk_congr h.trunk j

@[simp] theorem State.get_touch (s : State) (p : Nat) (g : Fld) (ix : List Nat) : (s.touch p).get g ix = s.get g ix := rfl

@[simp] theorem State.sent_touch (s : State) (p : Nat) : (s.touch p).sent = s.sent := rfl

@[simp] theorem State.tk_touch (s : State) (p j : Nat) : (s.touch p).tk j = s.tk j := rfl

/-! ### Frames in which the records of links and trunks move -/

/-- From `s` to `u` nothing changes but the listed registers, those of the listed triples, the messages, and the records of links and trunks. -/
def State.trunkOnly (s u : State) (l : List Reg) (xs : List Trip) : Prop := ({ s with lnk := u.lnk, trunk := u.trunk } : State).only u l xs

namespace State.trunkOnly

variable {s t u : State} {l l' : List Reg} {xs xs' : List Trip}

theorem refl (s : State) (l : List Reg) (xs : List Trip) : s.trunkOnly s l xs := State.only_refl _ l xs

theorem of_only (h : s.only u l xs) : s.trunkOnly u l xs := by
  have hsame : ({ s with lnk := u.lnk, trunk := u.trunk } : State) = s := by rw [h.lnk, h.trunk]
  rw [State.trunkOnly, hsame]
  exact h

/-- A step that changes only the records of links and trunks. -/
theorem of_records (k : LnkSt) (m : AMap Nat TrunkSt) : s.trunkOnly { s with lnk := k, trunk := m } [] [] := State.only_refl _ _ _

section
variable (h : s.trunkOnly t l xs)
include h

theorem trans (h' : t.trunkOnly u l' xs') : s.trunkOnly u (l ++ l') (xs ++ xs') :=
  State.only_trans (t := { t with lnk := u.lnk, trunk := u.trunk })
    ⟨h.1, congrArg (fun v : State => { v with lnk := u.lnk, trunk := u.trunk }) h.2⟩ h'

theorem mono (hl : l ⊆ l') (hx : xs ⊆ xs') : s.trunkOnly t l' xs' := State.only_mono h hl hx

/-- A further step within the same lists. -/
theorem andThen (h' : t.trunkOnly u l' xs') (hl : l' ⊆ l) (hx : xs' ⊆ xs) : s.trunkOnly u l xs :=
  (h.trans h').mono (List.append_subset.2 ⟨List.Subset.refl l, hl⟩) (List.append_subset.2 ⟨List.Subset.refl xs, hx⟩)

theorem records (k : LnkSt) (m : AMap Nat TrunkSt) : s.trunkOnly { t with lnk := k, trunk := m } l xs :=
  h.andThen (of_records k m) (List.nil_subset l) (List.nil_subset xs)

theorem tkUp (j : Nat) (f : TrunkSt → TrunkSt) : s.trunkOnly (t.tkUp j f) l xs := h.records t.lnk (t.trunk.put j (f (t.tk j)))

theorem lnkUp (f : LnkSt → LnkSt) : s.trunkOnly (t.lnkUp f) l xs := h.records (f t.lnk) t.trunk

theorem touch (p : Nat) : s.trunkOnly (t.touch p) l xs := h.lnkUp _

theorem emit (o : Out) : s.trunkOnly (t.emit o) l xs := h.andThen (of_only (t.only_emit o)) (List.nil_subset l) (List.nil_subset xs)

theorem set (f : Fld) (ix : List Nat) (v : Nat) (hf : ⟨f.reg, ix⟩ ∈ l) : s.trunkOnly (t.set f ix v) l xs :=
  h.andThen (of_only (t.only_set f ix v)) (by simpa using hf) (List.nil_subset xs)

theorem trunkCount (j c : Nat) (hc : ⟨.FAB_CNT, [j, c]⟩ ∈ l) (hj : .port (8 * j) 7 ∈ xs) : s.trunkOnly (t.trunkCount j c) l xs :=
  h.andThen (of_only (t.only_trunkCount j c 1)) (by simpa using hc) (by simpa using hj)

theorem keeps : s.keeps t l xs := And.left h

theorem fwd : t.fwd = s.fwd := (congrArg State.fwd h.2 :)

theorem cfg : t.cfg = s.cfg := (congrArg State.cfg h.2 :)

theorem journal : t.journal = s.journal := (congrArg State.journal h.2 :)

theorem rd {r : Reg} (hl : r ∉ l) (hn : r.n ∉ tripNames) : t.rd r = s.rd r := h.keeps.rd hl hn

theorem get {f : Fld} {ix : List Nat} (hl : ⟨f.reg, ix⟩ ∉ l) (hn : f.reg ∉ tripNames) : t.get f ix = s.get f ix := by
  rw [State.get_eq, h.rd hl hn, State.get_eq]

end

end State.trunkOnly

/-- What was sent on the way stays sent. -/
theorem State.sentGrows.mem_later {s t u : State} (hs : s.sentGrows t) (h : t.sentGrows u) {o : Out} (ho : o ∈ t.sent.drop s.sent.length) :
    o ∈ u.sent.drop s.sent.length := by
  obtain ⟨l, hl⟩ := hs
  obtain ⟨l', hl'⟩ := h
  rw [hl, List.drop_left] at ho
  rw [hl', hl, List.append_assoc, List.drop_left]
  exact List.mem_append_left _ ho

/-! ### Control packets -/

section
variable (s : State) (j : Nat) (m : KMsg)

/-- A control packet goes out on the anchor (R280). -/
theorem State.tkSend_anchor {i : Nat} (h : s.anchor j = some i) : s.tkSend j m = (s.touch (8 * j + i)).emit (.kfp (8 * j + i) m) := by
  rw [State.tkSend, h]
  rfl

theorem State.trunkOnly_tkSend : s.trunkOnly (s.tkSend j m) [] [] := by
  unfold State.tkSend
  split
  · exact (State.trunkOnly.of_records _ s.trunk).emit _
  · exact .refl s _ _

theorem State.tkSend_trunk : (s.tkSend j m).trunk = s.trunk := by
  unfold State.tkSend
  split <;> rfl

theorem State.anchor_congr {s u : State} {j : Nat} (h : u.get F.FAB_TRK_STAT_MEMBERS [j] = s.get F.FAB_TRK_STAT_MEMBERS [j]) :
    u.anchor j = s.anchor j := by rw [State.anchor, h, State.anchor]

/-- A change of XOFF_TX, with its FC (R294). -/
theorem State.trunkOnly_tkFc : s.trunkOnly (s.tkFc j) [⟨.FAB_TRK_STAT, [j]⟩] [] := by
  unfold State.tkFc
  dsimp only
  split
  · split
    · exact .refl s _ _
    · exact ((State.trunkOnly.refl s _ _).set _ _ _ (by simp)).andThen (State.trunkOnly_tkSend _ _ _) (by simp) (by simp)
  · exact .refl s _ _

theorem State.tkFc_trunk : (s.tkFc j).trunk = s.trunk := by
  unfold State.tkFc
  dsimp only
  split
  · split
    · rfl
    · exact State.tkSend_trunk _ _ _
  · rfl

theorem State.tkFc_down (h : s.tkOn j = false) : s.tkFc j = s := by
  rw [State.tkFc, h]
  rfl

theorem State.trunkOnly_updNakOut : s.trunkOnly (s.updNakOut j) [⟨.FAB_TRK_SEQ, [j]⟩] [] := .of_only (s.only_set _ _ _)

/-- The count of reserved slots is beside CUM. -/
theorem State.updNakOut_cum : (s.updNakOut j).get F.FAB_TRK_SEQ_RX_CUM [j] = s.get F.FAB_TRK_SEQ_RX_CUM [j] :=
  s.get_set_disj _ _ _ _ _ (.inr (by decide))

end

/-! ### Acknowledgement (R287, R290) -/

section
variable (s : State) (j cum : Nat)

/-- The samples of the round-trip time that an acknowledgement leaves: those of the last 1 ms, with those of the copies that it frees. -/
def State.rttsAt : List (Nat × Nat) :=
  ((s.tk j).rtts ++ ((((s.tk j).copies.filter (fun c => passed cum c.tseq)).filter (fun c => c.tries == 0)).map (fun c =>
    (s.now - c.at_, s.now)))).filter (fun x => decide (s.now ≤ x.2 + 1000000))

/-- The copies that CUM passes are freed, and the samples brought up to date. -/
def State.copiesFreed : State :=
  s.tkUp j (fun x => { x with copies := x.copies.filter (fun c => !passed cum c.tseq), rtts := s.rttsAt j cum })

theorem State.ackTo_eq : s.ackTo j cum =
    if ((s.tk j).copies.filter (fun c => passed cum c.tseq)).isEmpty then s
    else if (s.rttsAt j cum).isEmpty then (s.copiesFreed j cum).set F.FAB_TRK_SEQ_TX_UNACK [j] ((s.copiesFreed j cum).tk j).copies.length
    else ((s.copiesFreed j cum).set F.FAB_TRK_SEQ_TX_UNACK [j] ((s.copiesFreed j cum).tk j).copies.length).set F.FAB_TRK_STAT_RTT [j]
      (minRtt (s.rttsAt j cum)) := rfl

theorem State.trunkOnly_ackTo : s.trunkOnly (s.ackTo j cum) [⟨.FAB_TRK_STAT, [j]⟩, ⟨.FAB_TRK_SEQ, [j]⟩] [] := by
  have hfree := ((State.trunkOnly.refl s [⟨.FAB_TRK_STAT, [j]⟩, ⟨.FAB_TRK_SEQ, [j]⟩] []).records s.lnk (s.copiesFreed j cum).trunk).set
    F.FAB_TRK_SEQ_TX_UNACK [j] ((s.copiesFreed j cum).tk j).copies.length (by simp)
  rw [s.ackTo_eq]
  split
  · exact .refl s _ _
  · split
    · exact hfree
    · exact hfree.set _ _ _ (by simp)

/-- An acknowledgement that passes no copy changes nothing. -/
theorem State.ackTo_none {s : State} {j cum : Nat} (h : ∀ c ∈ (s.tk j).copies, passed cum c.tseq = false) : s.ackTo j cum = s := by
  have hgone : (s.tk j).copies.filter (fun c => passed cum c.tseq) = [] := by simpa using h
  simp [State.ackTo, hgone]

/-- The copies that CUM passes are freed (R287). -/
theorem State.ackTo_copies : ((s.ackTo j cum).tk j).copies = (s.tk j).copies.filter (fun c => !passed cum c.tseq) := by
  have hfree : ((s.copiesFreed j cum).tk j).copies = (s.tk j).copies.filter (fun c => !passed cum c.tseq) := by
    rw [State.copiesFreed, State.tk_tkUp]
  rw [s.ackTo_eq]
  split
  next hgone => exact (List.filter_eq_self.2 (by simpa using hgone)).symm
  next => split <;> exact hfree

theorem State.ackTo_sent : (s.ackTo j cum).sent = s.sent := by
  rw [s.ackTo_eq]
  split
  · rfl
  · split <;> rfl

end

/-! ### A trunk with nothing queued -/

/-- A scheduler without queued packets sends nothing (R448). -/
theorem State.schedule_empty {s : State} {p : Nat} (h : ∀ c < 4, s.sq p c = []) : s.schedule p = s := by
  have hidle (c : Nat) (hc : c < 4) : s.eligible p c = false := by rw [State.eligible, h c hc]
  have hrnd : (if s.pon F.PT_SCHED_STRICT1 p then [2, 3] else [1, 2, 3]).filter (fun c => s.eligible p c) = [] := by
    split <;> simp [hidle]
  rw [State.schedule, State.pickClass, hidle 0 (by decide), hidle 1 (by decide)]
  simp [hrnd]

theorem State.sq_congr {s u : State} (h : u.fwd = s.fwd) (p c : Nat) : u.sq p c = s.sq p c := by rw [State.sq, h, State.sq]

end Sys2Proof.Machine
end

section
/-!
SUPPORT. Data packets on a trunk's members: what sending one and resending a held copy do (R277, R286 to R288, R291).
-/

namespace Sys2Proof.Machine

/-! ### A data packet on a member -/

section
variable (s : State) (j i tseq mseq : Nat) (resend : Bool) (p : Pkt) (t : Tlp)

/-- The registers that sending on a member counts in: the Doze entries abandoned and the bursts. -/
abbrev abortRegs (j i : Nat) : List Reg := [⟨.FAB_CNT, [(8 * j + i) / 8, 12]⟩, ⟨.FAB_CNT, [(8 * j + i) / 8, 13]⟩]

theorem State.trunkOnly_dozeAbort : s.trunkOnly (s.dozeAbort (8 * j + i)) (abortRegs j i) [.port (8 * ((8 * j + i) / 8)) 7] := by
  unfold State.dozeAbort
  split
  · exact ((((State.trunkOnly.refl s _ _).lnkUp _).trunkCount _ 12 (by simp) (by simp)).trunkCount _ 13 (by simp) (by simp)).emit _ |>.touch _
  · exact .refl s _ _

theorem State.sentGrows_dozeAbort (q : Nat) : s.sentGrows (s.dozeAbort q) := by
  have hstart (f : LnkSt → LnkSt) : s.sentGrows (s.lnkUp f) := State.sentGrows_of_eq rfl
  unfold State.dozeAbort
  split
  · exact (((hstart _).trans (State.sentGrows_count _ _ _ _)).trans (State.sentGrows_count _ _ _ _)).trans ⟨_, rfl⟩
  · exact s.sentGrows_refl

theorem State.trunk_touch (q : Nat) : (s.touch q).trunk = s.trunk := rfl

theorem State.dozeAbort_tk (q : Nat) : (s.dozeAbort q).tk j = s.tk j := by
  refine State.tk_congr ?_ j
  unfold State.dozeAbort
  split
  · rw [State.trunk_touch, State.emit_trunk, (State.only_trunkCount _ _ _ _).trunk, (State.only_trunkCount _ _ _ _).trunk, State.lnkUp_trunk]
  · rfl

/-- The data packet of a TLP: the header carries CUM, PREV names the previous TSEQ on the member, or under KFP 1.0 the member sequence number
(R277, R285, R290). -/
def State.dataOf : KData :=
  { tseq := tseq, prev := if s.kfp10 j then mseq else ((s.tk j).prevTx.look i).getD 0,
    prevV := !resend && (s.kfp10 j || ((s.tk j).prevTx.look i).isSome), resend := resend, ack := s.get F.FAB_TRK_SEQ_RX_CUM [j], sc := p.sc,
    kind := p.kind, mark := p.mark && !s.kfp10 j, dst := s.dstGpid j p, src := s.srcGpid p, tlp := t }

/-- The records of the member after a data packet on it: its last TSEQ, the CUM sent and its queue. -/
def State.dataNoted : State :=
  (s.tkUp j (fun x => { x with prevTx := x.prevTx.put i tseq, cumSent := s.get F.FAB_TRK_SEQ_RX_CUM [j] })).memPush j i (kBytes t)

variable {p t} in
theorem State.sendData_eq (h : p.tlp? = some t) : s.sendData j i tseq mseq resend p =
    (((s.dozeAbort (8 * j + i)).dataNoted j i tseq t).emit (.kfp (8 * j + i) (.data ((s.dozeAbort (8 * j + i)).dataOf j i tseq mseq resend p t)))).touch
      (8 * j + i) := by
  rw [State.sendData, h]
  rfl

theorem State.dataNoted_copies : ((s.dataNoted j i tseq t).tk j).copies = (s.tk j).copies := by
  rw [State.dataNoted, State.memPush, State.tk_tkUp, State.tk_tkUp]

theorem State.trunkOnly_sendData :
    s.trunkOnly (s.sendData j i tseq mseq resend p) (abortRegs j i) [.port (8 * ((8 * j + i) / 8)) 7] := by
  cases h : p.tlp? with
  | none =>
    rw [State.sendData, h]
    exact .refl s _ _
  | some t =>
    rw [s.sendData_eq j i tseq mseq resend h]
    exact ((((s.trunkOnly_dozeAbort j i).tkUp _ _).tkUp _ _).emit _).touch _

theorem State.sendData_copies : ((s.sendData j i tseq mseq resend p).tk j).copies = (s.tk j).copies := by
  cases h : p.tlp? with
  | none => rw [State.sendData, h]
  | some t =>
    rw [s.sendData_eq j i tseq mseq resend h]
    exact (State.dataNoted_copies _ j i tseq t).trans (congrArg TrunkSt.copies (s.dozeAbort_tk j _))

variable {p t} in
/-- The packet of a TLP is sent on the member. -/
theorem State.sendData_sent (h : p.tlp? = some t) : ∃ k : KData, .kfp (8 * j + i) (.data k) ∈ (s.sendData j i tseq mseq resend p).sent.drop
    s.sent.length ∧ k.tseq = tseq ∧ k.resend = resend ∧ k.tlp = t := by
  refine ⟨(s.dozeAbort (8 * j + i)).dataOf j i tseq mseq resend p t, ?_, rfl, rfl, rfl⟩
  rw [s.sendData_eq j i tseq mseq resend h]
  refine (s.sentGrows_dozeAbort (8 * j + i)).mem ?_
  exact State.sentGrows.mem_of_emit (s := (s.dozeAbort (8 * j + i)).dataNoted j i tseq t) (State.sentGrows_of_eq (State.sent_touch _ _))

theorem State.sentGrows_sendData : s.sentGrows (s.sendData j i tseq mseq resend p) := by
  cases h : p.tlp? with
  | none =>
    rw [State.sendData, h]
    exact s.sentGrows_refl
  | some t =>
    rw [s.sendData_eq j i tseq mseq resend h]
    exact (s.sentGrows_dozeAbort _).trans ⟨_, rfl⟩

end

/-! ### The member that takes the next packet -/

/-- The registers that the choice of a member reads. -/
def pickNames : List RN := [.FAB_TRK_STAT, .PP_STAT, .PT_DOZE, .CPW_TIME]

theorem State.pickMember_congr {s u : State} {j : Nat} (hword : ∀ r : Reg, r.n ∈ pickNames → u.rd r = s.rd r) (hdoze : u.lnk.doze = s.lnk.doze)
    (hshort : u.lnk.shortRetrain = s.lnk.shortRetrain) (htk : u.tk j = s.tk j) : u.pickMember j = s.pickMember j := by
  have hget (f : Fld) (hf : f.reg ∈ pickNames) (ix : List Nat) : u.get f ix = s.get f ix := by rw [State.get_eq, hword _ hf, State.get_eq]
  have hmem := hget F.FAB_TRK_STAT_MEMBERS (by decide) [j]
  have hanchor : u.anchor j = s.anchor j := State.anchor_congr hmem
  have hmembers : u.members j = s.members j := by rw [State.members, hmem, State.members]
  have hawake : u.awake j = s.awake j := by
    funext i
    rw [State.awake, hmem, hdoze, hshort, State.awake]
  have hrate (p : Nat) : u.memRate p = s.memRate p := by
    rw [State.memRate, State.pget, State.pget, hget _ (by decide), hget _ (by decide)]
    rfl
  have hqueued : u.memQueued j = s.memQueued j := by
    funext i
    simp only [State.memQueued, htk, hrate, State.now, hget F.CPW_TIME_TIME (by decide)]
  have hidle : u.anyIdle j = s.anyIdle j := by
    simp only [State.anyIdle, hmembers, hget F.PT_DOZE_IDLE_TIME (by decide)]
  have hfewest (l : List Nat) : u.fewest j l = s.fewest j l := by rw [State.fewest, hqueued, State.fewest]
  simp only [State.pickMember, hanchor, hmembers, hawake, hidle, hqueued, hfewest]

/-! ### A held copy sent again -/

/-- The copy of `tseq` has been sent once more, now, on member `i`. -/
def KCopy.again (now tseq i : Nat) (y : KCopy) : KCopy := if y.tseq == tseq then { y with mem := i, at_ := now, tries := y.tries + 1 } else y

/-- The member on which a held copy goes again (R285, R288). -/
def State.resendMember (s : State) (j : Nat) (c : KCopy) : Option Nat :=
  if s.kfp10 j ∧ (s.members j).contains c.mem then some c.mem else s.pickMember j

/-- A held copy sent again on a member, and counted. -/
def State.sentAgain (s : State) (j i : Nat) (c : KCopy) (tseq : Nat) : State :=
  ((s.sendData j i c.tseq c.mseq true c.pkt).trunkCount j 1).tkUp j (fun x => { x with copies := x.copies.map (KCopy.again s.now tseq i) })

theorem State.resendCopy_eq (s : State) (j tseq : Nat) : s.resendCopy j tseq =
    match (s.tk j).copies.find? (fun c => c.tseq == tseq) with
    | none => s
    | some c =>
      match s.resendMember j c with
      | none => s
      | some i => s.sentAgain j i c tseq := rfl

section
variable (s : State) (j i : Nat) (c : KCopy) (tseq : Nat)

theorem State.trunkOnly_sentAgain : s.trunkOnly (s.sentAgain j i c tseq) (⟨.FAB_CNT, [j, 1]⟩ :: abortRegs j i)
    [.port (8 * j) 7, .port (8 * ((8 * j + i) / 8)) 7] :=
  (((s.trunkOnly_sendData j i c.tseq c.mseq true c.pkt).mono (by simp) (by simp)).trunkCount j 1 (by simp) (by simp)).tkUp _ _

theorem State.sentAgain_tk : ((s.sentAgain j i c tseq).tk j).copies = (s.tk j).copies.map (KCopy.again s.now tseq i) := by
  rw [State.sentAgain, State.tk_tkUp, (State.only_trunkCount _ _ _ _).tk, State.sendData_copies]

theorem State.counts_sentAgain : s.counts (s.sentAgain j i c tseq) ⟨.FAB_CNT, [j, 1]⟩ :=
  State.counts_within ((s.trunkOnly_sendData j i c.tseq c.mseq true c.pkt).rd (by simp) (by simp [tripNames])) (State.counts_trunkCount _ j 1 1) rfl

/-- The resent packet is marked RESEND (R288). -/
theorem State.sentAgain_sent {t : Tlp} (h : c.pkt.tlp? = some t) : ∃ k : KData, .kfp (8 * j + i) (.data k) ∈ (s.sentAgain j i c tseq).sent.drop
    s.sent.length ∧ k.tseq = c.tseq ∧ k.resend = true ∧ k.tlp = t := by
  obtain ⟨k, hk, hfields⟩ := s.sendData_sent j i c.tseq c.mseq true h
  exact ⟨k, (s.sentGrows_sendData j i c.tseq c.mseq true c.pkt).mem_later (State.sentGrows_count _ _ _ _) hk, hfields⟩

variable {s j c} in
/-- The only copy of a KFP 1.1 trunk goes again on the member that takes the next packet. -/
theorem State.resendCopy_single (hcopies : (s.tk j).copies = [c]) (h10 : s.kfp10 j = false) (hpick : s.pickMember j = some i) :
    s.resendCopy j c.tseq = s.sentAgain j i c c.tseq := by
  have hmember : s.resendMember j c = some i := by rw [State.resendMember, if_neg (by simp [h10]), hpick]
  rw [s.resendCopy_eq, hcopies]
  simp [hmember]

end

end Sys2Proof.Machine
end

section
/-!
SUPPORT. Events of a trunk stand and messages stay sent, and a member that leaves (R298).
-/

namespace Sys2Proof.Machine

/-! ### Events stand and messages stay sent -/

/-- From `s` to `u` every event of a trunk stands, and everything sent stays sent. -/
structure State.onward (s u : State) : Prop where
  raised : ∀ p b, (s.rd (Trip.port p 6).stat).getLsbD b = true → (u.rd (Trip.port p 6).stat).getLsbD b = true
  sent : s.sentGrows u

theorem int_ne_trunkStat (x : Trip) : x.int.n ≠ .PT_PTRUNK_STAT := by
  cases x with
  | port p e => rcases e with _ | _ | _ | _ | _ | _ | _ | _ | e <;> simp [Trip.int]
  | tile t e => rcases e with _ | _ | _ | _ | e <;> simp [Trip.int]
  | _ => simp [Trip.int]

namespace State.onward

theorem refl (s : State) : s.onward s := ⟨fun _ _ => id, s.sentGrows_refl⟩

section
variable {s t u : State} (h : s.onward t)
include h

theorem trans (h' : t.onward u) : s.onward u := ⟨fun p b hb => h'.raised p b (h.raised p b hb), h.sent.trans h'.sent⟩

theorem congr (hr : u.regs = t.regs) (hs : u.sent = t.sent) : s.onward u :=
  h.trans ⟨fun p b hb => by rwa [State.rd, hr], State.sentGrows_of_eq hs⟩

theorem wr {r : Reg} (v : W64) (hr : r.n ≠ .PT_PTRUNK_STAT) : s.onward (t.wr r v) :=
  h.trans ⟨fun _ _ hb => by rwa [State.rd_wr_ne _ _ (fun e => hr (congrArg Reg.n e).symm)], State.sentGrows_of_eq rfl⟩

theorem set {f : Fld} (ix : List Nat) (v : Nat) (hf : f.reg ≠ .PT_PTRUNK_STAT) : s.onward (t.set f ix v) := h.wr _ hf

theorem event (x : Trip) (b : Nat) : s.onward (t.event x b) := by
  refine h.trans ⟨fun p c hc => ?_, t.sentGrows_event x b⟩
  have hint : (Trip.port p 6).stat ≠ x.int := fun e => int_ne_trunkStat x (congrArg Reg.n e).symm
  by_cases hx : (Trip.port p 6).stat = x.stat
  · rw [hx] at hc ⊢
    rw [State.event_rd_stat, BitVec.getLsbD_or, hc, Bool.true_or]
  · rwa [t.event_rd_ne x b hx hint (by simp [Trip.stat])]

theorem count {r : Reg} (n : Nat) (ov : Option (Trip × Nat)) (hr : r.n ≠ .PT_PTRUNK_STAT) : s.onward (t.count r n ov) := by
  unfold State.count
  dsimp only
  split
  · cases ov with
    | none => exact h.wr _ hr
    | some xb => exact (h.wr _ hr).event _ _
  · exact h.wr _ hr

theorem portCount (p c n : Nat) : s.onward (t.portCount p c n) := h.count n _ (by simp)

theorem pset (f : Fld) (p v : Nat) (hf : f.reg ≠ .PT_PTRUNK_STAT) : s.onward (t.pset f p v) := h.set _ v hf

theorem emit (o : Out) : s.onward (t.emit o) := h.trans ⟨fun _ _ => id, ⟨_, rfl⟩⟩

theorem lnkUp (f : LnkSt → LnkSt) : s.onward (t.lnkUp f) := h.congr rfl rfl

theorem tkUp (j : Nat) (f : TrunkSt → TrunkSt) : s.onward (t.tkUp j f) := h.congr rfl rfl

theorem touch (p : Nat) : s.onward (t.touch p) := h.congr rfl rfl

theorem when (c : Bool) {f : State → State} (hf : s.onward (f t)) : s.onward (t.when c f) := by
  cases c
  · exact h
  · exact hf

theorem foldl {α : Type} (l : List α) (f : State → α → State) (hf : ∀ t a, s.onward t → s.onward (f t a)) : s.onward (l.foldl f t) :=
  List.foldlRecOn (motive := s.onward) l f h (fun t ht a _ => hf t a ht)

/-- Steps that keep every event register of a trunk. -/
theorem sends (hs : t.sentGrows u) (hr : ∀ p, u.rd (Trip.port p 6).stat = t.rd (Trip.port p 6).stat) : s.onward u :=
  h.trans ⟨fun p b hb => by rwa [hr], hs⟩

theorem tkSend (j : Nat) (m : KMsg) : s.onward (t.tkSend j m) := by
  unfold State.tkSend
  split
  · exact (h.touch _).emit _
  · exact h

theorem dozeEnd (p : Nat) : s.onward (t.dozeEnd p) :=
  h.sends (State.sentGrows_of_eq (t.dozeEnd_sent p)) (fun _ => t.dozeEnd_rd p (by simp [Trip.stat]))

theorem declare (ty ix : Nat) : s.onward (t.declare ty ix) :=
  h.sends (State.sentGrows_of_eq (congrArg State.sent (t.declare_rest ty ix) :)) (fun _ =>
    (t.linkOnly_declare ty ix).keeps _ (by simp [Trip.stat]) (by simp))

/-! ### Retraining -/

theorem leakyEvent (n u : Nat) : s.onward (t.leakyEvent 0 n u).1 := by
  have hset {v : Nat} := (h.count (r := ⟨.LK_TOTAL, [0, n, u]⟩) 1 (leakOvf 0 n) (by simp)).set (f := F.LK_STAT_COUNT) [0, n, u] v (by simp)
  refine iteInduction (motive := fun r : State × Bool => s.onward r.1) (fun _ => ?_) (fun _ => hset)
  exact (hset.set (f := F.LK_STAT_LASTING) [0, n, u] (bit true) (by simp)).event (.tile n 3) 0

theorem degrade (p : Nat) : s.onward (t.degrade p) := ((h.pset F.PP_STAT_DEGRADED p 1 (by simp)).event _ _).lnkUp _

theorem capRate (p : Nat) : s.onward (t.capRate p) := by
  rw [t.capRate_eq]
  split
  · exact (h.degrade p).lnkUp _
  · exact h.degrade p

theorem recoveryLeak (p : Nat) : s.onward (t.recoveryLeak p) := by
  have hleak := h.leakyEvent (p / 4) (p % 4)
  unfold State.recoveryLeak
  split
  · exact h
  · split <;> rename_i heq <;> rw [heq] at hleak
    · exact hleak.capRate p
    · exact hleak

theorem retrain (p : Nat) : s.onward (t.retrain p) := by
  have hrec : s.onward (t.enterRecovery p) := (((h.lnkUp _).pset F.PP_STAT_LINK_STATE p 5 (by simp)).pset F.PP_STAT_WIDTH p 0 (by simp)).portCount p 20 1
  rw [t.retrain_eq]
  split
  · exact hrec.when _ (hrec.recoveryLeak p)
  · split
    · exact (h.lnkUp _).pset F.PP_STAT_LINK_STATE p 2 (by simp)
    · exact h.lnkUp _

end

end State.onward

/-! ### One bit of a number -/

theorem add_eq_or_of_and_eq_zero {x y : Nat} (h : x &&& y = 0) : x + y = x ||| y := by
  have hx : x < 2 ^ (x + y) := (Nat.le_add_right x y).trans_lt Nat.lt_two_pow_self
  have hy : y < 2 ^ (x + y) := (Nat.le_add_left y x).trans_lt Nat.lt_two_pow_self
  have hand : BitVec.ofNat (x + y) x &&& BitVec.ofNat (x + y) y = 0#(x + y) := by rw [← BitVec.ofNat_and, h]
  have hsum := BitVec.toNat_add_of_and_eq_zero hand
  rw [BitVec.add_eq_or_of_and_eq_zero _ _ hand, ← BitVec.ofNat_or, BitVec.toNat_ofNat, BitVec.toNat_ofNat, BitVec.toNat_ofNat,
    Nat.mod_eq_of_lt hx, Nat.mod_eq_of_lt hy, Nat.mod_eq_of_lt (Nat.or_lt_two_pow hx hy)] at hsum
  exact hsum.symm

/-- Setting a clear bit adds its value. -/
theorem or_bit_eq_add {m i : Nat} (h : m.testBit i = false) : m ||| (1 <<< i) = m + 2 ^ i := by
  rw [Nat.one_shiftLeft]
  refine (add_eq_or_of_and_eq_zero (Nat.eq_of_testBit_eq (fun k => ?_))).symm
  rw [Nat.testBit_and, Nat.testBit_two_pow, Nat.zero_testBit]
  by_cases hk : i = k
  · simp [← hk, h]
  · simp [hk]

theorem testBit_clear {m i k : Nat} (hm : m < 2 ^ 8) : (m &&& (255 ^^^ (1 <<< i))).testBit k = (m.testBit k && decide (i ≠ k)) := by
  rw [Nat.testBit_and]
  by_cases hk : k < 8
  · have hall : Nat.testBit 255 k = true := by rw [show 255 = 2 ^ 8 - 1 from rfl, Nat.testBit_two_pow_sub_one]; simpa using hk
    rw [Nat.one_shiftLeft, Nat.testBit_xor, Nat.testBit_two_pow, hall]
    simp
  · rw [Nat.testBit_lt_two_pow (hm.trans_le (Nat.pow_le_pow_right (by decide) (Nat.le_of_not_lt hk)))]
    rfl

/-- Clearing a set bit of a byte takes its value away. -/
theorem clear_bit_add {m i : Nat} (hm : m < 2 ^ 8) (h : m.testBit i = true) : (m &&& (255 ^^^ (1 <<< i))) + 2 ^ i = m := by
  refine (add_eq_or_of_and_eq_zero (Nat.eq_of_testBit_eq (fun k => ?_))).trans (Nat.eq_of_testBit_eq (fun k => ?_))
  · rw [Nat.testBit_and, testBit_clear hm, Nat.testBit_two_pow, Nat.zero_testBit]
    by_cases hk : i = k <;> simp [hk]
  · rw [Nat.testBit_or, testBit_clear hm, Nat.testBit_two_pow]
    by_cases hk : i = k
    · simp [← hk, h]
    · simp [hk]

/-! ### A member taken out -/

section
variable (s : State) (j i : Nat)

/-- MEMBERS of a trunk. -/
abbrev State.mset (s : State) (j : Nat) : Nat := s.get F.FAB_TRK_STAT_MEMBERS [j]

theorem State.mset_lt : s.mset j < 2 ^ 8 := s.get_lt _ _

theorem State.mset_cleared : (s.setMember j i false).mset j = s.mset j &&& (255 ^^^ (1 <<< i)) :=
  (s.get_set_same _ _ _ (by decide)).trans (Nat.mod_eq_of_lt (Nat.and_le_left.trans_lt (s.mset_lt j)))

/-- A member is taken out of MEMBERS, and its records are forgotten (R298). -/
def State.memberTaken (s : State) (j i : Nat) : State :=
  ((((s.setMember j i false).dozeEnd (8 * j + i)).lnkUp (fun x => { x with
    dozeAsk := x.dozeAsk.filter (· != 8 * j + i), shortRetrain := x.shortRetrain.filter (· != 8 * j + i) })).tkUp j (fun x => { x with
    hello := x.hello.del i, asked := x.asked.filter (· != i), badFlits := x.badFlits.del i, prevTx := x.prevTx.del i, mq := x.mq.del i,
    mseqTx := x.mseqTx.del i, mseqRx := x.mseqRx.del i }))

theorem State.memReset_eq : s.memReset j i = (s.memberTaken j i).retrain (8 * j + i) := (rfl)

/-- A member is taken out, retrains, raises its event and is declared failed (R298). -/
def State.memberOut (s : State) (j i : Nat) : State := ((s.memReset j i).portEvent (8 * j) 6 2).declare 6 (8 * j + i)

/-- The registers of a member that leaves, beside MEMBERS and the events. -/
def outNames : List RN := [.LN_STAT, .PP_STAT, .PT_CNT, .LK_TOTAL, .LK_STAT, .MGR_JNL_SEQ, .GSV_DEG]

theorem State.memberTaken_rd {r : Reg} (hr : r.n ≠ .LN_STAT) : (s.memberTaken j i).rd r = (s.setMember j i false).rd r := by
  rw [State.memberTaken, State.rd_tkUp, State.rd_lnkUp, State.dozeEnd_rd _ _ hr]

variable {s j i} in
theorem State.memberOut_rd {r : Reg} (ht : r.n ∉ tripNames) (hn : r.n ∉ outNames) : (s.memberOut j i).rd r = (s.setMember j i false).rd r := by
  simp only [outNames, List.mem_cons, List.not_mem_nil, or_false, not_or] at hn
  obtain ⟨hln, hpp, hcnt, htot, hlk, hseq, hdeg⟩ := hn
  have hretrain := ((s.memberTaken j i).linkStep_retrain (8 * j + i)).frame.keeps
  have hr {n : RN} (h : r.n ≠ n) (ix : List Nat) : r ≠ ⟨n, ix⟩ := fun e => h (congrArg Reg.n e)
  rw [State.memberOut, (State.linkOnly_declare _ 6 (8 * j + i)).keeps.rd (by simp [hr hseq, hr hdeg]) ht, State.portEvent,
    (State.only_event _ _ _).rd (by simp) ht, State.memReset_eq,
    hretrain.rd (by simp [hr hpp, hr hcnt, hr htot, hr hlk]) ht, s.memberTaken_rd j i hln]

variable {s j i} in
theorem State.memberOut_get {f : Fld} {ix : List Nat} (ht : f.reg ∉ tripNames) (hn : f.reg ∉ outNames) :
    (s.memberOut j i).get f ix = (s.setMember j i false).get f ix := by
  rw [State.get_eq, State.memberOut_rd (r := ⟨f.reg, ix⟩) ht hn, State.get_eq]

theorem State.memberOut_mset : (s.memberOut j i).mset j = s.mset j &&& (255 ^^^ (1 <<< i)) :=
  (State.memberOut_get (by decide) (by decide)).trans (s.mset_cleared j i)

/-- A register other than the trunk's status. -/
theorem State.setMember_rd {r : Reg} (on : Bool) (hr : r.n ≠ .FAB_TRK_STAT) : (s.setMember j i on).rd r = s.rd r :=
  s.rd_wr_ne _ (fun e => hr (congrArg Reg.n e))

theorem State.linkOnly.trunk {s u : State} {l : List Reg} {xs : List Trip} (h : s.linkOnly u l xs) : u.trunk = s.trunk :=
  (congrArg State.trunk h.2 :)

theorem State.memberOut_trunk : (s.memberOut j i).trunk = (s.memberTaken j i).trunk := by
  rw [State.memberOut, (State.linkOnly_declare _ _ _).trunk, State.portEvent, (State.only_event _ _ _).trunk, State.memReset_eq,
    (State.linkStep_retrain _ _).frame.trunk]

theorem State.memberTaken_copies : ((s.memberTaken j i).tk j).copies = (s.tk j).copies := by
  have htk : (((s.setMember j i false).dozeEnd (8 * j + i)).lnkUp (fun x => { x with
      dozeAsk := x.dozeAsk.filter (· != 8 * j + i), shortRetrain := x.shortRetrain.filter (· != 8 * j + i) })).trunk = s.trunk :=
    (State.only_dozeEnd (s.setMember j i false) (8 * j + i)).trunk
  rw [State.memberTaken, State.tk_tkUp]
  exact (congrArg TrunkSt.copies (State.tk_congr htk j) :)

theorem State.memberOut_copies : ((s.memberOut j i).tk j).copies = (s.tk j).copies := by
  rw [State.tk_congr (s.memberOut_trunk j i), State.memberTaken_copies]

theorem State.memberTaken_fwd : (s.memberTaken j i).fwd = s.fwd := by
  rw [State.memberTaken, State.tkUp_fwd, State.lnkUp_fwd, State.dozeEnd_fwd, State.setMember, State.set_fwd]

theorem State.memberTaken_cfg : (s.memberTaken j i).cfg = s.cfg := by
  have hdoze : ((s.setMember j i false).dozeEnd (8 * j + i)).cfg = s.cfg := 
    (congrArg State.cfg (State.only_dozeEnd (s.setMember j i false) (8 * j + i)).2 :)
  rw [State.memberTaken, State.tkUp_cfg, State.lnkUp_cfg, hdoze]

theorem State.linkOnly.fwd {s u : State} {l : List Reg} {xs : List Trip} (h : s.linkOnly u l xs) : u.fwd = s.fwd := (congrArg State.fwd h.2 :)

theorem State.linkOnly.cfg {s u : State} {l : List Reg} {xs : List Trip} (h : s.linkOnly u l xs) : u.cfg = s.cfg := (congrArg State.cfg h.2 :)

theorem State.memberOut_fwd : (s.memberOut j i).fwd = s.fwd := by
  rw [State.memberOut, State.declare_fwd, State.portEvent, (State.only_event _ _ _).fwd, State.memReset_eq,
    (State.linkStep_retrain _ _).frame.fwd, State.memberTaken_fwd]

theorem State.memberOut_cfg : (s.memberOut j i).cfg = s.cfg := by
  rw [State.memberOut, State.declare_cfg, State.portEvent, State.event_cfg, State.memReset_eq,
    (State.linkStep_retrain _ _).frame.cfg, State.memberTaken_cfg]

/-- The member's event is raised. -/
theorem State.memberOut_raised : ((s.memberOut j i).rd (Trip.port (8 * j) 6).stat).getLsbD 2 = true := by
  have hraised := State.event_statBit (s.memReset j i) (.port (8 * j) 6) (b := 2) (by decide)
  rw [State.memberOut, State.portEvent]
  exact ((State.onward.refl _).declare 6 (8 * j + i)).raised _ _ hraised

theorem State.memberOut_failed : (6, 8 * j + i) ∈ (s.memberOut j i).flt.failed := by
  rw [State.memberOut]
  exact State.declare_failed _ _ _

theorem State.onward_memberTaken : s.onward (s.memberTaken j i) := by
  have hcleared : s.onward (s.setMember j i false) := (State.onward.refl s).set _ _ (by simp)
  rw [State.memberTaken]
  exact ((hcleared.dozeEnd _).lnkUp _).tkUp j _

theorem State.onward_memberOut : s.onward (s.memberOut j i) := by
  rw [State.memberOut, State.memReset_eq]
  exact (((s.onward_memberTaken j i).retrain (8 * j + i)).event _ _).declare 6 (8 * j + i)

variable {s j i} in
/-- A member in L0 goes to Recovery. -/
theorem State.memberOut_state (h : s.inL0 (8 * j + i) = true) : (s.memberOut j i).pget F.PP_STAT_LINK_STATE (8 * j + i) = 5 := by
  have hup : (s.memberTaken j i).pget F.PP_STAT_LINK_STATE (8 * j + i) ∈ [3, 4, 6] := by
    rw [State.pget, State.get_eq, s.memberTaken_rd j i (by simp), s.setMember_rd j i false (by simp), ← State.get_eq]
    exact State.up_of_inL0 h
  rw [State.memberOut, State.pget, State.declare_get _ (by decide)]
  exact (State.pget_event _ _ _ _ (by decide)).trans (State.retrain_up _ _ hup).1

variable {s j i} in
/-- Another member of the trunk stays. -/
theorem State.memberOut_stays {k : Nat} (h : (s.mset j).testBit k = true) (hne : k ≠ i) : ((s.memberOut j i).mset j).testBit k = true := by
  rw [s.memberOut_mset, testBit_clear (s.mset_lt j), h]
  simp [hne.symm]

theorem State.memberOut_gone : ((s.memberOut j i).mset j).testBit i = false := by
  rw [s.memberOut_mset, testBit_clear (s.mset_lt j)]
  simp

variable {s j} in
theorem State.mset_bit_lt {k : Nat} (h : (s.mset j).testBit k = true) : k < 8 := by
  by_contra hk
  rw [Nat.testBit_lt_two_pow ((s.mset_lt j).trans_le (Nat.pow_le_pow_right (by decide) (Nat.le_of_not_lt hk)))] at h
  cases h

variable {s j} in
theorem State.mem_members {k : Nat} : k ∈ s.members j ↔ (s.mset j).testBit k = true := by
  simp only [State.members, below, List.mem_filter, List.mem_range, and_iff_right_iff_imp]
  exact State.mset_bit_lt

/-- A member that leaves a trunk that others keep up: it is taken out, its packets are resent, and what waits is sent (R298). -/
theorem State.memberLeave_eq (tell : Bool) : s.memberLeave j i tell =
    if (s.mset j).testBit i = false then s
    else if (s.memberOut j i).members j = [] then (s.memberOut j i).trunkLost j
    else
      (((((s.memberOut j i).when tell (·.tkSend j (.join i 1))).tk j).copies.filter (fun c => c.mem == i)).foldl
        (fun (s : State) (c : KCopy) => s.resendCopy j c.tseq) ((s.memberOut j i).when tell (·.tkSend j (.join i 1)))).trunkPump j := by
  simp only [State.memberLeave, List.isEmpty_iff, Bool.not_eq_true']
  rfl

variable {s j i} in
/-- A member leaves an idle trunk that others keep up: it is taken out, and the end that found it says so (R298). -/
theorem State.memberLeave_idle {k : Nat} (tell : Bool) (hi : (s.mset j).testBit i = true) (hk : (s.mset j).testBit k = true) (hne : k ≠ i)
    (hcopies : (s.tk j).copies = []) (hq : s.fwd.trunkq.lookD j [] = []) :
    s.memberLeave j i tell = (s.memberOut j i).when tell (·.tkSend j (.join i 1)) := by
  have hmembers : (s.memberOut j i).members j ≠ [] := List.ne_nil_of_mem (State.mem_members.2 (State.memberOut_stays hk hne))
  have hsame : ((s.memberOut j i).when tell (·.tkSend j (.join i 1))).trunk = (s.memberOut j i).trunk ∧
      ((s.memberOut j i).when tell (·.tkSend j (.join i 1))).fwd = s.fwd := by
    cases tell
    · rw [State.when_false]
      exact ⟨rfl, s.memberOut_fwd j i⟩
    · rw [State.when_true]
      exact ⟨State.tkSend_trunk _ _ _, (State.trunkOnly_tkSend _ _ _).fwd.trans (s.memberOut_fwd j i)⟩
  rw [s.memberLeave_eq, if_neg (by simp [hi]), if_neg hmembers, State.tk_congr hsame.1, s.memberOut_copies, hcopies, List.filter_nil, List.foldl_nil]
  refine State.trunkPump_empty ?_
  rw [hsame.2, hq]

end

end Sys2Proof.Machine
end

section
/-!
SUPPORT. Flits, data packets, acknowledgements, NAK and resend timeouts of a trunk that is up (R276, R287 to R292).
-/

namespace Sys2Proof.Machine

/-! ### Flits -/

section
variable {s : State} {port : Fin 144}

/-- A leaky counter without a threshold never lasts (R456). -/
theorem State.leakyEvent_unlimited {n u : Nat} (h : s.get F.LK_CFG_THRESHOLD [0, n, u] = 0) : (s.leakyEvent 0 n u).2 = false := by
  rw [State.leakyEvent, h]
  rfl

/-- A failed flit of a port is counted in the member's row, in the trunk and in the leaky counter (R276, R298, R459). -/
def State.flitFailed (s : State) (p : Nat) : State :=
  (((s.tkUp (p / 8) (fun x => { x with badFlits := x.badFlits.put (p % 8) ((s.tk (p / 8)).badFlits.lookD (p % 8) 0 + 1) })).trunkCount
    (p / 8) 8).leakyEvent 0 (p / 4) (p % 4)).1

theorem execKfpFlitReceived_good (hs : s.sealed = false) (hrole : s.role port.val = 2) (hl0 : s.inL0 port.val = true) :
    execKfpFlitReceived port true false s =
      .next (s.tkUp (port.val / 8) (fun x => { x with badFlits := x.badFlits.del (port.val % 8) })) := by
  simp [execKfpFlitReceived, s.live_next _ hs, hrole, hl0, State.when_false]

theorem execKfpFlitReceived_bad (hs : s.sealed = false) (hrole : s.role port.val = 2) (hl0 : s.inL0 port.val = true)
    (hth : s.get F.LK_CFG_THRESHOLD [0, port.val / 4, port.val % 4] = 0) :
    execKfpFlitReceived port false false s = .next (if (s.tk (port.val / 8)).badFlits.lookD (port.val % 8) 0 = 7 then
      (s.flitFailed port.val).memberLeave (port.val / 8) (port.val % 8) true else s.flitFailed port.val) := by
  have hlasting (f : TrunkSt → TrunkSt) : (((s.tkUp (port.val / 8) f).trunkCount (port.val / 8) 8).leakyEvent 0 (port.val / 4) (port.val % 4)).2 = false := by
    refine State.leakyEvent_unlimited ?_
    rw [(State.only_trunkCount _ _ _ _).get (by simp) (by simp [Reg.apart, Trip.stat, Trip.int])]
    exact hth
  simp only [execKfpFlitReceived, s.live_next _ hs, hrole, hl0, hlasting, State.flitFailed]
  simp

theorem State.trunkOnly_flitFailed (s : State) (p : Nat) : s.trunkOnly (s.flitFailed p)
    [⟨.FAB_CNT, [p / 8, 8]⟩, ⟨.LK_TOTAL, [0, p / 4, p % 4]⟩, ⟨.LK_STAT, [0, p / 4, p % 4]⟩] [.port (8 * (p / 8)) 7, .tile (p / 4) 3] :=
  ((((State.trunkOnly.refl s [⟨.FAB_CNT, [p / 8, 8]⟩] [.port (8 * (p / 8)) 7]).tkUp (p / 8) _).trunkCount (p / 8) 8 (by simp) (by simp)).trans
    (.of_only (State.only_leakyEvent _ (p / 4) (p % 4)))).mono (by simp) (by simp)

theorem State.counts_flitFailed (s : State) (p : Nat) : s.counts (s.flitFailed p) ⟨.FAB_CNT, [p / 8, 8]⟩ :=
  State.counts_within rfl (State.counts_trunkCount (s.tkUp (p / 8) _) (p / 8) 8 1) ((State.only_leakyEvent _ _ _).rd (by simp) (by simp [tripNames]))

theorem State.flitFailed_tk (s : State) (p : Nat) : (s.flitFailed p).tk (p / 8) =
    { s.tk (p / 8) with badFlits := (s.tk (p / 8)).badFlits.put (p % 8) ((s.tk (p / 8)).badFlits.lookD (p % 8) 0 + 1) } := by
  rw [State.flitFailed, (State.only_leakyEvent _ _ _).tk, (State.only_trunkCount _ _ _ _).tk, State.tk_tkUp]

end

/-! ### Data packets -/

section
variable (s : State) (j i : Nat) (k : KData) (pick : Nat)

/-- What follows a good data packet: NAK_OUT, the XOFF state, and the waiting packets. -/
def State.dataDone (s : State) (j : Nat) : State := ((((s.updNakOut j).tkFc j).schedule (8 * j)).trunkPump j).settled

/-- A good packet that names no gap is counted if it was seen before or finds no room, else it is stored, and what is in order is released (R289
to R292). -/
def State.dataTaken (s : State) (j i : Nat) (k : KData) (pick : Nat) : State :=
  if passed (s.get F.FAB_TRK_SEQ_RX_CUM [j]) k.tseq ∨ ((s.tk j).store.look k.tseq).isSome then s.trunkCount j 4
  else if !s.rxRoom j i k then (s.trunkCount j 5).portEvent (8 * j) 6 7
  else
    let key := if s.kfp10 j then slot10 i k.prev else k.tseq
    (s.tkUp j (fun x => { x with store := x.store.put k.tseq k, naks := x.naks.filter (· != key) })).releaseStore j pick 65536

variable {s j i k}

/-- A good packet without PREV on a KFP 1.1 trunk that holds no copies. -/
theorem State.dataIn_taken (hon : s.tkOn j = true) (hmem : (s.mset j).testBit i = true) (hgood : k.good = true) (hstomp : k.stomp < 2)
    (hprev : k.prevV = false) (h10 : s.kfp10 j = false) (hcopies : (s.tk j).copies = []) :
    s.dataIn j i k pick = ((s.touch (8 * j + i)).dataTaken j i k pick).dataDone j := by
  have hack : (s.touch (8 * j + i)).ackTo j k.ack = s.touch (8 * j + i) := State.ackTo_none (by simp [hcopies])
  have hgaps : (s.touch (8 * j + i)).gaps j i k = s.touch (8 * j + i) := by
    have h10' : (s.touch (8 * j + i)).kfp10 j = false := h10
    simp [State.gaps, h10', hprev]
  unfold State.dataIn
  rw [hon, hmem]
  simp only [hgood, hack, hgaps, not_true_eq_false, false_or, Nat.not_le.2 hstomp, if_false, Bool.not_true, Bool.or_self, Bool.false_eq_true]
  rfl

theorem State.dataIn_bad (hon : s.tkOn j = true) (hmem : (s.mset j).testBit i = true) (hgood : k.good = false) :
    s.dataIn j i k pick = (s.touch (8 * j + i)).tkUp j (fun x => { x with bad := addNew x.bad k.tseq }) := by
  unfold State.dataIn
  rw [hon, hmem, hgood]
  rfl

/-- Nothing is released while the next packet in order is missing (R290). -/
theorem State.releaseStore_stop (h : (s.tk j).store.look (s.get F.FAB_TRK_SEQ_RX_CUM [j]) = none) (n : Nat) : s.releaseStore j pick n = s := by
  cases n with
  | zero => rfl
  | succ n => rw [State.releaseStore, h]

/-- A packet of a KFP 1.1 trunk is stored, and its reserved slot is free (R290, R291). -/
def State.storeNew (s : State) (j : Nat) (k : KData) : State :=
  s.tkUp j (fun x => { x with store := x.store.put k.tseq k, naks := x.naks.filter (· != k.tseq) })

/-- A packet ahead of CUM, with room for it. -/
theorem State.dataTaken_stored (hahead : passed (s.get F.FAB_TRK_SEQ_RX_CUM [j]) k.tseq = false) (hne : k.tseq ≠ s.get F.FAB_TRK_SEQ_RX_CUM [j])
    (hnext : (s.tk j).store.look (s.get F.FAB_TRK_SEQ_RX_CUM [j]) = none) (hnew : (s.tk j).store.look k.tseq = none)
    (hroom : s.rxRoom j i k = true) (h10 : s.kfp10 j = false) :
    s.dataTaken j i k pick = s.storeNew j k := by
  unfold State.dataTaken
  rw [if_neg (by simp [hahead, hnew]), hroom, if_neg (by simp), h10]
  refine State.releaseStore_stop (s := s.storeNew j k) pick ?_ 65536
  rw [State.storeNew, State.tk_tkUp, State.get_tkUp]
  exact (AMap.look_put_ne _ _ hne.symm).trans hnext

theorem State.dataTaken_seen (h : passed (s.get F.FAB_TRK_SEQ_RX_CUM [j]) k.tseq = true) : s.dataTaken j i k pick = s.trunkCount j 4 := by
  rw [State.dataTaken, if_pos (.inl h)]

/-- An idle trunk sends nothing after a data packet but its XOFF state. -/
theorem State.dataDone_idle (hq : s.fwd.trunkq.lookD j [] = []) (hsq : ∀ c < 4, s.sq (8 * j) c = []) (hlost : s.fwd.lostQ = []) :
    s.dataDone j = (s.updNakOut j).tkFc j := by
  have hfwd : ((s.updNakOut j).tkFc j).fwd = s.fwd := (State.trunkOnly_tkFc _ j).fwd.trans (s.trunkOnly_updNakOut j).fwd
  rw [State.dataDone, State.schedule_empty (fun c hc => (State.sq_congr hfwd _ c).trans (hsq c hc)), State.trunkPump_empty (by rw [hfwd, hq]),
    State.settled_of_noLoss (by rw [hfwd, hlost])]

theorem State.trunkOnly_fcShown (s : State) (j : Nat) :
    s.trunkOnly ((s.updNakOut j).tkFc j) [⟨.FAB_TRK_SEQ, [j]⟩, ⟨.FAB_TRK_STAT, [j]⟩] [] := (s.trunkOnly_updNakOut j).trans (State.trunkOnly_tkFc _ j)

theorem State.fcShown_trunk (s : State) (j : Nat) : ((s.updNakOut j).tkFc j).trunk = s.trunk := State.tkFc_trunk _ j

theorem State.fcShown_cum (s : State) (j : Nat) : ((s.updNakOut j).tkFc j).get F.FAB_TRK_SEQ_RX_CUM [j] = s.get F.FAB_TRK_SEQ_RX_CUM [j] :=
  ((State.trunkOnly_tkFc _ j).get (by simp) (by decide)).trans (s.updNakOut_cum j)

end

/-! ### Acknowledgements and XOFF states -/

section
variable {s : State} {j : Nat} (p xoff : Nat)

/-- An ACK or an FC at an idle trunk leaves its XOFF state and sends nothing (R290, R294). -/
theorem State.xoffSet_idle (hq : s.fwd.trunkq.lookD j [] = []) (hsq : ∀ c < 4, s.sq (8 * j) c = []) :
    ((s.set F.FAB_TRK_STAT_XOFF_RX [j] xoff).schedule (8 * j)).trunkPump j = s.set F.FAB_TRK_STAT_XOFF_RX [j] xoff := by
  rw [State.schedule_empty (s := s.set F.FAB_TRK_STAT_XOFF_RX [j] xoff) (fun c hc => (State.sq_congr (s.set_fwd _ _ _) _ c).trans (hsq c hc))]
  exact State.trunkPump_empty hq

theorem State.xoffSet_get (h : xoff < 16) : (s.set F.FAB_TRK_STAT_XOFF_RX [j] xoff).get F.FAB_TRK_STAT_XOFF_RX [j] = xoff :=
  (s.get_set_same _ _ _ (by decide)).trans (Nat.mod_eq_of_lt h)

end

/-! ### A single held copy -/

section
variable {s : State} {j i : Nat} {c : KCopy}

theorem State.kfp10_congr {s u : State} {j : Nat} (h : u.get F.FAB_TRK_STAT_VER_MIN [j] = s.get F.FAB_TRK_STAT_VER_MIN [j]) :
    u.kfp10 j = s.kfp10 j := by rw [State.kfp10, h, State.kfp10]

/-- A NAK that names the only copy held resends it (R291). -/
theorem State.nakIn_single {v cum : Nat} (mem : Nat) (hon : s.tkOn j = true) (hmem : (s.mset j).testBit i = true) (h10 : s.kfp10 j = false)
    (hq : s.fwd.trunkq.lookD j [] = []) (hcopies : (s.tk j).copies = [c]) (hv : c.tseq = v) (hcum : passed cum c.tseq = false) {q : Nat}
    (hpick : s.pickMember j = some q) :
    s.nakIn j i cum mem [v] = ((s.touch (8 * j + i)).trunkCount j 3).sentAgain j q c c.tseq := by
  have hack : (s.touch (8 * j + i)).ackTo j cum = s.touch (8 * j + i) := State.ackTo_none (by simp [hcopies, hcum])
  have honly := (s.touch (8 * j + i)).only_trunkCount j 3 1
  have htk : ((s.touch (8 * j + i)).trunkCount j 3).tk j = s.tk j := honly.tk j
  have hpick' : ((s.touch (8 * j + i)).trunkCount j 3).pickMember j = some q := by
    rw [State.pickMember_congr (s := s) (fun r hr => honly.rd ?_ ?_) (congrArg LnkSt.doze honly.lnk :) (congrArg LnkSt.shortRetrain honly.lnk :) htk,
      hpick]
    · simp only [List.mem_singleton]
      rintro rfl
      exact absurd hr (by simp [pickNames])
    · exact (show ∀ n ∈ pickNames, n ∉ tripNames by decide) _ hr
  have h10' : ((s.touch (8 * j + i)).trunkCount j 3).kfp10 j = false := by
    rw [State.kfp10_congr (honly.get (by simp) (by simp [Reg.apart, Trip.stat, Trip.int]))]
    exact h10
  have hagain := State.resendCopy_single _ (htk ▸ hcopies) h10' hpick'
  have hfwd : (((s.touch (8 * j + i)).trunkCount j 3).sentAgain j q c c.tseq).fwd = s.fwd := (State.trunkOnly_sentAgain _ j q c _).fwd.trans honly.fwd
  have hnamed : (((s.touch (8 * j + i)).trunkCount j 3).tk j).copies.filter (fun c => if ((s.touch (8 * j + i)).trunkCount j 3).kfp10 j
      then c.mem == mem && [v].contains c.mseq else [v].contains c.tseq) = [c] := by
    rw [h10', htk, hcopies]
    simp [hv]
  unfold State.nakIn
  rw [if_pos ⟨hon, hmem⟩, hack]
  dsimp only
  rw [hnamed, List.foldl_cons, List.foldl_nil, hagain]
  exact State.trunkPump_empty (by rw [hfwd, hq])

/-- A copy that has waited for RTO, with resends left, is sent again (R288). -/
theorem execResendTimeout_due {j : Fin 18} {tseq : W16} (hs : s.sealed = false) (hcopies : (s.tk j.val).copies = [c]) (hc : c.tseq = tseq.toNat)
    (hdue : c.at_ + s.rtoNs j.val ≤ s.now) (htries : c.tries < s.retryMax j.val) (h10 : s.kfp10 j.val = false) {i : Nat}
    (hpick : s.pickMember j.val = some i) : execResendTimeout j tseq s = .next (s.sentAgain j.val i c c.tseq) := by
  have hfind : (s.tk j.val).copies.find? (fun q => q.tseq == tseq.toNat) = some c := by simp [hcopies, hc]
  unfold execResendTimeout
  rw [s.live_next _ hs, hfind]
  dsimp only
  rw [if_neg (Nat.not_lt.2 hdue), if_neg (Nat.not_le.2 htries), State.resendCopy_single i hcopies h10 hpick]

theorem execResendTimeout_early {j : Fin 18} {tseq : W16} (hs : s.sealed = false) (hcopies : (s.tk j.val).copies = [c])
    (hearly : s.now < c.at_ + s.rtoNs j.val) : execResendTimeout j tseq s = .next s := by
  unfold execResendTimeout
  rw [s.live_next _ hs, hcopies]
  split
  next q hq =>
    obtain rfl : q = c := List.mem_singleton.1 (List.mem_of_find?_eq_some hq)
    rw [if_pos hearly]
  next => rfl

end

/-! ### Acknowledgements by themselves -/

/-- CUM has advanced, and nothing has carried it for ACK_IDLE (R290). -/
theorem execAckIdleTimeout_due {s : State} {j : Fin 18} (hs : s.sealed = false) (hon : s.tkOn j.val = true)
    (hnew : (s.tk j.val).cumSent ≠ s.get F.FAB_TRK_SEQ_RX_CUM [j.val])
    (hidle : (s.tk j.val).cumAt + max 16 (s.get F.FAB_TRK_CFG_ACK_IDLE [j.val]) ≤ s.now) : execAckIdleTimeout j s = .next (s.sendAck j.val) :=
  (s.live_next _ hs).trans (by rw [if_pos ⟨hon, hnew, hidle⟩])

theorem execAckIdleTimeout_early {s : State} {j : Fin 18} (hs : s.sealed = false)
    (hearly : s.now < (s.tk j.val).cumAt + max 16 (s.get F.FAB_TRK_CFG_ACK_IDLE [j.val])) : execAckIdleTimeout j s = .next s :=
  (s.live_next _ hs).trans (by rw [if_neg (fun h => absurd h.2.2 (Nat.not_le.2 hearly))])

/-! ### Echoes -/

theorem State.shEcho_fwd (s : State) (x : Nat) : (s.shEcho x).fwd = s.fwd := by
  unfold State.shEcho
  dsimp only
  split <;> exact (State.only_shCount _ x _ _).fwd

/-- An echo for a port of this device is taken by the ingress shaper of its virtual switch (R306, R445). -/
theorem State.echoIn_own {s : State} {j sc gpid v : Nat} (count : Nat) (hon : s.tkOn j = true) (hdev : gpid / 256 = s.get F.FAB_DEV_NUM [])
    (hport : gpid % 256 < 144) (hv : s.vsOfPort (gpid % 256) = some v) (htakes : s.shTakes (576 + 4 * v + sc) = true) :
    s.echoIn j sc gpid count = s.shEcho (576 + 4 * v + sc) := by
  simp [State.echoIn, hon, hdev, hport, State.echoPort, hv, htakes]

end Sys2Proof.Machine
end

section
/-!
PROOF. Flits, data packets, acknowledgements, resends and echoes of a trunk that is up (O34; R276 to R294, R306).
-/

namespace Sys2Proof.Machine

/-- A member's eighth failed flit takes it out, and the trunk that others keep up stays up (R276, R298). -/
theorem State.eighthFlit {s : State} {port : Fin 144} (hmore : (s.members (port.val / 8)).any (fun i => i != port.val % 8) = true)
    (hq : s.fwd.trunkq.lookD (port.val / 8) [] = []) (hcopies : (s.tk (port.val / 8)).copies = []) {u : State}
    (hu : u = (s.flitFailed port.val).memberLeave (port.val / 8) (port.val % 8) true) :
    (u.mset (port.val / 8)).testBit (port.val % 8) = false ∧ s.counts u ⟨.FAB_CNT, [port.val / 8, 8]⟩ ∧
      u.get F.FAB_TRK_STAT_UP [port.val / 8] = s.get F.FAB_TRK_STAT_UP [port.val / 8] ∧ u.fwd = s.fwd ∧ u.cfg = s.cfg := by
  subst hu
  have hflit := s.trunkOnly_flitFailed port.val
  have hstat (f : Fld) (hf : f.reg = .FAB_TRK_STAT) : (s.flitFailed port.val).get f [port.val / 8] = s.get f [port.val / 8] :=
    hflit.get (by simp [hf]) (by rw [hf]; decide)
  by_cases hin : ((s.flitFailed port.val).mset (port.val / 8)).testBit (port.val % 8) = true
  · obtain ⟨k, hk, hne⟩ := List.any_eq_true.1 hmore
    have hkin : ((s.flitFailed port.val).mset (port.val / 8)).testBit k = true := by
      rw [State.mset, hstat _ rfl]
      exact State.mem_members.1 hk
    have hidle := State.memberLeave_idle true hin hkin (by simpa using hne)
      ((congrArg TrunkSt.copies (s.flitFailed_tk port.val) :).trans hcopies) (by rw [hflit.fwd, hq])
    rw [hidle, State.when_true]
    have hsend := ((s.flitFailed port.val).memberOut (port.val / 8) (port.val % 8)).trunkOnly_tkSend (port.val / 8) (.join (port.val % 8) 1)
    refine ⟨?_, State.counts_within (u := s.flitFailed port.val) rfl (s.counts_flitFailed port.val) ?_, ?_, ?_, ?_⟩
    · rw [State.mset, hsend.get (by simp) (by decide)]
      exact State.memberOut_gone _ _ _
    · rw [hsend.rd (by simp) (by simp [tripNames]), State.memberOut_rd (by simp [tripNames]) (by simp [outNames]), State.setMember_rd _ _ _ _ (by simp)]
    · rw [hsend.get (by simp) (by decide), State.memberOut_get (by decide) (by decide), ← hstat _ rfl]
      exact State.get_set_disj _ _ _ _ _ _ (.inr (by decide))
    · rw [hsend.fwd, State.memberOut_fwd, hflit.fwd]
    · rw [hsend.cfg, State.memberOut_cfg, hflit.cfg]
  · rw [State.memberLeave_eq, if_pos (by simpa using hin)]
    exact ⟨by simpa using hin, s.counts_flitFailed port.val, hstat _ rfl, hflit.fwd, hflit.cfg⟩

/-- A held copy sent again goes out as a packet marked RESEND. -/
theorem State.any_sentAgain {s t : State} {j i : Nat} {c : KCopy} {x : Tlp} (hst : s.sentGrows t) (hx : c.pkt.body = .tlp x) :
    ((t.sentAgain j i c c.tseq).sent.drop s.sent.length).any (fun o => match o with
      | .kfp _ (.data k) => k.tseq == c.tseq && k.resend && k.tlp == x
      | _ => false) = true := by
  obtain ⟨k, hk, htseq, hresend, htlp⟩ := t.sentAgain_sent j i c c.tseq (t := x) (by rw [Pkt.tlp?, hx])
  exact List.any_eq_true.2 ⟨_, hst.mem hk, by simp [htseq, hresend, htlp]⟩

/-- Settles O34, packet by packet; on an idle trunk what follows each of them sends nothing more. -/
theorem trunkDataAcknowledgementAndResend : Obligations.trunk_data_acknowledgement_and_resend := by
  unfold Obligations.trunk_data_acknowledgement_and_resend
  refine ⟨?goodFlit, ?badFlit, ?eighthFlit, ?stored, ?seen, ?bad, ?ack, ?nak, ?fc, ?echo, ?resend, ?early, ?ackIdle, ?ackEarly⟩
  case goodFlit =>
    intro s port hs hrole hl0
    refine ⟨_, execKfpFlitReceived_good hs hrole hl0, ?_, ?_, rfl⟩ <;> rw [State.tk_tkUp]
    exact AMap.look_del_same _ _
  case badFlit =>
    intro s port n hs hrole hl0 hn hlt hth
    have hflit := s.trunkOnly_flitFailed port.val
    refine ⟨_, (execKfpFlitReceived_bad hs hrole hl0 hth).trans (by rw [if_neg (by omega)]), ?_, s.counts_flitFailed port.val,
      hflit.get (by simp) (by decide), hflit.fwd, hflit.cfg⟩
    rw [s.flitFailed_tk port.val, hn]
    exact AMap.lookD_put_same _ _ _ _
  case eighthFlit =>
    intro s port hs hrole hl0 hn hth hmore hq hcopies
    exact ⟨_, (execKfpFlitReceived_bad hs hrole hl0 hth).trans (by rw [if_pos hn]), State.eighthFlit hmore hq hcopies rfl⟩
  case stored =>
    intro s port k pick hs hon hmem hgood hstomp hprev h10 hcopies hahead hnext hnew hne hroom hq hsq hlost
    refine State.runs_live (f := (·.dataIn (port.val / 8) (port.val % 8) k pick.val)) rfl hs ?_
    have hstore := State.dataTaken_stored (s := s.touch (8 * (port.val / 8) + port.val % 8)) (i := port.val % 8) pick.val hahead hne hnext hnew hroom h10
    have hcell : s.trunkOnly ((s.touch (8 * (port.val / 8) + port.val % 8)).storeNew (port.val / 8) k) [] [] := .of_records _ _
    rw [State.dataIn_taken pick.val hon hmem hgood hstomp hprev h10 hcopies, hstore,
      State.dataDone_idle (by rw [hcell.fwd, hq]) (fun c hc => (State.sq_congr hcell.fwd _ c).trans (hsq c hc)) (by rw [hcell.fwd, hlost])]
    have hdone := hcell.trans (State.trunkOnly_fcShown _ (port.val / 8))
    refine ⟨?_, State.fcShown_cum _ _, hdone.fwd, hdone.cfg, hdone.journal⟩
    rw [State.tk_congr (State.fcShown_trunk _ _), State.storeNew, State.tk_tkUp]
    exact AMap.look_put_same _ _ _
  case seen =>
    intro s port k pick hs hon hmem hgood hstomp hprev h10 hcopies hpassed hq hsq hlost
    refine State.runs_live (f := (·.dataIn (port.val / 8) (port.val % 8) k pick.val)) rfl hs ?_
    have hcount := (s.touch (8 * (port.val / 8) + port.val % 8)).only_trunkCount (port.val / 8) 4 1
    rw [State.dataIn_taken pick.val hon hmem hgood hstomp hprev h10 hcopies,
      State.dataTaken_seen (s := s.touch (8 * (port.val / 8) + port.val % 8)) pick.val hpassed,
      State.dataDone_idle (by rw [hcount.fwd]; exact hq) (fun c hc => (State.sq_congr hcount.fwd _ c).trans (hsq c hc)) (by rw [hcount.fwd]; exact hlost)]
    have hdone := State.trunkOnly_fcShown ((s.touch (8 * (port.val / 8) + port.val % 8)).trunkCount (port.val / 8) 4) (port.val / 8)
    refine ⟨?_, ?_, ?_, hdone.fwd.trans hcount.fwd, hdone.cfg.trans (congrArg State.cfg hcount.2 :)⟩
    · rw [State.tk_congr (State.fcShown_trunk _ _), hcount.tk]
      rfl
    · exact State.counts_within (t := s.touch (8 * (port.val / 8) + port.val % 8)) rfl (State.counts_trunkCount _ _ 4 1)
        (hdone.rd (by simp) (by simp [tripNames]))
    · exact (State.fcShown_cum _ _).trans (hcount.get (by simp) (by simp [Reg.apart, Trip.stat, Trip.int]))
  case bad =>
    intro s port k pick hs hon hmem hgood
    refine State.runs_live (f := (·.dataIn (port.val / 8) (port.val % 8) k pick.val)) rfl hs ?_
    rw [State.dataIn_bad pick.val hon hmem hgood]
    refine ⟨?_, ?_, rfl⟩ <;> rw [State.tk_tkUp]
    · exact mem_addNew _ _
    · rfl
  case ack =>
    intro s port cum xoff hs hon hmem hq hsq
    refine State.runs_live (f := (·.ackIn (port.val / 8) (port.val % 8) cum.toNat xoff.val)) rfl hs ?_
    have hack := (State.trunkOnly.of_records (s := s) (s.touch (8 * (port.val / 8) + port.val % 8)).lnk s.trunk).trans
      ((s.touch (8 * (port.val / 8) + port.val % 8)).trunkOnly_ackTo (port.val / 8) cum.toNat)
    have hset := hack.set F.FAB_TRK_STAT_XOFF_RX [port.val / 8] xoff.val (by simp)
    rw [State.ackIn, if_pos ⟨hon, hmem⟩, State.xoffSet_idle _ (by rw [hack.fwd, hq]) (fun c hc => (State.sq_congr hack.fwd _ c).trans (hsq c hc))]
    refine ⟨?_, State.xoffSet_get _ xoff.isLt, hset.fwd, ?_, hset.cfg, hset.keeps⟩
    · exact (State.ackTo_copies _ _ _ :)
    · exact (State.ackTo_sent _ _ _ :)
  case nak =>
    intro s port cum v mem c t hs hon hmem h10 hq hcopies hc hcum ht hpick
    obtain ⟨q, hq'⟩ := Option.isSome_iff_exists.1 hpick
    refine State.runs_live (f := (·.nakIn (port.val / 8) (port.val % 8) cum.toNat mem.val [v.toNat])) rfl hs ?_
    rw [State.nakIn_single mem.val hon hmem h10 hq hcopies hc hcum hq']
    have hcount := (s.touch (8 * (port.val / 8) + port.val % 8)).only_trunkCount (port.val / 8) 3 1
    have hgrows : s.sentGrows ((s.touch (8 * (port.val / 8) + port.val % 8)).trunkCount (port.val / 8) 3) :=
      (State.sentGrows_of_eq (State.sent_touch s _)).trans (State.sentGrows_count _ _ _ _)
    have hagain := ((s.touch (8 * (port.val / 8) + port.val % 8)).trunkCount (port.val / 8) 3).trunkOnly_sentAgain (port.val / 8) q c c.tseq
    refine ⟨hc ▸ State.any_sentAgain hgrows ht, ?_, ?_, ?_, hagain.fwd.trans hcount.fwd, hagain.cfg.trans (congrArg State.cfg hcount.2 :)⟩
    · rw [State.sentAgain_tk, hcount.tk, State.tk_touch, hcopies]
      simp [KCopy.again, hc]
    · exact State.counts_within (t := s.touch (8 * (port.val / 8) + port.val % 8)) rfl (State.counts_trunkCount _ _ 3 1)
        (hagain.rd (by simp) (by simp [tripNames]))
    · exact State.counts_within (hcount.rd (by simp) (by simp [tripNames])) (State.counts_sentAgain _ _ q c c.tseq) rfl
  case fc =>
    intro s port xoff hs hon hmem hq hsq
    refine State.runs_live (f := (·.fcIn (port.val / 8) (port.val % 8) xoff.val)) rfl hs ?_
    rw [State.fcIn, if_pos ⟨hon, hmem⟩, State.xoffSet_idle (s := s.touch (8 * (port.val / 8) + port.val % 8)) _ hq hsq]
    exact ⟨State.xoffSet_get _ xoff.isLt, State.only_set _ _ _ _⟩
  case echo =>
    intro s port sc gpid count v hs hon hdev hport hv htakes hopen hw
    refine State.runs_live (f := (·.echoIn (port.val / 8) sc.val gpid.val count.val)) rfl hs ?_
    rw [State.echoIn_own count.val hon hdev hport hv htakes]
    obtain ⟨hrate, -, hcount⟩ := State.shEcho_open hopen hw
    exact ⟨hrate, hcount, State.shEcho_fwd _ _⟩
  case resend =>
    intro s j tseq c t hs hcopies hc hdue htries ht h10 hpick
    obtain ⟨i, hi⟩ := Option.isSome_iff_exists.1 hpick
    have hagain := s.trunkOnly_sentAgain j.val i c c.tseq
    refine ⟨_, execResendTimeout_due hs hcopies hc hdue htries h10 hi, hc ▸ State.any_sentAgain s.sentGrows_refl ht, ?_,
      State.counts_sentAgain s j.val i c c.tseq, hagain.fwd, hagain.cfg⟩
    rw [State.sentAgain_tk, hcopies]
    simp [KCopy.again, hc]
  case early =>
    intro s j tseq c hs hcopies hearly
    exact ⟨_, execResendTimeout_early hs hcopies hearly, rfl⟩
  case ackIdle =>
    intro s j i hs hon hanchor hnew hidle
    refine ⟨_, execAckIdleTimeout_due hs hon hnew hidle, ?_⟩
    rw [State.sendAck, State.tkSend_anchor _ _ _ hanchor]
    exact ⟨rfl, by rw [State.tk_tkUp], rfl, rfl⟩
  case ackEarly =>
    intro s j hs hearly
    exact ⟨_, execAckIdleTimeout_early hs hearly, rfl⟩

end Sys2Proof.Machine
end

section
/-!
SUPPORT. What traffic, drops, containments and lost packets leave of trunks: their records and status stay, their events stand, what is sent stays sent,
and no port's containment for its route moves.
-/

namespace Sys2Proof.Machine

/-- The registers of a trunk's status and sequence numbers. -/
def trunkWords : List RN := [.FAB_TRK_STAT, .FAB_TRK_SEQ]

/-- The registers of a trunk, its events and the containment of ports. -/
def flowNames : List RN := .PT_CONT :: .PT_PTRUNK_STAT :: trunkWords

/-- From `s` to `u` trunks stay as they are, their events stand, what is sent stays sent, and CONTAINED and C_ROUTE of every port stay. -/
structure State.flows (s u : State) : Prop extends s.onward u where
  trunk : u.trunk = s.trunk
  word : ∀ r, r.n ∈ trunkWords → u.rd r = s.rd r
  contained : ∀ p, u.pget F.PT_CONT_CONTAINED p = s.pget F.PT_CONT_CONTAINED p
  route : ∀ p, u.pget F.PT_CONT_C_ROUTE p = s.pget F.PT_CONT_C_ROUTE p

theorem State.flows_forgetLink (s : State) (p : Nat) : s.flows (s.forgetLink p) :=
  ⟨⟨fun _ _ => id, State.sentGrows_of_eq rfl⟩, rfl, fun _ _ => rfl, fun _ => rfl, fun _ => rfl⟩

namespace State.flows

/-! ### Single updates -/

theorem refl (s : State) : s.flows s := ⟨.refl s, rfl, fun _ _ => rfl, fun _ => rfl, fun _ => rfl⟩

section
variable {s t u : State} (h : s.flows t)
include h

theorem trans (h' : t.flows u) : s.flows u :=
  ⟨h.toonward.trans h'.toonward, h'.trunk.trans h.trunk, fun r hr => (h'.word r hr).trans (h.word r hr),
    fun p => (h'.contained p).trans (h.contained p), fun p => (h'.route p).trans (h.route p)⟩

theorem congr (hr : u.regs = t.regs) (ht : u.trunk = t.trunk) (hs : u.sent = t.sent) : s.flows u :=
  h.trans ⟨(State.onward.refl t).congr hr hs, ht, fun _ _ => by rw [State.rd, hr, State.rd], State.pget_of_regs hr _, State.pget_of_regs hr _⟩

theorem only {l : List Reg} {xs : List Trip} (ho : t.only u l xs) (hon : t.onward u) (hl : ∀ r ∈ l, r.n ∉ flowNames) : s.flows u := by
  have hcont (f : Fld) (hf : f.reg = .PT_CONT) (p : Nat) : u.pget f p = t.pget f p :=
    ho.pget (fun m => hl _ m (by simp [hf, flowNames])) (by rw [hf]; decide)
  refine h.trans ⟨hon, ho.trunk, fun r hr => ho.rd (fun m => hl r m ?_) ((show ∀ n ∈ trunkWords, n ∉ tripNames by decide) _ hr), hcont _ rfl, hcont _ rfl⟩
  exact List.mem_cons_of_mem _ (List.mem_cons_of_mem _ hr)

theorem set (f : Fld) (ix : List Nat) (v : Nat) (hf : f.reg ∉ flowNames) : s.flows (t.set f ix v) :=
  h.only (t.only_set f ix v) ((State.onward.refl t).set ix v (fun e => hf (by simp [e, flowNames]))) (by simpa using hf)

theorem setB (f : Fld) (ix : List Nat) (b : Bool) (hf : f.reg ∉ flowNames) : s.flows (t.setB f ix b) := h.set f ix _ hf

theorem pset (f : Fld) (p v : Nat) (hf : f.reg ∉ flowNames) : s.flows (t.pset f p v) := h.set f _ v hf

/-- A field of a port's containment beside CONTAINED and C_ROUTE. -/
theorem contField (f : Fld) (p v : Nat) (hf : f.reg = .PT_CONT) (hlo : 1 ≤ f.lo) (hpos : f.lo + f.w ≤ 6 ∨ 7 ≤ f.lo) : s.flows (t.pset f p v) := by
  have hword (r : Reg) (hr : r.n ∈ trunkWords) : (t.pset f p v).rd r = t.rd r :=
    t.rd_set_ne f _ v (fun e => absurd (hf ▸ e ▸ hr) (by simp [trunkWords]))
  have hkeep (g : Fld) (hg : (g.lo + g.w ≤ f.lo ∨ f.lo + f.w ≤ g.lo) ∧ g.lo + g.w ≤ 64) (q : Nat) : (t.pset f p v).pget g q = t.pget g q :=
    t.get_set_disj _ _ _ _ _ (.inr hg)
  exact h.trans ⟨(State.onward.refl t).pset f p v (by simp [hf]), rfl, hword, hkeep _ (by dsimp only; omega), hkeep _ (by dsimp only; omega)⟩

theorem event (x : Trip) (b : Nat) : s.flows (t.event x b) := h.only (t.only_event x b) ((State.onward.refl t).event x b) (by simp)

theorem count (r : Reg) (n : Nat) (ov : Option (Trip × Nat)) (hr : r.n ∉ flowNames) : s.flows (t.count r n ov) :=
  h.only (t.only_count r n ov) ((State.onward.refl t).count n ov (fun e => hr (by simp [e, flowNames]))) (by simpa using hr)

theorem portEvent (p e b : Nat) : s.flows (t.portEvent p e b) := h.event _ b

theorem portCount (p c n : Nat) : s.flows (t.portCount p c n) := h.count _ n _ (by simp [flowNames, trunkWords])

theorem emit (o : Out) : s.flows (t.emit o) := h.only (t.only_emit o) ((State.onward.refl t).emit o) (by simp)

theorem fwdUp (f : FwdSt → FwdSt) : s.flows (t.fwdUp f) := h.congr rfl rfl rfl

theorem meshUp (f : Mesh → Mesh) : s.flows (t.meshUp f) := h.congr rfl rfl rfl

theorem cfSet (fn : FnId) (f : CfgF) (v : Nat) : s.flows (t.cfSet fn f v) := h.congr rfl rfl rfl

theorem touch (p : Nat) : s.flows (t.touch p) := h.congr rfl rfl rfl

theorem when (c : Bool) {f : State → State} (hf : s.flows (f t)) : s.flows (t.when c f) := by
  cases c
  · exact h
  · exact hf

theorem ite {v : State} (c : Prop) [Decidable c] (h' : s.flows v) : s.flows (if c then t else v) := by
  split
  · exact h
  · exact h'

theorem foldl {α : Type} (l : List α) (f : State → α → State) (hf : ∀ t a, s.flows t → s.flows (f t a)) : s.flows (l.foldl f t) :=
  List.foldlRecOn (motive := s.flows) l f h (fun t ht a _ => hf t a ht)

/-! ### Shapers, the mesh and messages of stations -/

theorem shPut (x : Nat) (st : ShSt) : s.flows (t.shPut x st) := (h.congr (u := { t with shp := t.shp.put x st }) rfl rfl rfl).set F.SH_STAT_CREDIT _ _ (by decide)

theorem shCharge (x len : Nat) : s.flows (t.shCharge x len) := by
  unfold State.shCharge
  split
  · exact h.shPut _ _
  · exact h

theorem shWait (x : Nat) (w : Bool) : s.flows (t.shWait x w) :=
  (h.when _ (h.count _ _ _ (by simp [flowNames, trunkWords]))).setB _ _ _ (by decide)

theorem fillLocal (n : Nat) (k : VcId) : s.flows (t.fillLocal n k) := by
  induction n generalizing t with
  | zero => exact h
  | succ n ih =>
    unfold State.fillLocal
    split
    · exact h
    · exact (ih (h.meshUp _)).ite _ h

theorem injectAt (r : Nat) (p : Pkt) : s.flows (t.injectAt r p).1 := by
  unfold State.injectAt
  dsimp only
  split
  · exact h.event _ _
  · dsimp only
    exact ((h.meshUp _).fillLocal _ _).when _ (((h.meshUp _).fillLocal _ _).setB _ _ _ (by decide))

theorem sendMsg (x y : Nat) (m : IMsg) : s.flows (t.sendMsg x y m) := by
  unfold State.sendMsg
  split
  · exact h.meshUp _
  · exact h.injectAt _ _

/-! ### Tags, trackers and leases -/

theorem updTombs (p : Nat) : s.flows (t.updTombs p) := h.contField _ _ _ rfl (by decide) (by decide)

theorem setTag (p tag : Nat) (st : TagSt) : s.flows (t.setTag p tag st) := (h.fwdUp _).updTombs p

theorem endTombs (p : Nat) : s.flows (t.endTombs p) := (h.fwdUp _).updTombs p

theorem goLive (p : Pkt) : s.flows (t.goLive p) := by
  unfold State.goLive
  split
  · exact (h.setTag _ _ _).ite _ h
  · exact h

theorem updTrkStat (x : Nat) : s.flows (t.updTrkStat x) := by
  unfold State.updTrkStat
  split
  · have hset := (h.set F.PT_TRK_STAT_LIVE [x] (t.fwd.trk.filter (fun e => e.1.1 == x)).length (by decide)).setB F.PT_TRK_STAT_FULL [x]
      (decide (16384 ≤ (t.fwd.trk.filter (fun e => e.1.1 == x)).length + (t.fwd.retired.filter (fun e => e.1 == x)).length)) (by decide)
    exact hset.when _ (hset.event _ _)
  · exact h

theorem putTrk (x i : Nat) (e : Option TrkE) : s.flows (t.putTrk x i e) := (h.fwdUp _).updTrkStat x

theorem setLease (x p : Nat) (l : List Nat) : s.flows (t.setLease x p l) := h.fwdUp _

/-! ### Gates and packets -/

theorem gateRefresh (k : SKey) : s.flows (t.gateRefresh k) := h.congr rfl rfl rfl

theorem launch (p : Pkt) : s.flows (t.launch p) := by
  have hinj := h.injectAt (t.exitRouter (pktStn p) p.egress) p
  unfold State.launch
  split <;> rename_i heq <;> rw [heq] at hinj
  · exact hinj
  · exact hinj.fwdUp _

theorem sendPkt (p : Pkt) : s.flows (t.sendPkt p) := by
  unfold State.sendPkt
  dsimp only
  split
  · exact (((h.fwdUp _).shCharge _ _).launch _).ite _ (((h.fwdUp _).fwdUp _).shWait _ _)
  · exact (h.fwdUp _).launch _

theorem holderCpl (p : Pkt) : s.flows (t.holderCpl p).1 := by
  unfold State.holderCpl
  split
  · exact h
  · split
    · exact h
    · dsimp only
      split
      · dsimp only
        exact h.when _ (h.setLease _ _ _)
      · split
        · dsimp only
          split
          · exact (h.putTrk _ _ _).setLease _ _ _
          · exact h.putTrk _ _ _
        · dsimp only
          exact h.putTrk _ _ _

theorem of_holderCpl {p : Pkt} {q : Option Pkt} (he : t.holderCpl p = (u, q)) : s.flows u := by
  have hcpl := h.holderCpl p
  rwa [he] at hcpl

theorem releaseOne (p : Pkt) : s.flows (t.releaseOne p) := by
  unfold State.releaseOne
  dsimp only
  refine State.flows.sendMsg ?_ _ _ _
  split <;> rename_i heq <;> have hcpl := (((h.fwdUp _).goLive p).gateRefresh p.key).of_holderCpl heq
  · exact (hcpl.putTrk _ _ _).ite _ (hcpl.fwdUp _)
  · exact hcpl

theorem releaseAll (p c n : Nat) : s.flows (t.releaseAll p c n) := by
  induction n generalizing t with
  | zero => exact h
  | succ n ih =>
    unfold State.releaseAll
    split
    · exact ih (h.releaseOne _)
    · exact h

/-! ### The scheduler -/

theorem setDeficit (p c v : Nat) : s.flows (t.setDeficit p c v) := h.fwdUp _

theorem drr (p : Nat) (rnd : List Nat) (n c : Nat) : s.flows (t.drr p rnd n c).1 := by
  induction n generalizing t c with
  | zero => exact h
  | succ n ih =>
    unfold State.drr
    split
    · dsimp only
      exact (h.setDeficit _ _ _).fwdUp _
    · have hown := h.setDeficit p c (min (if (t.sq p c).isEmpty then 0 else t.deficitOf p c) (t.weight p c * 256 + 4160))
      exact ih ((hown.setDeficit _ _ _).ite _ hown) _

theorem pickClass (p : Nat) : s.flows (t.pickClass p).1 := by
  unfold State.pickClass
  split
  · exact h
  · split
    · exact h
    · dsimp only
      split
      · exact h
      · exact h
      · exact h.drr _ _ _ _

theorem bwAdd (p k n : Nat) : s.flows (t.bwAdd p k n) := by
  unfold State.bwAdd
  dsimp only
  split
  · exact (h.touch p).congr rfl rfl rfl
  · exact h.touch p

theorem countSent (p n : Nat) : s.flows (t.countSent p n) := ((h.portCount _ _ _).portCount _ _ _).bwAdd _ _ _

theorem transmit (p c : Nat) : s.flows (t.transmit p c) := by
  unfold State.transmit
  split
  · exact h
  · rename_i q rest _
    have hsent := (((h.fwdUp (fun f => { f with shq := f.shq.put (p, c) rest, stallAt := f.stallAt.put p t.now })).shCharge (4 * p + c)
      q.bytes).countSent p q.bytes).shWait (4 * p + c) (!rest.isEmpty)
    refine State.flows.releaseAll ?_ _ _ _
    split
    · exact hsent.fwdUp _
    · split
      · exact (hsent.fwdUp _).emit _
      · exact hsent

theorem schedule (p : Nat) : s.flows (t.schedule p) := by
  have hpick := h.pickClass p
  unfold State.schedule
  split <;> rename_i heq <;> rw [heq] at hpick
  · exact hpick.transmit p _
  · exact hpick

/-! ### Completions made and packets dropped -/

theorem synthAt (p x i : Nat) : s.flows (t.synthAt p x i) := by
  unfold State.synthAt
  split
  · exact h
  · exact ((h.portCount _ _ _).foldl _ _ (fun _ _ ht => ht.sendPkt _)).ite _ ((h.portCount _ _ _).putTrk _ _ _)

theorem synthSelf (x i : Nat) : s.flows (t.synthSelf x i) := by
  unfold State.synthSelf
  split
  · exact h
  · exact (((h.putTrk _ _ _).portCount _ _ _).foldl _ _ (fun _ _ ht => ht.fwdUp _)).ite _ (h.putTrk _ _ _)

theorem tombLive (p : Nat) (q : Nat → Nat → Bool) : s.flows (t.tombLive p q) := h.foldl _ _ (fun _ _ ht => (ht.synthAt _ _ _).setTag _ _ _)

theorem dropOne (g : Bool) (p : Pkt) : s.flows (t.dropOne g p) := by
  have htail : s.flows (if g then t.sendMsg (p.egress / 4) (pktStn p) (.tailConf p.srcId p.egress p.sc p.seq) else t) := (h.sendMsg _ _ _).ite _ h
  unfold State.dropOne
  dsimp only
  split
  · exact (htail.portCount _ _ _).fwdUp _
  · exact ((htail.synthAt _ _ _).setTag _ _ _).ite _ htail
  · exact (htail.holderCpl _).ite _ htail
  · exact htail

theorem dropQueued (p : Nat) (q : Pkt → Bool) : s.flows (t.dropQueued p q) :=
  h.foldl _ _ (fun _ _ ht =>
    ((ht.fwdUp _).foldl _ _ (fun _ _ hg => (hg.dropOne true _).gateRefresh _)).foldl _ _ (fun _ _ hq => hq.dropOne false _))

/-! ### Containments and lost packets -/

theorem updUpL0 (p : Nat) : s.flows (t.updUpL0 p) := by
  unfold State.updUpL0
  split
  · exact h.setB _ _ _ (by decide)
  · exact h

theorem setDll (v sl : Nat) (on : Bool) : s.flows (t.setDll v sl on) := by
  have hset := ((h.cfSet (.vdsp v sl) .dllActive (bit on)).cfSet (.vdsp v sl) .dllChanged 1).setB F.VST_SLOT_LINK_ACTIVE [v, sl] on (by decide)
  exact h.ite _ (hset.when _ (hset.emit _))

theorem linkZeroed (p next : Nat) : s.flows (t.linkZeroed p next) :=
  (((((((h.pset F.PP_STAT_LINK_STATE p next (by decide)).pset F.PP_STAT_WIDTH p 0 (by decide)).pset F.PP_STAT_RATE p 7 (by decide)).pset
    F.PP_STAT_FLIT p 0 (by decide)).pset F.PP_STAT_L0P_WIDTH p 0 (by decide)).pset F.PP_STAT_L1_SUB p 0 (by decide)).pset
      F.PP_STAT_IDE_SECURE p 0 (by decide)).pset F.PT_FWD_CTL_TAG_MODE p 0 (by decide)

theorem linkGone (p next : Nat) : s.flows (t.linkGone p next) := by
  have hclear := ((h.linkZeroed p next).trans ((t.linkZeroed p next).flows_forgetLink p)).updUpL0 p
  exact hclear.when (f := (·.portEvent p 0 1)) _ (hclear.portEvent p 0 1)

theorem containVdsp (v sl cause : Nat) : s.flows (t.containVdsp v sl cause) := by
  cases hc : t.contained v sl with
  | true => simpa [State.containVdsp, hc] using h
  | false =>
    have hmarked : s.flows (t.contRecorded v sl cause) := (((h.setB _ _ _ (by decide)).set _ _ _ (by decide)).setB _ _ _ (by decide)).setDll _ _ _
    have hdpc : s.flows ((t.contRecorded v sl cause).dpcShown v sl cause (t.cf (.vdsp v sl) .dpcEnable != 0)) := by
      have hset := (hmarked.cfSet (.vdsp v sl) .dpcTrigger 1).cfSet (.vdsp v sl) .dpcReason (dpcReasonOf cause)
      exact hmarked.when _ (hset.when _ (hset.emit _))
    have hshown : s.flows (t.contShown v sl cause) := by
      unfold State.contShown State.causeShown
      split
      · exact hdpc.cfSet _ _ _
      · exact hdpc
    have hcut : s.flows (t.contCut v sl cause) := hshown.foldl _ _ (fun _ _ ht => (ht.tombLive _ _).dropQueued _ _)
    rw [t.containVdsp_eq v sl cause hc]
    exact ((((hcut.endTombs _).linkGone _ _).contField _ _ _ rfl (by decide) (by decide)).ite _ hcut).event _ _

/-- The indication of a posted loss at a vDSP (R260). -/
theorem lossAtVdsp (t' : State) (v sl : Nat) : s.flows ((((t.cfSet (.vdsp v sl) .aerInternal 1).containVdsp v sl 9).setB F.VST_CONT_POSTED_LOSS [v, sl]
    true).portEvent (t'.upPort v) 4 1) :=
  (((h.cfSet _ _ _).containVdsp v sl 9).setB _ _ _ (by decide)).portEvent _ _ _

/-- The indication of a posted loss at a port (R260). -/
theorem lossAtPort (p : Nat) : s.flows ((t.pset F.PT_CONT_POSTED_LOSS p 1).portEvent p 4 1) :=
  (h.contField _ _ _ rfl (by decide) (by decide)).portEvent _ _ _

theorem postedLoss (p : Pkt) : s.flows (t.postedLoss p) := by
  unfold State.postedLoss
  dsimp only
  split
  · exact h
  · split
    · split
      · exact h.lossAtVdsp t _ _
      · exact (h.cfSet _ _ _).lossAtPort _
    · split
      · exact h.lossAtVdsp t _ _
      · split
        · split
          · exact h.lossAtVdsp t _ _
          · exact h.lossAtPort _
        · exact h

theorem settle (n : Nat) : s.flows (State.settle n t) := by
  induction n generalizing t with
  | zero => exact h
  | succ n ih =>
    unfold State.settle
    split
    · exact h
    · rename_i p ps _
      have htake := h.fwdUp (fun f => { f with lostQ := ps, held := f.held.del (p.key, p.seq) })
      refine ih ?_
      split
      · exact htake.postedLoss p
      · exact htake.synthSelf _ _
      · exact htake

theorem settled : s.flows t.settled := h.settle _

end

end State.flows

end Sys2Proof.Machine
end

section
/-!
SUPPORT. What a trunk's sender leaves alone when it sends what waits and resends what it holds, and the loss of a trunk (R286, R291, R298 to R300).
-/

namespace Sys2Proof.Machine

/-! ### What the sender leaves alone -/

/-- The registers that a trunk's sender writes beside events: counters, sequence numbers and the Doze of lanes. -/
def senderNames : List RN := [.FAB_CNT, .FAB_TRK_SEQ, .LN_STAT]

/-- From `s` to `u` only a trunk's sender has acted: beside its own registers and events every register stays, and so does the configuration space. -/
structure State.trunkSends (s u : State) : Prop extends s.onward u where
  word : ∀ r, r.n ∉ tripNames → r.n ∉ senderNames → u.rd r = s.rd r
  cfg : u.cfg = s.cfg

namespace State.trunkSends

theorem refl (s : State) : s.trunkSends s := ⟨.refl s, fun _ _ _ => rfl, rfl⟩

section
variable {s t u : State} (h : s.trunkSends t)
include h

theorem trans (h' : t.trunkSends u) : s.trunkSends u :=
  ⟨h.toonward.trans h'.toonward, fun r ht hn => (h'.word r ht hn).trans (h.word r ht hn), h'.cfg.trans h.cfg⟩

theorem congr (hr : u.regs = t.regs) (hs : u.sent = t.sent) (hc : u.cfg = t.cfg) : s.trunkSends u :=
  h.trans ⟨(State.onward.refl t).congr hr hs, fun _ _ _ => by rw [State.rd, hr, State.rd], hc⟩

theorem only {l : List Reg} {xs : List Trip} (ho : t.only u l xs) (hon : t.onward u) (hl : ∀ r ∈ l, r.n ∈ senderNames) : s.trunkSends u :=
  h.trans ⟨hon, fun _ ht hn => ho.rd (fun m => hn (hl _ m)) ht, (congrArg State.cfg ho.2 :)⟩

theorem seq (f : Fld) (j v : Nat) (hf : f.reg = .FAB_TRK_SEQ) : s.trunkSends (t.set f [j] v) :=
  h.only (t.only_set f [j] v) ((State.onward.refl t).set _ _ (by simp [hf])) (by simp [hf, senderNames])

theorem trunkCount (j c : Nat) : s.trunkSends (t.trunkCount j c) :=
  h.only (t.only_trunkCount j c 1) ((State.onward.refl t).count 1 _ (by simp)) (by simp [senderNames])

theorem portEvent (p e b : Nat) : s.trunkSends (t.portEvent p e b) := h.only (t.only_event (.port p e) b) ((State.onward.refl t).event _ b) (by simp)

theorem emit (o : Out) : s.trunkSends (t.emit o) := h.only (t.only_emit o) ((State.onward.refl t).emit o) (by simp)

theorem touch (p : Nat) : s.trunkSends (t.touch p) := h.congr rfl rfl rfl

theorem lnkUp (f : LnkSt → LnkSt) : s.trunkSends (t.lnkUp f) := h.congr rfl rfl rfl

theorem fwdUp (f : FwdSt → FwdSt) : s.trunkSends (t.fwdUp f) := h.congr rfl rfl rfl

theorem tkUp (j : Nat) (f : TrunkSt → TrunkSt) : s.trunkSends (t.tkUp j f) := h.congr rfl rfl rfl

theorem dozeEnd (p : Nat) : s.trunkSends (t.dozeEnd p) :=
  (h.lnkUp (fun x => { x with doze := x.doze.del p })).only (t.only_dozeEnd p)
    ((State.onward.refl _).sends (State.sentGrows_of_eq (t.dozeEnd_sent p)) (fun _ => t.dozeEnd_rd p (by simp [Trip.stat])))
    (fun r hr => by obtain ⟨l, -, rfl⟩ := List.mem_map.1 hr; simp [senderNames])

theorem wake (p : Nat) : s.trunkSends (t.wake p) := by
  unfold State.wake
  split
  · exact h
  · split
    · exact ((((h.dozeEnd p).lnkUp _).trunkCount _ _).emit _).touch p
    · exact (((h.dozeEnd p).trunkCount _ _).emit _).touch p

theorem dozeAbort (q : Nat) : s.trunkSends (t.dozeAbort q) := by
  unfold State.dozeAbort
  split
  · exact ((((h.lnkUp _).trunkCount _ _).trunkCount _ _).emit _).touch q
  · exact h

theorem sendData (j i tseq mseq : Nat) (resend : Bool) (p : Pkt) : s.trunkSends (t.sendData j i tseq mseq resend p) := by
  cases hp : p.tlp? with
  | none =>
    rw [State.sendData, hp]
    exact h
  | some x =>
    rw [t.sendData_eq j i tseq mseq resend hp]
    exact ((((h.dozeAbort _).tkUp j _).tkUp j _).emit _).touch _

theorem sendNew (j i : Nat) (p : Pkt) : s.trunkSends (t.sendNew j i p) :=
  ((((h.sendData j i _ _ false p).seq F.FAB_TRK_SEQ_TX_NEXT j _ rfl).trunkCount j 0).tkUp j _).seq F.FAB_TRK_SEQ_TX_UNACK j _ rfl

theorem wakeNext (j : Nat) : s.trunkSends (t.wakeNext j) := by
  unfold State.wakeNext
  split
  · split
    · exact h.wake _
    · exact h
  · exact h

theorem pump (j n : Nat) : s.trunkSends (t.pump j n) := by
  induction n generalizing t with
  | zero => exact h
  | succ n ih =>
    unfold State.pump
    split
    · exact h
    · split
      · exact h
      · split
        · exact (h.trunkCount j 6).portEvent _ 6 8
        · dsimp only
          split
          · exact ih (((h.wakeNext j).fwdUp _).sendNew j _ _)
          · exact h.wakeNext j

theorem trunkPump (j : Nat) : s.trunkSends (t.trunkPump j) := h.pump j _

theorem resendCopy (j tseq : Nat) : s.trunkSends (t.resendCopy j tseq) := by
  rw [t.resendCopy_eq]
  split
  · exact h
  · split
    · exact h
    · exact ((h.sendData _ _ _ _ _ _).trunkCount j 1).tkUp j _

theorem resendAll (j : Nat) (l : List KCopy) : s.trunkSends (l.foldl (fun (s : State) (c : KCopy) => s.resendCopy j c.tseq) t) :=
  List.foldlRecOn (motive := s.trunkSends) l _ h (fun _ ht c _ => ht.resendCopy j c.tseq)

theorem get {f : Fld} {ix : List Nat} (ht : f.reg ∉ tripNames) (hn : f.reg ∉ senderNames) : t.get f ix = s.get f ix := by
  rw [State.get_eq, h.word ⟨f.reg, ix⟩ ht hn, State.get_eq]

end

end State.trunkSends

/-! ### The loss of a trunk -/

section
variable (s : State) (j : Nat)

/-- A trunk that is lost: down and empty, its event raised, its port contained for its route (R300). -/
structure State.trunkIsLost (u : State) (j : Nat) : Prop where
  members : u.mset j = 0
  down : u.get F.FAB_TRK_STAT_UP [j] = 0
  lost : u.get F.FAB_TRK_STAT_TRUNK_LOST [j] = 1
  seq : u.rd ⟨.FAB_TRK_SEQ, [j]⟩ = 0
  raised : (u.rd (Trip.port (8 * j) 6).stat).getLsbD 1 = true
  copies : (u.tk j).copies = []
  contained : u.pget F.PT_CONT_CONTAINED (8 * j) = 1
  route : u.pget F.PT_CONT_C_ROUTE (8 * j) = 1

/-- The trunk's records and status at its loss. -/
def State.trunkEmptied (s : State) (j : Nat) : State :=
  ((((((s.tkUp j (fun x => { nonces := x.nonces + 1 })).fwdUp (fun f => { f with trunkq := f.trunkq.del j })).wr ⟨.FAB_TRK_SEQ, [j]⟩ 0).setB
    F.FAB_TRK_STAT_UP [j] false).set F.FAB_TRK_STAT_MEMBERS [j] 0).set F.FAB_TRK_STAT_XOFF_RX [j] 0).set F.FAB_TRK_STAT_XOFF_TX [j] 0 |>.setB
    F.FAB_TRK_STAT_TRUNK_LOST [j] true

/-- The trunk's event is raised, and what it held and what is queued to its port is dropped. -/
def State.trunkDropped (s : State) (j : Nat) : State :=
  ((((s.fwd.trunkq.lookD j []) ++ (s.tk j).copies.map (·.pkt)).foldl (fun (s : State) (k : Pkt) => s.dropOne false k)
    ((s.trunkEmptied j).portEvent (8 * j) 6 1)).tombLive (8 * j) (fun _ _ => true)).dropQueued (8 * j) (fun _ => true)

/-- The port's containment for its route. -/
def State.routeContained (s : State) (p : Nat) : State := (s.pset F.PT_CONT_CONTAINED p 1).pset F.PT_CONT_C_ROUTE p 1

/-- The vDSPs behind a route that is lost are contained. -/
def State.routeVdspsContained (s : State) (p : Nat) : State :=
  s.fwd.own.foldl (fun (s : State) (e : Nat × Nat × Nat) =>
    if s.get F.VST_SLOT_KIND [e.2.1, e.2.2] = 3 ∧ s.routePort (s.get F.VST_SLOT_TARGET [e.2.1, e.2.2]) = some p then
      s.containVdsp e.2.1 e.2.2 10 else s) s

/-- A worker whose parent trunk is lost loses its lock (R328). -/
def State.lockLost (s : State) (j : Nat) : State :=
  s.when (!s.on F.FAB_DEV_ACTING [] && s.on F.FAB_TIME_STAT_SYNC [] && s.get F.FAB_TIME_STAT_PARENT [] == j) (fun s =>
    (s.setB F.FAB_TIME_STAT_SYNC [] false).event .fab 6)

theorem State.trunkLost_eq : s.trunkLost j =
    ((((((s.trunkDropped j).routeContained (8 * j)).portEvent (8 * j) 4 0).routeVdspsContained (8 * j)).endTombs (8 * j)).lockLost j).settled := (rfl)

theorem State.flows_trunkDropped : ((s.trunkEmptied j).portEvent (8 * j) 6 1).flows (s.trunkDropped j) :=
  ((((State.flows.refl _).foldl _ _ (fun _ _ ht => ht.dropOne false _)).tombLive _ _).dropQueued _ _)

theorem State.flows_trunkLost : ((s.trunkDropped j).routeContained (8 * j)).flows (s.trunkLost j) := by
  have hvdsps := ((State.flows.refl ((s.trunkDropped j).routeContained (8 * j))).portEvent (8 * j) 4 0).foldl
    (((s.trunkDropped j).routeContained (8 * j)).portEvent (8 * j) 4 0).fwd.own (fun (s : State) (e : Nat × Nat × Nat) =>
      if s.get F.VST_SLOT_KIND [e.2.1, e.2.2] = 3 ∧ s.routePort (s.get F.VST_SLOT_TARGET [e.2.1, e.2.2]) = some (8 * j) then
        s.containVdsp e.2.1 e.2.2 10 else s) (fun _ _ ht => (ht.containVdsp _ _ _).ite _ ht)
  have hends := hvdsps.endTombs (8 * j)
  rw [s.trunkLost_eq]
  exact (hends.when _ ((hends.setB _ _ _ (by decide)).event _ _)).settled

/-- The port's containment leaves trunks and their events alone. -/
theorem State.routeContained_rd (p : Nat) {r : Reg} (hr : r.n ≠ .PT_CONT) : (s.routeContained p).rd r = s.rd r :=
  (State.rd_set_ne _ F.PT_CONT_C_ROUTE _ _ (fun e => hr (congrArg Reg.n e))).trans
    (s.rd_set_ne F.PT_CONT_CONTAINED _ _ (fun e => hr (congrArg Reg.n e)))

theorem State.routeContained_trunk (p : Nat) : (s.routeContained p).trunk = s.trunk := rfl

theorem State.trunkEmptied_get {f : Fld} (hf : f = F.FAB_TRK_STAT_UP ∨ f = F.FAB_TRK_STAT_MEMBERS) : (s.trunkEmptied j).get f [j] = 0 := by
  rcases hf with rfl | rfl <;> simp (disch := simp) [State.trunkEmptied, State.setB, State.get_set_disj, State.get_set_same, bit]

/-- A lost trunk, whatever it held (R300). -/
theorem State.trunkIsLost_trunkLost : (s.trunkLost j).trunkIsLost j := by
  have hdrop := s.flows_trunkDropped j
  have hend := s.flows_trunkLost j
  have hword (r : Reg) (hr : r.n ∈ trunkWords) : (s.trunkLost j).rd r = (s.trunkEmptied j).rd r := by
    have hne : r.n ≠ .PT_CONT := fun e => absurd (e ▸ hr) (by decide)
    rw [hend.word r hr, State.routeContained_rd _ _ hne, hdrop.word r hr]
    exact (State.only_event _ _ _).rd (by simp) ((show ∀ n ∈ trunkWords, n ∉ tripNames by decide) _ hr)
  have hget (f : Fld) (hf : f.reg ∈ trunkWords) : (s.trunkLost j).get f [j] = (s.trunkEmptied j).get f [j] := by
    rw [State.get_eq, hword ⟨f.reg, [j]⟩ hf, State.get_eq]
  refine ⟨?_, ?_, ?_, ?_, ?_, ?_, ?_, ?_⟩
  · rw [State.mset, hget _ (by decide), s.trunkEmptied_get j (.inr rfl)]
  · rw [hget _ (by decide), s.trunkEmptied_get j (.inl rfl)]
  · rw [hget _ (by decide)]
    exact (State.get_setB _ _ _ _ (by decide) (by decide)).trans bit_true
  · rw [hword _ (by simp [trunkWords]), State.trunkEmptied]
    simp [State.setB, State.rd_set_ne]
  · have hraised := State.event_statBit (s.trunkEmptied j) (.port (8 * j) 6) (b := 1) (by decide)
    refine hend.raised _ _ ?_
    rw [State.routeContained_rd _ _ (by simp [Trip.stat])]
    exact hdrop.raised _ _ hraised
  · have htrunk : (s.trunkLost j).trunk = (s.trunkEmptied j).trunk := 
      ((hend.trunk.trans ((s.trunkDropped j).routeContained_trunk _)).trans hdrop.trunk).trans (State.only_event (s.trunkEmptied j) (.port (8 * j) 6) 1).trunk
    have hempty : (s.trunkEmptied j).trunk = (s.tkUp j (fun x => { nonces := x.nonces + 1 })).trunk := rfl
    rw [State.tk_congr (htrunk.trans hempty), State.tk_tkUp]
  · rw [hend.contained, State.routeContained, State.pget_pset_disj _ _ _ (by decide)]
    exact State.pget_pset_same _ (by decide) (by decide)
  · rw [hend.route]
    exact State.pget_pset_same _ (by decide) (by decide)

end

/-! ### Members that leave one after the other -/

section
variable {s : State} {j : Nat}

theorem State.members_nil : s.members j = [] ↔ s.mset j = 0 := by
  constructor
  · intro h
    refine Nat.eq_of_testBit_eq (fun k => ?_)
    rw [Nat.zero_testBit]
    exact Bool.eq_false_iff.2 (fun hk => by simpa [h] using State.mem_members.2 hk)
  · intro h
    exact List.eq_nil_iff_forall_not_mem.2 (fun k hk => by simpa [h] using State.mem_members.1 hk)

/-- The last member's leave loses the trunk (R300). -/
theorem State.memberLeave_last {i : Nat} (tell : Bool) (h : s.mset j = 2 ^ i) : (s.memberLeave j i tell).trunkIsLost j := by
  have hout : (s.memberOut j i).mset j = 0 := by
    have hsum := clear_bit_add (s.mset_lt j) (i := i) (by rw [h, Nat.testBit_two_pow_self])
    rw [s.memberOut_mset]
    omega
  rw [s.memberLeave_eq, if_neg (by rw [h, Nat.testBit_two_pow_self]; decide), if_pos (State.members_nil.2 hout)]
  exact State.trunkIsLost_trunkLost _ j

/-- A leave ends in a lost trunk, or takes at most its own member out of MEMBERS (R298). -/
theorem State.memberLeave_either {i : Nat} (hm : s.mset j ≠ 0) :
    (s.memberLeave j i false).trunkIsLost j ∨
      (s.memberLeave j i false).mset j ≠ 0 ∧ ∀ k, ((s.memberLeave j i false).mset j).testBit k = true → (s.mset j).testBit k = true ∧ k ≠ i := by
  rw [s.memberLeave_eq]
  split
  next hi =>
    refine .inr ⟨hm, fun k hk => ⟨hk, ?_⟩⟩
    rintro rfl
    rw [hi] at hk
    cases hk
  next =>
    split
    next => exact .inl (State.trunkIsLost_trunkLost _ j)
    next hmore =>
      rw [State.when_false]
      rw [State.mset, (((State.trunkSends.refl _).resendAll j _).trunkPump j).get (by decide) (by decide)]
      refine .inr ⟨fun h0 => hmore (State.members_nil.2 h0), fun k hk => ?_⟩
      rw [← State.mset, s.memberOut_mset, testBit_clear (s.mset_lt j)] at hk
      obtain ⟨hbit, hne⟩ := Bool.and_eq_true_iff.1 hk
      exact ⟨hbit, (of_decide_eq_true hne).symm⟩

theorem State.leaveAll_empty (l : List Nat) (h : s.mset j = 0) : l.foldl (fun (s : State) (i : Nat) => s.memberLeave j i false) s = s := by
  induction l with
  | nil => rfl
  | cons i l ih => rw [List.foldl_cons, s.memberLeave_eq, if_pos (by rw [h, Nat.zero_testBit]), ih]

/-- A trunk whose members all leave is lost. -/
theorem State.leaveAll_lost (l : List Nat) (hm : s.mset j ≠ 0) (hall : ∀ k, (s.mset j).testBit k = true → k ∈ l) :
    (l.foldl (fun (s : State) (i : Nat) => s.memberLeave j i false) s).trunkIsLost j := by
  induction l generalizing s with
  | nil =>
    obtain ⟨k, hk⟩ := Nat.exists_testBit_of_ne_zero hm
    exact absurd (hall k hk) List.not_mem_nil
  | cons i l ih =>
    rw [List.foldl_cons]
    rcases State.memberLeave_either (i := i) hm with hlost | ⟨hmore, hleft⟩
    · rwa [State.leaveAll_empty l hlost.members]
    · exact ih hmore (fun k hk => ((List.mem_cons.1 (hall k (hleft k hk).1)).resolve_left (hleft k hk).2))

end

end Sys2Proof.Machine
end

section
/-!
PROOF. The loss of members and of a trunk (O36; R298 to R300).
-/

namespace Sys2Proof.Machine

/-- What a member's leave shows while another member keeps the trunk up (R298). -/
theorem State.memberOut_shows {s : State} {j i : Nat} (hi : (s.mset j).testBit i = true) (hl0 : s.inL0 (8 * j + i) = true) :
    (s.memberOut j i).mset j + 2 ^ i = s.mset j ∧ (s.memberOut j i).get F.FAB_TRK_STAT_UP [j] = s.get F.FAB_TRK_STAT_UP [j] ∧
      ((s.memberOut j i).rd (Trip.port (8 * j) 6).stat).getLsbD 2 = true ∧ (6, 8 * j + i) ∈ (s.memberOut j i).flt.failed ∧
      (s.memberOut j i).pget F.PP_STAT_LINK_STATE (8 * j + i) = 5 ∧ (s.memberOut j i).fwd = s.fwd ∧ (s.memberOut j i).cfg = s.cfg := by
  refine ⟨?_, ?_, s.memberOut_raised j i, s.memberOut_failed j i, State.memberOut_state hl0, s.memberOut_fwd j i, s.memberOut_cfg j i⟩
  · rw [s.memberOut_mset, clear_bit_add (s.mset_lt j) hi]
  · rw [State.memberOut_get (by decide) (by decide)]
    exact State.get_set_disj _ _ _ _ _ _ (.inr (by decide))

theorem State.anchor_isSome {s : State} {j k : Nat} (h : (s.mset j).testBit k = true) : (s.anchor j).isSome = true :=
  List.find?_isSome.2 ⟨k, List.mem_range.2 (State.mset_bit_lt h), h⟩

/-- Settles O36: a leave among several members is the member taken out and JOIN LEAVE; one that leaves none loses the trunk. -/
theorem trunkLoss : Obligations.trunk_loss := by
  unfold Obligations.trunk_loss
  refine ⟨?found, ?told, ?last, ?all⟩
  case found =>
    intro s port k hs hi hk hne hrole hl0 hcopies hq
    have hport : 8 * (port.val / 8) + port.val % 8 = port.val := Nat.div_add_mod _ _
    refine State.runs_live (f := (·.memberLeave (port.val / 8) (port.val % 8) true)) rfl hs ?_
    obtain ⟨hmembers, hup, hraised, hfailed, hstate, hfwd, hcfg⟩ := State.memberOut_shows hi (by rwa [hport])
    obtain ⟨a, ha⟩ := Option.isSome_iff_exists.1 (State.anchor_isSome (State.memberOut_stays hk hne))
    have hgrows := (s.onward_memberOut (port.val / 8) (port.val % 8)).sent
    rw [State.memberLeave_idle true hi hk hne hcopies hq, State.when_true, State.tkSend_anchor _ _ _ ha]
    rw [hport] at hfailed hstate
    generalize s.memberOut (port.val / 8) (port.val % 8) = v at *
    have hsent := State.sentGrows.mem_of_emit (s := v.touch (8 * (port.val / 8) + a)) (o := .kfp (8 * (port.val / 8) + a) (.join (port.val % 8) 1))
      (State.sentGrows_refl _)
    exact ⟨hmembers, hup, hraised, hfailed, hstate, ⟨a, ha, hgrows.mem hsent⟩, hfwd, hcfg⟩
  case told =>
    intro s port mem i k hs hown hi8 hi hk hne hrole hl0 hcopies hq
    refine State.runs_live (f := fun s => s.memberLeave (port.val / 8) (s.ownMember (port.val / 8) mem.val) false) rfl hs ?_
    obtain ⟨hmembers, -, hraised, hfailed, hstate, hfwd, hcfg⟩ := State.memberOut_shows hi hl0
    rw [hown, State.memberLeave_idle false hi hk hne hcopies hq, State.when_false]
    exact ⟨hmembers, hraised, hfailed, hstate, hfwd, hcfg⟩
  case last =>
    intro s port hs hm
    have h := State.memberLeave_last (s := s) (i := port.val % 8) true hm
    exact State.runs_live (f := (·.memberLeave (port.val / 8) (port.val % 8) true)) rfl hs
      ⟨h.members, h.down, h.lost, h.seq, h.raised, h.copies, h.contained, h.route⟩
  case all =>
    intro s j hs hon hm
    have h := State.leaveAll_lost (s.members j.val) (Nat.ne_of_gt hm) (fun k hk => State.mem_members.2 hk)
    refine ⟨_, (s.live_next _ hs).trans (by rw [if_pos hon]), ?_⟩
    exact ⟨h.members, h.down, h.lost, h.seq, h.raised, h.copies, h.contained, h.route⟩

end Sys2Proof.Machine
end

section
/-!
SUPPORT. Bring-up of a trunk: HELLO and JOIN packets at a member (R280 to R284).
-/

namespace Sys2Proof.Machine

/-! ### What bring-up reads -/

/-- The registers that the ports of a trunk's pair are read from. -/
def pairNames : List RN := [.PT_CUT, .PP_CTL]

section
variable {s u : State} (hword : ∀ r : Reg, r.n ∈ pairNames → u.rd r = s.rd r)
include hword

theorem State.get_pair {f : Fld} (hf : f.reg ∈ pairNames) (ix : List Nat) : u.get f ix = s.get f ix := by
  rw [State.get_eq, hword ⟨f.reg, ix⟩ hf, State.get_eq]

theorem State.portWidth_pair (p : Nat) : u.portWidth p = s.portWidth p := State.portWidth_congr (fun t => State.get_pair hword (by decide) [t]) p

theorem State.role_pair (p : Nat) : u.role p = s.role p := by
  rw [State.role, State.pget, State.get_pair hword (by decide)]
  rfl

theorem State.kfpPorts_pair (j : Nat) : u.kfpPorts j = s.kfpPorts j := by
  simp only [State.kfpPorts, State.portWidth_pair hword, State.role_pair hword]

theorem State.widthsDiffer_pair (j : Nat) : u.widthsDiffer j = s.widthsDiffer j := by
  simp only [State.widthsDiffer, State.kfpPorts_pair hword, State.portWidth_pair hword]

end

/-! ### A member that is kept out -/

/-- A bit of the trunk's status is set, with its event. -/
def State.trunkFlagged (s : State) (j : Nat) (f : Fld) (b : Nat) : State := (s.setB f [j] true).portEvent (8 * j) 6 b

section
variable (s : State) (j : Nat) {f : Fld} (b : Nat) (hf : f.reg = .FAB_TRK_STAT) (hlo : f.lo + 1 ≤ 64) (hw : f.w = 1)
include hf hlo hw

theorem State.trunkFlagged_get : (s.trunkFlagged j f b).get f [j] = 1 := by
  rw [State.trunkFlagged, State.portEvent, (State.only_event _ _ _).get (by simp) (by simp [hf, Reg.apart, Trip.stat, Trip.int]),
    State.get_setB _ _ _ _ (by omega) (by omega), bit_true]

omit hlo hw in
theorem State.only_trunkFlagged : s.only (s.trunkFlagged j f b) [⟨.FAB_TRK_STAT, [j]⟩] [.port (8 * j) 6] := by
  have h := State.only_trans (s.only_set f [j] (bit true)) (State.only_event _ (.port (8 * j) 6) b)
  rw [hf] at h
  exact h

omit hlo hw in
theorem State.raises_trunkFlagged : s.raises (s.trunkFlagged j f b) (.port (8 * j) 6) b :=
  ((State.raisedIn_event (s.setB f [j] true) (.port (8 * j) 6) b (by simp [Trip.mask, tripNames])).after (s.only_set f [j] (bit true)).1
    (by simp [hf, Trip.stat, Trip.mask])).1

/-- What a member that is kept out shows at a port that has received. -/
theorem State.keptOut_shows (p : Nat) : ((s.touch p).trunkFlagged j f b).get f [j] = 1 ∧ s.raises ((s.touch p).trunkFlagged j f b) (.port (8 * j) 6) b ∧
    ({ s with lnk := ((s.touch p).trunkFlagged j f b).lnk } : State).only ((s.touch p).trunkFlagged j f b) [⟨.FAB_TRK_STAT, [j]⟩] [.port (8 * j) 6] := by
  have honly := (s.touch p).only_trunkFlagged j b hf
  refine ⟨State.trunkFlagged_get _ j b hf hlo hw, (s.touch p).raises_trunkFlagged j b hf, ?_⟩
  have hsame : ({ s with lnk := ((s.touch p).trunkFlagged j f b).lnk } : State) = s.touch p := congrArg (fun k : LnkSt => ({ s with lnk := k } : State)) honly.lnk
  rw [hsame]
  exact honly

end

/-! ### HELLO -/

section
variable (s : State) (j i : Nat)

/-- The HELLO of a member (R280, R282, R313). -/
def State.helloOf (s : State) (j i nonce : Nat) : Hello :=
  { verMin := if s.on F.FAB_TRK_CFG_OFFER_10 [j] then 0 else 1, device := s.get F.FAB_DEV_NUM [], trunkPort := 8 * j, member := i,
    width := s.portWidth (8 * j + i), nonce := nonce, up := s.tkOn j }

theorem State.sendHello_eq : s.sendHello j i = (s.emit (.kfp (8 * j + i) (.hello (s.helloOf j i (s.ownNonce j))))).touch (8 * j + i) := rfl

theorem State.sendHello_sent : (s.sendHello j i).sent = s.sent ++ [.kfp (8 * j + i) (.hello (s.helloOf j i (s.ownNonce j)))] := rfl

/-- What a HELLO that is taken records: the partner and its HELLO. -/
def State.helloNoted (s : State) (j i : Nat) (h : Hello) : State :=
  (s.tkUp j (fun x => { x with hello := x.hello.put i h, peer := some (h.device, h.trunkPort) })).set F.FAB_TRK_STAT_PEER_DEV [j] h.device

variable {s j i} {h : Hello} (hjoin : s.canJoin j i = true) (hmem : (s.mset j).testBit i = false)
include hjoin hmem

theorem State.helloIn_version (hver : h.verMaj ≠ 1) : s.helloIn j i h = (s.touch (8 * j + i)).trunkFlagged j F.FAB_TRK_STAT_VER_FAIL 4 := by
  have hjoin' : (s.touch (8 * j + i)).canJoin j i = true := hjoin
  simp only [State.helloIn, hjoin', State.get_touch, hmem]
  rw [if_neg (by decide), if_neg (by decide), if_pos hver]
  rfl

variable (hver : h.verMaj = 1)
include hver

theorem State.helloIn_width (hw : s.widthsDiffer j = true) :
    s.helloIn j i h = (s.touch (8 * j + i)).trunkFlagged j F.FAB_TRK_STAT_WIDTH_MISMATCH 6 := by
  have hjoin' : (s.touch (8 * j + i)).canJoin j i = true := hjoin
  have hw' : (s.touch (8 * j + i)).widthsDiffer j = true := hw
  simp only [State.helloIn, hjoin', State.get_touch, hmem, hver, hw']
  rfl

variable (hw : s.widthsDiffer j = false)
include hw

/-- Equal NONCEs: both ends start over with new ones (R282). -/
theorem State.helloIn_equal (hnonce : h.nonce = s.ownNonce j) :
    s.helloIn j i h = ((s.touch (8 * j + i)).tkUp j (fun x => { x with nonces := x.nonces + 1, hello := [] })).sendHello j i := by
  have hjoin' : (s.touch (8 * j + i)).canJoin j i = true := hjoin
  have hw' : (s.touch (8 * j + i)).widthsDiffer j = false := hw
  have hnonce' : h.nonce = (s.touch (8 * j + i)).ownNonce j := hnonce
  simp only [State.helloIn, hjoin', State.get_touch, hmem, hver, hw', hnonce']
  rfl

theorem State.helloIn_peer (hnonce : s.ownNonce j < h.nonce) (hon : s.tkOn j = true) {d n : Nat} (hpeer : (s.tk j).peer = some (d, n))
    (hother : (d, n) ≠ (h.device, h.trunkPort)) : s.helloIn j i h = (s.touch (8 * j + i)).trunkFlagged j F.FAB_TRK_STAT_PEER_MISMATCH 5 := by
  have hjoin' : (s.touch (8 * j + i)).canJoin j i = true := hjoin
  have hw' : (s.touch (8 * j + i)).widthsDiffer j = false := hw
  have hon' : (s.touch (8 * j + i)).tkOn j = true := hon
  have hnonce' : h.nonce ≠ (s.touch (8 * j + i)).ownNonce j := Nat.ne_of_gt hnonce
  simp only [State.helloIn, hjoin', State.get_touch, hmem, hver, hw', hnonce', State.tk_touch, hpeer, hon', decide_eq_true hother]
  rfl

/-- The first HELLO of a fresh trunk is noted and answered, and step 3 follows (R282). -/
theorem State.helloIn_first (hnonce : s.ownNonce j < h.nonce) (hoff : s.tkOn j = false) (hfresh : s.tk j = {}) :
    s.helloIn j i h = (((s.touch (8 * j + i)).helloNoted j i h).sendHello j i).step3Done j i h := by
  have hjoin' : (s.touch (8 * j + i)).canJoin j i = true := hjoin
  have hw' : (s.touch (8 * j + i)).widthsDiffer j = false := hw
  have hoff' : (s.touch (8 * j + i)).tkOn j = false := hoff
  have hnonce' : h.nonce ≠ (s.touch (8 * j + i)).ownNonce j := Nat.ne_of_gt hnonce
  simp only [State.helloIn, hjoin', State.get_touch, hmem, hver, hw', hnonce', State.tk_touch, hfresh, hoff']
  rfl

end

/-! ### What is unanswered, again -/

section
variable {s : State} {j i : Nat} (hjoin : s.canJoin j i = true) (hmem : (s.mset j).testBit i = false) (hdoze : 8 * j + i ∉ s.lnk.dozeAsk)
include hjoin hmem hdoze

theorem State.repeatHello_hello (hasked : i ∉ (s.tk j).asked) : s.repeatHello j i = s.sendHello j i := by
  rw [State.repeatHello, if_neg hdoze, hjoin, hmem, if_neg (by decide), if_neg hasked]

theorem State.repeatHello_request (hasked : i ∈ (s.tk j).asked) : s.repeatHello j i = s.emit (.kfp (8 * j + i) (.join i 2)) := by
  rw [State.repeatHello, if_neg hdoze, hjoin, hmem, if_neg (by decide), if_pos hasked]

end

/-! ### A member joins -/

section
variable (s : State) (j i : Nat)

/-- A member stands in MEMBERS, with its event. -/
def State.memberShown (s : State) (j i : Nat) : State := (s.setMember j i true).portEvent (8 * j) 6 3

theorem State.only_memberShown : s.only (s.memberShown j i) [⟨.FAB_TRK_STAT, [j]⟩] [.port (8 * j) 6] :=
  State.only_trans (s.only_set _ _ _) (State.only_event _ _ _)

theorem State.memberJoin_rd (r : Reg) : (s.memberJoin j i).rd r = (s.memberShown j i).rd r := (rfl)

theorem State.keeps_memberJoin : s.keeps (s.memberJoin j i) [⟨.FAB_TRK_STAT, [j]⟩] [.port (8 * j) 6] := (s.only_memberShown j i).1

theorem State.memberJoin_fwd : (s.memberJoin j i).fwd = s.fwd := (s.only_memberShown j i).fwd

theorem State.memberJoin_cfg : (s.memberJoin j i).cfg = s.cfg := (congrArg State.cfg (s.only_memberShown j i).2 :)

theorem State.onward_memberShown : s.onward (s.memberShown j i) := ((State.onward.refl s).set _ _ (by simp)).event _ _

theorem State.onward_memberJoin : s.onward (s.memberJoin j i) := (s.onward_memberShown j i).congr rfl rfl

theorem State.raises_memberJoin : s.raises (s.memberJoin j i) (.port (8 * j) 6) 3 := by
  have h : s.raises (s.memberShown j i) (.port (8 * j) 6) 3 :=
    ((State.raisedIn_event (s.setMember j i true) (.port (8 * j) 6) 3 (by simp [Trip.mask, tripNames])).after (s.only_set _ _ _).1
      (by simp [Trip.stat, Trip.mask])).1
  exact h

theorem State.memberJoin_raised : ((s.memberJoin j i).rd (Trip.port (8 * j) 6).stat).getLsbD 3 = true := by
  rw [State.memberJoin_rd, State.memberShown]
  exact State.event_statBit (s.setMember j i true) (.port (8 * j) 6) (by decide)

/-- A status field beside MEMBERS. -/
theorem State.memberJoin_get {f : Fld} (hf : f.reg = .FAB_TRK_STAT) (hpos : (f.lo + f.w ≤ 4 ∨ 12 ≤ f.lo) ∧ f.lo + f.w ≤ 64) :
    (s.memberJoin j i).get f [j] = s.get f [j] := by
  have hevent : (s.memberShown j i).get f [j] = (s.setMember j i true).get f [j] :=
    (State.only_event _ _ _).get (by simp) (by simp [hf, Reg.apart, Trip.stat, Trip.int])
  exact hevent.trans (State.get_set_disj _ _ _ _ _ _ (.inr hpos))

variable {s j i} in
theorem State.memberJoin_mset (hi : i < 8) (hmem : (s.mset j).testBit i = false) : (s.memberJoin j i).mset j = s.mset j + 2 ^ i := by
  have hevent : (s.memberShown j i).mset j = (s.setMember j i true).mset j := 
    (State.only_event _ _ _).get (by simp) (by simp [Reg.apart, Trip.stat, Trip.int])
  have hlt : s.mset j ||| (1 <<< i) < 2 ^ 8 := by
    refine Nat.or_lt_two_pow (s.mset_lt j) ?_
    rw [Nat.one_shiftLeft]
    exact Nat.pow_lt_pow_right (by decide) hi
  refine hevent.trans (((State.get_set_same _ _ _ _ (by decide)).trans (Nat.mod_eq_of_lt hlt)).trans (or_bit_eq_add hmem))

end

/-! ### A trunk comes up -/

section
variable (s : State) (j i ver : Nat)

/-- The records and the status of a trunk that comes up, before its first member (R282). -/
def State.trunkReset (s : State) (j ver : Nat) : State :=
  ((((s.tkUp j (fun x => { nonces := x.nonces, hello := x.hello, peer := x.peer })).wr ⟨.FAB_TRK_SEQ, [j]⟩ 0).setB F.FAB_TRK_STAT_UP [j] true).set
    F.FAB_TRK_STAT_VER_MIN [j] ver).set F.FAB_TRK_STAT_MEMBERS [j] 0

/-- The status of a trunk that comes up. -/
theorem State.trunkReset_status {ver : Nat} (hver : ver < 8) : (s.trunkReset j ver).get F.FAB_TRK_STAT_UP [j] = 1 ∧
    (s.trunkReset j ver).get F.FAB_TRK_STAT_VER_MIN [j] = ver ∧
    (s.trunkReset j ver).get F.FAB_TRK_STAT_PEER_DEV [j] = s.get F.FAB_TRK_STAT_PEER_DEV [j] := by
  simp (disch := simp) only [State.trunkReset, State.setB, State.get_set_disj, State.get_set_same]
  refine ⟨rfl, Nat.mod_eq_of_lt hver, ?_⟩
  rw [State.get_eq, State.rd_wr_ne _ _ (by simp)]
  rfl

/-- A port's containment for its route ends. -/
def State.routeFreed (s : State) (p : Nat) : State := (s.pset F.PT_CONT_CONTAINED p 0).pset F.PT_CONT_C_ROUTE p 0

/-- From `s` to `u` trunk `j` has come up with member `i` on minor version `ver` (R282, R283). -/
structure State.cameUp (s u : State) (j i ver : Nat) : Prop extends s.onward u where
  up : u.get F.FAB_TRK_STAT_UP [j] = 1
  members : u.mset j = 2 ^ i
  version : u.get F.FAB_TRK_STAT_VER_MIN [j] = ver
  peer : u.get F.FAB_TRK_STAT_PEER_DEV [j] = s.get F.FAB_TRK_STAT_PEER_DEV [j]
  upRaised : (u.rd (Trip.port (8 * j) 6).stat).getLsbD 0 = true
  joinRaised : (u.rd (Trip.port (8 * j) 6).stat).getLsbD 3 = true
  free : u.pget F.PT_CONT_CONTAINED (8 * j) = 0
  cfg : u.cfg = s.cfg

theorem State.routeFreed_rd (p : Nat) {r : Reg} (hr : r.n ≠ .PT_CONT) : (s.routeFreed p).rd r = s.rd r :=
  (State.rd_set_ne _ F.PT_CONT_C_ROUTE _ _ (fun e => hr (congrArg Reg.n e))).trans
    (s.rd_set_ne F.PT_CONT_CONTAINED _ _ (fun e => hr (congrArg Reg.n e)))

/-- The events and the port of a trunk that comes up, before its port's scheduler runs. -/
def State.upShown (s : State) (j i ver : Nat) : State := (((s.trunkReset j ver).memberJoin j i).routeFreed (8 * j)).portEvent (8 * j) 6 0

theorem State.trunkUp_eq : s.trunkUp j i ver = (s.upShown j i ver).schedule (8 * j) := (rfl)

variable {i ver} in
theorem State.cameUp_upShown (hi : i < 8) (hver : ver < 8) : s.cameUp (s.upShown j i ver) j i ver := by
  have hreset : s.onward (s.trunkReset j ver) :=
    (((((State.onward.refl s).tkUp j _).wr 0 (by simp)).set _ _ (by simp)).set _ _ (by simp)).set _ _ (by simp)
  have hfreed : ((s.trunkReset j ver).memberJoin j i).onward (((s.trunkReset j ver).memberJoin j i).routeFreed (8 * j)) :=
    ((State.onward.refl _).pset _ _ _ (by simp)).pset _ _ _ (by simp)
  have hget (f : Fld) (hf : f.reg = .FAB_TRK_STAT) : (s.upShown j i ver).get f [j] = ((s.trunkReset j ver).memberJoin j i).get f [j] := by
    rw [State.upShown, State.portEvent, (State.only_event _ _ _).get (by simp) (by simp [hf, Reg.apart, Trip.stat, Trip.int]), State.get_eq,
      State.routeFreed_rd _ _ (by simp [hf]), State.get_eq]
  have hstat (f : Fld) (hf : f.reg = .FAB_TRK_STAT) (hpos : (f.lo + f.w ≤ 4 ∨ 12 ≤ f.lo) ∧ f.lo + f.w ≤ 64) :
      (s.upShown j i ver).get f [j] = (s.trunkReset j ver).get f [j] := (hget f hf).trans (State.memberJoin_get _ j i hf hpos)
  have hnone : (s.trunkReset j ver).mset j = 0 := State.get_set_same _ _ _ _ (by decide)
  obtain ⟨hup, hversion, hpeer⟩ := s.trunkReset_status j hver
  refine ⟨((hreset.trans (State.onward_memberJoin _ j i)).trans hfreed).event _ _, ?_, ?_, ?_, ?_, ?_, ?_, ?_, ?_⟩
  · rw [hstat _ rfl (by decide), hup]
  · rw [State.mset, hget _ rfl]
    exact (State.memberJoin_mset hi (by rw [hnone, Nat.zero_testBit])).trans (by rw [hnone, Nat.zero_add])
  · rw [hstat _ rfl (by decide), hversion]
  · rw [hstat _ rfl (by decide), hpeer]
  · exact State.event_statBit (((s.trunkReset j ver).memberJoin j i).routeFreed (8 * j)) (.port (8 * j) 6) (by decide)
  · exact (hfreed.event (.port (8 * j) 6) 0).raised _ _ (State.memberJoin_raised _ j i)
  · rw [State.upShown, State.portEvent, State.pget_event _ _ _ _ (by decide), State.routeFreed, State.pget_pset_disj _ _ _ (by decide)]
    exact State.pget_pset_same _ (by decide) (by decide)
  · rw [State.upShown, State.portEvent, State.event_cfg]
    exact State.memberJoin_cfg _ j i

/-- A trunk that comes up with its first member, and what it then sends (R282 step 4). -/
theorem State.cameUp_trunkUp {i ver : Nat} (hi : i < 8) (hver : ver < 8) : s.cameUp ((s.trunkUp j i ver).trunkPump j) j i ver := by
  have hshown := s.cameUp_upShown j hi hver
  have hsched := (State.flows.refl (s.upShown j i ver)).schedule (8 * j)
  have hpump := (State.trunkSends.refl ((s.upShown j i ver).schedule (8 * j))).trunkPump j
  rw [s.trunkUp_eq]
  have hget (f : Fld) (hf : f.reg = .FAB_TRK_STAT) : (((s.upShown j i ver).schedule (8 * j)).trunkPump j).get f [j] = (s.upShown j i ver).get f [j] := by
    rw [hpump.get (by rw [hf]; decide) (by rw [hf]; decide), State.get_eq]
    exact congrArg (fget · f.lo f.w) (hsched.word ⟨f.reg, [j]⟩ (by simp [hf, trunkWords]))
  have hon : (s.upShown j i ver).onward (((s.upShown j i ver).schedule (8 * j)).trunkPump j) := hsched.toonward.trans hpump.toonward
  refine ⟨hshown.toonward.trans hon, (hget _ rfl).trans hshown.up, (hget _ rfl).trans hshown.members, (hget _ rfl).trans hshown.version,
    (hget _ rfl).trans hshown.peer, hon.raised _ _ hshown.upRaised, hon.raised _ _ hshown.joinRaised, ?_, ?_⟩
  · rw [State.pget, hpump.get (by decide) (by decide)]
    exact (hsched.contained _).trans hshown.free
  · rw [hpump.cfg]
    exact (State.cfg_of_still (State.still_schedule _ _)).trans hshown.cfg

end

/-! ### Steps 3 to 5 of bring-up -/

section
variable {s : State} {j i : Nat} {h : Hello}

theorem State.agreed_lt (s : State) (j : Nat) (h : Hello) : s.agreed j h < 8 := by
  unfold State.agreed
  split <;> omega

theorem State.step3Done_lead (hoff : s.tkOn j = false) (hlead : s.ownNonce j < h.nonce) (hw : s.widthsDiffer j = false) :
    s.step3Done j i h = ((s.emit (.kfp (8 * j + i) (.join i 0))).trunkUp j i (s.agreed j h)).trunkPump j := by
  simp [State.step3Done, hoff, hlead, hw]

theorem State.joinAccept_first (hjoin : s.canJoin j i = true) (hmem : (s.mset j).testBit i = false) (hoff : s.tkOn j = false)
    (hknown : (s.tk j).hello.look i = some h) (hfollow : h.nonce ≤ s.ownNonce j) :
    s.joinAccept j i = (s.trunkUp j i (s.agreed j h)).trunkPump j := by
  simp [State.joinAccept, hknown, hjoin, hmem, hoff, Nat.not_lt.2 hfollow]

/-- A further member joins a trunk that has nothing queued (R282 step 5). -/
theorem State.joinAccept_more (hjoin : s.canJoin j i = true) (hmem : (s.mset j).testBit i = false) (hon : s.tkOn j = true)
    (hknown : (s.tk j).hello.look i = some h) (hq : s.fwd.trunkq.lookD j [] = []) : s.joinAccept j i = s.memberJoin j i := by
  have hpump : (s.memberJoin j i).trunkPump j = s.memberJoin j i := State.trunkPump_empty (by rw [s.memberJoin_fwd, hq])
  simp [State.joinAccept, hknown, hjoin, hmem, hon, hpump]

/-- The leading end lets a further member join, and answers it (R282 step 5). -/
theorem State.joinRequest_more (hjoin : s.canJoin j i = true) (hmem : (s.mset j).testBit i = false) (hon : s.tkOn j = true)
    (hknown : (s.tk j).hello.look i = some h) (hlead : s.ownNonce j < h.nonce) (hq : s.fwd.trunkq.lookD j [] = []) :
    s.joinRequest j i = (s.memberJoin j i).emit (.kfp (8 * j + i) (.join i 0)) := by
  have hpump (o : Out) : ((s.memberJoin j i).emit o).trunkPump j = (s.memberJoin j i).emit o :=
    State.trunkPump_empty (by rw [State.emit_fwd, s.memberJoin_fwd, hq])
  simp [State.joinRequest, hknown, hjoin, hmem, hon, hlead, hpump]

end

end Sys2Proof.Machine
end

section
/-!
PROOF. Bring-up of a trunk (O35; R280 to R284, R294, R309).
-/

namespace Sys2Proof.Machine

/-! ### Writes of a trunk's configuration -/

section
variable {s : State} {j : Nat}

theorem State.fcWrite_refused {v : W64} (h : ∃ c < 4, fget v (16 * c) 8 ≤ fget v (16 * c + 8) 8) :
    s.fcWrite j v = s.trunkFlagged j F.FAB_TRK_STAT_FC_REFUSED 9 := by
  obtain ⟨c, hc, hle⟩ := h
  refine if_pos (List.any_eq_true.2 ⟨c, List.mem_range.2 hc, ?_⟩)
  rw [decide_eq_true hle, Bool.true_or]

/-- Levels in order and within their regions are taken; a trunk that is down has no XOFF state to bring up to date (R294). -/
theorem State.fcWrite_taken {v : W64} (h : ∀ c < 4, fget v (16 * c + 8) 8 < fget v (16 * c) 8 ∧ fget v (16 * c) 8 ≤ rxUnits c)
    (hoff : s.tkOn j = false) : s.fcWrite j v = s.writeTyped ⟨.FAB_TRK_FC, [j]⟩ false v := by
  have hgood : ¬ (List.range 4).any (fun c => decide (fget v (16 * c) 8 ≤ fget v (16 * c + 8) 8) || decide (rxUnits c < fget v (16 * c) 8)) = true := by
    rw [List.any_eq_true]
    rintro ⟨c, hc, hbad⟩
    obtain ⟨hxon, hxoff⟩ := h c (List.mem_range.1 hc)
    simp only [Bool.or_eq_true, decide_eq_true_eq] at hbad
    omega
  have hoff' : (s.writeTyped ⟨.FAB_TRK_FC, [j]⟩ false v).tkOn j = false := by
    rw [State.tkOn, State.on_eq, (s.only_writeTyped ⟨.FAB_TRK_FC, [j]⟩ false v).get (by simp) (by simp), ← State.on_eq]
    exact hoff
  exact (if_neg hgood).trans (State.tkFc_down _ j hoff')

/-- XOFF and XON of each class read as they were written. -/
theorem State.fcLevels_written (s : State) (j : Nat) (v : W64) {c : Nat} (hc : c < 4) :
    fget ((s.writeTyped ⟨.FAB_TRK_FC, [j]⟩ false v).rd ⟨.FAB_TRK_FC, [j]⟩) (16 * c) 8 = fget v (16 * c) 8 ∧
      fget ((s.writeTyped ⟨.FAB_TRK_FC, [j]⟩ false v).rd ⟨.FAB_TRK_FC, [j]⟩) (16 * c + 8) 8 = fget v (16 * c + 8) 8 := by
  interval_cases c
  · exact ⟨s.get_writeTyped F.FAB_TRK_FC_XOFF_SC0 [j] (rst := 4) false v (by decide), s.get_writeTyped F.FAB_TRK_FC_XON_SC0 [j] (rst := 2) false v (by decide)⟩
  · exact ⟨s.get_writeTyped F.FAB_TRK_FC_XOFF_SC1 [j] (rst := 8) false v (by decide), s.get_writeTyped F.FAB_TRK_FC_XON_SC1 [j] (rst := 4) false v (by decide)⟩
  · exact ⟨s.get_writeTyped F.FAB_TRK_FC_XOFF_SC2 [j] (rst := 0x18) false v (by decide),
      s.get_writeTyped F.FAB_TRK_FC_XON_SC2 [j] (rst := 0xc) false v (by decide)⟩
  · exact ⟨s.get_writeTyped F.FAB_TRK_FC_XOFF_SC3 [j] (rst := 8) false v (by decide), s.get_writeTyped F.FAB_TRK_FC_XON_SC3 [j] (rst := 4) false v (by decide)⟩

theorem State.trkCfg_standalone {v : W64} (hrole : s.get F.FAB_DEV_ROLE [] = 0) (hen : v.getLsbD 0 = true) :
    s.trkCfg j v = (s.setB F.FAB_DEV_REFUSED [] true).event .fab 8 := if_pos ⟨hrole, hen⟩

/-- The write of a trunk's configuration, and PRESENT brought up to date (R282). -/
def State.trunkEnabled (s : State) (j : Nat) (v : W64) : State := (s.writeTyped ⟨.FAB_TRK_CFG, [j]⟩ false v).updPresent j

/-- A KFP port that may join says HELLO. -/
def State.helloAt (j : Nat) (s : State) (i : Nat) : State := if s.canJoin j i then s.sendHello j i else s

/-- EN = 1 on a device with a fabric role starts the HELLOs (R282, R309). -/
theorem State.trkCfg_enable {v : W64} (hrole : s.get F.FAB_DEV_ROLE [] ≠ 0) (hoff : s.on F.FAB_TRK_CFG_EN [j] = false) (hen : v.getLsbD 0 = true) :
    s.trkCfg j v = (s.kfpPorts j).foldl (State.helloAt j) (s.trunkEnabled j v) := by
  have hports : (s.writeTyped ⟨.FAB_TRK_CFG, [j]⟩ false v).kfpPorts j = s.kfpPorts j :=
    State.kfpPorts_pair (fun r hr => (s.only_writeTyped ⟨.FAB_TRK_CFG, [j]⟩ false v).rd
      (by rw [List.mem_singleton]; rintro rfl; exact absurd hr (by simp [pairNames])) ((show ∀ n ∈ pairNames, n ∉ tripNames by decide) _ hr)) j
  rw [State.trkCfg, if_neg (by simp [hrole])]
  dsimp only
  rw [if_pos ⟨hen, by simp [hoff]⟩, hports]
  rfl

theorem State.keeps_trunkEnabled (s : State) (j : Nat) (v : W64) :
    s.only (s.trunkEnabled j v) [⟨.FAB_TRK_CFG, [j]⟩, ⟨.FAB_TRK_STAT, [j]⟩] [] :=
  State.only_trans (s.only_writeTyped ⟨.FAB_TRK_CFG, [j]⟩ false v) (State.only_updPresent _ j)

theorem State.trunkEnabled_get (s : State) (j : Nat) (v : W64) {f : Fld} {rst : Nat} (hreg : f.reg = .FAB_TRK_CFG)
    (hf : FieldsApart f.reg.fields ∧ ⟨f.lo, f.w, .rw, rst⟩ ∈ f.reg.fields) : (s.trunkEnabled j v).get f [j] = fget v f.lo f.w := by
  have hwritten := s.get_writeTyped f [j] false v hf
  rw [hreg] at hwritten
  exact ((State.only_updPresent _ j).get (by simp [hreg]) (by simp)).trans hwritten

/-- A KFP port of the pair in L0 may join once the trunk is enabled (R282, R309). -/
theorem State.canJoin_enabled {v : W64} {i : Nat} (hrole : s.get F.FAB_DEV_ROLE [] ≠ 0) (hen : v.getLsbD 0 = true) (hi : i ∈ s.kfpPorts j)
    (hl0 : s.inL0 (8 * j + i) = true) : (s.trunkEnabled j v).canJoin j i = true := by
  have hframe := s.keeps_trunkEnabled j v
  have hpair (r : Reg) (hr : r.n ∈ pairNames) : (s.trunkEnabled j v).rd r = s.rd r :=
    hframe.rd (by rintro hm; simp only [List.mem_cons, List.not_mem_nil, or_false] at hm; rcases hm with rfl | rfl <;> exact absurd hr (by simp [pairNames]))
      ((show ∀ n ∈ pairNames, n ∉ tripNames by decide) _ hr)
  have hon : (s.trunkEnabled j v).on F.FAB_TRK_CFG_EN [j] = true := by
    rw [State.on_eq, s.trunkEnabled_get j v (rst := 0) rfl (by decide), fget_one, hen]
    rfl
  have hdev : (s.trunkEnabled j v).get F.FAB_DEV_ROLE [] = s.get F.FAB_DEV_ROLE [] := hframe.get (by simp) (by simp)
  have hl0' : (s.trunkEnabled j v).inL0 (8 * j + i) = true := by
    rw [State.inL0, hframe.pget (by simp) (by decide)]
    exact hl0
  obtain ⟨hwidth, hkfp⟩ : s.portWidth (8 * j + i) ≠ 0 ∧ s.role (8 * j + i) = 2 := by
    simpa [State.kfpPorts, below] using (List.mem_filter.1 hi).2
  simp [State.canJoin, hon, hdev, hrole, State.role_pair hpair, State.portWidth_pair hpair, hwidth, hkfp, hl0']

end

/-! ### HELLOs of every port -/

theorem State.sentGrows_answerWrite (s : State) (who : Init) (a : Acc) : s.sentGrows (s.answerWrite who a) := by
  unfold State.answerWrite
  split
  · exact s.sentGrows_refl
  · exact s.sentGrows_refl
  · exact ⟨_, rfl⟩

section
variable {s t : State} {j : Nat}

theorem State.trunkOnly_helloAt (s : State) (j i : Nat) : s.trunkOnly (s.helloAt j i) [] [] := by
  unfold State.helloAt
  split
  · exact ((State.trunkOnly.refl s _ _).emit _).touch _
  · exact .refl s _ _

theorem State.sentGrows_helloAt (s : State) (j i : Nat) : s.sentGrows (s.helloAt j i) := by
  unfold State.helloAt
  split
  · exact ⟨_, rfl⟩
  · exact s.sentGrows_refl

theorem State.trunkOnly_hellos (s : State) (j : Nat) (l : List Nat) : s.trunkOnly (l.foldl (State.helloAt j) s) [] [] :=
  List.foldlRecOn (motive := fun u => s.trunkOnly u [] []) l _ (.refl s _ _) (fun t ht i _ => ht.andThen (t.trunkOnly_helloAt j i) (by simp) (by simp))

theorem State.sentGrows_hellos (s : State) (j : Nat) (l : List Nat) : s.sentGrows (l.foldl (State.helloAt j) s) :=
  List.foldlRecOn (motive := s.sentGrows) l _ s.sentGrows_refl (fun t ht i _ => ht.trans (t.sentGrows_helloAt j i))

/-- Whether a member may join is read from registers. -/
theorem State.canJoin_congr (hword : ∀ r, t.rd r = s.rd r) (i : Nat) : t.canJoin j i = s.canJoin j i := by
  have hget (f : Fld) (ix : List Nat) : t.get f ix = s.get f ix := by rw [State.get_eq, hword, State.get_eq]
  simp only [State.canJoin, State.on_eq, hget, State.inL0, State.pget, State.role_pair (fun r _ => hword r), State.portWidth_pair (fun r _ => hword r)]

/-- Each port of the list that may join says HELLO. -/
theorem State.hello_sent {l : List Nat} {i : Nat} (hi : i ∈ l) (hjoin : s.canJoin j i = true) :
    ∃ h : Hello, .kfp (8 * j + i) (.hello h) ∈ (l.foldl (State.helloAt j) s).sent.drop s.sent.length := by
  obtain ⟨before, after, rfl⟩ := List.append_of_mem hi
  have hread : (before.foldl (State.helloAt j) s).canJoin j i = true :=
    (State.canJoin_congr (fun r => (s.trunkOnly_hellos j before).keeps r (by simp) (by simp)) i).trans hjoin
  have hsend : State.helloAt j (before.foldl (State.helloAt j) s) i = (before.foldl (State.helloAt j) s).sendHello j i := if_pos hread
  have hlater : ((before.foldl (State.helloAt j) s).sendHello j i).sentGrows (after.foldl (State.helloAt j) ((before.foldl (State.helloAt j) s).sendHello j i)) :=
    State.sentGrows_hellos _ j after
  rw [List.foldl_append, List.foldl_cons, hsend]
  rw [State.sendHello_eq] at hlater
  exact ⟨_, (s.sentGrows_hellos j before).mem (State.sentGrows.mem_of_emit hlater)⟩

end

/-! ### The leading end's answer -/

section
variable (s : State) (j i : Nat) (h : Hello)

/-- The partner's HELLO is noted and answered. -/
def State.helloAnswered (s : State) (j i : Nat) (h : Hello) : State := ((s.touch (8 * j + i)).helloNoted j i h).sendHello j i

theorem State.helloAnswered_rd {r : Reg} (hr : r.n ≠ .FAB_TRK_STAT) : (s.helloAnswered j i h).rd r = s.rd r :=
  s.rd_set_ne F.FAB_TRK_STAT_PEER_DEV [j] h.device (fun e => hr (congrArg Reg.n e))

theorem State.helloAnswered_tkOn : (s.helloAnswered j i h).tkOn j = s.tkOn j := by
  have hup : (s.helloAnswered j i h).get F.FAB_TRK_STAT_UP [j] = s.get F.FAB_TRK_STAT_UP [j] :=
    s.get_set_disj F.FAB_TRK_STAT_PEER_DEV _ _ _ h.device (.inr (by decide))
  rw [State.tkOn, State.on_eq, hup, ← State.on_eq]
  rfl

theorem State.helloNoted_ownNonce : (s.helloNoted j i h).ownNonce j = s.ownNonce j := by
  have htk : (s.helloNoted j i h).tk j = _ := s.tk_tkUp j (fun x => { x with hello := x.hello.put i h, peer := some (h.device, h.trunkPort) })
  rw [State.ownNonce, htk]
  rfl

theorem State.helloAnswered_ownNonce : (s.helloAnswered j i h).ownNonce j = s.ownNonce j := (s.touch (8 * j + i)).helloNoted_ownNonce j i h

theorem State.helloAnswered_widthsDiffer : (s.helloAnswered j i h).widthsDiffer j = s.widthsDiffer j :=
  State.widthsDiffer_pair (fun _ hr => s.helloAnswered_rd j i h (fun e => absurd (e ▸ hr) (by decide))) j

theorem State.helloAnswered_agreed : (s.helloAnswered j i h).agreed j h = s.agreed j h := by
  rw [State.agreed, State.on_eq, State.get_eq, s.helloAnswered_rd j i h (by simp), ← State.get_eq, ← State.on_eq]
  rfl

theorem State.helloAnswered_sent : (s.helloAnswered j i h).sent =
    s.sent ++ [.kfp (8 * j + i) (.hello (((s.touch (8 * j + i)).helloNoted j i h).helloOf j i (s.ownNonce j)))] := by
  have hnonce : ((s.touch (8 * j + i)).helloNoted j i h).ownNonce j = s.ownNonce j := (s.touch (8 * j + i)).helloNoted_ownNonce j i h
  rw [State.helloAnswered, State.sendHello_sent, hnonce]
  rfl

theorem State.helloAnswered_peer (hdev : h.device < 64) : (s.helloAnswered j i h).get F.FAB_TRK_STAT_PEER_DEV [j] = h.device :=
  (s.get_set_same F.FAB_TRK_STAT_PEER_DEV [j] h.device (by decide)).trans (Nat.mod_eq_of_lt hdev)

variable {s j i h} in
/-- The first HELLO of a fresh trunk at its leading end: HELLO and JOIN ACCEPT, and the trunk comes up (R282). -/
theorem State.helloIn_leads (hi : i < 8) (hjoin : s.canJoin j i = true) (hmem : (s.mset j).testBit i = false)
    (hver : h.verMaj = 1) (hw : s.widthsDiffer j = false) (hnonce : s.ownNonce j < h.nonce) (hoff : s.tkOn j = false) (hfresh : s.tk j = {}) :
    ((s.helloAnswered j i h).emit (.kfp (8 * j + i) (.join i 0))).cameUp (s.helloIn j i h) j i (s.agreed j h) := by
  have hlead : (s.helloAnswered j i h).ownNonce j < h.nonce := by rwa [s.helloAnswered_ownNonce]
  rw [State.helloIn_first hjoin hmem hver hw hnonce hoff hfresh]
  rw [← State.helloAnswered, State.step3Done_lead ((s.helloAnswered_tkOn j i h).trans hoff) hlead ((s.helloAnswered_widthsDiffer j i h).trans hw),
    s.helloAnswered_agreed]
  exact State.cameUp_trunkUp _ j hi (s.agreed_lt j h)

end

/-! ### The statement -/

/-- Settles O35: what keeps a member out; the leading and the following end coming up; further members; HELLOs again; and the trunk's registers. -/
theorem trunkBringUp : Obligations.trunk_bring_up := by
  unfold Obligations.trunk_bring_up
  have hport (port : Fin 144) : 8 * (port.val / 8) + port.val % 8 = port.val := Nat.div_add_mod _ _
  have hmod (port : Fin 144) : port.val % 8 < 8 := Nat.mod_lt _ (by decide)
  refine ⟨?version, ?width, ?equal, ?peer, ?leads, ?follows, ?accept, ?request, ?again, ?askAgain, ?fcRefused, ?fcTaken, ?standalone, ?enable⟩
  case version =>
    intro s port h hs hjoin hmem hver
    refine State.runs_live (f := (·.helloIn (port.val / 8) (port.val % 8) h)) rfl hs ?_
    rw [State.helloIn_version hjoin hmem hver]
    exact s.keptOut_shows _ 4 rfl (by decide) rfl _
  case width =>
    intro s port h hs hjoin hmem hver hw
    refine State.runs_live (f := (·.helloIn (port.val / 8) (port.val % 8) h)) rfl hs ?_
    rw [State.helloIn_width hjoin hmem hver hw]
    exact s.keptOut_shows _ 6 rfl (by decide) rfl _
  case equal =>
    intro s port h hs hjoin hmem hver hw hnonce
    refine State.runs_live (f := (·.helloIn (port.val / 8) (port.val % 8) h)) rfl hs ?_
    have htk := (s.touch (8 * (port.val / 8) + port.val % 8)).tk_tkUp (port.val / 8) (fun x => { x with nonces := x.nonces + 1, hello := [] })
    rw [State.helloIn_equal hjoin hmem hver hw hnonce]
    refine ⟨(congrArg TrunkSt.nonces htk :), ?_, rfl, rfl⟩
    rw [State.sendHello_sent, State.ownNonce, htk]
    refine (List.drop_left (l₁ := s.sent)).trans ?_
    simp only [hport]
    rw [State.helloOf, hport]
    rfl
  case peer =>
    intro s port h d n hs hjoin hon hmem hver hw hnonce hpeer hother
    refine State.runs_live (f := (·.helloIn (port.val / 8) (port.val % 8) h)) rfl hs ?_
    rw [State.helloIn_peer hjoin hmem hver hw hnonce hon hpeer hother]
    exact s.keptOut_shows _ 5 rfl (by decide) rfl _
  case leads =>
    intro s port h hs hjoin hoff hmem hver hdev hw hnonce hfresh hq
    refine State.runs_live (f := (·.helloIn (port.val / 8) (port.val % 8) h)) rfl hs ?_
    have hup := State.helloIn_leads (hmod port) hjoin hmem hver hw hnonce hoff hfresh
    have hsaid := s.helloAnswered_sent (port.val / 8) (port.val % 8) h
    have hgrows : s.sentGrows (s.helloAnswered (port.val / 8) (port.val % 8) h) := ⟨_, hsaid⟩
    obtain ⟨l, hl⟩ := hup.sent
    have hdrop : ((s.helloIn (port.val / 8) (port.val % 8) h).sent.drop s.sent.length) =
        [.kfp port.val (.hello (((s.touch (8 * (port.val / 8) + port.val % 8)).helloNoted (port.val / 8) (port.val % 8) h).helloOf (port.val / 8) (port.val % 8)
          (s.ownNonce (port.val / 8)))), .kfp port.val (.join (port.val % 8) 0)] ++ l := by
      rw [hl, State.emit_sent, hsaid, hport, List.append_assoc, List.append_assoc, List.drop_left]
      rfl
    rw [hdrop]
    refine ⟨by simp, ?_, hup.up, hup.members, hup.version, hup.peer.trans (s.helloAnswered_peer _ _ h hdev), hup.upRaised, hup.joinRaised, hup.free, hup.cfg⟩
    exact List.any_eq_true.2 ⟨_, List.mem_append_left _ List.mem_cons_self, by simp [State.helloOf]⟩
  case follows =>
    intro s port h hs hjoin hoff hmem hknown hfollow hq
    refine State.runs_live (f := (·.joinAccept (port.val / 8) (port.val % 8))) rfl hs ?_
    have hup := s.cameUp_trunkUp (port.val / 8) (hmod port) (s.agreed_lt (port.val / 8) h)
    rw [State.joinAccept_first hjoin hmem hoff hknown hfollow]
    exact ⟨hup.up, hup.members, hup.upRaised, hup.joinRaised, hup.cfg⟩
  case accept =>
    intro s port h hs hjoin hon hmem hknown hq
    refine State.runs_live (f := (·.joinAccept (port.val / 8) (port.val % 8))) rfl hs ?_
    rw [State.joinAccept_more hjoin hmem hon hknown hq]
    exact ⟨State.memberJoin_mset (hmod port) hmem, s.raises_memberJoin _ _, s.memberJoin_fwd _ _, s.memberJoin_cfg _ _, s.keeps_memberJoin _ _⟩
  case request =>
    intro s port h hs hjoin hon hmem hknown hlead hq
    refine State.runs_live (f := (·.joinRequest (port.val / 8) (port.val % 8))) rfl hs ?_
    rw [State.joinRequest_more hjoin hmem hon hknown hlead hq, hport]
    have hmembers := State.memberJoin_mset (hmod port) hmem
    have hgrows := (s.onward_memberJoin (port.val / 8) (port.val % 8)).sent
    have hraised := s.raises_memberJoin (port.val / 8) (port.val % 8)
    have hkeeps := s.keeps_memberJoin (port.val / 8) (port.val % 8)
    have hfwd := s.memberJoin_fwd (port.val / 8) (port.val % 8)
    have hcfg := s.memberJoin_cfg (port.val / 8) (port.val % 8)
    generalize s.memberJoin (port.val / 8) (port.val % 8) = t at *
    exact ⟨hgrows.mem (State.sentGrows.mem_of_emit (s := t) (State.sentGrows_refl _)), hmembers, hraised, hfwd, hcfg, hkeeps⟩
  case again =>
    intro s port hs hjoin hmem hdoze hasked
    refine State.runs_live (f := (·.repeatHello (port.val / 8) (port.val % 8))) rfl hs ?_
    rw [State.repeatHello_hello hjoin hmem (by rwa [hport]) hasked]
    refine ⟨?_, rfl⟩
    rw [State.sendHello_sent, State.helloOf, hport]
  case askAgain =>
    intro s port hs hjoin hmem hdoze hasked
    refine State.runs_live (f := (·.repeatHello (port.val / 8) (port.val % 8))) rfl hs ?_
    rw [State.repeatHello_request hjoin hmem (by rwa [hport]) hasked, hport]
    rfl
  case fcRefused =>
    intro s who j v hg hbad
    refine State.runs_live (f := fun s => s.writeReg who ⟨.FAB_TRK_FC, [j.val]⟩ 8 (·.fcWrite j.val v)) rfl hg.1 ?_
    rw [State.writeReg_granted hg, State.fcWrite_refused hbad]
    refine ⟨?_, ?_, (State.only_mono (State.only_trans (s.only_trunkFlagged j.val 9 rfl) (State.only_answerWrite _ who .ok)) (by simp) (by simp))⟩
    · rw [State.get_answerWrite]
      exact s.trunkFlagged_get j.val 9 rfl (by decide) rfl
    · rw [State.raises, State.rd_answerWrite, State.rd_answerWrite]
      exact s.raises_trunkFlagged j.val 9 rfl
  case fcTaken =>
    intro s who j v hg hgood hoff
    refine State.runs_live (f := fun s => s.writeReg who ⟨.FAB_TRK_FC, [j.val]⟩ 8 (·.fcWrite j.val v)) rfl hg.1 ?_
    rw [State.writeReg_granted hg, State.fcWrite_taken hgood hoff, State.rd_answerWrite]
    exact ⟨fun c hc => s.fcLevels_written j.val v hc,
      State.only_mono (State.only_trans (s.only_writeTyped _ false v) (State.only_answerWrite _ who .ok)) (by simp) (by simp)⟩
  case standalone =>
    intro s who j v hg hrole hen
    refine State.runs_live (f := fun s => s.writeReg who ⟨.FAB_TRK_CFG, [j.val]⟩ 4 (·.trkCfg j.val (v.zeroExtend 64))) rfl hg.1 ?_
    have hframe := State.only_trans (s.only_set F.FAB_DEV_REFUSED [] (bit true)) (State.only_event _ .fab 8)
    rw [State.writeReg_granted hg, State.trkCfg_standalone hrole ((zeroExtend_getLsbD (by decide)).trans hen)]
    refine ⟨?_, ?_, State.only_mono (State.only_trans hframe (State.only_answerWrite _ who .ok)) (by simp) (by simp)⟩
    · rw [State.get_answerWrite, (State.only_event _ _ _).get (by simp) (by decide), State.get_setB _ _ _ _ (by decide) (by decide), bit_true]
    · rw [State.raises, State.rd_answerWrite, State.rd_answerWrite]
      exact ((State.raisedIn_event (s.setB F.FAB_DEV_REFUSED [] true) .fab 8 (by decide)).after (s.only_set F.FAB_DEV_REFUSED [] (bit true)).1 (by decide)).1
  case enable =>
    intro s who j v i hg hrole hoff hen hi hl0
    refine State.runs_live (f := fun s => s.writeReg who ⟨.FAB_TRK_CFG, [j.val]⟩ 4 (·.trkCfg j.val (v.zeroExtend 64))) rfl hg.1 ?_
    have hen' : (v.zeroExtend 64).getLsbD 0 = true := (zeroExtend_getLsbD (by decide)).trans hen
    have henabled := s.keeps_trunkEnabled j.val (v.zeroExtend 64)
    have hhellos := (s.trunkEnabled j.val (v.zeroExtend 64)).trunkOnly_hellos j.val (s.kfpPorts j.val)
    have hanswer := State.only_answerWrite ((s.kfpPorts j.val).foldl (State.helloAt j.val) (s.trunkEnabled j.val (v.zeroExtend 64))) who .ok
    have hframe := ((State.trunkOnly.of_only henabled).trans hhellos).trans (.of_only hanswer)
    have hread {f : Fld} {rst : Nat} (hreg : f.reg = .FAB_TRK_CFG) (hf : FieldsApart f.reg.fields ∧ ⟨f.lo, f.w, .rw, rst⟩ ∈ f.reg.fields) :
        (((s.kfpPorts j.val).foldl (State.helloAt j.val) (s.trunkEnabled j.val (v.zeroExtend 64))).answerWrite who .ok).get f [j.val] =
          fget (v.zeroExtend 64) f.lo f.w := by
      rw [State.get_answerWrite, hhellos.get (by simp) (by rw [hreg]; decide), s.trunkEnabled_get j.val _ hreg hf]
    rw [State.writeReg_granted hg, State.trkCfg_enable hrole hoff hen']
    refine ⟨?_, hread (rst := 4) rfl (by decide), ?_, hframe.keeps.mono (by simp) (by simp), hframe.fwd, hframe.cfg⟩
    · rw [hread (rst := 0) rfl (by decide), fget_one, hen', bit_true]
    · have hgrows := (s.trunkEnabled j.val (v.zeroExtend 64)).sentGrows_hellos j.val (s.kfpPorts j.val)
      obtain ⟨h, hsent⟩ := State.hello_sent (s := s.trunkEnabled j.val (v.zeroExtend 64)) hi (State.canJoin_enabled hrole hen' hi hl0)
      exact List.any_eq_true.2 ⟨_, hgrows.mem_later (State.sentGrows_answerWrite _ who .ok) hsent, by simp⟩

end Sys2Proof.Machine
end
